-- ==== Sys2Proof/Word.lean ====
section
/-! DEFINITION. The word types of the DL1648 and their plainest arithmetic (R7: little-endian, bit 0 lowest). -/

namespace Sys2Proof

/-- One byte. -/
abbrev Byte := BitVec 8
/-- A 16-bit field. -/
abbrev Half := BitVec 16
/-- A 32-bit word. -/
abbrev Word := BitVec 32
/-- A 64-bit word. -/
abbrev DWord := BitVec 64

/-- A value with the low `w` bits of `n`. -/
abbrev bv (w n : Nat) : BitVec w := BitVec.ofNat w n

/-- Saturating increment with ceiling `m`. -/
def satInc (m n : Nat) : Nat := if n < m then n + 1 else m

end Sys2Proof
end

