-- ==== Sys2Proof/Config.lean ====
section
/-! DEFINITION. Names of event classes and outputs, and what the spec leaves open: opaque constants with no body, so that no proof sees a value. -/

namespace Sys2Proof

/-- Event classes by name (R412 and the chapters that record them). -/
inductive Ev where
  | acqGap
  | aiFlag
  | aoFlag
  | applyLate
  | applyMissed
  | axisDisableOverrun
  | axisHardStop
  | axisHome
  | axisLimit
  | axisOffset
  | blFault
  | bulkThrottle
  | busAlone
  | camFault
  | canBusOff
  | canBusOffHeld
  | canErrState
  | canLenShort
  | canTdcRange
  | chFlag
  | chOverload
  | chOvertemp
  | chShed
  | chStepdown
  | chopAdapt
  | chopFallback
  | clear
  | clearAuthFail
  | coilFault
  | configChange
  | csxLenShort
  | deckCommit
  | deckDiscard
  | deckEditDiff
  | dieTempHigh
  | dieTempLimit
  | ethQbvJump
  | evtLostRange
  | exchLost
  | exchTwinLate
  | exchange
  | forceBegin
  | forceEnd
  | fwFallback
  | gapReplay
  | groupCut
  | hostAction
  | hostLost
  | hostReturned
  | imageCrcFail
  | imageLoad
  | imageOlder
  | keepDiscarded
  | limitChatter
  | loopArith
  | loopLawFault
  | loopMissed
  | loopOverrun
  | loopProfileAbort
  | loopStopped
  | loopTuneAbort
  | modeChange
  | modeRefused
  | motionRefused
  | nativeTimeout
  | opDegraded
  | opDiscarded
  | opRefused
  | opState
  | opsLost
  | parkAll
  | pocketError
  | pocketFailing
  | proofDue
  | proofFail
  | recorderDegraded
  | refclkLost
  | restart
  | restartDegraded
  | retainDiscarded
  | retainRestore
  | ridgeGroup
  | ridgeLog
  | ridgeSafe
  | ridgeStop
  | ringFull
  | segDiscont
  | setsLost
  | stationState
  | stepLate
  | streamAbort
  | streamAbortAgain
  | strobeRequest
  | supplyHigh
  | supplyLost
  | supplyLow
  | supplyRestored
  | t0Drift
  | takeover
  | taskAborted
  | taskMigrate
  | taskMissed
  | taskOverrun
  | taskStopped
  | thatchCoarsen
  | thatchInit
  | thatchRestore
  | thatchTighten
  | timeJumpRefused
  | timeRate
  | timeRestep
  | timeState
  | timeStep
  | ttCountJump
  | ttMasterChange
  | twinDesync
  | twinLaneFault
  | twinPinMismatch
  | twinRefused
  | twinSplit
  | twinState
  | unpopWrite
  | windowLate
  deriving DecidableEq, Repr

/-- What the block sends to outside agents, by kind. -/
inductive Out where
  | canFrame
  | cutTest
  | ethFrame
  | msix
  | negativeAcknowledge
  | packet
  | permitFrame
  | safeCommand
  | seamForward
  | seamHeartbeat
  | seamSnapshot
  | spiMiso
  | trgPulse
  | udpFrame
  deriving DecidableEq, Repr

/-- The class numbers and severities the spec states (R412). -/
def Ev.known : Ev → Option (Nat × Nat)
  | .clear => some (0x001, 7)
  | .clearAuthFail => some (0x007, 6)
  | .configChange => some (0x040, 4)
  | .evtLostRange => some (0x003, 5)
  | .hostAction => some (0x041, 4)
  | .hostLost => some (0x042, 5)
  | .hostReturned => some (0x043, 2)
  | .recorderDegraded => some (0x002, 7)
  | .thatchCoarsen => some (0x004, 3)
  | .thatchRestore => some (0x005, 2)
  | .thatchTighten => some (0x006, 1)
  | _ => none

/-- The severities the spec states, with or without a number. -/
def Ev.knownSev : Ev → Option Nat
  | .axisDisableOverrun => some 5
  | .busAlone => some 3
  | .canBusOff => some 5
  | .canBusOffHeld => some 6
  | .clear => some 7
  | .clearAuthFail => some 6
  | .coilFault => some 6
  | .configChange => some 4
  | .dieTempHigh => some 3
  | .dieTempLimit => some 5
  | .evtLostRange => some 5
  | .exchLost => some 5
  | .fwFallback => some 6
  | .hostAction => some 4
  | .hostLost => some 5
  | .hostReturned => some 2
  | .imageCrcFail => some 6
  | .imageOlder => some 5
  | .parkAll => some 6
  | .pocketError => some 5
  | .pocketFailing => some 7
  | .proofDue => some 3
  | .proofFail => some 6
  | .recorderDegraded => some 7
  | .restartDegraded => some 6
  | .ridgeGroup => some 6
  | .ridgeLog => some 5
  | .ridgeSafe => some 7
  | .ridgeStop => some 7
  | .segDiscont => some 5
  | .takeover => some 6
  | .taskAborted => some 6
  | .thatchCoarsen => some 3
  | .thatchRestore => some 2
  | .thatchTighten => some 1
  | .timeJumpRefused => some 5
  | .timeRestep => some 4
  | .twinDesync => some 5
  | .twinLaneFault => some 5
  | .twinPinMismatch => some 5
  | .twinSplit => some 6
  | _ => none

namespace Config

/-- A fresh unstated value, picked by the counter `State.freeCtr` (DESIGN CHOICE, log 5). -/
opaque freeValue : Nat → BitVec 64

/-- The number of an event class whose number the spec does not state (DESIGN CHOICE, log 7). -/
opaque classNumber : Ev → BitVec 10

/-- The severity of an event class whose severity the spec does not state (DESIGN CHOICE, log 7). -/
opaque classSeverity : Ev → BitVec 3

/-- Whether a class coalesces where the spec does not say (DESIGN CHOICE, log 7). -/
opaque classCoalesces : Ev → Bool

/-- Which of the two neighbouring grid values a rounding the spec does not state takes: true the upper (DESIGN CHOICE, log 11). -/
opaque roundUp : Int → Nat → Bool

/-- The phases (duration in s, step of acceleration, jerk) of a plan that starts from a moving state, which R232 gives no formula for (DESIGN CHOICE, log 12). -/
opaque movingPlan : List Rat → List (Rat × Rat × Rat)

/-- The notch filter's coefficients b0, b1, b2, a1, a2 as mantissa and exponent, from A, B, C and Ts in ns: the spec gives them by sine and cosine (DESIGN CHOICE, log 13). -/
opaque notchCoef : Nat → Nat → Nat → Nat → Nat → Int × Int

/-- How many bytes the order n takes in an SS8 law image, at whose first byte it stands (DESIGN CHOICE, log 14). -/
opaque ss8Head : Nat

/-- The ultimate gain 4d / (pi * sqrt(a^2 - e^2)) as binary32 bits, from Q31 operands d, a, e: its rounding is not stated (DESIGN CHOICE, log 15). -/
opaque tuneKu : Int → Int → Int → BitVec 32

/-- Which of two NaN operands a float operation passes through: true the first (DESIGN CHOICE, log 16). -/
opaque nanFirst : Word → Word → Bool

/-- The temperature of a thermocouple by IEC 60584-1, whose function the spec does not carry: type, mV bits, cold-junction bits (DESIGN CHOICE, log 22). -/
opaque tcTemp : Nat → BitVec 32 → BitVec 32 → BitVec 32

/-- The temperature of an RTD by IEC 60751, whose coefficients the spec does not carry: mode, resistance bits (DESIGN CHOICE, log 22). -/
opaque rtdTemp : Nat → BitVec 32 → BitVec 32

/-- The lower and upper end in °C of a thermocouple type's function in IEC 60584-1, binary32 (DESIGN CHOICE, log 22). -/
opaque tcEnds : Nat → BitVec 32 × BitVec 32

/-- What a tile's own cold-junction sensor reads at a T0, binary32 °C (DESIGN CHOICE, log 22). -/
opaque tileTemp : Nat → Nat → BitVec 32

/-- Whether a kind number from 0x800 of a class is one of the factory kinds, which the manual does not name (DESIGN CHOICE, log 26). -/
opaque factoryKind : Nat → Bool

/-- A factory kind's value and description fields, which the manual does not give: class and kind, index (DESIGN CHOICE, log 26). -/
opaque factoryValue : Nat → Nat → BitVec 64

/-- The CRC of the Ridge's configuration copy, whose byte layout the spec does not give (DESIGN CHOICE, log 28). -/
opaque ridgeCrc : List (Nat × Nat) → BitVec 32

/-- Whether a payload field of a class is marked LAST, where the spec does not say (DESIGN CHOICE, log 7). -/
opaque classLast : Ev → Nat → Bool

/-- The payload bytes of a class whose layout the spec does not give (DESIGN CHOICE, log 7). -/
opaque classPayload : Ev → List (BitVec 64) → List (BitVec 8)

/-- The definition that EVT_CLASSES_GET returns for a class number, none for an undefined one; its layout is open (DESIGN CHOICE, log 7). -/
opaque classDef : Nat → Option (List (BitVec 8))

/-- How an aggregate's values fall into 32 histogram bins, which the aggregate does not say: minimum, maximum, sum, count, edges (DESIGN CHOICE, log 32). -/
opaque histSplit : BitVec 32 → BitVec 32 → BitVec 64 → Nat → BitVec 32 → BitVec 32 → List Nat

/-- The device serial (R524, R551), which each device has of its own. -/
opaque serial : BitVec 64

/-- The field of a NaN, which R445 gives no number for (DESIGN CHOICE, log 33). -/
opaque nanField : BitVec 32 → BitVec 32

/-- The slope, minus 1, of source time against T0 in units of 10^-12, whose fit the spec does not state (DESIGN CHOICE, log 34). -/
opaque slope : List (Nat × Int) → Int

/-- The bytes of a PTP message, whose format is IEEE 1588's and not the spec's: 0 Sync, 1 Announce or 2 Follow_Up, sequence, T1, rank of the data set, steps removed (DESIGN CHOICE, log 35). -/
opaque ptpBytes : Nat → Nat → Nat → Nat → Nat → List (BitVec 8)

/-- The CRC-32C of an output set, whose bytes the spec does not lay out: point, value, quality of each output (DESIGN CHOICE, log 38). -/
opaque setCrc : List (Nat × Nat × Nat) → BitVec 32
/-- The size of the flash in bytes, which the spec does not state (DESIGN CHOICE, log 39). -/
opaque flashBytes : Nat

/-- The device's grade, 0 DL1648-C or 1 DL1648-I (R524): per device. -/
opaque grade : Bool

/-- The MAC address of an Ethernet port (R524): per device. -/
opaque macAddr : Nat → BitVec 48

/-- The bytes of a factory kind's description, by class and kind and byte offset, which the manual does not give (DESIGN CHOICE, log 26). -/
opaque factoryDesc : Nat → Nat → BitVec 8

--CONFIG_MORE
end Config

end Sys2Proof
end

