-- ==== Sys2Proof/Machine/Parts.lean ====
section
/-! DEFINITION. The parts of the state: every piece of state the spec names, as plain data.
Collections are `Tbl`s: lists of (index, value) in rising index order, an unlisted index reading as its reset record. -/

namespace Sys2Proof.Machine

/-- A sparse table: rising keys, an unlisted key reads as the reset value its reader names. -/
abbrev Tbl (α : Type) := List (Nat × α)
/-- Byte memory in canonical form: rising addresses, no entry equal to what an unlisted address reads as. -/
abbrev Mem := List Host.Cell

/-! ### Operating modes (R68) -/

/-- The twelve operating modes, M0 to M11. -/
inductive Mode where
  | keep | boot | config | idle | run | hold | resume | maint | test | standby | safe | update
  deriving DecidableEq, Repr

/-! ### Events and Ridge reports on their way -/

/-- An event on its way to the recorder (R410): class, source, object, the payload's values, and whether a tile's replay brought it (R419). -/
structure Event where
  cls : Ev
  src : Word := 0
  object : Word := 0
  payload : List DWord := []
  replay : Bool := false
  deriving DecidableEq, Repr

/-- A fault report on its way to the Ridge (R497): code, source island, unit and address. -/
structure FaultRep where
  code : Nat
  isl : Nat := 0x7F
  unit : Nat := 0
  addr : Nat := 0
  deriving DecidableEq, Repr

/-- What the block sends to agents outside it, oldest first (the model's own record of its outputs, DESIGN CHOICE, log 6). -/
structure OutMsg where
  kind : Out
  dst : Nat := 0
  arg : List Int := []
  bytes : List Byte := []
  deriving DecidableEq, Repr

/-! ### Islands, links, T0 (chapter 1) -/

/-- T0 source and the Ridge cross-check (R23, R26, R27). -/
structure ClockSt where
  refclk : Bool := true
  refGoodNs : Nat := 0
  crossBad : Nat := 0
  deriving DecidableEq, Repr

/-- One island's copy of T0, its heartbeat and its counters (R22, R24, R25, R30, R41). -/
structure IslandSt where
  copySet : Bool := false
  offset : Int := 0
  ratePpm : Int := 0
  good : Nat := 0
  aligned : Bool := false
  bad200 : Nat := 0
  late : Nat := 0
  lastHb : Nat := 0
  inService : Bool := true
  restarting : Option Nat := none
  deriving DecidableEq, Repr

/-- A Lining packet (R16): the header's fields and the payload bytes. -/
structure Packet where
  dest : Byte := 0
  src : Byte := 0
  cls : Nat := 0
  ty : Nat := 0
  seq : Byte := 0
  arg : BitVec 26 := 0
  payload : List Byte := []
  deriving DecidableEq, Repr

/-- One direction of one link in one class: sequence numbers, credits, unacknowledged packets (R17-R20, R41). -/
structure LinkSt where
  txSeq : Byte := 0
  rxSeq : Byte := 0
  credits : Nat := 0
  unacked : List Packet := []
  retx : Nat := 0
  retrans : Nat := 0
  waitUs : Nat := 0
  held : Nat := 0
  accepted : Option Packet := none
  deriving DecidableEq, Repr

/-- A strobe event in a pending-event table (R28, R31): stated T0 and, for an apply strobe, its output set. -/
structure Strobe where
  due : Nat
  set : Option Nat := none
  deriving DecidableEq, Repr

/-- One output of a set: point, value, quality. -/
structure OutVal where
  point : Nat
  value : Word
  qual : Nat := 0
  deriving DecidableEq, Repr

/-- An output set as a tile or port holds it (R31). -/
structure OutSet where
  id : Nat
  at_ : Nat := 0
  exact : Bool := false
  need : Nat := 1
  got : Nat := 0
  outs : List OutVal := []
  late : Bool := false
  deriving DecidableEq, Repr

/-- A tile (0-3) or Ethernet port (4-6) as a receiver of strobes, sets and heartbeats (R22, R28-R31). -/
structure NodeSt where
  powered : Bool := true
  configured : Bool := true
  linked : Bool := true
  silent : Bool := false
  silentSince : Nat := 0
  lastHb : Nat := 0
  strobes : List Strobe := []
  sets : List OutSet := []
  superseded : Nat := 0
  applyLate : Nat := 0
  applyMissed : Nat := 0
  lateData : Bool := false
  lastSample : Nat := 0
  gap : List (Nat × Nat × Word × BitVec 16) := []
  gapFull : Bool := false
  gapLost : Tbl (Word × Word × Nat × Word × BitVec 16) := []
  gapFullAt : Nat := 0
  gapEv : List Event := []
  replaying : Bool := false
  tails : List Nat := []
  deriving DecidableEq, Repr

/-- Errors the scrubs have met (R36, R37). -/
structure MemErrSt where
  dramSingle : Nat := 0
  dramDouble : List Nat := []
  dramPos : Nat := 0
  commonsSingle : Nat := 0
  commonsDouble : List Nat := []
  commonsPos : Nat := 0
  deriving DecidableEq, Repr

/-! ### The process image (chapter 2) -/

/-- A point: its image entry (R45) and the conditions that hold on it, bit q for quality code q (R50). -/
structure Point where
  ty : Nat := 0
  value : Word := 0
  ucnt : Byte := 0
  ivl : Half := 0
  conds : BitVec 16 := 0x200
  source : Word := 0
  srcConds : BitVec 16 := 0x200
  deriving DecidableEq, Repr

/-- An update that waits for its effective T0 (R51). -/
structure Upd where
  due : Nat
  point : Nat
  value : Word
  conds : BitVec 16 := 0
  deriving DecidableEq, Repr

/-- A point's field in a frame (R445, R458). FORMAT: bit 0 big-endian, 1 signed, 2 scaled, 3 binary32. -/
structure FieldMap where
  byte : Nat := 0
  bit : Nat := 0
  bits : Nat := 32
  format : Nat := 0
  scale : Word := 0x3F800000
  offset : Word := 0
  deriving DecidableEq, Repr

/-- One block of a station descriptor (R57) with its frame mapping (R445, R458). Substitute: 0 HOLD_LAST, 1 FIXED, 2 ZERO. `slot` is the mapping's INDEX, `txMode` 0 CYCLIC, 1 CHANGE, 2 TT; `fid` FRAME_ID; MAC, TAG, QUEUE and APPLY_LEAD are an Ethernet block's. -/
structure Block where
  input : Bool := true
  first : Nat := 0
  count : Nat := 0
  subst : Nat := 0
  fixed : List Word := []
  slot : Nat := 0
  txMode : Nat := 0
  fid : Nat := 0
  len : Nat := 0
  fill : Nat := 0
  fields : List FieldMap := []
  mac : Nat := 0
  tag : Nat := 0
  queue : Nat := 0
  lead : Nat := 0
  deriving DecidableEq, Repr

/-- Station states (R58). -/
inductive StnState where
  | online | silent | lost | returning
  deriving DecidableEq, Repr

/-- A station: descriptor (R57) and state (R58). -/
structure Station where
  present : Bool := false
  blocks : List Block := []
  expectNs : Nat := 0
  silentNs : Nat := 0
  lostNs : Nat := 0
  st : StnState := .lost
  lastBlock : Nat := 0
  seen : List Nat := []
  outFrom : Nat := 0
  deriving DecidableEq, Repr

/-- A force or simulation in force (R62, R63). -/
structure Force where
  sim : Bool
  point : Nat
  value : Word
  derivedSrc : Nat := 0
  deriving DecidableEq, Repr

/-- A begin or an end that waits for its force instant F (R579). -/
structure ForcePend where
  due : Nat
  starts : Bool
  f : Force
  deriving DecidableEq, Repr

/-- DERIVED operators (R65). -/
inductive DerOp where
  | sum | diff | prod | div | min | max | mean | scale (a b : Word) | abs | and | or | countTrue | selectGood
  deriving DecidableEq, Repr

/-- A DERIVED point's definition (R65). -/
structure Derived where
  op : DerOp
  args : List Nat
  periodUs : Nat
  phaseUs : Nat := 0
  deriving DecidableEq, Repr

/-- The image unit: points, pending updates, forces, stations, definitions, counters of R44. -/
structure ImageSt where
  points : Tbl Point := []
  pend : List Upd := []
  writers : Tbl Nat := []
  forces : List Force := []
  forcePend : List ForcePend := []
  stations : Tbl Station := []
  derived : Tbl Derived := []
  cmd : Tbl Word := []
  field : Tbl (Word × BitVec 16) := []
  arrived : List (Nat × Nat × Word × BitVec 16) := []
  withheld : Nat := 0
  populated : Nat := 0
  deriving DecidableEq, Repr

/-! ### Modes, Deck, parameters, images (chapters 3, 23) -/

/-- A requested transition between acceptance and its entry instant (R72, R74); `mb`, `tag` name the request to answer at entry, if any. -/
structure ModePend where
  dest : Mode
  due : Nat
  trigger : Nat := 0
  reply : Option (Nat × Nat) := none
  deriving DecidableEq, Repr

/-- The current mode, its entry instant and what waits for the next entry (R68-R77). -/
structure ModeSt where
  cur : Mode := .boot
  since : Nat := 0
  pend : Option ModePend := none
  origin : Mode := .idle
  shingleGen : Nat := 0
  deriving DecidableEq, Repr

/-- A SET that is accepted and not yet in effect (R91). -/
structure SetPend where
  due : Nat
  key : Nat
  value : DWord
  remove : Bool := false
  deriving DecidableEq, Repr

/-- Parameter values by scope and ID (key scope * 2^32 + ID): the working Deck and Shingles, the values in force, and SETs that wait (R90-R93). -/
structure ParamSt where
  working : Tbl DWord := []
  force : Tbl DWord := []
  live : List SetPend := []
  onMode : List SetPend := []
  onRestart : List SetPend := []
  saved : Tbl DWord := []
  unsaved : Nat := 0
  keepList : List Nat := []
  bootList : List Nat := []
  deriving DecidableEq, Repr

/-- An image in a slot: header fields and bytes (R78, R81). -/
structure ImageRec where
  gen : Nat := 0
  deckGen : Nat := 0
  bytes : List Byte := []
  deriving DecidableEq, Repr

/-- A validation or write that runs in the background for a mailbox command (R86, R88, R89, R82, R551). -/
structure BgJob where
  kind : Nat := 0
  slot : Nat := 0
  flags : Nat := 0
  mb : Nat := 0
  tag : Nat := 0
  deriving DecidableEq, Repr

/-- A Deck in a flash slot with its valid mark (R82, R88): order of writing, Deck and image bytes (key kind * 65536 + slot), edit count, the parameter values it holds. -/
structure FlashDeck where
  order : Nat := 0
  deck : List Byte := []
  imgs : Tbl (List Byte) := []
  edit : Nat := 0
  vals : Tbl DWord := []
  deriving DecidableEq, Repr

/-- The Deck in use (`slot` the flash slot it came from or went to), marked flash slots, staged and loaded images, background jobs (R81-R89). Image key: kind * 65536 + slot. `crcBad` a failed re-check of staged images (R519). -/
structure DeckSt where
  inUse : Bool := false
  gen : Nat := 0
  edit : Nat := 0
  slot : Nat := 0
  stagedOk : Bool := false
  staged : Tbl (List Byte) := []
  flash : Tbl FlashDeck := []
  loaded : Tbl ImageRec := []
  kept : Tbl ImageRec := []
  validating : Option BgJob := none
  committing : Option BgJob := none
  saving : Option BgJob := none
  loading : Option BgJob := none
  crcBad : Bool := false
  deriving DecidableEq, Repr

/-- Firmware banks (R550-R553): the running bank, the valid marks and versions, the probation of a swapped bank. -/
structure FwSt where
  bank : Nat := 0
  valid : Tbl Nat := [(0, 0x00040002)]
  gen : Tbl Nat := []
  writing : Option BgJob := none
  swapAt : Option Nat := none
  swapped : Bool := false
  badBoots : Nat := 0
  deriving DecidableEq, Repr
/-! ### Cycle engine registers and program images (chapters 5, 6) -/

/-- The registers and the status word of a cycle engine in bit-logic mode (R113, R114). Nesting entries: the bit and its code, 0 NONE, 1 AND, 2 OR, 3 XOR; the top comes first. -/
structure BlRegs where
  la : Bool := false
  wa : Word := 0
  wb : Word := 0
  nest : List (Bool × Nat) := []
  calls : List Nat := []
  pc : Nat := 0
  ov : Bool := false
  dz : Bool := false
  fe : Bool := false
  ix : Bool := false
  qd : Bool := false
  fs : Bool := false
  deriving DecidableEq, Repr

/-- The registers of native mode: the integer registers, the machine CSRs and the device CSRs (R144-R148). -/
structure NatRegs where
  x : List Word := List.replicate 32 0
  pc : Word := 0
  mtvec : Word := 0
  mepc : Word := 0
  mcause : Word := 0
  mtval : Word := 0
  nowHi : Word := 0
  ptid : BitVec 25 := 0
  pq : BitVec 4 := 0
  strbt : DWord := 0
  go : Bool := false
  refused : Bool := false
  kind : Bool := false
  tiles : BitVec 4 := 0
  deriving DecidableEq, Repr

/-- A retained item of a program (R136). Types: 0 word, 1 bits, 2 timer, 3 counter, 4 edge detector. -/
structure RetItem where
  id : Nat
  ty : Nat
  addr : Nat
  deriving DecidableEq, Repr

/-- A retained item's kept content: the record's TYPE and STATE bytes (0 for variables) and one value (R136). -/
structure RetVal where
  id : Nat
  ty : Nat
  rty : Byte := 0
  st : Byte := 0
  val : Word := 0
  deriving DecidableEq, Repr

/-- A program's copy of its retained items: generation, apply instant, items (R136, R137). -/
structure RetCopy where
  gen : Nat := 0
  at_ : Nat := 0
  items : List RetVal := []
  deriving DecidableEq, Repr

/-- What a program or native image holds: code words, sizes, initial data, instance records, tasks with entry and budget, points it writes and MEM points it names, retained items, the exchange map (old byte, new byte, length) (R128, R136, R149, R158); for a native image its role, engine mask and stack tops (R140). -/
structure ProgImg where
  gen : Nat := 0
  words : Nat := 32768
  kib : Nat := 0
  base : Nat := 0
  len : Nat := 0
  data : List (Nat × Byte) := []
  insts : List Nat := []
  tasks : List (Nat × Nat × Nat) := []
  writes : List Nat := []
  mems : List Nat := []
  retain : List RetItem := []
  map : List (Nat × Nat × Nat) := []
  vars : Nat := 0
  role : Nat := 0
  mask : BitVec 16 := 0
  sps : List (Nat × Nat) := []
  deriving DecidableEq, Repr, Inhabited

/-- An exchange in progress (R149-R153): `swapped` is the quiet point once the swap is made, `ended` the end of the swap or the refusal. -/
structure ExchSt where
  slot : Nat
  mb : Nat
  tag : Nat
  revert : Bool := false
  img : ProgImg := {}
  bytes : List Byte := []
  newGen : Nat := 0
  entry : Nat := 0
  swapped : Option Nat := none
  ended : Option Nat := none
  deriving DecidableEq, Repr

/-- The report of an exchange (R159). -/
structure ExchRep where
  slot : Nat
  status : Nat := 0
  oldGen : Nat := 0
  newGen : Nat := 0
  quiet : Nat := 0
  waitUs : Nat := 0
  tq : Nat := 0
  matched : Nat := 0
  retyped : Nat := 0
  new : Nat := 0
  carried : Nat := 0
  inits : Nat := 0
  retMatched : Nat := 0
  retDiscarded : Nat := 0
  flags : Nat := 0
  removed : List Nat := []
  deriving DecidableEq, Repr


/-! ### Scheduler (chapter 4) -/

/-- A release: task, release instant, first instruction, flags, and the outputs written so far. -/
structure Release where
  task : Nat
  due : Nat
  began : Option Nat := none
  copied : Bool := false
  overrun : Bool := false
  windowLate : Bool := false
  execNs : Nat := 0
  resumedAt : Nat := 0
  outs : List OutVal := []
  setId : Option Nat := none
  strobed : Bool := false
  deriving DecidableEq, Repr

/-- A task: descriptor fields without a parameter (R94) and the facets of R111. Kind: 0 CYCLIC, 1 EVENT, 2 STREAM. -/
structure TaskSt where
  present : Bool := false
  kind : Nat := 0
  prog : Nat := 0
  entry : Nat := 0
  window : Nat := 0
  status : Nat := 0
  releases : Nat := 0
  execLast : Nat := 0
  execMax : Nat := 0
  waitLast : Nat := 0
  waitMax : Nat := 0
  respLast : Nat := 0
  skipped : Nat := 0
  missed : Nat := 0
  overruns : Nat := 0
  preempts : Nat := 0
  merged : Nat := 0
  aborted : Nat := 0
  skipRun : Nat := 0
  lastRel : Option Nat := none
  scan : Bool := true
  faultRun : Nat := 0
  stopped : Bool := false
  heldTrig : Bool := false
  deriving DecidableEq, Repr

/-- A cycle engine as the scheduler sees it: ready queue, prefetch slots, running and preempted releases, snapshots (R54, R99-R102). -/
structure EngineSt where
  queue : List Release := []
  running : Option Release := none
  preempted : Option Release := none
  half : Nat := 0
  snap : Tbl (List DWord) := []
  waiting : Bool := false
  bl : BlRegs := {}
  blSaved : BlRegs := {}
  nat : NatRegs := {}
  natSaved : NatRegs := {}
  role : Nat := 0
  roleSince : Nat := 0
  roleProg : Nat := 0
  natQueue : List (Nat × Nat) := []
  mem : Mem := []
  lastFault : Nat × Nat := (0, 0)
  busy : Nat := 0
  movedIn : Nat := 0
  movedOut : Nat := 0
  depthMax : Nat := 0
  deriving DecidableEq, Repr

/-- A program move that waits for its gap (R110). -/
structure MovePend where
  prog : Nat
  dst : Nat
  decided : Nat
  deriving DecidableEq, Repr

/-- The scheduler island: tasks, engines, home engines, window lists, triggers and messages on their way. -/
structure SchedSt where
  tasks : Tbl TaskSt := []
  engines : Tbl EngineSt := []
  home : Tbl Nat := []
  progKib : Tbl Nat := []
  windows : Tbl (List (Nat × Nat)) := []
  trigs : List (Nat × Nat) := []
  strobesOut : List (Nat × Strobe) := []
  setsOut : List (Nat × OutSet) := []
  nextSet : Nat := 0
  move : Option MovePend := none
  lastMove : Option Nat := none
  strobesSent : Nat := 0
  strobesMark : Nat := 0
  relsWin : Nat := 0
  pendMax : Nat := 0
  progs : Tbl ProgImg := []
  natives : Tbl ProgImg := []
  staging : Tbl RetCopy := []
  lastRetain : Nat := 0
  exch : Option ExchSt := none
  reports : Tbl ExchRep := []
  deriving DecidableEq, Repr

/-! ### Loops (chapter 7) and the planner (R231-R233) -/

/-- A planned trajectory: start T0, start position, velocity, acceleration, phases of (duration in s, step of acceleration at its start, jerk), target. -/
structure Plan where
  start : Nat
  p : Rat
  v : Rat
  a : Rat
  phases : List (Rat × Rat × Rat)
  target : Rat
  deriving DecidableEq, Repr

/-- A filter slot's history: x and u one and two releases back (R178, R179). -/
structure FiltSt where
  x1 : Int := 0
  x2 : Int := 0
  u1 : Int := 0
  u2 : Int := 0
  deriving DecidableEq, Repr

/-- A relay auto-tune in progress (R190-R192); Q31 signals. -/
structure TuneSt where
  phase : Nat := 1
  accepted : Nat := 0
  mb : Nat := 0
  tag : Nat := 0
  r0 : Int := 0
  u0 : Int := 0
  high : Bool := true
  hist : List (Nat × Int) := []
  lastE : Int := 0
  crossings : List Nat := []
  peaks : List Int := []
  curMax : Int := -2147483648
  curMin : Int := 2147483647
  deriving DecidableEq, Repr

/-- A tune's result (R193), binary32 values. -/
structure TuneRes where
  ku : Word
  tu : Word
  amp : Word
  rule : Nat
  kp : Word
  ti : Word
  td : Word
  deriving DecidableEq, Repr

/-- An input as a release reads it: value and quality. -/
structure LoopIn where
  v : Word := 0
  q : Nat := 9
  deriving DecidableEq, Repr

/-- The bridge law at the tile (R194-R196), binary32; `next` is the seed of a set not yet applied, `un` an output computed and not yet applied. -/
structure BridgeSt where
  seedSp : Word := 0
  seedU : Word := 0
  seedPv : Word := 0
  seedI : Word := 0
  running : Bool := false
  expired : Bool := false
  startAt : Nat := 0
  u : Word := 0
  i : Word := 0
  next : Option (Word × Word × Word × Word) := none
  un : Option Word := none
  deriving DecidableEq, Repr

/-- A loop (R162-R197). State and flags as in facet 4 (R174); Q31 states. -/
structure LoopSt where
  present : Bool := false
  rel : Option Nat := none
  nextRel : Option Nat := none
  runsAt : Nat := 0
  begun : Bool := false
  overrun : Bool := false
  inputLate : Bool := false
  pv : LoopIn := {}
  sp : LoopIn := {}
  ff : LoopIn := {}
  tr : LoopIn := {}
  held : List (Option Nat) := [none, none, none, none]
  expired : List Bool := [false, false, false, false]
  st : Nat := 0
  flags : Nat := 0
  sticky : Nat := 0
  seen : Nat := 0
  integ : Int := 0
  dterm : Int := 0
  wPrev : Int := 0
  xPrev : Int := 0
  lawPrev : Int := 0
  u : Int := 0
  bias : Int := 0
  f1 : FiltSt := {}
  f2 : FiltSt := {}
  ss : List Int := []
  spEff : Word := 0
  target : Word := 0
  plan : Option Plan := none
  lim : List Word := []
  fTerm : Int := 0
  zPrev : Option Word := none
  tune : Option TuneSt := none
  result : Option TuneRes := none
  bridge : BridgeSt := {}
  ssFlags : Nat := 0
  lawFaults : Nat := 0
  blocks : Nat × Nat × Nat := (4096, 4096, 4096)
  reseed : Bool := false
  tuneOff : Nat := 0
  deriving DecidableEq, Repr

/-- One bank of a loop engine: registers (R198, R199), and what the pipeline still shows of before the last instruction (R206): accumulators and flags as late readers see them, loads in flight, the last MOVP write of an address register, the window base as accesses see it. -/
structure LeBank where
  d : List Word := List.replicate 16 0
  w : List Word := List.replicate 64 0
  a : List Int := [0, 0]
  p : List Nat := List.replicate 8 0
  m : List Word := List.replicate 8 0
  wb : Nat := 0
  sv : Bool := false
  av : Bool := false
  as : Bool := false
  lt : Bool := false
  eq : Bool := false
  aOld : List Int := [0, 0]
  ltOld : Bool := false
  eqOld : Bool := false
  wbOld : Nat := 0
  loads : List (Nat × Word) := []
  movp : Option (Nat × Nat × Word) := none
  deriving DecidableEq, Repr

/-- An active REP: iterations left, first and last body address, rotation (R217, R218). -/
structure RepSt where
  left : Nat
  first : Nat
  last : Nat
  rot : Bool
  deriving DecidableEq, Repr

/-- What a law may run and touch: code range, budget, and the running loop's blocks (R201, R221, R224). -/
structure LawCtx where
  lo : Nat := 0
  words : Nat := 0
  cycles : Nat := 0
  xb : Nat := 0
  xn : Nat := 0
  yb : Nat := 0
  yn : Nat := 0
  cb : Nat := 0
  cn : Nat := 0
  deriving DecidableEq, Repr

/-- A loop engine: the running loop, the output of the last custom law, and the core's registers and memories (R198-R200). `slot` says that the next instruction stands in a delay slot, with the target of a taken transfer. -/
structure LoopEng where
  running : Option Nat := none
  lawOut : Int := 0
  inLaw : Bool := false
  ctx : LawCtx := {}
  pc : Nat := 0
  main : LeBank := {}
  shadow : LeBank := {}
  shd : Bool := false
  link : List Nat := []
  rep : Option RepSt := none
  slot : Option (Option Nat) := none
  cycles : Nat := 0
  x : Mem := []
  y : Mem := []
  c : Mem := []
  laws : Tbl (List Byte) := []
  deriving DecidableEq, Repr
/-! ### Motion and coil current (chapters 9, 10) -/

/-- A trajectory segment (R235): start T0, P0 in 2^-16 microstep, V0, A0, J as binary32. -/
structure Seg where
  start : Nat
  p0 : Int
  v0 : Word
  a0 : Word
  j : Word
  seq : Nat
  eom : Bool := false
  rest : Bool := false
  deriving DecidableEq, Repr

/-- A batch of segments with its stop tail (R235); the axis is the device's axis number. -/
structure Batch where
  axis : Nat
  resync : Bool := false
  segs : List Seg := []
  stopA : Word := 0
  stopJ : Word := 0
  hard : Bool := false
  after : Nat := 0
  deriving DecidableEq, Repr

/-- A stop that the tile runs (R236): where and when it began, its sign, its phases, what follows rest. -/
structure StopRun where
  start : Nat
  p : Rat
  v : Rat
  a : Rat
  sg : Rat
  phases : List (Rat × Rat × Rat)
  hard : Bool
  after : Nat
  deriving DecidableEq, Repr

/-- A limit or home input of an axis (R243-R246): levels, latch, departure, transitions. -/
structure LimSt where
  active : Bool := false
  latched : Bool := false
  away : Bool := false
  since : Nat := 0
  trans : List Nat := []
  chatter : Bool := false
  deriving DecidableEq, Repr

/-- One coil phase of a chopper (R255-R263). State: 0 off, 1 drive, 2 fast decay, 3 slow decay, 4 dead time before `next`. Target in codes of I_FS/1,024, sensed in µA; `flt` a detected coil fault, 1 short, 2 open; `sum` and `cnt` of the samples of this tick. -/
structure PhaseSt where
  st : Nat := 0
  neg : Bool := false
  next : Nat := 0
  since : Nat := 0
  blank : Bool := false
  target : Int := 0
  sensed : Int := 0
  overN : Nat := 0
  openN : Nat := 0
  lowN : Nat := 0
  reachN : Nat := 0
  theta : Rat := 0
  quarters : Nat := 0
  offAt : Nat := 0
  flt : Nat := 0
  sum : Int := 0
  cnt : Nat := 0
  low : Bool := false
  deriving DecidableEq, Repr

/-- An axis at its tile (R235-R254, R258-R268). Driver: 0 OFF, 1 ENERGISING, 2 RUN, 3 HOLD, 4 DE_ENERGISING, 5 FAULT; fault bits in the places of AX facet 3. -/
structure AxSt where
  buf : List Seg := []
  cur : Option Seg := none
  lastSeq : Nat := 0
  endT : Nat := 0
  stopA : Word := 0
  stopJ : Word := 0
  stopHard : Bool := false
  after : Nat := 0
  stop : Option StopRun := none
  locked : Bool := true
  atRest : Bool := true
  underrun : Bool := false
  pos : Int := 0
  phi : Nat := 0
  vel : Rat := 0
  referenced : Bool := false
  offset : Int := 0
  refGen : Nat := 0
  neg : LimSt := {}
  plus : LimSt := {}
  home : LimSt := {}
  homing : Nat := 0
  rawE : Int := 0
  leaveE : Int := 0
  indexE : Option Int := none
  indexSeen : Nat := 0
  drv : Nat := 0
  cur_ : Rat := 0
  ramp : Option (Rat × Rat × Nat × Nat) := none
  restAt : Nat := 0
  chop : Nat := 1
  fbVel : Rat := 0
  slowSince : Option Nat := none
  pa : PhaseSt := {}
  pb : PhaseSt := {}
  flags : Nat := 0
  lowSince : Option Nat := none
  keepRestored : Bool := false
  fromKeep : Bool := false
  homeSt : Nat := 0
  deriving DecidableEq, Repr

/-- A homing in progress (R248-R250). Phase: 0 search, 1 stop after it, 2 back-off, 3 index search, 4 last stop, 5 park move, 6 stall back-off. -/
structure HomeSt where
  method : Nat
  phase : Nat := 0
  started : Nat
  from_ : Rat := 0
  seen : Bool := false
  e : Int := 0
  deriving DecidableEq, Repr

/-- A maintenance request from the mailbox (R230, R554): REQ code, target or velocity, the end of a jog. -/
structure MaintReq where
  req : Nat
  target : Int := 0
  vel : Word := 0
  stopk : Nat := 0
  mb : Nat := 0
  tag : Nat := 0
  opcode : Nat := 0
  until_ : Nat := 0
  deriving DecidableEq, Repr

/-- A motion profile (R226-R242). State as PF facet 3; `pos`, `vel`, `acc` are the planned figures at the last tick's segment start. -/
structure PfSt where
  st : Nat := 0
  pos : Rat := 0
  vel : Rat := 0
  acc : Rat := 0
  plan : Option Plan := none
  moveNo : Nat := 0
  reached : Bool := false
  softLimit : Bool := false
  camLimit : Bool := false
  resync : Bool := false
  refused : Bool := false
  masterBad : Bool := false
  handle : Nat := 0
  master : Rat := 0
  sample : Rat := 0
  sampleOld : Rat := 0
  cam : List Byte := []
  m0 : Rat := 0
  s0 : Rat := 0
  cycles : Int := 0
  home : Option HomeSt := none
  seq : Nat := 0
  maint : Option MaintReq := none
  running : Option MaintReq := none
  enabled : Bool := false
  disableAt : Option Nat := none
  remoteAt : Nat := 0
  target : Rat := 0
  stopReq : Option Nat := none
  resume : Option Nat := none
  enableLow : Bool := false
  deriving DecidableEq, Repr

/-- The motion engines, the tiles' axes, the batches on their way (tile, batch; one without segments orders a stop at once), the last tick of each engine, and the interlock points of R70 by target (class * 4096 + instance). -/
structure MotionSt where
  pf : Tbl PfSt := []
  ax : Tbl AxSt := []
  out : List (Nat × Batch) := []
  ticked : Tbl Nat := []
  locks : Tbl (List Nat) := []
  deriving DecidableEq, Repr

/-! ### Channels, analog channels, encoders (chapters 11, 12) -/

/-- A 24 V channel (R269-R294). `flags` holds the bits of facet 4 that are the channel's own (R282). Latch: 0 free, 1 latched, 2 waits for RETRY_PERIOD, 3 thermal shutdown. `safe` the state a SAFE command holds (R500), `twinOff` a paralleled channel that this twin does not drive (R479, R482), `swAt` the last switching, `crossAt`, `crossUp` the pin's last crossing. -/
structure ChSt where
  raw : Bool := false
  rawSince : Nat := 0
  filt : Bool := false
  edges : Word := 0
  cmd : Bool := false
  cmdSince : Nat := 0
  zeroSince : Option Nat := some 0
  applied : Bool := false
  pendDef : Bool := false
  settled : Bool := false
  on : Bool := false
  onAt : Nat := 0
  latch : Nat := 0
  latchAt : Nat := 0
  thermals : List Nat := []
  flags : Nat := 0
  cutWait : Bool := false
  swAt : Nat := 0
  crossAt : Nat := 0
  crossUp : Bool := false
  partner : Option Nat := none
  safe : Option Bool := none
  twinOff : Bool := false
  conds : BitVec 16 := 0
  test : Option (Bool × Nat × Nat × Nat) := none
  deriving DecidableEq, Repr

/-- A channel group's supply and cut switch (R284-R286, R293, R294); key 64 + t is tile t's shedding. Voltages in mV. -/
structure GrpSt where
  mv : Nat := 0
  sum : Nat := 0
  cnt : Nat := 0
  lowSince : Option Nat := none
  highSince : Option Nat := none
  okSince : Option Nat := none
  hiOkSince : Option Nat := none
  low : Bool := false
  high : Bool := false
  lost : Bool := false
  minMv : Nat := 0
  maxMv : Nat := 0
  restoreAt : Option Nat := none
  ackWait : Bool := false
  permitAt : Option Nat := none
  cut : Bool := false
  elemA : Bool := true
  elemB : Bool := true
  test : Option (Nat × Nat) := none
  shedding : Bool := false
  shedAt : Nat := 0
  deriving DecidableEq, Repr

/-- An analog input (R295-R301): conversions of the averaging window, the facets' values, flags and since when each flag's condition holds or is absent. -/
structure AiSt where
  conv : List (Nat × Word) := []
  x : Word := 0
  counts : Int := 0
  value : Word := 0
  flags : Nat := 0
  bad : Tbl Nat := []
  ok : Tbl Nat := []
  passes : Nat := 0
  shuntAt : Nat := 0
  fails : Nat := 0
  okTests : Option Nat := none
  deriving DecidableEq, Repr

/-- An analog output (R302-R304). -/
structure AoSt where
  cmd : Word := 0
  applied : Bool := false
  pendDef : Bool := false
  hzWait : Bool := true
  hzQ : Nat := 3
  held : Bool := false
  safe : Option (Option Word) := none
  flags : Nat := 0
  conds : BitVec 16 := 0
  devSince : Option Nat := none
  okTests : Option Nat := none
  deriving DecidableEq, Repr

/-- An encoder (R305-R308): lines, count, index latch, edges of the velocity window (instant, step). -/
structure EncSt where
  a : Bool := false
  b : Bool := false
  z : Bool := false
  count : Word := 0
  latch : Word := 0
  armed : Bool := false
  lastIndex : Option Word := none
  edges : List (Nat × Int) := []
  flags : Nat := 0
  faultAt : Nat := 0
  lineBad : Bool := false
  deriving DecidableEq, Repr

/-- The field side of the tiles. -/
structure FieldSt where
  ch : Tbl ChSt := []
  grp : Tbl GrpSt := []
  ai : Tbl AiSt := []
  ao : Tbl AoSt := []
  enc : Tbl EncSt := []
  deriving DecidableEq, Repr

/-! ### Operations and streams (chapter 13) -/

/-- An operation slot (R325-R333). State: 0 FREE, 1 ACTIVE, 2 PARKED, 3 RESUMING, 4 ENDED. `keep` is the KEEP_TIME of a restored record; `data` holds the kind's own payload values: STEP stream, flags, step; MOVE profile, REQ, MOVE_NO, STOPK, target, start position; HOME profile, method, phase, e; CAM profile, table, m0, S0, cycles; VSEQ next entry, block; HANDSHAKE phase, phase start, block. -/
structure OpSt where
  gen : Nat := 0
  st : Nat := 0
  status : Nat := 0
  kind : Nat := 0
  owner : Nat := 0
  rule : Nat := 0
  eff : Nat := 0
  cls : Nat := 0
  off : Nat := 0
  start : Nat := 0
  lastCkpt : Nat := 0
  ckpts : Nat := 0
  seq : Nat := 0
  parent : Nat := 0
  detail : Nat := 0
  elapsed : Nat := 0
  e0 : Nat := 0
  keep : Nat := 0
  data : List Nat := []
  deriving DecidableEq, Repr

/-- The operation tracker (R326, R328-R330): slots, GEN_HIGH, the free slots from the longest free, and the counters. -/
structure TrackSt where
  slots : Tbl OpSt := []
  genHigh : Nat := 0
  free : List Nat := List.range 256
  refusals : Nat := 0
  late : Nat := 0
  deriving DecidableEq, Repr

/-- A recipe stream (R321-R324). State as R321; pause reason 1 COMMAND, 2 HOLD, 3 ADMISSION. `recipe` is the image it was started with; `enter` the step its next release enters; `boundary` the entry it paused before. -/
structure StreamSt where
  st : Nat := 0
  slot : Nat := 0
  gen : Nat := 0
  recipe : List Byte := []
  step : Nat := 0
  handle : Nat := 0
  stepStart : Nat := 0
  e0 : Nat := 0
  counters : List Nat := [0, 0, 0, 0, 0, 0, 0, 0]
  reason : Nat := 0
  entered : Nat := 0
  aborts : Nat := 0
  lates : Nat := 0
  lastRel : Nat := 0
  enter : Option Nat := none
  enterFrom : Nat := 0
  reenter : Option Nat := none
  boundary : Option Nat := none
  inAbort : Bool := false
  drain : Option Nat := none
  abortReq : Option Nat := none
  held : List OutVal := []
  holds : Tbl Nat := []
  subFailed : Bool := false
  deriving DecidableEq, Repr

/-! ### The Pocket and its journal (chapters 13, 14) -/

/-- A journal transaction: whether it is a step boundary's, its entries (target offset, bytes), the operation slots it commits with the instants of their states (R334-R336). -/
structure JTxn where
  boundary : Bool := false
  entries : List (Nat × List Byte)
  ops : List (Nat × Nat) := []
  deriving DecidableEq, Repr

/-- The Pocket: its 16,384 bytes, the journal's queue and running transaction, the transaction number, the keep tick count at T0 = 0 (R334-R337, R366). -/
structure PocketSt where
  mem : Mem := []
  queue : List JTxn := []
  active : Option JTxn := none
  txseq : Nat := 0
  txns : Nat := 0
  tick0 : Nat := 0
  deriving DecidableEq, Repr

/-- Restarts and the keep domain (R343-R369). Stage: 0 running, 1 a warm restart triggered, 2 booting, 3 RESUME, 4 flushed and waiting for power. The fields of the restart-cause record (R344); `warm` the keep ticks of the last warm restarts, newest first; `tr` Tr; `lowAt` the fall of PWRFAIL_N; `vbatLost` VBAT_LOST, also in a latch; `hotLog` past hot restarts (island, T0); what the boot reports: lost SETs, lost operations, an exchange that a Deck from flash has lost, the lost SEQ range with its count; `dramLost` for the rules of R340; streams whose record failed; Pocket errors met (word, keep tick); `atLeast` the least rule that applies (R352, R478, R485). -/
structure RestartSt where
  stage : Nat := 2
  kind : Nat := 3
  cause : Nat := 0x31
  origin : Nat := 0
  flushed : Bool := false
  degraded : Bool := false
  parkAll : Bool := false
  vbatLow : Bool := false
  isl : Nat := 0xFF
  t0Trigger : Nat := 0
  keepTime : Nat := 0
  flushUs : Nat := 0
  count : Nat := 0
  coldCount : Nat := 0
  prevCause : Nat := 0
  prevKind : Nat := 0
  warm : List Nat := []
  tr : Option Nat := none
  lowAt : Option Nat := none
  vbatLost : Bool := false
  hotLog : List (Nat × Nat) := []
  lostSets : Nat := 0
  lostOps : Nat := 0
  exchLost : Bool := false
  lostRange : Option (Nat × Nat × Nat) := none
  dramLost : Bool := false
  badStreams : List Nat := []
  pocketErrs : List (Nat × Nat) := []
  atLeast : Nat := 0
  started : Bool := false
  recovered : Bool := false
  deriving DecidableEq, Repr

/-! ### Acquisition and trigger lines (chapter 15) -/

/-- An item of a capture: a frame (start, bytes), an entry of a source (tag, value, quality), or a gap of `n` samples or frames (R377, R382, R383). -/
inductive AcqItem where
  | frame (t : Nat) (bytes : List Byte)
  | entry (t src : Nat) (val : Word) (qual : Nat)
  | gap (t n : Nat)
  deriving DecidableEq, Repr

/-- An open record (R378, R381): trigger instant, start of the trigger frame, T_FIRST, flags, the items captured, the sources' values at T_FIRST. -/
structure AcqOpen where
  t : Nat
  tf : Nat
  first : Nat
  flags : BitVec 16 := 0
  kind : Nat := 0
  src : Nat := 0
  items : List AcqItem := []
  base : List (Word × Nat) := []
  gaps : Nat := 0
  lost : Nat := 0
  missed : Nat := 0
  missedT0 : Nat := 0
  t1 : Nat := 0
  era : Half := 0
  restarts : Nat := 0
  deriving DecidableEq, Repr

/-- A completed record in a unit's ring. -/
structure AcqRec where
  recno : Nat
  bytes : List Byte
  deriving DecidableEq, Repr

/-- A capture unit (R370-R387, R393). State: 0 DISABLED, 1 STOPPED, 2 ARMED, 3 POST, 4 REARM. `cfg` the LIVE parameters read at the arm: MODE, TRIG_KIND, TRIG_SRC, LEVEL, LEVEL2, HYST, QUALIFIER, HOLDOFF, AUTO_TIMEOUT, TRIG_OUT, DEADBAND, DISABLE_DEADLINE, RING_POLICY. `grp` the group that fills: start, minimum and maximum per source. -/
structure AcqUnit where
  st : Nat := 0
  cfg : List Nat := []
  armedAt : Nat := 0
  filling : Bool := false
  fillFrom : Nat := 0
  preRestart : Bool := false
  pool : List AcqItem := []
  base : List (Word × Nat) := []
  grp : Option (Nat × List (Word × Word)) := none
  vals : List (Word × Nat) := []
  lastT : Nat := 0
  gapN : Option Nat := none
  gapT : Nat := 0
  cur : Option AcqOpen := none
  recs : List AcqRec := []
  recno : Nat := 0
  done : Nat := 0
  missed : Nat := 0
  missNow : Nat := 0
  missT0 : Nat := 0
  gaps : Nat := 0
  lost : Nat := 0
  lastFlags : BitVec 16 := 0
  undriven : Nat := 0
  switchEnd : Nat := 0
  holdEnd : Nat := 0
  disableAt : Option Nat := none
  /-- The state it goes to then: 1 STOPPED by ACQ_STOP, 0 DISABLED. -/
  stopTo : Nat := 0
  ringFull : Bool := false
  prev : Option (Word × Nat) := none
  ready : Bool := false
  deriving DecidableEq, Repr

/-- A trigger line (R388-R391): origins of pulses to drive, when this device last drove it, echoes due, the last rising edge, merged edges, a calibration (mailbox, tag, instant of its pulse once driven). -/
structure TrgLine where
  pulses : List Nat := []
  driven : List Nat := []
  echoes : List Nat := []
  lastRise : Option Nat := none
  merged : Nat := 0
  calib : Option (Nat × Nat × Option Nat) := none
  deriving DecidableEq, Repr


/-! ### Event recorder and Thatch (chapter 16) -/

/-- An event record (R410) with the instant of its creation and whether it is open or committed. -/
structure EvRec where
  seq : Word
  era : Half
  cls : Ev
  sev : Nat
  flags : Byte := 0
  rep : Nat := 0
  src : Word := 0
  object : Word := 0
  payload : List DWord := []
  born : Nat := 0
  isOpen : Bool := true
  committed : Bool := false
  deriving DecidableEq, Repr

/-- A time anchor (R418). Reason: 1 COUNT, 2 CORRECTION, 3 WRAP, 4 IDLE, 5 RESTART. -/
structure Anchor where
  era : Half
  wraps : Nat
  seq : Word
  t0 : Nat
  t1 : Nat
  reason : Nat
  t1State : Nat := 0
  deriving DecidableEq, Repr

/-- The event recorder (R410-R423). The journal is its sectors, oldest first; `challenge` the challenge and its instant, `clearing` the mailbox and tag of a clear in progress. -/
structure RecSt where
  era : Half := 0
  wraps : Nat := 0
  next : Word := 0
  committedSeq : Word := 0xFFFFFFFF
  ring : List EvRec := []
  journal : List (List EvRec) := []
  anchors : List Anchor := []
  anchorDue : Option Nat := some 5
  lostTop : Nat := 0
  lostLow : Nat := 0
  rejected : Nat := 0
  copied : Nat := 0
  degraded : Bool := false
  flashFailed : Bool := false
  secret : Option (List Byte) := none
  challenge : Option (List Byte × Nat) := none
  authFails : List Nat := []
  lockedUntil : Nat := 0
  clearing : Option (Nat × Nat) := none
  deriving DecidableEq, Repr

/-- An open or closed interval state (R395); MIN and MAX in the point's encoding, SUM as binary64 bits; `last` the latest value, `start` the first 10 µs index, `hist` the histogram's bins where one is kept. -/
structure IntvSt where
  min : Word := 0
  max : Word := 0
  sum : DWord := 0
  count : Nat := 0
  qmask : BitVec 16 := 0
  cls : Nat := 0
  flags : Byte := 0
  last : Word := 0
  start : Nat := 0
  hist : List Nat := []
  deriving DecidableEq, Repr

/-- A plan entry (R397). -/
structure PlanEnt where
  first : Nat := 0
  count : Nat := 0
  cls : Nat := 0
  finest : Nat := 0
  layers : Nat := 0
  prio : Nat := 0
  l0Depth : Nat := 16
  l1Depth : Nat := 0
  streams : BitVec 16 := 0
  histLo : Word := 0
  histHi : Word := 0
  active : Word := 0
  coarse : Nat := 0
  /-- The class in effect before the instant `effAt` of the last step (R405, R406). -/
  was : Nat := 0
  effAt : Nat := 0
  deriving DecidableEq, Repr

/-- A stored L2 or L3 record (R399). -/
structure LogRec where
  kind : Nat
  stream : Nat
  point : Nat
  key : Nat
  entry : Nat := 0
  iStart : Nat
  iEnd : Nat
  state : IntvSt
  deriving DecidableEq, Repr

/-- A tightened point: the point, its finer class, its last activity, its open finer state (R404). -/
structure Tight where
  point : Nat
  cls : Nat
  lastAct : Nat
  st : IntvSt := {}
  deriving DecidableEq, Repr

/-- A span without data (R407). Kind: 0 recorder restart, 1 tile silence. -/
structure Outage where
  start : Nat
  stop : Option Nat
  kind : Nat
  tile : Nat := 0
  summary : Nat := 0
  deriving DecidableEq, Repr

/-- An update on its way to Thatch: one value, or a tile's aggregate (R394). -/
structure ThUpd where
  point : Nat
  t : Nat
  val : Word := 0
  qual : Nat := 0
  agg : Option IntvSt := none
  replay : Bool := false
  deriving DecidableEq, Repr

/-- An open L2 or L3 state of a point (R399): its span's key, entry, start and, once known, end. -/
structure LogOpen where
  kind : Nat
  stream : Nat
  point : Nat
  key : Nat
  entry : Nat
  iStart : Nat
  iEnd : Option Nat := none
  st : IntvSt
  deriving DecidableEq, Repr

/-- Thatch: plan, open states, rings, tightenings, coarsening (`stack` the plan entries coarsened, `stepDue` when the last step takes effect), outages, updates on their way, the demand of the last 1,000 windows and the last window's end in ms (R394-R409). Ring key: point * 2^32 + slot. -/
structure ThatchSt where
  plan : List PlanEnt := []
  l0 : Tbl IntvSt := []
  l1 : Tbl IntvSt := []
  l0Ring : Tbl IntvSt := []
  l1Ring : Tbl IntvSt := []
  tightRing : List (Nat × IntvSt) := []
  log : List LogRec := []
  tight : List Tight := []
  stack : List Nat := []
  stepDue : Option Nat := none
  lastRestore : Nat := 0
  outages : List Outage := []
  demand : Nat := 0
  tileAgg : Tbl IntvSt := []
  queue : List ThUpd := []
  logOpen : List LogOpen := []
  win : List Nat := []
  windowAt : Nat := 0
  deriving DecidableEq, Repr
/-! ### CAN channels (chapter 17) -/

/-- A frame in a transmit slot (R432): FRAME_ID, data, entry instant, station, whether a time window sends it, attempts, and the status it ends with once its attempt is over. -/
structure CanFrame where
  id : Nat
  data : List Byte
  since : Nat
  stn : Option Nat := none
  tt : Bool := false
  attempts : Nat := 0
  ending : Option Nat := none
  deriving DecidableEq, Repr

/-- A transmit slot (R432-R436, R446): pending frame, data that superseded it during an attempt, last end status, counters, the last frame sent and entered, the writer's last two apply strobes, the last repeated entry. -/
structure CanSlot where
  pend : Option CanFrame := none
  next : Option (List Byte) := none
  lastEnd : Nat := 0
  superseded : Nat := 0
  sent : Nat := 0
  lastSent : Option (List Byte) := none
  entered : Option (Nat × List Byte) := none
  applyPrev : Nat := 0
  applyAt : Nat := 0
  repAt : Nat := 0
  deriving DecidableEq, Repr

/-- A CAN channel (R424-R451). `offs` the bus-off entries of the last 60 s, `held` bus-off until CAN_RECOVER, `busy` the frames of the last second (end, duration in µs). TTCAN state as R446: `ref` the T0 of the last reference's start of frame, `mark` the last Master_Ref_Mark extended to 64 bits. -/
structure CanSt where
  on : Bool := false
  tec : Nat := 0
  rec_ : Nat := 0
  busOff : Bool := false
  recovering : Bool := false
  held : Bool := false
  offs : List Nat := []
  alone : Bool := false
  aloneRun : Nat := 0
  txdTimeout : Bool := false
  pexUntil : Option Nat := none
  overrun : Bool := false
  term : Bool := false
  slots : Tbl CanSlot := []
  onBus : Option Nat := none
  rx : Nat := 0
  tx : Nat := 0
  errs : Nat := 0
  pexs : Nat := 0
  offCount : Nat := 0
  unmatched : Nat := 0
  short : Nat := 0
  busy : List (Nat × Nat) := []
  tt : Nat := 1
  cycle : Nat := 0
  ref : Option Nat := none
  run : Nat := 0
  mark : Option Nat := none
  prio : Nat := 0
  missedRefs : Nat := 0
  gap : Bool := false
  syncLost : Bool := false
  disc : Bool := false
  /-- Whether the last reference sent took its mark from T1 (R448). -/
  srcT1 : Option Bool := none
  deriving DecidableEq, Repr


/-! ### Ethernet ports and time domains (chapter 18) -/

/-- A time domain T1-T3 (R463-R471). State 0 UNSYNC, 1 ACQUIRING, 2 LOCKED, 3 HOLDOVER; the value at `c` is in units of 2^-32 ns and the rate in units of 10^-12; `master` the chosen clock's identity with its data set's rank and steps. -/
structure DomainSt where
  st : Nat := 0
  base : Int := 0
  c : Nat := 0
  rate : Int := 0
  meas : List (Nat × Int) := []
  offs : List Int := []
  lastOff : Int := 0
  lockRun : Nat := 0
  unlockRun : Nat := 0
  taken : Nat := 0
  refused : Nat := 0
  steps : Nat := 0
  stepAt : Option (Nat × Int) := none
  restep : Bool := false
  lastMeas : Nat := 0
  delay : Nat := 0
  holdSince : Nat := 0
  byRefclk : Bool := false
  master : Nat := 0
  masterPrio : Nat := 0
  masterSteps : Nat := 0
  deriving DecidableEq, Repr

/-- A CSX block's sequence and last frame (R459, R460). Key: station key * 64 + block. -/
structure CsxBlock where
  rxSeq : Option Nat := none
  txSeq : Nat := 0
  lastData : List Byte := []
  deriving DecidableEq, Repr

/-- An Ethernet port (R452-R462): link, queues of frames (queue, block key, bytes), gate position, counters. -/
structure EthSt where
  on : Bool := false
  up : Bool := false
  speed : Nat := 0
  allOpen : Bool := false
  queues : List (Nat × Nat × List Byte) := []
  gateIdx : Nat := 0
  gates : Byte := 0xFF
  rx : Nat := 0
  tx : Nat := 0
  rejCrc : Nat := 0
  rejSeq : Nat := 0
  replaced : Nat := 0
  dropped : Nat := 0
  syncSeq : Nat := 0
  syncAt : Nat := 0
  deriving DecidableEq, Repr
/-! ### Twin operation (chapter 19) -/

/-- What the last heartbeat said of the partner (R474, R475): its T0, role (0 active, 1 standby), mode, twin state, whether a Ridge reaction is latched, and whether its Deck, images and firmware are ours. -/
structure Partner where
  t0 : Nat := 0
  role : Nat := 0
  mode : Nat := 0
  st : Nat := 0
  latched : Bool := false
  same : Bool := false
  deriving DecidableEq, Repr

/-- The twin unit (R473-R488). State as R475: 0 UNPAIRED, 1 PAIRING, 2 IN_STEP, 3 DESYNC, 4 ACTIVE_ALONE, 5 ACTIVE_PAIRED. `delta` Δ once fixed, `shifted` whether T0 has taken it up; `heard` the T0 of the last heartbeat of each lane; `down` failed lanes; `p0` the snapshot's instant, `pairAt` the base of the proof swaps; `reply` the TWIN_PAIR to answer; `swap` a role swap: W, whether this device goes out, steps done; `standbyDrives` the drive side of privileged channels; `proofAt`, `proof` the last proof swap W and the channels that passed its first check, `proofOut` whether this device was the outgoing side, `proofStage` 1 after W, 2 after the release; `proven` each channel's last proof; `proofBad` channels that failed; `dueNoted` channels recorded PROOF_DUE; `waitFrom` since when the boot waits for a partner; `mismatch` pins recorded; `cmd` the partner's applied commands; `sentHb` the last heartbeat sent; `instants` a standby's release instants without a marker yet; `ours`, `theirs` CRCs of output sets by set; `nextProof` the next proof swap; `exchAt`, `exch` a forwarded exchange and its quiet point; `tookOver` whether this device became active by a takeover; `wasPaired` whether it was paired when its restart was triggered; `refused` the reason of the last refused pairing. -/
structure TwinSt where
  st : Nat := 0
  proofBad : List Nat := []
  delta : Option Int := none
  heard : List (Option Nat) := [none, none]
  down : List Bool := [false, false]
  partner : Partner := {}
  p0 : Option Nat := none
  reply : Option (Nat × Nat) := none
  swap : Option (Nat × Bool × Nat) := none
  standbyDrives : Bool := false
  proofAt : Nat := 0
  proof : List Nat := []
  /-- The privileged channels commanded on at W (R487). -/
  proofOn : List Nat := []
  proofStage : Nat := 0
  proven : Tbl Nat := []
  dueNoted : List Nat := []
  waitFrom : Option Nat := none
  mismatch : List Nat := []
  cmd : Tbl Word := []
  sentHb : Option Nat := none
  instants : List Nat := []
  ours : Tbl Word := []
  theirs : Tbl Word := []
  nextProof : Option Nat := none
  exchAt : Option Nat := none
  exch : Option ExchSt := none
  shifted : Bool := false
  pairAt : Nat := 0
  proofOut : Bool := false
  tookOver : Bool := false
  wasPaired : Bool := false
  refused : Nat := 0
  deriving DecidableEq, Repr


/-! ### Ridge (chapter 20) -/

/-- Reactions (R498). -/
inductive Reaction where
  | log | group | safe | ridgeStop
  deriving DecidableEq, Repr

/-- A latched fault: code, reaction, covered groups, source, whether its cause still holds where the state does not say so itself, and whether a kept record brought it back (R502). -/
structure Latch where
  code : Nat
  react : Reaction
  groups : BitVec 64 := 0
  isl : Nat := 0x7F
  unit : Nat := 0
  active : Bool := true
  relatched : Bool := false
  deriving DecidableEq, Repr

/-- The Ridge fault record in the Pocket (R504). -/
structure FaultRecord where
  code : Nat := 0
  react : Nat := 0
  isl : Nat := 0
  unit : Nat := 0
  t0 : Nat := 0
  keepTime : Nat := 0
  count : Nat := 0
  groupsCut : BitVec 64 := 0
  t0Release : Nat := 0
  prevCode : Nat := 0
  latched : Bool := false
  persistent : Bool := false
  inputs : Nat := 0
  detail : List Byte := []
  deriving DecidableEq, Repr

/-- A cut-switch element's tests (R494): last passing test, last test, whether that failed, failures. Key: group * 2 + element. -/
structure ElemSt where
  lastPass : Option Nat := none
  lastTest : Option Nat := none
  bad : Bool := false
  failed : Nat := 0
  retryAt : Option Nat := none
  due : Bool := false
  deriving DecidableEq, Repr

/-- A tile's permit channel as the Ridge sees it (R491, R492). -/
structure PermitChan where
  sent : List Nat := []
  bad : Nat := 0
  lastReport : Nat := 0
  missing : Bool := false
  deriving DecidableEq, Repr

/-- Emergency-stop and error-chain inputs (R495, R496): levels and latches. -/
structure EstopSt where
  aHigh : Bool := true
  bHigh : Bool := true
  errHigh : Bool := true
  demand : Bool := false
  discrepancy : Bool := false
  bothLowSeen : Bool := false
  errDemand : Bool := false
  deriving DecidableEq, Repr

/-- The Ridge's state (R489-R505): start-up, latches, counters, element tests, permit channels, inputs, fault record, configuration copy, SAFE commands on their way (islands), a proof test (mailbox, tag) with the elements it waits for. -/
structure RidgeSt where
  starting : Bool := true
  internalOk : Bool := false
  tilesOk : List Nat := []
  stopped : Bool := false
  hbLost : Bool := false
  latches : List Latch := []
  counts : Tbl Nat := []
  total : Nat := 0
  elems : Tbl ElemSt := []
  chans : Tbl PermitChan := []
  estop : EstopSt := {}
  record : FaultRecord := {}
  config : Tbl DWord := []
  configCrc : Word := 0
  safeCmds : List Nat := []
  proof : Option (Nat × Nat) := none
  proofLeft : List Nat := []
  proofFailed : BitVec 64 := 0
  deriving DecidableEq, Repr

/-! ### Check-value units (chapter 21) -/

/-- A job (R510): the descriptor, whether it is the device's own, the mailbox and tag of its request, restarts, and when it began. -/
structure CvJob where
  id : Nat
  space : Nat := 0
  preset : Nat := 0
  fold : Nat := 0
  start : Nat := 0
  len : Nat := 0
  foldVal : Nat := 0
  zOff : Nat := 0
  zLen : Nat := 0
  own : Bool := false
  mb : Nat := 0
  tag : Nat := 0
  restarts : Nat := 0
  began : Nat := 0
  deriving DecidableEq, Repr

/-- A result (R515). Status: 0 DONE, 1 ECC_FAULT, 2 ABORTED_HOST, 3 FLASH_FAULT. -/
structure CvRes where
  id : Nat
  unit_ : Nat := 0
  status : Nat := 0
  preset : Nat := 0
  restarts : Nat := 0
  value : DWord := 0
  bytes : Nat := 0
  fault : Nat := 0
  tStart : Nat := 0
  tEnd : Nat := 0
  mean : Nat := 0
  deriving DecidableEq, Repr

/-- A check-value unit: its queue, the running job, the last 16 results (R513, R515). -/
structure CvUnit where
  queue : List CvJob := []
  running : Option CvJob := none
  results : List CvRes := []
  deriving DecidableEq, Repr

/-- The four units, the next JOB_ID, the last re-check of staged images, and the dies' temperature state, 0 below, 1 high, 2 limit (R510-R519, R576). -/
structure CvSt where
  units : Tbl CvUnit := []
  nextId : Nat := 0
  scanAt : Nat := 0
  dies : Tbl Nat := []
  deriving DecidableEq, Repr

/-! ### Host window and mailboxes (chapter 22) -/

/-- An outstanding command: header fields of its frame, take-in instant, transport (0 PCIe, 1 SPI, 2 UDP), UDP source, command SEQ (R530, R533). -/
structure CmdTag where
  tag : Nat
  opcode : Nat
  target : Word := 0
  accepted : Nat := 0
  deadlineUs : Nat := 0
  barrier : Bool := false
  begun : Bool := false
  transport : Nat := 0
  src : Nat := 0
  seq : Nat := 0
  payload : List Byte := []
  deriving DecidableEq, Repr

/-- A response that waits to be written (R533): to the ring, or over UDP to `udp`; `cseq` the SEQ of its command. -/
structure Resp where
  tag : Nat
  opcode : Nat
  target : Word
  status : Nat
  flags : Nat
  timeUs : Nat := 0
  arg : Nat := 0
  payload : List Byte := []
  udp : Option Nat := none
  cseq : Nat := 0
  deriving DecidableEq, Repr

/-- A range of the bulk window held by a command (R537). -/
structure BulkHold where
  off : Nat
  len : Nat
  mb : Nat
  tag : Nat
  deriving DecidableEq, Repr

/-- A mailbox: its registers (R524, R526), ownership (R535), outstanding tags, waiting responses, UDP duplicates (R536). `via` is the window transport of the last doorbell; `unread` gives, for each unread response in the ring, RSP_TAIL after it and the instant it was written; `acc` the SEQs of the last 32 accepted UDP commands. -/
structure MbxSt where
  intEn : Bool := false
  relPend : Bool := false
  isOpen : Bool := false
  error : Bool := false
  blocked : Bool := false
  stall : Bool := false
  owner : Nat := 0
  udpSrc : Nat := 0
  cmdTail : Half := 0
  cmdHead : Half := 0
  rspTail : Half := 0
  rspHead : Half := 0
  cmdSeq : Word := 0
  rspSeq : Word := 0
  tags : List CmdTag := []
  resps : List Resp := []
  errCrc : Nat := 0
  errSeq : Nat := 0
  errTag : Nat := 0
  errOther : Nat := 0
  intCfg : Word := 1
  lastStatus : Nat := 0
  unread : List (Nat × Nat) := []
  via : Nat := 0
  acc : List Nat := []
  lastCrc : Word := 0
  kept : List (Nat × List Byte) := []
  lastUdp : Nat := 0
  deriving DecidableEq, Repr

/-- The host window: BAR0 registers that are state, rings, bulk window, held ranges, interrupts (R520-R541). `turn` is the mailbox next served; `bulkUsed` the bulk bytes of the 10 µs window `bulkWin` (R37, R38); `readData` what the last read returned. -/
structure HostSt where
  ready : Bool := false
  lastKind : Nat := 3
  heartbeat : Word := 0
  t0Hi : Word := 0
  intStatus : BitVec 32 := 0
  intEnable : BitVec 32 := 0
  epoch : Word := 0
  hostHb : Word := 0
  hbChanged : Nat := 0
  hostLost : Bool := false
  hbHoldUntil : Nat := 0
  errSpi : Nat := 0
  errUdp : Nat := 0
  errWin : Nat := 0
  mbx : Tbl MbxSt := []
  rings : Mem := []
  bulk : Mem := []
  holds : List BulkHold := []
  beatAt : Option Nat := none
  idFw : Word := 0
  turn : Nat := 0
  bulkWin : Nat := 0
  bulkUsed : Nat := 0
  throttled : Bool := false
  windowDown : Bool := false
  restartReq : List (Nat × Nat × Nat) := []
  readData : List Byte := []
  deriving DecidableEq, Repr

/-- The pairing snapshot (R475): P0, the process image, every engine's memories with their instances (cycle, loop and motion engines), the tracker, the streams, the Pocket's operation, retained and axis keep areas, and the number of the next output set. -/
structure Snap where
  p0 : Nat := 0
  points : Tbl Point := []
  engMem : Tbl Mem := []
  loops : Tbl LoopSt := []
  loopEng : Tbl LoopEng := []
  prof : Tbl PfSt := []
  track : TrackSt := {}
  streams : Tbl StreamSt := []
  pocket : Mem := []
  nextSet : Nat := 0
  deriving DecidableEq, Repr

end Sys2Proof.Machine
end

