-- ==== Sys2Proof/Syntax.lean ====
section
/-! DEFINITION. The commands of the block: one constructor for each row of the command table. -/

namespace Sys2Proof

/-- A mailbox command as it begins: mailbox, tag, TARGET and payload bytes of its frame (R530). -/
structure Req where
  mb : Fin 8
  tag : BitVec 5 := 0
  target : Word := 0
  payload : List Byte := []
  deriving DecidableEq, Repr

/-- One message of the forwarded traffic of the Seam (R154, R477). -/
inductive SeamMsg where
  /-- An update of the active's image: effective T0, point, value, conditions. -/
  | update (t p : Nat) (v : Word) (c : BitVec 16)
  /-- A trigger instant of an event task. -/
  | trigger (task : BitVec 10) (t : Nat)
  /-- An accepted SET or UNSET with the instant at which it takes effect. -/
  | set (scope : Fin 13) (id : Word) (v : DWord) (remove : Bool) (e : Nat)
  /-- A mode request with its entry instant. -/
  | mode (m : Fin 12) (e : Nat)
  /-- A state-changing command: opcode, TARGET, acceptance instant, payload. -/
  | command (op : Half) (target : Word) (t : Nat) (payload : List Byte)
  /-- A Pocket journal transaction: target offsets and bytes. -/
  | journal (entries : List (BitVec 14 × List Byte))
  /-- The end-of-instant marker of a release instant. -/
  | marker (t : Nat)
  /-- The CRC-32C of an applied output set. -/
  | crc (id : Nat) (c : Word)
  /-- An exchange: slot, quiet point, image. -/
  | exch (slot : Half) (q : Nat) (bytes : List Byte)
  /-- Traffic lost beyond retransmission. -/
  | lost
  deriving DecidableEq, Repr

/-- The commands. -/
inductive Instr where
  /-- PACKET_RECEIVE (R19). -/
  | packetReceive (link : Byte) (up : Bool) (raw : List Byte)
  /-- NEGATIVE_ACKNOWLEDGE (R19). -/
  | negativeAcknowledge (link : Byte) (up : Bool) (cls : Fin 7)
  /-- CREDIT_RETURN (R18). -/
  | creditReturn (link : Byte) (up : Bool) (cls : Fin 7) (n : Nat)
  /-- HEARTBEAT_SEND (R22). -/
  | heartbeatSend
  /-- SILENT_HOLD (R22). -/
  | silentHold (tile : Fin 4)
  /-- T0_ALIGN_EXCHANGE (R24). -/
  | t0AlignExchange (isl : Byte) (offset : Int)
  /-- T0_CROSS_CHECK (R26). -/
  | t0CrossCheck (t0Adv ridgeAdv : Nat)
  /-- REFCLK_LOST (R27). -/
  | refclkLost
  /-- REFCLK_RETURN (R27). -/
  | refclkReturn
  /-- STROBE_EVENT_RECEIVE (R28). -/
  | strobeEventReceive (node : Fin 7)
  /-- SAMPLE_STROBE (R28). -/
  | sampleStrobe (node : Fin 7)
  /-- APPLY_STROBE (R31). -/
  | applyStrobe (node : Fin 7)
  /-- OUTPUT_SET_RECEIVE (R31). -/
  | outputSetReceive (node : Fin 7)
  /-- DRAM_SCRUB (R36). -/
  | dramScrub (addr : Word) (errs : Fin 3)
  /-- COMMONS_SCRUB (R37). -/
  | commonsScrub (off : BitVec 23) (errs : Fin 3)
  /-- IMAGE_UPDATE_VISIBLE (R51). -/
  | imageUpdateVisible
  /-- WINDOW_COPY_COMPLETE (R52). -/
  | windowCopyComplete (ce : Fin 16)
  /-- WINDOW_WAIT_EXPIRY (R55). -/
  | windowWaitExpiry (ce : Fin 16)
  /-- STATION_INPUT_BLOCK (R58). -/
  | stationInputBlock (region : Fin 11) (stn : BitVec 10) (blk : BitVec 6) (vals : List Word) (conds : BitVec 16)
  /-- STATION_SILENT (R58). -/
  | stationSilent (region : Fin 11) (stn : BitVec 10)
  /-- STATION_LOST (R58). -/
  | stationLost (region : Fin 11) (stn : BitVec 10)
  /-- FORCE_INSTANT (R579). -/
  | forceInstant
  /-- DERIVED_RELEASE (R65). -/
  | derivedRelease (n : Half)
  /-- MODE_ENTRY (R72). -/
  | modeEntry
  /-- DECK_VALIDATION_END (R86). -/
  | deckValidationEnd (late : Fin 14) (detail device proof : Word)
  /-- DECK_COMMIT_DONE (R88). -/
  | deckCommitDone (readOk : Bool)
  /-- DECK_SAVE_DONE (R82). -/
  | deckSaveDone (readOk : Bool)
  /-- IMAGE_VALIDATION_END (R89). -/
  | imageValidationEnd (late : Fin 14)
  /-- SAMPLE_STROBE_SEND (R98). -/
  | sampleStrobeSend (node : Fin 7) (at_ : Nat)
  /-- TASK_RELEASE (R95). -/
  | taskRelease (task : BitVec 10)
  /-- EVENT_TASK_TRIGGER (R96). -/
  | eventTaskTrigger
  /-- HELD_TRIGGER_RELEASE (R97). -/
  | heldTriggerRelease (task : BitVec 10)
  /-- ENGINE_ASK_WORK (R100). -/
  | engineAskWork (ce : Fin 16)
  /-- TASK_DEADLINE (R105). -/
  | taskDeadline (task : BitVec 10)
  /-- APPLY_STROBE_SEND (R103). -/
  | applyStrobeSend (task : BitVec 10)
  /-- RELEASE_END (R106). -/
  | releaseEnd (ce : Fin 16)
  /-- PLACEMENT_WINDOW (R109). -/
  | placementWindow (busy : List Nat)
  /-- PROGRAM_MOVE (R110). -/
  | programMove
  /-- PROGRAM_MOVE_ABANDON (R110). -/
  | programMoveAbandon
  /-- BL_NOP (R122). -/
  | blNop (ce : Fin 16) (x : BitVec 25)
  /-- BL_LD (R122). -/
  | blLd (ce : Fin 16) (x : BitVec 25)
  /-- BL_LDN (R122). -/
  | blLdn (ce : Fin 16) (x : BitVec 25)
  /-- BL_AND (R122). -/
  | blAnd (ce : Fin 16) (x : BitVec 25)
  /-- BL_ANDN (R122). -/
  | blAndn (ce : Fin 16) (x : BitVec 25)
  /-- BL_OR (R122). -/
  | blOr (ce : Fin 16) (x : BitVec 25)
  /-- BL_ORN (R122). -/
  | blOrn (ce : Fin 16) (x : BitVec 25)
  /-- BL_XOR (R122). -/
  | blXor (ce : Fin 16) (x : BitVec 25)
  /-- BL_XORN (R122). -/
  | blXorn (ce : Fin 16) (x : BitVec 25)
  /-- BL_LDG (R122). -/
  | blLdg (ce : Fin 16) (x : BitVec 25)
  /-- BL_ANDG (R122). -/
  | blAndg (ce : Fin 16) (x : BitVec 25)
  /-- BL_ORNG (R122). -/
  | blOrng (ce : Fin 16) (x : BitVec 25)
  /-- BL_ST (R122). -/
  | blSt (ce : Fin 16) (x : BitVec 25)
  /-- BL_STN (R122). -/
  | blStn (ce : Fin 16) (x : BitVec 25)
  /-- BL_SET (R122). -/
  | blSet (ce : Fin 16) (x : BitVec 25)
  /-- BL_RST (R122). -/
  | blRst (ce : Fin 16) (x : BitVec 25)
  /-- BL_NOT (R122). -/
  | blNot (ce : Fin 16) (x : BitVec 25)
  /-- BL_LDT (R122). -/
  | blLdt (ce : Fin 16) (x : BitVec 25)
  /-- BL_LDF (R122). -/
  | blLdf (ce : Fin 16) (x : BitVec 25)
  /-- BL_LDFS (R122). -/
  | blLdfs (ce : Fin 16) (x : BitVec 25)
  /-- BL_LDQD (R122). -/
  | blLdqd (ce : Fin 16) (x : BitVec 25)
  /-- BL_AND_OPEN (R122). -/
  | blAndOpen (ce : Fin 16) (x : BitVec 25)
  /-- BL_OR_OPEN (R122). -/
  | blOrOpen (ce : Fin 16) (x : BitVec 25)
  /-- BL_XOR_OPEN (R122). -/
  | blXorOpen (ce : Fin 16) (x : BitVec 25)
  /-- BL_PSH (R122). -/
  | blPsh (ce : Fin 16) (x : BitVec 25)
  /-- BL_CLOSE (R122). -/
  | blClose (ce : Fin 16) (x : BitVec 25)
  /-- BL_POP (R122). -/
  | blPop (ce : Fin 16) (x : BitVec 25)
  /-- BL_LDW (R123). -/
  | blLdw (ce : Fin 16) (x : BitVec 25)
  /-- BL_STW (R123). -/
  | blStw (ce : Fin 16) (x : BitVec 25)
  /-- BL_LDI (R123). -/
  | blLdi (ce : Fin 16) (x : BitVec 25)
  /-- BL_LDHI (R123). -/
  | blLdhi (ce : Fin 16) (x : BitVec 25)
  /-- BL_SWAP (R123). -/
  | blSwap (ce : Fin 16) (x : BitVec 25)
  /-- BL_MOVAB (R123). -/
  | blMovab (ce : Fin 16) (x : BitVec 25)
  /-- BL_LDQ (R123). -/
  | blLdq (ce : Fin 16) (x : BitVec 25)
  /-- BL_STWQ (R124). -/
  | blStwq (ce : Fin 16) (x : BitVec 25)
  /-- BL_LDWX (R124). -/
  | blLdwx (ce : Fin 16) (x : BitVec 25)
  /-- BL_STWX (R124). -/
  | blStwx (ce : Fin 16) (x : BitVec 25)
  /-- BL_LDTR (R123). -/
  | blLdtr (ce : Fin 16) (x : BitVec 25)
  /-- BL_LDS (R123). -/
  | blLds (ce : Fin 16) (x : BitVec 25)
  /-- BL_CLS (R114). -/
  | blCls (ce : Fin 16) (x : BitVec 25)
  /-- BL_ADD (R123). -/
  | blAdd (ce : Fin 16) (x : BitVec 25)
  /-- BL_SUB (R123). -/
  | blSub (ce : Fin 16) (x : BitVec 25)
  /-- BL_MUL (R124). -/
  | blMul (ce : Fin 16) (x : BitVec 25)
  /-- BL_DIV (R124). -/
  | blDiv (ce : Fin 16) (x : BitVec 25)
  /-- BL_NEG (R124). -/
  | blNeg (ce : Fin 16) (x : BitVec 25)
  /-- BL_ADDI (R123). -/
  | blAddi (ce : Fin 16) (x : BitVec 25)
  /-- BL_ANDW (R123). -/
  | blAndw (ce : Fin 16) (x : BitVec 25)
  /-- BL_ORW (R123). -/
  | blOrw (ce : Fin 16) (x : BitVec 25)
  /-- BL_XORW (R123). -/
  | blXorw (ce : Fin 16) (x : BitVec 25)
  /-- BL_NOTW (R123). -/
  | blNotw (ce : Fin 16) (x : BitVec 25)
  /-- BL_SHL (R123). -/
  | blShl (ce : Fin 16) (x : BitVec 25)
  /-- BL_SHR (R123). -/
  | blShr (ce : Fin 16) (x : BitVec 25)
  /-- BL_ASR (R123). -/
  | blAsr (ce : Fin 16) (x : BitVec 25)
  /-- BL_ADDF (R123). -/
  | blAddf (ce : Fin 16) (x : BitVec 25)
  /-- BL_SUBF (R123). -/
  | blSubf (ce : Fin 16) (x : BitVec 25)
  /-- BL_MULF (R123). -/
  | blMulf (ce : Fin 16) (x : BitVec 25)
  /-- BL_DIVF (R124). -/
  | blDivf (ce : Fin 16) (x : BitVec 25)
  /-- BL_ITOF (R123). -/
  | blItof (ce : Fin 16) (x : BitVec 25)
  /-- BL_FTOI (R124). -/
  | blFtoi (ce : Fin 16) (x : BitVec 25)
  /-- BL_ABSF (R123). -/
  | blAbsf (ce : Fin 16) (x : BitVec 25)
  /-- BL_NEGF (R123). -/
  | blNegf (ce : Fin 16) (x : BitVec 25)
  /-- BL_EQ (R125). -/
  | blEq (ce : Fin 16) (x : BitVec 25)
  /-- BL_NE (R125). -/
  | blNe (ce : Fin 16) (x : BitVec 25)
  /-- BL_LT (R125). -/
  | blLt (ce : Fin 16) (x : BitVec 25)
  /-- BL_LE (R125). -/
  | blLe (ce : Fin 16) (x : BitVec 25)
  /-- BL_GT (R125). -/
  | blGt (ce : Fin 16) (x : BitVec 25)
  /-- BL_GE (R125). -/
  | blGe (ce : Fin 16) (x : BitVec 25)
  /-- BL_LTU (R125). -/
  | blLtu (ce : Fin 16) (x : BitVec 25)
  /-- BL_GEU (R125). -/
  | blGeu (ce : Fin 16) (x : BitVec 25)
  /-- BL_LTF (R125). -/
  | blLtf (ce : Fin 16) (x : BitVec 25)
  /-- BL_LEF (R125). -/
  | blLef (ce : Fin 16) (x : BitVec 25)
  /-- BL_GTF (R125). -/
  | blGtf (ce : Fin 16) (x : BitVec 25)
  /-- BL_GEF (R125). -/
  | blGef (ce : Fin 16) (x : BitVec 25)
  /-- BL_EQF (R125). -/
  | blEqf (ce : Fin 16) (x : BitVec 25)
  /-- BL_JMP (R126). -/
  | blJmp (ce : Fin 16) (x : BitVec 25)
  /-- BL_JC (R126). -/
  | blJc (ce : Fin 16) (x : BitVec 25)
  /-- BL_JCN (R126). -/
  | blJcn (ce : Fin 16) (x : BitVec 25)
  /-- BL_CALL (R126). -/
  | blCall (ce : Fin 16) (x : BitVec 25)
  /-- BL_CALLC (R126). -/
  | blCallc (ce : Fin 16) (x : BitVec 25)
  /-- BL_RET (R126). -/
  | blRet (ce : Fin 16) (x : BitVec 25)
  /-- BL_RETC (R126). -/
  | blRetc (ce : Fin 16) (x : BitVec 25)
  /-- BL_END (R126). -/
  | blEnd (ce : Fin 16) (x : BitVec 25)
  /-- BL_ENDC (R126). -/
  | blEndc (ce : Fin 16) (x : BitVec 25)
  /-- BL_TON (R130). -/
  | blTon (ce : Fin 16) (x : BitVec 25)
  /-- BL_TOF (R130). -/
  | blTof (ce : Fin 16) (x : BitVec 25)
  /-- BL_TP (R130). -/
  | blTp (ce : Fin 16) (x : BitVec 25)
  /-- BL_CTU (R132). -/
  | blCtu (ce : Fin 16) (x : BitVec 25)
  /-- BL_CTD (R132). -/
  | blCtd (ce : Fin 16) (x : BitVec 25)
  /-- BL_CTUD (R132). -/
  | blCtud (ce : Fin 16) (x : BitVec 25)
  /-- BL_R_TRIG (R133). -/
  | blRTrig (ce : Fin 16) (x : BitVec 25)
  /-- BL_F_TRIG (R133). -/
  | blFTrig (ce : Fin 16) (x : BitVec 25)
  /-- BL_LDIV (R129). -/
  | blLdiv (ce : Fin 16) (x : BitVec 25)
  /-- BL_STIV (R129). -/
  | blStiv (ce : Fin 16) (x : BitVec 25)
  /-- RETAIN_COMMIT (R137). -/
  | retainCommit (prog : Byte)
  /-- NATIVE_APERTURE_STORE (R143). -/
  | nativeApertureStore (ce : Fin 16) (p : BitVec 25) (hi narrow : Bool) (v : Word)
  /-- NATIVE_EXCEPTION (R145). -/
  | nativeException (ce : Fin 16) (cause : Word) (epc : Word) (tval : Word)
  /-- NATIVE_TIMEOUT (R141). -/
  | nativeTimeout (ce : Fin 16)
  /-- DLASK_END (R147). -/
  | dlaskEnd (ce : Fin 16)
  /-- DLASK_DISCARD (R147). -/
  | dlaskDiscard (ce : Fin 16)
  /-- DLPVAL_READ (R147). -/
  | dlpvalRead (ce : Fin 16) (p : BitVec 25) (rd : Fin 32)
  /-- DLPVAL_WRITE (R147). -/
  | dlpvalWrite (ce : Fin 16) (p : BitVec 25) (q : BitVec 4) (v : Word)
  /-- DLNOW_READ (R147). -/
  | dlnowRead (ce : Fin 16) (rd : Fin 32)
  /-- DLSTRBC_SAMPLE_STROBE (R148). -/
  | dlstrbcSampleStrobe (ce : Fin 16) (tiles : BitVec 4) (at_ : DWord)
  /-- DLSTRBC_APPLY_STROBE (R148). -/
  | dlstrbcApplyStrobe (ce : Fin 16) (tiles : BitVec 4) (at_ : DWord)
  /-- EXCHANGE_SWAP (R150). -/
  | exchangeSwap
  /-- EXCH_NO_QUIET (R151). -/
  | exchNoQuiet
  /-- EXCHANGE_RETURN (R152). -/
  | exchangeReturn
  /-- LOOP_RELEASE (R164). -/
  | loopRelease (loop : BitVec 9)
  /-- LOOP_BEGIN (R165). -/
  | loopBegin (le : Fin 8)
  /-- LOOP_INPUT_WAIT_EXPIRY (R165). -/
  | loopInputWaitExpiry (loop : BitVec 9)
  /-- LOOP_DEADLINE (R167). -/
  | loopDeadline (loop : BitVec 9)
  /-- LOOP_END (R164). -/
  | loopEnd (le : Fin 8)
  /-- HELD_TIME_EXPIRY (R168). -/
  | heldTimeExpiry (loop : BitVec 9) (inp : Fin 4)
  /-- TUNE_CHECK_TIMEOUT (R190). -/
  | tuneCheckTimeout (loop : BitVec 9)
  /-- TUNE_SETTLE_DONE (R190). -/
  | tuneSettleDone (loop : BitVec 9)
  /-- TUNE_MEASURE_DONE (R191). -/
  | tuneMeasureDone (loop : BitVec 9)
  /-- TUNE_TIMEOUT (R192). -/
  | tuneTimeout (loop : BitVec 9)
  /-- BRIDGE_LAW_START (R195). -/
  | bridgeLawStart (loop : BitVec 9)
  /-- BRIDGE_PERIOD (R195). -/
  | bridgePeriod (loop : BitVec 9)
  /-- BRIDGE_EXPIRY (R196). -/
  | bridgeExpiry (loop : BitVec 9)
  /-- LE_MPY (R213). -/
  | leMpy (le : Fin 8) (x : BitVec 28)
  /-- LE_MAC (R213). -/
  | leMac (le : Fin 8) (x : BitVec 28)
  /-- LE_MSU (R213). -/
  | leMsu (le : Fin 8) (x : BitVec 28)
  /-- LE_MACL (R213). -/
  | leMacl (le : Fin 8) (x : BitVec 28)
  /-- LE_MSUL (R213). -/
  | leMsul (le : Fin 8) (x : BitVec 28)
  /-- LE_MPYL (R213). -/
  | leMpyl (le : Fin 8) (x : BitVec 28)
  /-- LE_MOVE (R213). -/
  | leMove (le : Fin 8) (x : BitVec 28)
  /-- LE_DMOVE (R213). -/
  | leDmove (le : Fin 8) (x : BitVec 28)
  /-- LE_NOP (R215). -/
  | leNop (le : Fin 8) (x : BitVec 25)
  /-- LE_LD (R215). -/
  | leLd (le : Fin 8) (x : BitVec 25)
  /-- LE_ST (R215). -/
  | leSt (le : Fin 8) (x : BitVec 25)
  /-- LE_LDD (R215). -/
  | leLdd (le : Fin 8) (x : BitVec 25)
  /-- LE_STD (R215). -/
  | leStd (le : Fin 8) (x : BitVec 25)
  /-- LE_LDI (R215). -/
  | leLdi (le : Fin 8) (x : BitVec 25)
  /-- LE_LDIH (R215). -/
  | leLdih (le : Fin 8) (x : BitVec 25)
  /-- LE_MOV (R215). -/
  | leMov (le : Fin 8) (x : BitVec 25)
  /-- LE_ADD (R215). -/
  | leAdd (le : Fin 8) (x : BitVec 25)
  /-- LE_SUB (R215). -/
  | leSub (le : Fin 8) (x : BitVec 25)
  /-- LE_ADDI (R215). -/
  | leAddi (le : Fin 8) (x : BitVec 25)
  /-- LE_AND (R215). -/
  | leAnd (le : Fin 8) (x : BitVec 25)
  /-- LE_OR (R215). -/
  | leOr (le : Fin 8) (x : BitVec 25)
  /-- LE_XOR (R215). -/
  | leXor (le : Fin 8) (x : BitVec 25)
  /-- LE_SHL (R215). -/
  | leShl (le : Fin 8) (x : BitVec 25)
  /-- LE_ASR (R215). -/
  | leAsr (le : Fin 8) (x : BitVec 25)
  /-- LE_LSR (R215). -/
  | leLsr (le : Fin 8) (x : BitVec 25)
  /-- LE_NEG (R215). -/
  | leNeg (le : Fin 8) (x : BitVec 25)
  /-- LE_ABS (R215). -/
  | leAbs (le : Fin 8) (x : BitVec 25)
  /-- LE_MIN (R215). -/
  | leMin (le : Fin 8) (x : BitVec 25)
  /-- LE_MAX (R215). -/
  | leMax (le : Fin 8) (x : BitVec 25)
  /-- LE_MULI (R215). -/
  | leMuli (le : Fin 8) (x : BitVec 25)
  /-- LE_CMP (R215). -/
  | leCmp (le : Fin 8) (x : BitVec 25)
  /-- LE_CMPI (R215). -/
  | leCmpi (le : Fin 8) (x : BitVec 25)
  /-- LE_CLR (R215). -/
  | leClr (le : Fin 8) (x : BitVec 25)
  /-- LE_LDA (R215). -/
  | leLda (le : Fin 8) (x : BitVec 25)
  /-- LE_STA (R210). -/
  | leSta (le : Fin 8) (x : BitVec 25)
  /-- LE_ADDA (R215). -/
  | leAdda (le : Fin 8) (x : BitVec 25)
  /-- LE_SUBA (R215). -/
  | leSuba (le : Fin 8) (x : BitVec 25)
  /-- LE_ASHA (R215). -/
  | leAsha (le : Fin 8) (x : BitVec 25)
  /-- LE_ASHR (R215). -/
  | leAshr (le : Fin 8) (x : BitVec 25)
  /-- LE_ADDAA (R215). -/
  | leAddaa (le : Fin 8) (x : BitVec 25)
  /-- LE_MOVAA (R215). -/
  | leMovaa (le : Fin 8) (x : BitVec 25)
  /-- LE_CMPA (R215). -/
  | leCmpa (le : Fin 8) (x : BitVec 25)
  /-- LE_STG (R215). -/
  | leStg (le : Fin 8) (x : BitVec 25)
  /-- LE_LDG (R215). -/
  | leLdg (le : Fin 8) (x : BitVec 25)
  /-- LE_SATA (R210). -/
  | leSata (le : Fin 8) (x : BitVec 25)
  /-- LE_RNDA (R215). -/
  | leRnda (le : Fin 8) (x : BitVec 25)
  /-- LE_MOVP (R215). -/
  | leMovp (le : Fin 8) (x : BitVec 25)
  /-- LE_STEPP (R203). -/
  | leStepp (le : Fin 8) (x : BitVec 25)
  /-- LE_WROT (R218). -/
  | leWrot (le : Fin 8) (x : BitVec 25)
  /-- LE_BR (R208). -/
  | leBr (le : Fin 8) (x : BitVec 25)
  /-- LE_CALL (R208). -/
  | leCall (le : Fin 8) (x : BitVec 25)
  /-- LE_RET (R208). -/
  | leRet (le : Fin 8) (x : BitVec 25)
  /-- LE_REP (R217). -/
  | leRep (le : Fin 8) (x : BitVec 25)
  /-- LE_RTI (R219). -/
  | leRti (le : Fin 8) (x : BitVec 25)
  /-- FAST_INTERRUPT (R219). -/
  | fastInterrupt (le : Fin 8) (input : Bool)
  /-- LAW_BUDGET (R224). -/
  | lawBudget (le : Fin 8)
  /-- MOTION_TICK (R227). -/
  | motionTick (me : Fin 4)
  /-- SEGMENT_BATCH_RECEIVE (R235). -/
  | segmentBatchReceive (tile : Fin 4)
  /-- SEGMENT_START (R237). -/
  | segmentStart (ax : Fin 32)
  /-- MICROSTEP_UPDATE (R235). -/
  | microstepUpdate (ax : Fin 32)
  /-- STOP_COMPLETE (R236). -/
  | stopComplete (ax : Fin 32)
  /-- LIMIT_LATCH (R244). -/
  | limitLatch (ax : Fin 32) (lim : Fin 2)
  /-- LIMIT_LATCH_CLEAR (R245). -/
  | limitLatchClear (ax : Fin 32) (lim : Fin 2)
  /-- LIMIT_CHATTER_CLEAR (R246). -/
  | limitChatterClear (ax : Fin 32) (lim : Fin 2)
  /-- HOME_TIMEOUT (R250). -/
  | homeTimeout (ax : Fin 32)
  /-- AXIS_DISABLE_DEADLINE (R251). -/
  | axisDisableDeadline (ax : Fin 32)
  /-- CHOP_BLANK_END (R260). -/
  | chopBlankEnd (ax : Fin 32) (b : Fin 2) (i : Int)
  /-- CHOP_CURRENT_REACHED (R259). -/
  | chopCurrentReached (ax : Fin 32) (b : Fin 2) (i : Int)
  /-- CHOP_ON_MAX_TIMEOUT (R259). -/
  | chopOnMaxTimeout (ax : Fin 32) (b : Fin 2) (i : Int)
  /-- CHOP_FAST_DECAY_END (R259). -/
  | chopFastDecayEnd (ax : Fin 32) (b : Fin 2)
  /-- CHOP_OFF_END (R259). -/
  | chopOffEnd (ax : Fin 32) (b : Fin 2)
  /-- CHOP_DEAD_TIME_END (R255). -/
  | chopDeadTimeEnd (ax : Fin 32) (b : Fin 2)
  /-- HYST_THRESHOLD (R261). -/
  | hystThreshold (ax : Fin 32) (b : Fin 2) (i : Int)
  /-- HYST_QUARTER_ADAPT (R261). -/
  | hystQuarterAdapt (ax : Fin 32) (b : Fin 2) (mean : Int)
  /-- CHOP_FALLBACK (R262). -/
  | chopFallback (ax : Fin 32)
  /-- CHOP_RETURN (R262). -/
  | chopReturn (ax : Fin 32)
  /-- COIL_FAULT (R263). -/
  | coilFault (ax : Fin 32)
  /-- I_LOW_TIMEOUT (R263). -/
  | iLowTimeout (ax : Fin 32)
  /-- HOLD_DELAY_EXPIRY (R265). -/
  | holdDelayExpiry (ax : Fin 32)
  /-- CURRENT_RAMP_END (R266). -/
  | currentRampEnd (ax : Fin 32)
  /-- INPUT_PIN_CHANGE (R273). -/
  | inputPinChange (c : BitVec 9) (level : Bool)
  /-- FILTERED_STATE_CHANGE (R274). -/
  | filteredStateChange (c : BitVec 9)
  /-- STEPDOWN (R273). -/
  | stepdown (c : BitVec 9)
  /-- WIRE_BREAK_TIMEOUT (R275). -/
  | wireBreakTimeout (c : BitVec 9) (ma : Word)
  /-- OVERLOAD_TIMEOUT (R278). -/
  | overloadTimeout (c : BitVec 9) (ma : Word)
  /-- OVER_TEMP (R278). -/
  | overTemp (c : BitVec 9) (temp : Word)
  /-- OVER_TEMP_RECOVER (R278). -/
  | overTempRecover (c : BitVec 9) (temp : Word)
  /-- OVERLOAD_RETRY (R278). -/
  | overloadRetry (c : BitVec 9)
  /-- PAIR_IMBALANCE (R279). -/
  | pairImbalance (c : BitVec 9) (on : Bool)
  /-- GROUP_SHED (R280). -/
  | groupShed (unit : Fin 68) (ma : Nat)
  /-- SETTLE_EXPIRY (R283). -/
  | settleExpiry (c : BitVec 9)
  /-- OPEN_LOAD_DETECT (R283). -/
  | openLoadDetect (c : BitVec 9) (ma : Word)
  /-- SHORT_TO_LPLUS_DETECT (R288). -/
  | shortToLplusDetect (c : BitVec 9)
  /-- REVERSE_DETECT (R289). -/
  | reverseDetect (c : BitVec 9)
  /-- STUCK_ON_DETECT (R283). -/
  | stuckOnDetect (c : BitVec 9) (ma : Word)
  /-- READBACK_FAIL_DETECT (R283). -/
  | readbackFailDetect (c : BitVec 9)
  /-- CH_FLAG_CLEAR (R283). -/
  | chFlagClear (c : BitVec 9) (k : Fin 16)
  /-- SUPPLY_MEASURE (R284). -/
  | supplyMeasure (g : Fin 64) (mv : Nat)
  /-- SUPPLY_LOW (R285). -/
  | supplyLow (g : Fin 64)
  /-- SUPPLY_LOST (R285). -/
  | supplyLost (g : Fin 64)
  /-- SUPPLY_RESTORED (R285). -/
  | supplyRestored (g : Fin 64)
  /-- GROUP_RESTORE (R286). -/
  | groupRestore (g : Fin 64)
  /-- PERMIT_EDGE (R293). -/
  | permitEdge (g : Fin 64)
  /-- PERMIT_TIMEOUT (R293). -/
  | permitTimeout (g : Fin 64)
  /-- CUT_CLEAR (R293). -/
  | cutClear (g : Fin 64)
  /-- CUT_ELEMENT_TEST (R294). -/
  | cutElementTest (g : Fin 64) (elem : Fin 2)
  /-- CUT_TEST_END (R294). -/
  | cutTestEnd (g : Fin 64) (passed : Bool)
  /-- SAR_CONVERSION_END (R298). -/
  | sarConversionEnd (a : BitVec 7) (counts : BitVec 16) (x : Word)
  /-- SIGMA_DELTA_CONVERSION_END (R301). -/
  | sigmaDeltaConversionEnd (a : BitVec 7) (counts : BitVec 24) (x : Word) (isOpen off : Bool)
  /-- AI_FLAG_TIMER (R300). -/
  | aiFlagTimer (a : BitVec 7) (k : Fin 7)
  /-- AI_SHUNT_RECLOSE (R300). -/
  | aiShuntReclose (a : BitVec 7) (ma : Word)
  /-- AO_FLAG_TIMER (R304). -/
  | aoFlagTimer (a : Fin 32) (on : Bool)
  /-- ENC_LINE_CHANGE (R306). -/
  | encLineChange (e : Fin 16) (a b : Bool)
  /-- ENC_INDEX (R307). -/
  | encIndex (e : Fin 16)
  /-- ENC_LINE_FAULT (R308). -/
  | encLineFault (e : Fin 16) (on : Bool)
  /-- ENC_VELOCITY_TIMEOUT (R307). -/
  | encVelocityTimeout (e : Fin 16)
  /-- SAR_SELFTEST (R309). -/
  | sarSelftest (k : Fin 16) (good : Bool)
  /-- AO_SELFTEST (R309). -/
  | aoSelftest (a : Fin 32) (meas : Word)
  /-- SELFTEST_CLEAR (R309). -/
  | selftestClear (unit : Fin 160)
  /-- HANDSHAKE_TIMEOUT (R319). -/
  | handshakeTimeout (k : Fin 16)
  /-- DRAIN_DEADLINE (R323). -/
  | drainDeadline (k : Fin 16)
  /-- JOURNAL_TRANSACTION (R335). -/
  | journalTransaction
  /-- JOURNAL_COMMIT (R335). -/
  | journalCommit
  /-- POCKET_SCAN (R369). -/
  | pocketScan (errs : List (BitVec 12))
  /-- LOCKSTEP_MISMATCH (R15). -/
  | lockstepMismatch (isl : Byte)
  /-- HEARTBEAT_TIMEOUT (R343). -/
  | heartbeatTimeout (isl : Byte)
  /-- STEWARD_WATCHDOG (R343). -/
  | stewardWatchdog
  /-- CLOCK_FAULT (R497). -/
  | clockFault (isl : Byte)
  /-- ENGINE_IN_SERVICE (R346). -/
  | engineInService (isl : Byte)
  /-- HOT_RESTART_TIMEOUT (R348). -/
  | hotRestartTimeout (isl : Byte)
  /-- WARM_BOOT_START (R349). -/
  | warmBootStart
  /-- BOOT_END (R71). -/
  | bootEnd (degraded : Bool) (badSlots badBanks : BitVec 2) (recOk : Bool)
  /-- RECONSTRUCTION_COMPLETE (R354). -/
  | reconstructionComplete
  /-- RESUME_GO (R350). -/
  | resumeGo
  /-- GAP_BUFFER_FULL (R356). -/
  | gapBufferFull (tile : Fin 4)
  /-- GAP_BUFFER_REPLAY (R357). -/
  | gapBufferReplay (tile : Fin 4)
  /-- REPLAY_COMPLETE (R357). -/
  | replayComplete (tile : Fin 4)
  /-- POWER_FAIL_FLUSH (R358). -/
  | powerFailFlush (done : Bool) (written : Nat) (flushUs : Half)
  /-- PWRFAIL_RECOVERED (R360). -/
  | pwrfailRecovered
  /-- KEEP_ENTRY (R362). -/
  | keepEntry
  /-- POWER_RETURN (R361). -/
  | powerReturn (ticks : BitVec 48) (latchOk : Bool)
  /-- RESET_PIN (R343). -/
  | resetPin
  /-- VBAT_THRESHOLD (R362). -/
  | vbatThreshold (lost : Bool)
  /-- SUPPLY_RAIL_FAULT (R570). -/
  | supplyRailFault (rail : Fin 5)
  /-- TILE_SUPPLY_LOSS (R569). -/
  | tileSupplyLoss (tile : Fin 4)
  /-- TILE_POWER_UP (R569). -/
  | tilePowerUp (tile : Fin 4)
  /-- CAPTURE_SAMPLE (R372). -/
  | captureSample (u : Fin 32) (t : DWord) (vals : List Word)
  /-- ACQ_TRIGGER_EVENT (R374). -/
  | acqTriggerEvent (u : Fin 32) (t : DWord) (v : Word)
  /-- ACQ_AUTO_TIMEOUT (R376). -/
  | acqAutoTimeout (u : Fin 32)
  /-- ACQ_RECORD_END (R378). -/
  | acqRecordEnd (u : Fin 32)
  /-- ACQ_POOL_SWITCH_END (R378). -/
  | acqPoolSwitchEnd (u : Fin 32)
  /-- ACQ_HOLDOFF_END (R378). -/
  | acqHoldoffEnd (u : Fin 32)
  /-- ACQ_GAP (R385). -/
  | acqGap (u : Fin 32) (on : Bool)
  /-- ACQ_DISABLE_DEADLINE (R386). -/
  | acqDisableDeadline (u : Fin 32)
  /-- TRG_PULSE_DRIVE (R389). -/
  | trgPulseDrive (line : Fin 4)
  /-- TRG_EDGE_RECEIVE (R390). -/
  | trgEdgeReceive (line : Fin 4) (tag : DWord) (rise : Bool)
  /-- TRG_ECHO (R391). -/
  | trgEcho (line : Fin 4)
  /-- TILE_AGGREGATE_SEND (R394). -/
  | tileAggregateSend (p mn mx : Word) (sum : DWord) (count : BitVec 24) (qmask : BitVec 11) (nan credits : Bool)
  /-- THATCH_UPDATE (R394). -/
  | thatchUpdate
  /-- THATCH_INTERVAL_CLOSE (R398). -/
  | thatchIntervalClose (p : Word)
  /-- THATCH_LOAD_WINDOW (R405). -/
  | thatchLoadWindow (queueFull creditWait : Bool)
  /-- THATCH_TIGHT_HOLD_EXPIRY (R404). -/
  | thatchTightHoldExpiry (p : Word)
  /-- EVENT_RECORD_CREATE (R413). -/
  | eventRecordCreate
  /-- COALESCE_WINDOW_END (R414). -/
  | coalesceWindowEnd
  /-- RECORD_COMMIT (R415). -/
  | recordCommit
  /-- JOURNAL_SECTOR_RECLAIM (R416). -/
  | journalSectorReclaim
  /-- RECORDER_FAULT (R423). -/
  | recorderFault (code : Fin 4) (addr : Word)
  /-- CAN_TX_START (R433). -/
  | canTxStart (ch : Fin 8)
  /-- CAN_TX_ATTEMPT_END (R435). -/
  | canTxAttemptEnd (ch : Fin 8) (result : Fin 6) (dur : Half)
  /-- CAN_FRAME_RECEIVE (R437). -/
  | canFrameReceive (ch : Fin 8) (id : Word) (data : List Byte) (tag : DWord) (dur : Half)
  /-- CAN_TXD_TIMEOUT (R426). -/
  | canTxdTimeout (ch : Fin 8)
  /-- CAN_BUS_OFF_RECOVERY (R442). -/
  | canBusOffRecovery (ch : Fin 8)
  /-- CAN_SLOT_DEADLINE (R435). -/
  | canSlotDeadline (ch : Fin 8) (slot : Fin 32)
  /-- CAN_PROTOCOL_EXCEPTION (R439). -/
  | canProtocolException (ch : Fin 8)
  /-- CAN_HOLD_REPEAT (R436). -/
  | canHoldRepeat (ch : Fin 8) (slot : Fin 32)
  /-- TT_REFERENCE_SEND (R448). -/
  | ttReferenceSend (ch : Fin 8) (won : Bool)
  /-- TT_WINDOW (R450). -/
  | ttWindow (ch : Fin 8) (slot : Fin 32) (idle : Bool)
  /-- TT_SYNC_LOSS (R449). -/
  | ttSyncLoss (ch : Fin 8)
  /-- CSX_INPUT_FRAME (R459). -/
  | csxInputFrame (port : Fin 3) (mac : BitVec 48) (payload : List Byte)
  /-- QBV_GATE_CHANGE (R456). -/
  | qbvGateChange (port : Fin 3)
  /-- ETH_LINK_CHANGE (R461). -/
  | ethLinkChange (port : Fin 3) (up : Bool) (speed : Fin 4)
  /-- PTP_SYNC_RECEIVE (R463). -/
  | ptpSyncReceive (port : Fin 3) (master stamp origin : DWord)
  /-- PTP_SYNC_SEND (R472). -/
  | ptpSyncSend (port : Fin 3)
  /-- TIME_CORRECTION (R466). -/
  | timeCorrection (dom : Fin 3)
  /-- TIME_STEP (R465). -/
  | timeStep (dom : Fin 3)
  /-- TIME_LOSS_TIMEOUT (R468). -/
  | timeLossTimeout (dom : Fin 3)
  /-- SEAM_HEARTBEAT_SEND (R474). -/
  | seamHeartbeatSend
  /-- SEAM_HEARTBEAT_RECEIVE (R476). -/
  | seamHeartbeatReceive (lane : Fin 2) (t0 : DWord) (role : Fin 2) (mode : Fin 12) (st : Fin 6) (latched same : Bool) (rtt : Word)
  /-- SEAM_FORWARD_RECEIVE (R477). -/
  | seamForwardReceive (msg : SeamMsg)
  /-- END_OF_INSTANT_TIMEOUT (R478). -/
  | endOfInstantTimeout
  /-- SNAPSHOT_APPLIED (R475). -/
  | snapshotApplied (snap : Machine.Snap)
  /-- TAKEOVER (R481). -/
  | takeover
  /-- PARALLEL_ANALOG_OPEN (R482). -/
  | parallelAnalogOpen (tile : Fin 4)
  /-- PARALLEL_CHANNEL_RELEASE (R482). -/
  | parallelChannelRelease (tile : Fin 4)
  /-- TWIN_SWAP_INSTANT (R484). -/
  | twinSwapInstant
  /-- TWIN_SWAP_ANALOG_CLOSE (R484). -/
  | twinSwapAnalogClose
  /-- TWIN_SWAP_RELEASE (R484). -/
  | twinSwapRelease
  /-- PROOF_SWAP (R486). -/
  | proofSwap (ma : List (BitVec 9 × Word))
  /-- PROOF_SWAP_RELEASE (R486). -/
  | proofSwapRelease
  /-- PROOF_CHECK (R487). -/
  | proofCheck (inc out : List (BitVec 9 × Word))
  /-- TWIN_PIN_MISMATCH (R479). -/
  | twinPinMismatch (c : BitVec 9) (mv : Nat)
  /-- PAIR_WAIT_EXPIRY (R485). -/
  | pairWaitExpiry
  /-- PERMIT_FRAME (R491). -/
  | permitFrame (tile : Fin 4) (echo : Bool)
  /-- PERMIT_REPORT (R492). -/
  | permitReport (tile : Fin 4) (slots : List Nat)
  /-- PERMIT_ECHO_MISSING (R492). -/
  | permitEchoMissing (tile : Fin 4)
  /-- CUT_TEST_SCHEDULE (R494). -/
  | cutTestSchedule (g : Fin 64) (el : Fin 2)
  /-- CUT_TEST_DUE (R494). -/
  | cutTestDue (g : Fin 64)
  /-- ESTOP_DEMAND (R495). -/
  | estopDemand (aLow bLow : Bool)
  /-- ESTOP_DISCREPANCY (R495). -/
  | estopDiscrepancy (aHigh : Bool)
  /-- ESTOP_RELEASE (R495). -/
  | estopRelease
  /-- ERRIN_DEMAND (R496). -/
  | errinDemand
  /-- ERRIN_RELEASE (R496). -/
  | errinRelease
  /-- RIDGE_WATCHDOG (R489). -/
  | ridgeWatchdog (wd : Fin 2)
  /-- RIDGE_CONFIG_CHECK (R490). -/
  | ridgeConfigCheck (crc : Word)
  /-- RIDGE_FAULT_REPORT (R497). -/
  | ridgeFaultReport
  /-- SAFE_COMMAND_RECEIVE (R500). -/
  | safeCommandReceive (isl : Byte)
  /-- RIDGE_STARTUP_TEST_END (R502). -/
  | ridgeStartupTestEnd (part : Fin 5) (passed : Bool) (tested : BitVec 64)
  /-- CV_JOB_START (R513). -/
  | cvJobStart (u : Fin 4)
  /-- CV_JOB_END (R515). -/
  | cvJobEnd (u : Fin 4) (data : List Byte) (fault : Fin 3) (off : Word)
  /-- IMAGE_RESCAN (R519). -/
  | imageRescan (bad : Bool)
  /-- DIE_TEMP_MEASURE (R576). -/
  | dieTempMeasure (die : Fin 5) (mc : Word)
  /-- SPI_TRANSFER (R521). -/
  | spiTransfer (mosi : List Byte)
  /-- UDP_DATAGRAM (R522). -/
  | udpDatagram (src : BitVec 48) (frag : Bool) (fr : List Byte)
  /-- CMD_TAIL_WRITE (R528). -/
  | cmdTailWrite (m : Fin 8) (w : Word)
  /-- RSP_HEAD_WRITE (R529). -/
  | rspHeadWrite (m : Fin 8) (w : Word)
  /-- MB_CTRL_RESET (R532). -/
  | mbCtrlReset (m : Fin 8)
  /-- MB_CTRL_RELEASE (R535). -/
  | mbCtrlRelease (m : Fin 8)
  /-- GLB_INT_SET_WRITE (R524). -/
  | glbIntSetWrite (w : Word)
  /-- GLB_T0_LO_READ (R524). -/
  | glbT0LoRead
  /-- GLB_HOST_HB_WRITE (R539). -/
  | glbHostHbWrite (w : Word)
  /-- MB_ERR_READ (R524). -/
  | mbErrRead (m : Fin 8)
  /-- GLB_LINK_ERR_READ (R524). -/
  | glbLinkErrRead
  /-- REGISTER_WRITE (R9). -/
  | registerWrite (bar : Fin 3) (off : BitVec 24) (w : Word)
  /-- FRAME_TAKE_IN (R531). -/
  | frameTakeIn
  /-- RESPONSE_WRITE (R533). -/
  | responseWrite (m : Fin 8)
  /-- MB_INT_HOLDOFF (R538). -/
  | mbIntHoldoff (m : Fin 8)
  /-- COMMAND_DEADLINE (R534). -/
  | commandDeadline (m : Fin 8)
  /-- STEWARD_HEARTBEAT (R539). -/
  | stewardHeartbeat
  /-- HOST_HB_TIMEOUT (R539). -/
  | hostHbTimeout
  /-- UDP_IDLE_EXPIRY (R535). -/
  | udpIdleExpiry (m : Fin 8)
  /-- DEVICE_INFO (R546). -/
  | deviceInfo (r : Req)
  /-- MODE_SET (R71). -/
  | modeSet (r : Req)
  /-- DEVICE_RESTART (R547). -/
  | deviceRestart (r : Req)
  /-- DEVICE_RESTART_TRIGGER (R547). -/
  | deviceRestartTrigger
  /-- BULK_WRITE (R546). -/
  | bulkWrite (r : Req)
  /-- BULK_READ (R546). -/
  | bulkRead (r : Req)
  /-- PARAM_GET (R546). -/
  | paramGet (r : Req)
  /-- PARAM_SET (R558). -/
  | paramSet (r : Req)
  /-- PARAM_UNSET (R546). -/
  | paramUnset (r : Req)
  /-- PARAM_DESCRIBE (R546). -/
  | paramDescribe (r : Req)
  /-- POINT_READ (R546). -/
  | pointRead (r : Req)
  /-- POINT_WRITE (R61). -/
  | pointWrite (r : Req)
  /-- POINT_FORCE (R62). -/
  | pointForce (r : Req)
  /-- POINT_UNFORCE (R64). -/
  | pointUnforce (r : Req)
  /-- POINT_SIMULATE (R63). -/
  | pointSimulate (r : Req)
  /-- POINT_UNSIMULATE (R64). -/
  | pointUnsimulate (r : Req)
  /-- TASK_TRIGGER (R96). -/
  | taskTrigger (r : Req)
  /-- IMAGE_STAGE (R548). -/
  | imageStage (r : Req)
  /-- IMAGE_LOAD (R89). -/
  | imageLoad (r : Req)
  /-- DECK_LOAD (R86). -/
  | deckLoad (r : Req)
  /-- DECK_COMMIT (R88). -/
  | deckCommit (r : Req)
  /-- DECK_SAVE (R82). -/
  | deckSave (r : Req)
  /-- IMAGE_INFO (R546). -/
  | imageInfo (r : Req)
  /-- FW_UPDATE (R551). -/
  | fwUpdate (r : Req)
  /-- FW_UPDATE_DONE (R551). -/
  | fwUpdateDone (sigOk readOk : Bool)
  /-- FW_SWAP (R552). -/
  | fwSwap (r : Req)
  /-- FIRMWARE_SWAP_RESTART (R552). -/
  | firmwareSwapRestart
  /-- PROG_EXCHANGE (R149). -/
  | progExchange (r : Req)
  /-- PROG_REVERT (R160). -/
  | progRevert (r : Req)
  /-- EXCH_REPORT_GET (R159). -/
  | exchReportGet (r : Req)
  /-- LOOP_FLAGS_CLEAR (R172). -/
  | loopFlagsClear (r : Req)
  /-- LOOP_TUNE (R190). -/
  | loopTune (r : Req)
  /-- LOOP_TUNE_RESULT (R193). -/
  | loopTuneResult (r : Req)
  /-- LOOP_TUNE_ACCEPT (R193). -/
  | loopTuneAccept (r : Req)
  /-- AXIS_JOG (R554). -/
  | axisJog (r : Req)
  /-- AXIS_MOVE (R230). -/
  | axisMove (r : Req)
  /-- AXIS_HOME (R248). -/
  | axisHome (r : Req)
  /-- AXIS_STOP (R247). -/
  | axisStop (r : Req)
  /-- CH_ACK (R286). -/
  | chAck (r : Req)
  /-- ENC_ARM (R307). -/
  | encArm (r : Req)
  /-- ENC_CLEAR (R308). -/
  | encClear (r : Req)
  /-- STREAM_LOAD (R313). -/
  | streamLoad (r : Req)
  /-- STREAM_START (R322). -/
  | streamStart (r : Req)
  /-- STREAM_PAUSE (R322). -/
  | streamPause (r : Req)
  /-- STREAM_CONTINUE (R322). -/
  | streamContinue (r : Req)
  /-- STREAM_ABORT (R323). -/
  | streamAbort (r : Req)
  /-- OP_RESOLVE (R342). -/
  | opResolve (r : Req)
  /-- ACQ_ARM (R375). -/
  | acqArm (r : Req)
  /-- ACQ_TRIGGER (R374). -/
  | acqTrigger (r : Req)
  /-- ACQ_STOP (R386). -/
  | acqStop (r : Req)
  /-- ACQ_READ (R380). -/
  | acqRead (r : Req)
  /-- ACQ_RELEASE (R380). -/
  | acqRelease (r : Req)
  /-- TRG_CALIBRATE (R391). -/
  | trgCalibrate (r : Req)
  /-- THATCH_QUERY (R409). -/
  | thatchQuery (r : Req)
  /-- EVT_READ (R555). -/
  | evtRead (r : Req)
  /-- EVT_STATUS_GET (R417). -/
  | evtStatusGet (r : Req)
  /-- EVT_CLASSES_GET (R412). -/
  | evtClassesGet (r : Req)
  /-- EVT_ANCHORS_GET (R418). -/
  | evtAnchorsGet (r : Req)
  /-- EVT_SECRET_SET (R422). -/
  | evtSecretSet (r : Req)
  /-- EVT_CLEAR_CHALLENGE (R422). -/
  | evtClearChallenge (r : Req)
  /-- EVT_CLEAR (R422). -/
  | evtClear (r : Req)
  /-- CAN_SEND (R432). -/
  | canSend (r : Req)
  /-- CAN_ABORT (R435). -/
  | canAbort (r : Req)
  /-- CAN_RECOVER (R442). -/
  | canRecover (r : Req)
  /-- TIME_RESTEP (R469). -/
  | timeRestep (r : Req)
  /-- TWIN_PAIR (R475). -/
  | twinPair (r : Req)
  /-- TWIN_SWAP (R484). -/
  | twinSwap (r : Req)
  /-- TWIN_STATUS_GET (R475). -/
  | twinStatusGet (r : Req)
  /-- SAFE_RESET (R498). -/
  | safeReset (r : Req)
  /-- SAFE_GROUP_RESET (R498). -/
  | safeGroupReset (r : Req)
  /-- SAFE_PROOF_TEST (R494). -/
  | safeProofTest (r : Req)
  /-- CV_SCAN (R512). -/
  | cvScan (r : Req)
  /-- CV_RESULT_GET (R515). -/
  | cvResultGet (r : Req)
  /-- CV_ABORT (R515). -/
  | cvAbort (r : Req)
  /-- STEWARD_READY_TIMEOUT (R553). -/
  | stewardReadyTimeout
  /-- RIDGE_HEARTBEAT_LOSS (R498). -/
  | ridgeHeartbeatLoss
  /-- TWIN_LANE_FAULT (R478). -/
  | twinLaneFault (lane : Fin 2) (heavy : Bool)
  /-- PTP_ANNOUNCE_RECEIVE (R472). -/
  | ptpAnnounceReceive (port : Fin 3) (master rank : DWord) (steps : Half)
  /-- PTP_DELAY_RESPONSE (R463). -/
  | ptpDelayResponse (port : Fin 3) (t1 t2 t3 t4 : DWord)
  /-- CAN_RX_ERROR (R440). -/
  | canRxError (ch : Fin 8) (dom : Bool)
  /-- LINE_FAULT_CLEAR (R308). -/
  | lineFaultClear (e : Fin 16)
  /-- PEX_TIMEOUT (R439). -/
  | pexTimeout (ch : Fin 8)
  /-- NO_ECHO (R545). -/
  | noEcho (line : Fin 4)
  /-- BL_ILLEGAL_OPCODE (R120). -/
  | blIllegalOpcode (ce : Fin 16) (word : Word)
  /-- LE_ILLEGAL_OPCODE (R215). -/
  | leIllegalOpcode (le : Fin 8) (word : Word)
  deriving DecidableEq, Repr

end Sys2Proof
end

