-- ==== Sys2Proof/Machine/Float.lean ====
section
/-! DEFINITION. IEEE 754 binary32 and binary64 arithmetic in exact integers with one rounding, nearest even (R46, R65, R114, R395). -/

namespace Sys2Proof.Machine

/-- A binary format: exponent bits and fraction bits. -/
structure Fmt where
  eb : Nat
  fb : Nat
  deriving DecidableEq, Repr

/-- IEEE 754 binary32. -/
def f32 : Fmt := ⟨8, 23⟩
/-- IEEE 754 binary64. -/
def f64 : Fmt := ⟨11, 52⟩

/-- A decoded number: NaN, a signed infinity, or sign and magnitude `mant * 2^ex`. -/
inductive Num where
  | nan
  | inf (neg : Bool)
  | fin (neg : Bool) (mant : Nat) (ex : Int)
  deriving DecidableEq, Repr

/-- The exponent of one unit of a subnormal of the format. -/
def fmtMin (f : Fmt) : Int := 2 - (2 ^ (f.eb - 1) : Nat) - f.fb

/-- Decode the bits of a format. -/
def fdec (f : Fmt) (b : Nat) : Num :=
  let neg := b / 2 ^ (f.eb + f.fb) % 2 = 1
  let e := b / 2 ^ f.fb % 2 ^ f.eb
  let m := b % 2 ^ f.fb
  if e = 2 ^ f.eb - 1 then (if m = 0 then .inf neg else .nan)
  else if e = 0 then .fin neg m (fmtMin f)
  else .fin neg (2 ^ f.fb + m) (fmtMin f + e - 1)

/-- Bits with a sign, an exponent field and a fraction. -/
def fpack (f : Fmt) (neg : Bool) (e m : Nat) : Nat :=
  (if neg then 2 ^ (f.eb + f.fb) else 0) + e * 2 ^ f.fb + m

/-- The canonical quiet NaN, sign 0 (0x7FC00000 for binary32). -/
def fnan (f : Fmt) : Nat := fpack f false (2 ^ f.eb - 1) (2 ^ (f.fb - 1))
/-- A signed infinity. -/
def finf (f : Fmt) (neg : Bool) : Nat := fpack f neg (2 ^ f.eb - 1) 0

/-- `m / 2^k` rounded to the nearest integer, ties to even. -/
def rneShift (m k : Nat) : Nat :=
  let q := m / 2 ^ k
  let r := m % 2 ^ k
  if 2 * r > 2 ^ k then q + 1 else if 2 * r = 2 ^ k ∧ k ≠ 0 then q + q % 2 else q

/-- Round `mant * 2^ex` into the format; `flush` replaces a subnormal result by a zero of the same sign. -/
def fround (f : Fmt) (flush : Bool) (neg : Bool) (mant : Nat) (ex : Int) : Nat :=
  if mant = 0 then fpack f neg 0 0
  else
    let top := (Nat.log2 mant : Int) + ex
    let q := max (top - f.fb) (fmtMin f)
    let m := if ex ≥ q then mant * 2 ^ (ex - q).toNat else rneShift mant (q - ex).toNat
    let m' := if m = 2 ^ (f.fb + 1) then 2 ^ f.fb else m
    let q' := if m = 2 ^ (f.fb + 1) then q + 1 else q
    if m' < 2 ^ f.fb then (if flush then fpack f neg 0 0 else fpack f neg 0 m')
    else
      let e := (q' - fmtMin f).toNat + 1
      if e ≥ 2 ^ f.eb - 1 then finf f neg else fpack f neg e (m' - 2 ^ f.fb)

/-- A signed exact sum as sign and magnitude; a zero sum of unlike signs is +0. -/
def faddFin (f : Fmt) (flush : Bool) (n1 : Bool) (m1 : Nat) (e1 : Int) (n2 : Bool) (m2 : Nat) (e2 : Int) : Nat :=
  let e := min e1 e2
  let a : Int := (if n1 then -1 else 1) * (m1 * 2 ^ (e1 - e).toNat : Nat)
  let b : Int := (if n2 then -1 else 1) * (m2 * 2 ^ (e2 - e).toNat : Nat)
  let c := a + b
  if c = 0 then fpack f (n1 && n2) 0 0 else fround f flush (c < 0) c.natAbs e

/-- Addition. -/
def fadd (f : Fmt) (flush : Bool) (x y : Nat) : Nat :=
  match fdec f x, fdec f y with
  | .nan, _ => fnan f
  | _, .nan => fnan f
  | .inf a, .inf b => if a = b then finf f a else fnan f
  | .inf a, _ => finf f a
  | _, .inf b => finf f b
  | .fin a m e, .fin b n g => faddFin f flush a m e b n g

/-- Sign bit inverted. -/
def fneg (f : Fmt) (x : Nat) : Nat :=
  if x / 2 ^ (f.eb + f.fb) % 2 = 1 then x - 2 ^ (f.eb + f.fb) else x + 2 ^ (f.eb + f.fb)
/-- Sign bit cleared. -/
def fabs (f : Fmt) (x : Nat) : Nat := x % 2 ^ (f.eb + f.fb)
/-- Subtraction. -/
def fsub (f : Fmt) (flush : Bool) (x y : Nat) : Nat := fadd f flush x (fneg f y)

/-- Multiplication. -/
def fmul (f : Fmt) (flush : Bool) (x y : Nat) : Nat :=
  match fdec f x, fdec f y with
  | .nan, _ => fnan f
  | _, .nan => fnan f
  | .inf a, .inf b => finf f (a != b)
  | .inf a, .fin b n _ => if n = 0 then fnan f else finf f (a != b)
  | .fin a m _, .inf b => if m = 0 then fnan f else finf f (a != b)
  | .fin a m e, .fin b n g => fround f flush (a != b) (m * n) (e + g)

/-- Division. -/
def fdiv (f : Fmt) (flush : Bool) (x y : Nat) : Nat :=
  match fdec f x, fdec f y with
  | .nan, _ => fnan f
  | _, .nan => fnan f
  | .inf _, .inf _ => fnan f
  | .inf a, .fin b _ _ => finf f (a != b)
  | .fin a _ _, .inf b => fpack f (a != b) 0 0
  | .fin a m e, .fin b n g =>
    if n = 0 then (if m = 0 then fnan f else finf f (a != b))
    else
      let k := 2 * f.fb + 8
      let q := m * 2 ^ k / n
      let r := m * 2 ^ k % n
      fround f flush (a != b) (2 * q + (if r = 0 then 0 else 1)) (e - g - k - 1)

/-- An integer rounded into the format. -/
def fofInt (f : Fmt) (i : Int) : Nat := fround f false (i < 0) i.natAbs 0

/-- The integer part, truncated towards zero; none for NaN and infinities. -/
def ftrunc (f : Fmt) (x : Nat) : Option Int :=
  match fdec f x with
  | .fin n m e =>
    let a : Nat := if e ≥ 0 then m * 2 ^ e.toNat else m / 2 ^ (-e).toNat
    some (if n then -(a : Int) else a)
  | _ => none

/-- The nearest integer, ties to even; none for NaN and infinities. -/
def fnear (f : Fmt) (x : Nat) : Option Int :=
  match fdec f x with
  | .fin n m e =>
    let a : Nat := if e ≥ 0 then m * 2 ^ e.toNat else rneShift m (-e).toNat
    some (if n then -(a : Int) else a)
  | _ => none

/-- Whether the bits are a NaN. -/
def fisNan (f : Fmt) (x : Nat) : Bool := match fdec f x with | .nan => true | _ => false
/-- Whether the bits are finite. -/
def fisFin (f : Fmt) (x : Nat) : Bool := match fdec f x with | .fin _ _ _ => true | _ => false

/-- The place of a non-NaN value in the numeric order; both zeros are 0. -/
def forder (f : Fmt) (x : Nat) : Int :=
  if x / 2 ^ (f.eb + f.fb) % 2 = 1 then -((x % 2 ^ (f.eb + f.fb) : Nat) : Int) else x

/-- IEEE less-than: false with a NaN. -/
def flt (f : Fmt) (x y : Nat) : Bool := !fisNan f x && !fisNan f y && decide (forder f x < forder f y)
/-- IEEE less-or-equal: false with a NaN. -/
def fle (f : Fmt) (x y : Nat) : Bool := !fisNan f x && !fisNan f y && decide (forder f x ≤ forder f y)
/-- IEEE equality: false with a NaN. -/
def feq (f : Fmt) (x y : Nat) : Bool := !fisNan f x && !fisNan f y && decide (forder f x = forder f y)

/-- The order key of binary32 bits. -/
def fkey (b : Nat) : Int := forder f32 b

/-- Convert between formats. -/
def fconv (f g : Fmt) (x : Nat) : Nat :=
  match fdec f x with
  | .nan => fnan g
  | .inf n => finf g n
  | .fin n m e => fround g false n m e

end Sys2Proof.Machine
end

