-- ==== Sys2Proof/Machine/Params.lean ====
section
/-! DEFINITION. The parameter dictionary (R523, R557-R561 and each chapter's parameter table): kind numbers, types, ranges, defaults, change modes. -/

namespace Sys2Proof.Machine

/-- Parameter types with their codes in the order of R557. -/
inductive PTy where
  | bool | u8 | u16 | u32 | i8 | i32 | f32 | bits | point
  deriving DecidableEq, Repr

/-- Change modes (R90, R91), codes 0 to 3 (R557). -/
inductive PCm where
  | live | mode | restart | image
  deriving DecidableEq, Repr

/-- A bound against another parameter of the same index (R558 step 5). -/
inductive PRel where
  | lt | le | gt | ge
  deriving DecidableEq, Repr

/-- A kind's description. `lo` and `hi` are in value order (for FLOAT32 the order key of the bits); `sym` admits the mirrored negative range; `alts` are further single values. -/
structure ParamDesc where
  code : Nat
  name : String
  units : String
  ty : PTy
  cm : PCm
  first : Nat
  last : Nat
  lo : Int
  hi : Int
  step : Nat
  sym : Bool
  alts : List Int
  deps : List (PRel × Nat)
  dflt : Nat
  dfltOf : Option Nat
  deriving DecidableEq, Repr

/-- `LOOP.ENABLE`: class and kind (R559). -/
abbrev pLoopEnable : Nat := 0x05001
/-- `LOOP.MODE`: class and kind (R559). -/
abbrev pLoopMode : Nat := 0x05002
/-- `LOOP.LAW`: class and kind (R559). -/
abbrev pLoopLaw : Nat := 0x05003
/-- `LOOP.LAW_IMAGE`: class and kind (R559). -/
abbrev pLoopLawImage : Nat := 0x05004
/-- `LOOP.PERIOD`: class and kind (R559). -/
abbrev pLoopPeriod : Nat := 0x05005
/-- `LOOP.PHASE`: class and kind (R559). -/
abbrev pLoopPhase : Nat := 0x05006
/-- `LOOP.ACTION`: class and kind (R559). -/
abbrev pLoopAction : Nat := 0x05007
/-- `LOOP.PV_SRC`: class and kind (R559). -/
abbrev pLoopPvSrc : Nat := 0x05008
/-- `LOOP.SP_SRC`: class and kind (R559). -/
abbrev pLoopSpSrc : Nat := 0x05009
/-- `LOOP.FF_SRC`: class and kind (R559). -/
abbrev pLoopFfSrc : Nat := 0x0500A
/-- `LOOP.TRACK_SRC`: class and kind (R559). -/
abbrev pLoopTrackSrc : Nat := 0x0500B
/-- `LOOP.OUT_DST`: class and kind (R559). -/
abbrev pLoopOutDst : Nat := 0x0500C
/-- `LOOP.PV_LO`: class and kind (R559). -/
abbrev pLoopPvLo : Nat := 0x0500D
/-- `LOOP.PV_HI`: class and kind (R559). -/
abbrev pLoopPvHi : Nat := 0x0500E
/-- `LOOP.OUT_LO`: class and kind (R559). -/
abbrev pLoopOutLo : Nat := 0x0500F
/-- `LOOP.OUT_HI`: class and kind (R559). -/
abbrev pLoopOutHi : Nat := 0x05010
/-- `LOOP.OUT_MIN`: class and kind (R559). -/
abbrev pLoopOutMin : Nat := 0x05011
/-- `LOOP.OUT_MAX`: class and kind (R559). -/
abbrev pLoopOutMax : Nat := 0x05012
/-- `LOOP.OUT_RATE`: class and kind (R559). -/
abbrev pLoopOutRate : Nat := 0x05013
/-- `LOOP.OUT_OFF`: class and kind (R559). -/
abbrev pLoopOutOff : Nat := 0x05014
/-- `LOOP.MAN_OUT`: class and kind (R559). -/
abbrev pLoopManOut : Nat := 0x05015
/-- `LOOP.SP_LOCAL`: class and kind (R559). -/
abbrev pLoopSpLocal : Nat := 0x05016
/-- `LOOP.SP_MIN`: class and kind (R559). -/
abbrev pLoopSpMin : Nat := 0x05017
/-- `LOOP.SP_MAX`: class and kind (R559). -/
abbrev pLoopSpMax : Nat := 0x05018
/-- `LOOP.SP_VMAX`: class and kind (R559). -/
abbrev pLoopSpVmax : Nat := 0x05019
/-- `LOOP.SP_AMAX`: class and kind (R559). -/
abbrev pLoopSpAmax : Nat := 0x0501A
/-- `LOOP.SP_JMAX`: class and kind (R559). -/
abbrev pLoopSpJmax : Nat := 0x0501B
/-- `LOOP.SP_TRACK_MAN`: class and kind (R559). -/
abbrev pLoopSpTrackMan : Nat := 0x0501C
/-- `LOOP.KP`: class and kind (R559). -/
abbrev pLoopKp : Nat := 0x0501D
/-- `LOOP.KP_MAX`: class and kind (R559). -/
abbrev pLoopKpMax : Nat := 0x0501E
/-- `LOOP.TI`: class and kind (R559). -/
abbrev pLoopTi : Nat := 0x0501F
/-- `LOOP.TD`: class and kind (R559). -/
abbrev pLoopTd : Nat := 0x05020
/-- `LOOP.N`: class and kind (R559). -/
abbrev pLoopN : Nat := 0x05021
/-- `LOOP.B`: class and kind (R559). -/
abbrev pLoopB : Nat := 0x05022
/-- `LOOP.C`: class and kind (R559). -/
abbrev pLoopC : Nat := 0x05023
/-- `LOOP.TT`: class and kind (R559). -/
abbrev pLoopTt : Nat := 0x05024
/-- `LOOP.LL_K`: class and kind (R559). -/
abbrev pLoopLlK : Nat := 0x05025
/-- `LOOP.LL_T1`: class and kind (R559). -/
abbrev pLoopLlT1 : Nat := 0x05026
/-- `LOOP.LL_T2`: class and kind (R559). -/
abbrev pLoopLlT2 : Nat := 0x05027
/-- `LOOP.LL_IN`: class and kind (R559). -/
abbrev pLoopLlIn : Nat := 0x05028
/-- `LOOP.F1_KIND`: class and kind (R559). -/
abbrev pLoopF1Kind : Nat := 0x05029
/-- `LOOP.F2_KIND`: class and kind (R559). -/
abbrev pLoopF2Kind : Nat := 0x0502A
/-- `LOOP.F1_A`: class and kind (R559). -/
abbrev pLoopF1A : Nat := 0x0502B
/-- `LOOP.F1_B`: class and kind (R559). -/
abbrev pLoopF1B : Nat := 0x0502C
/-- `LOOP.F1_C`: class and kind (R559). -/
abbrev pLoopF1C : Nat := 0x0502D
/-- `LOOP.F2_A`: class and kind (R559). -/
abbrev pLoopF2A : Nat := 0x0502E
/-- `LOOP.F2_B`: class and kind (R559). -/
abbrev pLoopF2B : Nat := 0x0502F
/-- `LOOP.F2_C`: class and kind (R559). -/
abbrev pLoopF2C : Nat := 0x05030
/-- `LOOP.FF_KF`: class and kind (R559). -/
abbrev pLoopFfKf : Nat := 0x05031
/-- `LOOP.FF_KD`: class and kind (R559). -/
abbrev pLoopFfKd : Nat := 0x05032
/-- `LOOP.FF_Z0`: class and kind (R559). -/
abbrev pLoopFfZ0 : Nat := 0x05033
/-- `LOOP.DISABLE_ACTION`: class and kind (R559). -/
abbrev pLoopDisableAction : Nat := 0x05034
/-- `LOOP.RUN_IN_IDLE`: class and kind (R559). -/
abbrev pLoopRunInIdle : Nat := 0x05035
/-- `LOOP.BAD_PV`: class and kind (R559). -/
abbrev pLoopBadPv : Nat := 0x05036
/-- `LOOP.HELD_TIME`: class and kind (R559). -/
abbrev pLoopHeldTime : Nat := 0x05037
/-- `LOOP.INPUT_WAIT`: class and kind (R559). -/
abbrev pLoopInputWait : Nat := 0x05038
/-- `LOOP.BRIDGE`: class and kind (R559). -/
abbrev pLoopBridge : Nat := 0x05039
/-- `LOOP.BR_KP`: class and kind (R559). -/
abbrev pLoopBrKp : Nat := 0x0503A
/-- `LOOP.BR_TI`: class and kind (R559). -/
abbrev pLoopBrTi : Nat := 0x0503B
/-- `LOOP.BR_PERIOD`: class and kind (R559). -/
abbrev pLoopBrPeriod : Nat := 0x0503C
/-- `LOOP.BR_BAND`: class and kind (R559). -/
abbrev pLoopBrBand : Nat := 0x0503D
/-- `LOOP.TUNE_AMP`: class and kind (R559). -/
abbrev pLoopTuneAmp : Nat := 0x0503E
/-- `LOOP.TUNE_HYST`: class and kind (R559). -/
abbrev pLoopTuneHyst : Nat := 0x0503F
/-- `LOOP.TUNE_LIMIT`: class and kind (R559). -/
abbrev pLoopTuneLimit : Nat := 0x05040
/-- `LOOP.TUNE_TIMEOUT`: class and kind (R559). -/
abbrev pLoopTuneTimeout : Nat := 0x05041
/-- `LOOP.TUNE_RULE`: class and kind (R559). -/
abbrev pLoopTuneRule : Nat := 0x05042
/-- `AXIS.ENABLE`: class and kind (R559). -/
abbrev pAxisEnable : Nat := 0x07001
/-- `AXIS.USTEP`: class and kind (R559). -/
abbrev pAxisUstep : Nat := 0x07002
/-- `AXIS.LEAD`: class and kind (R559). -/
abbrev pAxisLead : Nat := 0x07003
/-- `AXIS.VMAX`: class and kind (R559). -/
abbrev pAxisVmax : Nat := 0x07004
/-- `AXIS.AMAX`: class and kind (R559). -/
abbrev pAxisAmax : Nat := 0x07005
/-- `AXIS.JMAX`: class and kind (R559). -/
abbrev pAxisJmax : Nat := 0x07006
/-- `AXIS.STOP_AMAX`: class and kind (R559). -/
abbrev pAxisStopAmax : Nat := 0x07007
/-- `AXIS.STOP_JMAX`: class and kind (R559). -/
abbrev pAxisStopJmax : Nat := 0x07008
/-- `AXIS.V_START`: class and kind (R559). -/
abbrev pAxisVStart : Nat := 0x07009
/-- `AXIS.SOFT_NEG`: class and kind (R559). -/
abbrev pAxisSoftNeg : Nat := 0x0700A
/-- `AXIS.SOFT_POS`: class and kind (R559). -/
abbrev pAxisSoftPos : Nat := 0x0700B
/-- `AXIS.LIM_NEG_CH`: class and kind (R559). -/
abbrev pAxisLimNegCh : Nat := 0x0700C
/-- `AXIS.LIM_POS_CH`: class and kind (R559). -/
abbrev pAxisLimPosCh : Nat := 0x0700D
/-- `AXIS.HOME_CH`: class and kind (R559). -/
abbrev pAxisHomeCh : Nat := 0x0700E
/-- `AXIS.IN_POLARITY`: class and kind (R559). -/
abbrev pAxisInPolarity : Nat := 0x0700F
/-- `AXIS.LIM_DEBOUNCE`: class and kind (R559). -/
abbrev pAxisLimDebounce : Nat := 0x07010
/-- `AXIS.LIM_STOP`: class and kind (R559). -/
abbrev pAxisLimStop : Nat := 0x07011
/-- `AXIS.ENC`: class and kind (R559). -/
abbrev pAxisEnc : Nat := 0x07012
/-- `AXIS.ENC_RATIO`: class and kind (R559). -/
abbrev pAxisEncRatio : Nat := 0x07013
/-- `AXIS.DISABLE_DEADLINE`: class and kind (R559). -/
abbrev pAxisDisableDeadline : Nat := 0x07014
/-- `AXIS.HOME_METHOD`: class and kind (R559). -/
abbrev pAxisHomeMethod : Nat := 0x07015
/-- `AXIS.HOME_VFAST`: class and kind (R559). -/
abbrev pAxisHomeVfast : Nat := 0x07016
/-- `AXIS.HOME_VSLOW`: class and kind (R559). -/
abbrev pAxisHomeVslow : Nat := 0x07017
/-- `AXIS.HOME_POS`: class and kind (R559). -/
abbrev pAxisHomePos : Nat := 0x07018
/-- `AXIS.HOME_PARK`: class and kind (R559). -/
abbrev pAxisHomePark : Nat := 0x07019
/-- `AXIS.HOME_TRAVEL`: class and kind (R559). -/
abbrev pAxisHomeTravel : Nat := 0x0701A
/-- `AXIS.HOME_TIMEOUT`: class and kind (R559). -/
abbrev pAxisHomeTimeout : Nat := 0x0701B
/-- `AXIS.HOME_STALL`: class and kind (R559). -/
abbrev pAxisHomeStall : Nat := 0x0701C
/-- `PROF.KIND`: class and kind (R559). -/
abbrev pProfKind : Nat := 0x08001
/-- `PROF.VEL_SRC`: class and kind (R559). -/
abbrev pProfVelSrc : Nat := 0x08002
/-- `PROF.MASTER`: class and kind (R559). -/
abbrev pProfMaster : Nat := 0x08003
/-- `PROF.REMOTE_DST`: class and kind (R559). -/
abbrev pProfRemoteDst : Nat := 0x08004
/-- `PROF.REMOTE_PERIOD`: class and kind (R559). -/
abbrev pProfRemotePeriod : Nat := 0x08005
/-- `PROF.CAM`: class and kind (R559). -/
abbrev pProfCam : Nat := 0x08006
/-- `PROF.GEAR_NUM`: class and kind (R559). -/
abbrev pProfGearNum : Nat := 0x08007
/-- `PROF.GEAR_DEN`: class and kind (R559). -/
abbrev pProfGearDen : Nat := 0x08008
/-- `AXIS.RSENSE`: class and kind (R559). -/
abbrev pAxisRsense : Nat := 0x0701D
/-- `AXIS.I_RUN`: class and kind (R559). -/
abbrev pAxisIRun : Nat := 0x0701E
/-- `AXIS.I_HOLD`: class and kind (R559). -/
abbrev pAxisIHold : Nat := 0x0701F
/-- `AXIS.I_STALL`: class and kind (R559). -/
abbrev pAxisIStall : Nat := 0x07020
/-- `AXIS.HOLD_DELAY`: class and kind (R559). -/
abbrev pAxisHoldDelay : Nat := 0x07021
/-- `AXIS.HOLD_RAMP`: class and kind (R559). -/
abbrev pAxisHoldRamp : Nat := 0x07022
/-- `AXIS.ON_RAMP`: class and kind (R559). -/
abbrev pAxisOnRamp : Nat := 0x07023
/-- `AXIS.OFF_RAMP`: class and kind (R559). -/
abbrev pAxisOffRamp : Nat := 0x07024
/-- `AXIS.CHOP_MODE`: class and kind (R559). -/
abbrev pAxisChopMode : Nat := 0x07025
/-- `AXIS.T_OFF`: class and kind (R559). -/
abbrev pAxisTOff : Nat := 0x07026
/-- `AXIS.T_BLANK`: class and kind (R559). -/
abbrev pAxisTBlank : Nat := 0x07027
/-- `AXIS.FAST_FRAC`: class and kind (R559). -/
abbrev pAxisFastFrac : Nat := 0x07028
/-- `AXIS.HYST_WIDTH`: class and kind (R559). -/
abbrev pAxisHystWidth : Nat := 0x07029
/-- `AXIS.DEAD_TIME`: class and kind (R559). -/
abbrev pAxisDeadTime : Nat := 0x0702A
/-- `AXIS.KEEP_MODE`: class and kind (R559). -/
abbrev pAxisKeepMode : Nat := 0x0702B
/-- `CH.MODE`: class and kind (R559). -/
abbrev pChMode : Nat := 0x0A001
/-- `CH.DEFAULT_STATE`: class and kind (R559). -/
abbrev pChDefaultState : Nat := 0x0A002
/-- `CH.FILTER`: class and kind (R559). -/
abbrev pChFilter : Nat := 0x0A003
/-- `CH.IN_CURRENT`: class and kind (R559). -/
abbrev pChInCurrent : Nat := 0x0A004
/-- `CH.STEPDOWN_TIME`: class and kind (R559). -/
abbrev pChStepdownTime : Nat := 0x0A005
/-- `CH.WB_ENABLE`: class and kind (R559). -/
abbrev pChWbEnable : Nat := 0x0A006
/-- `CH.WB_TIME`: class and kind (R559). -/
abbrev pChWbTime : Nat := 0x0A007
/-- `CH.LOAD_MA`: class and kind (R559). -/
abbrev pChLoadMa : Nat := 0x0A008
/-- `CH.OVL_TIME`: class and kind (R559). -/
abbrev pChOvlTime : Nat := 0x0A009
/-- `CH.OVL_RETRY`: class and kind (R559). -/
abbrev pChOvlRetry : Nat := 0x0A00A
/-- `CH.RETRY_PERIOD`: class and kind (R559). -/
abbrev pChRetryPeriod : Nat := 0x0A00B
/-- `CH.OPEN_OFF_TEST`: class and kind (R559). -/
abbrev pChOpenOffTest : Nat := 0x0A00C
/-- `CH.OPEN_ON_MA`: class and kind (R559). -/
abbrev pChOpenOnMa : Nat := 0x0A00D
/-- `CH.SETTLE`: class and kind (R559). -/
abbrev pChSettle : Nat := 0x0A00E
/-- `CH.G_RESTORE`: class and kind (R559). -/
abbrev pChGRestore : Nat := 0x0A00F
/-- `AI.MODE`: class and kind (R559). -/
abbrev pAiMode : Nat := 0x0B001
/-- `AI.CONV`: class and kind (R559). -/
abbrev pAiConv : Nat := 0x0B002
/-- `AI.RATE`: class and kind (R559). -/
abbrev pAiRate : Nat := 0x0B003
/-- `AI.AVG`: class and kind (R559). -/
abbrev pAiAvg : Nat := 0x0B004
/-- `AI.T_INT`: class and kind (R559). -/
abbrev pAiTInt : Nat := 0x0B005
/-- `AI.SCALE_A`: class and kind (R559). -/
abbrev pAiScaleA : Nat := 0x0B006
/-- `AI.SCALE_B`: class and kind (R559). -/
abbrev pAiScaleB : Nat := 0x0B007
/-- `AI.TC_TYPE`: class and kind (R559). -/
abbrev pAiTcType : Nat := 0x0B008
/-- `AI.CJ_SRC`: class and kind (R559). -/
abbrev pAiCjSrc : Nat := 0x0B009
/-- `AI.RTD_WIRES`: class and kind (R559). -/
abbrev pAiRtdWires : Nat := 0x0B00A
/-- `AI.RANGE_LO`: class and kind (R559). -/
abbrev pAiRangeLo : Nat := 0x0B00B
/-- `AI.RANGE_HI`: class and kind (R559). -/
abbrev pAiRangeHi : Nat := 0x0B00C
/-- `ENC.MODE`: class and kind (R559). -/
abbrev pEncMode : Nat := 0x0D001
/-- `ENC.INPUT`: class and kind (R559). -/
abbrev pEncInput : Nat := 0x0D002
/-- `ENC.FILTER`: class and kind (R559). -/
abbrev pEncFilter : Nat := 0x0D003
/-- `ENC.DIR`: class and kind (R559). -/
abbrev pEncDir : Nat := 0x0D004
/-- `ENC.INDEX`: class and kind (R559). -/
abbrev pEncIndex : Nat := 0x0D005
/-- `ENC.Z_GATE`: class and kind (R559). -/
abbrev pEncZGate : Nat := 0x0D006
/-- `ENC.PPR`: class and kind (R559). -/
abbrev pEncPpr : Nat := 0x0D007
/-- `ENC.VEL_WINDOW`: class and kind (R559). -/
abbrev pEncVelWindow : Nat := 0x0D008
/-- `STREAM.TASK`: class and kind (R559). -/
abbrev pStreamTask : Nat := 0x0E001
/-- `STREAM.DRAIN_DEADLINE`: class and kind (R559). -/
abbrev pStreamDrainDeadline : Nat := 0x0E002
/-- `OP.CKPT_PERIOD`: class and kind (R559). -/
abbrev pOpCkptPeriod : Nat := 0x0F001
/-- `OP.CONTINUE_MAX`: class and kind (R559). -/
abbrev pOpContinueMax : Nat := 0x0F002
/-- `POCKET.OP_AREA`: class and kind (R559). -/
abbrev pPocketOpArea : Nat := 0x10001
/-- `POCKET.RETAIN_AREA`: class and kind (R559). -/
abbrev pPocketRetainArea : Nat := 0x10002
/-- `POCKET.SLOTS`: class and kind (R559). -/
abbrev pPocketSlots : Nat := 0x10003
/-- `ACQ.ENABLE`: class and kind (R559). -/
abbrev pAcqEnable : Nat := 0x11001
/-- `ACQ.SRC_KIND`: class and kind (R559). -/
abbrev pAcqSrcKind : Nat := 0x11002
/-- `ACQ.SRC0`: class and kind (R559). -/
abbrev pAcqSrc0 : Nat := 0x11003
/-- `ACQ.SRC1`: class and kind (R559). -/
abbrev pAcqSrc1 : Nat := 0x11004
/-- `ACQ.SRC2`: class and kind (R559). -/
abbrev pAcqSrc2 : Nat := 0x11005
/-- `ACQ.SRC3`: class and kind (R559). -/
abbrev pAcqSrc3 : Nat := 0x11006
/-- `ACQ.SRC4`: class and kind (R559). -/
abbrev pAcqSrc4 : Nat := 0x11007
/-- `ACQ.SRC5`: class and kind (R559). -/
abbrev pAcqSrc5 : Nat := 0x11008
/-- `ACQ.SRC6`: class and kind (R559). -/
abbrev pAcqSrc6 : Nat := 0x11009
/-- `ACQ.SRC7`: class and kind (R559). -/
abbrev pAcqSrc7 : Nat := 0x1100A
/-- `ACQ.FORMAT`: class and kind (R559). -/
abbrev pAcqFormat : Nat := 0x1100B
/-- `ACQ.DECIM`: class and kind (R559). -/
abbrev pAcqDecim : Nat := 0x1100C
/-- `ACQ.POINT_INTERVAL`: class and kind (R559). -/
abbrev pAcqPointInterval : Nat := 0x1100D
/-- `ACQ.DEADBAND`: class and kind (R559). -/
abbrev pAcqDeadband : Nat := 0x1100E
/-- `ACQ.PRE_US`: class and kind (R559). -/
abbrev pAcqPreUs : Nat := 0x1100F
/-- `ACQ.POST_US`: class and kind (R559). -/
abbrev pAcqPostUs : Nat := 0x11010
/-- `ACQ.POOL_KIB`: class and kind (R559). -/
abbrev pAcqPoolKib : Nat := 0x11011
/-- `ACQ.RING_MIB`: class and kind (R559). -/
abbrev pAcqRingMib : Nat := 0x11012
/-- `ACQ.RING_POLICY`: class and kind (R559). -/
abbrev pAcqRingPolicy : Nat := 0x11013
/-- `ACQ.MODE`: class and kind (R559). -/
abbrev pAcqMode : Nat := 0x11014
/-- `ACQ.TRIG_KIND`: class and kind (R559). -/
abbrev pAcqTrigKind : Nat := 0x11015
/-- `ACQ.TRIG_SRC`: class and kind (R559). -/
abbrev pAcqTrigSrc : Nat := 0x11016
/-- `ACQ.TRIG_LEVEL`: class and kind (R559). -/
abbrev pAcqTrigLevel : Nat := 0x11017
/-- `ACQ.TRIG_LEVEL2`: class and kind (R559). -/
abbrev pAcqTrigLevel2 : Nat := 0x11018
/-- `ACQ.TRIG_HYST`: class and kind (R559). -/
abbrev pAcqTrigHyst : Nat := 0x11019
/-- `ACQ.QUALIFIER`: class and kind (R559). -/
abbrev pAcqQualifier : Nat := 0x1101A
/-- `ACQ.HOLDOFF`: class and kind (R559). -/
abbrev pAcqHoldoff : Nat := 0x1101B
/-- `ACQ.AUTO_TIMEOUT`: class and kind (R559). -/
abbrev pAcqAutoTimeout : Nat := 0x1101C
/-- `ACQ.TRIG_OUT`: class and kind (R559). -/
abbrev pAcqTrigOut : Nat := 0x1101D
/-- `ACQ.DISABLE_DEADLINE`: class and kind (R559). -/
abbrev pAcqDisableDeadline : Nat := 0x1101E
/-- `ACQ.TRG_DELAY`: class and kind (R559). -/
abbrev pAcqTrgDelay : Nat := 0x1101F
/-- `ACQ.TRG_ECHO`: class and kind (R559). -/
abbrev pAcqTrgEcho : Nat := 0x11020
/-- `THATCH.ADAPT`: class and kind (R559). -/
abbrev pThatchAdapt : Nat := 0x12001
/-- `THATCH.ADAPT_LIMIT`: class and kind (R559). -/
abbrev pThatchAdaptLimit : Nat := 0x12002
/-- `THATCH.TIGHT_HOLD`: class and kind (R559). -/
abbrev pThatchTightHold : Nat := 0x12003
/-- `THATCH.TIGHT_MIB`: class and kind (R559). -/
abbrev pThatchTightMib : Nat := 0x12004
/-- `THATCH.LOG_MIB`: class and kind (R559). -/
abbrev pThatchLogMib : Nat := 0x12005
/-- `CAN.ENABLE`: class and kind (R559). -/
abbrev pCanEnable : Nat := 0x14001
/-- `CAN.OPMODE`: class and kind (R559). -/
abbrev pCanOpmode : Nat := 0x14002
/-- `CAN.FD`: class and kind (R559). -/
abbrev pCanFd : Nat := 0x14003
/-- `CAN.PEX`: class and kind (R559). -/
abbrev pCanPex : Nat := 0x14004
/-- `CAN.NBRP`: class and kind (R559). -/
abbrev pCanNbrp : Nat := 0x14005
/-- `CAN.NTSEG1`: class and kind (R559). -/
abbrev pCanNtseg1 : Nat := 0x14006
/-- `CAN.NTSEG2`: class and kind (R559). -/
abbrev pCanNtseg2 : Nat := 0x14007
/-- `CAN.NSJW`: class and kind (R559). -/
abbrev pCanNsjw : Nat := 0x14008
/-- `CAN.DBRP`: class and kind (R559). -/
abbrev pCanDbrp : Nat := 0x14009
/-- `CAN.DTSEG1`: class and kind (R559). -/
abbrev pCanDtseg1 : Nat := 0x1400A
/-- `CAN.DTSEG2`: class and kind (R559). -/
abbrev pCanDtseg2 : Nat := 0x1400B
/-- `CAN.DSJW`: class and kind (R559). -/
abbrev pCanDsjw : Nat := 0x1400C
/-- `CAN.TDC`: class and kind (R559). -/
abbrev pCanTdc : Nat := 0x1400D
/-- `CAN.TDC_OFFSET`: class and kind (R559). -/
abbrev pCanTdcOffset : Nat := 0x1400E
/-- `CAN.TRIPLE`: class and kind (R559). -/
abbrev pCanTriple : Nat := 0x1400F
/-- `CAN.TERM`: class and kind (R559). -/
abbrev pCanTerm : Nat := 0x14010
/-- `CAN.RECOVERY`: class and kind (R559). -/
abbrev pCanRecovery : Nat := 0x14011
/-- `CAN.TT_ROLE`: class and kind (R559). -/
abbrev pCanTtRole : Nat := 0x14012
/-- `CAN.TT_LEVEL`: class and kind (R559). -/
abbrev pCanTtLevel : Nat := 0x14013
/-- `CAN.TT_REF_ID`: class and kind (R559). -/
abbrev pCanTtRefId : Nat := 0x14014
/-- `CAN.TT_NTU`: class and kind (R559). -/
abbrev pCanTtNtu : Nat := 0x14015
/-- `CAN.TT_CYCLE`: class and kind (R559). -/
abbrev pCanTtCycle : Nat := 0x14016
/-- `CAN.TT_MASTER_TIME`: class and kind (R559). -/
abbrev pCanTtMasterTime : Nat := 0x14017
/-- `CAN.T2_SOURCE`: class and kind (R559). -/
abbrev pCanT2Source : Nat := 0x14018
/-- `CAN.SLOT_RETRY`: class and kind (R559). -/
abbrev pCanSlotRetry : Nat := 0x14019
/-- `CAN.SLOT_DEADLINE`: class and kind (R559). -/
abbrev pCanSlotDeadline : Nat := 0x1401A
/-- `CAN.SLOT_HOLD`: class and kind (R559). -/
abbrev pCanSlotHold : Nat := 0x1401B
/-- `CAN.SLOT_TT_OFFSET`: class and kind (R559). -/
abbrev pCanSlotTtOffset : Nat := 0x1401C
/-- `CAN.SLOT_TT_BASE`: class and kind (R559). -/
abbrev pCanSlotTtBase : Nat := 0x1401D
/-- `CAN.SLOT_TT_REPEAT`: class and kind (R559). -/
abbrev pCanSlotTtRepeat : Nat := 0x1401E
/-- `ETH.ENABLE`: class and kind (R559). -/
abbrev pEthEnable : Nat := 0x15001
/-- `ETH.SPEED`: class and kind (R559). -/
abbrev pEthSpeed : Nat := 0x15002
/-- `ETH.IPV4`: class and kind (R559). -/
abbrev pEthIpv4 : Nat := 0x15003
/-- `ETH.IPV4_MASK`: class and kind (R559). -/
abbrev pEthIpv4Mask : Nat := 0x15004
/-- `ETH.VID`: class and kind (R559). -/
abbrev pEthVid : Nat := 0x15005
/-- `ETH.PHY_TX_DELAY`: class and kind (R559). -/
abbrev pEthPhyTxDelay : Nat := 0x15006
/-- `ETH.PHY_RX_DELAY`: class and kind (R559). -/
abbrev pEthPhyRxDelay : Nat := 0x15007
/-- `ETH.QBV`: class and kind (R559). -/
abbrev pEthQbv : Nat := 0x15008
/-- `ETH.QBV_BASE`: class and kind (R559). -/
abbrev pEthQbvBase : Nat := 0x15009
/-- `ETH.GCL_LEN`: class and kind (R559). -/
abbrev pEthGclLen : Nat := 0x1500A
/-- `ETH.GCL_GATES`: class and kind (R559). -/
abbrev pEthGclGates : Nat := 0x1500B
/-- `ETH.GCL_NS`: class and kind (R559). -/
abbrev pEthGclNs : Nat := 0x1500C
/-- `ETH.PTP_ROLE`: class and kind (R559). -/
abbrev pEthPtpRole : Nat := 0x1500D
/-- `ETH.PTP_PROFILE`: class and kind (R559). -/
abbrev pEthPtpProfile : Nat := 0x1500E
/-- `ETH.PTP_DOMAIN`: class and kind (R559). -/
abbrev pEthPtpDomain : Nat := 0x1500F
/-- `ETH.PTP_SYNC_LOG`: class and kind (R559). -/
abbrev pEthPtpSyncLog : Nat := 0x15010
/-- `TIME.SOURCE`: class and kind (R559). -/
abbrev pTimeSource : Nat := 0x16001
/-- `TIME.SOURCE_PORT`: class and kind (R559). -/
abbrev pTimeSourcePort : Nat := 0x16002
/-- `TIME.STEP_THRESHOLD`: class and kind (R559). -/
abbrev pTimeStepThreshold : Nat := 0x16003
/-- `TIME.ACQ_COUNT`: class and kind (R559). -/
abbrev pTimeAcqCount : Nat := 0x16004
/-- `TIME.CORR_PERIOD`: class and kind (R559). -/
abbrev pTimeCorrPeriod : Nat := 0x16005
/-- `TIME.SLEW_TC`: class and kind (R559). -/
abbrev pTimeSlewTc : Nat := 0x16006
/-- `TIME.FREQ_WINDOW`: class and kind (R559). -/
abbrev pTimeFreqWindow : Nat := 0x16007
/-- `TIME.LOCK_LIMIT`: class and kind (R559). -/
abbrev pTimeLockLimit : Nat := 0x16008
/-- `TIME.LOSS_TIME`: class and kind (R559). -/
abbrev pTimeLossTime : Nat := 0x16009
/-- `TIME.RESTEP_IN_RUN`: class and kind (R559). -/
abbrev pTimeRestepInRun : Nat := 0x1600A
/-- `TWIN.ENABLE`: class and kind (R559). -/
abbrev pTwinEnable : Nat := 0x17001
/-- `TWIN.ID`: class and kind (R559). -/
abbrev pTwinId : Nat := 0x17002
/-- `TWIN.AUTO_PAIR`: class and kind (R559). -/
abbrev pTwinAutoPair : Nat := 0x17003
/-- `TWIN.PAIR_WAIT`: class and kind (R559). -/
abbrev pTwinPairWait : Nat := 0x17004
/-- `TWIN.PARALLEL`: class and kind (R559). -/
abbrev pTwinParallel : Nat := 0x17005
/-- `TWIN.AO_PARALLEL`: class and kind (R559). -/
abbrev pTwinAoParallel : Nat := 0x17006
/-- `TWIN.PRIVILEGED`: class and kind (R559). -/
abbrev pTwinPrivileged : Nat := 0x17007
/-- `TWIN.SWAP_PERIOD`: class and kind (R559). -/
abbrev pTwinSwapPeriod : Nat := 0x17008
/-- `TWIN.PROOF_MA`: class and kind (R559). -/
abbrev pTwinProofMa : Nat := 0x17009
/-- `SAFE.GROUP`: class and kind (R559). -/
abbrev pSafeGroup : Nat := 0x18001
/-- `SAFE.CUT_TEST_PERIOD`: class and kind (R559). -/
abbrev pSafeCutTestPeriod : Nat := 0x18002
/-- `SAFE.ESTOP_FILTER`: class and kind (R559). -/
abbrev pSafeEstopFilter : Nat := 0x18003
/-- `SAFE.ESTOP_DISC`: class and kind (R559). -/
abbrev pSafeEstopDisc : Nat := 0x18004
/-- `SAFE.ERRIN_ACTION`: class and kind (R559). -/
abbrev pSafeErrinAction : Nat := 0x18005
/-- `SAFE.REACT`: class and kind (R559). -/
abbrev pSafeReact : Nat := 0x18006
/-- `SAFE.CH_ACTION`: class and kind (R559). -/
abbrev pSafeChAction : Nat := 0x18007
/-- `SAFE.AO_ACTION`: class and kind (R559). -/
abbrev pSafeAoAction : Nat := 0x18008
/-- `SAFE.AXIS_STOP`: class and kind (R559). -/
abbrev pSafeAxisStop : Nat := 0x18009
/-- `SAFE.AXIS_AFTER`: class and kind (R559). -/
abbrev pSafeAxisAfter : Nat := 0x1800A
/-- `HOST.UDP_ENABLE`: class and kind (R559). -/
abbrev pHostUdpEnable : Nat := 0x1A001
/-- `HOST.UDP_IDLE`: class and kind (R559). -/
abbrev pHostUdpIdle : Nat := 0x1A002
/-- `HOST.SPI_ENABLE`: class and kind (R559). -/
abbrev pHostSpiEnable : Nat := 0x1A003
/-- `HOST.HB_TIMEOUT`: class and kind (R559). -/
abbrev pHostHbTimeout : Nat := 0x1A004
/-- `HOST.HB_ACTION`: class and kind (R559). -/
abbrev pHostHbAction : Nat := 0x1A005
/-- `SYS.FORCE_IN_RUN`: class and kind (R559). -/
abbrev pSysForceInRun : Nat := 0x01001
/-- `SYS.BOOT_TO_CONFIG`: class and kind (R559). -/
abbrev pSysBootToConfig : Nat := 0x01002
/-- `SYS.CE_LOAD_LIMIT`: class and kind (R559). -/
abbrev pSysCeLoadLimit : Nat := 0x01003
/-- `SYS.PLACE_ADAPT`: class and kind (R559). -/
abbrev pSysPlaceAdapt : Nat := 0x01004
/-- `SYS.PLACE_MARGIN`: class and kind (R559). -/
abbrev pSysPlaceMargin : Nat := 0x01005
/-- `SYS.RESUME_TO_HOLD`: class and kind (R559). -/
abbrev pSysResumeToHold : Nat := 0x01006
/-- `SYS.IMAGE_REGION_MIB`: class and kind (R559). -/
abbrev pSysImageRegionMib : Nat := 0x01007
/-- `SYS.STAGING_REGION_MIB`: class and kind (R559). -/
abbrev pSysStagingRegionMib : Nat := 0x01008
/-- `MODE.MIN_DWELL`: class and kind (R559). -/
abbrev pModeMinDwell : Nat := 0x02001
/-- `CE.RETAIN_PERIOD`: class and kind (R559). -/
abbrev pCeRetainPeriod : Nat := 0x04001
/-- `LE.LOAD_LIMIT`: class and kind (R559). -/
abbrev pLeLoadLimit : Nat := 0x06001
/-- `CAM.ENGINES`: class and kind (R559). -/
abbrev pCamEngines : Nat := 0x09001
/-- `AO.MODE`: class and kind (R559). -/
abbrev pAoMode : Nat := 0x0C001
/-- `AO.DEFAULT`: class and kind (R559). -/
abbrev pAoDefault : Nat := 0x0C002
/-- `POCKET.UPSIZE`: class and kind (R559). -/
abbrev pPocketUpsize : Nat := 0x10004
/-- `ACQ.REGION_MIB`: class and kind (R559). -/
abbrev pAcqRegionMib : Nat := 0x11021
/-- `THATCH.REGION_MIB`: class and kind (R559). -/
abbrev pThatchRegionMib : Nat := 0x12006
/-- `EVT.COALESCE_MS`: class and kind (R559). -/
abbrev pEvtCoalesceMs : Nat := 0x13001
/-- `TILE.ENABLE`: class and kind (R559). -/
abbrev pTileEnable : Nat := 0x1B001
/-- `TASK.LEVEL`: class and kind (R559). -/
abbrev pTaskLevel : Nat := 0x03001
/-- `TASK.PERIOD`: class and kind (R559). -/
abbrev pTaskPeriod : Nat := 0x03002
/-- `TASK.PHASE`: class and kind (R559). -/
abbrev pTaskPhase : Nat := 0x03003
/-- `TASK.BUDGET`: class and kind (R559). -/
abbrev pTaskBudget : Nat := 0x03004
/-- `TASK.AFFINITY`: class and kind (R559). -/
abbrev pTaskAffinity : Nat := 0x03005
/-- `TASK.OVERRUN`: class and kind (R559). -/
abbrev pTaskOverrun : Nat := 0x03006
/-- `TASK.MAX_SKIP`: class and kind (R559). -/
abbrev pTaskMaxSkip : Nat := 0x03007
/-- `TASK.TRIGGER`: class and kind (R559). -/
abbrev pTaskTrigger : Nat := 0x03008
/-- `TASK.ENABLE`: class and kind (R559). -/
abbrev pTaskEnable : Nat := 0x03009
/-- `TASK.MAINT_RUN`: class and kind (R559). -/
abbrev pTaskMaintRun : Nat := 0x0300A
/-- `TASK.TRIGGER_SRC`: class and kind (R559). -/
abbrev pTaskTriggerSrc : Nat := 0x0300B
/-- `TASK.WINDOW_WAIT`: class and kind (R559). -/
abbrev pTaskWindowWait : Nat := 0x0300C
/-- `CV.MAX_MBPS`: class and kind (R559). -/
abbrev pCvMaxMbps : Nat := 0x19001
/-- `CV.IMAGE_SCAN_PERIOD`: class and kind (R559). -/
abbrev pCvImageScanPeriod : Nat := 0x19002
/-- `PROF.VMAX`: class and kind (R559). -/
abbrev pProfVmax : Nat := 0x08009
/-- `PROF.AMAX`: class and kind (R559). -/
abbrev pProfAmax : Nat := 0x0800A
/-- `PROF.JMAX`: class and kind (R559). -/
abbrev pProfJmax : Nat := 0x0800B

/-- The LOOP parameters (R559; their tables give type, range, default and change mode). -/
def paramsLoop : List ParamDesc := [
  ⟨0x05001, "LOOP.ENABLE", "", .bool, .live, 0, 511, 0, 1, 0, false, [], [], 0x1, none⟩,
  ⟨0x05002, "LOOP.MODE", "", .u8, .live, 0, 511, 0, 2, 0, false, [], [], 0x1, none⟩,
  ⟨0x05003, "LOOP.LAW", "", .u8, .image, 0, 511, 0, 6, 0, false, [], [], 0x0, none⟩,
  ⟨0x05004, "LOOP.LAW_IMAGE", "", .u16, .image, 0, 511, 0, 255, 0, false, [], [], 0x0, none⟩,
  ⟨0x05005, "LOOP.PERIOD", "us", .u32, .image, 0, 511, 20, 1000000, 0, false, [], [], 0x2710, none⟩,
  ⟨0x05006, "LOOP.PHASE", "us", .u32, .image, 0, 511, 0, 999999, 0, false, [], [(.lt, 0x05005)], 0x0, none⟩,
  ⟨0x05007, "LOOP.ACTION", "", .u8, .live, 0, 511, 0, 1, 0, false, [], [], 0x0, none⟩,
  ⟨0x05008, "LOOP.PV_SRC", "", .point, .image, 0, 511, 0, 33554431, 0, false, [], [], 0x0, none⟩,
  ⟨0x05009, "LOOP.SP_SRC", "", .point, .image, 0, 511, 0, 33554431, 0, false, [], [], 0x0, none⟩,
  ⟨0x0500A, "LOOP.FF_SRC", "", .point, .image, 0, 511, 0, 33554431, 0, false, [], [], 0x0, none⟩,
  ⟨0x0500B, "LOOP.TRACK_SRC", "", .point, .image, 0, 511, 0, 33554431, 0, false, [], [], 0x0, none⟩,
  ⟨0x0500C, "LOOP.OUT_DST", "", .point, .image, 0, 511, 0, 33554431, 0, false, [], [], 0x0, none⟩,
  ⟨0x0500D, "LOOP.PV_LO", "PV units", .f32, .mode, 0, 511, (fkey 0xFF7FFFFF), (fkey 0x7F7FFFFF), 0, false, [], [(.lt, 0x0500E)], 0x00000000, none⟩,
  ⟨0x0500E, "LOOP.PV_HI", "PV units", .f32, .mode, 0, 511, (fkey 0xFF7FFFFF), (fkey 0x7F7FFFFF), 0, false, [], [(.gt, 0x0500D)], 0x42C80000, none⟩,
  ⟨0x0500F, "LOOP.OUT_LO", "Output units", .f32, .mode, 0, 511, (fkey 0xFF7FFFFF), (fkey 0x7F7FFFFF), 0, false, [], [(.lt, 0x05010), (.le, 0x05011)], 0x00000000, none⟩,
  ⟨0x05010, "LOOP.OUT_HI", "Output units", .f32, .mode, 0, 511, (fkey 0xFF7FFFFF), (fkey 0x7F7FFFFF), 0, false, [], [(.gt, 0x0500F), (.ge, 0x05012)], 0x42C80000, none⟩,
  ⟨0x05011, "LOOP.OUT_MIN", "Output units", .f32, .live, 0, 511, (fkey 0xFF7FFFFF), (fkey 0x7F7FFFFF), 0, false, [], [(.ge, 0x0500F), (.lt, 0x05012)], 0x00000000, (some 0x0500F)⟩,
  ⟨0x05012, "LOOP.OUT_MAX", "Output units", .f32, .live, 0, 511, (fkey 0xFF7FFFFF), (fkey 0x7F7FFFFF), 0, false, [], [(.le, 0x05010), (.gt, 0x05011)], 0x00000000, (some 0x05010)⟩,
  ⟨0x05013, "LOOP.OUT_RATE", "Output units/s", .f32, .live, 0, 511, (fkey 0x00000000), (fkey 0x4E6E6B28), 0, false, [], [], 0x00000000, none⟩,
  ⟨0x05014, "LOOP.OUT_OFF", "Output units", .f32, .live, 0, 511, (fkey 0xFF7FFFFF), (fkey 0x7F7FFFFF), 0, false, [], [(.ge, 0x0500F), (.le, 0x05010)], 0x00000000, (some 0x0500F)⟩,
  ⟨0x05015, "LOOP.MAN_OUT", "Output units", .f32, .live, 0, 511, (fkey 0xFF7FFFFF), (fkey 0x7F7FFFFF), 0, false, [], [(.ge, 0x05011), (.le, 0x05012)], 0x00000000, (some 0x0500F)⟩,
  ⟨0x05016, "LOOP.SP_LOCAL", "PV units", .f32, .live, 0, 511, (fkey 0xFF7FFFFF), (fkey 0x7F7FFFFF), 0, false, [], [(.ge, 0x05017), (.le, 0x05018)], 0x00000000, (some 0x0500D)⟩,
  ⟨0x05017, "LOOP.SP_MIN", "PV units", .f32, .live, 0, 511, (fkey 0xFF7FFFFF), (fkey 0x7F7FFFFF), 0, false, [], [(.ge, 0x0500D), (.le, 0x0500E)], 0x00000000, (some 0x0500D)⟩,
  ⟨0x05018, "LOOP.SP_MAX", "PV units", .f32, .live, 0, 511, (fkey 0xFF7FFFFF), (fkey 0x7F7FFFFF), 0, false, [], [(.ge, 0x0500D), (.le, 0x0500E)], 0x00000000, (some 0x0500E)⟩]

/-- The LOOP parameters (R559; their tables give type, range, default and change mode). -/
def paramsLoop2 : List ParamDesc := [
  ⟨0x05019, "LOOP.SP_VMAX", "PV units/s", .f32, .live, 0, 511, (fkey 0x00000000), (fkey 0x4E6E6B28), 0, false, [], [], 0x00000000, none⟩,
  ⟨0x0501A, "LOOP.SP_AMAX", "PV units/s^2", .f32, .live, 0, 511, (fkey 0x00000000), (fkey 0x5368D4A5), 0, false, [], [], 0x00000000, none⟩,
  ⟨0x0501B, "LOOP.SP_JMAX", "PV units/s^3", .f32, .live, 0, 511, (fkey 0x00000000), (fkey 0x58635FA9), 0, false, [], [], 0x00000000, none⟩,
  ⟨0x0501C, "LOOP.SP_TRACK_MAN", "", .bool, .live, 0, 511, 0, 1, 0, false, [], [], 0x1, none⟩,
  ⟨0x0501D, "LOOP.KP", "", .f32, .live, 0, 511, (fkey 0x00000000), (fkey 0x447A0000), 0, false, [], [(.le, 0x0501E)], 0x3F800000, none⟩,
  ⟨0x0501E, "LOOP.KP_MAX", "", .f32, .image, 0, 511, (fkey 0x3A83126F), (fkey 0x447A0000), 0, false, [], [(.ge, 0x0501D)], 0x42C80000, none⟩,
  ⟨0x0501F, "LOOP.TI", "s", .f32, .live, 0, 511, (fkey 0x3727C5AC), (fkey 0x47C35000), 0, false, [(fkey 0x00000000)], [], 0x00000000, none⟩,
  ⟨0x05020, "LOOP.TD", "s", .f32, .live, 0, 511, (fkey 0x00000000), (fkey 0x461C4000), 0, false, [], [], 0x00000000, none⟩,
  ⟨0x05021, "LOOP.N", "", .f32, .live, 0, 511, (fkey 0x40000000), (fkey 0x42C80000), 0, false, [], [], 0x41200000, none⟩,
  ⟨0x05022, "LOOP.B", "", .f32, .live, 0, 511, (fkey 0x00000000), (fkey 0x3F800000), 0, false, [], [], 0x3F800000, none⟩,
  ⟨0x05023, "LOOP.C", "", .f32, .live, 0, 511, (fkey 0x00000000), (fkey 0x3F800000), 0, false, [], [], 0x00000000, none⟩,
  ⟨0x05024, "LOOP.TT", "s", .f32, .live, 0, 511, (fkey 0x3727C5AC), (fkey 0x47C35000), 0, false, [(fkey 0x00000000)], [], 0x00000000, none⟩,
  ⟨0x05025, "LOOP.LL_K", "", .f32, .live, 0, 511, (fkey 0x00000000), (fkey 0x447A0000), 0, false, [], [], 0x3F800000, none⟩,
  ⟨0x05026, "LOOP.LL_T1", "s", .f32, .live, 0, 511, (fkey 0x00000000), (fkey 0x461C4000), 0, false, [], [], 0x00000000, none⟩,
  ⟨0x05027, "LOOP.LL_T2", "s", .f32, .live, 0, 511, (fkey 0x00000000), (fkey 0x461C4000), 0, false, [], [], 0x00000000, none⟩,
  ⟨0x05028, "LOOP.LL_IN", "", .u8, .live, 0, 511, 0, 2, 0, false, [], [], 0x0, none⟩,
  ⟨0x05029, "LOOP.F1_KIND", "", .u8, .mode, 0, 511, 0, 2, 0, false, [], [], 0x0, none⟩,
  ⟨0x0502A, "LOOP.F2_KIND", "", .u8, .mode, 0, 511, 0, 2, 0, false, [], [], 0x0, none⟩,
  ⟨0x0502B, "LOOP.F1_A", "Per filter kind", .f32, .live, 0, 511, (fkey 0xFF7FFFFF), (fkey 0x7F7FFFFF), 0, false, [], [], 0x00000000, none⟩,
  ⟨0x0502C, "LOOP.F1_B", "Per filter kind", .f32, .live, 0, 511, (fkey 0xFF7FFFFF), (fkey 0x7F7FFFFF), 0, false, [], [], 0x00000000, none⟩,
  ⟨0x0502D, "LOOP.F1_C", "Per filter kind", .f32, .live, 0, 511, (fkey 0xFF7FFFFF), (fkey 0x7F7FFFFF), 0, false, [], [], 0x00000000, none⟩,
  ⟨0x0502E, "LOOP.F2_A", "Per filter kind", .f32, .live, 0, 511, (fkey 0xFF7FFFFF), (fkey 0x7F7FFFFF), 0, false, [], [], 0x00000000, none⟩,
  ⟨0x0502F, "LOOP.F2_B", "Per filter kind", .f32, .live, 0, 511, (fkey 0xFF7FFFFF), (fkey 0x7F7FFFFF), 0, false, [], [], 0x00000000, none⟩,
  ⟨0x05030, "LOOP.F2_C", "Per filter kind", .f32, .live, 0, 511, (fkey 0xFF7FFFFF), (fkey 0x7F7FFFFF), 0, false, [], [], 0x00000000, none⟩]

/-- The LOOP parameters (R559; their tables give type, range, default and change mode). -/
def paramsLoop3 : List ParamDesc := [
  ⟨0x05031, "LOOP.FF_KF", "Output units per", .f32, .live, 0, 511, (fkey 0xC9742400), (fkey 0x49742400), 0, false, [], [], 0x00000000, none⟩,
  ⟨0x05032, "LOOP.FF_KD", "Output units s p", .f32, .live, 0, 511, (fkey 0xC9742400), (fkey 0x49742400), 0, false, [], [], 0x00000000, none⟩,
  ⟨0x05033, "LOOP.FF_Z0", "FF units", .f32, .live, 0, 511, (fkey 0xFF7FFFFF), (fkey 0x7F7FFFFF), 0, false, [], [], 0x00000000, none⟩,
  ⟨0x05034, "LOOP.DISABLE_ACTION", "", .u8, .live, 0, 511, 0, 2, 0, false, [], [], 0x0, none⟩,
  ⟨0x05035, "LOOP.RUN_IN_IDLE", "", .bool, .mode, 0, 511, 0, 1, 0, false, [], [], 0x0, none⟩,
  ⟨0x05036, "LOOP.BAD_PV", "", .u8, .live, 0, 511, 0, 1, 0, false, [], [], 0x0, none⟩,
  ⟨0x05037, "LOOP.HELD_TIME", "ms", .u32, .live, 0, 511, 0, 60000, 0, false, [], [], 0x64, none⟩,
  ⟨0x05038, "LOOP.INPUT_WAIT", "us", .u32, .live, 0, 511, 0, 100, 0, false, [], [], 0x5, none⟩,
  ⟨0x05039, "LOOP.BRIDGE", "", .bool, .image, 0, 511, 0, 1, 0, false, [], [], 0x0, none⟩,
  ⟨0x0503A, "LOOP.BR_KP", "Output units per", .f32, .live, 0, 511, (fkey 0x00000000), (fkey 0x49742400), 0, false, [], [], 0x00000000, none⟩,
  ⟨0x0503B, "LOOP.BR_TI", "s", .f32, .live, 0, 511, (fkey 0x3A83126F), (fkey 0x461C4000), 0, false, [(fkey 0x00000000)], [], 0x00000000, none⟩,
  ⟨0x0503C, "LOOP.BR_PERIOD", "us", .u32, .image, 0, 511, 100, 100000, 0, false, [], [], 0x3E8, none⟩,
  ⟨0x0503D, "LOOP.BR_BAND", "Output units", .f32, .live, 0, 511, (fkey 0x00000000), (fkey 0x7F7FFFFF), 0, false, [], [], 0x00000000, none⟩,
  ⟨0x0503E, "LOOP.TUNE_AMP", "% of output span", .f32, .live, 0, 511, (fkey 0x3F000000), (fkey 0x42480000), 0, false, [], [], 0x40A00000, none⟩,
  ⟨0x0503F, "LOOP.TUNE_HYST", "% of PV span", .f32, .live, 0, 511, (fkey 0x00000000), (fkey 0x41200000), 0, false, [], [], 0x3F000000, none⟩,
  ⟨0x05040, "LOOP.TUNE_LIMIT", "% of PV span", .f32, .live, 0, 511, (fkey 0x3F800000), (fkey 0x42480000), 0, false, [], [], 0x41200000, none⟩,
  ⟨0x05041, "LOOP.TUNE_TIMEOUT", "s", .u32, .live, 0, 511, 1, 3600, 0, false, [], [], 0x258, none⟩,
  ⟨0x05042, "LOOP.TUNE_RULE", "", .u8, .live, 0, 511, 0, 3, 0, false, [], [], 0x2, none⟩]

/-- The AXIS parameters (R559; their tables give type, range, default and change mode). -/
def paramsAxis : List ParamDesc := [
  ⟨0x07001, "AXIS.ENABLE", "", .bool, .live, 0, 31, 0, 1, 0, false, [], [], 0x1, none⟩,
  ⟨0x07002, "AXIS.USTEP", "log2 of microste", .u8, .image, 0, 31, 0, 8, 0, false, [], [], 0x4, none⟩,
  ⟨0x07003, "AXIS.LEAD", "segments", .u8, .image, 0, 31, 2, 15, 0, false, [], [], 0x4, none⟩,
  ⟨0x07004, "AXIS.VMAX", "microsteps/s", .f32, .live, 0, 31, (fkey 0x3F800000), (fkey 0x49C35000), 0, false, [], [], 0x47C35000, none⟩,
  ⟨0x07005, "AXIS.AMAX", "microsteps/s^2", .f32, .live, 0, 31, (fkey 0x3F800000), (fkey 0x4EEE6B28), 0, false, [], [(.le, 0x07007)], 0x49742400, none⟩,
  ⟨0x07006, "AXIS.JMAX", "microsteps/s^3", .f32, .live, 0, 31, (fkey 0x447A0000), (fkey 0x5368D4A5), 0, false, [(fkey 0x00000000)], [(.le, 0x07008)], 0x4CBEBC20, none⟩,
  ⟨0x07007, "AXIS.STOP_AMAX", "microsteps/s^2", .f32, .live, 0, 31, (fkey 0x3F800000), (fkey 0x4EEE6B28), 0, false, [], [(.ge, 0x07005)], 0x4A742400, none⟩,
  ⟨0x07008, "AXIS.STOP_JMAX", "microsteps/s^3", .f32, .live, 0, 31, (fkey 0x447A0000), (fkey 0x5368D4A5), 0, false, [(fkey 0x00000000)], [(.ge, 0x07006)], 0x4E6E6B28, none⟩,
  ⟨0x07009, "AXIS.V_START", "microsteps/s", .f32, .live, 0, 31, (fkey 0x00000000), (fkey 0x47C35000), 0, false, [], [], 0x44FA0000, none⟩,
  ⟨0x0700A, "AXIS.SOFT_NEG", "microsteps", .i32, .live, 0, 31, (-2147483647), 2147483647, 0, false, [], [], 0x80000001, none⟩,
  ⟨0x0700B, "AXIS.SOFT_POS", "microsteps", .i32, .live, 0, 31, (-2147483647), 2147483647, 0, false, [], [], 0x7FFFFFFF, none⟩,
  ⟨0x0700C, "AXIS.LIM_NEG_CH", "channel", .u16, .image, 0, 31, 0, 511, 0, false, [65535], [], 0xFFFF, none⟩,
  ⟨0x0700D, "AXIS.LIM_POS_CH", "channel", .u16, .image, 0, 31, 0, 511, 0, false, [65535], [], 0xFFFF, none⟩,
  ⟨0x0700E, "AXIS.HOME_CH", "channel", .u16, .image, 0, 31, 0, 511, 0, false, [65535], [], 0xFFFF, none⟩,
  ⟨0x0700F, "AXIS.IN_POLARITY", "", .bits, .image, 0, 31, 0, 7, 0, false, [], [], 0x0, none⟩,
  ⟨0x07010, "AXIS.LIM_DEBOUNCE", "us", .u32, .live, 0, 31, 0, 10000, 10, false, [], [], 0x3E8, none⟩,
  ⟨0x07011, "AXIS.LIM_STOP", "", .u8, .live, 0, 31, 0, 1, 0, false, [], [], 0x1, none⟩,
  ⟨0x07012, "AXIS.ENC", "", .u8, .image, 0, 31, 0, 15, 0, false, [255], [], 0xFF, none⟩,
  ⟨0x07013, "AXIS.ENC_RATIO", "microsteps per c", .f32, .image, 0, 31, (fkey 0x3A83126F), (fkey 0x447A0000), 0, true, [], [], 0x3F800000, none⟩,
  ⟨0x07014, "AXIS.DISABLE_DEADLINE", "ms", .u32, .live, 0, 31, 10, 10000, 0, false, [], [], 0x7D0, none⟩,
  ⟨0x07015, "AXIS.HOME_METHOD", "", .u8, .live, 0, 31, 0, 8, 0, false, [], [], 0x0, none⟩,
  ⟨0x07016, "AXIS.HOME_VFAST", "microsteps/s", .f32, .live, 0, 31, (fkey 0x3F800000), (fkey 0x49C35000), 0, false, [], [(.le, 0x07004)], 0x461C4000, none⟩,
  ⟨0x07017, "AXIS.HOME_VSLOW", "microsteps/s", .f32, .live, 0, 31, (fkey 0x3F800000), (fkey 0x49C35000), 0, false, [], [(.le, 0x07004)], 0x447A0000, none⟩,
  ⟨0x07018, "AXIS.HOME_POS", "microsteps", .i32, .live, 0, 31, (-2147483648), 2147483647, 0, false, [], [], 0x0, none⟩]

/-- The AXIS parameters (R559; their tables give type, range, default and change mode). -/
def paramsAxis2 : List ParamDesc := [
  ⟨0x07019, "AXIS.HOME_PARK", "microsteps", .i32, .live, 0, 31, (-2147483648), 2147483647, 0, false, [], [], 0x0, none⟩,
  ⟨0x0701A, "AXIS.HOME_TRAVEL", "microsteps", .u32, .live, 0, 31, 1, 2147483647, 0, false, [], [], 0xF4240, none⟩,
  ⟨0x0701B, "AXIS.HOME_TIMEOUT", "s", .u32, .live, 0, 31, 1, 600, 0, false, [], [], 0x3C, none⟩,
  ⟨0x0701C, "AXIS.HOME_STALL", "microsteps", .u32, .live, 0, 31, 16, 65535, 0, false, [], [], 0x100, none⟩]

/-- The PROF parameters (R559; their tables give type, range, default and change mode). -/
def paramsProf : List ParamDesc := [
  ⟨0x08001, "PROF.KIND", "", .u8, .image, 0, 63, 1, 3, 0, false, [], [], 0x1, none⟩,
  ⟨0x08002, "PROF.VEL_SRC", "", .point, .image, 0, 63, 0, 33554431, 0, false, [], [], 0x0, none⟩,
  ⟨0x08003, "PROF.MASTER", "", .point, .image, 0, 63, 0, 33554431, 0, false, [], [], 0x0, none⟩,
  ⟨0x08004, "PROF.REMOTE_DST", "", .point, .image, 0, 63, 0, 33554431, 0, false, [], [], 0x0, none⟩,
  ⟨0x08005, "PROF.REMOTE_PERIOD", "ms", .u32, .image, 0, 63, 1, 100, 0, false, [], [], 0xA, none⟩,
  ⟨0x08006, "PROF.CAM", "", .u8, .live, 0, 63, 0, 63, 0, false, [], [], 0x0, none⟩,
  ⟨0x08007, "PROF.GEAR_NUM", "", .i32, .live, 0, 63, 1, 1000000, 0, true, [], [], 0x1, none⟩,
  ⟨0x08008, "PROF.GEAR_DEN", "", .i32, .live, 0, 63, 1, 1000000, 0, false, [], [], 0x1, none⟩]

/-- The AXIS parameters (R559; their tables give type, range, default and change mode). -/
def paramsAxisB : List ParamDesc := [
  ⟨0x0701D, "AXIS.RSENSE", "mOhm", .u16, .image, 0, 31, 20, 2000, 0, false, [], [], 0x64, none⟩,
  ⟨0x0701E, "AXIS.I_RUN", "A", .f32, .live, 0, 31, (fkey 0x00000000), (fkey 0x7F7FFFFF), 0, false, [], [], 0x00000000, none⟩,
  ⟨0x0701F, "AXIS.I_HOLD", "% of I_RUN", .f32, .live, 0, 31, (fkey 0x00000000), (fkey 0x42C80000), 0, false, [], [], 0x42480000, none⟩,
  ⟨0x07020, "AXIS.I_STALL", "% of I_RUN", .f32, .live, 0, 31, (fkey 0x41200000), (fkey 0x42C80000), 0, false, [], [], 0x42200000, none⟩,
  ⟨0x07021, "AXIS.HOLD_DELAY", "ms", .u32, .live, 0, 31, 0, 10000, 0, false, [], [], 0xC8, none⟩,
  ⟨0x07022, "AXIS.HOLD_RAMP", "ms", .u32, .live, 0, 31, 0, 1000, 0, false, [], [], 0x32, none⟩,
  ⟨0x07023, "AXIS.ON_RAMP", "ms", .u32, .live, 0, 31, 0, 1000, 0, false, [], [], 0x14, none⟩,
  ⟨0x07024, "AXIS.OFF_RAMP", "ms", .u32, .live, 0, 31, 0, 1000, 0, false, [], [], 0x14, none⟩,
  ⟨0x07025, "AXIS.CHOP_MODE", "", .u8, .mode, 0, 31, 0, 2, 0, false, [], [], 0x0, none⟩,
  ⟨0x07026, "AXIS.T_OFF", "ns", .u32, .live, 0, 31, 2000, 40000, 500, false, [], [], 0x2710, none⟩,
  ⟨0x07027, "AXIS.T_BLANK", "ns", .u32, .live, 0, 31, 250, 2000, 50, false, [], [], 0x3E8, none⟩,
  ⟨0x07028, "AXIS.FAST_FRAC", "% of T_OFF", .u8, .live, 0, 31, 0, 100, 0, false, [], [], 0x1E, none⟩,
  ⟨0x07029, "AXIS.HYST_WIDTH", "% of I_RUN", .f32, .live, 0, 31, (fkey 0x3F800000), (fkey 0x41C80000), 0, false, [], [], 0x40C00000, none⟩,
  ⟨0x0702A, "AXIS.DEAD_TIME", "ns", .u32, .image, 0, 31, 50, 1000, 5, false, [], [], 0xC8, none⟩,
  ⟨0x0702B, "AXIS.KEEP_MODE", "", .u8, .image, 0, 31, 0, 1, 0, false, [], [], 0x0, none⟩]

/-- The CH parameters (R559; their tables give type, range, default and change mode). -/
def paramsCh : List ParamDesc := [
  ⟨0x0A001, "CH.MODE", "", .u8, .image, 0, 511, 0, 4, 0, false, [], [], 0x0, none⟩,
  ⟨0x0A002, "CH.DEFAULT_STATE", "", .bool, .mode, 0, 511, 0, 1, 0, false, [], [], 0x0, none⟩,
  ⟨0x0A003, "CH.FILTER", "us", .u32, .live, 0, 511, 0, 50000, 10, false, [], [], 0x3E8, none⟩,
  ⟨0x0A004, "CH.IN_CURRENT", "mA", .f32, .live, 0, 511, (fkey 0x40133333), (fkey 0x40800000), 0, false, [], [], 0x40200000, none⟩,
  ⟨0x0A005, "CH.STEPDOWN_TIME", "ms", .u32, .live, 0, 511, 10, 60000, 0, false, [0], [], 0x0, none⟩,
  ⟨0x0A006, "CH.WB_ENABLE", "", .bool, .live, 0, 511, 0, 1, 0, false, [], [], 0x0, none⟩,
  ⟨0x0A007, "CH.WB_TIME", "ms", .u32, .live, 0, 511, 1, 1000, 0, false, [], [], 0x14, none⟩,
  ⟨0x0A008, "CH.LOAD_MA", "mA", .u16, .image, 0, 511, 0, 500, 0, false, [], [], 0xFA, none⟩,
  ⟨0x0A009, "CH.OVL_TIME", "ms", .u32, .live, 0, 511, 1, 50, 0, false, [], [], 0x5, none⟩,
  ⟨0x0A00A, "CH.OVL_RETRY", "", .u8, .live, 0, 511, 0, 1, 0, false, [], [], 0x0, none⟩,
  ⟨0x0A00B, "CH.RETRY_PERIOD", "ms", .u32, .live, 0, 511, 100, 10000, 0, false, [], [], 0x3E8, none⟩,
  ⟨0x0A00C, "CH.OPEN_OFF_TEST", "", .bool, .live, 0, 511, 0, 1, 0, false, [], [], 0x1, none⟩,
  ⟨0x0A00D, "CH.OPEN_ON_MA", "mA", .f32, .live, 0, 511, (fkey 0x3F800000), (fkey 0x42480000), 0, false, [(fkey 0x00000000)], [], 0x00000000, none⟩,
  ⟨0x0A00E, "CH.SETTLE", "us", .u32, .live, 0, 511, 100, 3000, 0, false, [], [], 0x7D0, none⟩,
  ⟨0x0A00F, "CH.G_RESTORE", "", .u8, .live, 0, 63, 0, 1, 0, false, [], [], 0x0, none⟩]

/-- The AI parameters (R559; their tables give type, range, default and change mode). -/
def paramsAi : List ParamDesc := [
  ⟨0x0B001, "AI.MODE", "", .u8, .image, 0, 127, 0, 8, 0, false, [], [], 0x0, none⟩,
  ⟨0x0B002, "AI.CONV", "", .u8, .image, 0, 127, 0, 1, 0, false, [], [], 0x0, none⟩,
  ⟨0x0B003, "AI.RATE", "S/s", .u32, .image, 0, 127, 1000, 2000000, 0, false, [], [], 0x2710, none⟩,
  ⟨0x0B004, "AI.AVG", "us", .u32, .live, 0, 127, 0, 10000, 0, false, [], [], 0x64, none⟩,
  ⟨0x0B005, "AI.T_INT", "", .u8, .image, 0, 127, 0, 4, 0, false, [], [], 0x4, none⟩,
  ⟨0x0B006, "AI.SCALE_A", "Engineering unit", .f32, .live, 0, 127, (fkey 0xCE6E6B28), (fkey 0x4E6E6B28), 0, false, [], [], 0x3F800000, none⟩,
  ⟨0x0B007, "AI.SCALE_B", "Engineering unit", .f32, .live, 0, 127, (fkey 0xCE6E6B28), (fkey 0x4E6E6B28), 0, false, [], [], 0x00000000, none⟩,
  ⟨0x0B008, "AI.TC_TYPE", "", .u8, .image, 0, 127, 0, 7, 0, false, [], [], 0x1, none⟩,
  ⟨0x0B009, "AI.CJ_SRC", "", .point, .image, 0, 127, 0, 33554431, 0, false, [], [], 0x0, none⟩,
  ⟨0x0B00A, "AI.RTD_WIRES", "", .u8, .image, 0, 127, 2, 4, 0, false, [], [], 0x4, none⟩,
  ⟨0x0B00B, "AI.RANGE_LO", "Engineering unit", .f32, .live, 0, 127, (fkey 0xFF7FFFFF), (fkey 0x7F7FFFFF), 0, false, [], [(.lt, 0x0B00C)], 0xCE6E6B28, none⟩,
  ⟨0x0B00C, "AI.RANGE_HI", "Engineering unit", .f32, .live, 0, 127, (fkey 0xFF7FFFFF), (fkey 0x7F7FFFFF), 0, false, [], [(.gt, 0x0B00B)], 0x4E6E6B28, none⟩]

/-- The ENC parameters (R559; their tables give type, range, default and change mode). -/
def paramsEnc : List ParamDesc := [
  ⟨0x0D001, "ENC.MODE", "", .u8, .image, 0, 15, 0, 5, 0, false, [], [], 0x0, none⟩,
  ⟨0x0D002, "ENC.INPUT", "", .u8, .image, 0, 15, 0, 2, 0, false, [], [], 0x0, none⟩,
  ⟨0x0D003, "ENC.FILTER", "ns", .u32, .live, 0, 15, 0, 2000, 10, false, [], [], 0x32, none⟩,
  ⟨0x0D004, "ENC.DIR", "", .bool, .live, 0, 15, 0, 1, 0, false, [], [], 0x0, none⟩,
  ⟨0x0D005, "ENC.INDEX", "", .u8, .live, 0, 15, 0, 2, 0, false, [], [], 0x0, none⟩,
  ⟨0x0D006, "ENC.Z_GATE", "", .bool, .live, 0, 15, 0, 1, 0, false, [], [], 0x0, none⟩,
  ⟨0x0D007, "ENC.PPR", "counts per revol", .u32, .live, 0, 15, 4, 16777216, 0, false, [0], [], 0x0, none⟩,
  ⟨0x0D008, "ENC.VEL_WINDOW", "us", .u32, .live, 0, 15, 100, 100000, 0, false, [], [], 0x3E8, none⟩]

/-- The STREAM parameters (R559; their tables give type, range, default and change mode). -/
def paramsStream : List ParamDesc := [
  ⟨0x0E001, "STREAM.TASK", "", .u16, .image, 0, 15, 0, 1023, 0, false, [], [], 0x0, none⟩,
  ⟨0x0E002, "STREAM.DRAIN_DEADLINE", "ms", .u32, .live, 0, 15, 0, 600000, 0, false, [], [], 0x2710, none⟩]

/-- The OP parameters (R559; their tables give type, range, default and change mode). -/
def paramsOp : List ParamDesc := [
  ⟨0x0F001, "OP.CKPT_PERIOD", "us", .u32, .image, 1, 6, 1000, 1000000, 250, false, [], [], 0x2710, none⟩,
  ⟨0x0F002, "OP.CONTINUE_MAX", "ms", .u32, .live, 1, 6, 0, 3600000, 0, false, [], [], 0x1388, none⟩]

/-- The POCKET parameters (R559; their tables give type, range, default and change mode). -/
def paramsPocket : List ParamDesc := [
  ⟨0x10001, "POCKET.OP_AREA", "bytes", .u16, .image, 0, 0, 0, 14336, 256, false, [], [], 0x3000, none⟩,
  ⟨0x10002, "POCKET.RETAIN_AREA", "bytes", .u16, .image, 0, 0, 0, 14336, 256, false, [], [], 0x800, none⟩,
  ⟨0x10003, "POCKET.SLOTS", "slots of 32 byte", .u16, .image, 0, 3, 0, 448, 0, false, [], [], 0x80, none⟩]

/-- The ACQ parameters (R559; their tables give type, range, default and change mode). -/
def paramsAcq : List ParamDesc := [
  ⟨0x11001, "ACQ.ENABLE", "", .bool, .live, 0, 31, 0, 1, 0, false, [], [], 0x0, none⟩,
  ⟨0x11002, "ACQ.SRC_KIND", "", .u8, .image, 0, 31, 0, 3, 0, false, [], [], 0x0, none⟩,
  ⟨0x11003, "ACQ.SRC0", "", .point, .image, 0, 31, 0, 33554431, 0, false, [], [], 0x0, none⟩,
  ⟨0x11004, "ACQ.SRC1", "", .point, .image, 0, 31, 0, 33554431, 0, false, [], [], 0x0, none⟩,
  ⟨0x11005, "ACQ.SRC2", "", .point, .image, 0, 31, 0, 33554431, 0, false, [], [], 0x0, none⟩,
  ⟨0x11006, "ACQ.SRC3", "", .point, .image, 0, 31, 0, 33554431, 0, false, [], [], 0x0, none⟩,
  ⟨0x11007, "ACQ.SRC4", "", .point, .image, 0, 31, 0, 33554431, 0, false, [], [], 0x0, none⟩,
  ⟨0x11008, "ACQ.SRC5", "", .point, .image, 0, 31, 0, 33554431, 0, false, [], [], 0x0, none⟩,
  ⟨0x11009, "ACQ.SRC6", "", .point, .image, 0, 31, 0, 33554431, 0, false, [], [], 0x0, none⟩,
  ⟨0x1100A, "ACQ.SRC7", "", .point, .image, 0, 31, 0, 33554431, 0, false, [], [], 0x0, none⟩,
  ⟨0x1100B, "ACQ.FORMAT", "", .u8, .image, 0, 31, 0, 2, 0, false, [], [], 0x0, none⟩,
  ⟨0x1100C, "ACQ.DECIM", "samples", .u16, .image, 0, 31, 1, 65535, 0, false, [], [], 0x1, none⟩,
  ⟨0x1100D, "ACQ.POINT_INTERVAL", "us", .u32, .image, 0, 31, 10, 1000000, 10, false, [], [], 0x3E8, none⟩,
  ⟨0x1100E, "ACQ.DEADBAND", "counts", .u32, .live, 0, 31, 0, 65535, 0, false, [], [], 0x0, none⟩,
  ⟨0x1100F, "ACQ.PRE_US", "us", .u32, .image, 0, 31, 0, 60000000, 0, false, [], [], 0x3E8, none⟩,
  ⟨0x11010, "ACQ.POST_US", "us", .u32, .image, 0, 31, 1, 600000000, 0, false, [], [], 0x2710, none⟩,
  ⟨0x11011, "ACQ.POOL_KIB", "KiB", .u16, .image, 0, 31, 0, 2048, 4, false, [], [], 0x40, none⟩,
  ⟨0x11012, "ACQ.RING_MIB", "MiB", .u16, .image, 0, 31, 1, 1024, 0, false, [], [], 0x10, none⟩,
  ⟨0x11013, "ACQ.RING_POLICY", "", .u8, .live, 0, 31, 0, 1, 0, false, [], [], 0x0, none⟩,
  ⟨0x11014, "ACQ.MODE", "", .u8, .live, 0, 31, 0, 2, 0, false, [], [], 0x0, none⟩,
  ⟨0x11015, "ACQ.TRIG_KIND", "", .u8, .live, 0, 31, 0, 11, 0, false, [], [], 0x0, none⟩,
  ⟨0x11016, "ACQ.TRIG_SRC", "", .u32, .live, 0, 31, 0, 4294967295, 0, false, [], [], 0x0, none⟩,
  ⟨0x11017, "ACQ.TRIG_LEVEL", "Source units (R3", .f32, .live, 0, 31, (fkey 0xFF7FFFFF), (fkey 0x7F7FFFFF), 0, false, [], [], 0x00000000, none⟩,
  ⟨0x11018, "ACQ.TRIG_LEVEL2", "Source units (R3", .f32, .live, 0, 31, (fkey 0xFF7FFFFF), (fkey 0x7F7FFFFF), 0, false, [], [], 0x00000000, none⟩]

/-- The ACQ parameters (R559; their tables give type, range, default and change mode). -/
def paramsAcq2 : List ParamDesc := [
  ⟨0x11019, "ACQ.TRIG_HYST", "Source units", .f32, .live, 0, 31, (fkey 0x00000000), (fkey 0x7F7FFFFF), 0, false, [], [], 0x00000000, none⟩,
  ⟨0x1101A, "ACQ.QUALIFIER", "", .point, .live, 0, 31, 0, 33554431, 0, false, [], [], 0x0, none⟩,
  ⟨0x1101B, "ACQ.HOLDOFF", "us", .u32, .live, 0, 31, 0, 10000000, 0, false, [], [], 0x0, none⟩,
  ⟨0x1101C, "ACQ.AUTO_TIMEOUT", "ms", .u32, .live, 0, 31, 1, 60000, 0, false, [], [], 0x64, none⟩,
  ⟨0x1101D, "ACQ.TRIG_OUT", "", .bits, .live, 0, 31, 0, 15, 0, false, [], [], 0x0, none⟩,
  ⟨0x1101E, "ACQ.DISABLE_DEADLINE", "ms", .u32, .live, 0, 31, 0, 10000, 0, false, [], [], 0x64, none⟩,
  ⟨0x1101F, "ACQ.TRG_DELAY", "ns", .u16, .live, 0, 3, 0, 2000, 0, false, [], [], 0x0, none⟩,
  ⟨0x11020, "ACQ.TRG_ECHO", "", .bool, .live, 0, 3, 0, 1, 0, false, [], [], 0x0, none⟩]

/-- The THATCH parameters (R559; their tables give type, range, default and change mode). -/
def paramsThatch : List ParamDesc := [
  ⟨0x12001, "THATCH.ADAPT", "", .bool, .live, 0, 0, 0, 1, 0, false, [], [], 0x1, none⟩,
  ⟨0x12002, "THATCH.ADAPT_LIMIT", "% of 150 M updat", .u8, .live, 0, 0, 50, 95, 0, false, [], [], 0x5A, none⟩,
  ⟨0x12003, "THATCH.TIGHT_HOLD", "ms", .u32, .live, 0, 0, 100, 60000, 0, false, [], [], 0x7D0, none⟩,
  ⟨0x12004, "THATCH.TIGHT_MIB", "MiB", .u16, .image, 0, 0, 0, 512, 0, false, [], [], 0x40, none⟩,
  ⟨0x12005, "THATCH.LOG_MIB", "MiB", .u16, .image, 0, 0, 16, 1024, 0, false, [], [], 0x100, none⟩]

/-- The CAN parameters (R559; their tables give type, range, default and change mode). -/
def paramsCan : List ParamDesc := [
  ⟨0x14001, "CAN.ENABLE", "", .bool, .live, 0, 7, 0, 1, 0, false, [], [], 0x0, none⟩,
  ⟨0x14002, "CAN.OPMODE", "", .u8, .mode, 0, 7, 0, 4, 0, false, [], [], 0x0, none⟩,
  ⟨0x14003, "CAN.FD", "", .u8, .image, 0, 7, 0, 1, 0, false, [], [], 0x0, none⟩,
  ⟨0x14004, "CAN.PEX", "", .bool, .image, 0, 7, 0, 1, 0, false, [], [], 0x1, none⟩,
  ⟨0x14005, "CAN.NBRP", "", .u16, .image, 0, 7, 1, 256, 0, false, [], [], 0x2, none⟩,
  ⟨0x14006, "CAN.NTSEG1", "tq", .u16, .image, 0, 7, 2, 256, 0, false, [], [], 0x3F, none⟩,
  ⟨0x14007, "CAN.NTSEG2", "tq", .u8, .image, 0, 7, 1, 128, 0, false, [], [], 0x10, none⟩,
  ⟨0x14008, "CAN.NSJW", "tq", .u8, .image, 0, 7, 1, 128, 0, false, [], [(.le, 0x14007)], 0x10, none⟩,
  ⟨0x14009, "CAN.DBRP", "", .u8, .image, 0, 7, 1, 32, 0, false, [], [], 0x1, none⟩,
  ⟨0x1400A, "CAN.DTSEG1", "tq", .u8, .image, 0, 7, 1, 32, 0, false, [], [], 0x1D, none⟩,
  ⟨0x1400B, "CAN.DTSEG2", "tq", .u8, .image, 0, 7, 1, 16, 0, false, [], [], 0xA, none⟩,
  ⟨0x1400C, "CAN.DSJW", "tq", .u8, .image, 0, 7, 1, 16, 0, false, [], [(.le, 0x1400B)], 0xA, none⟩,
  ⟨0x1400D, "CAN.TDC", "", .bool, .image, 0, 7, 0, 1, 0, false, [], [], 0x1, none⟩,
  ⟨0x1400E, "CAN.TDC_OFFSET", "periods of 12.5 ", .u8, .image, 0, 7, 0, 127, 0, false, [], [], 0x1E, none⟩,
  ⟨0x1400F, "CAN.TRIPLE", "", .bool, .image, 0, 7, 0, 1, 0, false, [], [], 0x0, none⟩,
  ⟨0x14010, "CAN.TERM", "", .bool, .live, 0, 7, 0, 1, 0, false, [], [], 0x0, none⟩,
  ⟨0x14011, "CAN.RECOVERY", "", .u8, .live, 0, 7, 0, 1, 0, false, [], [], 0x0, none⟩,
  ⟨0x14012, "CAN.TT_ROLE", "", .u8, .image, 0, 7, 0, 3, 0, false, [], [], 0x0, none⟩,
  ⟨0x14013, "CAN.TT_LEVEL", "", .u8, .image, 0, 7, 1, 2, 0, false, [], [], 0x1, none⟩,
  ⟨0x14014, "CAN.TT_REF_ID", "", .u32, .image, 0, 7, 0, 1073741823, 0, false, [], [], 0x0, none⟩,
  ⟨0x14015, "CAN.TT_NTU", "ns", .u32, .image, 0, 7, 100, 100000, 0, false, [], [], 0x3E8, none⟩,
  ⟨0x14016, "CAN.TT_CYCLE", "NTU", .u16, .image, 0, 7, 64, 65535, 0, false, [], [], 0x2710, none⟩,
  ⟨0x14017, "CAN.TT_MASTER_TIME", "", .u8, .image, 0, 7, 0, 1, 0, false, [], [], 0x1, none⟩,
  ⟨0x14018, "CAN.T2_SOURCE", "", .bool, .image, 0, 7, 0, 1, 0, false, [], [], 0x0, none⟩]

/-- The CAN parameters (R559; their tables give type, range, default and change mode). -/
def paramsCan2 : List ParamDesc := [
  ⟨0x14019, "CAN.SLOT_RETRY", "retransmissions", .u8, .live, 0, 255, 0, 255, 0, false, [], [], 0x0, none⟩,
  ⟨0x1401A, "CAN.SLOT_DEADLINE", "us", .u32, .live, 0, 255, 100, 10000000, 0, false, [0], [], 0x0, none⟩,
  ⟨0x1401B, "CAN.SLOT_HOLD", "", .u8, .live, 0, 255, 0, 1, 0, false, [], [], 0x1, none⟩,
  ⟨0x1401C, "CAN.SLOT_TT_OFFSET", "NTU", .u16, .image, 0, 255, 0, 65534, 0, false, [], [], 0x0, none⟩,
  ⟨0x1401D, "CAN.SLOT_TT_BASE", "cycle", .u8, .image, 0, 255, 0, 63, 0, false, [], [], 0x0, none⟩,
  ⟨0x1401E, "CAN.SLOT_TT_REPEAT", "cycles", .u8, .image, 0, 255, 1, 1, 0, false, [2, 4, 8, 16, 32, 64], [], 0x1, none⟩]

/-- The ETH parameters (R559; their tables give type, range, default and change mode). -/
def paramsEth : List ParamDesc := [
  ⟨0x15001, "ETH.ENABLE", "", .bool, .live, 0, 2, 0, 1, 0, false, [], [], 0x0, none⟩,
  ⟨0x15002, "ETH.SPEED", "", .u8, .image, 0, 2, 0, 3, 0, false, [], [], 0x0, none⟩,
  ⟨0x15003, "ETH.IPV4", "", .u32, .image, 0, 2, 0, 4294967295, 0, false, [], [], 0x0, none⟩,
  ⟨0x15004, "ETH.IPV4_MASK", "", .u32, .image, 0, 2, 0, 4294967295, 0, false, [], [], 0x0, none⟩,
  ⟨0x15005, "ETH.VID", "", .u16, .image, 0, 2, 0, 4094, 0, false, [], [], 0x0, none⟩,
  ⟨0x15006, "ETH.PHY_TX_DELAY", "ns", .u16, .image, 0, 2, 0, 2000, 0, false, [], [], 0x0, none⟩,
  ⟨0x15007, "ETH.PHY_RX_DELAY", "ns", .u16, .image, 0, 2, 0, 2000, 0, false, [], [], 0x0, none⟩,
  ⟨0x15008, "ETH.QBV", "", .bool, .image, 0, 2, 0, 1, 0, false, [], [], 0x0, none⟩,
  ⟨0x15009, "ETH.QBV_BASE", "", .u8, .image, 0, 2, 0, 1, 0, false, [], [], 0x0, none⟩,
  ⟨0x1500A, "ETH.GCL_LEN", "entries", .u8, .image, 0, 2, 1, 64, 0, false, [], [], 0x1, none⟩,
  ⟨0x1500B, "ETH.GCL_GATES", "", .bits, .image, 0, 191, 0, 255, 0, false, [], [], 0xFF, none⟩,
  ⟨0x1500C, "ETH.GCL_NS", "ns", .u32, .image, 0, 191, 1000, 1000000000, 8, false, [], [], 0xF4240, none⟩,
  ⟨0x1500D, "ETH.PTP_ROLE", "", .u8, .image, 0, 2, 0, 2, 0, false, [], [], 0x0, none⟩,
  ⟨0x1500E, "ETH.PTP_PROFILE", "", .u8, .image, 0, 2, 0, 2, 0, false, [], [], 0x0, none⟩,
  ⟨0x1500F, "ETH.PTP_DOMAIN", "", .u8, .image, 0, 2, 0, 255, 0, false, [], [], 0x0, none⟩,
  ⟨0x15010, "ETH.PTP_SYNC_LOG", "log2 s", .i8, .image, 0, 2, (-7), 4, 0, false, [], [], 0xFFFFFFFD, none⟩]

/-- The TIME parameters (R559; their tables give type, range, default and change mode). -/
def paramsTime : List ParamDesc := [
  ⟨0x16001, "TIME.SOURCE", "", .u8, .image, 1, 3, 0, 3, 0, false, [], [], 0x0, none⟩,
  ⟨0x16002, "TIME.SOURCE_PORT", "", .u8, .image, 1, 3, 0, 2, 0, false, [], [], 0x0, none⟩,
  ⟨0x16003, "TIME.STEP_THRESHOLD", "us", .u32, .live, 1, 3, 10, 1000000, 0, false, [], [], 0x3E8, none⟩,
  ⟨0x16004, "TIME.ACQ_COUNT", "measurements", .u8, .live, 1, 3, 2, 16, 0, false, [], [], 0x4, none⟩,
  ⟨0x16005, "TIME.CORR_PERIOD", "ms", .u32, .image, 1, 3, 10, 10000, 0, false, [], [], 0x3E8, none⟩,
  ⟨0x16006, "TIME.SLEW_TC", "s", .f32, .live, 1, 3, (fkey 0x3F800000), (fkey 0x447A0000), 0, false, [], [], 0x41200000, none⟩,
  ⟨0x16007, "TIME.FREQ_WINDOW", "s", .u32, .live, 1, 3, 1, 600, 0, false, [], [], 0x10, none⟩,
  ⟨0x16008, "TIME.LOCK_LIMIT", "ns", .u32, .live, 1, 3, 10, 1000000, 0, false, [], [], 0x3E8, none⟩,
  ⟨0x16009, "TIME.LOSS_TIME", "ms", .u32, .live, 1, 3, 100, 60000, 0, false, [], [], 0xBB8, none⟩,
  ⟨0x1600A, "TIME.RESTEP_IN_RUN", "", .bool, .live, 0, 0, 0, 1, 0, false, [], [], 0x0, none⟩]

/-- The TWIN parameters (R559; their tables give type, range, default and change mode). -/
def paramsTwin : List ParamDesc := [
  ⟨0x17001, "TWIN.ENABLE", "", .bool, .image, 0, 0, 0, 1, 0, false, [], [], 0x0, none⟩,
  ⟨0x17002, "TWIN.ID", "", .u8, .image, 0, 0, 0, 1, 0, false, [], [], 0x0, none⟩,
  ⟨0x17003, "TWIN.AUTO_PAIR", "", .bool, .live, 0, 0, 0, 1, 0, false, [], [], 0x1, none⟩,
  ⟨0x17004, "TWIN.PAIR_WAIT", "ms", .u32, .live, 0, 0, 100, 60000, 0, false, [], [], 0x7D0, none⟩,
  ⟨0x17005, "TWIN.PARALLEL", "", .bool, .image, 0, 511, 0, 1, 0, false, [], [], 0x0, none⟩,
  ⟨0x17006, "TWIN.AO_PARALLEL", "", .bool, .image, 0, 31, 0, 1, 0, false, [], [], 0x0, none⟩,
  ⟨0x17007, "TWIN.PRIVILEGED", "", .bool, .image, 0, 511, 0, 1, 0, false, [], [], 0x0, none⟩,
  ⟨0x17008, "TWIN.SWAP_PERIOD", "h", .u32, .live, 0, 0, 1, 168, 0, false, [], [], 0x18, none⟩,
  ⟨0x17009, "TWIN.PROOF_MA", "mA", .f32, .live, 0, 0, (fkey 0x40A00000), (fkey 0x437A0000), 0, false, [], [], 0x41A00000, none⟩]

/-- The SAFE parameters (R559; their tables give type, range, default and change mode). -/
def paramsSafe : List ParamDesc := [
  ⟨0x18001, "SAFE.GROUP", "", .bool, .image, 0, 63, 0, 1, 0, false, [], [], 0x0, none⟩,
  ⟨0x18002, "SAFE.CUT_TEST_PERIOD", "min", .u32, .image, 0, 0, 10, 240, 0, false, [], [], 0xF0, none⟩,
  ⟨0x18003, "SAFE.ESTOP_FILTER", "us", .u32, .image, 0, 0, 100, 5000, 10, false, [], [], 0x1F4, none⟩,
  ⟨0x18004, "SAFE.ESTOP_DISC", "ms", .u32, .image, 0, 0, 10, 1000, 0, false, [], [], 0x32, none⟩,
  ⟨0x18005, "SAFE.ERRIN_ACTION", "", .u8, .image, 0, 0, 0, 2, 0, false, [], [], 0x2, none⟩,
  ⟨0x18006, "SAFE.REACT", "", .u8, .image, 0, 4095, 0, 2, 0, false, [], [], 0x0, none⟩,
  ⟨0x18007, "SAFE.CH_ACTION", "", .u8, .image, 0, 511, 0, 3, 0, false, [], [], 0x0, none⟩,
  ⟨0x18008, "SAFE.AO_ACTION", "", .u8, .image, 0, 31, 0, 3, 0, false, [], [], 0x1, none⟩,
  ⟨0x18009, "SAFE.AXIS_STOP", "", .u8, .image, 0, 31, 0, 2, 0, false, [], [], 0x1, none⟩,
  ⟨0x1800A, "SAFE.AXIS_AFTER", "", .u8, .image, 0, 31, 0, 1, 0, false, [], [], 0x0, none⟩]

/-- The HOST parameters (R559; their tables give type, range, default and change mode). -/
def paramsHost : List ParamDesc := [
  ⟨0x1A001, "HOST.UDP_ENABLE", "", .bool, .live, 0, 0, 0, 1, 0, false, [], [], 0x1, none⟩,
  ⟨0x1A002, "HOST.UDP_IDLE", "s", .u32, .live, 0, 0, 1, 3600, 0, false, [], [], 0x3C, none⟩,
  ⟨0x1A003, "HOST.SPI_ENABLE", "", .bool, .image, 0, 0, 0, 1, 0, false, [], [], 0x0, none⟩,
  ⟨0x1A004, "HOST.HB_TIMEOUT", "ms", .u32, .live, 0, 0, 10, 60000, 0, false, [0], [], 0x0, none⟩,
  ⟨0x1A005, "HOST.HB_ACTION", "", .u8, .live, 0, 0, 0, 1, 0, false, [], [], 0x0, none⟩]

/-- The SYS parameters (R559; their tables give type, range, default and change mode). -/
def paramsSys : List ParamDesc := [
  ⟨0x01001, "SYS.FORCE_IN_RUN", "", .bool, .mode, 0, 0, 0, 1, 0, false, [], [], 0x0, none⟩,
  ⟨0x01002, "SYS.BOOT_TO_CONFIG", "", .bool, .restart, 0, 0, 0, 1, 0, false, [], [], 0x0, none⟩,
  ⟨0x01003, "SYS.CE_LOAD_LIMIT", "%", .u8, .image, 0, 0, 10, 90, 0, false, [], [], 0x46, none⟩,
  ⟨0x01004, "SYS.PLACE_ADAPT", "", .bool, .live, 0, 0, 0, 1, 0, false, [], [], 0x1, none⟩,
  ⟨0x01005, "SYS.PLACE_MARGIN", "percentage point", .u8, .live, 0, 0, 5, 50, 0, false, [], [], 0xF, none⟩,
  ⟨0x01006, "SYS.RESUME_TO_HOLD", "", .bool, .live, 0, 0, 0, 1, 0, false, [], [], 0x0, none⟩,
  ⟨0x01007, "SYS.IMAGE_REGION_MIB", "MiB", .u16, .image, 0, 0, 64, 512, 64, false, [], [], 0x100, none⟩,
  ⟨0x01008, "SYS.STAGING_REGION_MIB", "MiB", .u16, .image, 0, 0, 64, 128, 64, false, [], [], 0x40, none⟩]

/-- The MODE parameters (R559; their tables give type, range, default and change mode). -/
def paramsMode : List ParamDesc := [
  ⟨0x02001, "MODE.MIN_DWELL", "ms", .u32, .image, 0, 11, 0, 60000, 0, false, [], [], 0x0, none⟩]

/-- The CE parameters (R559; their tables give type, range, default and change mode). -/
def paramsCe : List ParamDesc := [
  ⟨0x04001, "CE.RETAIN_PERIOD", "ms", .u32, .live, 0, 0, 1, 1000, 0, false, [], [], 0xA, none⟩]

/-- The LE parameters (R559; their tables give type, range, default and change mode). -/
def paramsLe : List ParamDesc := [
  ⟨0x06001, "LE.LOAD_LIMIT", "%", .u8, .image, 0, 7, 10, 90, 0, false, [], [], 0x4B, none⟩]

/-- The CAM parameters (R559; their tables give type, range, default and change mode). -/
def paramsCam : List ParamDesc := [
  ⟨0x09001, "CAM.ENGINES", "", .bits, .image, 0, 63, 0, 15, 0, false, [], [], 0x0, none⟩]

/-- The AO parameters (R559; their tables give type, range, default and change mode). -/
def paramsAo : List ParamDesc := [
  ⟨0x0C001, "AO.MODE", "", .u8, .image, 0, 31, 0, 4, 0, false, [], [], 0x0, none⟩,
  ⟨0x0C002, "AO.DEFAULT", "Output units", .f32, .mode, 0, 31, (fkey 0xFF7FFFFF), (fkey 0x7F7FFFFF), 0, false, [], [], 0x00000000, none⟩]

/-- The POCKET parameters (R559; their tables give type, range, default and change mode). -/
def paramsPocketB : List ParamDesc := [
  ⟨0x10004, "POCKET.UPSIZE", "", .bool, .image, 0, 0, 0, 1, 0, false, [], [], 0x1, none⟩]

/-- The ACQ parameters (R559; their tables give type, range, default and change mode). -/
def paramsAcqB : List ParamDesc := [
  ⟨0x11021, "ACQ.REGION_MIB", "MiB", .u16, .image, 0, 0, 64, 1024, 64, false, [], [], 0x200, none⟩]

/-- The THATCH parameters (R559; their tables give type, range, default and change mode). -/
def paramsThatchB : List ParamDesc := [
  ⟨0x12006, "THATCH.REGION_MIB", "MiB", .u16, .image, 0, 0, 512, 3072, 64, false, [], [], 0x800, none⟩]

/-- The EVT parameters (R559; their tables give type, range, default and change mode). -/
def paramsEvt : List ParamDesc := [
  ⟨0x13001, "EVT.COALESCE_MS", "ms", .u32, .live, 0, 1023, 0, 60000, 0, false, [], [], 0x3E8, none⟩]

/-- The TILE parameters (R559; their tables give type, range, default and change mode). -/
def paramsTile : List ParamDesc := [
  ⟨0x1B001, "TILE.ENABLE", "", .bool, .image, 0, 3, 0, 1, 0, false, [], [], 0x1, none⟩]

/-- The TASK parameters (R559; their tables give type, range, default and change mode). -/
def paramsTask : List ParamDesc := [
  ⟨0x03001, "TASK.LEVEL", "", .u8, .image, 0, 1023, 0, 31, 0, false, [], [], 0x10, none⟩,
  ⟨0x03002, "TASK.PERIOD", "us", .u32, .image, 0, 1023, 50, 10000000, 0, false, [], [], 0x2710, none⟩,
  ⟨0x03003, "TASK.PHASE", "us", .u32, .image, 0, 1023, 0, 9999999, 0, false, [], [(.lt, 0x03002)], 0x0, none⟩,
  ⟨0x03004, "TASK.BUDGET", "10 ns", .u32, .image, 0, 1023, 1, 1000000000, 0, false, [], [], 0x1, none⟩,
  ⟨0x03005, "TASK.AFFINITY", "", .u16, .image, 0, 1023, 1, 65535, 0, false, [], [], 0xFFFF, none⟩,
  ⟨0x03006, "TASK.OVERRUN", "", .u8, .live, 0, 1023, 0, 1, 0, false, [], [], 0x0, none⟩,
  ⟨0x03007, "TASK.MAX_SKIP", "", .u8, .live, 0, 1023, 1, 255, 0, false, [], [], 0x3, none⟩,
  ⟨0x03008, "TASK.TRIGGER", "", .u8, .image, 0, 1023, 0, 7, 0, false, [], [], 0x0, none⟩,
  ⟨0x03009, "TASK.ENABLE", "", .bool, .live, 0, 1023, 0, 1, 0, false, [], [], 0x1, none⟩,
  ⟨0x0300A, "TASK.MAINT_RUN", "", .bool, .mode, 0, 1023, 0, 1, 0, false, [], [], 0x0, none⟩,
  ⟨0x0300B, "TASK.TRIGGER_SRC", "", .u32, .image, 0, 1023, 0, 4294967295, 0, false, [], [], 0x0, none⟩,
  ⟨0x0300C, "TASK.WINDOW_WAIT", "us", .u32, .live, 0, 1023, 0, 1000, 0, false, [], [], 0x14, none⟩]

/-- The CV parameters (R559; their tables give type, range, default and change mode). -/
def paramsCv : List ParamDesc := [
  ⟨0x19001, "CV.MAX_MBPS", "MB/s", .u16, .live, 0, 3, 10, 3200, 0, false, [], [], 0xFA, none⟩,
  ⟨0x19002, "CV.IMAGE_SCAN_PERIOD", "s", .u32, .live, 0, 0, 10, 3600, 0, false, [], [], 0x3C, none⟩]

/-- The PROF parameters (R559; their tables give type, range, default and change mode). -/
def paramsProfB : List ParamDesc := [
  ⟨0x08009, "PROF.VMAX", "microsteps/s", .f32, .live, 0, 63, (fkey 0x3F800000), (fkey 0x49C35000), 0, false, [], [], 0x47C35000, none⟩,
  ⟨0x0800A, "PROF.AMAX", "microsteps/s^2", .f32, .live, 0, 63, (fkey 0x3F800000), (fkey 0x4EEE6B28), 0, false, [], [], 0x49742400, none⟩,
  ⟨0x0800B, "PROF.JMAX", "microsteps/s^3", .f32, .live, 0, 63, (fkey 0x447A0000), (fkey 0x5368D4A5), 0, false, [(fkey 0x00000000)], [], 0x4CBEBC20, none⟩]

/-- Every kind this manual names, by class (R559). -/
def paramTable : List (List ParamDesc) := [
  paramsLoop,
  paramsLoop2,
  paramsLoop3,
  paramsAxis,
  paramsAxis2,
  paramsProf,
  paramsAxisB,
  paramsCh,
  paramsAi,
  paramsEnc,
  paramsStream,
  paramsOp,
  paramsPocket,
  paramsAcq,
  paramsAcq2,
  paramsThatch,
  paramsCan,
  paramsCan2,
  paramsEth,
  paramsTime,
  paramsTwin,
  paramsSafe,
  paramsHost,
  paramsSys,
  paramsMode,
  paramsCe,
  paramsLe,
  paramsCam,
  paramsAo,
  paramsPocketB,
  paramsAcqB,
  paramsThatchB,
  paramsEvt,
  paramsTile,
  paramsTask,
  paramsCv,
  paramsProfB]

/-- The description of a kind code (class * 4096 + kind), if it is defined here. -/
def paramDesc (code : Nat) : Option ParamDesc :=
  paramTable.findSome? (fun l => l.find? (fun d => d.code == code))

end Sys2Proof.Machine
end

