-- ==== Sys2Proof/Machine/State.lean ====
section
/-! DEFINITION. The state of the block and `State.reset`; its parts stand in Parts. -/

namespace Sys2Proof.Machine

/-! ### The whole state -/

/-- The state of the block. -/
structure State where
  t0 : Nat := 0
  clock : ClockSt := {}
  islands : Tbl IslandSt := []
  links : Tbl LinkSt := []
  nodes : Tbl NodeSt := []
  memErr : MemErrSt := {}
  img : ImageSt := {}
  mode : ModeSt := {}
  params : ParamSt := {}
  deck : DeckSt := {}
  fw : FwSt := {}
  sched : SchedSt := {}
  recd : RecSt := {}
  thatch : ThatchSt := {}
  ridge : RidgeSt := {}
  host : HostSt := {}
  domains : Tbl DomainSt := []
  can : Tbl CanSt := []
  eth : Tbl EthSt := []
  csx : Tbl CsxBlock := []
  loops : Tbl LoopSt := []
  loopEng : Tbl LoopEng := []
  evq : List Event := []
  faultq : List FaultRep := []
  outbox : List OutMsg := []
  pocket : PocketSt := {}
  rst : RestartSt := {}
  motion : MotionSt := {}
  io : FieldSt := {}
  twin : TwinSt := {}
  cv : CvSt := {}
  track : TrackSt := {}
  streams : Tbl StreamSt := []
  acq : Tbl AcqUnit := []
  lines : Tbl TrgLine := []
  freeCtr : Nat := 0
  pending : List Instr := []
  deriving DecidableEq, Repr

/-- Why the machine stops with a fault. -/
inductive Fault where
  /-- Raised by no meaning of this model: the spec gives every command an effect. Safe. -/
  | none
  deriving DecidableEq, Repr

/-- Why a command has no meaning. -/
inductive Refusal where
  /-- Raised by an arm of `exec` whose command has no meaning yet. Safe. -/
  | notModelled (mnemonic : String)
  deriving DecidableEq, Repr

/-- The state right after reset: M1 BOOT of a cold restart, every register at its reset value, nothing queued. -/
def State.reset : State := {}

/-- What a meaning answers. -/
abbrev Res := Host.Outcome State Fault Refusal

end Sys2Proof.Machine
end

