-- ==== Sys2Proof/Machine/Ops.lean ====
section
/-! DEFINITION. The shared operations: tables, byte memory, CRC-32C, events, Ridge reports, parameters, the process image, mailbox responses. -/

namespace Sys2Proof.Machine

/-! ### Tables and byte memory -/

/-- Read a table; an unlisted key reads as `d`. -/
def tget {α : Type} (d : α) : Tbl α → Nat → α
  | [], _ => d
  | (k, v) :: r, n => if k = n then v else tget d r n

/-- Write a table, keeping the keys in rising order. -/
def tset {α : Type} : Tbl α → Nat → α → Tbl α
  | [], n, v => [(n, v)]
  | (k, w) :: r, n, v => if n < k then (n, v) :: (k, w) :: r else if n = k then (n, v) :: r else (k, w) :: tset r n v

/-- Drop a key. -/
def tdel {α : Type} (t : Tbl α) (n : Nat) : Tbl α := t.filter (fun e => e.1 != n)

/-- Change one entry. -/
def tmod {α : Type} (d : α) (t : Tbl α) (n : Nat) (f : α → α) : Tbl α := tset t n (f (tget d t n))

/-- The keys listed. -/
def tkeys {α : Type} (t : Tbl α) : List Nat := t.map (·.1)

/-- What a byte of memory that nothing has written reads as (DESIGN CHOICE, log 2). -/
def memBlank : Byte := 0

/-- Read one byte. -/
def mread : Mem → Nat → Byte
  | [], _ => memBlank
  | (k, v) :: r, n => if k = n then v else mread r n

/-- Drop the entry of an address. -/
def merase (m : Mem) (n : Nat) : Mem := m.filter (fun e => e.1 != n)

/-- Put an entry at an address, in rising order. -/
def minsert : Mem → Nat → Byte → Mem
  | [], n, b => [(n, b)]
  | (k, v) :: r, n, b => if n < k then (n, b) :: (k, v) :: r else if n = k then (n, b) :: r else (k, v) :: minsert r n b

/-- Write one byte, keeping the canonical form. -/
def mwrite (m : Mem) (n : Nat) (b : Byte) : Mem := if b = memBlank then merase m n else minsert m n b

/-- Write a list of bytes from an address upwards. -/
def mwrites : Mem → Nat → List Byte → Mem
  | m, _, [] => m
  | m, n, b :: r => mwrites (mwrite m n b) (n + 1) r

/-- Read `k` bytes from an address upwards. -/
def mreads (m : Mem) (n k : Nat) : List Byte := (List.range k).map (fun i => mread m (n + i))

/-- The canonical form of byte memory: addresses strictly rising, no entry equal to the blank byte. -/
abbrev Memory.wf (m : Mem) : Prop := (m.map (·.1)).Pairwise (· < ·) ∧ ∀ c ∈ m, c.2 ≠ memBlank

/-! ### Little-endian bytes (R7) and CRC-32C (R16, R79) -/

/-- The value of bytes, lowest first. -/
def leVal : List Byte → Nat
  | [] => 0
  | b :: r => b.toNat + 256 * leVal r

/-- `n` bytes of a value, lowest first. -/
def leBytes : Nat → Nat → List Byte
  | 0, _ => []
  | n + 1, v => bv 8 (v % 256) :: leBytes n (v / 256)

/-- The field of `n` bytes at offset `o`. -/
def fld (p : List Byte) (o n : Nat) : Nat := leVal ((p.drop o).take n)

/-- One bit step of the reflected CRC with polynomial 0x1EDC6F41. -/
def crcBit (c : Word) : Word := if c.getLsbD 0 then (c >>> 1) ^^^ 0x82F63B78#32 else c >>> 1

/-- One byte of the CRC. -/
def crcByte (c : Word) (b : Byte) : Word :=
  let x := c ^^^ b.zeroExtend 32
  crcBit (crcBit (crcBit (crcBit (crcBit (crcBit (crcBit (crcBit x)))))))

/-- The CRC-32C of bytes (R16). -/
def crc32c (l : List Byte) : Word := ~~~ (l.foldl crcByte 0xFFFFFFFF#32)

/-- The 32-bit words of a byte list, XORed each with its folding term (R79, R511): `fold o` is XORed into the word at offset `o`. -/
def foldWords (fold : Nat → Nat) : Nat → List Byte → List Byte
  | o, a :: b :: c :: d :: r => leBytes 4 (Nat.xor (leVal [a, b, c, d]) (fold o % 2 ^ 32)) ++ foldWords fold (o + 4) r
  | _, l => l

/-- Bytes with the `n` at offset `o` taken as 0. -/
def zeroAt (l : List Byte) (o n : Nat) : List Byte := l.mapIdx (fun i b => if o ≤ i ∧ i < o + n then 0 else b)

/-- Bytes padded with zeros to a multiple of 4. -/
def pad4 (l : List Byte) : List Byte := l ++ List.replicate ((4 - l.length % 4) % 4) 0

/-- The image CRC: address-folded, its own field taken as 0 (R79). -/
def imgCrc (l : List Byte) : Word := crc32c (foldWords id 0 (zeroAt l 0x38 4))

/-- The frame CRC: every word folded with the frame's SEQ, the CRC field taken as 0 (R530). -/
def frameCrc (l : List Byte) : Word := crc32c (foldWords (fun _ => fld l 0x10 4) 0 (zeroAt (pad4 l) 0x1C 4))

/-- Serial-number comparison of R8: `a` later than `b` in `w` bits; half the space apart is not later. -/
def later (w a b : Nat) : Bool := let d := (a + 2 ^ w - b % 2 ^ w) % 2 ^ w; decide (0 < d ∧ d < 2 ^ (w - 1))

/-! ### Time -/

/-- One millisecond and one microsecond in ns. -/
def ms : Nat := 1000000
/-- One microsecond in ns. -/
def us : Nat := 1000
/-- One second in ns. -/
def sec : Nat := 1000000000

/-- The first whole millisecond not earlier than `a + d` (R72, R579, R547). -/
def wholeMs (a d : Nat) : Nat := (a + d + ms - 1) / ms * ms

/-! ### Modes -/

/-- The mode's number (R44). -/
def Mode.num : Mode → Nat
  | .keep => 0 | .boot => 1 | .config => 2 | .idle => 3 | .run => 4 | .hold => 5
  | .resume => 6 | .maint => 7 | .test => 8 | .standby => 9 | .safe => 10 | .update => 11

/-- The mode of a number. -/
def modeOf (n : Nat) : Option Mode :=
  [Mode.keep, .boot, .config, .idle, .run, .hold, .resume, .maint, .test, .standby, .safe, .update][n]?

/-- In M11 the outputs, loops, axes, streams and programs behave as in the mode of origin (R68). -/
def effMode (s : State) : Mode := if s.mode.cur = .update then s.mode.origin else s.mode.cur

/-! ### Events, Ridge reports, outputs -/

/-- Report an event to the recorder: class, source island and unit, object, payload values. What a silent tile notes waits in its gap buffer with its T0 (R355, R357, R419). -/
def note (s : State) (cls : Ev) (isl unit : Nat) (object : Nat := 0) (payload : List Nat := []) : State :=
  let e : Event := ⟨cls, bv 32 (isl * 2 ^ 24 + unit), bv 32 object, payload.map (bv 64), false⟩
  if 0x60 ≤ isl ∧ isl < 0x64 ∧ (tget {} s.nodes (isl - 0x60)).silent then
    { s with nodes := tmod {} s.nodes (isl - 0x60) (fun d => { d with gapEv := d.gapEv ++ [{ e with payload := e.payload ++ [bv 64 s.t0], replay := true }] }) }
  else { s with evq := s.evq ++ [e] }

/-- Report a fault to the Ridge (class 1, R17). -/
def report (s : State) (code : Nat) (isl : Nat := 0x7F) (unit : Nat := 0) (addr : Nat := 0) : State :=
  { s with faultq := s.faultq ++ [⟨code, isl, unit, addr⟩] }

/-- Send something to an outside agent. -/
def send (s : State) (kind : Out) (dst : Nat := 0) (arg : List Int := []) (bytes : List Byte := []) : State :=
  { s with outbox := s.outbox ++ [⟨kind, dst, arg, bytes⟩] }

/-- A fresh unstated value and the state whose counter has moved on (DESIGN CHOICE, log 5). -/
def fresh (s : State) : DWord × State := (Config.freeValue s.freeCtr, { s with freeCtr := s.freeCtr + 1 })

/-! ### Parameters (R90-R92) -/

/-- The table key of a parameter in a scope: 0 base, 1-12 the Shingles of M0-M11. -/
def pkey (scope id : Nat) : Nat := scope * 2 ^ 32 + id

/-- The ID of a kind's index (R6). -/
def pid (code inst : Nat) : Nat := code * 4096 + inst

/-- The value of an optional table entry. -/
def tfind {α : Type} (t : Tbl α) (n : Nat) : Option α := (t.find? (fun e => e.1 == n)).map (·.2)

/-- The value in force of a key: the latest accepted LIVE SET whose instant has come, else what is in force. -/
def inForce (s : State) (key : Nat) : Option DWord :=
  match (s.params.live.filter (fun p => p.key == key && decide (p.due ≤ s.t0))).getLast? with
  | some p => if p.remove then none else some p.value
  | none => tfind s.params.force key

/-- The device itself sets an ENABLE parameter to 0: its base value and the delta in force, at once (R106, R225). -/
def enableOff (s : State) (id : Nat) : State :=
  let base := pkey 0 id
  let over_ := pkey (s.mode.cur.num + 1) id
  let f := tset s.params.force base 0
  { s with params := { s.params with
      force := if (inForce s over_).isSome then tset f over_ 0 else f, live := s.params.live.filter (fun p => p.key != base && p.key != over_) } }

/-- Half of I_FS for a sense resistor of `r` mΩ, in binary32: 100 / r A (R256, R257). -/
def halfFs (r : Nat) : Nat := let n := 100 * 2 ^ 60; fround f32 false false (2 * (n / r) + (if n % r = 0 then 0 else 1)) (-61)

/-- The default of a parameter: its table's, or the per-index exceptions of R228, R329 and R454. -/
def pdefault (code inst : Nat) : Nat :=
  if code = pProfKind then (if inst % 16 < 8 then 1 else 2) else
  if code = pPocketSlots then ([128, 64, 16, 8][inst]?).getD 0
  else if code = pEthEnable then (if inst = 0 then 1 else 0)
  else match paramDesc code with | some d => d.dflt | none => 0

/-- The value of a base or default, following a default that is another parameter (R163). -/
def pbase (s : State) (code inst : Nat) : DWord :=
  match inForce s (pkey 0 (pid code inst)) with
  | some v => v
  | none =>
    if code = pChLoadMa ∧ inst % 2 = 0 ∧ inForce s (pkey 0 (pid pChMode inst)) = some 4 then 500
    else if code = pAxisIRun then
      bv 64 (halfFs (max 1 (match inForce s (pkey 0 (pid pAxisRsense inst)) with | some v => v.toNat | none => pdefault pAxisRsense inst)))
    else match (paramDesc code).bind (·.dfltOf) with
    | some c => match inForce s (pkey 0 (pid c inst)) with | some v => v | none => bv 64 (pdefault c inst)
    | none => bv 64 (pdefault code inst)

/-- The effective value: the base overlaid by the current mode's Shingle (R90). -/
def peff (s : State) (code inst : Nat) : DWord :=
  match inForce s (pkey (s.mode.cur.num + 1) (pid code inst)) with
  | some v => v
  | none => pbase s code inst

/-- The effective value as a number. -/
def param (s : State) (code inst : Nat) : Nat := (peff s code inst).toNat

/-- The effective value as a flag. -/
def flag (s : State) (code inst : Nat) : Bool := param s code inst % 2 == 1

/-- A binary32 parameter rounded towards zero to an integer (0 for a value that is not finite). -/
def paramInt (s : State) (code inst : Nat) : Int := (ftrunc f32 (param s code inst % 2 ^ 32)).getD 0

/-- The two's complement value of the low 32 bits. -/
def sval32 (v : Nat) : Int := (bv 32 v).toInt

/-! ### Values by type (R45) -/

/-- The smaller of two values: for BITS32 the AND. -/
def minV (ty : Nat) (a b : Word) : Word :=
  match ty with
  | 7 => a &&& b
  | 4 => if flt f32 b.toNat a.toNat then b else a
  | 2 | 5 | 6 => if b.toInt < a.toInt then b else a
  | _ => if b < a then b else a

/-- The larger of two values: for BITS32 the OR. -/
def maxV (ty : Nat) (a b : Word) : Word :=
  match ty with
  | 7 => a ||| b
  | 4 => if flt f32 a.toNat b.toNat then b else a
  | 2 | 5 | 6 => if a.toInt < b.toInt then b else a
  | _ => if a < b then b else a

/-! ### The process image (R45-R51) -/

/-- Point IDs (R5): region and index. -/
def ptid (region index : Nat) : Nat := region * 2 ^ 20 + index
/-- The region of a point ID. -/
def ptRegion (p : Nat) : Nat := p / 2 ^ 20
/-- The index of a point ID in its region. -/
def ptIndex (p : Nat) : Nat := p % 2 ^ 20

/-- The conditions in falling precedence (R50). -/
def qualOrder : List Nat := [7, 8, 3, 5, 4, 6, 2, 1, 10, 9]

/-- The quality code of the highest condition that holds, GOOD with none (R50). -/
def qualOf (c : BitVec 16) : Nat := (qualOrder.find? (fun q => c.getLsbD q)).getD 0

/-- The conditions that hold alone for a quality code. -/
def condOf (q : Nat) : BitVec 16 := if q = 0 then 0 else bv 16 (2 ^ q)

/-- The types of the facets of a SYS point (R44), 0 for an unpopulated index. -/
def sysTy (i : Nat) : Nat :=
  if i = 3 then 7 else if i < 8 then 3 else if 0x1000 ≤ i ∧ i < 0x1800 then 3
  else if 0x2000 ≤ i ∧ i < 0x201C ∧ i % 4 ≠ 3 then 3 else 0

/-- The type of facet `i` in a list of types. -/
def nthTy (l : List Nat) (i : Nat) : Nat := (l[i]?).getD 0

/-- The type of a point that the device's own units populate (R43, R44, R229, R271, R324, R328, R393, R446, R471, R505); 0 for none. Points of stations, MEM and DERIVED take theirs from the Deck. -/
def fixedTy (s : State) (p : Nat) : Nat :=
  let i := ptIndex p
  match ptRegion p with
  | 0x00 => sysTy i
  | 0x13 => if s.twin.st = 0 ∨ s.twin.st = 1 then 0 else sysTy i
  | 0x01 =>
    let m := param s pChMode (i / 16)
    if 512 ≤ i / 16 then 0
    else if i % 16 = 7 then (if m = 4 ∧ i / 16 % 2 = 1 then 0 else 4)
    else if m = 1 ∨ m = 2 then nthTy [1, 0, 0, 4, 7, 4, 3] (i % 16)
    else if m = 3 ∨ (m = 4 ∧ i / 16 % 2 = 0) then nthTy [0, 1, 1, 4, 7, 4] (i % 16) else 0
  | 0x02 =>
    let m := param s pAiMode (i / 16)
    if 128 ≤ i / 16 ∨ m = 0 ∨ (i / 16 % 2 = 1 ∧ (param s pAiMode (i / 16 - 1) = 7 ∨ param s pAiMode (i / 16 - 1) = 8)) then 0 else if i % 16 = 2 ∧ m ≠ 6 then 0 else nthTy [4, 2, 4, 7] (i % 16)
  | 0x03 => if 32 ≤ i / 16 ∨ param s pAoMode (i / 16) = 0 then 0 else nthTy [4, 4, 7] (i % 16)
  | 0x04 => if 32 ≤ i / 256 ∨ param s pTileEnable (i / 2048) = 0 then 0 else nthTy [2, 2, 4, 3, 4, 4, 7, 3] (i % 256)
  | 0x05 => if 64 ≤ i / 256 then 0 else nthTy [2, 4, 3, 3, 2, 4, 4, 4, 3, 7, 8, 3] (i % 256)
  | 0x06 => if (tget {} s.loops (i / 256)).present then nthTy [4, 4, 4, 4, 3, 7, 4, 4] (i % 256) else 0
  | 0x07 => if 16 ≤ i / 16 ∨ param s pEncMode (i / 16) = 0 then 0 else nthTy [2, 2, 4, 7] (i % 16)
  | 0x14 => if i < 0x4000 then nthTy [8, 3, 3, 3, 3, 3, 3, 3, 3, 3, 3, 8, 3] (i % 64) else if i < 0x4008 then 3 else 0
  | 0x15 => if 16 ≤ i / 4096 ∨ 20 ≤ i % 4096 then 0 else if i % 4096 = 4 then 8 else 3
  | 0x16 => if 32 ≤ i / 256 ∨ 13 ≤ i % 256 then 0 else if i % 256 = 9 then 7 else 3
  | 0x17 =>
    if 0x4000 ≤ i then (if (i < 0x4100 ∧ i % 16 < 7) ∨ (0x4100 ≤ i ∧ i < 0x4103) then 3 else 0)
    else if (tget {} s.sched.tasks (i / 16)).present then (if i % 16 = 1 then 7 else 3) else 0
  | 0x1C => if 4 ≤ i / 256 then 0 else nthTy [3, 3, 3, 2, 2, 3, 3, 3, 3, 3, 3] (i % 256)
  | 0x1D =>
    if i < 10 then nthTy [3, 3, 3, 7, 7, 7, 7, 7, 3, 3] i
    else if 0x100 ≤ i ∧ i < 0x200 then 3 else if 0x1000 ≤ i ∧ i < 0x2000 then 3 else 0
  | r => if 8 ≤ r ∧ r ≤ 15 then (if i = 3 then 7 else if i < 11 ∨ (0x10 ≤ i ∧ i < 0x16) ∨ (0x100 ≤ i ∧ i < 0x180) then 3 else 0) else 0

/-- The point in the image. -/
def pget (s : State) (p : Nat) : Point :=
  let e := tget {} s.img.points p
  if e.ty = 0 then { e with ty := fixedTy s p } else e

/-- A point's quality code. -/
def Point.qual (p : Point) : Nat := qualOf p.conds

/-- The 64-bit image entry (R45). -/
def Point.entry (p : Point) : DWord :=
  bv 64 (p.ivl.toNat * 2 ^ 48 + p.ucnt.toNat * 2 ^ 40 + p.ty % 16 * 2 ^ 36 + p.qual * 2 ^ 32 + p.value.toNat)

/-- Whether the point is populated (R46: type NONE is unpopulated). -/
def populated (s : State) (p : Nat) : Bool := (pget s p).ty != 0

/-- The force or simulation in force on a point; a force precedes (R63). -/
def forceOf (s : State) (p : Nat) : Option Force :=
  match s.img.forces.find? (fun f => f.point == p && !f.sim) with
  | some f => some f
  | none => s.img.forces.find? (fun f => f.point == p)

/-- The simulated value: the DERIVED source's value when one is named (R63). -/
def forceVal (s : State) (f : Force) : Word := if f.derivedSrc = 0 then f.value else (pget s f.derivedSrc).value

/-- A point after an update with effective T0 `t` (R48, R49, R50, R62). -/
def showOn (s : State) (t : Nat) (pt : Point) (p : Nat) (v : Word) (c : BitVec 16) : Point :=
  let base : Point := { pt with ucnt := pt.ucnt + 1, ivl := bv 16 (t / 10000), source := v, srcConds := c }
  match forceOf s p with
  | some f => { base with value := forceVal s f, conds := c ||| condOf (if f.sim then 8 else 7) }
  | none => { base with value := v, conds := c }

/-- The event tasks that an update triggers (R96 kinds 1-4): task numbers of the listed tasks whose trigger source is the point. -/
def trigTasks (s : State) (p : Nat) (old new : Point) : List Nat :=
  (s.sched.tasks.filter (fun e =>
    e.2.kind == 1 && param s pTaskTriggerSrc e.1 == p &&
    match param s pTaskTrigger e.1 with
    | 1 => old.value == 0 && new.value == 1
    | 2 => old.value == 1 && new.value == 0
    | 3 => old.value != new.value
    | 4 => old.qual != new.qual
    | _ => false)).map (·.1)

/-- Whether a tile aggregates a point itself: CH, AI, AO and ENC facets, and AX facets 4 and 5 (R394). -/
def tilePoint (p : Nat) : Bool :=
  match ptRegion p with | 1 | 2 | 3 | 7 => true | 4 => decide (ptIndex p % 256 = 4 ∨ ptIndex p % 256 = 5) | _ => false

/-- What Thatch is told of a visible update (R394): every point but LOCAL and those that tiles aggregate. -/
def thatchUpd (s : State) (u : Upd) (new : Point) : List ThUpd :=
  if ptRegion u.point = 0x1F ∨ tilePoint u.point ∨ s.thatch.plan.isEmpty then [] else [{ point := u.point, t := u.due, val := new.value, qual := new.qual }]

/-- Make one update visible (R48, R51, R96). -/
def showUpd (s : State) (u : Upd) : State :=
  let old := pget s u.point
  let new := showOn s u.due old u.point u.value u.conds
  { s with
    img := { s.img with points := tset s.img.points u.point new }
    thatch := { s.thatch with queue := s.thatch.queue ++ thatchUpd s u new }
    sched := { s.sched with trigs := s.sched.trigs ++ (trigTasks s u.point old new).map (fun t => (t, u.due)) } }

/-- What a paired active device, or one whose snapshot is on its way, forwards to its standby (R475, R477): 0 update, 1 trigger, 2 SET, 3 mode request, 4 command, 5 journal transaction, 6 end of instant, 7 CRC of an output set, 8 exchange. -/
def forward (s : State) (kind : Nat) (args : List Nat) (bytes : List Byte := []) : State :=
  if s.twin.st = 5 ∨ (s.twin.st = 4 ∧ s.twin.p0.isSome) then send s Out.seamForward kind (args.map Int.ofNat) bytes else s

/-- An update that the image unit takes, whoever sends it (R51); an unpopulated point takes none (R60). -/
def putUpdate (s : State) (t p : Nat) (v : Word) (c : BitVec 16) : State :=
  if populated s p then { s with img := { s.img with pend := s.img.pend ++ [⟨t, p, v, c⟩] } } else s

/-- Hand an update to the image unit, which holds it until its effective T0 (R51). A paired active device forwards it; a standby's image takes forwarded updates alone, but for its own SYS points, which its partner mirrors (R475, R477). -/
def update (s : State) (t p : Nat) (v : Word) (c : BitVec 16 := 0) : State :=
  if s.mode.cur = .standby then
    if ptRegion p = 0 then putUpdate (send s Out.seamForward 0 [t, p, v.toNat, c.toNat]) t p v c else s
  else putUpdate (forward s 0 [t, p, v.toNat, c.toNat]) t p v c

/-- Several updates of one effective T0. -/
def updates (s : State) (t : Nat) (l : List (Nat × Word × BitVec 16)) : State :=
  l.foldl (fun s e => update s t e.1 e.2.1 e.2.2) s

/-- Updates that the pending store holds: 65,536 at most; a writer of any more waits (R51). -/
def pendStore (s : State) : List Upd := s.img.pend.take 65536

/-- The point as it stands with every update of effective T0 at most `t` applied and none later (R52). -/
def pgetAt (s : State) (t p : Nat) : Point :=
  ((pendStore s).filter (fun u => u.point == p && decide (u.due ≤ t))).foldl
    (fun pt u => showOn s u.due pt p u.value u.conds) (pget s p)

/-- An update of a SYS point (R44) at the present T0. -/
def sysPoint (s : State) (index v : Nat) : State := update s s.t0 (ptid 0 index) (bv 32 v)

/-- The tile or port that holds a point: 0-3 the tiles, 4-6 the Ethernet ports (R42, R98). -/
def nodeOf (p : Nat) : Option Nat :=
  let i := ptIndex p
  match ptRegion p with
  | 1 => some (i / 16 / 128)
  | 2 => some (i / 16 / 32)
  | 3 => some (i / 16 / 8)
  | 4 => some (i / 256 / 8)
  | 7 => some (i / 16 / 4)
  | r => if 8 ≤ r ∧ r ≤ 15 then some ((r - 8) / 2) else if 16 ≤ r ∧ r ≤ 18 then some (r - 12) else none

/-! ### Host interrupts and responses (R533, R538) -/

/-- The vector that serves an interrupt bit (R538). -/
def irqVector (b : Nat) : Nat := if b < 8 then b else if b < 16 then b - 8 else if b = 18 then 9 else 8

/-- A mailbox's registers. -/
def mbx (s : State) (m : Nat) : MbxSt := tget {} s.host.mbx m

/-- Change a mailbox's registers. -/
def setMbx (s : State) (m : Nat) (f : MbxSt → MbxSt) : State :=
  { s with host := { s.host with mbx := tmod {} s.host.mbx m f } }

/-- Set one interrupt cause; a newly set enabled bit fires its vector (R538). -/
def irq (s : State) (b : Nat) : State :=
  let fires := !s.host.intStatus.getLsbD b && s.host.intEnable.getLsbD b &&
    (decide (16 ≤ b) || (mbx s (b % 8)).intEn)
  let s := { s with host := { s.host with intStatus := s.host.intStatus ||| bv 32 (2 ^ b) } }
  if fires then send s Out.msix (irqVector b) else s

/-- A list cut into pieces of at most `n`, with fuel for its length. -/
def chunks {α : Type} (n : Nat) : Nat → List α → List (List α)
  | 0, l => [l]
  | k + 1, l => if l.length ≤ n then [l] else l.take n :: chunks n k (l.drop n)

/-- The frames of one response: every frame but the last carries MORE, the last the flags given (R533). -/
def respFrames (t : CmdTag) (status flags timeUs arg : Nat) : List (List Byte) → List Resp
  | [] => []
  | p :: r =>
    let u := if t.transport = 2 then some t.src else none
    { tag := t.tag, opcode := t.opcode, target := t.target, status := status, flags := if r.isEmpty then flags else 4, timeUs := timeUs, arg := arg, payload := p, udp := u, cseq := t.seq } ::
      respFrames t status flags timeUs arg r

/-- The outstanding command of a tag, or one that names it when none is outstanding. -/
def tagOf (s : State) (r : Req) (op : Nat) : CmdTag :=
  ((mbx s r.mb).tags.find? (fun t => t.tag == r.tag.toNat)).getD
    { tag := r.tag.toNat, opcode := op, target := r.target, accepted := s.t0, payload := r.payload }

/-- Queue the response of a command; one with FINAL ends the tag and its held ranges, and a RELEASE that waited takes effect with the last tag (R533, R535, R537). -/
def respond (s : State) (r : Req) (op status flags : Nat) (payload : List Byte) : State :=
  let t := tagOf s r op
  let limit := if t.transport = 2 then 1440 else 4064
  let fs := respFrames t status flags (min ((s.t0 - t.accepted) / us) (2 ^ 32 - 1)) (t.accepted / us % 2 ^ 32)
    (chunks limit payload.length payload)
  let fin := flags % 2 == 1
  let s := setMbx s r.mb (fun m =>
    let tags := if fin then m.tags.filter (fun x => x.tag != r.tag.toNat) else m.tags
    let drop := m.relPend && tags.isEmpty
    { m with resps := m.resps ++ fs, tags := tags, relPend := m.relPend && !drop
             owner := if drop then 0 else m.owner, isOpen := m.isOpen && !drop })
  if fin then { s with host := { s.host with holds := s.host.holds.filter (fun h => !(h.mb == r.mb.val && h.tag == r.tag.toNat)) } } else s

/-- The value that governs in a scope of the working Deck: the delta, or the base, marked so outside scope 0 (R544). -/
def govern (s : State) (scope id : Nat) : DWord × Bool :=
  match tfind s.params.working (pkey scope id) with
  | some v => (v, false)
  | none =>
    match if scope = 0 then none else tfind s.params.working (pkey 0 id) with
    | some v => (v, true)
    | none => (match tfind s.params.working (pkey 0 id) with | some v => v | none => bv 64 (pdefault (id / 4096) (id % 4096)), scope ≠ 0)

/-- The record of a C command (R544): HOST_ACTION, or for a SET or UNSET that is refused a CONFIG_CHANGE whose value is unchanged and whose IN_EFFECT is unstated. -/
def hostAction (s : State) (r : Req) (op status : Nat) : State :=
  let t := tagOf s r op
  if op = 0x0102 ∨ op = 0x0103 then
    let sc := fld r.payload 0 1
    let (v, b) := govern s sc r.target.toNat
    let (e, s) := fresh s
    note s Ev.configChange 0x48 r.mb r.target.toNat [sc, t.transport, r.tag.toNat, if b then 3 else 0, v.toNat, v.toNat, e.toNat]
  else
    note s Ev.hostAction 0x48 r.mb r.target.toNat
      [op, t.transport, r.tag.toNat, status, fld r.payload 0 8, fld r.payload 8 8, fld r.payload 16 8, fld r.payload 24 4]

/-- A refused request for a mode is recorded: old mode, requested mode, trigger and status (R77; no E, DEDUCED, log 133). -/
def modeRefused (s : State) (r : Req) (op status : Nat) : State :=
  if status = 0 then s
  else if op = 0x0002 then note s Ev.modeRefused 0x00 0 0 [s.mode.cur.num, fld r.payload 0 1, 0, status]
  else if op = 0x0801 then note s Ev.modeRefused 0x00 0 0 [s.mode.cur.num, 3, 2, status]
  else s

/-- Complete a command with its final response; a C command is recorded (R544), a refused request for a mode twice (R77). -/
def finish (s : State) (r : Req) (op : Nat) (isC : Bool) (status : Nat) (payload : List Byte := []) : State :=
  let s := if isC then hostAction (modeRefused s r op status) r op status else s
  respond s r op status 1 payload

/-- Answer ACCEPTED; a final response follows (R533). -/
def accepted (s : State) (r : Req) (op : Nat) (payload : List Byte := []) : State := respond s r op 1 0 payload

/-- A command may begin while the Steward is ready (R540, R541) and no power failure has been flushed (R358), after every earlier command of its mailbox has begun, or with BARRIER has its final response (R534). A request whose tag is not outstanding is one taken in at this instant (DESIGN CHOICE, log 40). -/
def mayBegin (s : State) (r : Req) (op : Nat) : Bool :=
  let l := (mbx s r.mb).tags
  s.host.ready && s.rst.stage != 4 &&
    (match l.find? (fun t => t.tag == r.tag.toNat) with
     | some t =>
       let earlier := l.takeWhile (fun x => x.tag != t.tag)
       !t.begun && t.opcode == op && t.target == r.target && t.payload == r.payload && (if t.barrier then earlier.isEmpty else earlier.all (·.begun))
     | none => l.all (·.begun))

/-- The command begins: its tag is outstanding from now on at the latest (R533, R534). -/
def beginCmd (s : State) (r : Req) (op : Nat) : State :=
  let t := { tagOf s r op with begun := true }
  setMbx s r.mb (fun m => { m with
    tags := if m.tags.any (fun x => x.tag == t.tag) then m.tags.map (fun x => if x.tag = t.tag then t else x) else m.tags ++ [t] })

/-- Whether a command is past its deadline (R534). -/
def tooLate (s : State) (t : CmdTag) : Bool := t.deadlineUs != 0 && decide (t.accepted + t.deadlineUs * us < s.t0)

/-- The checks every command shares, in order: deadline (R534), payload length, payload fields, mode (R542, R543); then the command's own effect. -/
def command (s : State) (r : Req) (op : Nat) (isC : Bool) (modes : List Mode) (len : Nat) (payloadOk : Bool)
    (run : State → State) : State :=
  if !mayBegin s r op then s
  else
    let late := tooLate s (tagOf s r op)
    let s := beginCmd s r op
    if late then finish s r op isC 0x0508
    else if r.payload.length < len then finish s r op isC 0x0102
    else if !payloadOk then finish s r op isC 0x010E
    else if isC && decide (s.mode.cur = .standby) && op != 0x0003 then finish s r op isC 0x0209
    else if isC && decide (s.mode.cur = .resume) then finish s r op isC 0x0201
    else if !modes.contains s.mode.cur then finish s r op isC 0x0201
    else run s

/-- The modes "All" names: M2 to M11 (R543). -/
def allModes : List Mode := [.config, .idle, .run, .hold, .resume, .maint, .test, .standby, .safe, .update]

/-- Count bytes against the host bulk share in its 10 µs window (R38, R537). -/
def bulkCount (s : State) (n : Nat) : State :=
  let w := s.t0 / (10 * us)
  { s with host := { s.host with bulkWin := w, bulkUsed := (if s.host.bulkWin = w then s.host.bulkUsed else 0) + n } }

/-- Whether a copy may start (R38, R39, R537): while fewer bytes than the share of 10,000 have gone in this window; beyond them idle bandwidth, which the spec does not fix, decides. Onset and end of the throttling are recorded (R40). -/
def bulkMay (s : State) (n : Nat) : Bool × State :=
  let used := if s.host.bulkWin = s.t0 / (10 * us) then s.host.bulkUsed else 0
  let (ok, s) := if used < 10000 then (true, s) else (let (v, s) := fresh s; (v.getLsbD 0, s))
  let was := s.host.throttled
  let s := { s with host := { s.host with throttled := !ok } }
  let s := if was = !ok then s else note s Ev.bulkThrottle 0x48 0 0 [if ok then 0 else 1]
  (ok, if ok then bulkCount s n else s)

/-- Whether a range lies in the bulk window on word boundaries (R542). -/
def bulkOk (off len : Nat) : Bool := off % 4 == 0 && len % 4 == 0 && decide (off + len ≤ 2 ^ 24)

/-- Whether a range overlaps one that a command holds (R537). -/
def bulkBusy (s : State) (off len : Nat) : Bool :=
  s.host.holds.any (fun h => decide (off < h.off + h.len ∧ h.off < off + len))

/-- Hold a bulk range for a command (R537). -/
def holdBulk (s : State) (r : Req) (off len : Nat) : State :=
  { s with host := { s.host with holds := s.host.holds ++ [⟨off, len, r.mb, r.tag.toNat⟩] } }

end Sys2Proof.Machine
end

