-- ==== Sys2Proof/Machine/Planner.lean ====
section
/-! DEFINITION. Exact rationals of binary32 values, roundings the spec leaves open, and the motion planner (R231-R233, R236). -/

namespace Sys2Proof.Machine

/-- The exact value of binary32 bits; 0 for a NaN or infinity. -/
def ratOf (b : Nat) : Rat :=
  match fdec f32 b with
  | .fin n m e => (if n then -1 else 1) * (if e ≥ 0 then ((m * 2 ^ e.toNat : Nat) : Rat) else (m : Rat) / ((2 ^ (-e).toNat : Nat) : Rat))
  | _ => 0

/-- A parameter's FLOAT32 value. -/
def paramRat (s : State) (code inst : Nat) : Rat := ratOf (param s code inst % 2 ^ 32)

/-- A rational in binary32, nearest even. -/
def f32OfRat (r : Rat) : Nat :=
  let n := r.num.natAbs * 2 ^ 160
  fround f32 false (r.num < 0) (2 * (n / r.den) + (if n % r.den = 0 then 0 else 1)) (-161)

/-- An integer of the grid next to a rational: itself when it lies on the grid, else the neighbour the open rounding takes (DESIGN CHOICE, log 11). -/
def gridOf (r : Rat) : Int :=
  let f := r.floor
  if r.den = 1 then r.num else if Config.roundUp r.num r.den then f + 1 else f

/-- The nearest integer; a tie goes to the neighbour the open rounding takes (DESIGN CHOICE, log 11). -/
def nearOf (r : Rat) : Int :=
  let f := r.floor
  let d := r - f
  if d < 1 / 2 then f else if 1 / 2 < d then f + 1 else if Config.roundUp r.num r.den then f + 1 else f

/-- The largest Q31 value and the clamp to Q31 (R170). -/
def q31Max : Int := 2147483647
/-- Clamp to [-2^31, 2^31 - 1]. -/
def clamp31 (x : Int) : Int := max (-2147483648) (min q31Max x)

/-- The largest natural whose `k`-th power is at most `n`, by bits from `b` down. -/
def rootBits (k n : Nat) : Nat → Nat → Nat
  | 0, a => a
  | b + 1, a => let c := a + 2 ^ b; rootBits k n b (if c ^ k ≤ n then c else a)

/-- A non-negative root on a grid of 2^-40: exact when it lies there, else a neighbour (DESIGN CHOICE, log 12). -/
def rootOf (k : Nat) (r : Rat) : Rat :=
  if r ≤ 0 then 0
  else
    let n := r.num.natAbs * 2 ^ (40 * k) / r.den
    let a := rootBits k n (Nat.log2 n / k + 1) 0
    let exact := a ^ k * r.den = r.num.natAbs * 2 ^ (40 * k)
    ((if exact then a else if Config.roundUp r.num r.den then a + 1 else a : Nat) : Rat) / ((2 ^ 40 : Nat) : Rat)

/-- The phases of a rest-to-rest move over D > 0 with limits V, A, J (R231); a trapezoid steps its acceleration. -/
def restPhases (D V A J : Rat) : List (Rat × Rat × Rat) :=
  if D ≤ 0 then []
  else if J = 0 then
    let Ta := min (V / A) (rootOf 2 (D / A))
    let Vp := A * Ta
    [(Ta, A, 0), (if Vp = 0 then 0 else (D - Vp * Ta) / Vp, -A, 0), (Ta, -A, 0)]
  else
    let c3 := (-(A * A) / J + rootOf 2 (A * A * A * A / (J * J) + 4 * A * D)) / 2
    let (Tj, Ta, Vp, cruise) :=
      if V * J ≥ A * A ∧ D ≥ V * V / A + V * A / J then (A / J, V / A - A / J, V, true)
      else if V * J < A * A ∧ D ≥ 2 * rootOf 2 (V * V * V / J) then (rootOf 2 (V / J), 0, V, true)
      else if c3 ≥ A * A / J then (A / J, c3 / A - A / J, c3, false)
      else let Tj := rootOf 3 (D / (2 * J)); (Tj, 0, J * Tj * Tj, false)
    let Dacc := Vp * (Tj + Ta / 2)
    [(Tj, 0, J), (Ta, 0, 0), (Tj, 0, -J), (if cruise then (D - 2 * Dacc) / Vp else 0, 0, 0), (Tj, 0, -J), (Ta, 0, 0), (Tj, 0, J)]

/-- Phases mirrored for the negative direction. -/
def mirror (sg : Rat) (l : List (Rat × Rat × Rat)) : List (Rat × Rat × Rat) := l.map (fun e => (e.1, sg * e.2.1, sg * e.2.2))

/-- Position, velocity and acceleration after time `t` of a list of phases (R231). -/
def runPhases : List (Rat × Rat × Rat) → Rat → Rat → Rat → Rat → Rat × Rat × Rat
  | [], _, p, v, a => (p, v, a)
  | (d, k, j) :: r, t, p, v, a0 =>
    let a := a0 + k
    let x := if t < d then t else d
    let p' := p + v * x + a * x * x / 2 + j * x * x * x / 6
    let v' := v + a * x + j * x * x / 2
    let a' := a + j * x
    if t < d then (p', v', a') else runPhases r (t - d) p' v' a'

/-- The duration of phases in s. -/
def phasesLen (l : List (Rat × Rat × Rat)) : Rat := l.foldl (fun a e => a + e.1) 0

/-- The state of a plan at T0 `t` ns. -/
def Plan.at_ (q : Plan) (t : Nat) : Rat × Rat × Rat :=
  runPhases q.phases (((t - q.start : Nat) : Rat) / 1000000000) q.p q.v q.a

/-- Whether the plan ends at the sample at `t`: its end is at or before t + Ts (R233). -/
def Plan.ends (q : Plan) (t tsNs : Nat) : Bool :=
  decide (phasesLen q.phases ≤ ((t + tsNs - q.start : Nat) : Rat) / 1000000000)

/-- The stop generator's phases from v >= 0 and a (R236); already decelerating hard, it comes to rest where v reaches 0. -/
def stopPhases (v a A J : Rat) : List (Rat × Rat × Rat) :=
  if v = 0 ∧ a = 0 then []
  else if J = 0 then [(if A = 0 then 0 else v / A, -A - a, 0)]
  else
    let r := rootOf 2 (J * v + a * a / 2)
    let Ap := if A < r then A else r
    if a + Ap < 0 then [((-a - rootOf 2 (a * a - 2 * J * v)) / J, 0, J)]
    else [((a + Ap) / J, 0, -J), (if Ap = 0 then 0 else (v + a * a / (2 * J) - Ap * Ap / J) / Ap, 0, 0), (Ap / J, 0, J)]

/-- A stop from any state, the sign normalised. -/
def stopFrom (v a A J : Rat) : List (Rat × Rat × Rat) :=
  let sg : Rat := if v < 0 ∨ (v = 0 ∧ a < 0) then -1 else 1
  mirror sg (stopPhases (sg * v) (sg * a) A J)

/-- The distance a stop covers. -/
def stopDist (v a A J : Rat) : Rat := let l := stopFrom v a A J; (runPhases l (phasesLen l) 0 v a).1

/-- Plan from a state to a target: rest to rest by R231; from a moving state by the open phases, or, with the target inside the stopping distance, a stop and a move back (R232). -/
def planTo (t : Nat) (p v a target V A J : Rat) : Plan :=
  let rest (D : Rat) := mirror (if D < 0 then -1 else 1) (restPhases (if D < 0 then -D else D) V A J)
  if v = 0 ∧ a = 0 then ⟨t, p, 0, 0, rest (target - p), target⟩
  else
    let x := stopDist v a A J
    let D := target - p
    if (0 < x ∧ D < x) ∨ (x < 0 ∧ x < D) then
      let st := stopFrom v a A J
      let e := runPhases st (phasesLen st) p v a
      -- the stop ends at rest: what remains of its acceleration is stepped away
      ⟨t, p, v, a, st ++ [(0, -e.2.2, 0)] ++ rest (target - e.1), target⟩
    else ⟨t, p, v, a, Config.movingPlan [p, v, a, target, V, A, J], target⟩

/-- Plan a change of velocity (R232, phases 1 to 3); the plan ends at the new velocity. -/
def planVel (t : Nat) (p v a vt A J : Rat) : Plan :=
  let d := vt - v
  let sg : Rat := if d < 0 then -1 else 1
  let D := sg * d
  if a = 0 then
    if D = 0 then ⟨t, p, v, 0, [], p⟩
    else if J = 0 then ⟨t, p, v, 0, [(D / A, sg * A, 0), (0, -(sg * A), 0)], p⟩
    else
      let Tj := if A * A / J ≤ D then A / J else rootOf 2 (D / J)
      let Ta := if A * A / J ≤ D then D / A - Tj else 0
      ⟨t, p, v, 0, [(Tj, 0, sg * J), (Ta, 0, 0), (Tj, 0, -(sg * J))], p⟩
  else ⟨t, p, v, a, Config.movingPlan [v, a, vt, A, J], p⟩

/-- Plan a stop (R236, R247). -/
def planStop (t : Nat) (p v a A J : Rat) : Plan :=
  let l := stopFrom v a A J
  ⟨t, p, v, a, l, (runPhases l (phasesLen l) p v a).1⟩

/-! ### Sine and cosine of the electrical phase (R258) -/

/-- Terms of the cosine series from the `k`-th, with fuel. -/
def cosTerms (x2 : Rat) : Nat → Nat → Rat → Rat
  | 0, _, _ => 0
  | n + 1, k, t => t + cosTerms x2 n (k + 1) (-t * x2 / ((2 * k + 1) * (2 * k + 2)))

/-- The cosine of a small angle in rad by its series. -/
def cosSmall (x : Rat) : Rat := cosTerms (x * x) 14 0 1
/-- The sine of a small angle in rad by its series. -/
def sinTerms (x2 : Rat) : Nat → Nat → Rat → Rat
  | 0, _, _ => 0
  | n + 1, k, t => t + sinTerms x2 n (k + 1) (-t * x2 / ((2 * k + 2) * (2 * k + 3)))
/-- The sine of a small angle. -/
def sinSmall (x : Rat) : Rat := sinTerms (x * x) 14 0 x

/-- 2 pi / 1024 to 30 decimals (DESIGN CHOICE, log 19). -/
def phiUnit : Rat := 6283185307179586476925286766559 / 1024000000000000000000000000000000

/-- The cosine of phase `n` of 1,024 (R258). -/
def cosPhi (n : Nat) : Rat :=
  let n := n % 1024
  let h := if n ≤ 512 then n else 1024 - n
  if h ≤ 128 then cosSmall (phiUnit * h)
  else if h ≤ 256 then sinSmall (phiUnit * (256 - h : Nat))
  else if h ≤ 384 then -sinSmall (phiUnit * (h - 256 : Nat))
  else -cosSmall (phiUnit * (512 - h : Nat))

/-- The sine of phase `n`. -/
def sinPhi (n : Nat) : Rat := cosPhi (n + 768)

end Sys2Proof.Machine
end

