-- ==== Sys2Proof/Machine/ChanOps.lean ====
section
/-! DEFINITION. What decides a pin, and the facets of channels, analog channels and encoders (R271, R282, R283, R290, R302, R303, R307). -/

namespace Sys2Proof.Machine

/-- Give a tile facet its field value, which the next sample strobe latches (R51). -/
def putField (s : State) (p : Nat) (v : Word) (c : BitVec 16 := 0) : State :=
  { s with img := { s.img with field := tset s.img.field p (v, c) } }
/-- The field value of a tile facet. -/
def fieldOf (s : State) (p : Nat) : Word := (tget (0, 0) s.img.field p).1

/-- A channel. -/
def chan (s : State) (c : Nat) : ChSt := tget {} s.io.ch c
/-- Change a channel. -/
def setChan (s : State) (c : Nat) (f : ChSt → ChSt) : State := { s with io := { s.io with ch := tmod {} s.io.ch c f } }
/-- A group. -/
def grp (s : State) (g : Nat) : GrpSt := tget {} s.io.grp g
/-- Change a group. -/
def setGrp (s : State) (g : Nat) (f : GrpSt → GrpSt) : State := { s with io := { s.io with grp := tmod {} s.io.grp g f } }

/-- A channel facet's point. -/
def chPt (c f : Nat) : Nat := ptid 1 (c * 16 + f)
/-- Whether a channel is an output or half of a pair. -/
def isOut (s : State) (c : Nat) : Bool := decide (param s pChMode c = 3 ∨ param s pChMode c = 4)
/-- Whether a channel is an input. -/
def isIn (s : State) (c : Nat) : Bool := decide (param s pChMode c = 1 ∨ param s pChMode c = 2)
/-- A pair is one channel, its even one (R279). -/
def chKey (s : State) (c : Nat) : Nat := if param s pChMode c = 4 then c - c % 2 else c

/-- Whether a tile is aligned (R25). -/
def tileAligned (s : State) (n : Nat) : Bool := (tget {} s.islands (0x60 + n)).aligned

/-- A force (not a simulation) on a point (R62). -/
def forcedVal (s : State) (p : Nat) : Option Word :=
  match forceOf s p with | some f => if f.sim then none else some f.value | none => none

/-- The pin of an output: the first row of R290 that applies. -/
def pinOn (s : State) (c : Nat) : Bool :=
  let d := chan s c
  let g := grp s (c / 8)
  let nd := tget {} s.nodes (c / 128)
  if !nd.powered || !nd.configured then false
  else if g.cut || d.cutWait then false
  else if g.lost || g.ackWait || g.restoreAt.isSome then false
  else if d.latch ≠ 0 then false
  else match forcedVal s (chPt c 1) with
  | some v => v.getLsbD 0
  | none =>
    -- the safe action of M10 stands behind rows 1 to 5 (R500)
    match d.safe with
    | some v => v
    | none =>
    if d.twinOff then false
    else if s.mode.cur = .standby then
      (if flag s pTwinParallel c then flag s pTwinPrivileged c && (s.twin.standbyDrives || s.twin.proofBad.contains c) && d.cmd else flag s pChDefaultState c)
    else if nd.silent then d.cmd
    else if !tileAligned s (c / 128) then false
    else if effMode s ≠ .config ∧ !d.applied then false
    else if effMode s = .config then flag s pChDefaultState c
    else d.cmd

/-- The diagnostic word (R282): the channel's own flags and its group's. -/
def chWord (s : State) (c : Nat) : Nat :=
  let g := grp s (c / 8)
  let b (v : Bool) (k : Nat) : Nat := if v then 2 ^ k else 0
  let pt := match (chan s c).partner with | some y => (y % 128) * 2 ^ 17 + 2 ^ 24 | none => 0
  (chan s c).flags + b g.low 9 + b g.lost 10 + b g.high 11 + b g.cut 13 + b g.ackWait 16 +
    (if (chan s c).flags.testBit 5 then pt else 0)

/-- The conditions that a channel's flags put on facets 0, 1 and 2 (R283). -/
def chConds (s : State) (c : Nat) : BitVec 16 :=
  let w := chWord s c
  let any (l : List Nat) (q : Nat) : BitVec 16 := if l.any (fun k => w.testBit k) then condOf q else 0
  any [0, 1, 12] 5 ||| any [2, 3] 4 ||| any [4, 5, 6, 7, 8] 6 ||| any [10, 13, 16] 3

/-- Give a channel's facets their field values; a change of quality shows on the output point at once (R50, R271, R283). -/
def chFacets (s : State) (c : Nat) : State :=
  let d := chan s c
  let q := chConds s c
  let s := if isIn s c then putField (putField s (chPt c 0) (if d.filt then 1 else 0) q) (chPt c 6) d.edges else s
  let s := if isOut s c then putField s (chPt c 2) (if d.raw then 1 else 0) q else s
  let s := if isIn s c || isOut s c then putField s (chPt c 4) (bv 32 (chWord s c)) else s
  if q = d.conds then s
  else setChan (if isOut s c then update s s.t0 (chPt c 1) (if d.cmd then 1 else 0) q else s) c (fun d => { d with conds := q })

/-- Bring a channel's switch to the state R290 gives; a switching is noted for R280 and R288. -/
def chRefresh (s : State) (c : Nat) : State :=
  if !isOut s c then chFacets s c
  else
    let on := pinOn s c
    let s := if on = (chan s c).on then s
      else setChan s c (fun d => { d with on := on, swAt := s.t0, onAt := if on then s.t0 else d.onAt })
    chFacets s c

/-- The eight channels of a group. -/
def grpChans (g : Nat) : List Nat := (List.range 8).map (fun k => 8 * g + k)
/-- Refresh the channels of a group. -/
def grpRefresh (s : State) (g : Nat) : State := (grpChans g).foldl chRefresh s

/-- Set or clear a flag of a channel; one with a quality is recorded (R283). -/
def chFlag (s : State) (c k : Nat) (v : Bool) : State :=
  if (chan s c).flags.testBit k = v then s
  else
    let s := setChan s c (fun d => { d with flags := if v then d.flags + 2 ^ k else d.flags - 2 ^ k })
    let s := chFacets s c
    if k ≤ 8 ∨ k = 12 then note s Ev.chFlag (0x60 + c / 128) c 0 [k, if v then 1 else 0] else s

/-- An apply strobe gives an output its command (R278, R290, R293): a latch opens when 1 follows at least 10 ms of 0. -/
def chanApply (s : State) (c : Nat) (v : Bool) : State :=
  let d := chan s c
  let opens := v && decide (d.latch = 1) && (match d.zeroSince with | some z => decide (z + 10 * ms ≤ s.t0) | none => false)
  let s := setChan s c (fun d => { d with
    cmd := v, cmdSince := if v = d.cmd then d.cmdSince else s.t0, settled := d.settled && v == d.cmd
    zeroSince := if v then none else some (d.zeroSince.getD s.t0), latch := if opens then 0 else d.latch
    applied := true, pendDef := false, cutWait := d.cutWait && (grp s (c / 8)).cut })
  -- command 1 clears the open load of the off state, command 0 that of the on state and a readback failure (R283)
  let s := if v = d.cmd then s else chFlag s c 2 false
  chRefresh (if v then s else chFlag s c 8 false) c

/-! ### Analog outputs (R302-R304) -/

/-- An analog output. -/
def aout (s : State) (a : Nat) : AoSt := tget {} s.io.ao a
/-- Change it. -/
def setAout (s : State) (a : Nat) (f : AoSt → AoSt) : State := { s with io := { s.io with ao := tmod {} s.io.ao a f } }
/-- An AO facet's point. -/
def aoPt (a f : Nat) : Nat := ptid 3 (a * 16 + f)

/-- The range of an output's mode (R302). -/
def aoRange (m : Nat) : Rat × Rat := if m = 1 then (-(21 / 2), 21 / 2) else if m = 2 then (0, 21 / 2) else (0, 24)

/-- A command clamped to the range, and whether it was (R302); infinities take the nearer end. -/
def aoClamp (m : Nat) (v : Nat) : Nat × Bool :=
  let (lo, hi) := aoRange m
  let l := f32OfRat lo
  let h := f32OfRat hi
  if flt f32 v l then (l, true) else if flt f32 h v then (h, true) else (v, false)

/-- Whether rows 1 to 3 of R303 apply, with the condition on the readings. -/
def aoOpen (s : State) (a : Nat) : Option Nat :=
  let nd := tget {} s.nodes (a / 8)
  if !nd.powered ∨ !nd.configured ∨ param s pAoMode a = 0 then some 3
  else if (grp s (16 * (a / 8))).lost then some 3
  else if (aout s a).held ∨ (s.mode.cur = .standby ∧ flag s pTwinAoParallel a) then some 1 else none

/-- The output of a running bridge law on a point (R195, R303 row 5). -/
def bridgeOut (s : State) (p : Nat) : Option Word :=
  (s.loops.find? (fun e => e.2.bridge.running && param s pLoopOutDst e.1 == p)).map (fun e => e.2.bridge.u)

/-- The pin of an analog output by R303: its value, or the quality of an open switch. After rows 1 to 3 the switch stays open until the next apply strobe; in M2, which has none, row 9 closes it (DEDUCED, log 135). -/
def aoPin (s : State) (a : Nat) : Word ⊕ Nat :=
  let d := aout s a
  let nd := tget {} s.nodes (a / 8)
  match aoOpen s a with
  | some q => .inr q
  | none =>
    if d.hzWait ∧ effMode s ≠ .config then .inr (if d.applied then d.hzQ else 9)
    else match forcedVal s (aoPt a 0) with
    | some v => .inl v
    | none =>
      match d.safe with
      | some none => .inr 3
      | some (some v) => .inl v
      | none =>
      match bridgeOut s (aoPt a 0) with
      | some v => .inl v
      | none =>
      if s.mode.cur = .standby then .inl (bv 32 (param s pAoDefault a))
      else if nd.silent then .inl d.cmd
      else if !tileAligned s (a / 8) then .inr 9
      else if effMode s ≠ .config ∧ !d.applied then .inr 9
      else if effMode s = .config then .inl (bv 32 (param s pAoDefault a))
      else .inl d.cmd

/-- The conditions of an output's flags (R304) and of an open switch (R303). -/
def aoConds (s : State) (a : Nat) : BitVec 16 :=
  let f := (aout s a).flags
  let b (k q : Nat) : BitVec 16 := if f.testBit k then condOf q else 0
  b 3 6 ||| b 2 10 ||| b 1 4 ||| b 0 5 ||| (match aoPin s a with | .inl _ => 0 | .inr q => condOf q)

/-- Refresh an output's facets; the readback shows the driven value (DESIGN CHOICE, log 22). -/
def aoRefresh (s : State) (a : Nat) : State :=
  let s := match aoOpen s a with | some q => setAout s a (fun d => { d with hzWait := true, hzQ := q }) | none => s
  let hz := match aoPin s a with | .inl _ => false | .inr _ => true
  let was := (aout s a).flags.testBit 4
  let s := if hz = was then s
    else note (setAout s a (fun d => { d with flags := if hz then d.flags + 16 else d.flags - 16 })) Ev.aoFlag (0x60 + a / 8) a 0 [4, if hz then 1 else 0]
  let q := aoConds s a
  let s := putField s (aoPt a 1) (match aoPin s a with | .inl v => v | .inr _ => 0) q
  let s := putField s (aoPt a 2) (bv 32 (aout s a).flags)
  if q = (aout s a).conds then s
  else setAout (update s s.t0 (aoPt a 0) (aout s a).cmd q) a (fun d => { d with conds := q })

/-- Set or clear a flag of an output; both are recorded (R304). -/
def aoFlag (s : State) (a k : Nat) (v : Bool) : State :=
  if (aout s a).flags.testBit k = v then s
  else aoRefresh (note (setAout s a (fun d => { d with flags := if v then d.flags + 2 ^ k else d.flags - 2 ^ k })) Ev.aoFlag (0x60 + a / 8) a 0 [k, if v then 1 else 0]) a

/-- An apply strobe gives an analog output its command (R302): a NaN is not applied; outside the range it is clamped. -/
def aoApply (s : State) (a : Nat) (v : Word) : State :=
  let n := v.toNat
  let nan := match fdec f32 n with | .nan => true | _ => false
  let (w, cl) := aoClamp (param s pAoMode a) n
  let isOpen := (aoOpen s a).isSome
  let s := setAout s a (fun d => { d with
    cmd := if nan then d.cmd else bv 32 w, applied := true, pendDef := false, hzWait := d.hzWait && isOpen })
  aoRefresh (aoFlag s a 2 (nan || cl)) a

/-- What a tile does at an apply strobe before its sets: safe actions end once M10 is left (R500, R68), and outputs take the default commands of an entry to IDLE (R290, R303). -/
def applyDefaults (s : State) (n : Nat) : State :=
  let s := if effMode s = .safe then s else
    let s := (s.io.ch.filter (fun e => e.2.safe.isSome && e.1 / 128 == n)).foldl (fun s e => chRefresh (setChan s e.1 (fun d => { d with safe := none })) e.1) s
    (s.io.ao.filter (fun e => e.2.safe.isSome && e.1 / 8 == n)).foldl (fun s e => aoRefresh (setAout s e.1 (fun d => { d with safe := none })) e.1) s
  let s := (s.io.ch.filter (fun e => e.2.pendDef && e.1 / 128 == n)).foldl (fun s e => chanApply s e.1 (flag s pChDefaultState e.1)) s
  (s.io.ao.filter (fun e => e.2.pendDef && e.1 / 8 == n)).foldl (fun s e => aoApply s e.1 (bv 32 (param s pAoDefault e.1))) s

/-- What an applied output does at its channel; on a standby the sets reach paralleled outputs only (R479). -/
def pinApply (s : State) (p : Nat) (v : Word) : State :=
  let i := ptIndex p
  let far := decide (s.mode.cur = .standby)
  if ptRegion p = 1 ∧ i % 16 = 1 then (if far && !flag s pTwinParallel (i / 16) then s else chanApply s (i / 16) (v.getLsbD 0))
  else if ptRegion p = 3 ∧ i % 16 = 0 then (if far && !flag s pTwinAoParallel (i / 16) then s else aoApply s (i / 16) v)
  else s

/-- The conditions of an output point's channel. -/
def outConds (s : State) (p : Nat) : BitVec 16 :=
  let i := ptIndex p
  if ptRegion p = 1 ∧ i % 16 = 1 then chConds s (i / 16) else if ptRegion p = 3 ∧ i % 16 = 0 then aoConds s (i / 16) else 0

/-! ### Analog inputs (R298-R301) -/

/-- An analog input. -/
def ain (s : State) (a : Nat) : AiSt := tget {} s.io.ai a
/-- Change it. -/
def setAin (s : State) (a : Nat) (f : AiSt → AiSt) : State := { s with io := { s.io with ai := tmod {} s.io.ai a f } }
/-- An AI facet's point. -/
def aiPt (a f : Nat) : Nat := ptid 2 (a * 16 + f)

/-- Whether an input is converted by a SAR converter: MV, TC and RTD ranges are tied to ΣΔ (R295). -/
def aiSar (s : State) (a : Nat) : Bool := decide (param s pAiMode a < 5 ∧ param s pAiConv a = 0)

/-- The measured quantity of an input at `t`: the mean of AVG for a SAR input, the last conversion otherwise (R298). -/
def aiX (s : State) (a t : Nat) : Rat :=
  let d := ain s a
  let w := param s pAiAvg a * us
  let l := d.conv.filter (fun e => decide (t < e.1 + w) && decide (e.1 ≤ t))
  if !aiSar s a ∨ w = 0 ∨ l.isEmpty then ratOf d.x.toNat
  else (l.foldl (fun acc e => acc + ratOf e.2.toNat) 0) / (l.length : Rat)

/-- The cold-junction temperature of a TC input: its source's value, or the tile sensor's (R299). -/
def cjPoint (s : State) (a : Nat) : Option Point :=
  let p := param s pAiCjSrc a
  if p = 0 then none else some (pget s p)

/-- The cold-junction temperature at `t`; what the tile's own sensor reads is open (DESIGN CHOICE, log 22). -/
def cjTemp (s : State) (a t : Nat) : Word := match cjPoint s a with | some p => p.value | none => Config.tileTemp (a / 32) t

/-- Facet 0 from the measured quantity (R298, R299). -/
def aiValue (s : State) (a t : Nat) : Word :=
  let x := aiX s a t
  match param s pAiMode a with
  | 1 | 2 | 3 | 4 => bv 32 (f32OfRat (paramRat s pAiScaleA a * x + paramRat s pAiScaleB a))
  | 5 => bv 32 (f32OfRat x)
  | 6 => Config.tcTemp (param s pAiTcType a) (bv 32 (f32OfRat x)) (cjTemp s a t)
  | _ => Config.rtdTemp (param s pAiMode a) (bv 32 (f32OfRat x))

/-- The conditions of an input's flags (R300). -/
def aiConds (d : AiSt) : BitVec 16 :=
  let b (k q : Nat) : BitVec 16 := if d.flags.testBit k then condOf q else 0
  b 6 6 ||| b 5 6 ||| b 4 5 ||| b 3 6 ||| b 2 6 ||| b 1 10 ||| b 0 4

/-- Give an input's facets their field values. -/
def aiShow (s : State) (a t : Nat) : State :=
  let d := ain s a
  let q := aiConds d
  let s := putField s (aiPt a 0) d.value q
  let s := putField s (aiPt a 1) (BitVec.ofInt 32 d.counts) q
  let s := if param s pAiMode a = 6 then putField s (aiPt a 2) (cjTemp s a t) else s
  putField s (aiPt a 3) (bv 32 d.flags)

/-- Refresh an input's facets at `t`: under OPEN_WIRE, CJ_FAIL, SELFTEST_FAIL and OVERCURRENT facet 0 keeps its last value (R300). -/
def aiRefresh (s : State) (a t : Nat) : State :=
  let f := (ain s a).flags
  let keep := f.testBit 0 || f.testBit 4 || f.testBit 5 || f.testBit 6
  aiShow (if keep then s else setAin s a (fun d => { d with value := aiValue s a t })) a t

/-- Set or clear a flag of an input; both are recorded (R300). Facet 0 takes no new value from it. -/
def aiFlag (s : State) (a k : Nat) (v : Bool) : State :=
  if (ain s a).flags.testBit k = v then s
  else aiShow (note (setAin s a (fun d => { d with flags := if v then d.flags + 2 ^ k else d.flags - 2 ^ k })) Ev.aiFlag (0x60 + a / 32) a 0 [k, if v then 1 else 0]) a s.t0

/-! ### Encoders (R305-R308) -/

/-- An encoder. -/
def enc (s : State) (e : Nat) : EncSt := tget {} s.io.enc e
/-- Change it. -/
def setEnc (s : State) (e : Nat) (f : EncSt → EncSt) : State := { s with io := { s.io with enc := tmod {} s.io.enc e f } }
/-- An ENC facet's point. -/
def encPt (e f : Nat) : Nat := ptid 7 (e * 16 + f)

/-- The velocity in counts/s at `t` (R307): over the window, or from the last two edges; 0 without an edge for 100 ms. -/
def encVel (s : State) (e t : Nat) : Rat :=
  let l := (enc s e).edges
  let w := param s pEncVelWindow e * us
  match l.getLast? with
  | none => 0
  | some (t1, d1) =>
    if t1 + 100 * ms ≤ t then 0
    else
      let inW := l.filter (fun x => decide (t < x.1 + w))
      if 2 ≤ inW.length then ((inW.foldl (fun a x => a + x.2) 0 : Int) : Rat) * 1000000000 / (w : Rat)
      else match l.dropLast.getLast? with
        | some (t0, _) => if t1 = t0 then 0 else (d1 : Rat) * 1000000000 / ((t1 - t0 : Nat) : Rat)
        | none => 0

/-- Refresh an encoder's facets at `t`. -/
def encRefresh (s : State) (e t : Nat) : State :=
  let d := enc s e
  let q : BitVec 16 := (if d.flags.testBit 1 then condOf 4 else 0) ||| (if d.flags.testBit 0 then condOf 6 else 0)
  let s := putField s (encPt e 0) d.count q
  let s := putField s (encPt e 1) d.latch q
  let s := putField s (encPt e 2) (bv 32 (f32OfRat (encVel s e t))) q
  putField s (encPt e 3) (bv 32 d.flags)

/-- Bring what a sample strobe at a tile latches up to its instant (R298, R307). -/
def fieldNow (s : State) (n t : Nat) : State :=
  let s := (s.io.ai.filter (fun e => e.1 / 32 == n)).foldl (fun s e => aiRefresh s e.1 t) s
  (s.io.enc.filter (fun e => e.1 / 4 == n)).foldl (fun s e => encRefresh s e.1 t) s

end Sys2Proof.Machine
end

