-- ==== Sys2Proof/Machine/TimeOps.lean ====
section
/-! DEFINITION. What is shared of the time domains: the value of a domain, holdover, steps, anchors and the TIME points (R418, R465-R471). -/

namespace Sys2Proof.Machine

/-- A domain's record. -/
def domain (s : State) (d : Nat) : DomainSt := tget {} s.domains d
/-- Change it. -/
def setDomain (s : State) (d : Nat) (f : DomainSt → DomainSt) : State := { s with domains := tmod {} s.domains d f }

/-- The domain's value at T0 `t` in units of 2^-32 ns (R463): B + (t - c) * (1 + r), with r in units of 10^-12 (R466). -/
def DomainSt.fine (d : DomainSt) (t : Nat) : Int :=
  let e : Int := ((t : Int) - d.c) * 4294967296
  d.base + e + e * d.rate / 1000000000000

/-- The domain's value in ns. -/
def DomainSt.at_ (d : DomainSt) (t : Nat) : Int := d.fine t / 4294967296

/-- A domain that follows a source goes to HOLDOVER (R27, R467, R468). -/
def DomainSt.toHoldover (d : DomainSt) (t : Nat) : DomainSt :=
  if d.st = 1 ∨ d.st = 2 then { d with st := 3, holdSince := t, lockRun := 0, unlockRun := 0 } else d

/-- A step of the domain by an offset at T0 `t` (R465, R469). -/
def DomainSt.stepBy (d : DomainSt) (t : Nat) (o : Int) : DomainSt :=
  { d with base := d.fine t + o * 4294967296, c := t, steps := (d.steps + 1) % 2 ^ 32, stepAt := none, restep := false, offs := [], lockRun := 0 }

/-- The state of T1 as an anchor or a record gives it. -/
def t1State (s : State) : Nat := (domain s 1).st
/-- T1 in ns at T0 `t`; 0 while T1 is UNSYNC (R418). -/
def t1At (s : State) (t : Nat) : Nat := if (domain s 1).st = 0 then 0 else ((domain s 1).at_ t).toNat

/-- The next record written carries an anchor for this reason (R418). -/
def askAnchor (s : State) (reason : Nat) : State := { s with recd := { s.recd with anchorDue := some reason } }

/-- The source of a domain: its port or its CAN channel (R463, R471); a domain without either shows 0. -/
def timeSrc (s : State) (d : Nat) : Nat :=
  match param s pTimeSource d with
  | 1 => param s pTimeSourcePort d
  | 2 => ((List.range 8).find? (fun c => flag s pCanT2Source c)).getD 0
  | _ => 0

/-- The facets of a domain that follow its events (R471). -/
def timePoints (s : State) (d : Nat) : State :=
  let m := domain s d
  let p (i : Nat) := ptid 0x1C (d * 256 + i)
  updates s s.t0 [
    (p 0, bv 32 m.st, 0),
    (p 3, BitVec.ofInt 32 (max (-2147483648) (min 2147483647 m.lastOff)), 0), (p 4, BitVec.ofInt 32 (m.rate / 1000), 0),
    (p 5, bv 32 m.taken, 0), (p 6, bv 32 m.refused, 0), (p 7, bv 32 m.steps, 0),
    (p 8, bv 32 (if m.st = 3 then (s.t0 - m.holdSince) / ms else 0), 0), (p 9, bv 32 (timeSrc s d), 0), (p 10, bv 32 m.delay, 0)]

/-- Facet 0 of T0: LOCKED on REFCLK and HOLDOVER on the internal oscillator (R471). -/
def t0Facet (s : State) : State := update s s.t0 (ptid 0x1C 0) (if s.clock.refclk then 2 else 3)

/-- Facets 1 and 2 of the four domains at a whole millisecond (R471); domain 0 is T0 itself. -/
def timeFacets (s : State) : State :=
  let v (d : Nat) : Int := if d = 0 then s.t0 else (domain s d).at_ s.t0
  let q (d : Nat) : BitVec 16 :=
    let st := if d = 0 then (if s.clock.refclk then 2 else 3) else (domain s d).st
    if st = 0 then condOf 9 else if st = 3 then condOf 1 else 0
  updates s s.t0 (([0, 1, 2, 3] : List Nat).flatMap (fun d =>
    [(ptid 0x1C (d * 256 + 1), bv 32 ((v d).toNat / sec), q d), (ptid 0x1C (d * 256 + 2), bv 32 ((v d).toNat % sec), q d)]))

/-- Record entry to or exit from HOLDOVER when a domain's state has changed so (R468). -/
def noteHold (s : State) (d old : Nat) : State :=
  let new := (domain s d).st
  if (old = 3) = (new = 3) then s else note s Ev.timeState 0x48 d 0 [old, new, s.t0]

/-- Insert in rising order. -/
def intInsert (x : Int) : List Int → List Int
  | [] => [x]
  | y :: l => if x ≤ y then x :: y :: l else y :: intInsert x l

/-- Twice the median of offsets. -/
def median2 (l : List Int) : Int :=
  let m := l.foldr intInsert []
  let k := m.length / 2
  if m.length % 2 = 1 then 2 * (m[k]?).getD 0 else (m[k - 1]?).getD 0 + (m[k]?).getD 0

/-- The limit of a rate, 200 ppm in units of 10^-12. -/
def ratLimit : Int := 200000000
/-- A rate held to the limit. -/
def clampRate (r : Int) : Int := max (-ratLimit) (min ratLimit r)

/-- One measurement of a domain: T0 `t` and source time (R463-R469). -/
def takeMeas (s : State) (d t : Nat) (src : Int) : State :=
  let m := domain s d
  let o := src - m.at_ t
  if m.byRefclk && !s.clock.refclk then s
  else if m.restep then
    timePoints (setDomain s d (fun m => { m with restep := false, meas := m.meas ++ [(t, src)], stepAt := some (wholeMs t (500 * us), o), lastOff := o, lastMeas := t, taken := (m.taken + 1) % 2 ^ 32 })) d
  else if m.st = 0 then
    if m.stepAt.isSome then s
    else
      let n := param s pTimeAcqCount d
      let offs := let l := m.offs ++ [o]; l.drop (l.length - n)
      let agree := decide (offs.length = n) && offs.all (fun x => decide ((2 * x - median2 offs).natAbs ≤ 20000))
      timePoints (setDomain s d (fun m => { m with
        offs := offs, meas := (m.meas ++ [(t, src)]).drop (m.meas.length + 1 - n), lastOff := o, lastMeas := t, taken := (m.taken + 1) % 2 ^ 32
        stepAt := if agree then some (wholeMs t (500 * us), o) else none })) d
  else if (param s pTimeStepThreshold d * us : Nat) < o.natAbs then
    let s' := setDomain s d (fun m => { (m.toHoldover s.t0) with refused := (m.refused + 1) % 2 ^ 32, lastOff := o, lastMeas := t })
    let s' := note s' Ev.timeJumpRefused 0x48 d 0 [(BitVec.ofInt 64 o).toNat]
    timePoints (noteHold s' d m.st) d
  else
    let win := param s pTimeFreqWindow d * sec
    let s' := setDomain s d (fun m => { m with
      st := if m.st = 3 then 1 else m.st, lockRun := if m.st = 3 then 0 else m.lockRun, byRefclk := false
      meas := (m.meas ++ [(t, src)]).filter (fun x => decide (t ≤ x.1 + win)), offs := m.offs ++ [o], lastOff := o, lastMeas := t, taken := (m.taken + 1) % 2 ^ 32 })
    timePoints (noteHold s' d m.st) d

/-- A step of T1 sets Disc_Bit in the next TTCAN reference of the masters that take their time from it (R469). -/
def discAll (s : State) : State := { s with can := s.can.map (fun e => (e.1, { e.2 with disc := true })) }

end Sys2Proof.Machine
end

