-- ==== Sys2Proof/Machine/NetOps.lean ====
section
/-! DEFINITION. Stations' frames: field mapping, CAN transmit slots, CSX output frames and egress queues (R432-R436, R443-R446, R456-R462). -/

namespace Sys2Proof.Machine

/-- The island of a node: a tile controller, or the host interfaces for a port. -/
def nodeIsland (n : Nat) : Nat := if n < 4 then 0x60 + n else 0x48

/-- The station record of a region and station number. -/
def stnKey (region stn : Nat) : Nat := region * 1024 + stn
/-- A station. -/
def station (s : State) (k : Nat) : Station := tget {} s.img.stations k
/-- Change a station. -/
def setStation (s : State) (k : Nat) (f : Station → Station) : State :=
  { s with img := { s.img with stations := tmod {} s.img.stations k f } }
/-- The station that holds a point of a CAN or ETH region. -/
def stnOf (p : Nat) : Option Nat :=
  let r := ptRegion p
  if 8 ≤ r ∧ r ≤ 15 then some (stnKey r (ptIndex p / 8192))
  else if 16 ≤ r ∧ r ≤ 18 then some (stnKey r (ptIndex p / 1024)) else none
/-- The node of a station's region. -/
def stnNode (k : Nat) : Nat := (nodeOf (ptid (k / 1024) 0)).getD 0

/-! ### Fields (R445, R458) -/

/-- A point's value as binary32 (R65). -/
def asF32 (p : Point) : Nat :=
  match p.ty with
  | 4 => p.value.toNat
  | 2 => fofInt f32 p.value.toInt
  | 5 => fround f32 false (p.value.toInt < 0) p.value.toInt.natAbs (-31)
  | 6 => fround f32 false (p.value.toInt < 0) p.value.toInt.natAbs (-15)
  | _ => fofInt f32 p.value.toNat

/-- Bytes that a field touches. -/
def FieldMap.span (f : FieldMap) : Nat := (f.bit + f.bits + 7) / 8

/-- The bits of a field in a frame's data; a big-endian field has its most significant byte first. -/
def getField (d : List Byte) (f : FieldMap) : Nat :=
  let b := (d.drop f.byte).take f.span
  leVal (if f.format % 2 = 1 then b.reverse else b) / 2 ^ f.bit % 2 ^ f.bits

/-- Replace a field's bits. -/
def putFieldBits (d : List Byte) (f : FieldMap) (raw : Nat) : List Byte :=
  let b := (d.drop f.byte).take f.span
  let v := leVal (if f.format % 2 = 1 then b.reverse else b)
  let v := v - getField d f * 2 ^ f.bit + raw % 2 ^ f.bits * 2 ^ f.bit
  let n := leBytes b.length v
  d.take f.byte ++ (if f.format % 2 = 1 then n.reverse else n) ++ d.drop (f.byte + b.length)

/-- Clamp an integer. -/
def clampInt (lo hi i : Int) : Int := max lo (min hi i)

/-- A number in a TYPE (R46), rounded and held to the type's range. -/
def ofRat (ty : Nat) (r : Rat) : Word :=
  match ty with
  | 1 => if r = 0 then 0 else 1
  | 2 => BitVec.ofInt 32 (clampInt (-2147483648) 2147483647 (nearOf r))
  | 4 => bv 32 (f32OfRat r)
  | 5 => BitVec.ofInt 32 (clampInt (-2147483648) 2147483647 (nearOf (r * 2147483648)))
  | 6 => BitVec.ofInt 32 (clampInt (-32768) 32767 (nearOf (r * 32768)))
  | _ => BitVec.ofInt 32 (clampInt 0 4294967295 (nearOf r))

/-- A point's value of a field (R445): raw, or SCALE * raw + OFFSET in its TYPE. -/
def fieldIn (f : FieldMap) (ty raw : Nat) : Word :=
  let signed := f.format / 2 % 2 = 1
  let i : Int := if signed ∧ 2 ^ (f.bits - 1) ≤ raw then (raw : Int) - 2 ^ f.bits else raw
  if f.format / 8 % 2 = 1 then
    if f.format / 4 % 2 = 1 then
      if fisFin f32 raw then ofRat ty (ratOf f.scale.toNat * ratOf raw + ratOf f.offset.toNat)
      else bv 32 (fadd f32 false (fmul f32 false f.scale.toNat raw) f.offset.toNat)
    else if ty = 4 ∨ !fisFin f32 raw then bv 32 raw else ofRat ty (ratOf raw)
  else if f.format / 4 % 2 = 1 then ofRat ty (ratOf f.scale.toNat * i + ratOf f.offset.toNat)
  else if ty = 4 then ofRat 4 i else BitVec.ofInt 32 i

/-- A point's exact number (R46). -/
def numOf (p : Point) : Rat :=
  match p.ty with
  | 2 => p.value.toInt
  | 4 => ratOf p.value.toNat
  | 5 => (p.value.toInt : Rat) / 2147483648
  | 6 => (p.value.toInt : Rat) / 32768
  | _ => (p.value.toNat : Rat)

/-- The field bits of an output and whether they were clamped (R445); a NaN's field is open (DESIGN CHOICE, log 33). -/
def fieldOut (f : FieldMap) (p : Point) : Nat × Bool :=
  let scaled := f.format / 4 % 2 = 1
  if f.format / 8 % 2 = 1 then
    (if scaled then fdiv f32 false (fsub f32 false (asF32 p) f.offset.toNat) f.scale.toNat else asF32 p, false)
  else
    let signed := f.format / 2 % 2 = 1
    let lo : Int := if signed then -(2 ^ (f.bits - 1) : Nat) else 0
    let hi : Int := if signed then (2 ^ (f.bits - 1) : Nat) - 1 else (2 ^ f.bits : Nat) - 1
    if p.ty = 4 ∧ fisNan f32 p.value.toNat then ((Config.nanField p.value).toNat % 2 ^ f.bits, false)
    else
      let i : Int :=
        if p.ty = 4 ∧ !fisFin f32 p.value.toNat then (if p.value.getLsbD 31 != (scaled && f.scale.getLsbD 31) then lo - 1 else hi + 1)
        else if scaled then nearOf ((numOf p - ratOf f.offset.toNat) / ratOf f.scale.toNat)
        else match p.ty with
          | 2 | 5 | 6 => p.value.toInt
          | 4 => nearOf (ratOf p.value.toNat)
          | _ => p.value.toNat
      let c := clampInt lo hi i
      ((BitVec.ofInt 32 c).toNat % 2 ^ f.bits, c != i)

/-- What a station's output shows at the pin: the force in force, else the writer's last result (R62, R579). -/
def stnOut (s : State) (p : Nat) : Point :=
  let pt := pget s p
  let v := match forceOf s p with
    | some f => forceVal s f
    | none => match tfind s.img.cmd p with | some v => v | none => pt.source
  { pt with value := v }

/-- An output block's data bytes (R445, R458): bytes that no point maps hold FILL. -/
def blockData (s : State) (b : Block) : List Byte :=
  let mapped (i : Nat) : Bool := b.fields.any (fun f => decide (f.byte ≤ i ∧ i < f.byte + f.span))
  let base := (List.range b.len).map (fun i => if mapped i then (0 : Byte) else bv 8 b.fill)
  (b.fields.mapIdx (fun i f => (i, f))).foldl (fun d x => putFieldBits d x.2 (fieldOut x.2 (stnOut s (b.first + x.1))).1) base

/-- Whether an output is clamped in its field (R445). -/
def outClamped (s : State) (k p : Nat) : Bool :=
  match (station s k).blocks.find? (fun b => !b.input && decide (b.first ≤ p ∧ p < b.first + b.count)) with
  | some b => match b.fields[p - b.first]? with | some f => (fieldOut f (stnOut s p)).2 | none => false
  | none => false

/-! ### CAN slots (R432-R436, R446) -/

/-- A channel. -/
def canCh (s : State) (c : Nat) : CanSt := tget {} s.can c
/-- Change it. -/
def setCan (s : State) (c : Nat) (f : CanSt → CanSt) : State := { s with can := tmod {} s.can c f }
/-- A transmit slot. -/
def canSlot (s : State) (c k : Nat) : CanSlot := tget {} (canCh s c).slots k
/-- Change it. -/
def setCanSlot (s : State) (c k : Nat) (f : CanSlot → CanSlot) : State := setCan s c (fun d => { d with slots := tmod {} d.slots k f })

/-- Publish a slot's points (R446). -/
def canSlotPoints (s : State) (c k : Nat) : State :=
  let d := canSlot s c k
  let st := if d.pend.isNone then 0 else if (canCh s c).onBus = some k then 2 else 1
  let p (i : Nat) := ptid (8 + c) (0x100 + k * 4 + i)
  updates s s.t0 [(p 0, bv 32 (st + 256 * d.lastEnd), 0), (p 1, bv 32 (match d.pend with | some f => f.attempts | none => 0), 0),
    (p 2, bv 32 d.superseded, 0), (p 3, bv 32 d.sent, 0)]

/-- Enter a frame into a slot (R432): a pending frame's data are replaced, or follow its attempt when it is on the bus. -/
def canEnter (s : State) (c k id : Nat) (data : List Byte) (stn : Option Nat) (tt : Bool) : State :=
  let s := match (canSlot s c k).pend with
    | some f => setCanSlot s c k (fun d =>
        let d := { d with superseded := (d.superseded + 1) % 2 ^ 32, entered := some (id, data) }
        if (canCh s c).onBus = some k then { d with next := some data } else { d with pend := some { f with id := id, data := data, stn := stn, tt := tt } })
    | none => setCanSlot s c k (fun d => { d with pend := some { id := id, data := data, since := s.t0, stn := stn, tt := tt }, entered := some (id, data) })
  canSlotPoints s c k

/-- A pending frame ends with a status (R435); the slot is free or takes the frame that waited behind the attempt. -/
def canEnd (s : State) (c k status : Nat) : State :=
  match (canSlot s c k).pend with
  | none => s
  | some f =>
    let s := setCanSlot s c k (fun d => { d with
      lastEnd := status, sent := if status = 1 then (d.sent + 1) % 2 ^ 32 else d.sent, lastSent := if status = 1 then some f.data else d.lastSent
      pend := d.next.map (fun n => { f with data := n, since := s.t0, attempts := 0, ending := none }), next := none })
    canSlotPoints s c k

/-- End a pending frame, after its attempt when it is on the bus. -/
def canEndLater (s : State) (c k status : Nat) : State :=
  if (canCh s c).onBus = some k then setCanSlot s c k (fun d => { d with pend := d.pend.map (fun f => { f with ending := some status }), next := none })
  else canEnd (setCanSlot s c k (fun d => { d with next := none })) c k status

/-- The slots of a channel that hold a frame for which a test holds. -/
def canSlotsOf (s : State) (c : Nat) (p : CanFrame → Bool) : List Nat :=
  ((canCh s c).slots.filter (fun e => match e.2.pend with | some f => p f | none => false)).map (·.1)

/-! ### Ethernet egress (R456, R457, R460) -/

/-- A port. -/
def ethPort (s : State) (p : Nat) : EthSt := tget {} s.eth p
/-- Change it. -/
def setEth (s : State) (p : Nat) (f : EthSt → EthSt) : State := { s with eth := tmod {} s.eth p f }

/-- The bits per µs of a link: 10, 100 or 1,000. -/
def ethMbit (e : EthSt) : Nat := match e.speed with | 1 => 10 | 2 => 100 | _ => 1000
/-- The time in ns that a frame takes on the wire. -/
def ethTime (e : EthSt) (b : List Byte) : Nat := (b.length + 38) * 8 * 1000 / ethMbit e

/-- The base time of a port's gate cycle, none while T1 is UNSYNC (R456). -/
def qbvBase (s : State) (p : Nat) : Option Nat :=
  if param s pEthQbvBase p = 0 then some s.t0 else if (domain s 1).st = 0 then none else some (t1At s s.t0)

/-- The gate list of a port: gates and ns of each entry. -/
def gateList (s : State) (p : Nat) : List (Nat × Nat) :=
  (List.range (max 1 (param s pEthGclLen p))).map (fun i => (param s pEthGclGates (p * 64 + i), param s pEthGclNs (p * 64 + i)))

/-- The entry at a position of the cycle: index, gates, time left in it. -/
def gateAt (l : List (Nat × Nat)) (pos i : Nat) : Nat × Nat × Nat :=
  match l with
  | [] => (i, 255, 0)
  | (g, n) :: r => if pos < n ∨ r = [] then (i, g, n - pos) else gateAt r (pos - n) (i + 1)

/-- The time until a queue's gate closes: entries from the current one on while they hold the gate open. -/
def openFor (q : Nat) : Nat → List (Nat × Nat) → Nat
  | left, [] => left
  | left, (g, n) :: r => if g / 2 ^ q % 2 = 1 then openFor q (left + n) r else left

/-- Whether a queue may start a frame now: its gate is open and the frame can end before it closes (R456). -/
def mayStart (s : State) (p q : Nat) (b : List Byte) : Bool :=
  if !flag s pEthQbv p then true
  else match qbvBase s p with
  | none => true
  | some t =>
    let l := gateList s p
    let len := max 1 ((l.map (·.2)).sum)
    let (i, g, left) := gateAt l (t % len) 0
    g / 2 ^ q % 2 == 1 && ((l.all (fun e => e.1 / 2 ^ q % 2 == 1)) || decide (ethTime (ethPort s p) b ≤ openFor q left (l.drop (i + 1) ++ l.take i)))

/-- A port's PTP state as IEEE 1588 numbers it (R462; PRESUMED, log 142): 2 FAULTY without a link, 3 DISABLED, 4 LISTENING, 6 MASTER, 8 UNCALIBRATED, 9 SLAVE. -/
def ptpState (s : State) (p : Nat) : Nat :=
  let e := ethPort s p
  let role := param s pEthPtpRole p
  if role = 0 ∨ !e.on then 3
  else if !e.up then 2
  else if role = 2 then (if (domain s 1).st = 0 then 4 else 6)
  else match ([1, 3] : List Nat).find? (fun d => param s pTimeSource d == 1 && param s pTimeSourcePort d == p) with
    | none => 4
    | some d => if (domain s d).master = 0 then 4 else if (domain s d).st = 2 then 9 else 8

/-- Publish a port's points (R462). -/
def ethPoints (s : State) (p : Nat) : State :=
  let e := ethPort s p
  let d := (([1, 3] : List Nat).filter (fun d => param s pTimeSource d == 1 && param s pTimeSourcePort d == p)).head?
  let delay := match d with | some d => (domain s d).delay | none => 0
  updates s s.t0 ([if e.up then e.speed else 0, (if e.up then 0 else 1) + (if e.allOpen then 2 else 0) + (if ptpState s p = 2 then 4 else 0),
    e.rx, e.tx, e.rejCrc, e.rejSeq, e.replaced, e.dropped, ptpState s p, delay].mapIdx (fun i v => (ptid (16 + p) i, bv 32 v, 0)))

/-- Send the queued frames that may start, in order within each queue; the highest queue goes first. -/
def ethDrain (s : State) (p : Nat) : State :=
  if s.rst.stage ≠ 0 then s else
  if !(ethPort s p).up then s
  else
    let s' := [7, 6, 5, 4, 3, 2, 1, 0].foldl (fun s q =>
      ((ethPort s p).queues.filter (fun x => x.1 == q)).foldl (fun s x =>
        if mayStart s p q x.2.2 then send (setEth s p (fun e => { e with queues := e.queues.erase x, tx := (e.tx + 1) % 2 ^ 32 })) Out.ethFrame p [q] x.2.2 else s) s) s
    if s'.outbox.length = s.outbox.length then s else ethPoints s' p

/-- Put a frame in an egress queue: a block's frame replaces its predecessor; other kinds find a queue of 16 KiB full and are dropped (R460). Key 0 names no block. -/
def ethEnqueue (s : State) (p q key : Nat) (b : List Byte) : State :=
  if !(ethPort s p).up then s
  else
    let e := ethPort s p
    let old := key != 0 && e.queues.any (fun x => x.2.1 == key)
    let used := ((e.queues.filter (fun x => x.1 == q)).map (fun x => x.2.2.length)).sum
    if old then ethDrain (ethPoints (setEth s p (fun e => { e with replaced := (e.replaced + 1) % 2 ^ 32, queues := e.queues.map (fun x => if x.2.1 = key then (q, key, b) else x) })) p) p
    else if key = 0 ∧ 16384 < used + b.length then ethPoints (setEth s p (fun e => { e with dropped := (e.dropped + 1) % 2 ^ 32 })) p
    else ethDrain (setEth s p (fun e => { e with queues := e.queues ++ [(q, key, b)] })) p

/-- A CSX payload (R457). -/
def csxBytes (kind stn seq blk flags time : Nat) (data : List Byte) : List Byte :=
  let h := leBytes 1 1 ++ leBytes 1 kind ++ leBytes 2 stn ++ leBytes 2 seq ++ leBytes 1 blk ++ leBytes 1 flags ++ leBytes 8 time ++ leBytes 2 data.length ++ [0, 0]
  h ++ data ++ leBytes 4 (crc32c (h ++ data)).toNat

/-- The Ethernet frame of a payload: addresses, tag where there is one, EtherType. -/
def ethFrame (port mac tag ety : Nat) (payload : List Byte) : List Byte :=
  (leBytes 6 mac).reverse ++ leBytes 6 (Config.macAddr port).toNat ++ (if tag / 4096 % 2 = 1 then [0x81, 0x00] ++ (leBytes 2 (tag / 8192 * 8192 + tag % 4096)).reverse else []) ++ (leBytes 2 ety).reverse ++ payload

/-- Send a CSX output block at apply instant `t` (R460); `always` sends a CHANGE block too. -/
def csxSend (s : State) (k bi : Nat) (b : Block) (t : Nat) (always : Bool) : State :=
  let key := k * 64 + bi
  let data := blockData s b
  let x := tget ({} : CsxBlock) s.csx key
  let port := k / 1024 - 16
  if !flag s pEthEnable port || !(ethPort s port).up || (b.txMode == 1 && !always && x.lastData == data) then s
  else
    let valid := (domain s 1).st ≠ 0
    let time := if valid then t1At s t + b.lead * us else 0
    let s := { s with csx := tset s.csx key { x with txSeq := (x.txSeq + 1) % 65536, lastData := data } }
    ethEnqueue s port b.queue key (ethFrame port b.mac b.tag 0x88B5 (csxBytes 1 (k % 1024) x.txSeq bi (if valid then 1 else 0) time data))

/-- An output block's frame at an apply strobe (R432, R460); a force instant sends it whatever its TX_MODE (R579). -/
def blockSend (s : State) (k bi : Nat) (b : Block) (t : Nat) (always : Bool) : State :=
  let r := k / 1024
  if r < 16 then
    let c := r - 8
    if !flag s pCanEnable c then s
    else
      let data := blockData s b
      let d := canSlot s c b.slot
      let s := if always then s else setCanSlot s c b.slot (fun d => { d with applyPrev := d.applyAt, applyAt := t, repAt := t })
      if b.txMode = 1 ∧ !always ∧ d.lastSent = some data then s else canEnter s c b.slot b.fid data (some k) (b.txMode == 2)
  else csxSend s k bi b t always

/-- Send the output blocks that hold any of the points just applied at a node, for the stations that outputs reach (R59); a standby sends none (R479). -/
def netApply (s : State) (t rel : Nat) (pts : List Nat) (always : Bool) : State :=
  let ks := if s.mode.cur = .standby then [] else (pts.filterMap stnOf).eraseDups
  ks.foldl (fun s k =>
    let d := station s k
    if d.st = .lost ∨ d.st = .returning ∨ rel < d.outFrom then s
    else (d.blocks.mapIdx (fun i b => (i, b))).foldl (fun s x =>
      if !x.2.input && pts.any (fun p => decide (x.2.first ≤ p ∧ p < x.2.first + x.2.count)) then blockSend s k x.1 x.2 t always else s) s) s

/-- When a station becomes LOST its pending frames end with WITHHELD (R443). -/
def netLost (s : State) (k : Nat) : State :=
  let r := k / 1024
  if 8 ≤ r ∧ r < 16 then (canSlotsOf s (r - 8) (fun f => f.stn == some k)).foldl (fun s i => canEndLater s (r - 8) i 6) s else s

/-! ### Stations lost and channels enabled (R57, R58, R444, R446) -/

/-- The points of a station's input or output blocks. -/
def stnPoints (d : Station) (input : Bool) : List (Nat × Block × Nat) :=
  (d.blocks.filter (fun b => b.input == input)).flatMap (fun b => (List.range b.count).map (fun i => (b.first + i, b, i)))

/-- The substitute of an input point: its last value, the fixed value or zero (R57). -/
def substVal (s : State) (e : Nat × Block × Nat) : Word :=
  match e.2.1.subst with | 0 => (pget s e.1).source | 1 => (e.2.1.fixed[e.2.2]?).getD 0 | _ => 0

/-- A station becomes LOST: inputs take their substitutes with STALE, outputs turn STALE, and delivery stops (R58). -/
def goLost (s : State) (k : Nat) : State :=
  let d := station s k
  let s' := setStation s k (fun d => { d with st := .lost, seen := [] })
  let s' := (stnPoints d true).foldl (fun s e => update s s.t0 e.1 (substVal s e) (condOf 2)) s'
  let s' := (stnPoints d false).foldl (fun s e => update s s.t0 e.1 (pget s e.1).source (condOf 2)) (netLost s' k)
  note s' Ev.stationState (nodeIsland (stnNode k)) k 0 [4, 0, s.t0]

/-- A channel's operating mode as it stands: 0 NORMAL, 1 RESTRICTED, 2 MONITOR, 3 and 4 LOOPBACK; in M2 and M9 RESTRICTED (R438, R479). -/
def canMode (s : State) (c : Nat) : Nat := if s.mode.cur = .config ∨ s.mode.cur = .standby then 1 else param s pCanOpmode c

/-- The channel's state as its point shows it (R446). -/
def canState (s : State) (c : Nat) : Nat :=
  let d := canCh s c
  if !d.on then 0 else if d.busOff then (if d.recovering then 4 else 3)
  else match canMode s c with
    | 1 => 5
    | 2 => 6
    | 0 => if 127 < d.tec ∨ 127 < d.rec_ then 2 else 1
    | _ => 7

/-- The nominal bit time in ns (R429). -/
def canBit (s : State) (c : Nat) : Nat := param s pCanNbrp c * (1 + param s pCanNtseg1 c + param s pCanNtseg2 c) * 25 / 2
/-- The NTU in ns (R447). -/
def canNtu (s : State) (c : Nat) : Nat := max 1 (if param s pCanTtLevel c = 1 then canBit s c else param s pCanTtNtu c)
/-- The cycle length in ns. -/
def canCycle (s : State) (c : Nat) : Nat := param s pCanTtCycle c * canNtu s c

/-- Publish a channel's points (R446). -/
def canPoints (s : State) (c : Nat) : State :=
  let d := canCh s c
  let flags := (if 96 ≤ d.tec ∨ 96 ≤ d.rec_ then 1 else 0) + (if d.alone then 2 else 0) + (if d.txdTimeout then 4 else 0) + (if d.pexUntil.isSome then 8 else 0) +
    (if d.overrun then 16 else 0) + (if d.syncLost then 32 else 0) + (if d.held then 64 else 0)
  let load := ((d.busy.filter (fun x => decide (s.t0 < x.1 + sec))).map (·.2)).sum / 1000
  let p (i : Nat) := ptid (8 + c) i
  let s := updates s s.t0 ([canState s c, d.tec, d.rec_, flags, d.rx, d.tx, d.errs, d.offCount, load, d.unmatched, d.short].mapIdx (fun i v => (p i, bv 32 v, 0)))
  if param s pCanTtRole c = 0 then s
  else
    let ct := match d.ref with | some t => (s.t0 - t) / canNtu s c | none => 0
    updates s s.t0 ([d.tt, d.cycle, ct, (d.mark.getD 0) % 65536, d.prio, d.missedRefs].mapIdx (fun i v => (p (0x10 + i), bv 32 v, 0)))

/-- The stations of a channel. -/
def canStations (s : State) (c : Nat) : List Nat := (tkeys s.img.stations).filter (fun k => k / 1024 == 8 + c)

/-- Bring a channel to its enable (R444): off, its frames end and its stations are LOST at once; on, it starts with TEC and REC at 0. -/
def canSync (s : State) (c : Nat) : State :=
  let on := flag s pCanEnable c
  if on = (canCh s c).on then s
  else if on then canPoints (setCan s c (fun d => { d with on := true, tec := 0, rec_ := 0, busOff := false, recovering := false, held := false, aloneRun := 0 })) c
  else
    let s := setCan s c (fun d => { d with on := false, busOff := false, recovering := false, held := false, alone := false, tt := 1, ref := none, run := 0 })
    let s := (canSlotsOf s c (fun _ => true)).foldl (fun s k => canEndLater s c k 5) s
    let s := (canStations s c).foldl (fun s k => if (station s k).st = .lost then s else goLost s k) s
    canPoints s c

/-- The stations of a port. -/
def ethStations (s : State) (p : Nat) : List Nat := (tkeys s.img.stations).filter (fun k => k / 1024 == 16 + p)

/-- Bring a port to its enable (R461): off, its stations are LOST at once and its queued frames discarded. -/
def ethSync (s : State) (p : Nat) : State :=
  let on := flag s pEthEnable p
  if on = (ethPort s p).on then s
  else if on then setEth s p (fun e => { e with on := true })
  else
    let s := setEth s p (fun e => { e with on := false, queues := [] })
    ethPoints ((ethStations s p).foldl (fun s k => if (station s k).st = .lost then s else goLost s k) s) p

/-- A tile's channels follow their enables and terminations, a port its enable, at a sample strobe (R91, R427, R444, R461). -/
def canTerms (s : State) (n : Nat) : State :=
  if 4 ≤ n then ethSync s (n - 4)
  else [2 * n, 2 * n + 1].foldl (fun s c =>
    let s := canSync s c
    if (canCh s c).term == flag s pCanTerm c then s else setCan s c (fun d => { d with term := flag s pCanTerm c })) s

end Sys2Proof.Machine
end

