-- ==== Sys2Proof/Machine/Strobes.lean ====
section
/-! DEFINITION. What a sample strobe latches and an apply strobe applies, shared by every row that executes a strobe (R28-R31, R51, R58, R59, R62). -/

namespace Sys2Proof.Machine

/-- A tile's or port's strobe state. -/
def node (s : State) (n : Nat) : NodeSt := tget {} s.nodes n
/-- Change a tile's or port's strobe state. -/
def setNode (s : State) (n : Nat) (f : NodeSt → NodeSt) : State := { s with nodes := tmod {} s.nodes n f }
/-- An island's record. -/
def island (s : State) (i : Nat) : IslandSt := tget {} s.islands i
/-- Change an island's record. -/
def setIsland (s : State) (i : Nat) (f : IslandSt → IslandSt) : State := { s with islands := tmod {} s.islands i f }

/-- What a strobe at a node latches: the field value of every facet of a tile, and the station inputs that have arrived there. -/
def latched (s : State) (n : Nat) : List (Nat × Word × BitVec 16) :=
  (s.img.field.filter (fun e => nodeOf e.1 == some n)).map (fun e => (e.1, e.2.1, e.2.2)) ++
  (s.img.arrived.filter (fun e => e.1 == n)).map (fun e => (e.2.1, e.2.2.1, e.2.2.2))

/-- Bytes a gap-buffer entry takes: the 64 KiB buffer holds 4,096 entries of 16 bytes (R355). -/
def gapCapacity : Nat := 4096

/-- The last value a tile's gap buffer or the image holds of a point. -/
def gapLast (s : State) (n p : Nat) : Word × BitVec 16 :=
  match tfind (node s n).gapLost p with
  | some e => (e.2.2.2.1, e.2.2.2.2)
  | none =>
    match ((node s n).gap.filter (fun e => e.2.1 == p)).getLast? with
    | some e => (e.2.2.1, e.2.2.2)
    | none => ((pget s p).source, (pget s p).srcConds)

/-- Store a sample of a silent tile in its gap buffer: changed values only while there is room, then extremes and counts per point (R356). -/
def gapStore (s : State) (n t : Nat) (l : List (Nat × Word × BitVec 16)) : State :=
  l.foldl (fun s e =>
    if gapLast s n e.1 == (e.2.1, e.2.2) then s
    else if (node s n).gapFull || decide (gapCapacity ≤ (node s n).gap.length) then
      let ty := (pget s e.1).ty
      let cur := tget (e.2.1, e.2.1, 0, e.2.1, e.2.2) (node s n).gapLost e.1
      let next := (minV ty cur.1 e.2.1, maxV ty cur.2.1 e.2.1, cur.2.2.1 + 1, e.2.1, e.2.2)
      setNode s n (fun d => { d with gapLost := tset d.gapLost e.1 next })
    else setNode s n (fun d => { d with gap := d.gap ++ [(t, e.1, e.2.1, e.2.2)] })) s

/-- A RETURNING station whose input blocks have all arrived becomes ONLINE at a sample strobe (R58). -/
def stnOnline (s : State) (n t : Nat) : State :=
  s.img.stations.foldl (fun s e =>
    if e.2.st = .returning ∧ stnNode e.1 = n ∧ (e.2.blocks.mapIdx (fun i b => !b.input || e.2.seen.contains i)).all id
    then note (setStation s e.1 (fun d => { d with st := .online, outFrom := t })) Ev.stationState (nodeIsland n) e.1 0 [1, 0, t]
    else s) s

/-- Execute a sample strobe at a node with the T0 at which it runs (R28, R30, R51). -/
def doSample (s : State) (n t : Nat) (late : Bool) : State :=
  let s := canTerms (fieldNow s n t) n
  let l := latched s n
  let s := if (node s n).silent then gapStore s n t l else updates s t l
  let s := { s with img := { s.img with arrived := s.img.arrived.filter (fun e => e.1 != n) } }
  let s := setNode s n (fun d => { d with lastSample := t, lateData := late })
  stnOnline s n t

/-- The set that carries a designated loop's output hands its tile the bridge seed when it is applied (R194), and a bridge law that ran stops (R196). -/
def seedTaken (b : BridgeSt) : BridgeSt :=
  match b.next with
  | some (sp, u, pv, i) => { b with seedSp := sp, seedU := u, seedPv := pv, seedI := i, next := none, running := false, expired := false, un := none }
  | none => b

/-- The apply strobe of a loop's output (R194, R196). -/
def bridgeDone (s : State) (p : Nat) : State :=
  { s with loops := s.loops.map (fun e => if e.2.bridge.next.isSome && param s pLoopOutDst e.1 == p then (e.1, { e.2 with bridge := seedTaken e.2.bridge }) else e) }

/-- Apply one output at a node: the writer's command is kept, and an output of a LOST or RETURNING station, or of a release from before its return, is withheld and counted (R59). -/
def applyOne (s : State) (t rel : Nat) (o : OutVal) : State :=
  match stnOf o.point with
  | some k =>
    let d := station s k
    if d.st = .lost ∨ d.st = .returning ∨ rel < d.outFrom then
      let s := { s with img := { s.img with withheld := s.img.withheld + 1, cmd := tset s.img.cmd o.point o.value } }
      sysPoint s 7 (s.img.withheld)
    else
      let s := { s with img := { s.img with cmd := tset s.img.cmd o.point o.value } }
      update s t o.point o.value (condOf o.qual ||| (if outClamped s k o.point then condOf 10 else 0))
  | none =>
    let s := { s with img := { s.img with cmd := tset s.img.cmd o.point o.value } }
    let s := pinApply (bridgeDone s o.point) o.point o.value
    let v := if ptRegion o.point = 3 ∧ ptIndex o.point % 16 = 0 then (aout s (ptIndex o.point / 16)).cmd else o.value
    update s t o.point v (condOf o.qual ||| outConds s o.point)

/-- Apply a complete set at T0 `t`: a newer set supersedes the incomplete older sets of the same outputs (R31). -/
def applySet (s : State) (n t : Nat) (o : OutSet) : State :=
  let s := o.outs.foldl (fun s v => applyOne s t o.at_ v) s
  let s := netApply s t o.at_ (o.outs.map (·.point)) false
  setNode s n (fun d => { d with sets := d.sets.filter (fun x => x.id != o.id) })

/-- Drop the older incomplete sets for outputs that a newer set writes, counting them as superseded (R31). -/
def supersede (s : State) (n : Nat) (o : OutSet) : State :=
  let old (x : OutSet) : Bool := decide (x.id < o.id) && decide (x.got < x.need) &&
    x.outs.any (fun v => o.outs.any (fun w => w.point == v.point))
  setNode s n (fun d => { d with sets := d.sets.filter (fun x => !old x), superseded := d.superseded + (d.sets.filter old).length })

/-- A set that is incomplete at its stated T0: APPLY_MISSED for an EXACT one, else APPLY_LATE (R31). -/
def lateSet (s : State) (n t id : Nat) (exact : Bool) : State :=
  let s := setNode s n (fun d => { d with applyMissed := d.applyMissed + (if exact then 1 else 0), applyLate := d.applyLate + (if exact then 0 else 1) })
  note s (if exact then Ev.applyMissed else Ev.applyLate) (nodeIsland n) id 0 [t]

/-- Execute an apply strobe for a set at a node (R31). A set of which no packet has come is known by what is on its way to the node, if anything. -/
def doApply (s : State) (n t id : Nat) : State :=
  let s := applyDefaults s n
  match (node s n).sets.find? (fun x => x.id == id) with
  | none =>
    let sent : OutSet := ((s.sched.setsOut.find? (fun e => e.1 == n && e.2.id == id)).map (·.2)).getD { id := id, at_ := t }
    let s := supersede s n sent
    lateSet (setNode s n (fun d => { d with sets := d.sets ++ [{ id := id, at_ := t, exact := sent.exact, need := sent.need, got := 0, late := true }] })) n t id sent.exact
  | some o =>
    let s := supersede s n o
    if o.got ≥ o.need then applySet s n t o
    else lateSet (setNode s n (fun d => { d with sets := d.sets.map (fun x => if x.id = id then { x with late := true } else x) })) n t id o.exact

/-- Take packet `got` of a set into a node: a set that completes after its strobe is applied at once, an EXACT one discarded (R31). -/
def takeSet (s : State) (n : Nat) (o : OutSet) : State :=
  let cur := ((node s n).sets.find? (fun x => x.id == o.id)).getD { o with got := 0, outs := [], late := false }
  let new : OutSet := { cur with exact := o.exact, need := o.need, got := cur.got + 1, outs := cur.outs ++ o.outs, at_ := o.at_ }
  let s := setNode s n (fun d => { d with sets := d.sets.filter (fun x => x.id != o.id) ++ [new] })
  if new.got ≥ new.need && new.late then
    (if new.exact then setNode s n (fun d => { d with sets := d.sets.filter (fun x => x.id != o.id) })
     else applySet s n s.t0 new)
  else s

end Sys2Proof.Machine
end

