-- ==== Sys2Proof/Machine/SchedOps.lean ====
section
/-! DEFINITION. What is shared of task scheduling: the ready order, prefetch and start, the end of a release, the TASK points (R52, R99-R108, R111). -/

namespace Sys2Proof.Machine

/-- A task's record. -/
def task (s : State) (i : Nat) : TaskSt := tget {} s.sched.tasks i
/-- Change it. -/
def setTask (s : State) (i : Nat) (f : TaskSt → TaskSt) : State :=
  { s with sched := { s.sched with tasks := tmod {} s.sched.tasks i f } }
/-- A cycle engine's queue and running release. -/
def engine (s : State) (c : Nat) : EngineSt := tget {} s.sched.engines c
/-- Change it. -/
def setEngine (s : State) (c : Nat) (f : EngineSt → EngineSt) : State :=
  { s with sched := { s.sched with engines := tmod {} s.sched.engines c f } }

/-- A loaded program's image. -/
def prog (s : State) (k : Nat) : ProgImg := tget {} s.sched.progs k

/-- The home engine of a task: that of its program (R94, R109). -/
def homeOf (s : State) (i : Nat) : Nat := tget 0 s.sched.home (task s i).prog
/-- A task's period in ns. -/
def periodNs (s : State) (i : Nat) : Nat := param s pTaskPeriod i * us

/-- Whether release `a` stands before `b` in the ready order: level, release instant, task number (R99). -/
def relBefore (s : State) (a b : Release) : Bool :=
  let la := param s pTaskLevel a.task
  let lb := param s pTaskLevel b.task
  decide (la < lb ∨ (la = lb ∧ (a.due < b.due ∨ (a.due = b.due ∧ a.task < b.task))))

/-- Insert a release in ready order. -/
def relInsert (s : State) (r : Release) : List Release → List Release
  | [] => [r]
  | x :: l => if relBefore s r x then r :: x :: l else x :: relInsert s r l

/-- Only the first two releases of the queue hold prefetch slots; a copy of any other is abandoned (R100). -/
def slotTrim (l : List Release) : List Release := l.mapIdx (fun i r => if i < 2 then r else { r with copied := false })

/-- The input window of a task at release `t`: every point's entry in list order, range by range (R52, R53). -/
def windowAt (s : State) (i t : Nat) : List DWord :=
  (tget [] s.sched.windows (task s i).window).flatMap (fun r => (List.range r.2).map (fun k => (pgetAt s t (r.1 + k)).entry))

/-- A task's state: RUNNING, PREEMPTED and READY as its release stands; without one DISABLED when it is not enabled or a program fault has stopped it, else IDLE (R111; DEDUCED, log 130). -/
def taskState (s : State) (i : Nat) : Nat :=
  let e := engine s (homeOf s i)
  if e.running.any (fun r => r.task == i) then 3
  else if e.preempted.any (fun r => r.task == i) then 4
  else if e.queue.any (fun r => r.task == i) then 2
  else if (task s i).stopped || !flag s pTaskEnable i then 0 else 1

/-- Publish a task's facets (R111). -/
def taskPoints (s : State) (i : Nat) : State :=
  let d := task s i
  let p (k : Nat) := ptid 0x17 (i * 16 + k)
  updates s s.t0 ([taskState s i, d.status, homeOf s i, d.releases, d.execLast, d.execMax, d.waitLast, d.waitMax, d.respLast, d.skipped,
    d.missed, d.overruns, d.preempts, d.merged, d.aborted, param s pTaskBudget i].mapIdx (fun k v => (p k, bv 32 v, 0)))

/-- A point of an engine (R112). -/
def engPt (c k : Nat) : Nat := ptid 0x17 (0x4000 + c * 16 + k)

/-- Publish an engine's ready-queue depth, and keep the largest of the window (R112). -/
def depthPoint (s : State) (c : Nat) : State :=
  let n := (engine s c).queue.length
  update (setEngine s c (fun e => { e with depthMax := max e.depthMax n })) s.t0 (engPt c 2) (bv 32 n)

/-- Whether a release's window holds entries that came through a late strobe (R55). -/
def lateEntries (s : State) (i : Nat) : Bool :=
  (tget [] s.sched.windows (task s i).window).any (fun r => (List.range r.2).any (fun k => (nodeOf (r.1 + k)).any (fun n => (node s n).lateData)))

/-- The native registers at the start of code of image `g` for a task: its entry address, its stack top in sp, the task in a0 and a1 as given (R146). -/
def NatRegs.start (n : NatRegs) (g : ProgImg) (task : Nat) (a1 : Word) : NatRegs :=
  let sp := ((g.sps.find? (fun e => e.1 == task)).map (·.2)).getD 0
  let entry := ((g.tasks.find? (fun e => e.1 == task)).map (fun e => e.2.1)).getD 0
  { n with x := (((List.replicate 32 (0 : Word)).set 2 (bv 32 sp)).set 10 (bv 32 task)).set 11 a1, pc := bv 32 entry }

/-- The TEST image that a task is bound to: slot and image (R140). -/
def testImage (s : State) (i : Nat) : Option (Nat × ProgImg) :=
  s.sched.natives.find? (fun e => e.2.role == 3 && e.2.tasks.any (fun t => t.1 == i))

/-- The registers of a release that begins: bit-logic from the task's entry (R113, R135), in M8 the TEST image of the task as R146 says. -/
def startRegs (s : State) (c : Nat) (r : Release) : State :=
  let d := task s r.task
  let s := match if s.mode.cur = .test then testImage s r.task else none with
    | some g => setEngine s c (fun e => { e with bl := { pc := d.entry, fs := d.scan }, role := 3, roleSince := s.t0, roleProg := g.1, nat := e.nat.start g.2 r.task (bv 32 (r.due / us)) })
    | none => setEngine s c (fun e => { e with bl := { pc := d.entry, fs := d.scan }, role := 0 })
  setTask s r.task (fun d => { d with scan := false })

/-- Begin a release on an engine: status bits of the previous one are replaced (R101, R111). -/
def beginRel (s : State) (c : Nat) (r : Release) : State :=
  let w := (s.t0 - r.due) / 10
  let s := setEngine s c (fun e => { e with queue := slotTrim (e.queue.filter (fun x => x.task != r.task)), running := some { r with began := some s.t0, resumedAt := s.t0 }, waiting := false })
  let s := startRegs s c r
  let s := setTask s r.task (fun d => { d with
    waitLast := min w (2 ^ 32 - 1), waitMax := max d.waitMax (min w (2 ^ 32 - 1)),
    status := (if r.windowLate then 1 else 0) + (if lateEntries s r.task then 2 else 0) + d.status / 64 * 64 })
  taskPoints (depthPoint s c) r.task

/-- Whether a standby delays a release at or after the quiet point of a forwarded exchange whose swap it has not made (R154). -/
def exchHolds (s : State) (r : Release) : Bool :=
  match s.twin.exchAt, s.twin.exch with
  | some q, some x => (task s r.task).prog == x.slot && decide (q ≤ r.due)
  | _, _ => false

/-- A free engine that waits takes the first prefetched release; a release of level 0-3 preempts a running one of numerically higher level that preempts none itself (R100, R102). -/
def dispatch (s : State) (c : Nat) : State :=
  let e := engine s c
  match e.queue with
  | [] => s
  | r :: _ =>
    if !r.copied || !(island s (0x10 + c)).inService || exchHolds s r then s
    else match e.running with
    | none => if e.waiting then beginRel s c r else s
    | some x =>
      if param s pTaskLevel r.task ≤ 3 ∧ param s pTaskLevel r.task < param s pTaskLevel x.task ∧ e.preempted.isNone then
        let x' := { x with execNs := x.execNs + (s.t0 - x.resumedAt) }
        let s := setTask s x.task (fun d => { d with preempts := (d.preempts + 1) % 2 ^ 32 })
        taskPoints (beginRel (setEngine s c (fun e => { e with preempted := some x', half := 1 - e.half, running := none, blSaved := e.bl, natSaved := e.nat })) c r) x.task
      else s

/-- The nodes that hold the output points a task or loop writes. -/
def writerNodes (s : State) (w : Nat) : List Nat :=
  ([0, 1, 2, 3, 4, 5, 6] : List Nat).filter (fun n => s.img.writers.any (fun e => e.2 == w && nodeOf e.1 == some n))

/-- Send an output set: one part per node, and points of no node straight to the image at the apply instant (R51, R103). A paired active sends the set's CRC to its standby, which keeps its own to compare (R477). -/
def sendSet (s : State) (id rel at_ : Nat) (exact : Bool) (outs : List OutVal) : State :=
  let parts := ([0, 1, 2, 3, 4, 5, 6] : List Nat).filterMap (fun n =>
    let l := outs.filter (fun o => nodeOf o.point == some n)
    if l.isEmpty then none else some (n, ({ id := id, at_ := rel, exact := exact, need := 1, outs := l } : OutSet)))
  let s := { s with sched := { s.sched with setsOut := s.sched.setsOut ++ parts } }
  let crc := Config.setCrc (outs.map (fun o => (o.point, o.value.toNat, o.qual)))
  let s := forward s 7 [id, rel, crc.toNat]
  let s := if s.mode.cur = .standby then { s with twin := { s.twin with ours := tset s.twin.ours id crc } } else s
  (outs.filter (fun o => (nodeOf o.point).isNone)).foldl (fun s o => update s at_ o.point o.value (condOf o.qual)) s

/-- Send apply strobes for a set to nodes. -/
def sendApply (s : State) (nodes : List Nat) (id at_ : Nat) : State :=
  { s with sched := { s.sched with
      strobesOut := s.sched.strobesOut ++ nodes.map (fun n => (n, { due := at_, set := some id })),
      strobesSent := s.sched.strobesSent + nodes.length } }

/-- Tasks that a finished release of task `i` triggers (R96 kind 7). -/
def doneTrigs (s : State) (i t : Nat) : State :=
  { s with sched := { s.sched with trigs := s.sched.trigs ++
      (s.sched.tasks.filter (fun e => e.2.kind == 1 && param s pTaskTrigger e.1 == 7 && param s pTaskTriggerSrc e.1 == i)).map (fun e => (e.1, t)) } }

/-- The kept content of a retained item in the engine's data memory (R136). -/
def retRead (m : Mem) (i : RetItem) : RetVal :=
  if i.ty ≤ 1 then { id := i.id, ty := i.ty, val := bv 32 (leVal (mreads m i.addr 4)) }
  else { id := i.id, ty := i.ty, rty := mread m i.addr, st := mread m (i.addr + 1),
         val := if i.ty = 4 then 0 else bv 32 (leVal (mreads m (i.addr + 8) 4)) }

/-- A release of a program on engine `c` with apply instant `at_` writes the program's staging copy (R137). -/
def retainStage (s : State) (c prog at_ : Nat) : State :=
  let g := Machine.prog s prog
  if g.retain.isEmpty then s
  else
    let copy : RetCopy := { gen := g.gen, at_ := at_ / us, items := g.retain.map (retRead (engine s c).mem) }
    { s with sched := { s.sched with staging := tset s.sched.staging prog copy } }

/-- End the running release of an engine (R103, R106): its set goes out, late under APPLY_LATE, not at all under DROP or when discarded; a preempted release resumes. -/
def endRelease (s : State) (c : Nat) (discard : Bool) : State :=
  match (engine s c).running with
  | none => s
  | some r =>
    let at_ := r.due + periodNs s r.task
    let ex := min ((r.execNs + (s.t0 - r.resumedAt)) / 10) (2 ^ 32 - 1)
    let s1 := setTask s r.task (fun d => { d with execLast := ex, execMax := max d.execMax ex, respLast := min ((s.t0 - r.due) / 10) (2 ^ 32 - 1), skipRun := 0 })
    let drop := discard || (r.overrun && param s pTaskOverrun r.task == 1)
    let s2 :=
      if drop then s1
      else if r.overrun then
        let s1 := if r.strobed then s1 else sendApply s1 (writerNodes s1 r.task) (r.setId.getD 0) at_
        doneTrigs (sendSet s1 (r.setId.getD 0) r.due (max at_ s.t0) false r.outs) r.task (max at_ s.t0)
      else
        let id := s1.sched.nextSet
        let s1 := sendSet { s1 with sched := { s1.sched with nextSet := id + 1 } } id r.due at_ false r.outs
        let s1 := sendApply s1 ((List.range 7).filter (fun n => r.outs.any (fun o => nodeOf o.point == some n))) id at_
        doneTrigs s1 r.task at_
    let s2 := if drop then s2 else setTask (retainStage s2 c (task s2 r.task).prog at_) r.task (fun d => { d with faultRun := 0 })
    let s3 := setEngine s2 c (fun e => { e with
      running := e.preempted.map (fun p => { p with resumedAt := s.t0 }), preempted := none
      half := if e.preempted.isSome then 1 - e.half else e.half
      bl := if e.preempted.isSome then e.blSaved else e.bl, nat := if e.preempted.isSome then e.natSaved else e.nat })
    let back := (engine s2 c).preempted.toList
    back.foldl (fun s p => taskPoints s p.task) (taskPoints s3 r.task)

/-- Whether programs may run in the mode for a task (R68, R140): in M7 only tasks with MAINT_RUN; in M8 only tasks bound to TEST code; in M5, M6, M9, M10, M11 as stated. -/
def programsRun (s : State) (i : Nat) : Bool :=
  decide (s.rst.stage = 0) && (match effMode s with
  | .run | .hold | .standby | .safe => true
  | .maint => flag s pTaskMaintRun i
  | .test => (testImage s i).isSome
  | _ => false)

/-- Queue a release on its home engine (R95, R99); a paired active marks the instant's end to its standby, which awaits the marker (R477, R478). -/
def queueRel (s : State) (i t : Nat) : State :=
  let s := setTask s i (fun d => { d with releases := (d.releases + 1) % 2 ^ 32, lastRel := some t, status := d.status / 64 * 64 })
  let r : Release := { task := i, due := t }
  let s := depthPoint (setEngine s (homeOf s i) (fun e => { e with queue := slotTrim (relInsert s r e.queue) })) (homeOf s i)
  let s := { s with sched := { s.sched with relsWin := s.sched.relsWin + 1 } }
  let s := forward s 6 [t]
  let s := if s.mode.cur = .standby then { s with twin := { s.twin with instants := s.twin.instants ++ [t] } } else s
  taskPoints s i

/-- A release of the task that is queued, running or preempted. -/
def relOf (s : State) (i : Nat) : Option Release :=
  let e := engine s (homeOf s i)
  (e.queue ++ e.running.toList ++ e.preempted.toList).find? (fun r => r.task == i)

end Sys2Proof.Machine
end

