-- ==== Sys2Proof/Machine/Pocket.lean ====
section
/-! DEFINITION. The Pocket's areas, records and journal (R136, R329, R333-R337, R366). -/

namespace Sys2Proof.Machine

/-- Offset of the journal area (R366). -/
def journalAt : Nat := 0x3C80
/-- Offset of the operation area (R366). -/
def opAreaAt : Nat := 0x200
/-- Offset of the retained area: it follows the operation area (R366). -/
def retAreaAt (s : State) : Nat := opAreaAt + param s pPocketOpArea 0

/-- Change the Pocket. -/
def setPocket (s : State) (f : PocketSt → PocketSt) : State := { s with pocket := f s.pocket }

/-- The Pocket header's CRC over bytes 0x000-0x0FB (R367). -/
def pocketCrc (m : Mem) : List Byte := leBytes 4 (crc32c (mreads m 0 0xFC)).toNat

/-- A transaction that writes header fields also writes the header's CRC as it then stands, so that R367's check passes (DEDUCED, log 25). -/
def withHdrCrc (m : Mem) (t : JTxn) : JTxn :=
  if t.entries.any (fun e => decide (e.1 < 0xFC)) then
    { t with entries := t.entries ++ [(0x0FC, pocketCrc (t.entries.foldl (fun m e => mwrites m e.1 e.2) m))] }
  else t

/-- Whether two transactions write one target. -/
def sameTarget (a b : JTxn) : Bool := a.entries.any (fun x => b.entries.any (fun y => x.1 == y.1))

/-- Queue a transaction: step boundaries go before checkpoints and retained copies; a newer state of a target replaces the older one that waits (R336, R337). A standby commits forwarded transactions alone (R477). -/
def journalAdd (s : State) (t : JTxn) : State :=
  if s.mode.cur = .standby then s else setPocket s (fun p =>
    let q := p.queue.filter (fun x => x.boundary || !sameTarget x t)
    { p with queue := if t.boundary then q.filter (·.boundary) ++ [t] ++ q.filter (fun x => !x.boundary) else q ++ [t] })

/-- Queue entries for the journal. -/
def journalPut (s : State) (boundary : Bool) (l : List (Nat × List Byte)) : State := journalAdd s { boundary := boundary, entries := l }

/-- The bytes of a transaction's entries: target, length, 4 reserved bytes, data (R334). -/
def journalEntries (t : JTxn) : List Byte :=
  t.entries.flatMap (fun e => leBytes 2 e.1 ++ leBytes 2 e.2.length ++ [0, 0, 0, 0] ++ e.2)

/-- The journal area after phase 1 (R334, R335). -/
def journalImage (t : JTxn) (seq : Nat) : List Byte :=
  let e := journalEntries t
  let h := leBytes 4 seq ++ leBytes 2 t.entries.length ++ leBytes 2 e.length
  leBytes 4 0x5A3CC3A5 ++ h ++ leBytes 4 (crc32c (h ++ e)).toNat ++ e

/-- A retained item's bytes in the Pocket: 8 for variables, 12 for a timer or counter, 4 for an edge detector (R136; the order inside is DEDUCED, log 17). -/
def retItemBytes (v : RetVal) : List Byte :=
  if v.ty ≤ 1 then leBytes 2 v.id ++ leBytes 2 v.ty ++ leBytes 4 v.val.toNat
  else if v.ty = 4 then leBytes 2 v.id ++ [v.rty, v.st]
  else leBytes 2 v.id ++ [v.rty, v.st] ++ leBytes 4 v.val.toNat ++ [0, 0, 0, 0]

/-- A program's retained copy: the 16-byte header of slot, generation, set length and apply instant, then the items (R136). -/
def retainBytes (prog : Nat) (r : RetCopy) : List Byte :=
  let b := r.items.flatMap retItemBytes
  leBytes 4 prog ++ leBytes 4 r.gen ++ leBytes 4 b.length ++ leBytes 4 r.at_ ++ b

/-- The size of a program's retained copy (R136). -/
def retainSize (g : ProgImg) : Nat :=
  if g.retain.isEmpty then 0 else g.retain.foldl (fun a i => a + (if i.ty ≤ 1 then 8 else if i.ty = 4 then 4 else 12)) 16

/-- Where a program's retained copy lies: copies follow each other in slot order (DEDUCED, log 17). -/
def retainOff (s : State) (prog : Nat) : Nat :=
  (s.sched.progs.filter (fun e => decide (e.1 < prog))).foldl (fun a e => a + retainSize e.2) (retAreaAt s)

/-- The 48-bit keep tick counter of 1/32,768 s (R333, R362). -/
def keepTick (s : State) : Nat := (s.pocket.tick0 + s.t0 * 32768 / sec) % 2 ^ 48

/-! ### Program data memory (R128, R137-R139) -/

/-- Write a program's initial data into its home engine's data memory (R138). -/
def initData (s : State) (k : Nat) : State :=
  setEngine s (tget 0 s.sched.home k) (fun e => { e with mem := (prog s k).data.foldl (fun m d => mwrite m d.1 d.2) e.mem })

/-- Restore one retained item: a timer's STAMPED is cleared, a counter keeps CV and its previous inputs (R138). -/
def retWrite (m : Mem) (a : Nat) (v : RetVal) : Mem :=
  if v.ty ≤ 1 then mwrites m a (leBytes 4 v.val.toNat)
  else if v.ty = 2 then mwrites (mwrite m (a + 1) (v.st &&& 0xF7)) (a + 8) (leBytes 4 v.val.toNat)
  else if v.ty = 3 then mwrites (mwrite m (a + 1) v.st) (a + 8) (leBytes 4 v.val.toNat)
  else mwrite m (a + 1) v.st

/-- Whether a saved item matches one of the program: ID and type, and for a record its TYPE byte (R139, R155). -/
def retMatch (m : Mem) (i : RetItem) (v : RetVal) : Bool :=
  v.id == i.id && v.ty == i.ty && (decide (i.ty ≤ 1) || v.rty == mread m i.addr)

/-- Write the items of a saved copy that match a program's retained items (R138, R139). -/
def restoreMem (m : Mem) (items : List RetItem) (r : RetCopy) : Mem :=
  items.foldl (fun x i => match r.items.find? (retMatch m i) with | some v => retWrite x i.addr v | none => x) m

/-- Reload a program's data memory as it stood after its retained restore (R141). -/
def reloadProg (s : State) (k : Nat) : State :=
  let c := tget 0 s.sched.home k
  let s := initData (setEngine s c (fun e => { e with mem := mwrites e.mem (prog s k).base (List.replicate (prog s k).len 0) })) k
  setEngine s c (fun e => { e with mem := restoreMem e.mem (prog s k).retain (tget {} s.sched.staging k) })

/-- Restore a program's retained items from a saved copy and record the counts (R138, R139). -/
def restoreProg (s : State) (k : Nat) (r : RetCopy) : State :=
  let c := tget 0 s.sched.home k
  let m := (engine s c).mem
  let items := (prog s k).retain
  let hit (i : RetItem) : Option RetVal := r.items.find? (retMatch m i)
  let s := setEngine s c (fun e => { e with mem := restoreMem e.mem items r })
  let got := (items.filter (fun i => (hit i).isSome)).length
  if items.isEmpty then s
  else note s Ev.retainRestore (0x10 + c) k 0 [got, items.length - got, r.items.length - got, r.at_]

end Sys2Proof.Machine
end

