-- ==== Sys2Proof/Machine/Spans.lean ====
section
/-! DEFINITION. Operation slots and streams as records, Thatch's plan and effective classes, and the log states that steps and operations open (R326, R397, R399, R405). -/

namespace Sys2Proof.Machine

/-- An operation slot. -/
def op (s : State) (i : Nat) : OpSt := tget {} s.track.slots i
/-- Change the tracker. -/
def setTrack (s : State) (f : TrackSt → TrackSt) : State := { s with track := f s.track }
/-- Change a slot. -/
def setOp (s : State) (i : Nat) (f : OpSt → OpSt) : State := setTrack s (fun t => { t with slots := tmod {} t.slots i f })

/-- The handle of a slot's operation (R326). -/
def handleOf (i : Nat) (o : OpSt) : Nat := i + 256 * o.gen
/-- The slot of a handle. -/
def slotOf (h : Nat) : Nat := h % 256
/-- A stream. -/
def stream (s : State) (k : Nat) : StreamSt := tget {} s.streams k
/-- Change it. -/
def setStream (s : State) (k : Nat) (f : StreamSt → StreamSt) : State := { s with streams := tmod {} s.streams k f }
/-- The plan entry that covers a point: its place, 0 the default entry (R397). -/
def planIdx (plan : List PlanEnt) (p : Nat) : Nat :=
  match (plan.drop 1).findIdx? (fun e => decide (e.first ≤ p ∧ p < e.first + e.count)) with | some i => i + 1 | none => 0

/-- Change Thatch. -/
def setThatch (s : State) (f : ThatchSt → ThatchSt) : State := { s with thatch := f s.thatch }

/-- 10 µs indices in an interval of a class (R394). -/
def clsLen (c : Nat) : Nat := 10 ^ c
/-- The plan entry of a point. -/
def planOf (s : State) (p : Nat) : PlanEnt := (s.thatch.plan[planIdx s.thatch.plan p]?).getD {}
/-- A range's class with its coarsening (R405). -/
def rangeCls (e : PlanEnt) : Nat := min 5 (e.cls + e.coarse)
/-- The class in effect at an instant: a step takes effect at a boundary (R405, R406). -/
def rangeClsAt (e : PlanEnt) (t : Nat) : Nat := if t < e.effAt then e.was else rangeCls e
/-- Thatch records every populated point but LOCAL (R397). -/
def recorded (s : State) (p : Nat) : Bool := !s.thatch.plan.isEmpty && ptRegion p != 0x1F && populated s p
/-- A point's tightening. -/
def tightOf (s : State) (p : Nat) : Option Tight := s.thatch.tight.find? (fun t => t.point == p)
/-- The effective class at an instant: the tightened one, else the range's (R404, R405). -/
def effClsAt (s : State) (p t : Nat) : Nat := match tightOf s p with | some x => x.cls | none => rangeClsAt (planOf s p) t
/-- The effective class now. -/
def effCls (s : State) (p : Nat) : Nat := effClsAt s p s.t0

/-- The first interval index of a span that starts at `t`: the first interval of class `c` whose first index lies in it. -/
def spanIdx (c t : Nat) : Nat := ((t + 9999) / 10000 + clsLen c - 1) / clsLen c * clsLen c

/-- The stream that an operation belongs to: its owner, or its parent's for a profile. -/
def opStream (s : State) (o : OpSt) : Option Nat :=
  if o.owner < 16 then some o.owner
  else let q := op s (slotOf o.parent)
       if o.parent ≠ 0 ∧ q.gen = o.parent / 256 ∧ q.owner < 16 then some q.owner else none

/-- A fresh log state of a point: its bins where the plan keeps histograms. -/
def logState (e : PlanEnt) (kind : Nat) : IntvSt := { hist := if kind = 2 ∧ e.layers / 4 % 2 = 1 then List.replicate 32 0 else [] }

/-- The spans that the streams and operations have open now, as log states of a point. -/
def logsNow (s : State) (p : Nat) : List LogOpen :=
  let e := planOf s p
  let c := effCls s p
  let l2 : List LogOpen := if e.layers / 2 % 2 = 0 then [] else
    (List.range 16).filterMap (fun k =>
      let d := stream s k
      if e.streams.getLsbD k && (d.handle != 0 || d.boundary.isSome) then
        some { kind := 2, stream := k, point := p, key := d.step, entry := d.entered, iStart := spanIdx c d.stepStart, st := logState e 2 } else none)
  let l3 : List LogOpen := if e.layers / 8 % 2 = 0 then [] else
    s.track.slots.filterMap (fun x =>
      match opStream s x.2 with
      | some k => if x.2.st ≠ 0 ∧ e.streams.getLsbD k then
          some { kind := 3, stream := k, point := p, key := handleOf x.1 x.2, entry := x.2.kind, iStart := spanIdx c x.2.start, st := logState e 3 } else none
      | none => none)
  l2 ++ l3

/-- The end of an open log's span that is over: the next step's start, or now. -/
def logEnd (s : State) (l : LogOpen) : Nat :=
  let d := stream s l.stream
  spanIdx (effCls s l.point) (if l.kind = 2 ∧ d.handle ≠ 0 then d.stepStart else s.t0)

/-- Whether two log states are of one span. -/
def sameSpan (a b : LogOpen) : Bool := a.kind == b.kind && a.stream == b.stream && a.point == b.point && a.key == b.key && (a.kind == 3 || a.entry == b.entry)

/-- Bring a point's open log states up to the spans now open. -/
def syncLogs (s : State) (p : Nat) : State :=
  let now := logsNow s p
  let old := s.thatch.logOpen.map (fun l => if l.point = p ∧ l.iEnd = none ∧ !now.any (sameSpan l) then { l with iEnd := some (max l.iStart (logEnd s l)) } else l)
  setThatch s (fun h => { h with logOpen := old ++ now.filter (fun l => !old.any (sameSpan l)) })

/-- A boundary of a stream or of its operations: the log states of every recorded point whose plan names the stream (R399). -/
def spanBoundary (s : State) (k : Nat) : State :=
  (tkeys s.thatch.l0).foldl (fun s p => if (planOf s p).streams.getLsbD k then syncLogs s p else s) s

/-- The start or end of an operation of a stream. -/
def opBoundary (s : State) (o : OpSt) : State := match opStream s o with | some k => spanBoundary s k | none => s

end Sys2Proof.Machine
end

