-- ==== Sys2Proof/Machine/OpTrack.lean ====
section
/-! DEFINITION. The operation tracker: handles, admission, checkpoints, Pocket records, ends and their points (R325-R337). -/

namespace Sys2Proof.Machine

/-- The live operation a handle names. -/
def opOf (s : State) (h : Nat) : Option OpSt :=
  let o := op s (slotOf h)
  if h ≠ 0 ∧ o.gen = h / 256 ∧ o.st ≠ 0 then some o else none

/-- The bytes of a Pocket class (R311). -/
def clsBytes (c : Nat) : Nat := 32 * 2 ^ c

/-- The Pocket slots of class `c`: offsets from the start of the operation area, classes in rising order (DEDUCED, log 17). -/
def clsSlots (s : State) (c : Nat) : List Nat :=
  let base := (List.range c).foldl (fun a k => a + param s pPocketSlots k * clsBytes k) opAreaAt
  (List.range (param s pPocketSlots c)).map (fun k => base + k * clsBytes c)

/-- The Pocket slots that operations hold. -/
def pocketUsed (s : State) : List Nat := (s.track.slots.filter (fun e => e.2.st != 0)).map (fun e => e.2.off)

/-- A free Pocket slot of a class, or with UPSIZE of the smallest larger class that has one (R330). -/
def pocketFree (s : State) (c : Nat) : Option (Nat × Nat) :=
  let up := param s pPocketUpsize 0 % 2 = 1
  ([0, 1, 2, 3] : List Nat).findSome? (fun k =>
    if k < c ∨ (c < k ∧ !up) then none else ((clsSlots s k).find? (fun o => !(pocketUsed s).contains o)).map (fun o => (k, o)))

/-- The start instant in µs modulo 2^32; `e0` ns had elapsed when the operation was taken up again (R328, R339). -/
def startUs (o : OpSt) : Nat := (o.start / us + (2 ^ 32 - 1) * (o.e0 / us)) % 2 ^ 32
/-- The time elapsed at `t` in ns (R332). -/
def elapsedNs (o : OpSt) (t : Nat) : Nat := t + o.e0 - o.start

/-- Publish a slot's facets (R328). -/
def opPoints (s : State) (i : Nat) : State :=
  let o := op s i
  let p (k : Nat) := ptid 0x14 (i * 64 + k)
  updates s s.t0 ([handleOf i o, o.st, o.status, o.kind, o.owner, o.rule + 16 * o.eff, clsBytes o.cls + 65536 * o.off,
    startUs o, o.elapsed, o.lastCkpt / us, o.ckpts, o.parent, o.detail].mapIdx (fun k v => (p k, bv 32 v, 0)))

/-- Publish the tracker-wide points (R328). -/
def trackPoints (s : State) : State :=
  let free (c : Nat) : Nat := ((clsSlots s c).filter (fun o => !(pocketUsed s).contains o)).length
  let act := (s.track.slots.filter (fun e => e.2.st != 0)).length
  updates s s.t0 ([free 0, free 1, free 2, free 3, act, s.track.refusals, s.track.late, s.pocket.txns].mapIdx
    (fun k v => (ptid 0x14 (0x4000 + k), bv 32 v, 0)))

/-- A state change of a slot: facets, the OP_STATE trigger and the event (R96, R327). -/
def opState (s : State) (i : Nat) : State :=
  let o := op s i
  let s := opPoints s i
  let ts := (s.sched.tasks.filter (fun e => e.2.kind == 1 && param s pTaskTrigger e.1 == 6 && param s pTaskTriggerSrc e.1 == i)).map (fun e => (e.1, s.t0))
  note { s with sched := { s.sched with trigs := s.sched.trigs ++ ts } } Ev.opState 0x43 i (handleOf i o) [o.st, o.status, o.kind]

/-- The payload bytes of an operation's record (R325). -/
def opPayload (s : State) (o : OpSt) : List Byte :=
  let g (k : Nat) : Nat := (o.data[k]?).getD 0
  match o.kind with
  | 1 => leBytes 1 (g 0) ++ leBytes 1 (g 1) ++ leBytes 2 (g 2) ++ leBytes 4 o.elapsed ++
      (tget {} s.streams (g 0)).counters.flatMap (leBytes 4) ++ leBytes 4 (startUs o)
  | 2 => leBytes 1 (g 0) ++ leBytes 1 (g 1) ++ leBytes 1 (g 2) ++ leBytes 1 (g 3) ++ leBytes 4 (g 4) ++ leBytes 4 (g 5) ++ leBytes 4 o.elapsed
  | 3 => leBytes 1 (g 0) ++ leBytes 1 (g 1) ++ leBytes 1 (g 2) ++ [0] ++ leBytes 4 (g 3) ++ leBytes 4 o.elapsed
  | 4 => leBytes 1 (g 0) ++ leBytes 1 (g 1) ++ [0, 0] ++ leBytes 8 (g 2) ++ leBytes 8 (g 3) ++ leBytes 4 (g 4) ++ leBytes 4 o.elapsed
  | 5 => leBytes 1 (g 0) ++ [0, 0, 0] ++ leBytes 4 o.elapsed
  | _ => leBytes 1 (g 0) ++ [0, 0, 0] ++ leBytes 4 ((s.t0 - g 1) / us)

/-- The Pocket record of an operation (R333): VALID is 0xA5, or 0 for a slot marked free; the CRC takes VALID as 0xA5. -/
def opRecord (s : State) (i : Nat) (valid : Bool) : List Byte :=
  let o := op s i
  let pl := opPayload s o
  let room := clsBytes o.cls - 20
  let head (v : Byte) := leBytes 4 (handleOf i o) ++ leBytes 6 (keepTick s) ++ leBytes 2 o.seq ++ leBytes 1 o.kind ++ leBytes 1 o.rule ++ leBytes 1 pl.length ++ [v]
  let body := pl.take room ++ List.replicate (room - pl.length) 0
  head (if valid then 0xA5 else 0) ++ body ++ leBytes 4 (crc32c (head 0xA5 ++ body)).toNat

/-- Queue a transaction that commits operations' states of now: a state that still waits is replaced and counted late (R337). -/
def opCommit (s : State) (boundary : Bool) (ops : List (Nat × Bool)) (extra : List (Nat × List Byte)) : State :=
  let s := ops.foldl (fun s e => setOp s e.1 (fun o => { o with seq := (o.seq + 1) % 65536 })) s
  let t : JTxn := { boundary := boundary, entries := ops.map (fun e => ((op s e.1).off, opRecord s e.1 e.2)) ++ extra, ops := ops.map (fun e => (e.1, s.t0)) }
  let late := (s.pocket.queue.filter (fun x => !x.boundary && sameTarget x t)).length
  let s := journalAdd s t
  if late = 0 then s else trackPoints (setTrack s (fun k => { k with late := (k.late + late) % 2 ^ 32 }))

/-- The Pocket header's GEN_HIGH entry of an admission (R326, R367). -/
def genHighEntry (s : State) : Nat × List Byte := (0x030, leBytes 4 (s.track.genHigh % 2 ^ 24))

/-- Whether generation `a` is later than `b` in 24-bit serial arithmetic (R8, R326). -/
def genLater (a b : Nat) : Bool := later 24 a b

/-- Admit an operation (R326, R330, R332), none from the fall of PWRFAIL_N on (R358): a slot, a Pocket slot, a new generation, the admission checkpoint; or the refusal's status. -/
def opAdmit (s : State) (kind owner rule cls parent detail start : Nat) (data : List Nat) (boundary : Bool) : Except Nat (Nat × State) :=
  if s.rst.lowAt.isSome then .error 0x0301
  else match s.track.free with
  | [] => .error 0x0304
  | i :: rest =>
    match pocketFree s cls with
    | none => .error 0x0301
    | some (c, off) =>
      let old := (op s i).gen
      let base := if old = 0 then s.track.genHigh else old
      let g := if (base + 1) % 2 ^ 24 = 0 then 1 else (base + 1) % 2 ^ 24
      let high := if s.track.genHigh = 0 || genLater g s.track.genHigh then g else s.track.genHigh
      let o : OpSt := { gen := g, st := 1, kind := kind, owner := owner, rule := rule, eff := rule, cls := c, off := off, start := start,
                        parent := parent, detail := detail, data := data }
      let s := setTrack s (fun t => { t with free := rest, genHigh := high, slots := tset t.slots i o })
      let s := if boundary then s else opCommit s false [(i, true)] [genHighEntry s]
      .ok (handleOf i o, trackPoints (opState (opBoundary s o) i))

/-- Record a refused admission (R330). -/
def opRefuse (s : State) (owner status : Nat) : State :=
  trackPoints (note (setTrack s (fun t => { t with refusals := (t.refusals + 1) % 2 ^ 32 })) Ev.opRefused 0x43 0 0 [owner, status])

/-- End an operation (R327, R332): through ENDED to FREE; handle and final facets stay until the slot is allocated again; its record is marked free unless a boundary transaction does so. -/
def opEnd (s : State) (h status : Nat) (commit : Bool := true) : State :=
  match opOf s h with
  | none => s
  | some _ =>
    let i := slotOf h
    let s := setOp s i (fun o => { o with st := 4, status := status, elapsed := if o.st = 1 then elapsedNs o s.t0 / us else o.elapsed })
    let s := opState s i
    let s := if commit then opCommit s false [(i, false)] [] else s
    let s := setOp s i (fun o => { o with st := 0 })
    trackPoints (opPoints (setTrack (opBoundary s (op s i)) (fun t => { t with free := t.free ++ [i] })) i)

/-- The periodic checkpoint of an operation at a release `t` of its owner (R332). -/
def opCkpt (s : State) (i t : Nat) : State :=
  let o := op s i
  let s := setOp s i (fun o => { o with elapsed := elapsedNs o t / us })
  let per := param s pOpCkptPeriod o.kind * us
  if o.st = 1 ∧ elapsedNs o t ≠ 0 ∧ per ≠ 0 ∧ elapsedNs o t % per = 0 then opPoints (opCommit s false [(i, true)] []) i else opPoints s i

/-- The operations whose parent is a handle. -/
def childrenOf (s : State) (h : Nat) : List (Nat × OpSt) := if h = 0 then [] else s.track.slots.filter (fun e => e.2.st != 0 && e.2.parent == h)

/-- Put an operation in PARKED (R342). -/
def opPark (s : State) (h : Nat) : State :=
  match opOf s h with
  | none => s
  | some _ => opState (setOp s (slotOf h) (fun o => { o with st := 2, eff := 2 })) (slotOf h)

/-- JOURNAL_TRANSACTION (R334-R336): phase 1 of the next transaction: its entries, number and CRC, and last COMMIT. -/
def execJournalTransaction (s : State) : Res :=
  match s.pocket.active, s.pocket.queue with
  | none, t :: q =>
    let t := withHdrCrc s.pocket.mem t
    let seq := (s.pocket.txseq + 1) % 2 ^ 32
    .next (setPocket (forward s 5 [] (journalEntries t)) (fun p => { p with mem := mwrites p.mem journalAt (journalImage t seq), queue := q, active := some t, txseq := seq }))
  | _, _ => .next s

/-- JOURNAL_COMMIT (R335): phase 2: every entry goes to its target and COMMIT becomes 0. -/
def execJournalCommit (s : State) : Res :=
  match s.pocket.active with
  | none => .next s
  | some t =>
    let s := setPocket s (fun p => { p with
      mem := mwrites (t.entries.foldl (fun m e => mwrites m e.1 e.2) p.mem) journalAt (leBytes 4 0), active := none, txns := (p.txns + 1) % 2 ^ 32 })
    let s := t.ops.foldl (fun s e => opPoints (setOp s e.1 (fun o => { o with lastCkpt := e.2, ckpts := (o.ckpts + 1) % 2 ^ 32 })) e.1) s
    .next (trackPoints s)

end Sys2Proof.Machine
end

