-- ==== Sys2Proof/Machine/AxisOps.lean ====
section
/-! DEFINITION. The tile's axes: figures, facets, current, stops, keep records, limit inputs (R235-R254, R258-R268). -/

namespace Sys2Proof.Machine

/-- An axis at its tile. -/
def axis (s : State) (x : Nat) : AxSt := tget {} s.motion.ax x
/-- Change it. -/
def setAxis (s : State) (x : Nat) (f : AxSt → AxSt) : State := { s with motion := { s.motion with ax := tmod {} s.motion.ax x f } }
/-- A motion profile. -/
def prof (s : State) (i : Nat) : PfSt := tget {} s.motion.pf i
/-- Change it. -/
def setProf (s : State) (i : Nat) (f : PfSt → PfSt) : State := { s with motion := { s.motion with pf := tmod {} s.motion.pf i f } }

/-- Whether a profile drives a local axis (R226). -/
def isLocal (i : Nat) : Bool := decide (i % 16 < 8)
/-- The axis of a local profile (R226). -/
def axisOf (i : Nat) : Nat := 8 * (i / 16) + i % 8
/-- The profile of an axis. -/
def profOf (x : Nat) : Nat := 16 * (x / 8) + x % 8

/-- An integer's low 32 bits. -/
def w32 (x : Int) : Word := BitVec.ofInt 32 x
/-- An AX facet's point. -/
def axPt (x f : Nat) : Nat := ptid 4 (x * 256 + f)

/-! ### Where an axis is -/

/-- Position (microsteps, tile coordinates), velocity and acceleration of an axis at T0 `t` (R235, R236). -/
def AxSt.at_ (d : AxSt) (t : Nat) : Rat × Rat × Rat :=
  match d.stop with
  | some q => runPhases q.phases (((t - q.start : Nat) : Rat) / 1000000000) q.p q.v q.a
  | none =>
    match d.cur with
    | some g =>
      let h : Rat := ((t - g.start : Nat) : Rat) / 1000000000
      let v := ratOf g.v0.toNat
      let a := ratOf g.a0.toNat
      let j := ratOf g.j.toNat
      ((g.p0 : Rat) / 65536 + v * h + a * h * h / 2 + j * h * h * h / 6, v + a * h + j * h * h / 2, a + j * h)
    | none => (d.pos, 0, 0)

/-- Full scale of the coil sense in A (R257). -/
def iFs (s : State) (x : Nat) : Rat := 200 / (param s pAxisRsense x : Rat)
/-- The run current in A, reduced in stall homing (R265). -/
def iRun (s : State) (x : Nat) : Rat :=
  let r := paramRat s pAxisIRun x
  if (axis s x).homing = 7 then r * paramRat s pAxisIStall x / 100 else r
/-- The hold current in A. -/
def iHold (s : State) (x : Nat) : Rat := paramRat s pAxisIRun x * paramRat s pAxisIHold x / 100

/-- The current magnitude in force: a ramp's value, or the run or hold current (R265, R266). -/
def magNow (s : State) (x : Nat) : Rat :=
  let d := axis s x
  match d.ramp with
  | some (a, b, t0, n) => if t0 + n ≤ s.t0 then b else a + (b - a) * ((s.t0 - t0 : Nat) : Rat) / (n : Rat)
  | none => if d.drv = 2 then iRun s x else if d.drv = 3 then iHold s x else d.cur_

/-- The coil targets in codes of I_FS / 1,024 (R258). -/
def coilTargets (s : State) (x : Nat) : Int × Int :=
  let d := axis s x
  let i := magNow s x / iFs s x * 1024
  let code (r : Rat) : Int := if r < 0 then -(nearOf (-r)) else nearOf r
  (code (i * cosPhi d.phi), code (i * sinPhi d.phi))

/-- Bits of AX facet 6 (R243). -/
def limBits (s : State) (x : Nat) : Nat :=
  let d := axis s x
  let b (v : Bool) (k : Nat) : Nat := if v then 2 ^ k else 0
  let far (ch : Nat) : Bool := decide (ch < 512) && decide (ch / 128 ≠ x / 8)
  b d.neg.active 0 + b d.plus.active 1 + b d.home.active 2 + b d.neg.latched 3 + b d.plus.latched 4 +
    b (d.neg.chatter || d.plus.chatter) 5 + b (far (param s pAxisLimNegCh x) || far (param s pAxisLimPosCh x)) 6

/-- The word of AX facet 3 (R264). -/
def axWord (d : AxSt) : Nat :=
  let chop := if d.drv = 0 ∨ d.drv = 5 then 0 else d.chop
  d.drv + 16 * chop + 64 * chop + d.flags + (if d.keepRestored then 2 ^ 14 else 0)

/-- Give an axis's facets their field values; facet 1 is the encoder's count in microsteps where there is one (R253). -/
def axFacets (s : State) (x : Nat) : State :=
  let d := axis s x
  let p0 := d.pos + d.offset
  let e := param s pAxisEnc x
  let p1 := if e < 16 then gridOf ((sval32 (fieldOf s (ptid 7 (e * 16))).toNat : Rat) * paramRat s pAxisEncRatio x) + d.offset else p0
  let s := putField s (axPt x 0) (w32 p0)
  let s := putField s (axPt x 1) (w32 p1)
  let s := putField s (axPt x 2) (bv 32 (f32OfRat d.vel))
  let s := putField s (axPt x 3) (bv 32 (axWord d))
  let s := putField s (axPt x 6) (bv 32 (limBits s x))
  putField s (axPt x 7) (bv 32 d.homeSt)

/-- Change an axis and refresh its facets. -/
def modAxis (s : State) (x : Nat) (f : AxSt → AxSt) : State := axFacets (setAxis s x f) x

/-! ### Keep records (R254) -/

/-- The 16 bytes of an axis keep record. -/
def keepBytes (s : State) (x : Nat) : List Byte :=
  let d := axis s x
  let b (v : Bool) (k : Nat) : Nat := if v then 2 ^ k else 0
  leBytes 4 (w32 (d.pos + d.offset)).toNat ++ leBytes 2 d.phi ++
    leBytes 1 (b d.referenced 0 + b d.atRest 1 + b (d.drv ≠ 0 ∧ d.drv ≠ 5) 2 + b (!d.atRest) 3) ++
    leBytes 1 (param s pAxisUstep x) ++ leBytes 4 (w32 d.offset).toNat ++ leBytes 4 d.refGen

/-- Where an axis's keep record lies (R366). -/
def keepAt (x : Nat) : Nat := 0x3A00 + 16 * x

/-- Commit an axis's keep record through the journal. -/
def keepCommit (s : State) (x : Nat) : State := journalPut s false [(keepAt x, keepBytes s x)]

/-! ### Driver -/

/-- Energise from I = 0 at the present phase (R266); an enabled axis that has power keeps it. -/
def energise (s : State) (x : Nat) : State :=
  if (axis s x).drv = 0 ∨ (axis s x).drv = 5 then
    modAxis s x (fun d => { d with
      drv := 1, flags := 0, cur_ := 0, ramp := some (0, iHold s x, s.t0, param s pAxisOnRamp x * ms)
      chop := if param s pAxisChopMode x = 2 then 2 else 1, pa := {}, pb := {} })
  else s

/-- Leave power in a controlled way (R266). -/
def deEnergise (s : State) (x : Nat) : State :=
  let d := axis s x
  if d.drv = 0 ∨ d.drv = 4 ∨ d.drv = 5 then s
  else modAxis s x (fun d => { d with drv := 4, ramp := some (magNow s x, 0, s.t0, param s pAxisOffRamp x * ms) })

/-- The bridges go off: reference lost unless KEEP_MODE is DETENT (R267, R268); the keep record is committed. -/
def driverOff (s : State) (x : Nat) : State :=
  keepCommit (modAxis s x (fun d => { d with
    drv := 0, ramp := none, cur_ := 0, pa := {}, pb := {}, referenced := d.referenced && decide (param s pAxisKeepMode x = 1) })) x

/-- The axis is at rest: hold delay begins or the driver goes off; the record is committed (R254, R265, R266); an AUTO axis returns to FIXED_OFF (R262). -/
def axisRest (s : State) (x : Nat) (after : Nat) : State :=
  let d := axis s x
  let back := d.chop = 2 ∧ param s pAxisChopMode x = 0
  let s := modAxis s x (fun d => { d with
    atRest := true, restAt := s.t0, vel := 0, slowSince := none, chop := if back then 1 else d.chop
    pa := if back then { d.pa with theta := 0, overN := 0 } else d.pa, pb := if back then { d.pb with theta := 0, overN := 0 } else d.pb })
  let s := if back then note s Ev.chopFallback (0x60 + x / 8) x 0 [0, d.phi] else s
  let s := keepCommit s x
  if after = 1 then deEnergise s x else s

/-! ### Stops at the tile (R236, R237, R247) -/

/-- Begin a tile stop from the present state: the buffer goes, and no segment is accepted until a RESYNC. A stop in progress yields only to HARD (R247). -/
def tileStop (s : State) (x : Nat) (hard : Bool) (after : Nat) (A J : Rat) : State :=
  let d := axis s x
  if d.drv = 5 then s
  else match d.stop with
  | some q =>
    if hard && !q.hard then hardNow s x after else modAxis s x (fun d => { d with locked := true })
  | none =>
    if hard then hardNow s x after
    else
      let (p, v, a) := d.at_ s.t0
      let sg : Rat := if v < 0 ∨ (v = 0 ∧ a < 0) then -1 else 1
      modAxis s x (fun d => { d with
        buf := [], cur := none, locked := true, atRest := false
        stop := some ⟨s.t0, p, v, a, sg, stopFrom v a A J, false, after⟩ })
where
  /-- Microsteps cease at once; above V_START the reference is lost (R236). -/
  hardNow (s : State) (x : Nat) (after : Nat) : State :=
    let d := axis s x
    let (_, v, _) := d.at_ s.t0
    let v' := if v < 0 then -v else v
    let lost := decide (paramRat s pAxisVStart x < v')
    let s := modAxis s x (fun d => { d with
      buf := [], cur := none, locked := true, atRest := false, vel := 0, referenced := d.referenced && !lost
      stop := some ⟨s.t0, d.pos, 0, 0, 1, [], true, after⟩ })
    note s Ev.axisHardStop (0x60 + x / 8) x 0 [f32OfRat v]

/-- Stop with the stored tail (R237). -/
def tailStop (s : State) (x : Nat) : State :=
  let d := axis s x
  tileStop s x d.stopHard d.after (ratOf d.stopA.toNat) (ratOf d.stopJ.toNat)

/-- Stop with the axis's own stop parameters (R245, R247). -/
def paramStop (s : State) (x : Nat) (hard : Bool) (after : Nat) : State :=
  tileStop s x hard after (paramRat s pAxisStopAmax x) (paramRat s pAxisStopJmax x)

/-! ### Limit and home inputs (R243-R246, R249) -/

/-- Limit input `pos` of an axis: 0 negative, 1 positive, 2 home. -/
def limOf (d : AxSt) (k : Nat) : LimSt := if k = 0 then d.neg else if k = 1 then d.plus else d.home
/-- Change a limit input. -/
def setLim (s : State) (x k : Nat) (f : LimSt → LimSt) : State :=
  modAxis s x (fun d => if k = 0 then { d with neg := f d.neg } else if k = 1 then { d with plus := f d.plus } else { d with home := f d.home })

/-- The inputs of axes that a channel serves: axis, input. -/
def axisInputs (s : State) (ch : Nat) : List (Nat × Nat) :=
  (List.range 32).flatMap (fun x =>
    (if param s pAxisLimNegCh x = ch then [(x, 0)] else []) ++ (if param s pAxisLimPosCh x = ch then [(x, 1)] else []) ++
    (if param s pAxisHomeCh x = ch then [(x, 2)] else []))

/-- A raw edge of a channel: the axes that home on it remember the executed position (R249). -/
def axisRawEdge (s : State) (ch : Nat) : State :=
  (axisInputs s ch).foldl (fun s e => setAxis s e.1 (fun d => { d with rawE := d.pos })) s

/-- The filtered state of a channel has changed (R243, R246, R249), or its supply or wire has: a limit on a bad channel is active whatever its polarity (R276). -/
def axisFiltered (s : State) (ch : Nat) (level bad : Bool) : State :=
  (axisInputs s ch).foldl (fun s e =>
    let act := (level != (param s pAxisInPolarity e.1).testBit e.2) || (bad && decide (e.2 ≠ 2))
    if act = (limOf (axis s e.1) e.2).active then s else
    let s := setAxis s e.1 (fun d => if act then d else { d with leaveE := d.rawE })
    let ts := ((limOf (axis s e.1) e.2).trans ++ [s.t0]).filter (fun t => decide (s.t0 < t + 100 * ms))
    let chat := decide (e.2 ≠ 2) && decide (8 < ts.length) && !(limOf (axis s e.1) e.2).chatter
    let s := setLim s e.1 e.2 (fun l => { l with active := act, since := s.t0, trans := ts, chatter := l.chatter || chat })
    if chat then note s Ev.limitChatter (0x60 + e.1 / 8) e.1 0 [e.2, 1] else s) s

/-- Restore axes from their keep records, at a restart that lost tile power: phase, and a record of another USTEP is discarded (R254, R266). -/
def keepLoad (s : State) (x : Nat) : State :=
  let b := mreads s.pocket.mem (keepAt x) 16
  let fl := fld b 6 1
  if fl = 0 then s
  else if fld b 7 1 ≠ param s pAxisUstep x then note s Ev.keepDiscarded 0x50 x 0 []
  else if fl.testBit 1 then setAxis s x (fun d => { d with phi := fld b 4 2 % 1024, fromKeep := true }) else s

/-- Whether method 8 may restore the reference (R267, R268). -/
def keepGood (s : State) (x : Nat) : Bool :=
  let b := mreads s.pocket.mem (keepAt x) 16
  let fl := fld b 6 1
  decide (param s pAxisKeepMode x = 1) && fl.testBit 1 && !fl.testBit 3 && fl.testBit 0 && fld b 7 1 == param s pAxisUstep x && (axis s x).fromKeep

end Sys2Proof.Machine
end

