-- ==== Sys2Proof/Machine/LoopOps.lean ====
section
/-! DEFINITION. The control laws of the ROM library and the frame around them (R168-R189, R195, R197), in Q31 with truncated Q31 x Q15 products. -/

namespace Sys2Proof.Machine

/-- A loop's record. -/
def loop (s : State) (i : Nat) : LoopSt := tget {} s.loops i
/-- Change it. -/
def setLoop (s : State) (i : Nat) (f : LoopSt → LoopSt) : State := { s with loops := tmod {} s.loops i f }
/-- A loop's period in ns. -/
def loopNs (s : State) (i : Nat) : Nat := param s pLoopPeriod i * us
/-- A loop's period in s. -/
def loopTs (s : State) (i : Nat) : Rat := (param s pLoopPeriod i : Rat) / 1000000

/-- A coefficient as mantissa and exponent (R171). -/
def coefOf (r : Rat) : Int × Int :=
  let mag := if r < 0 then -r else r
  let sg : Int := if r < 0 then -1 else 1
  if mag < 1 / (2 ^ 30 : Nat) then (0, 0)
  else if mag < 1 / (2 ^ 16 : Nat) then (sg * nearOf (mag * (2 ^ 30 : Nat)), -15)
  else
    let e := ((List.range 31).find? (fun k => decide (mag < ((2 ^ k : Nat) : Rat) / (2 ^ 15 : Nat)))).getD 30
    let sh : Int := (e : Int) - 15
    let m := nearOf (mag * (2 ^ 30 : Nat) / ((2 ^ e : Nat) : Rat))
    if m = 32768 then (sg * 16384, sh + 1) else (sg * m, sh)

/-- A coefficient times a Q31 signal, truncated towards minus infinity (R171). -/
def term (c : Int × Int) (x : Int) : Int :=
  let q := c.1 * x / 32768
  if c.2 ≥ 0 then q * 2 ^ c.2.toNat else q / 2 ^ (-c.2).toNat

/-- The product of a real gain and a Q31 signal. -/
def gain (r : Rat) (x : Int) : Int := term (coefOf r) x

/-- An engineering value normalised to a span, in Q31 (R170). -/
def norm (v lo hi : Rat) : Int := gridOf ((v - lo) / (hi - lo) * (2 ^ 31 : Nat))

/-- An output parameter normalised to the output span, clamped to Q31 (R173). -/
def normOut (s : State) (i : Nat) (v : Rat) : Int :=
  clamp31 (norm v (paramRat s pLoopOutLo i) (paramRat s pLoopOutHi i))

/-- A Q31 output in engineering units (R170). -/
def engOut (s : State) (i : Nat) (u : Int) : Word :=
  let lo := paramRat s pLoopOutLo i
  bv 32 (f32OfRat (lo + (u : Rat) / (2 ^ 31 : Nat) * (paramRat s pLoopOutHi i - lo)))

/-- The bits of the loop state that `set` names are replaced by `on` (R174). -/
def putFlag (f bit : Nat) (on : Bool) : Nat := if on then Nat.lor f (2 ^ bit) else if f.testBit bit then f - 2 ^ bit else f

/-- Usability classes of R168: always, never, or HELD. -/
def qAlways (q : Nat) : Bool := q == 0 || q == 10 || q == 7 || q == 8
/-- Whether an input is usable: HELD until its held time has expired. -/
def usable (q : Nat) (expired : Bool) : Bool := qAlways q || (q == 1 && !expired)

/-- LEADLAG's coefficients beta0, beta1, alpha1 (R178). -/
def leadCoefs (K T1 T2 Ts : Rat) : Rat × Rat × Rat :=
  (K * (2 * T1 + Ts) / (2 * T2 + Ts), K * (Ts - 2 * T1) / (2 * T2 + Ts), (Ts - 2 * T2) / (2 * T2 + Ts))

/-- One sample of LEADLAG (R178). -/
def leadLag (K T1 T2 Ts : Rat) (x x1 u1 : Int) : Int :=
  let c := leadCoefs K T1 T2 Ts
  clamp31 (-gain c.2.2 u1 + gain c.1 x + gain c.2.1 x1)

/-- One filter slot: output and new history; kind 0 passes (R178, R179). `rest` loads the history as at rest on the input (R184). -/
def filt (s : State) (i kind ka kb kc : Nat) (x : Int) (h : FiltSt) (rest : Bool) : Int × FiltSt :=
  let Ts := loopTs s i
  match kind with
  | 1 =>
    let K := paramRat s ka i
    let u0 := gain K x
    let h := if rest then { h with x1 := x, u1 := u0 } else h
    let u := leadLag K (paramRat s kb i) (paramRat s kc i) Ts x h.x1 h.u1
    (u, { h with x1 := x, u1 := u })
  | 2 =>
    let c (k : Nat) := Config.notchCoef (param s ka i) (param s kb i) (param s kc i) (loopNs s i) k
    let h := if rest then { x1 := x, x2 := x, u1 := x, u2 := x } else h
    let u := clamp31 (term (c 0) x + term (c 1) h.x1 + term (c 2) h.x2 - term (c 3) h.u1 - term (c 4) h.u2)
    (u, { x1 := x, x2 := h.x1, u1 := u, u2 := h.u1 })
  | _ => (x, h)

/-- Limits and rate limit (R173): the realised output and the three flags OUT_HI, OUT_LO, RATE_LIM. -/
def limitOut (s : State) (i : Nat) (v uPrev : Int) : Int × Bool × Bool × Bool :=
  let lo := normOut s i (paramRat s pLoopOutMin i)
  let hi := normOut s i (paramRat s pLoopOutMax i)
  let w := max lo (min hi v)
  let rate := paramRat s pLoopOutRate i
  let span := paramRat s pLoopOutHi i - paramRat s pLoopOutLo i
  let step := gridOf (rate * loopTs s i / span * (2 ^ 31 : Nat))
  if rate = 0 then (w, decide (hi < v), decide (v < lo), false)
  else
    let u := max (uPrev - step) (min (uPrev + step) w)
    (u, decide (hi < v), decide (v < lo), u != w)

/-- The feed-forward term in Q31 of the output span (R181). -/
def ffTerm (s : State) (i : Nat) (z zPrev : Word) : Int :=
  let zr := ratOf z.toNat
  let f := paramRat s pLoopFfKf i * (zr - paramRat s pLoopFfZ0 i) + paramRat s pLoopFfKd i * (zr - ratOf zPrev.toNat) / loopTs s i
  clamp31 (gridOf (f / (paramRat s pLoopOutHi i - paramRat s pLoopOutLo i) * (2 ^ 31 : Nat)))

/-- The loop whose facet 2 a source names. -/
def sourceLoop (p : Nat) : Option Nat := if ptRegion p = 6 ∧ ptIndex p % 256 = 2 then some (ptIndex p / 256) else none

/-- The inner loop of a cascade: one whose SP_SRC names this loop's facet 2 (R186). -/
def innerOf (s : State) (i : Nat) : Option Nat :=
  (s.loops.find? (fun e => e.2.present && sourceLoop (param s pLoopSpSrc e.1) == some i)).map (·.1)

/-- What a main law answers: its output before the bias, and the loop with its new law state (integrators move after the limits). -/
structure LawOut where
  v : Int
  d : LoopSt
  k : Int
  kt : Rat
  deriving DecidableEq, Repr

/-- The payload of the law image that a loop names, as its engine has loaded it. -/
def lawImage (s : State) (i : Nat) : List Byte := tget [] (tget {} s.loopEng (i / 64)).laws (param s pLoopLawImage i)

/-- The order n of an SS8 law image's payload (R180, R221). -/
def ss8Order (b : List Byte) : Nat := fld b 0x20 1

/-- Row `k` of a matrix of an SS8 image, 0 A, 1 B, 2 C, 3 D: Q15 mantissas and then the row's exponent, A, B, C and D one after the other (R180, R221; DEDUCED, log 14). -/
def ss8Row (b : List Byte) (m k : Nat) : List Int × Int :=
  let n := ss8Order b
  let w := if m % 2 = 0 then n else 3
  let first := match m with | 0 => 0 | 1 => n * (n + 1) | 2 => n * (n + 5) | _ => n * (n + 5) + n + 1
  let p := b.drop (0x20 + Config.ss8Head + 2 * (first + k * (w + 1)))
  let half (j : Nat) : Int := (bv 16 (fld p (2 * j) 2)).toInt
  ((List.range w).map half, half w)

/-- The SS8 row: sum of products of a row's mantissas with signals (R180). -/
def rowSum (r : List Int × Int) (x : List Int) : Int := ((r.1.zip x).map (fun e => term (e.1, r.2) e.2)).foldl (· + ·) 0

/-- One main law at a release (R175-R181): r, y, e normalised, f the feed-forward term, uPrev the realised output before. -/
def mainLaw (s : State) (i : Nat) (d : LoopSt) (r y e f uPrev lawOut : Int) (restart : Bool) : LawOut :=
  let Ts := loopTs s i
  let rev := param s pLoopAction i = 1
  let sg : Int := if rev then -1 else 1
  match param s pLoopLaw i with
  | 1 | 2 =>
    let Kp := paramRat s pLoopKp i
    let Ti := paramRat s pLoopTi i
    let Td := paramRat s pLoopTd i
    let N := paramRat s pLoopN i
    let Tt := if paramRat s pLoopTt i = 0 then Ti else paramRat s pLoopTt i
    let pTerm := gain Kp (clamp31 (sg * (gain (paramRat s pLoopB i) r - y)))
    let w := clamp31 (sg * (gain (paramRat s pLoopC i) r - y))
    let dw := if restart then 0 else clamp31 (w - d.wPrev)
    let dt := if Td = 0 then 0 else clamp31 (gain (Td / (Td + N * Ts)) (if restart then 0 else d.dterm) + gain (Kp * Td * N / (Td + N * Ts)) dw)
    let ki := if Ti = 0 then 0 else gain (Kp * Ts / Ti) e
    { v := pTerm + d.integ + dt + f, d := { d with dterm := dt, wPrev := w }, k := ki, kt := if Ti = 0 ∨ Tt = 0 then 0 else Ts / Tt }
  | 3 =>
    let x := match param s pLoopLlIn i with | 0 => e | 1 => y | _ => r
    let K := paramRat s pLoopLlK i
    let x1 := if restart then x else d.xPrev
    let u1 := if restart then gain K x else d.lawPrev
    let v := leadLag K (paramRat s pLoopLlT1 i) (paramRat s pLoopLlT2 i) Ts x x1 u1
    { v := v + f, d := { d with xPrev := x, lawPrev := v }, k := 0, kt := 0 }
  | 4 =>
    let b := lawImage s i
    let n := ss8Order b
    let x := (d.ss ++ List.replicate n 0).take n
    let w := [r, y, uPrev]
    let x' := (List.range n).map (fun k => clamp31 (rowSum (ss8Row b 0 k) x + rowSum (ss8Row b 1 k) w))
    { v := rowSum (ss8Row b 2 0) x + rowSum (ss8Row b 3 0) w + f, d := { d with ss := x' }, k := 0, kt := 0 }
  | 5 => { v := f, d := d, k := 0, kt := 0 }
  | 6 => { v := lawOut, d := d, k := 0, kt := 0 }
  | _ => { v := d.u, d := d, k := 0, kt := 0 }

/-- Whether the main law has an integrator (R184). -/
def hasInteg (law : Nat) : Bool := law == 1 || law == 2

/-- The integrator step of PID2 and CAS after the limits (R176, R177), with the blocking of R182; the flag says a step was blocked. -/
def integStep (s : State) (i : Nat) (l : LawOut) (v u : Int) : Int × Bool :=
  match param s pLoopLaw i with
  | 1 => (clamp31 (l.d.integ + l.k + gain l.kt (clamp31 (u - v))), false)
  | 2 =>
    match innerOf s i with
    | none => (clamp31 (l.d.integ + l.k + gain l.kt (clamp31 (u - v))), false)
    | some j =>
      let used := ratOf (pget s (ptid 6 (i * 256 + 2))).value.toNat
      let used := max (paramRat s pLoopSpMin j) (min (paramRat s pLoopSpMax j) used)
      let step := l.k + gain l.kt (clamp31 (normOut s i used - v))
      let inner := loop s j
      let dir : Int := if param s pLoopAction j = 1 then -1 else 1
      let blocked := (inner.flags.testBit 8 && decide (0 < step * dir)) || (inner.flags.testBit 9 && decide (step * dir < 0))
      if blocked then (l.d.integ, true) else (clamp31 (l.d.integ + step), false)
  | _ => (l.d.integ, false)

/-- A process value beyond the tune's limit (R192 EXCURSION). -/
def excursion (s : State) (i : Nat) (x : TuneSt) : Bool :=
  let d := loop s i
  let y := clamp31 (norm (ratOf d.pv.v.toNat) (paramRat s pLoopPvLo i) (paramRat s pLoopPvHi i))
  decide (gridOf (paramRat s pLoopTuneLimit i / 100 * (2 ^ 31 : Nat)) < (y - x.r0).natAbs)

/-- Publish a loop's facets with an effective T0 (R43, R164). -/
def loopPoints (s : State) (i t : Nat) (spW : Word) (e f : Word) (outCond pvCond : BitVec 16) : State :=
  let d := loop s i
  let p (k : Nat) := ptid 6 (i * 256 + k)
  let tp := match d.tune with | some x => x.phase | none => 0
  updates s t [(p 0, d.pv.v, pvCond), (p 1, spW, 0), (p 2, engOut s i d.u, outCond), (p 3, e, 0),
    (p 4, bv 32 (d.st + 16 * tp + d.flags), 0), (p 5, bv 32 d.sticky, 0), (p 6, f, 0), (p 7, d.target, 0)]

/-- Publish the loop state alone (R167). -/
def loopStatePoint (s : State) (i t : Nat) : State :=
  let d := loop s i
  let tp := match d.tune with | some x => x.phase | none => 0
  update s t (ptid 6 (i * 256 + 4)) (bv 32 (d.st + 16 * tp + d.flags))

/-- Abort a running set-point profile (R189). -/
def abortProfile (s : State) (i : Nat) : State :=
  match (loop s i).plan with
  | none => s
  | some _ =>
    let s := setLoop s i (fun d => { d with plan := none, flags := putFlag (putFlag d.flags 18 false) 19 true })
    note s Ev.loopProfileAbort (0x20 + i / 64) i 0 [(loop s i).target.toNat, (loop s i).spEff.toNat]

/-- Abort a tune (R192): the output returns to its value at acceptance and the disable action follows, until LOOP.ENABLE or LOOP.MODE is set or M7 is left (DEDUCED, log 134); the abort is recorded and answers 0x0408 with its reason. -/
def abortTune (s : State) (i reason : Nat) : State :=
  match (loop s i).tune with
  | some t =>
    if t.phase = 4 ∨ t.phase = 5 then s
    else
      let s := setLoop s i (fun d => { d with tune := some { t with phase := 5 }, tuneOff := 1, u := t.u0, st := 1 + param s pLoopDisableAction i })
      let s := note s Ev.loopTuneAbort (0x20 + i / 64) i 0 [reason]
      finish s { mb := ⟨t.mb % 8, Nat.mod_lt _ (by decide)⟩, tag := bv 5 t.tag } 0x0311 true 0x0408 [bv 8 reason]
  | none => s

/-- Whether and how a loop runs in the mode (R68, R197): 0 stopped, 1 computing, 2 disable action. -/
def loopRuns (s : State) (i : Nat) : Nat :=
  if !(loop s i).present then 0
  else if !flag s pLoopEnable i then 2
  else match effMode s with
    | .run | .hold | .resume | .maint | .standby => 1
    | .idle => if flag s pLoopRunInIdle i then 1 else 2
    | .safe => 2
    | _ => 0

end Sys2Proof.Machine
end

