-- ==== Sys2Proof/Machine/ParamOps.lean ====
section
/-! DEFINITION. Parameter values, their checks and when an accepted SET takes effect (R84, R85, R90-R93, R557, R558). -/

namespace Sys2Proof.Machine

/-- A value in the order its bounds are given in: signed for INT8 and INT32, the order key for FLOAT32. -/
def pord (ty : PTy) (v : Nat) : Int :=
  match ty with
  | .i8 => (bv 8 v).toInt
  | .i32 => (bv 32 v).toInt
  | .f32 => fkey (v % 2 ^ 32)
  | _ => v

/-- Bytes of the value field a type uses (R557). -/
def ptyBytes (ty : PTy) : Nat := match ty with | .bool | .u8 | .i8 => 1 | .u16 => 2 | _ => 4

/-- The status of a value's encoding (R557): unused bytes 0, no NaN and no infinity. A BOOL above 1 lies outside its range (R558 step 5). -/
def encStatus (ty : PTy) (v : Nat) : Nat :=
  if 2 ^ (8 * ptyBytes ty) ≤ v then 0x010E
  else match ty with
  | .f32 => if v / 2 ^ 23 % 256 = 255 then 0x0105 else 0
  | _ => 0

/-- Whether a value lies in its own range (the parameter tables). -/
def inOwnRange (d : ParamDesc) (v : Nat) : Bool :=
  let x := pord d.ty v
  let mag := if d.ty = .f32 then pord d.ty (v % 2 ^ 31) else if x < 0 then -x else x
  (decide (d.lo ≤ x ∧ x ≤ d.hi) && (d.step == 0 || v % d.step == 0)) || (d.sym && decide (d.lo ≤ mag ∧ mag ≤ d.hi)) || d.alts.contains x

/-- Whether a relation to another parameter holds. -/
def relOk (r : PRel) (x y : Int) : Bool :=
  match r with | .lt => decide (x < y) | .le => decide (x ≤ y) | .gt => decide (y < x) | .ge => decide (y ≤ x)

/-- Ranges that a table states by formula (R256, R270, R434, R490, R560). -/
def inSpecialRange (s : State) (code inst v : Nat) : Bool :=
  if code = pAxisIRun then decide (ratOf v ≤ iFs s inst * 95 / 100)
  else if code = pChLoadMa then decide (v ≤ 250) || (decide (v ≤ 500) && param s pChMode inst == 4 && inst % 2 == 0)
  else if code = pAoDefault then (let (lo, hi) := aoRange (param s pAoMode inst); param s pAoMode inst == 0 || (decide (lo ≤ ratOf v) && decide (ratOf v ≤ hi)))
  else if code = pProfCam then
    (s.deck.loaded.any (fun e => e.1 == 6 * 65536 + v)) || !s.deck.inUse
  else if code = pCanSlotTtOffset then decide (v < param s pCanTtCycle (inst / 32))
  else true

/-- The state with a value tried for a parameter, as base and in the current mode's Shingle; a value that follows it by default follows (R163). -/
def trial (s : State) (code inst v : Nat) : State :=
  let x (sc : Nat) : SetPend := { due := s.t0, key := pkey sc (pid code inst), value := bv 64 v }
  { s with params := { s.params with live := s.params.live ++ [x 0, x (s.mode.cur.num + 1)] } }

/-- Whether every pair of parameters of a class in an instance that the trial `t` of kind `code` changes is consistent (R558 step 5). -/
def pairsOk (s t : State) (code inst : Nat) : Bool :=
  let touched (k : Nat) : Bool := k == code || param t k inst != param s k inst
  paramTable.all (fun l => l.all (fun d => d.code / 4096 != code / 4096 || d.deps.all (fun e =>
    !(touched d.code || touched e.2) || relOk e.1 (pord d.ty (param t d.code inst)) (pord d.ty (param t e.2 inst)))))

/-- A loop's bridge band lies within its output span (R163), also when a SET moves either. -/
def bandOk (t : State) (code i : Nat) : Bool :=
  !(([pLoopBrBand, pLoopOutLo, pLoopOutHi] : List Nat).contains code) ||
    decide (paramRat t pLoopBrBand i ≤ paramRat t pLoopOutHi i - paramRat t pLoopOutLo i)

/-- Whether a binary32 parameter lies in a closed range. -/
def within (s : State) (code i : Nat) (lo hi : Rat) : Bool := decide (lo ≤ paramRat s code i ∧ paramRat s code i ≤ hi)

/-- A filter slot's values lie in the ranges of its kind (R178, R179). -/
def slotOk (t : State) (i k a b c : Nat) : Bool :=
  match param t k i with
  | 1 => within t a i 0 1000 && within t b i 0 10000 && within t c i 0 10000
  | 2 => decide (0 < paramRat t a i ∧ paramRat t a i < 45 / 100 / loopTs t i) && within t b i (1 / 10) 100 && within t c i 0 1
  | _ => true

/-- A SET or a Deck value of a filter slot, or of its kind, leaves the slot in its kind's ranges (R163, R179). -/
def filterOk (t : State) (code i : Nat) : Bool :=
  (!(([pLoopF1Kind, pLoopF1A, pLoopF1B, pLoopF1C] : List Nat).contains code) || slotOk t i pLoopF1Kind pLoopF1A pLoopF1B pLoopF1C) &&
    (!(([pLoopF2Kind, pLoopF2A, pLoopF2B, pLoopF2C] : List Nat).contains code) || slotOk t i pLoopF2Kind pLoopF2A pLoopF2B pLoopF2C)

/-- A coefficient below the magnitude 2^15 (R171). -/
def coefOk (r : Rat) : Bool := decide (r < 32768 ∧ -32768 < r)

/-- The coefficients of LEADLAG (R178) are below 2^15. -/
def leadOk (K T1 T2 Ts : Rat) : Bool := let c := leadCoefs K T1 T2 Ts; coefOk c.1 && coefOk c.2.1 && coefOk c.2.2

/-- No coefficient that a loop takes from its parameters has a magnitude of 2^15 or more (R171, R176-R178). -/
def coefsOk (t : State) (code i : Nat) : Bool :=
  let Ts := loopTs t i
  let v (k : Nat) := paramRat t k i
  code / 4096 != 5 ||
  ((match param t pLoopLaw i with
    | 1 | 2 =>
      let den := v pLoopTd + v pLoopN * Ts
      let Tt := if v pLoopTt = 0 then v pLoopTi else v pLoopTt
      coefOk (v pLoopKp) && (v pLoopTd == 0 || coefOk (v pLoopKp * v pLoopTd * v pLoopN / den)) &&
        (v pLoopTi == 0 || (coefOk (v pLoopKp * Ts / v pLoopTi) && coefOk (Ts / Tt)))
    | 3 => leadOk (v pLoopLlK) (v pLoopLlT1) (v pLoopLlT2) Ts
    | _ => true) &&
  (param t pLoopF1Kind i != 1 || leadOk (v pLoopF1A) (v pLoopF1B) (v pLoopF1C) Ts) &&
  (param t pLoopF2Kind i != 1 || leadOk (v pLoopF2A) (v pLoopF2B) (v pLoopF2C) Ts))

/-- Whether a value lies within its range, dependent ranges taken against the effective values, and leaves every pair it belongs to consistent (R558 step 5). -/
def inRange (s : State) (d : ParamDesc) (inst v : Nat) : Bool :=
  let t := trial s d.code inst v
  inOwnRange d v && pairsOk s t d.code inst && bandOk t d.code inst && filterOk t d.code inst && inSpecialRange s d.code inst v

/-- The kind's description for an ID whose class, kind and instance are defined (R559). -/
def descOf (id : Nat) : Option ParamDesc :=
  match paramDesc (id / 4096) with
  | some d => if d.first ≤ id % 4096 ∧ id % 4096 ≤ d.last then some d else none
  | none => none

/-- Whether an ID names a defined factory kind (R561). -/
def isFactory (id : Nat) : Bool := decide (0x800 ≤ id / 4096 % 4096) && Config.factoryKind (id / 4096)

/-- The deltas of a scope in the working Deck. -/
def scopeDeltas (s : State) (scope : Nat) : Tbl DWord := s.params.working.filter (fun e => e.1 / 2 ^ 32 == scope)

/-- Whether a Shingle scope admits a parameter (R85). -/
def shingleOk (s : State) (d : ParamDesc) (scope id : Nat) : Bool :=
  (d.cm == .live || d.cm == .mode) &&
    (if scope = 1 then s.params.keepList.contains id else if scope = 2 then s.params.bootList.contains id else true)

/-- The checks of a SET in order (R558), with a coefficient of R171 and a CASCADE request without a set-point source (R183) refused: 0 or the first failed check's status. -/
def setStatus (s : State) (scope id v : Nat) : Nat :=
  match descOf id with
  | none => if isFactory id then 0x0106 else 0x010F
  | some d =>
    if 12 < scope then 0x010E
    else if d.cm = .image ∨ (scope ≠ 0 ∧ !shingleOk s d scope id) then 0x0106
    else if encStatus d.ty v ≠ 0 then encStatus d.ty v
    else if !inRange s d (id % 4096) v ∨ !coefsOk (trial s d.code (id % 4096) v) d.code (id % 4096) then 0x0105
    else if d.code = pLoopMode ∧ v = 2 ∧ param s pLoopSpSrc (id % 4096) = 0 then 0x0107
    else if scope ≠ 0 ∧ (tfind s.params.working (pkey scope id)).isNone ∧
        ((if scope = 1 then 5 else 1024) ≤ (scopeDeltas s scope).length) then 0x0102
    else 0

/-- The first instant of a period and phase (µs) not earlier than `a` (ns). -/
def nextRel (a period phase : Nat) : Nat :=
  if period = 0 then a
  else
    let p := period * us
    let f := phase * us
    if a ≤ f then f - (f - a) / p * p else f + (a - f + p - 1) / p * p

/-- The owner's first release at or after an instant, or for an owner without a period the next sample strobe of its tile or port (R91). -/
def ownerNext (s : State) (code inst a : Nat) : Nat :=
  let taskNext (i : Nat) := nextRel a (param s pTaskPeriod i) (param s pTaskPhase i)
  match code / 4096 with
  | 3 => taskNext inst
  | 5 => nextRel a (param s pLoopPeriod inst) (param s pLoopPhase inst)
  | 14 => taskNext (param s pStreamTask inst)
  | 7 | 8 | 10 | 11 | 12 | 13 => nextRel a 100 0
  | 20 | 21 => nextRel a 1000 0
  | _ => a

/-- An accepted SET, or with `remove` an UNSET, of a parameter in a scope: the state and IN_EFFECT (R90-R93). -/
def applySet' (s : State) (scope id : Nat) (v : DWord) (remove : Bool) : State × Nat :=
  match descOf id with
  | none => (s, 0)
  | some d =>
    let key := pkey scope id
    let w := if remove then tdel s.params.working key else tset s.params.working key v
    let p := { s.params with working := w, unsaved := s.params.unsaved + 1 }
    let due := ownerNext s (id / 4096) (id % 4096) (s.t0 + 100 * us)
    let x : SetPend := { due := due, key := key, value := v, remove := remove }
    -- a task that becomes enabled sees FS in its next release (R135), also one that faults had stopped (R127)
    let s := if id / 4096 = pTaskEnable ∧ !remove ∧ v.toNat % 2 = 1 ∧ (!flag s pTaskEnable (id % 4096) ∨ (task s (id % 4096)).stopped) then
      setTask s (id % 4096) (fun d => { d with scan := true, stopped := false, faultRun := 0 }) else s
    -- a new ENABLE or MODE ends the disable action that an aborted tune left (DEDUCED, log 134)
    let s := if id / 4096 = pLoopEnable ∨ id / 4096 = pLoopMode then setLoop s (id % 4096) (fun d => { d with tuneOff := 0 }) else s
    let governs := scope = 0 ∨ scope = s.mode.cur.num + 1
    match d.cm with
    | .live =>
      if !governs then ({ s with params := p }, 0)
      else if s.mode.cur = .config then ({ s with params := { p with onMode := p.onMode ++ [x] } }, 0)
      else
        let s := if id / 4096 = pTaskEnable ∧ !remove ∧ (relOf s (id % 4096)).isNone then update s due (ptid 0x17 (id % 4096 * 16)) (v.zeroExtend 32 &&& 1) else s
        ({ s with params := { p with live := p.live ++ [x] } }, due)
    | .mode => ({ s with params := { p with onMode := p.onMode ++ [x] } }, 0)
    | _ => ({ s with params := { p with onRestart := p.onRestart ++ [x] } }, 0)

/-- A SET with its CONFIG_CHANGE record (R93, R544). -/
def doSet (s : State) (mb transport tag scope id : Nat) (v : DWord) (remove : Bool) : State × Nat :=
  let (o, ob) := govern s scope id
  let (s', e) := applySet' s scope id v remove
  let (n, nb) := govern s' scope id
  let b (x : Bool) (k : Nat) : Nat := if x then k else 0
  (note (forward s' 2 [scope, id, v.toNat, b remove 0, e]) Ev.configChange 0x48 mb id [scope, transport, tag, b ob 1 + b nb 2, o.toNat, n.toNat, e], e)

/-- Put one accepted value into force. -/
def putForce (f : Tbl DWord) (p : SetPend) : Tbl DWord := if p.remove then tdel f p.key else tset f p.key p.value

/-- Fold the LIVE SETs whose instant has come into the values in force. -/
def settleLive (s : State) (t : Nat) : State :=
  { s with params := { s.params with
      force := (s.params.live.filter (fun p => decide (p.due ≤ t))).foldl putForce s.params.force
      live := s.params.live.filter (fun p => decide (t < p.due)) } }

/-- Put into force what a mode entry brings (R72, R76, R91, R92): base SETs of mode MODE, and the entered mode's Shingle as it now stands; a LIVE SET that is not yet due stays out. -/
def enterForce (s : State) (m : Mode) (t : Nat) : State :=
  let s := settleLive s t
  let sc := m.num + 1
  let f := (s.params.onMode.filter (fun p => decide (p.key < 2 ^ 32))).foldl putForce s.params.force
  let waits (k : Nat) : Bool := s.params.live.any (fun p => p.key == k)
  let old := f.filter (fun e => e.1 / 2 ^ 32 != sc || waits e.1)
  let new := (scopeDeltas s sc).filter (fun e => !waits e.1)
  { s with params := { s.params with force := new.foldl (fun a e => tset a e.1 e.2) old, onMode := [] } }

end Sys2Proof.Machine
end

