-- ==== Sys2Proof/Machine/Image.lean ====
section
/-! DEFINITION. The process image: visibility, input windows, stations, forces and DERIVED points (R45-R67, R579). -/

namespace Sys2Proof.Machine

/-- The earliest pending update whose effective T0 has come, oldest first among equals. -/
def dueUpd (s : State) : Option Upd :=
  ((pendStore s).filter (fun u => decide (u.due ≤ s.t0))).foldl
    (fun b u => match b with | none => some u | some x => if u.due < x.due then some u else some x) none

/-- IMAGE_UPDATE_VISIBLE (R48, R51): the earliest pending update due becomes visible. -/
def execImageUpdateVisible (s : State) : Res :=
  match dueUpd s with
  | none => .next s
  | some u => .next (showUpd { s with img := { s.img with pend := s.img.pend.erase u } } u)

/-- WINDOW_COPY_COMPLETE (R52, R54, R100): the first prefetched release without a copy gets its window; the engine may start it or be preempted by it. -/
def execWindowCopyComplete (ce : Fin 16) (s : State) : Res :=
  let c := ce.val
  match ((engine s c).queue.take 2).find? (fun r => !r.copied) with
  | none => .next s
  | some r =>
    let w := windowAt s r.task r.due
    .next (dispatch (setEngine s c (fun e => { e with
      queue := e.queue.map (fun x => if x.task = r.task then { x with copied := true } else x)
      snap := tset e.snap r.task w })) c)

/-- WINDOW_WAIT_EXPIRY (R55): the copy uses the latest entries that have arrived and the release is marked WINDOW_LATE. -/
def execWindowWaitExpiry (ce : Fin 16) (s : State) : Res :=
  let c := ce.val
  match ((engine s c).queue.take 2).find? (fun r => !r.copied) with
  | none => .next s
  | some r =>
    if s.t0 < r.due + param s pTaskWindowWait r.task * us then .next s
    else .next (note (setEngine s c (fun e => { e with queue := e.queue.map (fun x => if x.task = r.task then { x with windowLate := true } else x) }))
      Ev.windowLate 0x42 r.task 0 [r.due])

/-- The region number of a CAN or ETH region operand. -/
def netRegion (r : Fin 11) : Nat := 8 + r.val

/-- STATION_INPUT_BLOCK (R58): the block's values wait for the next sample strobe of the node; SILENT goes ONLINE and LOST goes RETURNING. -/
def execStationInputBlock (region : Fin 11) (stn : BitVec 10) (blk : BitVec 6) (vals : List Word) (conds : BitVec 16) (s : State) : Res :=
  let k := stnKey (netRegion region) stn.toNat
  let d := station s k
  match d.blocks[blk.toNat]? with
  | none => .next s
  | some b =>
    if !b.input then .next s
    else
      let st := match d.st with | .silent => StnState.online | .lost => .returning | x => x
      let seen := if d.st = .lost then [blk.toNat] else if d.seen.contains blk.toNat then d.seen else d.seen ++ [blk.toNat]
      let s' := setStation s k (fun d => { d with st := st, lastBlock := s.t0, seen := seen })
      let new := (vals.take b.count).mapIdx (fun i v => (stnNode k, b.first + i, v, conds))
      let s' := { s' with img := { s'.img with arrived := s'.img.arrived ++ new } }
      .next (if st = d.st then s' else note s' Ev.stationState (nodeIsland (stnNode k)) k 0 [if st = .online then 1 else 2, 0, s.t0])

/-- STATION_SILENT (R58): without an input block for the silent time the inputs turn HELD. -/
def execStationSilent (region : Fin 11) (stn : BitVec 10) (s : State) : Res :=
  let k := stnKey (netRegion region) stn.toNat
  let d := station s k
  if d.st ≠ .online ∨ s.t0 < d.lastBlock + d.silentNs then .next s
  else
    let s' := setStation s k (fun d => { d with st := .silent })
    let s' := (stnPoints d true).foldl (fun s e => update s s.t0 e.1 (pget s e.1).source (condOf 1)) s'
    .next (note s' Ev.stationState (nodeIsland (stnNode k)) k 0 [3, 0, s.t0])

/-- STATION_LOST (R58): after the lost time without an input block, from SILENT or from RETURNING. -/
def execStationLost (region : Fin 11) (stn : BitVec 10) (s : State) : Res :=
  let k := stnKey (netRegion region) stn.toNat
  let d := station s k
  if d.st = .lost ∨ s.t0 < d.lastBlock + d.lostNs ∨ d.lostNs = 0 then .next s else .next (goLost s k)

/-- Begin or end one force or simulation: the entry takes its update at the force instant, and a begin or end on an output drives the pin directly (R579). -/
def forceStep (s : State) (f : ForcePend) : State :=
  let p := f.f.point
  let rest := s.img.forces.filter (fun x => !(x.point == p && x.sim == f.f.sim))
  let s := { s with img := { s.img with forces := if f.starts then rest ++ [f.f] else rest } }
  let pt := pget s p
  let s := showUpd s ⟨f.due, p, pt.source, pt.srcConds⟩
  let s := match stnOf p with
    | some _ => netApply s f.due f.due [p] true
    | none =>
      if ptRegion p = 1 ∧ ptIndex p % 16 = 1 then chRefresh s (ptIndex p / 16)
      else if ptRegion p = 3 ∧ ptIndex p % 16 = 0 then aoRefresh s (ptIndex p / 16) else s
  note (sysPoint (sysPoint s 5 (s.img.forces.filter (fun x => !x.sim)).length) 6 (s.img.forces.filter (fun x => x.sim)).length)
    (if f.starts then Ev.forceBegin else Ev.forceEnd) 0x00 0 p [f.f.value.toNat, f.due]

/-- FORCE_INSTANT (R579): the begins and ends whose instant has come take effect. -/
def execForceInstant (s : State) : Res :=
  let due := s.img.forcePend.filter (fun f => decide (f.due ≤ s.t0))
  .next (due.foldl forceStep { s with img := { s.img with forcePend := s.img.forcePend.filter (fun f => decide (s.t0 < f.due)) } })

/-- Fold binary32 values from the first, with an exact choice of the smaller or larger. -/
def fpick (big : Bool) (l : List Nat) : Nat :=
  match l with
  | [] => 0
  | x :: r => r.foldl (fun a b => if fisNan f32 a || fisNan f32 b then fnan f32 else if flt f32 b a != big then b else a) x

/-- The sum of binary32 values from left to right. -/
def fsum (l : List Nat) : Nat := match l with | [] => 0 | x :: r => r.foldl (fadd f32 false) x

/-- The value a DERIVED operator gives, as bits of the result, and whether it is a binary32 result (R65). -/
def derVal (op : DerOp) (l : List Point) (ty : Nat) : Nat × Bool :=
  let v := l.map asF32
  let x := v.headD 0
  let y := (v.drop 1).headD 0
  let b := l.map (fun p => p.value.getLsbD 0)
  let num (b : Bool) : Nat := if b then 1 else 0
  match op with
  | .sum => (fsum v, true)
  | .diff => (fsub f32 false x y, true)
  | .prod => (match v with | [] => 0 | a :: r => r.foldl (fmul f32 false) a, true)
  | .div => (if feq f32 y 0 then fnan f32 else fdiv f32 false x y, true)
  | .min => (fpick false v, true)
  | .max => (fpick true v, true)
  | .mean => (fdiv f32 false (fsum v) (fofInt f32 v.length), true)
  | .scale a b => (fadd f32 false (fmul f32 false a.toNat x) b.toNat, true)
  | .abs => (fabs f32 x, true)
  | .and => (num (b.all id), false)
  | .or => (num (b.any id), false)
  | .countTrue => ((b.filter id).length, false)
  | .selectGood =>
    let p := (l.find? (fun p => p.qual == 0)).getD (l.headD {})
    if ty = 4 then (asF32 p, true) else (p.value.toNat, false)

/-- The quality conditions of a DERIVED result: the operands', FORCED as SIMULATED; SELECT_GOOD takes its selected operand's (R66). -/
def derConds (op : DerOp) (l : List Point) : BitVec 16 :=
  let c (p : Point) : BitVec 16 := condOf (if p.qual = 7 then 8 else p.qual)
  match op with
  | .selectGood => if l.any (fun p => p.qual == 0) then 0 else l.foldl (fun a p => a ||| c p) 0
  | _ => l.foldl (fun a p => a ||| c p) 0

/-- DERIVED_RELEASE (R65, R66): evaluate at the release instant; the result becomes visible one period later; a division by zero, NaN or infinity keeps the value with BAD_RANGE. -/
def execDerivedRelease (n : Half) (s : State) : Res :=
  match tfind s.img.derived n.toNat with
  | none => .next s
  | some d =>
    if s.mode.cur = .keep ∨ s.mode.cur = .boot ∨ d.periodUs = 0 ∨ s.t0 % us ≠ 0 ∨
        ((s.t0 / us : Int) - d.phaseUs) % d.periodUs ≠ 0 then .next s
    else
      let p := ptid 0x1E n.toNat
      let l := d.args.map (pgetAt s s.t0)
      let (v, isF) := derVal d.op l (pget s p).ty
      if isF && !fisFin f32 v then
        .next (update s (s.t0 + d.periodUs * us) p (pgetAt s (s.t0 + d.periodUs * us) p).value (condOf 6))
      else .next (update s (s.t0 + d.periodUs * us) p (bv 32 v) (derConds d.op l))

end Sys2Proof.Machine
end

