-- ==== Sys2Proof/Machine/Streams.lean ====
section
/-! DEFINITION. Recipe streams: recipe images, the logic of one stream release, pauses, aborts, parks (R310-R324, R580). -/

namespace Sys2Proof.Machine

/-- The task of a stream. -/
def streamTask (s : State) (k : Nat) : Nat := param s pStreamTask k
/-- The stream's period in ns. -/
def streamPeriod (s : State) (k : Nat) : Nat := periodNs s (streamTask s k)

/-! ### Recipe images (R310-R312) -/

/-- A block of a recipe: kind, role, bytes (header included), offset in the block area. -/
structure RBlock where
  kind : Nat
  role : Nat
  off : Nat
  b : List Byte
  deriving DecidableEq, Repr

/-- `n` blocks from an offset of the block area. -/
def recBlocks (pl : List Byte) : Nat → Nat → List RBlock
  | 0, _ => []
  | n + 1, off =>
    let b := (pl.drop (fld pl 0x1C 4 + off)).take (4 * fld pl (fld pl 0x1C 4 + off + 1) 1)
    ⟨fld b 0 1, fld b 2 2, off, b⟩ :: recBlocks pl n (off + b.length)

/-- A step record's bytes (R311). -/
def recStep (pl : List Byte) (k : Nat) : List Byte := (pl.drop (fld pl 0x18 4 + 32 * k)).take 32
/-- The blocks of a step. -/
def stepBlocks (pl : List Byte) (k : Nat) : List RBlock := let r := recStep pl k; recBlocks pl (fld r 0x14 2) (fld r 0x10 4)
/-- The recipe's park block list. -/
def parkBlocks (pl : List Byte) : List RBlock := recBlocks pl (fld pl 0x28 2) (fld pl 0x24 4)
/-- The recipe-wide abort blocks. -/
def gabortBlocks (pl : List Byte) : List RBlock := recBlocks pl (fld pl 0x2A 2) (fld pl 0x2C 4)

/-- What SETPOINT and BOOLSET blocks write (R312). -/
def blockOuts (b : RBlock) : List OutVal :=
  match b.kind with
  | 1 => [⟨fld b.b 4 4, bv 32 (fld b.b 8 4), 0⟩]
  | 2 =>
    let n := fld b.b 9 1
    ((List.range n).filter (fun i => (fld b.b 12 4).testBit i)).map (fun i =>
      ⟨fld b.b 4 4 + i * fld b.b 8 1, if (fld b.b 16 4).testBit i then 1 else 0, 0⟩)
  | _ => []

/-- The PARK blocks of a stream (R580): the recipe's list, then the step's PARK-role blocks. -/
def parkOuts (d : StreamSt) : List OutVal :=
  (parkBlocks d.recipe ++ (stepBlocks d.recipe d.step).filter (fun b => b.role == 2)).flatMap blockOuts

/-- The points that a recipe's blocks write (R312, R313). -/
def recipePoints (pl : List Byte) : List Nat :=
  let bl := (List.range (fld pl 0x10 2)).flatMap (stepBlocks pl) ++ parkBlocks pl
  bl.flatMap (fun b =>
    match b.kind with
    | 1 | 2 => (blockOuts b).map (·.point)
    | 3 => [ptid 5 (fld b.b 4 1 * 256 + 2)] ++ (if ([1, 2, 3] : List Nat).contains (fld b.b 5 1) then [ptid 5 (fld b.b 4 1 * 256 + (if fld b.b 5 1 = 3 then 1 else 0))] else [])
    | 7 => (List.range (fld b.b 4 1)).map (fun e => fld b.b (12 + 8 * e) 4 % 2 ^ 31)
    | 8 => [fld b.b 4 4]
    | _ => [])

/-- Whether the stream's task meets the two checks of R313 that involve it. -/
def recipeFits (s : State) (k : Nat) (pl : List Byte) : Bool :=
  fld pl 0x14 4 * us == streamPeriod s k && (recipePoints pl).all (fun p => tfind s.img.writers p == some (streamTask s k))

/-! ### The checks of a recipe at its load (R310-R313) -/

/-- Whether `n` blocks from an offset lie in the block area, each of a kind of R312 with its length, and name counters and steps of their tables. -/
def blocksOk (pl : List Byte) : Nat → Nat → Bool
  | 0, _ => true
  | n + 1, off =>
    let b := (pl.drop (fld pl 0x1C 4 + off)).take (4 * fld pl (fld pl 0x1C 4 + off + 1) 1)
    let len := match fld b 0 1 with | 1 => 12 | 2 => 20 | 3 => 16 | 4 => 20 | 5 => 20 | 6 => 12 | 7 => 8 + 8 * fld b 4 1 | 8 => 20 | _ => 0
    off % 4 == 0 && decide (off + len ≤ fld pl 0x20 4) && decide (len ≠ 0) && b.length == len &&
      (fld b 0 1 != 6 || (decide (fld b 4 1 < fld pl 0x30 1) && decide (fld b 6 2 < fld pl 0x10 2) && decide (1 ≤ fld b 8 4))) &&
      (fld b 0 1 != 7 || decide (1 ≤ fld b 4 1 ∧ fld b 4 1 ≤ 16)) && (fld b 0 1 != 2 || decide (1 ≤ fld b 8 1 ∧ fld b 8 1 ≤ 16 ∧ 1 ≤ fld b 9 1 ∧ fld b 9 1 ≤ 32)) &&
      blocksOk pl n (off + len)

/-- Whether a recipe's header, steps, counters and block offsets lie inside their tables (R310, R311, R313). -/
def recipeShape (pl : List Byte) : Bool :=
  let n := fld pl 0x10 2
  let inStep (k : Nat) : Bool := decide (k < n)
  decide (1 ≤ n ∧ n ≤ 4096) && decide (250 ≤ fld pl 0x14 4 ∧ fld pl 0x14 4 ≤ 10000) && fld pl 0x14 4 % 250 == 0 && decide (fld pl 0x30 1 ≤ 8) &&
    (decide (fld pl 0x31 1 < 16) || fld pl 0x31 1 == 0xFF) && (inStep (fld pl 0x12 2) || fld pl 0x12 2 == 0xFFFF) &&
    fld pl 0x18 4 % 4 == 0 && decide (fld pl 0x18 4 + 32 * n ≤ pl.length) && fld pl 0x1C 4 % 4 == 0 && decide (fld pl 0x1C 4 + fld pl 0x20 4 ≤ pl.length) &&
    decide (fld pl 0x28 2 ≤ 64) && blocksOk pl (fld pl 0x28 2) (fld pl 0x24 4) && decide (fld pl 0x2A 2 ≤ 32) && blocksOk pl (fld pl 0x2A 2) (fld pl 0x2C 4) &&
    (List.range n).all (fun k =>
      let r := recStep pl k
      fld r 0 2 == k && decide (fld r 3 1 ≤ 3) && (inStep (fld r 0x0C 2) || fld r 0x0C 2 == 0xFFFF) &&
        (fld r 8 4 == 0 || inStep (fld r 0x0E 2) || fld r 0x0E 2 == 0xFFFE) && decide (fld r 0x14 2 ≤ 64) && blocksOk pl (fld r 0x14 2) (fld r 0x10 4) &&
        decide (fld r 0x16 1 ≤ 3 ∧ fld r 0x17 1 ≤ 3) && decide (((stepBlocks pl k).filter (fun b => b.kind == 6)).length ≤ 1))

/-- Whether every DURATION_US, TIMEOUT_US and OFFSET_US obeys its rule (R311, R312). -/
def recipeTimes (pl : List Byte) : Bool :=
  let P := max 1 (fld pl 0x14 4)
  (List.range (fld pl 0x10 2)).all (fun k =>
    let r := recStep pl k
    let D := fld r 4 4
    (if fld r 0x17 1 = 1 then D == 0 else D % P == 0 && decide (max 1000 P ≤ D)) && fld r 8 4 % P == 0 &&
      (stepBlocks pl k).all (fun b => b.kind != 7 || (List.range (fld b.b 4 1)).all (fun e => fld b.b (8 + 8 * e) 4 % P == 0 && decide (fld b.b (8 + 8 * e) 4 < D))))

/-! ### Publishing -/

/-- Publish a stream's facets (R324). -/
def streamPoints (s : State) (k : Nat) : State :=
  let d := stream s k
  let r := recStep d.recipe d.step
  let el := if d.handle = 0 then 0 else if d.st = 5 ∨ d.st = 9 then (op s (slotOf d.handle)).elapsed else (s.t0 + d.e0 - d.stepStart) / us
  let rem := if fld r 0x17 1 = 1 ∨ d.handle = 0 then 0 else fld r 4 4 - el
  let l := [d.st, d.slot, d.gen, d.step, d.handle, el, rem] ++ d.counters ++ [d.reason, d.stepStart / us + (2 ^ 32 - 1) * (d.e0 / us), d.entered, d.aborts, d.lates]
  updates s s.t0 (l.mapIdx (fun i v => (ptid 0x15 (k * 4096 + i), bv 32 v, 0)))

/-- Enter outputs into the running release of the stream's task, the later value replacing the earlier (R118, R314). -/
def streamOut (s : State) (c : Nat) (l : List OutVal) : State :=
  setEngine s c (fun e => { e with running := e.running.map (fun r =>
    { r with outs := l.foldl (fun a o => a.filter (fun x => x.point != o.point) ++ [o]) r.outs }) })

/-! ### Conditions (R316) -/

/-- Whether any user but a loop may use a quality (R168). -/
def usableHeld (q : Nat) : Bool := qAlways' q || q == 1
where
  /-- GOOD, SAT, FORCED and SIMULATED. -/
  qAlways' (q : Nat) : Bool := q == 0 || q == 10 || q == 7 || q == 8

/-- A block's comparison on a point (R312). -/
def blockCmp (b : RBlock) (p : Point) : Bool :=
  let x := asF32 p
  let th := fld b.b 12 4
  match fld b.b 8 1 with
  | 0 => flt f32 x th | 1 => fle f32 x th | 2 => flt f32 th x | 3 => fle f32 th x | 4 => feq f32 x th | 5 => !feq f32 x th
  | 6 => p.value.getLsbD 0 | _ => !p.value.getLsbD 0

/-- Whether an END or ABORT block is satisfied at `t` with the period `P`, and since which release its comparison has held (R316): at every release of the last HOLD_US; releases before the step's entry are not looked at (DEDUCED, log 138). -/
def blockSat (s : State) (t P : Nat) (b : RBlock) (since : Option Nat) : Bool × Option Nat :=
  let p := pgetAt s t (fld b.b 4 4)
  if !usableHeld p.qual then (fld b.b 10 2 % 2 == 1, none)
  else if blockCmp b p then
    let f := since.getD t
    (decide (f + fld b.b 16 4 * us < t + P), some f)
  else (false, none)

/-- Evaluate blocks, keeping their hold times under `key` plus their offset. -/
def evalBlocks (s : State) (k t key : Nat) (l : List RBlock) : State × List (RBlock × Bool) :=
  l.foldl (fun (a : State × List (RBlock × Bool)) b =>
    let id := key + b.off
    let (sat, since) := blockSat s t (streamPeriod s k) b (tfind (stream a.1 k).holds id)
    (setStream a.1 k (fun d => { d with holds := match since with | some f => tset d.holds id f | none => tdel d.holds id }), a.2 ++ [(b, sat)])) (s, [])

/-! ### Entering and leaving steps -/

/-- The operation kind and class of an AXIS block's request, none for STOP and FOLLOW (R325). -/
def axisOp (req : Nat) : Option (Nat × Nat) :=
  match req with | 1 | 2 | 3 => some (2, 1) | 7 => some (3, 0) | 5 | 6 => some (4, 1) | _ => none

/-- The command word an AXIS block writes, with a new MOVE_NO (R229, R319). -/
def axisWord (s : State) (t : Nat) (b : RBlock) : Nat :=
  let pf := fld b.b 4 1
  let no := ((pgetAt s t (ptid 5 (pf * 256 + 2))).value.toNat / 256 % 256 + 1) % 256
  fld b.b 5 1 % 16 + no * 256 + fld b.b 6 1 % 4 * 65536

/-- The sub-operation of a block: kind, class and data. -/
def subOp (s : State) (t : Nat) (b : RBlock) : Option (Nat × Nat × List Nat) :=
  match b.kind with
  | 3 => (axisOp (fld b.b 5 1)).map (fun e =>
      let no := axisWord s t b / 256 % 256
      (e.1, e.2, if e.1 = 2 then [fld b.b 4 1, fld b.b 5 1, no, fld b.b 6 1, fld b.b 8 4, 0] else [fld b.b 4 1, 0, 0, 0, 0]))
  | 7 => some (5, 0, [0, b.off, 0])
  | 8 => some (6, 0, [0, t, b.off])
  | _ => none

/-- Admit a step with all its sub-operations or none (R319, R330): the state and the step's handle. -/
def admitStep (s : State) (k step t start : Nat) : Except Nat (Nat × State) :=
  let d := stream s k
  let r := recStep d.recipe step
  match opAdmit s 1 k (fld r 3 1) (fld r 0x16 1) 0 step start [k, fld r 2 1, step] true with
  | .error e => .error e
  | .ok (h, s) =>
    let subs := (stepBlocks d.recipe step).filterMap (subOp s t)
    (subs.foldl (fun (a : Except Nat State) b => match a with
      | .error e => .error e
      | .ok s => (opAdmit s b.1 k (fld r 3 1) b.2.1 h step t b.2.2 false).map (·.2)) (.ok s)).map (fun s => (h, s))

/-- What a step writes on entry: its ENTRY blocks in order, the command facets of its AXIS blocks, the requests of its handshakes (R314, R319). -/
def entryOuts (s : State) (t : Nat) (l : List RBlock) : List OutVal :=
  l.flatMap (fun b =>
    match b.kind with
    | 1 | 2 => if b.role = 0 then blockOuts b else []
    | 3 =>
      let pf := fld b.b 4 1
      let tgt : OutVal := ⟨ptid 5 (pf * 256 + (if fld b.b 5 1 = 3 then 1 else 0)), bv 32 (fld b.b 8 4), 0⟩
      let cmd : OutVal := ⟨ptid 5 (pf * 256 + 2), bv 32 (axisWord s t b), 0⟩
      if fld b.b 5 1 = 1 ∨ fld b.b 5 1 = 2 ∨ fld b.b 5 1 = 3 then [tgt, cmd] else [cmd]
    | 8 => [⟨fld b.b 4 4, 1, 0⟩]
    | _ => [])

/-- A pause at a boundary with a reason (R322, R323): the next step waits. -/
def pauseAt (s : State) (k next reason : Nat) : State :=
  streamPoints (setStream s k (fun d => { d with st := 4, reason := reason, boundary := some next, enter := none, handle := 0 })) k

/-- What the PAUSE-role blocks of the current step write (R323). -/
def pauseOuts (d : StreamSt) : List OutVal := ((stepBlocks d.recipe d.step).filter (fun b => b.role == 1)).flatMap blockOuts

/-- Enter a step at release `t` (R314, R330, R332, R336); `ended` is the step operation that ends here with its status. A refused admission pauses the stream, with the PAUSE-role blocks of the ending step unless it was aborted (R330); the flag says whether the step was entered. -/
def enterRaw (s : State) (c k step t : Nat) (ended : Option (Nat × Nat)) (pz : Bool) : State × Bool :=
  let start := t + streamPeriod s k
  match admitStep s k step t start with
  | .error e =>
    let s := match ended with | some x => opEnd (if pz then streamOut s c (pauseOuts (stream s k)) else s) x.1 x.2 | none => s
    (pauseAt (opRefuse s k e) k step 3, false)
  | .ok (h, s) =>
    let old := ended.map (fun x => slotOf x.1)
    let s := match ended with | some x => opEnd s x.1 x.2 false | none => s
    -- one boundary transaction: the ended record free, the entered one, GEN_HIGH
    let s := opCommit s true (old.toList.map (fun i => (i, false)) ++ [(slotOf h, true)]) [genHighEntry s]
    let s := setStream s k (fun d => { d with
      step := step, handle := h, stepStart := start, e0 := 0, st := if d.inAbort then 6 else if d.st = 3 then 3 else 2
      enter := none, boundary := none, reason := if d.st = 3 then d.reason else 0, entered := (d.entered + 1) % 2 ^ 32
      holds := d.holds.filter (fun e => decide (2 ^ 40 ≤ e.1)), subFailed := false })
    let s := streamOut (spanBoundary s k) c (entryOuts s t (stepBlocks (stream s k).recipe step))
    (streamPoints s k, true)

/-- End the step's sub-operations: VSEQ drops its entries; on an abort the handshakes end too; moves without WAIT go on (R319). -/
def endSubs (s : State) (h : Nat) (abort : Bool) : State :=
  (childrenOf s h).foldl (fun s e =>
    if e.2.kind = 5 ∨ (abort ∧ e.2.kind = 6) then opEnd s (handleOf e.1 e.2) 8 else s) s

/-- A stream comes to rest in DONE or ABORTED (R321). -/
def finishStream (s : State) (k st : Nat) : State :=
  streamPoints (spanBoundary (setStream s k (fun d => { d with st := st, handle := 0, enter := none, boundary := none, inAbort := false, drain := none, abortReq := none })) k) k

/-- The ABORT blocks, recipe-wide and of the current step, at a release; the flag says one is satisfied (R317). -/
def stepAborts (s : State) (k t : Nat) : State × Bool :=
  let (s, ga) := evalBlocks s k t (2 ^ 40) (gabortBlocks (stream s k).recipe)
  let (s, ab) := evalBlocks s k t (2 ^ 36) ((stepBlocks (stream s k).recipe (stream s k).step).filter (fun b => b.kind == 5))
  (s, (ga ++ ab).any (·.2))

/-- The END blocks of the current step at a release; the flag says the condition is true (R315, R316). -/
def stepCond (s : State) (k t : Nat) : State × Bool :=
  let (s, en) := evalBlocks s k t 0 ((stepBlocks (stream s k).recipe (stream s k).step).filter (fun b => b.kind == 4))
  let ands := en.filter (fun e => fld e.1.b 9 1 == 0)
  let ors := en.filter (fun e => fld e.1.b 9 1 == 1)
  (s, ((!ands.isEmpty && ands.all (·.2)) || ors.any (·.2)))

/-- Write the VSEQ entries whose release this is; with the last written the operation ends (R319). The data are the first entry not written, the block, and which entries are written. -/
def vseqStep (s : State) (c i t : Nat) (d : StreamSt) (P : Nat) : State :=
  let o := op s i
  let b := (recBlocks d.recipe 1 ((o.data[1]?).getD 0)).headD ⟨0, 0, 0, []⟩
  let n := fld b.b 4 1
  let was := (o.data[2]?).getD 0
  let due := (List.range n).filter (fun e => !was.testBit e && decide (d.stepStart + fld b.b (8 + 8 * e) 4 * us ≤ t + P + d.e0))
  let outs : List OutVal := due.map (fun e => let w := fld b.b (12 + 8 * e) 4; ⟨w % 2 ^ 31, bv 32 (w / 2 ^ 31), 0⟩)
  let now := due.foldl (fun m e => m + 2 ^ e) was
  let next := ((List.range n).find? (fun e => !now.testBit e)).getD n
  let s := setOp (streamOut s c outs) i (fun o => { o with data := [next, b.off, now] })
  if next = n then opEnd s (handleOf i o) 1 else opPoints s i

/-- Run the VSEQ operations of the current step. -/
def vseqSteps (s : State) (c k t : Nat) : State :=
  let d := stream s k
  (childrenOf s d.handle).foldl (fun s e => if e.2.st = 1 ∧ e.2.kind = 5 then vseqStep s c e.1 t d (streamPeriod s k) else s) s

/-- The rest of an entering release: the VSEQ entries that apply at the step's start, the ABORT blocks, and the first look at the END blocks (R316, R317, R319). -/
def onEntry (s : State) (c k t : Nat) : State × Bool :=
  let (s, ab) := stepAborts (vseqSteps s c k t) k t
  ((stepCond s k t).1, ab)

/-- Checkpoint the moves of a stream that run on through a step boundary (R332); one whose period falls on the same release is taken with it. -/
def boundaryCkpts (s : State) (k t : Nat) : State :=
  (s.track.slots.filter (fun e => e.2.st == 1 && e.2.owner == k && decide (2 ≤ e.2.kind ∧ e.2.kind ≤ 4))).foldl (fun s e =>
    let per := param s pOpCkptPeriod e.2.kind * us
    if elapsedNs e.2 t = 0 ∨ (per ≠ 0 ∧ elapsedNs e.2 t % per = 0) then s
    else opCommit (setOp s e.1 (fun o => { o with elapsed := elapsedNs o t / us })) false [(e.1, true)] []) s

/-- A satisfied ABORT block during the abort sequence: the stream ends at once, the points hold, and the second abort is recorded (R317). -/
def abortAgain (s : State) (k : Nat) : State :=
  let d := stream s k
  note (finishStream (opEnd (endSubs s d.handle true) d.handle 3) k 8) Ev.streamAbortAgain 0x43 k d.handle [d.step]

/-- Abort at a release (R317, R323): the step operation ends with `status`, the PARK blocks are written, and the abort sequence is entered. -/
def abortStream (s : State) (c k t status : Nat) : State :=
  let d := stream s k
  let s := endSubs (boundaryCkpts s k t) d.handle true
  let s := streamOut s c (parkOuts d)
  let s := setStream s k (fun d => { d with aborts := (d.aborts + 1) % 2 ^ 32, drain := none, abortReq := none })
  let s := note s Ev.streamAbort 0x43 k d.handle [status, d.step]
  let ab := fld d.recipe 0x12 2
  if ab = 0xFFFF then finishStream (opEnd s d.handle status) k 8
  else
    let (s, entered) := enterRaw (setStream s k (fun d => { d with inAbort := true, st := 6 })) c k ab t (some (d.handle, status)) false
    if !entered then s
    else
      let (s, again) := onEntry s c k t
      if again then abortAgain s k else s

/-- Enter a step and look at its ABORT blocks, which the entering release evaluates too (R314, R317). -/
def enterStep (s : State) (c k step t : Nat) (ended : Option (Nat × Nat)) : State :=
  let (s, entered) := enterRaw s c k step t ended true
  if !entered then s
  else
    let (s, ab) := onEntry s c k t
    if !ab then s else if (stream s k).inAbort then abortAgain s k else abortStream s c k t 3

/-- The step after an end by time or condition, and the counters (R318). -/
def nextStep (d : StreamSt) : Nat × List Nat :=
  let next := fld (recStep d.recipe d.step) 0x0C 2
  match (stepBlocks d.recipe d.step).find? (fun b => b.kind == 6) with
  | none => (next, d.counters)
  | some b =>
    let i := fld b.b 4 1
    let n := (d.counters[i]?).getD 0 + 1
    if n < fld b.b 8 4 then (fld b.b 6 2, d.counters.set i n) else (next, d.counters.set i 0)

/-- Leave a step for the next at a release (R314, R315, R322, R323). -/
def leaveStep (s : State) (c k t next status : Nat) : State :=
  let d := stream s k
  let s := boundaryCkpts (endSubs s d.handle false) k t
  if d.drain.isSome then abortStream s c k t 2
  else if next = 0xFFFF then finishStream (opEnd s d.handle status) k (if d.inAbort then 8 else 7)
  else if d.st = 3 ∧ !d.inAbort then
    pauseAt (opEnd (streamOut s c (pauseOuts d)) d.handle status) k next d.reason
  else enterStep s c k next t (some (d.handle, status))

/-! ### Sub-operations at a release (R319) -/

/-- Advance a handshake at release `t`: the state and whether it failed. -/
def handshakeStep (s : State) (c i t : Nat) (pl : List Byte) : State × Bool :=
  let o := op s i
  let ph := (o.data[0]?).getD 0
  let since := (o.data[1]?).getD 0
  let b := (recBlocks pl 1 ((o.data[2]?).getD 0)).headD ⟨0, 0, 0, []⟩
  let ack := pgetAt s t (fld b.b 8 4)
  let reads (v : Bool) : Bool := usableHeld ack.qual && (ack.value.getLsbD 0 == v)
  if ph = 0 then
    if reads true then
      (opPoints (setOp (streamOut s c [⟨fld b.b 4 4, 0, 0⟩]) i (fun o => { o with data := [1, t, b.off] })) i, false)
    else if since + fld b.b 12 4 * us < t then (opEnd s (handleOf i o) 6, true) else (s, false)
  else if reads false then (opEnd s (handleOf i o) 1, false)
  else if since + fld b.b 16 4 * us < t then (opEnd s (handleOf i o) 6, true) else (s, false)

/-- Run the step's VSEQ and HANDSHAKE operations at a release; the flag says one failed. -/
def subSteps (s : State) (c k t : Nat) : State × Bool :=
  let d := stream s k
  (childrenOf s d.handle).foldl (fun (a : State × Bool) e =>
    if e.2.st ≠ 1 then a
    else if e.2.kind = 5 then (vseqStep a.1 c e.1 t d (streamPeriod s k), a.2)
    else if e.2.kind = 6 then let r := handshakeStep a.1 c e.1 t d.recipe; (r.1, a.2 || r.2)
    else a) (s, false)

/-- Whether the step still waits for a handshake or for an AXIS block with WAIT (R319). -/
def stepWaits (s : State) (d : StreamSt) : Bool :=
  (childrenOf s d.handle).any (fun e => e.2.kind == 6 ||
    ((e.2.kind == 2 || e.2.kind == 3 || e.2.kind == 4) &&
      (stepBlocks d.recipe d.step).any (fun b => b.kind == 3 && fld b.b 4 1 == (e.2.data[0]?).getD 64 && (fld b.b 7 1).testBit 0)))

/-! ### One stream release (R315-R323) -/

/-- Whether streams step in the mode (R68): RUN, HOLD, and in step in STANDBY. -/
def streamsStep (s : State) : Bool := decide (s.rst.stage = 0) && (match effMode s with | .run | .hold | .standby => true | _ => false)

/-- A late entry at release `t`: `due` is when the entry was due, and a release of the stream at or after it was missed or skipped since the last one, `prev`, that ran (R320). -/
def noteLate (s : State) (k t prev due step : Nat) : State :=
  let P := streamPeriod s k
  if P = 0 ∨ t < due + P ∨ due ≤ prev then s
  else note (setStream s k (fun d => { d with lates := (d.lates + 1) % 2 ^ 32 })) Ev.stepLate 0x43 k 0 [step, (t - due) / P * P]

/-- A release of a running, pausing or aborting stream at `t`; `prev` is its last release before (R315-R320). -/
def stepRelease (s : State) (c k t prev : Nat) : State :=
  let d := stream s k
  let P := streamPeriod s k
  let r := recStep d.recipe d.step
  let D := fld r 4 4 * us
  let TO := fld r 8 4 * us
  let mode := fld r 0x17 1
  let waited := stepWaits s d
  let (s, failed) := subSteps s c k t
  let (s, ab) := stepAborts s k t
  let (s, met) := stepCond s k t
  if ab || failed || d.subFailed then (if d.inAbort then abortAgain s k else abortStream s c k t 3)
  else
    let cond := met && decide (d.stepStart + ms ≤ t + P)
    let time := decide (d.stepStart + D ≤ t + P + d.e0)
    let ended := (match mode with | 0 => time | 1 => cond | 2 => time && cond | _ => time || cond) && !stepWaits s d
    let timeout := decide (TO ≠ 0) && decide (d.stepStart + TO ≤ t + P + d.e0) && (mode == 1 || mode == 2)
    if ended then
      let (next, cs) := nextStep d
      let s := setStream s k (fun d => { d with counters := cs })
      let s := if time && (mode == 0 || mode == 3) && !waited then noteLate s k t prev (d.stepStart + D - P - d.e0) next else s
      leaveStep s c k t next 1
    else if timeout then
      let tn := fld r 0x0E 2
      if tn = 0xFFFE then abortStream s c k t 6 else leaveStep (noteLate s k t prev (d.stepStart + TO - P - d.e0) tn) c k t tn 6
    else streamPoints s k

/-- What the state of a stream does at a release of its task where streams step (R314-R323, R339). -/
def streamAct (s : State) (c k t prev : Nat) : State :=
  let d := stream s k
  let hold := decide (effMode s = .hold)
  match d.abortReq with
  | some st => abortStream s c k t st
  | none => match d.enter with
  | some n =>
    if t < d.enterFrom then s
    else if d.drain.isSome then abortStream s c k t 2
    else if d.st = 3 then pauseAt s k n d.reason
    else
      let s := setStream (noteLate s k t prev d.enterFrom n) k (fun d => { d with
        st := if d.st = 6 then 6 else if hold then 3 else 2, reason := if hold then 2 else 0, enter := none })
      enterStep s c k n t none
  | none =>
    match d.reenter with
    | some el =>
      -- the step is entered again under its resume rule, and its end is decided at this release too (R339)
      let start := t + streamPeriod s k
      let s := setStream s k (fun d => { d with
        reenter := none, st := if d.inAbort then 6 else if hold then 3 else 2, reason := if hold then 2 else 0, stepStart := start, e0 := el * us, holds := [] })
      let s := setOp s (slotOf d.handle) (fun o => { o with st := 1, start := start, e0 := el * us })
      let s := streamOut s c (((stepBlocks d.recipe d.step).filter (fun b => b.role == 0)).flatMap blockOuts)
      stepRelease (opState s (slotOf d.handle)) c k t t
    | none => if d.st = 2 ∨ d.st = 3 ∨ d.st = 6 then stepRelease s c k t prev else s

/-- The stream logic of a release `t` on engine `c` (R314-R323, R332): what waits to be written, the state's own action, the checkpoints of the stream's operations. -/
def streamRelease (s : State) (c k t : Nat) : State :=
  let s := streamOut s c (stream s k).held
  let prev := (stream s k).lastRel
  let s := setStream s k (fun d => { d with held := [], lastRel := t })
  if !streamsStep s then s
  else
    let s := streamAct s c k t prev
    (s.track.slots.filter (fun e => e.2.st == 1 && e.2.owner == k)).foldl (fun s e => opCkpt s e.1 t) s

/-- The stream that a task serves. -/
def streamOfTask (s : State) (i : Nat) : Option Nat :=
  ((List.range 16)).find? (fun k => decide (param s pStreamTask k = i) && (stream s k).st != 0)

/-- The step logic at the end of a STREAM task's release. -/
def endStream (s : State) (c : Nat) : State :=
  match (engine s c).running with
  | none => s
  | some r =>
    if (task s r.task).kind ≠ 2 then s
    else match streamOfTask s r.task with
      | some k => streamRelease s c k r.due
      | none => s

/-- RELEASE_END (R103, R106, R314): the running release of the engine ends, after the step logic of a stream's release. -/
def execReleaseEnd (ce : Fin 16) (s : State) : Res := .next (endRelease (endStream s ce.val) ce.val false)

/-- HANDSHAKE_TIMEOUT (R319): a handshake of the stream's step past its time ends with TIMEOUT; the step aborts at the next release. -/
def execHandshakeTimeout (k : Fin 16) (s : State) : Res :=
  let d := stream s k.val
  let due (o : OpSt) : Bool :=
    let b := (recBlocks d.recipe 1 ((o.data[2]?).getD 0)).headD ⟨0, 0, 0, []⟩
    let lim := if (o.data[0]?).getD 0 = 0 then fld b.b 12 4 else fld b.b 16 4
    decide ((o.data[1]?).getD 0 + lim * us < s.t0)
  match (childrenOf s d.handle).find? (fun e => e.2.kind == 6 && e.2.st == 1 && due e.2) with
  | none => .next s
  | some e => .next (setStream (opEnd s (handleOf e.1 e.2) 6) k.val (fun d => { d with subFailed := true }))

/-- DRAIN_DEADLINE (R323): a draining step that has not ended in time is aborted as IMMEDIATE. -/
def execDrainDeadline (k : Fin 16) (s : State) : Res :=
  let d := stream s k.val
  match d.drain with
  | none => .next s
  | some a =>
    if s.t0 < a + param s pStreamDrainDeadline k.val * ms then .next s
    else .next (setStream s k.val (fun d => { d with drain := none, abortReq := some 2, st := 6, reenter := none, enter := none }))

/-- Streams do not step in M7 and M10: an abort there is immediate and ends in ABORTED; the PARK blocks wait for the task's next release (R323). -/
def abortNow (s : State) (k : Nat) : State :=
  let d := stream s k
  let s := opEnd (endSubs s d.handle true) d.handle 2
  let s := setStream s k (fun d => { d with held := d.held ++ parkOuts d, aborts := (d.aborts + 1) % 2 ^ 32 })
  note (finishStream s k 8) Ev.streamAbort 0x43 k d.handle [2, d.step]

/-- Park a stream's step with its sub-operations (R319, R342). -/
def parkOps (s : State) (k : Nat) : State :=
  let d := stream s k
  let s := opPark ((childrenOf s d.handle).foldl (fun s e => opPark s (handleOf e.1 e.2)) s) d.handle
  streamPoints (setStream s k (fun d => { d with st := 5, enter := none, reenter := none, drain := none, abortReq := none })) k

/-- Park a stream: the PARK blocks are written at its next release (R342). -/
def parkStream (s : State) (k : Nat) : State :=
  let l := parkOuts (stream s k)
  setStream (parkOps s k) k (fun d => { d with held := d.held ++ l })

/-- Park a stream for SAFE: the PARK blocks are written at once and apply at the stream's next apply strobe (R342, R499). -/
def parkNow (s : State) (k : Nat) : State :=
  let l := (parkOuts (stream s k)).foldl (fun a o => a.filter (fun x => x.point != o.point) ++ [o]) ([] : List OutVal)
  let s := parkOps s k
  if l.isEmpty then s
  else
    let i := streamTask s k
    let a := nextRel (s.t0 + 1) (param s pTaskPeriod i) (param s pTaskPhase i)
    let id := s.sched.nextSet
    let s := sendSet { s with sched := { s.sched with nextSet := id + 1 } } id s.t0 a false l
    sendApply s ((List.range 7).filter (fun n => l.any (fun o => nodeOf o.point == some n))) id a

/-! ### The Pocket demand of recipes (R313, R331) -/

/-- The operations of a step as kind and class: its own, its sub-operations, and the moves without WAIT that earlier steps may have left running on other profiles (R331). -/
def stepOps (pl : List Byte) (k : Nat) : List (Nat × Nat) :=
  let sub (b : RBlock) : Option (Nat × Nat) := match b.kind with | 3 => axisOp (fld b.b 5 1) | 7 => some (5, 0) | 8 => some (6, 0) | _ => none
  let bl := stepBlocks pl k
  let mine := (bl.filter (fun b => b.kind == 3)).map (fun b => fld b.b 4 1)
  let left := ((List.range (fld pl 0x10 2)).flatMap (stepBlocks pl)).filter (fun b => b.kind == 3 && (axisOp (fld b.b 5 1)).isSome && !(fld b.b 7 1).testBit 0 && !mine.contains (fld b.b 4 1))
  let profs := (left.map (fun b => fld b.b 4 1)).eraseDups
  (1, fld (recStep pl k) 0x16 1) :: bl.filterMap sub ++ profs.map (fun _ => (2, 1))

/-- How many operations need class `c`, or with UPSIZE `c` or a larger one. -/
def needOf (up : Bool) (l : List (Nat × Nat)) (c : Nat) : Nat := (l.filter (fun e => if up then decide (c ≤ e.2) else e.2 == c)).length

/-- The most that any step of a recipe needs. -/
def recipeNeed (up : Bool) (pl : List Byte) (c : Nat) : Nat := (List.range (fld pl 0x10 2)).foldl (fun a k => max a (needOf up (stepOps pl k) c)) 0

/-- The slots that class `c` offers, or with UPSIZE `c` and the larger ones. -/
def slotsOf (s : State) (up : Bool) (c : Nat) : Nat := (([0, 1, 2, 3] : List Nat).filter (fun k => if up then decide (c ≤ k) else k == c)).foldl (fun a k => a + param s pPocketSlots k) 0

/-- Whether a recipe alone is within the Pocket: every step's payload in its class, and its worst concurrent operations within the slots (R313, R325, R333). -/
def recipePocket (s : State) (pl : List Byte) : Bool :=
  let up := param s pPocketUpsize 0 % 2 == 1
  (List.range (fld pl 0x10 2)).all (fun k => decide (1 ≤ fld (recStep pl k) 0x16 1)) &&
    ([0, 1, 2, 3] : List Nat).all (fun c => decide (recipeNeed up pl c ≤ slotsOf s up c))

/-- The status with which a recipe is refused at its load, 0 when it is taken: the checks of the stream's task for a recipe that names a stream, and the others (R313). -/
def recipeStatus (s : State) (pl : List Byte) : Nat :=
  if !recipeShape pl ∨ (fld pl 0x31 1 < 16 ∧ !recipeFits s (fld pl 0x31 1) pl) then 0x0107
  else if !recipeTimes pl then 0x0105
  else if !recipePocket s pl then 0x0301
  else 0

end Sys2Proof.Machine
end

