-- ==== Sys2Proof/Machine/Layout.lean ====
section
/-! DEFINITION. Image headers, the Deck's sections, and what a Deck puts into the machine (R53, R78, R79, R83-R85, R94, R397). What the spec gives no byte layout for is an opaque function of the bytes (DESIGN CHOICE, log 24). -/

namespace Sys2Proof.Config

/-- What a program image or native image holds behind its header (DESIGN CHOICE, log 24). -/
opaque progImg : List Byte → Machine.ProgImg
/-- Station descriptors of Deck section 0x0004: station key and station (DESIGN CHOICE, log 24). -/
opaque deckStations : List Byte → List (Nat × Machine.Station)
/-- The automatic depth of a ring of the plan, as the tool fills it: entry times 2 plus the layer (R398; DESIGN CHOICE, log 24). -/
opaque autoDepth : List Byte → Nat → Nat
/-- DERIVED definitions of section 0x0005 (DESIGN CHOICE, log 24). -/
opaque deckDerived : List Byte → List (Nat × Machine.Derived)
/-- The loops that section 0x0003 assigns (DESIGN CHOICE, log 24). -/
opaque deckLoops : List Byte → List Nat
/-- Where a loop's X, Y and C blocks lie, as word addresses: Glikuty places them (R201; DESIGN CHOICE, log 24). -/
opaque deckBlocks : List Byte → Nat → Nat × Nat × Nat
/-- Point population and types of section 0x000A and of station blocks: point, type (DESIGN CHOICE, log 24). -/
opaque deckPoints : List Byte → List (Nat × Nat)
/-- The writer of each output point: a task number, or 1,024 plus a loop number (DESIGN CHOICE, log 24). -/
opaque deckWriters : List Byte → List (Nat × Nat)
/-- Image references of section 0x0006: kind, slot, generation, IMG_CRC (DESIGN CHOICE, log 24). -/
opaque deckRefs : List Byte → List (Nat × Nat × Nat × Nat)

end Sys2Proof.Config

namespace Sys2Proof.Machine

/-! ### Headers (R78, R79) -/

/-- The key of an image: kind and slot. -/
def imgKey (kind slot : Nat) : Nat := kind * 65536 + slot
/-- An image's generation. -/
def hdrGen (b : List Byte) : Nat := fld b 0x0C 4
/-- The size limit of a kind in bytes. -/
def kindLimit (k : Nat) : Nat :=
  let kib := 1024
  match k with | 1 => 65536 * kib | 2 => 16 * kib | 3 => 192 * kib | 4 => 160 * kib | 5 => 1024 * kib | 6 => 32 * kib | 7 => 192 * kib | _ => 32768 * kib
/-- The firmware version of a bank. -/
def fwVersion (s : State) (bank : Nat) : Nat := tget 0 s.fw.valid bank
/-- The 64 header bytes of an image, zeros for none (R546). -/
def hdrBytes (b : List Byte) : List Byte := (b ++ List.replicate 64 0).take 64

/-- Steps 1 to 5 of R86 on an image's bytes: the first failed step and its status, or (0, 0). -/
def hdrCheck (s : State) (kind : Nat) (b : List Byte) : Nat × Nat :=
  if fld b 0x3C 4 ≠ (crc32c (b.take 0x3C)).toNat then (1, 0x0601)
  else if fld b 0 4 ≠ 0x4D494C44 ∨ fld b 4 2 ≠ 1 ∨ fld b 6 1 ≠ kind ∨ fld b 7 1 ≠ (if kind = 8 then 1 else 0) ∨
      fld b 0x1C 4 ≠ (if kind = 8 then 0xC0 else 0x40) then (2, 0x0101)
  else if fld b 8 4 ≠ b.length ∨ kindLimit kind < b.length ∨ b.length % 4 ≠ 0 ∨
      (kind = 2 ∧ fld b 0x18 4 = 0 ∧ 5 < fld b 0x40 4) then (3, 0x0102)
  else if fld b 0x38 4 ≠ (imgCrc b).toNat then (4, 0x0602)
  else if kind ≠ 8 ∧ fld b 0x10 4 ≠ fwVersion s s.fw.bank then (5, 0x0103)
  else (0, 0)

/-- Whether generation `a` of a kind other than the Deck's is later than `b` (R81). -/
def imgLater (a b : Nat) : Bool := later 16 a b

/-! ### Sections of the Deck (R83) -/

/-- The directory entries of a Deck: kind, offset, length, items. -/
def deckDir (b : List Byte) : List (Nat × Nat × Nat × Nat) :=
  let d := b.drop 0x40
  (List.range (min (fld d 0 4) 16)).map (fun i => (fld d (4 + 16 * i) 4, fld d (8 + 16 * i) 4, fld d (12 + 16 * i) 4, fld d (16 + 16 * i) 4))

/-- The bytes of a section; none when it is absent. -/
def deckSec (b : List Byte) (k : Nat) : List Byte :=
  match (deckDir b).find? (fun e => e.1 == k) with
  | some e => (b.drop e.2.1).take e.2.2.1
  | none => []

/-- IDs and values in entries of 12 bytes. -/
def deltas (n : Nat) (p : List Byte) : List (Nat × Nat) := (List.range n).map (fun i => (fld p (12 * i) 4, fld p (12 * i + 4) 8))

/-- The parameter table, section 0x0001. -/
def deckParams (b : List Byte) : List (Nat × Nat) := let p := deckSec b 1; deltas (p.length / 12) p

/-- The deltas of a Shingle image (R84). -/
def shingleDeltas (b : List Byte) : List (Nat × Nat) := deltas (min (fld b 0x40 4) 1024) (b.drop 0x50)

/-- The KEEP and BOOT lists of section 0x000B (R85). -/
def deckLists (b : List Byte) : List Nat × List Nat :=
  let p := deckSec b 0x0B
  let ids (o n : Nat) : List Nat := (List.range n).map (fun i => fld p (o + 4 * i) 4)
  let n := min (fld p 0 4) 1024
  let m := min (fld p (4 + 4 * n) 4) 1024
  (ids 4 n, ids (8 + 4 * n) m)

/-- The task descriptors of section 0x0002 (R94). -/
def deckTasks (b : List Byte) : List (List Byte) := let p := deckSec b 2; (List.range (p.length / 64)).map (fun i => (p.drop (64 * i)).take 64)

/-- A task from its descriptor. -/
def taskOfDesc (d : List Byte) : TaskSt :=
  { present := true, kind := fld d 2 1, prog := fld d 0x10 2, entry := fld d 0x12 2, window := fld d 0x1A 2 }

/-- The input window lists of section 0x000C (R53): first point and count of each range in use. -/
def deckWindows (b : List Byte) : List (List (Nat × Nat)) :=
  let p := deckSec b 0x0C
  (List.range (min (fld p 0 4) 1024)).map (fun i =>
    let l := p.drop (4 + 136 * i)
    (List.range (min (fld l 0 1) 16)).map (fun k => (fld l (8 + 8 * k) 4, fld l (12 + 8 * k) 4)))

/-- An entry of the Thatch plan (R397). -/
def planEntry (e : List Byte) : PlanEnt :=
  { first := fld e 0 4, count := fld e 4 4, cls := fld e 8 1, finest := fld e 9 1, layers := fld e 10 1, prio := fld e 11 1
    l0Depth := fld e 12 4, l1Depth := fld e 16 4, streams := bv 16 (fld e 20 2), histLo := bv 32 (fld e 24 4), histHi := bv 32 (fld e 28 4)
    active := bv 32 (fld e 32 4) }

/-- The Thatch plan, section 0x0008. -/
def deckPlan (b : List Byte) : List PlanEnt :=
  let p := deckSec b 8
  let depth (d k : Nat) : Nat := if d = 0 then Config.autoDepth b k else d
  (List.range (p.length / 40)).map (fun i =>
    let e := planEntry ((p.drop (40 * i)).take 40)
    { e with l0Depth := depth e.l0Depth (2 * i), l1Depth := depth e.l1Depth (2 * i + 1) })

/-! ### Putting a Deck into use -/

/-- The working values a Deck and its Shingles give (R83, R84, R90). -/
def deckValues (deck : List Byte) (imgs : Tbl (List Byte)) : Tbl DWord :=
  let base := (deckParams deck).foldl (fun t e => tset t (pkey 0 e.1) (bv 64 e.2)) []
  imgs.foldl (fun t e =>
    if e.1 / 65536 = 2 then (shingleDeltas e.2).foldl (fun t d => tset t (pkey (e.1 % 65536 + 1) d.1) (bv 64 d.2)) t else t) base

/-- The regions whose population the Deck gives: stations, MEM, DERIVED. -/
def deckRegion (r : Nat) : Bool := decide ((8 ≤ r ∧ r ≤ 0x12) ∨ (0x18 ≤ r ∧ r ≤ 0x1B) ∨ r = 0x1E)

/-- A new Deck's Thatch (R408): a point keeps its history where its plan entry and its TYPE are unchanged; every other point's is initialised and their number recorded. -/
def commitHistory (old new : State) : State :=
  let h := old.thatch
  let plan := new.thatch.plan
  let strip (e : PlanEnt) : PlanEnt := { e with coarse := 0, was := 0, effAt := 0 }
  let keep (p : Nat) : Bool :=
    (pget old p).ty == (pget new p).ty && (h.plan[planIdx h.plan p]?).map strip == (plan[planIdx plan p]?).map strip
  let lost := ((tkeys h.l0).filter (fun p => !keep p)).length
  let new := { new with thatch := { h with
    plan := plan, stack := [], stepDue := none
    l0 := h.l0.filter (fun e => keep e.1), l1 := h.l1.filter (fun e => keep e.1)
    l0Ring := h.l0Ring.filter (fun e => keep (e.1 / 2 ^ 32)), l1Ring := h.l1Ring.filter (fun e => keep (e.1 / 2 ^ 32))
    tightRing := h.tightRing.filter (fun e => keep e.1), log := h.log.filter (fun e => keep e.point)
    tight := h.tight.filter (fun e => keep e.point), tileAgg := h.tileAgg.filter (fun e => keep e.1)
    queue := h.queue.filter (fun e => keep e.point), logOpen := h.logOpen.filter (fun e => keep e.point) } }
  if lost = 0 then new else note new Ev.thatchInit 0x40 0 0 [lost]

/-- The machine under a Deck and its images, by key kind * 65536 + slot: values, tasks, programs, stations, points, plan. -/
def useDeck (s : State) (deck : List Byte) (imgs : Tbl (List Byte)) : State :=
  commitHistory s <|
  let vals := deckValues deck imgs
  let ts := (deckTasks deck).foldl (fun t d => tset t (fld d 0 2) (taskOfDesc d)) ([] : Tbl TaskSt)
  let home := (deckTasks deck).foldl (fun t d => tset t (fld d 0x10 2) (fld d 0x24 2)) ([] : Tbl Nat)
  let progs := imgs.foldl (fun (t : Tbl ProgImg) e =>
    if e.1 / 65536 = 3 then tset t (e.1 % 65536) { Config.progImg e.2 with gen := hdrGen e.2 } else t) []
  let natives := imgs.foldl (fun (t : Tbl ProgImg) e =>
    if e.1 / 65536 = 7 then tset t (e.1 % 65536) { Config.progImg e.2 with gen := hdrGen e.2 } else t) []
  let pts := (s.img.points.filter (fun e => !deckRegion (ptRegion e.1)))
  let pts := (Config.deckPoints deck).foldl (fun t e => tset t e.1 { ty := e.2 }) pts
  { s with
    params := { s.params with working := vals, force := vals, live := [], onMode := [], onRestart := [], saved := vals, unsaved := 0
                              keepList := (deckLists deck).1, bootList := (deckLists deck).2 }
    deck := { s.deck with inUse := true, gen := hdrGen deck, edit := fld deck 0x18 2, kept := []
                          loaded := tset (imgs.map (fun e => (e.1, { gen := hdrGen e.2, deckGen := fld e.2 0x14 4, bytes := e.2 }))) (imgKey 1 0) { gen := hdrGen deck, bytes := deck } }
    img := { s.img with points := pts, writers := (Config.deckWriters deck).foldl (fun t e => tset t e.1 e.2) []
                        stations := (Config.deckStations deck).foldl (fun t e => tset t e.1 { e.2 with present := true }) []
                        derived := (Config.deckDerived deck).foldl (fun t e => tset t e.1 e.2) [] }
    sched := { s.sched with tasks := ts, home := home, progs := progs, natives := natives, progKib := progs.map (fun e => (e.1, e.2.kib))
                            windows := (deckWindows deck).mapIdx (fun i l => (i, l)), staging := [], move := none, exch := none, reports := [] }
    loops := (Config.deckLoops deck).foldl (fun t i => tset t i { present := true, blocks := Config.deckBlocks deck i }) []
    thatch := { s.thatch with plan := deckPlan deck } }

/-- Write a loop's X, Y and C blocks from its law image into its engine's memories (R201, R221). -/
def loadBlocks (s : State) (i : Nat) : State :=
  let b := lawImage s i
  if param s pLoopLaw i ≠ 6 ∨ fld b 0 2 ≠ 1 then s
  else
    let at_ := (loop s i).blocks
    let xs := b.drop (0x20 + 4 * fld b 2 2)
    let xn := 4 * fld b 0x0A 2
    let yn := 4 * fld b 0x0C 2
    let cn := 2 * fld b 0x0E 2
    { s with loopEng := tmod {} s.loopEng (i / 64) (fun e => { e with
        x := mwrites e.x (4 * at_.1) (xs.take xn)
        y := mwrites e.y (4 * at_.2.1) ((xs.drop xn).take yn)
        c := mwrites e.c (2 * at_.2.2) ((xs.drop (xn + yn)).take cn) }) }

/-- A loop engine's local memories as a restart of the engine leaves them: the law images its loops name, their blocks, and the state vectors at 0 (R37, R201). -/
def loadLaws (s : State) (le : Nat) : State :=
  let is := (tkeys s.loops).filter (fun i => i / 64 == le)
  let laws := is.foldl (fun t i => if param s pLoopLaw i = 4 ∨ param s pLoopLaw i = 6 then
    tset t (param s pLoopLawImage i) (((tget {} s.deck.loaded (imgKey 4 (param s pLoopLawImage i))).bytes).drop 0x40) else t) ([] : Tbl (List Byte))
  let s := { s with loopEng := tmod {} s.loopEng le (fun e => { e with x := [], y := [], c := [], laws := laws }) }
  is.foldl (fun s i => setLoop (loadBlocks s i) i (fun d => { d with ss := [] })) s

/-- The engines' local memories from the images: every program's initial data into its home engine (R138), the laws' blocks (R201). -/
def loadEngines (s : State) : State := (List.range 8).foldl loadLaws ((tkeys s.sched.progs).foldl initData s)

/-- The Pocket header's fields that the Deck gives (R367): offset and bytes. -/
def planHeader (s : State) : List (Nat × List Byte) :=
  [(0x008, leBytes 4 s.deck.gen ++ leBytes 2 s.deck.edit), (0x010, leBytes 2 (param s pPocketOpArea 0) ++ leBytes 2 (param s pPocketRetainArea 0) ++
    (List.range 4).flatMap (fun k => leBytes 2 (param s pPocketSlots k)))]

/-- The header's copy of the KEEP Shingle: count and at most 5 deltas (R84, R85, R367). -/
def shingleHeader (s : State) : List (Nat × List Byte) :=
  let l := (s.params.force.filter (fun e => e.1 / 2 ^ 32 == 1)).take 5
  [(0x040, (leBytes 4 l.length ++ l.flatMap (fun (e : Nat × DWord) => leBytes 4 (e.1 % 2 ^ 32) ++ leBytes 8 e.2.toNat) ++ List.replicate 60 0).take 64)]

/-- Write header fields of the Pocket directly with a new HDR_CRC. -/
def pocketHeader (s : State) (l : List (Nat × List Byte)) : State :=
  setPocket s (fun p => let m := l.foldl (fun m e => mwrites m e.1 e.2) p.mem; { p with mem := mwrites m 0x0FC (pocketCrc m) })

end Sys2Proof.Machine
end

