-- ==== Sys2Proof/Machine/ModeOps.lean ====
section
/-! DEFINITION. Entering a mode: Shingle change, visibility, and what each mode does to outputs, forces, streams and programs (R64, R68, R72-R77, R135, R323). -/

namespace Sys2Proof.Machine

/-- Instances that a scope-0 value of a kind names. -/
def kindInsts (s : State) (code : Nat) : List Nat := (s.params.force.filter (fun e => e.1 / 4096 == code)).map (fun e => e.1 % 4096)
/-- The configured output channels. -/
def outChans (s : State) : List Nat := (kindInsts s pChMode).filter (isOut s)
/-- The configured analog outputs. -/
def outAos (s : State) : List Nat := (kindInsts s pAoMode).filter (fun a => param s pAoMode a != 0)

/-- Whether a point's writer runs in M3: a loop with RUN_IN_IDLE (R68). -/
def writerIdle (s : State) (p : Nat) : Bool :=
  match tfind s.img.writers p with | some w => decide (1024 ≤ w) && flag s pLoopRunInIdle (w - 1024) | none => false

/-- Outputs without a running writer take their defaults at the next apply strobe (R68, R290, R303). -/
def takeDefaults (s : State) : State :=
  let s := ((outChans s).filter (fun c => !writerIdle s (chPt c 1))).foldl (fun s c => setChan s c (fun d => { d with pendDef := true })) s
  ((outAos s).filter (fun a => !writerIdle s (aoPt a 0))).foldl (fun s a => setAout s a (fun d => { d with pendDef := true })) s

/-- Bring every configured output to the state the mode gives (R290, R303). -/
def refreshOuts (s : State) : State := (outAos s).foldl aoRefresh ((outChans s).foldl chRefresh s)

/-- Whether forces, or simulations, are allowed in the mode (R62, R63). -/
def forceMode (s : State) (sim : Bool) : Bool :=
  match effMode s with
  | .idle | .maint => true
  | .run => !sim && flag s pSysForceInRun 0
  | .test => sim
  | _ => false

/-- End forces and simulations with effective T0 `t`, and drop begins that wait (R64, R579). -/
def endForces (s : State) (t : Nat) (which : Bool → Bool) : State :=
  let gone := s.img.forces.filter (fun f => which f.sim)
  let s := { s with img := { s.img with forcePend := s.img.forcePend.filter (fun f => !which f.f.sim) } }
  gone.foldl (fun s f => forceStep s ⟨t, false, f⟩) s

/-- HOLD: running streams pause at their next boundary (R75, R323). -/
def holdStreams (s : State) : State :=
  (tkeys s.streams).foldl (fun s k =>
    let d := stream s k
    if d.st = 2 then streamPoints (setStream s k (fun d => { d with st := 3, reason := 2 })) k
    else if d.st = 4 ∧ d.enter.isSome then streamPoints (setStream s k (fun d => { d with enter := none, reason := 2 })) k
    else s) s

/-- Back to RUN: a pause by HOLD that has not come is cancelled; a stream paused by HOLD goes on (R75, R322). -/
def unholdStreams (s : State) (t : Nat) : State :=
  (tkeys s.streams).foldl (fun s k =>
    let d := stream s k
    if d.reason ≠ 2 then s
    else if d.st = 3 then streamPoints (setStream s k (fun d => { d with st := 2, reason := 0 })) k
    else if d.st = 4 then setStream s k (fun d => { d with enter := d.boundary, enterFrom := t }) else s) s

/-- SAFE: streams stop and every active operation is parked (R68). -/
def parkAll (s : State) : State :=
  let s := (tkeys s.streams).foldl (fun s k =>
    let d := stream s k
    if ([2, 3, 6, 9] : List Nat).contains d.st then parkNow s k
    else if d.st = 4 then setStream s k (fun d => { d with enter := none }) else s) s
  (s.track.slots.filter (fun e => e.2.st == 1 || e.2.st == 3)).foldl (fun s e => opPark s (handleOf e.1 e.2)) s

/-- What a change of behaviour from one mode to another brings, with the mode already entered at `t`. -/
def modeEffects (s : State) (was : Mode) (ran : List Nat) (t : Nat) : State :=
  let now := effMode s
  let s := if forceMode s false then s else endForces s t (fun sim => !sim)
  let s := if forceMode s true then s else endForces s t (fun sim => sim)
  let s := (tkeys s.sched.tasks).foldl (fun s i =>
    let s := setTask s i (fun d => { d with execMax := 0, waitMax := 0 })
    taskPoints (if programsRun s i && !ran.contains i then setTask s i (fun d => { d with scan := true }) else s) i) s
  if now = was then s
  else match now with
  | .idle => takeDefaults s
  | .hold => holdStreams s
  | .run => if was = .hold then unholdStreams s t else s
  | .safe => parkAll s
  | _ => s

/-- Change the Ridge's state. -/
def setRidge (s : State) (f : RidgeSt → RidgeSt) : State := { s with ridge := f s.ridge }

/-- Take the SAFE parameters of the Deck into the Ridge's copy with its CRC (R490); the copy's byte layout is open (DESIGN CHOICE, log 28). -/
def ridgeConfig (s : State) : State :=
  let c := s.params.force.filter (fun e => e.1 / 2 ^ 24 == 0x18)
  setRidge s (fun r => { r with config := c, configCrc := Config.ridgeCrc (c.map (fun e => (e.1, e.2.toNat))) })

/-- A committed Deck takes over with the entry to M3, which answers DECK_COMMIT (R88, R549). -/
def commitDeck (s : State) : State :=
  match s.deck.committing with
  | some j =>
    if j.kind ≠ 2 then s
    else
      let b := tget [] s.deck.staged (imgKey 1 0)
      let s := note s Ev.deckCommit 0x00 0 0 [s.params.unsaved, s.deck.gen, hdrGen b]
      let s := loadEngines (useDeck s b (s.deck.staged.filter (fun e => e.1 != imgKey 1 0)))
      let s := ridgeConfig (pocketHeader s (planHeader s ++ shingleHeader s))
      let s := { s with deck := { s.deck with committing := none, stagedOk := false } }
      finish s { mb := ⟨j.mb % 8, Nat.mod_lt _ (by decide)⟩, tag := bv 5 j.tag } 0x0204 true 0
  | none => s

/-- Enter a mode at instant `t` (R72, R73, R76, R77): Shingle change, mode point, record, and the mode's behaviour. -/
def enterMode (s : State) (new : Mode) (trigger t : Nat) : State :=
  let old := s.mode.cur
  let was := effMode s
  let ran := (tkeys s.sched.tasks).filter (programsRun s)
  let s := if new = .idle then commitDeck s else s
  let g := (tget {} s.deck.loaded (imgKey 2 new.num)).gen
  let g0 := s.mode.shingleGen
  let s := enterForce s new t
  let s := { s with mode := { s.mode with
    cur := new, since := t, pend := none, origin := if new = .update then old else s.mode.origin, shingleGen := g } }
  let s := update s t (ptid 0 0) (bv 32 new.num)
  let s := irq (note s Ev.modeChange 0x00 0 0 [old.num, new.num, trigger, t, g0, g]) 16
  refreshOuts (modeEffects s was ran t)

/-- Begin a requested transition accepted now: the entry instant E (R72). -/
def pendMode (s : State) (dest : Mode) (trigger : Nat) (reply : Option (Nat × Nat) := none) : State × Nat :=
  let e := wholeMs s.t0 (500 * us)
  (forward { s with mode := { s.mode with pend := some ⟨dest, e, trigger, reply⟩ } } 3 [dest.num, e], e)

/-- Keep an exchange's report, answer its request and record it (R159). -/
def exchReport (s : State) (x : ExchSt) (r : ExchRep) : State :=
  let s := { s with sched := { s.sched with reports := tset s.sched.reports x.slot r } }
  let s := note s Ev.exchange 0x42 x.slot 0 [r.status, r.oldGen, r.newGen, r.quiet, r.matched, r.retyped, r.new, r.removed.length]
  finish s { mb := ⟨x.mb % 8, Nat.mod_lt _ (by decide)⟩, tag := bv 5 x.tag } (if x.revert then 0x0302 else 0x0301) true r.status

/-- An exchange that has not swapped is abandoned; one that has ends with its swap made (R153). -/
def abandonExch (s : State) : State :=
  match s.sched.exch with
  | none => s
  | some x =>
    let s := { s with sched := { s.sched with exch := none } }
    if x.swapped.isSome ∨ x.ended.isSome then s
    else exchReport s x { slot := x.slot, status := 0x0205, oldGen := (prog s x.slot).gen, newGen := x.newGen, flags := if x.revert then 2 else 0 }

/-- A DECK_COMMIT whose entry to M3 pends is abandoned with that transition (R74); the spec states no status for it. -/
def abandonCommit (s : State) : State :=
  match s.deck.committing with
  | none => s
  | some j =>
    if j.kind ≠ 2 then s
    else
      let (v, s) := fresh { s with deck := { s.deck with committing := none } }
      finish s { mb := ⟨j.mb % 8, Nat.mod_lt _ (by decide)⟩, tag := bv 5 j.tag } 0x0204 true (v.toNat % 65536)

/-- A transition of the Ridge, of a power failure or of a restart takes effect at once and abandons a pending one and an exchange (R73, R74, R153). -/
def forceMode' (s : State) (new : Mode) (trigger : Nat) : State :=
  let s := abandonCommit (abandonExch s)
  enterMode { s with mode := { s.mode with pend := none } } new trigger s.t0

/-- Whether a host request may leave the present mode: MODE.MIN_DWELL has passed since its entry instant (R560). -/
def dwellOk (s : State) : Bool := decide (s.mode.since + param s pModeMinDwell s.mode.cur.num * ms ≤ s.t0)

/-- Whether any stream is active (R71, R321): LOADED, DONE and ABORTED streams are not. -/
def streamsActive (s : State) : Bool := s.streams.any (fun e => e.2.st == 2 || e.2.st == 3 || e.2.st == 4 || e.2.st == 5 || e.2.st == 6 || e.2.st == 9)

/-- STEWARD_READY rises (R538, R540, R541). -/
def stewardUp (s : State) : State :=
  irq { s with host := { s.host with ready := true, idFw := bv 32 (tget 0 s.fw.valid s.fw.bank) }, fw := { s.fw with swapped := false, badBoots := 0 } } 17

/-- MODE_ENTRY (R72): at E the pending transition takes effect. -/
def execModeEntry (s : State) : Res :=
  match s.mode.pend with
  | none => .next s
  | some p =>
    if s.t0 < p.due then .next s
    else if s.mode.cur = .standby then
      -- the active's transition as its standby follows it: streams pause and go on (R475, R477)
      let s := { s with mode := { s.mode with pend := none } }
      .next (match p.dest with | .hold => holdStreams s | .run => unholdStreams s p.due | _ => s)
    else
      let boots := decide (s.mode.cur = .boot)
      -- a boot whose target instant meets a latched reaction ends in M10 (R364)
      let dest := if boots && s.ridge.latches.any (fun l => l.react == .safe || l.react == .ridgeStop) then .safe else p.dest
      let s := if boots then stewardUp { s with rst := { s.rst with stage := 0 } } else s
      let s := enterMode s dest p.trigger p.due
      match p.reply with
      | some (m, t) => .next (finish s { mb := ⟨m % 8, Nat.mod_lt _ (by decide)⟩, tag := bv 5 t } 0x0720 true 0)
      | none => .next s

end Sys2Proof.Machine
end

