-- ==== Sys2Proof/Machine/RidgeOps.lean ====
section
/-! DEFINITION. The Ridge: fault codes and reactions, permits, latches, the fault record and the RIDGE points (R489-R505). -/

namespace Sys2Proof.Machine

/-- A SAFE parameter as the Ridge's configuration copy has it (R490). -/
def safeParam (s : State) (code inst : Nat) : Nat :=
  match tfind s.ridge.config (pid code inst) with | some v => v.toNat | none => pdefault code inst
/-- Whether the Ridge's configuration declares a safety group. -/
def declared (s : State) (g : Nat) : Bool := safeParam s pSafeGroup g % 2 == 1
/-- A set of groups as 64 bits. -/
def groupBits (p : Nat → Bool) : BitVec 64 := (List.range 64).foldl (fun b g => if p g then b ||| bv 64 (2 ^ g) else b) 0
/-- Every safety group. -/
def allGroups (s : State) : BitVec 64 := groupBits (declared s)
/-- The safety groups of a tile: group g of tile t is 16 t + g (R491). -/
def tileGroups (s : State) (t : Nat) : BitVec 64 := groupBits (fun g => declared s g && g / 16 == t)

/-- A reaction's number (R504). -/
def Reaction.num : Reaction → Nat
  | .log => 0 | .group => 1 | .safe => 2 | .ridgeStop => 3

/-- A DRAM address in a region where a double-bit error is LOG: Thatch, acquisition or unassigned (R34, R497). -/
def dramLog (s : State) (a : Nat) : Bool :=
  let mib := 2 ^ 20
  let th := 384 * mib
  let im := th + (param s pThatchRegionMib 0 + param s pAcqRegionMib 0) * mib
  let un := im + (param s pSysImageRegionMib 0 + param s pSysStagingRegionMib 0) * mib
  decide ((th ≤ a ∧ a < im) ∨ un ≤ a)

/-- The channel's group when a fault on a channel lies in a safety group (R497). -/
def unitGroup (s : State) (unit : Nat) : Option Nat := if declared s (unit / 8) then some (unit / 8) else none

/-- The default reaction of a fault (R497). -/
def faultDefault (s : State) (f : FaultRep) : Reaction :=
  let tile := decide (0x60 ≤ f.isl ∧ f.isl < 0x64)
  let engine := decide (0x10 ≤ f.isl ∧ f.isl < 0x40)
  match f.code with
  | 0x0104 => .safe
  | 0x0105 | 0x0503 | 0x0603 | 0x0D01 | 0x0D02 => .ridgeStop
  | 0x0401 => if dramLog s f.addr then .log else .safe
  | 0x0402 => if engine then .log else .safe
  | 0x0501 => if tile then .safe else if f.isl = 0x7F then .ridgeStop else .log
  | 0x0601 | 0x0602 | 0x0701 | 0x0702 | 0x0B01 | 0x0B02 => .safe
  | 0x0802 | 0x0803 | 0x0804 | 0x0805 => .group
  | 0x0901 | 0x0902 => if (unitGroup s f.unit).isSome then .group else .log
  | 0x0B03 => (match safeParam s pSafeErrinAction 0 with | 0 => .log | 1 => .group | _ => .safe)
  | _ => .log

/-- The reaction to a fault: the default, raised by SAFE.REACT; faults on channels outside safety groups stay LOG, and ERRIN follows its own action (R496, R497). -/
def faultReact (s : State) (f : FaultRep) : Reaction :=
  let d := faultDefault s f
  let r := safeParam s pSafeReact f.code
  if (f.code = 0x0901 ∨ f.code = 0x0902) ∧ (unitGroup s f.unit).isNone then .log
  else if f.code = 0x0B03 then d
  else if r = 2 ∧ d.num < 2 then .safe else if r = 1 ∧ d.num < 1 then .group else d

/-- The groups a GROUP reaction covers (R498). -/
def faultGroups (s : State) (f : FaultRep) : BitVec 64 :=
  match f.code with
  | 0x0804 | 0x0805 => bv 64 (2 ^ (f.unit % 64))
  | 0x0901 | 0x0902 => bv 64 (2 ^ (f.unit / 8 % 64))
  | _ => if 0x60 ≤ f.isl ∧ f.isl < 0x64 then tileGroups s (f.isl - 0x60) else allGroups s

/-! ### Permits (R493) -/

/-- Eight hours in ns. -/
def hours8 : Nat := 8 * 3600 * sec
/-- An element's tests. -/
def elem (s : State) (k : Nat) : ElemSt := tget {} s.ridge.elems k
/-- Whether an element has passed a test within the last 8 h. -/
def elemFresh (s : State) (k : Nat) : Bool := match (elem s k).lastPass with | some t => decide (s.t0 ≤ t + hours8) | none => false
/-- Whether both elements of a group have. -/
def groupTested (s : State) (g : Nat) : Bool := elemFresh s (2 * g) && elemFresh s (2 * g + 1)
/-- The highest latched reaction. -/
def topReaction (s : State) : Nat := s.ridge.latches.foldl (fun a l => max a l.react.num) 0
/-- Whether a GROUP reaction covers a group. -/
def groupLatched (s : State) (g : Nat) : Bool := s.ridge.latches.any (fun l => l.react == .group && l.groups.getLsbD g)

/-- Whether the Ridge grants a group's permit (R493). -/
def granted (s : State) (g : Nat) : Bool :=
  declared s g && s.mode.cur != .config && s.mode.cur != .keep && s.ridge.internalOk && s.ridge.tilesOk.contains (g / 16) &&
    decide (topReaction s < 2) && !groupLatched s g && groupTested s g

/-! ### The RIDGE points (R505) -/

/-- The Ridge's state code. -/
def ridgeCode (s : State) : Nat := if s.ridge.stopped then 3 else if s.ridge.starting then 0 else if s.ridge.latches.isEmpty then 1 else 2

/-- Point 3: the input levels and latches. -/
def ridgeInputs (s : State) : Nat :=
  let e := s.ridge.estop
  let b (v : Bool) (k : Nat) : Nat := if v then 2 ^ k else 0
  b e.aHigh 0 + b e.bHigh 1 + b e.errHigh 2 + b (decide (2 ≤ topReaction s) || s.ridge.starting) 3 + b e.demand 4 + b e.discrepancy 5 + b e.errDemand 6

/-- A group's state code. -/
def groupState (s : State) (g : Nat) : Nat :=
  if !declared s g then 0 else if granted s g then 1
  else if 2 ≤ topReaction s ∨ groupLatched s g then 2 else if s.mode.cur = .config then 4 else 3

/-- Publish the RIDGE points; a change of state or of the highest reaction raises its interrupt (R505, R538). -/
def ridgePoints (s : State) : State :=
  let p (i : Nat) := ptid 0x1D i
  let gr := groupBits (granted s)
  let de := allGroups s
  let age (k : Nat) : Nat := match (elem s k).lastPass with | some t => (s.t0 - t) / sec | none => s.t0 / sec
  let old0 := (pgetAt s s.t0 (p 0)).value.toNat
  let old1 := (pgetAt s s.t0 (p 1)).value.toNat
  let code := match s.ridge.latches with | l :: _ => l.code | [] => 0
  let main := [ridgeCode s, topReaction s, code, ridgeInputs s, de.toNat, de.toNat / 2 ^ 32, gr.toNat, gr.toNat / 2 ^ 32, s.ridge.total, s.ridge.configCrc.toNat]
  let grps := ((List.range 64).filter (declared s)).flatMap (fun g =>
    [(p (0x100 + 4 * g), groupState s g), (p (0x101 + 4 * g), age (2 * g)), (p (0x102 + 4 * g), age (2 * g + 1)),
     (p (0x103 + 4 * g), (elem s (2 * g)).failed + (elem s (2 * g + 1)).failed)])
  let s1 := updates s s.t0 (main.mapIdx (fun i v => (p i, bv 32 v, 0)) ++ grps.map (fun e => (e.1, bv 32 e.2, 0)))
  if old0 ≠ ridgeCode s ∨ old1 ≠ topReaction s then irq s1 18 else s1

/-! ### The fault record (R504) -/

/-- The codes whose record is persistent (R504). -/
def persistentCode (c : Nat) : Bool := [0x0804, 0x0805, 0x0901, 0x0902, 0x0B01, 0x0B02, 0x0B03].contains c

/-- The record's 128 bytes. -/
def recordBytes (r : FaultRecord) : List Byte :=
  let b (v : Bool) (k : Nat) : Nat := if v then 2 ^ k else 0
  let body := leBytes 2 r.code ++ leBytes 1 r.react ++ leBytes 1 r.isl ++ leBytes 4 r.unit ++ leBytes 8 r.t0 ++ leBytes 6 r.keepTime ++
    leBytes 2 r.count ++ leBytes 8 r.groupsCut.toNat ++ leBytes 8 r.t0Release ++ leBytes 2 r.prevCode ++
    leBytes 2 (b r.latched 0 + b r.persistent 1 + r.inputs) ++ (r.detail ++ List.replicate 48 0).take 48 ++ List.replicate 32 0
  body ++ leBytes 4 (crc32c body).toNat

/-- Write the record to the Pocket at 0x180. -/
def putRecord (s : State) (f : FaultRecord → FaultRecord) : State :=
  let s := setRidge s (fun r => { r with record := f r.record })
  setPocket s (fun p => { p with mem := mwrites p.mem 0x180 (recordBytes s.ridge.record) })

/-- 48 bytes of fault detail, whose content per code the spec does not lay out (DESIGN CHOICE, log 27). -/
def detailBytes (s : State) : List Byte × State :=
  (List.range 6).foldl (fun (a : List Byte × State) _ => let r := fresh a.2; (a.1 ++ leBytes 8 r.1.toNat, r.2)) ([], s)

/-! ### Latching and releasing -/

/-- The islands a SAFE command goes to (R499): the tiles, the motion engines, the scheduler, the tracker. -/
def safeTargets : List Nat := [0x60, 0x61, 0x62, 0x63, 0x28, 0x29, 0x2A, 0x2B, 0x42, 0x43]

/-- What latching a SAFE reaction does (R73, R499, R503): SAFE commands go out and M10 is entered at once, but not from M0, and in M1 and M6 only at Tr. -/
def enterSafe (s : State) : State :=
  let s := setRidge s (fun r => { r with safeCmds := safeTargets })
  let s := safeTargets.foldl (fun s i => send s Out.safeCommand i) s
  match s.mode.cur with
  | .keep | .boot | .resume | .safe => s
  | _ => forceMode' s .safe 1

/-- A fault reaches the Ridge (R496-R499, R504): counted and recorded; a latching reaction is latched, the record taken at the first one after a release. -/
def ridgeFault (s : State) (f : FaultRep) : State :=
  let r := faultReact s f
  let cnt := (tget 0 s.ridge.counts f.code + 1) % 2 ^ 32
  let s := setRidge s (fun x => { x with counts := tset x.counts f.code cnt, total := (x.total + 1) % 2 ^ 32 })
  let s := update s s.t0 (ptid 0x1D (0x1000 + f.code % 4096)) (bv 32 cnt)
  let cls := match r with | .log => Ev.ridgeLog | .group => Ev.ridgeGroup | .safe => Ev.ridgeSafe | .ridgeStop => Ev.ridgeStop
  let s := note s cls f.isl f.unit 0 [f.code, r.num, f.addr]
  if r = .log then ridgePoints s
  else
    let gs := if r = .group then faultGroups s f else allGroups s
    let first := !s.ridge.record.latched
    let was := s.ridge.latches.any (fun l => l.react == .safe)
    let e := s.ridge.estop
    let b (v : Bool) (k : Nat) : Nat := if v then 2 ^ k else 0
    let (det, s) := if first then detailBytes s else ([], s)
    let s := putRecord s (fun x =>
      if first then
        { code := f.code, react := r.num, isl := f.isl, unit := f.unit, t0 := s.t0, keepTime := keepTick s, count := 1, groupsCut := gs, t0Release := 0
          prevCode := x.code, latched := true, persistent := persistentCode f.code, inputs := b (!e.aHigh) 2 + b (!e.bHigh) 3 + b (!e.errHigh) 4, detail := det }
      else { x with count := min (x.count + 1) 65535 })
    let s := setRidge s (fun x => { x with
      latches := x.latches ++ [⟨f.code, r, gs, f.isl, f.unit, !(f.code == 0x0401 || f.code == 0x0402), false⟩], stopped := x.stopped || r == .ridgeStop })
    ridgePoints (if r = .safe ∧ !was then enterSafe s else s)

/-- Whether a latched fault's cause still holds (R498). -/
def causeHolds (s : State) (l : Latch) : Bool :=
  match l.code with
  | 0x0101 | 0x0201 => !(island s l.isl).inService
  | 0x0203 => (node s (l.isl - 0x60)).silent
  | 0x0502 => !s.clock.refclk
  | 0x0602 => !(node s (l.isl - 0x60)).powered
  | 0x0701 => !(island s l.isl).aligned
  | 0x0702 => decide (s.clock.crossBad ≠ 0)
  | 0x0802 => decide (2 ≤ (tget {} s.ridge.chans (l.isl - 0x60)).bad)
  | 0x0803 => decide ((tget {} s.ridge.chans (l.isl - 0x60)).lastReport + sec ≤ s.t0)
  | 0x0804 => (elem s (2 * l.unit)).bad || (elem s (2 * l.unit + 1)).bad
  | 0x0805 => !groupTested s l.unit
  | 0x0901 => (chan s l.unit).flags.testBit 7
  | 0x0902 => s.twin.proofBad.contains l.unit
  | 0x0B01 => s.ridge.estop.demand
  | 0x0B02 => s.ridge.estop.discrepancy
  | 0x0B03 => s.ridge.estop.errDemand
  | 0x0105 | 0x0503 | 0x0603 | 0x0D01 | 0x0D02 => true
  | _ => l.active

/-- The causes that a completed restart ends (R498): codes and, for an engine's, its island. -/
def causeEnd (s : State) (p : Latch → Bool) : State :=
  setRidge s (fun r => { r with latches := r.latches.map (fun l => if p l then { l with active := false } else l) })

/-- With no latch left the record takes the release (R504). -/
def noteRelease (s : State) : State :=
  if s.ridge.latches.isEmpty ∧ s.ridge.record.latched then putRecord s (fun x => { x with latched := false, t0Release := s.t0 }) else s

/-- Latches that a kept record brought back go when their clearing condition is met (R502). -/
def dropRelatched (s : State) : State :=
  ridgePoints (noteRelease (setRidge s (fun r => { r with latches := r.latches.filter (fun l => !l.relatched || causeHolds s l) })))

/-- SAFE_RESET, and MODE_SET from M10 to M3 (R71, R498, R503): 0x0203 while a cause of a SAFE or RIDGE_STOP reaction holds; else the latches go and M3 is entered at E. -/
def safeReset (s : State) (r : Req) (op : Nat) : State :=
  if s.mode.pend.isSome then finish s r op true 0x0501
  else if !dwellOk s then finish s r op true 0x050C
  else if s.ridge.latches.any (fun l => l.react == .ridgeStop || (l.react == .safe && causeHolds s l)) then finish s r op true 0x0203
  else
    let s := noteRelease (setRidge s (fun x => { x with latches := x.latches.filter (fun l => l.react != .safe), safeCmds := [] }))
    let p := pendMode s .idle 2
    finish (ridgePoints p.1) r op true 0 (leBytes 8 p.2)

/-- An element's test result as the Ridge takes it (R494, R498, R502); a proof test answers with its last element. -/
def elemResult (s : State) (g e : Nat) (passed : Bool) : State :=
  let k := g * 2 + e
  let s := setRidge s (fun r => { r with
    elems := tmod {} r.elems k (fun x =>
      if passed then { x with lastPass := some s.t0, lastTest := some s.t0, bad := false, due := false, retryAt := none }
      else { x with lastTest := some s.t0, bad := true, failed := (x.failed + 1) % 2 ^ 32 })
    proofLeft := r.proofLeft.filter (· != k)
    proofFailed := if !passed && r.proofLeft.contains k then r.proofFailed ||| bv 64 (2 ^ g) else r.proofFailed })
  let s := dropRelatched s
  match s.ridge.proof with
  | some (m, t) =>
    if s.ridge.proofLeft.isEmpty then
      let f := s.ridge.proofFailed
      finish (setRidge s (fun r => { r with proof := none, proofFailed := 0 })) { mb := ⟨m % 8, Nat.mod_lt _ (by decide)⟩, tag := bv 5 t } 0x0803 true
        (if f = 0 then 0 else 0x040A) (if f = 0 then [] else leBytes 8 f.toNat)
    else s
  | none => s

end Sys2Proof.Machine
end

