-- ==== Sys2Proof/Machine/Recorder.lean ====
section
/-! DEFINITION. The event recorder: records, coalescing, commits, the journal, anchors, faults, clears (R410-R423, R544, R554, R555). -/

namespace Sys2Proof.Machine

/-- Change the recorder. -/
def setRec (s : State) (f : RecSt → RecSt) : State := { s with recd := f s.recd }

/-- A class's severity (R411, R412). -/
def Ev.severity (c : Ev) : Nat :=
  match Ev.known c with | some k => k.2 | none => match Ev.knownSev c with | some v => v | none => (Config.classSeverity c).toNat
/-- A class's number. -/
def Ev.number (c : Ev) : Nat := match Ev.known c with | some k => k.1 | none => (Config.classNumber c).toNat
/-- Whether a class coalesces (R412, R544). -/
def Ev.coalesces (c : Ev) : Bool := match c with | .configChange | .hostAction => true | .clear => false | c => Config.classCoalesces c
/-- Whether a payload field is LAST (R544). -/
def Ev.last (c : Ev) (i : Nat) : Bool := match c with | .configChange => decide (5 ≤ i) | .hostAction => false | c => Config.classLast c i

/-- The payload after coalescing: LAST fields take the new values; of CONFIG_CHANGE's FLAGS only NEW_BASE does (R410, R544). -/
def mergePayload (c : Ev) (old new : List DWord) : List DWord :=
  old.mapIdx (fun i v =>
    let w := (new[i]?).getD v
    if c = .configChange ∧ i = 3 then (v &&& 1) ||| (w &&& 2) else if Ev.last c i then w else v)

/-- Whether an event fits an open record (R414, R544). -/
def coalescesWith (s : State) (e : Event) (r : EvRec) : Bool :=
  r.isOpen && !r.committed && r.cls == e.cls && r.src == e.src && r.object == e.object && Ev.coalesces e.cls &&
    decide (s.t0 < r.born + param s pEvtCoalesceMs (Ev.number e.cls) * ms) && decide (r.rep < 65535) &&
    (e.cls != .configChange || e.payload.head? == r.payload.head?)

/-- The anchor that a new record asks for (R418). -/
def anchorReason (s : State) (seq : Nat) : Option Nat :=
  match s.recd.anchorDue with
  | some k => some k
  | none =>
    if seq = 0 then some 3 else if seq % 4096 = 0 then some 1
    else match s.recd.anchors.getLast? with
      | none => some 5
      | some a => if a.t0 + 100 * ms < s.t0 then some 4 else none

/-- Write an anchor for a record; flash holds 8,192 (R418). -/
def putAnchor (s : State) (seq : Word) : State :=
  match anchorReason s seq.toNat with
  | none => s
  | some k => setRec s (fun r => { r with
      anchorDue := none
      anchors := (r.anchors ++ [({ era := r.era, wraps := r.wraps, seq := seq, t0 := s.t0, t1 := t1At s s.t0, reason := k, t1State := t1State s } : Anchor)]).drop (r.anchors.length + 1 - 8192) })

/-- The ring's places: 4,096, or 1,024 in the fallback ring (R415, R423). -/
def ringCap (s : State) : Nat := if s.recd.degraded then 1024 else 4096

/-- Count a record that is not kept (R415, R417). -/
def countLost (r : RecSt) (sev : Nat) : RecSt :=
  if sev = 7 then { r with lostTop := min (r.lostTop + 1) (2 ^ 32 - 1) } else { r with lostLow := min (r.lostLow + 1) (2 ^ 32 - 1) }

/-- Drop the first element that satisfies a test. -/
def dropFirst {α : Type} (p : α → Bool) : List α → List α
  | [] => []
  | x :: l => if p x then l else x :: dropFirst p l

/-- Give a new record its place in the ring (R415). -/
def placeRec (r : RecSt) (cap : Nat) (x : EvRec) : RecSt :=
  if r.ring.length < cap then { r with ring := r.ring ++ [x] }
  else if r.ring.any (·.committed) then { r with ring := dropFirst (·.committed) r.ring ++ [x] }
  else
    let low := r.ring.foldl (fun a y => min a y.sev) 7
    if low ≤ x.sev ∧ low ≠ 7 then { countLost r low with ring := dropFirst (fun y => y.sev == low) r.ring ++ [x] } else countLost r x.sev

/-- With more than 64 records awaiting commit the oldest open one closes early (R415). -/
def closeEarly (l : List EvRec) : List EvRec :=
  if (l.filter (fun x => !x.committed)).length ≤ 64 then l
  else match l.find? (fun x => x.isOpen && !x.committed) with
    | none => l
    | some y => l.map (fun x => if x.seq = y.seq then { x with isOpen := false } else x)

/-- Create a record, or coalesce (R413-R415, R418, R423). -/
def createRec (s : State) (e : Event) : State :=
  let sev := Ev.severity e.cls
  if s.recd.degraded ∧ sev < 4 then setRec s (fun r => { r with rejected := min (r.rejected + 1) (2 ^ 32 - 1) })
  else match s.recd.ring.find? (coalescesWith s e) with
  | some y =>
    let sat := decide (y.rep + 1 = 65535)
    setRec s (fun r => { r with ring := r.ring.map (fun x => if x.seq = y.seq then
      { x with rep := x.rep + 1, payload := mergePayload e.cls x.payload e.payload, flags := if sat then x.flags ||| 4 else x.flags, isOpen := !sat } else x) })
  | none =>
    let seq := s.recd.next
    let s := setRec s (fun r => { r with next := seq + 1, wraps := if seq + 1 = 0 then (r.wraps + 1) % 65536 else r.wraps })
    let s := putAnchor s seq
    let open_ := Ev.coalesces e.cls && decide (0 < param s pEvtCoalesceMs (Ev.number e.cls))
    let fl : Byte := (if s.recd.degraded then 1 else 0) ||| (if e.replay then 2 else 0)
    let x : EvRec := { seq := seq, era := s.recd.era, cls := e.cls, sev := sev, flags := fl, src := e.src, object := e.object, payload := e.payload, born := s.t0, isOpen := open_ }
    setRec s (fun r => let r := placeRec r (ringCap s) x; { r with ring := closeEarly r.ring })

/-- EVENT_RECORD_CREATE (R413): the oldest event on its way reaches the recorder. -/
def execEventRecordCreate (s : State) : Res :=
  match s.evq with
  | [] => .next s
  | e :: r => .next (createRec { s with evq := r } e)

/-- COALESCE_WINDOW_END (R414): the oldest open record whose window has passed closes. -/
def execCoalesceWindowEnd (s : State) : Res :=
  match s.recd.ring.find? (fun x => x.isOpen && !x.committed && decide (x.born + param s pEvtCoalesceMs (Ev.number x.cls) * ms ≤ s.t0)) with
  | none => .next s
  | some y => .next (setRec s (fun r => { r with ring := r.ring.map (fun x => if x.seq = y.seq then { x with isOpen := false } else x) }))

/-- Records in a journal sector and sectors in the journal (R416). -/
def sectorRecs : Nat := 1024
/-- Sectors of the journal. -/
def sectorCount : Nat := 128

/-- Append a record to the journal; none when no erased sector is left for it (R416). -/
def journalAppend (j : List (List EvRec)) (x : EvRec) : Option (List (List EvRec)) :=
  match j.getLast? with
  | some l => if l.length < sectorRecs then some (j.dropLast ++ [l ++ [x]]) else if j.length < sectorCount then some (j ++ [[x]]) else none
  | none => some [[x]]

/-- Commit one record: to the journal, or lost where no sector is left (R415, R416). -/
def commitRec (s : State) (x : EvRec) : State :=
  let x' := { x with isOpen := false, committed := true }
  let s := setRec s (fun r =>
    let r := match journalAppend r.journal x' with | some j => { r with journal := j } | none => countLost r x.sev
    { r with committedSeq := x.seq, ring := r.ring.map (fun y => if y.seq = x.seq then x' else y) })
  match s.recd.clearing with
  | some (m, t) =>
    if x.cls = .clear then finish (setRec s (fun r => { r with clearing := none })) { mb := ⟨m % 8, Nat.mod_lt _ (by decide)⟩, tag := bv 5 t } 0x0626 true 0 else s
  | none => s

/-- RECORD_COMMIT (R415): the next record in SEQ order, once it has closed; nothing after a flash fault. -/
def execRecordCommit (s : State) : Res :=
  match s.recd.ring.find? (fun x => !x.committed) with
  | none => .next s
  | some x => if x.isOpen ∨ s.recd.flashFailed then .next s else .next (commitRec s x)

/-- JOURNAL_SECTOR_RECLAIM (R416): with fewer than 2 erased sectors the oldest is copied forward above the lowest severity and erased. -/
def execJournalSectorReclaim (s : State) : Res :=
  let j := s.recd.journal
  match j with
  | [] => .next s
  | old :: rest =>
    if j.length + 2 ≤ sectorCount then .next s
    else
      let low := j.flatten.foldl (fun a x => min a x.sev) 7
      let keep := old.filter (fun x => decide (low < x.sev) || x.sev == 7)
      let new := keep.foldl (fun (a : Option (List (List EvRec))) x => a.bind (fun j => journalAppend j x)) (some rest)
      match new with
      | some n => if sectorCount ≤ n.length then .next s else .next (setRec s (fun r => { r with journal := n, copied := min (r.copied + keep.length) (2 ^ 32 - 1) }))
      | none => .next s

/-- The Pocket last-word slot (R420): the sequence fields, and a fault's code, address and instant where there is one. -/
def putLastWord (s : State) (fault : Option (Nat × Nat)) : State :=
  let r := s.recd
  let f := fault.getD (0, 0)
  let b := leBytes 1 (if fault.isSome then 3 else 1) ++ [0] ++ leBytes 2 r.era.toNat ++ leBytes 4 (r.next - 1).toNat ++ leBytes 4 r.committedSeq.toNat ++
    leBytes 2 r.wraps ++ leBytes 2 f.1 ++ leBytes 4 f.2 ++ leBytes 8 (if fault.isSome then s.t0 else 0) ++ List.replicate 32 0
  setPocket s (fun p => { p with mem := mwrites p.mem 0x100 (b ++ leBytes 4 (crc32c b).toNat) })

/-- RECORDER_FAULT (R423): code 1 to 4 and address; the last word, the Ridge report, the degraded mark, the fallback ring. -/
def execRecorderFault (code : Fin 4) (addr : Word) (s : State) : Res :=
  if s.recd.degraded then .next s
  else
    let s := putLastWord s (some (code.val + 1, addr.toNat))
    let s := report s 0x0C01 0x00 code.val addr.toNat
    let s := setRec s (fun r => { r with degraded := true, flashFailed := decide (2 ≤ code.val), ring := r.ring.filter (fun x => !x.committed) })
    .next (irq (note (sysPoint s 3 1) Ev.recorderDegraded 0x00 0 0 [code.val + 1, addr.toNat]) 19)

/-! ### Reading (R410, R417, R418, R555) -/

/-- A record's payload bytes (R410, R544). -/
def payloadBytes (c : Ev) (p : List DWord) : List Byte :=
  let g (i : Nat) : Nat := ((p[i]?).getD 0).toNat
  let b := match c with
    | .configChange => leBytes 1 (g 0) ++ leBytes 1 (g 1) ++ leBytes 1 (g 2) ++ leBytes 1 (g 3) ++ leBytes 8 (g 4) ++ leBytes 8 (g 5) ++ leBytes 8 (g 6)
    | .hostAction => leBytes 2 (g 0) ++ leBytes 1 (g 1) ++ leBytes 1 (g 2) ++ leBytes 2 (g 3) ++ [0, 0] ++ leBytes 8 (g 4) ++ leBytes 8 (g 5) ++ leBytes 8 (g 6) ++ leBytes 4 (g 7)
    | c => Config.classPayload c p
  (b ++ List.replicate 36 0).take 36

/-- A record's 64 bytes (R410). -/
def evBytes (x : EvRec) : List Byte :=
  let b := leBytes 4 x.seq.toNat ++ leBytes 2 x.era.toNat ++ leBytes 2 (Ev.number x.cls) ++ leBytes 1 x.sev ++ [x.flags] ++ leBytes 2 x.rep ++
    leBytes 4 x.src.toNat ++ leBytes 4 x.object.toNat ++ payloadBytes x.cls x.payload ++ [0xA5, 0, 0, 0]
  b ++ leBytes 4 (crc32c b).toNat

/-- Every record kept: the journal, then what the ring still has to commit. -/
def recsKept (s : State) : List EvRec := s.recd.journal.flatten ++ s.recd.ring.filter (fun x => !x.committed)

/-- EVT_READ (R555): records of one era from a sequence number on; one older than the oldest kept is 0x0405. -/
def execEvtRead (r : Req) (s : State) : Res :=
  let era := fld r.payload 0 2
  let from_ := fld r.payload 4 4
  let n := fld r.payload 8 2
  .next (command s r 0x0620 false allModes 12
    (r.target == 0 && fld r.payload 2 2 == 0 && decide (1 ≤ n ∧ n ≤ 63) && fld r.payload 10 2 == 0) (fun s =>
    let l := (recsKept s).filter (fun x => x.era.toNat == era)
    match l with
    | [] => if era = s.recd.era.toNat then finish s r 0x0620 false 0 (leBytes 4 0) else finish s r 0x0620 false 0x0405
    | x :: _ =>
      if later 32 x.seq.toNat from_ then finish s r 0x0620 false 0x0405
      else
        let got := (l.filter (fun y => y.seq.toNat == from_ || later 32 y.seq.toNat from_)).take n
        finish s r 0x0620 false 0 (leBytes 4 got.length ++ got.flatMap evBytes)))

/-- The recorder header (R417). -/
def recHeader (s : State) : List Byte :=
  let r := s.recd
  let oldest := match recsKept s with | x :: _ => x.seq.toNat | [] => r.next.toNat
  leBytes 2 r.era.toNat ++ leBytes 2 r.wraps ++ leBytes 4 r.next.toNat ++ leBytes 4 r.committedSeq.toNat ++ leBytes 4 oldest ++ leBytes 4 r.lostTop ++
    leBytes 4 r.lostLow ++ leBytes 4 r.rejected ++ leBytes 4 r.copied ++ leBytes 4 ((if r.degraded then 1 else 0) + (if r.flashFailed then 2 else 0))

/-- EVT_STATUS_GET (R417). -/
def execEvtStatusGet (r : Req) (s : State) : Res :=
  .next (command s r 0x0621 false allModes 0 (r.target == 0) (fun s => finish s r 0x0621 false 0 (recHeader s)))

/-- Write bytes into the bulk window. -/
def bulkPut (s : State) (off : Nat) (b : List Byte) : State := bulkCount { s with host := { s.host with bulk := mwrites s.host.bulk off b } } b.length

/-- The longest list of leading pieces that fits in `room` bytes. -/
def fitting : Nat → List (List Byte) → List (List Byte)
  | _, [] => []
  | room, b :: l => if b.length ≤ room then b :: fitting (room - b.length) l else []

/-- EVT_CLASSES_GET (R412, R555): the definitions from a class on, as many as fit. -/
def execEvtClassesGet (r : Req) (s : State) : Res :=
  let first := fld r.payload 0 2
  let bo := fld r.payload 4 4
  let bl := fld r.payload 8 4
  .next (command s r 0x0622 false allModes 12 (r.target == 0 && fld r.payload 2 2 == 0 && bulkOk bo bl) (fun s =>
    if bulkBusy s bo bl then finish s r 0x0622 false 0x0509
    else
      let l := fitting bl (((List.range 1024).drop first).filterMap Config.classDef)
      finish (bulkPut s bo l.flatten) r 0x0622 false 0 (leBytes 4 l.length ++ leBytes 4 l.flatten.length)))

/-- An anchor's 32 bytes (R418). -/
def anchorBytes (a : Anchor) : List Byte :=
  let b := leBytes 2 a.era.toNat ++ leBytes 2 a.wraps ++ leBytes 4 a.seq.toNat ++ leBytes 8 a.t0 ++ leBytes 8 a.t1 ++ leBytes 1 a.reason ++ leBytes 1 a.t1State ++ [0, 0]
  b ++ leBytes 4 (crc32c b).toNat

/-- EVT_ANCHORS_GET (R418): anchors of one era and wrap count from a sequence number on. -/
def execEvtAnchorsGet (r : Req) (s : State) : Res :=
  let era := fld r.payload 0 2
  let wr := fld r.payload 2 2
  let from_ := fld r.payload 4 4
  let n := fld r.payload 8 2
  .next (command s r 0x0623 false allModes 12 (r.target == 0 && decide (1 ≤ n ∧ n ≤ 126) && fld r.payload 10 2 == 0) (fun s =>
    let l := s.recd.anchors.filter (fun a => a.era.toNat == era && a.wraps == wr)
    match l with
    | [] => finish s r 0x0623 false 0x0405
    | _ => let got := (l.filter (fun a => decide (from_ ≤ a.seq.toNat))).take n
           finish s r 0x0623 false 0 (leBytes 4 got.length ++ got.flatMap anchorBytes)))

/-! ### Clearing (R422) -/

/-- EVT_SECRET_SET: the secret is stored once. -/
def execEvtSecretSet (r : Req) (s : State) : Res :=
  .next (command s r 0x0624 true [.config, .idle] 32 (r.target == 0) (fun s =>
    if s.recd.secret.isSome then finish s r 0x0624 true 0x0705
    else finish (setRec s (fun x => { x with secret := some (r.payload.take 32) })) r 0x0624 true 0))

/-- EVT_CLEAR_CHALLENGE: 16 random bytes, which replace an earlier challenge. -/
def execEvtClearChallenge (r : Req) (s : State) : Res :=
  .next (command s r 0x0625 true [.config, .idle, .maint] 0 (r.target == 0) (fun s =>
    if s.recd.secret.isNone then finish s r 0x0625 true 0x0703
    else if s.t0 < s.recd.lockedUntil then finish s r 0x0625 true 0x0704
    else
      let (a, s) := fresh s
      let (b, s) := fresh s
      let c := leBytes 8 a.toNat ++ leBytes 8 b.toNat
      finish (setRec s (fun x => { x with challenge := some (c, s.t0) })) r 0x0625 true 0 c))

/-- A wrong response is counted; the fifth within 10 min locks clearing for 10 min. -/
def clearFailed (s : State) (r : Req) : State :=
  let l := (s.recd.authFails.filter (fun t => decide (s.t0 < t + 600 * sec))) ++ [s.t0]
  let s := setRec s (fun x => { x with authFails := if 5 ≤ l.length then [] else l, lockedUntil := if 5 ≤ l.length then s.t0 + 600 * sec else x.lockedUntil })
  finish (note s Ev.clearAuthFail 0x48 r.mb) r 0x0626 true 0x0701

/-- EVT_CLEAR: a response that the HMAC confirms erases ring, journal and anchors and resets the counters; the CLEAR record comes first and its commit answers. -/
def execEvtClear (r : Req) (s : State) : Res :=
  .next (command s r 0x0626 true [.config, .idle, .maint] 32 (r.target == 0) (fun s =>
    match s.recd.secret with
    | none => finish s r 0x0626 true 0x0703
    | some key =>
      if s.t0 < s.recd.lockedUntil then finish s r 0x0626 true 0x0704
      else match s.recd.challenge with
      | none => finish s r 0x0626 true 0x0702
      | some (c, t) =>
        let s := setRec s (fun x => { x with challenge := none })
        if t + 60 * sec < s.t0 then finish s r 0x0626 true 0x0702
        else
          let msg := c ++ leBytes 8 Config.serial.toNat ++ leBytes 2 s.recd.era.toNat ++ leBytes 4 s.recd.next.toNat ++ [0x43, 0x4C, 0x45, 0x41, 0x52]
          if hmac key msg ≠ r.payload.take 32 then clearFailed s r
          else
            let kept := recsKept s
            let lo := match kept with | x :: _ => x.seq.toNat | [] => s.recd.next.toNat
            let s := accepted s r 0x0626
            let s := setRec s (fun x => { x with
              ring := [], journal := [], anchors := [], anchorDue := some (x.anchorDue.getD 5), lostTop := 0, lostLow := 0, rejected := 0, copied := 0
              clearing := some (r.mb.val, r.tag.toNat) })
            createRec s ⟨.clear, bv 32 (0x48 * 2 ^ 24 + r.mb.val), 0, [bv 64 lo, bv 64 (s.recd.next - 1).toNat, bv 64 kept.length], false⟩))

end Sys2Proof.Machine
end

