-- ==== Sys2Proof/Machine/Acquire.lean ====
section
/-! DEFINITION. Capture units and the trigger bus (R370-R393). -/

namespace Sys2Proof.Machine

/-- A capture unit. -/
def acqUnit (s : State) (u : Nat) : AcqUnit := tget {} s.acq u
/-- Change it. -/
def setAcq (s : State) (u : Nat) (f : AcqUnit → AcqUnit) : State := { s with acq := tmod {} s.acq u f }
/-- A trigger line. -/
def trgLine (s : State) (n : Nat) : TrgLine := tget {} s.lines n
/-- Change it. -/
def setTrgLine (s : State) (n : Nat) (f : TrgLine → TrgLine) : State := { s with lines := tmod {} s.lines n f }

/-- The modes in which units capture (R370). -/
def acqModes : List Mode := [.idle, .run, .hold, .maint, .test, .standby, .safe, .update]

/-- The island of a unit. -/
def acqIsl (u : Nat) : Nat := if u ≤ 15 then 0x2C else 0x2D

/-- A unit's sources in order (R371). -/
def acqSrcs (s : State) (u : Nat) : List Nat := ((List.range 8).map (fun k => param s (pAcqSrc0 + k) u)).takeWhile (· != 0)

/-- The sample interval in ns of a unit's kind (R372). -/
def acqTs (s : State) (u : Nat) : Nat :=
  match param s pAcqSrcKind u with
  | 0 =>
    let r := param s pAiRate (ptIndex (param s pAcqSrc0 u) / 16)
    let r := max 1 r
    10 * ((2 * 10 ^ 8 + r) / (2 * r))
  | 1 => 1000
  | _ => param s pAcqPointInterval u * us

/-- The frame interval in ns; 0 in CHANGE (R381). -/
def acqFrame (s : State) (u : Nat) : Nat := if param s pAcqFormat u = 2 then 0 else max 1 (param s pAcqDecim u) * acqTs s u

/-- Bytes of one sample (R372). -/
def acqBytes (s : State) (u : Nat) : Nat :=
  match param s pAcqSrcKind u with
  | 0 => if param s pAcqFormat u = 2 ∧ param s pAiConv (ptIndex (param s pAcqSrc0 u) / 16) = 1 then 4 else 2
  | 3 => 8
  | _ => 2

/-- The start of the frame that contains an instant. -/
def frameOf (s : State) (u t : Nat) : Nat := let f := acqFrame s u; if f = 0 then t else t / f * f

/-- A unit's LIVE parameters as its arm reads them (R375). -/
def acqCfg (s : State) (u : Nat) : List Nat :=
  [pAcqMode, pAcqTrigKind, pAcqTrigSrc, pAcqTrigLevel, pAcqTrigLevel2, pAcqTrigHyst, pAcqQualifier, pAcqHoldoff, pAcqAutoTimeout, pAcqTrigOut,
   pAcqDeadband, pAcqDisableDeadline, pAcqRingPolicy].map (fun c => param s c u)
/-- One of them. -/
def AcqUnit.get (m : AcqUnit) (i : Nat) : Nat := (m.cfg[i]?).getD 0

/-- Bytes a record takes in its ring: whole blocks of 64 (R380). -/
def recSize (r : AcqRec) : Nat := (r.bytes.length + 63) / 64 * 64

/-- Publish a unit's facets (R393). -/
def acqPoints (s : State) (u : Nat) : State :=
  let m := acqUnit s u
  let use := ((m.recs.map recSize).sum * 10000) / (max 1 (param s pAcqRingMib u) * 2 ^ 20)
  updates s s.t0 ([m.st, m.pool.length, m.done, (m.recno + 2 ^ 32 - 1) % 2 ^ 32, m.missed, m.missNow, m.missT0 / us, m.gaps, m.lost, m.lastFlags.toNat,
    (match m.recs with | r :: _ => r.recno | [] => m.recno), use, m.undriven].mapIdx (fun k v => (ptid 0x16 (u * 256 + k), bv 32 v, 0)))

/-! ### Arming and disabling (R375, R386) -/

/-- Arm a unit: read its LIVE parameters and fill the pool from now. -/
def acqArm (s : State) (u : Nat) (keepPool : Bool) : State :=
  let cfg := acqCfg s u
  acqPoints (setAcq s u (fun m => { m with
    st := 2, cfg := cfg, armedAt := s.t0, filling := true, disableAt := none, ringFull := false
    fillFrom := if keepPool then m.fillFrom else s.t0, pool := if keepPool then m.pool else [], base := if keepPool then m.base else m.vals
    preRestart := keepPool && m.preRestart, grp := if keepPool then m.grp else none })) u

/-- Disable a unit: an armed one discards its pool; an open record goes on to its end or the deadline. -/
def acqDisable (s : State) (u st : Nat) : State :=
  let m := acqUnit s u
  if m.st = 3 then setAcq s u (fun m => { m with disableAt := some (m.disableAt.getD s.t0), stopTo := st })
  else acqPoints (setAcq s u (fun m => { m with st := st, pool := [], grp := none, filling := false, gapN := none })) u

/-- Whether a unit may capture now (R370). -/
def acqMay (s : State) (u : Nat) : Bool := flag s pAcqEnable u && acqModes.contains s.mode.cur

/-- The state a disabled unit ends in: STOPPED after ACQ_STOP while it may capture, else DISABLED. -/
def stopState (s : State) (u : Nat) : Nat := if acqMay s u then (acqUnit s u).stopTo else 0

/-- Bring a unit to what its enable and the mode say: it arms by enable, and it is disabled without it. -/
def acqSync (s : State) (u : Nat) : State :=
  let m := acqUnit s u
  if acqMay s u then (if m.st = 0 then acqArm s u false else s)
  else if m.st = 0 then s else if m.st = 3 ∧ m.disableAt.isSome then s else acqDisable s u 0

/-! ### The record (R381-R384) -/

/-- The item's instant. -/
def AcqItem.time : AcqItem → Nat
  | .frame t _ => t
  | .entry t _ _ _ => t
  | .gap t _ => t

/-- Frames in an item. -/
def AcqItem.count : AcqItem → Nat
  | .gap _ n => n
  | _ => 1

/-- A chunk's header. -/
def chunkHead (ty : Nat) (first : Int) (count bytes : Nat) : List Byte :=
  leBytes 1 ty ++ [0, 0, 0] ++ leBytes 4 (BitVec.ofInt 32 first).toNat ++ leBytes 4 count ++ leBytes 4 bytes

/-- Close a run of frames as one DATA chunk. -/
def chunkRun (first : Int) (run : List (List Byte)) : List Byte :=
  if run.isEmpty then [] else let b := run.flatten; chunkHead 1 first run.length b.length ++ b

/-- The chunks of frames and gaps in order: at most 4,096 bytes each (R382). Arguments: interval, trigger frame, the run so far. -/
def chunkData (iv tf : Nat) : Int → List (List Byte) → List AcqItem → List Byte
  | first, run, [] => chunkRun first run
  | first, run, .frame t b :: l =>
    let k : Int := ((t : Int) - tf) / (iv : Int)
    if run.isEmpty then chunkData iv tf k [b] l
    else if 4096 < run.flatten.length + b.length ∨ k ≠ first + run.length then chunkRun first run ++ chunkData iv tf k [b] l
    else chunkData iv tf first (run ++ [b]) l
  | first, run, .gap t n :: l => chunkRun first run ++ chunkHead 2 (((t : Int) - tf) / (iv : Int)) n 0 ++ chunkData iv tf 0 [] l
  | first, run, .entry _ _ _ _ :: l => chunkData iv tf first run l

/-- An 8-byte entry of the change stream (R383). -/
def tkEntry (t src code val : Nat) : List Byte := leBytes 4 (t / 10) ++ leBytes 1 src ++ leBytes 1 code ++ leBytes 2 val

/-- The bytes of a source's value: V16, or V32 with its extension entry. -/
def tkValue (wide : Bool) (t src : Nat) (v : Word) (q : Nat) : List Byte :=
  if wide then tkEntry t src 1 0 ++ leBytes 4 v.toNat ++ leBytes 1 q ++ [0, 0, 0] else tkEntry t src 0 v.toNat

/-- Insert in order of instant, then of rank; equal ones keep their order. -/
def tkInsert (x : Nat × Nat × List Byte) : List (Nat × Nat × List Byte) → List (Nat × Nat × List Byte)
  | [] => [x]
  | y :: l => if x.1 < y.1 ∨ (x.1 = y.1 ∧ x.2.1 ≤ y.2.1) then x :: y :: l else y :: tkInsert x l

/-- The ns after which TAG wraps. -/
def tkEpoch : Nat := 2 ^ 32 * 10

/-- The change stream of a record from T_FIRST to `stop` (R383, R384). -/
def tkData (wide : Bool) (r : AcqOpen) (stop nsrc : Nat) : List Byte :=
  let full := r.base.mapIdx (fun i v => (r.first, 1, tkValue wide r.first i v.1 v.2))
  let ents := r.items.map (fun x => match x with
    | .entry t src v q => (t, 3, tkValue wide t src v q)
    | .gap t n => (t, 3, tkEntry t 0xFF 2 (2 ^ nsrc - 1) ++ leBytes 4 n ++ [0, 0, 0, 0])
    | .frame t b => (t, 3, b))
  let e0 := r.first / tkEpoch
  let wraps := (List.range (stop / tkEpoch - e0)).map (fun k => ((e0 + k + 1) * tkEpoch, 0, tkEntry ((e0 + k + 1) * tkEpoch) 0xFF 1 (e0 + k + 1)))
  let all : List (Nat × Nat × List Byte) := full ++ ents ++ wraps ++ [(r.t, 2, tkEntry r.t 0xFF 3 0)]
  (all.foldr tkInsert []).flatMap (fun x => x.2.2)

/-- A record's bytes: header, source table, data (R381). -/
def recBytes (s : State) (u : Nat) (r : AcqOpen) (recno stop : Nat) (flags : BitVec 16) : List Byte :=
  let srcs := acqSrcs s u
  let iv := acqFrame s u
  let pre := r.items.filter (fun x => decide (x.time < r.tf))
  let post := r.items.filter (fun x => decide (r.tf ≤ x.time))
  let wide := acqBytes s u != 2
  let data := if iv = 0 then tkData wide r stop srcs.length else chunkData iv r.tf 0 [] pre ++ chunkData iv r.tf 0 [] post
  let body := leBytes 1 (param s pAcqFormat u) ++ leBytes 1 u ++ leBytes 2 flags.toNat ++ leBytes 4 recno ++ leBytes 1 (param s pAcqSrcKind u) ++ leBytes 1 srcs.length ++
    leBytes 1 (acqBytes s u) ++ leBytes 1 r.kind ++ leBytes 8 r.t ++ leBytes 8 r.t1 ++ leBytes 8 r.first ++ leBytes 4 iv ++ leBytes 2 (param s pAcqDecim u) ++
    leBytes 2 r.era.toNat ++ leBytes 4 (if iv = 0 then pre.length else (pre.map AcqItem.count).sum) ++ leBytes 4 (if iv = 0 then post.length else (post.map AcqItem.count).sum) ++
    leBytes 4 r.missed ++ leBytes 4 r.restarts ++ leBytes 8 r.missedT0 ++ leBytes 4 data.length ++ leBytes 4 r.gaps ++ leBytes 4 r.lost ++ leBytes 4 r.src ++
    leBytes 4 (crc32c data).toNat
  let head := leBytes 4 0x52514341 ++ body
  head ++ leBytes 4 (crc32c head).toNat ++ ((List.range 8).flatMap (fun k => leBytes 4 ((srcs[k]?).getD 0))) ++ data

/-- Drop the oldest records until a new one fits (R380). -/
def ringFit : Nat → List AcqRec → List AcqRec
  | _, [] => []
  | room, r :: l => if ((r :: l).map recSize).sum ≤ room then r :: l else ringFit room l

/-- Close the open record at an instant with flags; it goes into the ring, or with STOP and no room the unit stops with RING_FULL. -/
def acqClose (s : State) (u stop : Nat) (more : BitVec 16) : State :=
  let m := acqUnit s u
  match m.cur with
  | none => s
  | some r =>
    let iv := acqFrame s u
    let last : List AcqItem := match m.grp with
      | some (g, vs) => if param s pAcqFormat u = 1 ∧ g < stop ∧ iv ≠ 0 then [.frame g (vs.flatMap (fun v => leBytes 2 v.1.toNat ++ leBytes 2 v.2.toNat))] else []
      | none => []
    let gapI : List AcqItem := match m.gapN with | some n => if n = 0 then [] else [.gap m.gapT n] | none => []
    let r : AcqOpen := { r with items := r.items ++ last ++ gapI }
    let flags := r.flags ||| more ||| (if s.clock.refclk then 0 else 0x40)
    let x : AcqRec := { recno := m.recno, bytes := recBytes s u r m.recno stop flags }
    let room := param s pAcqRingMib u * 2 ^ 20
    let full := (m.recs.map recSize).sum + recSize x > room
    let base := m.vals
    let s := setAcq s u (fun m => { m with cur := none, pool := [], grp := none, base := base, gapN := m.gapN.map (fun _ => 0), gapT := stop })
    if full && m.get 12 == 1 then
      acqPoints (note (setAcq s u (fun m => { m with st := 1, filling := false, ringFull := true })) Ev.ringFull (acqIsl u) u 0 [m.recno]) u
    else
      acqPoints (setAcq s u (fun m => { m with
        recs := ringFit (room - recSize x) m.recs ++ [x], recno := (m.recno + 1) % 2 ^ 32, done := (m.done + 1) % 2 ^ 32, lastFlags := flags, st := 4 })) u

/-! ### Triggers (R374-R379, R389) -/

/-- The event tasks that a line's edge releases (R96): falling edges by bit 8. -/
def lineTasks (s : State) (n : Nat) (rise : Bool) (t : Nat) : State :=
  let ts := (s.sched.tasks.filter (fun e => e.2.kind == 1 && param s pTaskTrigger e.1 == 5 &&
    param s pTaskTriggerSrc e.1 % 4 == n && (param s pTaskTriggerSrc e.1 / 256 % 2 == 0) == rise)).map (fun e => (e.1, t))
  { s with sched := { s.sched with trigs := s.sched.trigs ++ ts } }

/-- A qualifier reads 1 with quality GOOD at the instant (R375). -/
def acqQualified (s : State) (m : AcqUnit) (t : Nat) : Bool :=
  m.get 6 == 0 || (let p := pgetAt s t (m.get 6); p.value == 1 && p.qual == 0)

/-- Items that a pool keeps at an instant: those of the last PRE_US (R377). -/
def poolFrom (pre t : Nat) (l : List AcqItem) : List AcqItem := l.filter (fun x => decide (t < x.time + pre ∨ t = x.time + pre))

/-- Ask the trigger bus for pulses on the lines of TRIG_OUT: driven at T + 4,000 ns unless learned too late (R389). -/
def acqDrive (s : State) (u t : Nat) : State :=
  (List.range 4).foldl (fun s n =>
    if !(bv 4 ((acqUnit s u).get 9)).getLsbD n then s
    else if t + 3900 < s.t0 then setAcq s u (fun m => { m with undriven := (m.undriven + 1) % 2 ^ 32, cur := m.cur.map (fun r => { r with flags := r.flags ||| 0x100 }) })
    else setTrgLine s n (fun d => { d with pulses := d.pulses ++ [t] })) s

/-- Open a record at trigger instant `t` (R377-R379, R381). -/
def acqOpen (s : State) (u t kind : Nat) (fl : BitVec 16) : State :=
  let m := acqUnit s u
  let tf := frameOf s u t
  let pre := param s pAcqPreUs u * us
  let held := poolFrom pre tf (m.pool.filter (fun x => decide (x.time < tf)))
  let after := m.pool.filter (fun x => decide (tf ≤ x.time))
  let iv := acqFrame s u
  let first := if iv = 0 then max m.fillFrom (tf - pre) else match held with | x :: _ => x.time | [] => tf
  let short := if iv = 0 then decide (tf < first + pre) else decide (held.length < (pre + iv - 1) / iv)
  -- values at T_FIRST: the base and what the pool held before it
  let base := (m.pool.filter (fun x => decide (x.time < first))).foldl (fun b x => match x with | .entry _ k v q => b.set k (v, q) | _ => b) m.base
  let r : AcqOpen := { t := t, tf := tf, first := first, kind := kind, src := m.get 2, items := held ++ after, base := base
                       flags := fl ||| (if short then 1 else 0) ||| (if m.preRestart then 0x80 else 0) ||| (if s.clock.refclk then 0 else 0x40)
                       missed := m.missNow, missedT0 := if m.missNow = 0 then 0 else m.missT0, t1 := t1At s t, era := s.recd.era
                       restarts := (pget s (ptid 0 1)).value.toNat }
  let s := setAcq s u (fun m => { m with st := 3, cur := some r, pool := [], missNow := 0, missT0 := 0, preRestart := false })
  acqPoints (acqDrive s u t) u

/-- A missed trigger (R378). -/
def acqMiss (s : State) (u t : Nat) : State :=
  acqPoints (setAcq s u (fun m => { m with missed := (m.missed + 1) % 2 ^ 32, missNow := min (m.missNow + 1) (2 ^ 32 - 1), missT0 := if m.missNow = 0 then t else m.missT0 })) u

/-- The holdoff's end: re-arm, or stop in SINGLE (R376, R378). -/
def holdoffEnd (s : State) (u : Nat) : State :=
  let m := acqUnit s u
  if !acqMay s u ∨ m.disableAt.isSome then acqDisable (setAcq s u (fun m => { m with disableAt := none })) u (stopState s u)
  else if m.get 0 = 1 then acqDisable s u 1
  else setAcq (acqArm s u true) u (fun x => { x with armedAt := m.holdEnd })

/-- The end of the switch of pool buffers: pool filling resumes at it (R378). -/
def switchDone (s : State) (u : Nat) : State :=
  let m := acqUnit s u
  if m.st = 4 ∧ !m.filling ∧ m.switchEnd ≤ s.t0 then
    setAcq s u (fun m => { m with filling := true, fillFrom := m.switchEnd, pool := [], grp := none, base := m.vals })
  else s

/-- A trigger of a unit at an instant with its flags; a record that opens triggers the units chained to it (R374, R378, R379). Fuel bounds the chain, which has no cycle (R373). -/
def acqTrigger : Nat → State → Nat → Nat → Nat → BitVec 16 → State
  | 0, s, _, _, _, _ => s
  | k + 1, s, u, t, kind, fl =>
    let s := acqSync s u
    let s := switchDone s u
    let s := if (acqUnit s u).st = 4 ∧ (acqUnit s u).holdEnd ≤ t ∧ (acqUnit s u).filling then holdoffEnd s u else s
    let m := acqUnit s u
    if m.st = 2 then
      if t < m.armedAt ∨ !acqQualified s m t then s
      else
        let s := acqOpen s u t kind fl
        (List.range 32).foldl (fun s v =>
          if v ≠ u ∧ (acqUnit s v).get 1 = 10 ∧ (acqUnit s v).get 2 = u then acqTrigger k s v t 10 0 else s) s
    else if m.st = 3 ∨ m.st = 4 then
      match m.cur with
      | some r => if r.t = t then setAcq s u (fun m => { m with cur := some { r with flags := r.flags ||| fl } })
                  else if r.t < t ∧ acqQualified s m t then acqMiss s u t else s
      | none => if acqQualified s m t then acqMiss s u t else s
    else s

/-- The value of a trigger source as binary64: raw counts, or VALUE converted to binary32 (R374). -/
def trigNum (s : State) (u : Nat) (p : Nat) (v : Word) : Nat :=
  if param s pAcqSrcKind u ≤ 1 then fofInt f64 v.toInt
  else match (pget s p).ty with
    | 2 => fconv f32 f64 (fofInt f32 v.toInt)
    | 4 => fconv f32 f64 v.toNat
    | 5 => fconv f32 f64 (fround f32 false (v.toInt < 0) v.toInt.natAbs (-31))
    | 6 => fconv f32 f64 (fround f32 false (v.toInt < 0) v.toInt.natAbs (-15))
    | _ => fconv f32 f64 (fofInt f32 (v.toNat : Nat))

/-- Whether a condition holds at a new value and whether it is ready for the next (R374): kind, the three levels, the old state. -/
def trigHolds (s : State) (m : AcqUnit) (u : Nat) (v : Word) (q : Nat) : Bool × Bool :=
  let lv (i : Nat) : Nat := fconv f32 f64 (m.get i)
  let x := trigNum s u (m.get 2) v
  let lo := lv 3
  let hi := lv 4
  let h := lv 5
  let inside := fle f64 lo x && fle f64 x hi
  match m.get 1 with
  | 1 => let r := m.ready || false; if r && fle f64 lo x then (true, false) else (false, r || fle f64 x (fsub f64 false lo h))
  | 2 => if m.ready && fle f64 x lo then (true, false) else (false, m.ready || fle f64 (fadd f64 false lo h) x)
  | 3 => if m.ready && !inside then (true, false) else (false, m.ready || inside)
  | 4 => if m.ready && inside then (true, false) else (false, m.ready || flt f64 x (fsub f64 false lo h) || flt f64 (fadd f64 false hi h) x)
  | k =>
    match m.prev with
    | none => (false, false)
    | some (pv, pq) =>
      (match k with
        | 5 => pv == 0 && v == 1
        | 6 => pv == 1 && v == 0
        | 7 => pv != v
        | 8 => pq == 0 && q != 0
        | _ => false, false)

/-- Whether a unit's trigger source is sampled by a tile: an input, coil or encoder line of its own kind. -/
def trigTile (s : State) (u : Nat) (m : AcqUnit) : Bool :=
  let p := m.get 2
  let k := param s pAcqSrcKind u
  (decide (k ≤ 1) && tilePoint p) || (k == 2 && (decide (2 ^ 30 ≤ p) || decide (ptRegion p = 1)))

/-- ACQ_TRIGGER_EVENT (R374): a sample of a tile source with instant and value, or a point's update at that instant, reaches the unit's trigger. -/
def execAcqTriggerEvent (u : Fin 32) (t : DWord) (v : Word) (s : State) : Res :=
  let s := acqSync s u.val
  let m := acqUnit s u.val
  let t := t.toNat
  if s.t0 < t ∨ m.st < 2 ∨ m.get 1 = 0 ∨ 9 ≤ m.get 1 then .next s
  else
    let (v, q) := if trigTile s u.val m then (v, 0) else let p := pgetAt s t (m.get 2); (p.value, p.qual)
    let (hit, ready) := trigHolds s m u.val v q
    let s := setAcq s u.val (fun m => { m with prev := some (v, q), ready := ready })
    if hit then .next (acqTrigger 32 s u.val t (m.get 1) 0) else .next s

/-- ACQ_AUTO_TIMEOUT (R376). -/
def execAcqAutoTimeout (u : Fin 32) (s : State) : Res :=
  let s := acqSync s u.val
  let m := acqUnit s u.val
  let due := m.armedAt + m.get 8 * ms
  if m.st = 2 ∧ m.get 0 = 2 ∧ due ≤ s.t0 then .next (acqTrigger 32 s u.val due 0 2) else .next s

/-! ### Samples (R372, R377, R382, R383, R385) -/

/-- Put an item where it belongs: the open record, or the pool, which drops what is older than PRE_US or does not fit. -/
def acqPut (s : State) (u : Nat) (x : AcqItem) : State :=
  let pre := param s pAcqPreUs u * us
  let kib := param s pAcqPoolKib u * 1024
  setAcq s u (fun m =>
    match m.cur with
    | some r => { m with cur := some { r with items := r.items ++ [x] } }
    | none =>
      if !m.filling then m
      else
        let l := m.pool ++ [x]
        let keep := poolFrom pre x.time l
        let room := match x with | .frame _ b => kib / max 1 b.length | _ => kib / 16
        let keep := keep.drop (keep.length - room)
        let gone := l.take (l.length - keep.length)
        { m with pool := keep, fillFrom := if room < l.length ∧ !keep.isEmpty then (match keep with | y :: _ => max m.fillFrom y.time | [] => m.fillFrom) else m.fillFrom
                 base := gone.foldl (fun b y => match y with | .entry _ k v q => b.set k (v, q) | _ => b) m.base })

/-- One sample of every source enters a frame (RAW, MINMAX). -/
def acqFrameIn (s : State) (u t : Nat) (vals : List Word) (raw : List Byte) : State :=
  let g := frameOf s u t
  let m := acqUnit s u
  let iv := acqFrame s u
  let inRec := match m.cur with | some r => decide (g < r.tf + max iv (param s pAcqPostUs u * us)) | none => true
  if param s pAcqFormat u = 0 then
    -- the first sample of each group
    if (match m.grp with | some (g', _) => g' == g | none => false) then s
    else
      let s := setAcq s u (fun m => { m with grp := some (g, []) })
      if inRec ∧ (g = t ∨ m.grp.isSome) then acqPut s u (.frame g raw) else s
  else match m.grp with
    | some (g', vs) =>
      if g' = g then setAcq s u (fun m => { m with grp := some (g, (vs.zip vals).map (fun x => (if x.2.toInt < x.1.1.toInt then x.2 else x.1.1, if x.1.2.toInt < x.2.toInt then x.2 else x.1.2))) })
      else
        let s := setAcq s u (fun m => { m with grp := some (g, vals.map (fun v => (v, v))) })
        let fits := match m.cur with | some r => decide (g' < r.tf + param s pAcqPostUs u * us) | none => true
        if fits then acqPut s u (.frame g' (vs.flatMap (fun v => leBytes 2 v.1.toNat ++ leBytes 2 v.2.toNat))) else s
    | none => if g = t then setAcq s u (fun m => { m with grp := some (g, vals.map (fun v => (v, v))) }) else s

/-- Whether a sample differs enough from the last written value (R383). -/
def changed (edge : Bool) (deadband : Nat) (old new : Word × Nat) : Bool :=
  if edge then old.1 != new.1 else old.2 != new.2 || decide (deadband < (new.1.toInt - old.1.toInt).natAbs)

/-- One sample of every source enters the change stream. -/
def acqChangeIn (s : State) (u t : Nat) (vals : List (Word × Nat)) : State :=
  let edge := param s pAcqSrcKind u = 2
  (vals.mapIdx (fun i v => (i, v))).foldl (fun s x =>
    let m := acqUnit s u
    match m.vals[x.1]? with
    | none => setAcq s u (fun m => { m with vals := m.vals ++ [x.2], base := m.base ++ [x.2] })
    | some old => if changed edge (m.get 10) old x.2 then acqPut (setAcq s u (fun m => { m with vals := m.vals.set x.1 x.2 })) u (.entry t x.1 x.2.1 x.2.2) else s) s

/-- CAPTURE_SAMPLE (R372): at sample instant `t` a unit takes a sample of its sources: `vals` what the tile samples, POINT sources from the image. -/
def execCaptureSample (u : Fin 32) (t : DWord) (vals : List Word) (s : State) : Res :=
  let s := acqSync s u.val
  let t := t.toNat
  let m := acqUnit s u.val
  let kind := param s pAcqSrcKind u.val
  let srcs := acqSrcs s u.val
  let iv := acqFrame s u.val
  let onGrid := decide (iv = 0) || decide (t % max 1 (acqTs s u.val) = 0)
  if s.t0 < t ∨ t < m.lastT ∨ !onGrid ∨ m.st < 2 ∨ srcs = [] ∨ (kind ≠ 3 ∧ vals.length ≠ srcs.length) then .next s
  else
    let s := setAcq s u.val (fun m => { m with lastT := t })
    let pts := srcs.map (fun p => pgetAt s t p)
    let vs := if kind = 3 then pts.map (fun p => (p.value, p.qual)) else vals.map (fun v => (v, 0))
    let raw := if kind = 3 then pts.flatMap (fun p => leBytes 8 p.entry.toNat) else vals.flatMap (fun v => leBytes 2 v.toNat)
    match m.gapN with
    | some n => .next (setAcq s u.val (fun m => { m with gapN := some (n + 1) }))
    | none => .next (acqPoints (if iv = 0 then acqChangeIn s u.val t vs else acqFrameIn s u.val t (vs.map (·.1)) raw) u.val)

/-- ACQ_GAP (R385): a capture buffer is full (on) or has space again (off). -/
def execAcqGap (u : Fin 32) (on : Bool) (s : State) : Res :=
  let m := acqUnit s u.val
  match m.gapN with
  | none => if !on then .next s else
    .next (note (setAcq s u.val (fun m => { m with gapN := some 0, gapT := match m.cur with | some _ => (match m.grp with | some (g, _) => g | none => m.lastT) | none => m.lastT })) Ev.acqGap (acqIsl u.val) u.val 0 [1])
  | some n =>
    if on then .next s
    else
      let s := setAcq s u.val (fun m => { m with gapN := none, gaps := (m.gaps + 1) % 2 ^ 32, lost := (m.lost + n) % 2 ^ 32 })
      let iv := acqFrame s u.val
      let g0 := frameOf s u.val m.gapT
      let frames := if iv = 0 then n else (frameOf s u.val m.lastT - g0) / iv + 1
      let s := match m.cur with
        | some _ =>
          let s := acqPut s u.val (.gap (if iv = 0 then m.gapT else g0) frames)
          setAcq s u.val (fun m => { m with grp := none, cur := m.cur.map (fun r => { r with flags := r.flags ||| 8, gaps := r.gaps + 1, lost := min (r.lost + n) (2 ^ 32 - 1) }) })
        | none => setAcq s u.val (fun m => { m with pool := [], base := m.vals, grp := none, fillFrom := s.t0, preRestart := true })
      .next (acqPoints (note s Ev.acqGap (acqIsl u.val) u.val 0 [0, n]) u.val)

/-! ### Ends (R378, R386) -/

/-- The record's end: a SINGLE unit stops, and so does a disabled one (R376, R386); else the pool buffers switch for 2 µs, then the holdoff runs. -/
def acqFinish (s : State) (u stop : Nat) (fl : BitVec 16) : State :=
  let was := acqUnit s u
  let hold := was.get 7 * us
  let s := acqClose s u stop fl
  if was.disableAt.isSome ∨ !acqMay s u then acqDisable (setAcq s u (fun m => { m with disableAt := none })) u (stopState s u)
  else if was.get 0 = 1 then acqDisable s u 1
  else setAcq s u (fun m => { m with filling := false, switchEnd := stop + 2000, holdEnd := stop + 2000 + hold })

/-- ACQ_RECORD_END (R378). -/
def execAcqRecordEnd (u : Fin 32) (s : State) : Res :=
  let m := acqUnit s u.val
  match m.cur with
  | none => .next s
  | some r => let stop := r.tf + param s pAcqPostUs u.val * us
              if s.t0 < stop then .next s else .next (acqFinish s u.val stop 0)

/-- ACQ_POOL_SWITCH_END (R378): pool filling resumes. -/
def execAcqPoolSwitchEnd (u : Fin 32) (s : State) : Res :=
  .next (switchDone s u.val)

/-- ACQ_HOLDOFF_END (R378). -/
def execAcqHoldoffEnd (u : Fin 32) (s : State) : Res :=
  let m := acqUnit s u.val
  if m.st = 4 ∧ m.filling ∧ m.holdEnd ≤ s.t0 then .next (holdoffEnd s u.val) else .next s

/-- ACQ_DISABLE_DEADLINE (R386): a disabled unit's open record closes with TRUNCATED. -/
def execAcqDisableDeadline (u : Fin 32) (s : State) : Res :=
  let s := acqSync s u.val
  let m := acqUnit s u.val
  match m.disableAt with
  | none => .next s
  | some t =>
    let due := t + m.get 11 * ms
    if m.cur.isNone ∨ s.t0 < due then .next s
    else .next (acqDisable (setAcq (acqClose s u.val due 4) u.val (fun m => { m with disableAt := none })) u.val (stopState s u.val))

/-! ### Trigger lines (R388-R391) -/

/-- Deliver an origin on a line to the units of kinds LINE and LINE_ANY and to event tasks. -/
def lineFire (s : State) (n t : Nat) : State :=
  let s := lineTasks s n true t
  (List.range 32).foldl (fun s u =>
    let m := acqUnit s u
    let hit := (m.get 1 == 9 && m.get 2 % 4 == n) || (m.get 1 == 11 && (bv 4 (m.get 2)).getLsbD n)
    if hit then acqTrigger 32 s u t (m.get 1) 0x20 else s) s

/-- Drive one pulse on a line now. -/
def drivePulse (s : State) (n t : Nat) : State :=
  send (setTrgLine s n (fun d => { d with driven := [t] })) Out.trgPulse n [(t : Int)]

/-- TRG_PULSE_DRIVE (R389): a pulse that is due is driven, and its origin handed to this device's own units and tasks; a calibration pulse triggers nothing here. -/
def execTrgPulseDrive (line : Fin 4) (s : State) : Res :=
  let n := line.val
  let d := trgLine s n
  match d.calib with
  | some (mb, tag, none) => .next (setTrgLine (drivePulse s n s.t0) n (fun d => { d with calib := some (mb, tag, some s.t0) }))
  | _ =>
    match d.pulses.filter (fun t => decide (t + 4000 ≤ s.t0)) with
    | t :: _ => .next (lineFire (drivePulse (setTrgLine s n (fun d => { d with pulses := d.pulses.filter (· != t) })) n (t + 4000)) n t)
    | [] => .next s

/-- TRG_EDGE_RECEIVE (R390): an edge tagged at `tag`; the returning edge of an own pulse is ignored, a rising edge within 2 µs of the previous one is merged, the first echo ends a calibration. -/
def execTrgEdgeReceive (line : Fin 4) (tag : DWord) (rise : Bool) (s : State) : Res :=
  let n := line.val
  let t := tag.toNat / 10 * 10
  let d := trgLine s n
  let own := d.driven.any (fun x => decide (x ≤ t ∧ t ≤ x + 2000))
  let origin := t - 4000 - param s pAcqTrgDelay n
  if s.t0 < t ∨ own then .next s
  else if !rise then .next (lineTasks s n false origin)
  else if (match d.lastRise with | some x => decide (t < x + 2000) | none => false) then
    .next (setTrgLine s n (fun d => { d with lastRise := some t, merged := d.merged + 1 }))
  else
    let s := setTrgLine s n (fun d => { d with lastRise := some t })
    match d.calib with
    | some (mb, tg, some x) =>
      let s := setTrgLine s n (fun d => { d with calib := none })
      .next (finish s { mb := ⟨mb % 8, Nat.mod_lt _ (by decide)⟩, tag := bv 5 tg } 0x0606 true 0 (leBytes 4 (t - x) ++ leBytes 4 ((t - x - 10000) / 2)))
    | _ =>
      let s := if flag s pAcqTrgEcho n then setTrgLine s n (fun d => { d with echoes := d.echoes ++ [t + 10000] }) else s
      .next (lineFire s n origin)

/-- TRG_ECHO (R391): the echo of a received pulse is driven 10,000 ns after its edge. -/
def execTrgEcho (line : Fin 4) (s : State) : Res :=
  let n := line.val
  match (trgLine s n).echoes with
  | e :: rest => if e ≤ s.t0 then .next (drivePulse (setTrgLine s n (fun d => { d with echoes := rest })) n e) else .next s
  | [] => .next s

/-- NO_ECHO (R545): no echo within 100 µs of the calibration pulse. -/
def execNoEcho (line : Fin 4) (s : State) : Res :=
  match (trgLine s line.val).calib with
  | some (mb, tg, some x) =>
    if s.t0 < x + 100 * us then .next s
    else .next (finish (setTrgLine s line.val (fun d => { d with calib := none })) { mb := ⟨mb % 8, Nat.mod_lt _ (by decide)⟩, tag := bv 5 tg } 0x0606 true 0x0409)
  | _ => .next s

/-! ### Commands (R374, R375, R380, R386, R391, R554) -/

/-- Do something for every unit of a mask. -/
def eachUnit (s : State) (mask : Nat) (f : State → Nat → State) : State :=
  (List.range 32).foldl (fun s u => if mask / 2 ^ u % 2 = 1 then f s u else s) s

/-- ACQ_ARM. -/
def execAcqArm (r : Req) (s : State) : Res :=
  .next (command s r 0x0601 true acqModes 4 (r.target == 0) (fun s =>
    finish (eachUnit s (fld r.payload 0 4) (fun s u => let s := acqSync s u; if (acqUnit s u).st = 1 ∧ acqMay s u then acqArm s u false else s)) r 0x0601 true 0))

/-- ACQ_TRIGGER: every named unit that is ARMED triggers at T0 of acceptance. -/
def execAcqTrigger (r : Req) (s : State) : Res :=
  .next (command s r 0x0602 true acqModes 4 (r.target == 0) (fun s =>
    finish (eachUnit s (fld r.payload 0 4) (fun s u => let s := acqSync s u; if (acqUnit s u).st = 2 then acqTrigger 32 s u s.t0 0 0x10 else s)) r 0x0602 true 0 (leBytes 8 s.t0)))

/-- ACQ_STOP. -/
def execAcqStop (r : Req) (s : State) : Res :=
  .next (command s r 0x0603 true allModes 4 (r.target == 0) (fun s =>
    finish (eachUnit s (fld r.payload 0 4) (fun s u => if (acqUnit s u).st = 0 then s else acqDisable s u 1)) r 0x0603 true 0))

/-- ACQ_READ. -/
def execAcqRead (r : Req) (s : State) : Res :=
  let u := fld r.payload 0 1
  let n := fld r.payload 4 4
  let bo := fld r.payload 8 4
  let bl := fld r.payload 12 4
  .next (command s r 0x0604 false allModes 16 (r.target == 0 && decide (u < 32) && fld r.payload 1 3 == 0 && bulkOk bo bl) (fun s =>
    let m := acqUnit s u
    if m.cur.isSome ∧ n = m.recno then finish s r 0x0604 false 0x0504
    else match m.recs.find? (fun x => x.recno == n) with
    | none => finish s r 0x0604 false 0x0405
    | some x =>
      if bl < x.bytes.length then finish s r 0x0604 false 0x0102
      else if bulkBusy s bo bl then finish s r 0x0604 false 0x0509
      else finish (bulkPut s bo x.bytes) r 0x0604 false 0 (leBytes 4 x.bytes.length)))

/-- ACQ_RELEASE: records up to and including RECNO; a unit that RING_FULL stopped arms again. -/
def execAcqRelease (r : Req) (s : State) : Res :=
  let u := fld r.payload 0 1
  let n := fld r.payload 4 4
  .next (command s r 0x0605 true allModes 8 (r.target == 0 && decide (u < 32) && fld r.payload 1 3 == 0) (fun s =>
    let m := acqUnit s u
    if !m.recs.any (fun x => x.recno == n) then finish s r 0x0605 true 0x0405
    else
      let s := setAcq s u (fun m => { m with recs := m.recs.filter (fun x => later 32 x.recno n) })
      let s := if m.ringFull ∧ acqMay s u then acqArm s u false else acqPoints s u
      finish s r 0x0605 true 0))

/-- TRG_CALIBRATE: one pulse, answered by the first echo edge or after 100 µs; a calibration in progress on the line makes the command wait, unbegun. -/
def execTrgCalibrate (r : Req) (s : State) : Res :=
  let n := fld r.payload 0 1
  .next (command s r 0x0606 true allModes 4 (r.target == 0 && decide (n < 4) && fld r.payload 1 3 == 0) (fun b =>
    if (trgLine s n).calib.isSome then s else setTrgLine b n (fun d => { d with calib := some (r.mb.val, r.tag.toNat, none) })))

end Sys2Proof.Machine
end

