-- ==== Sys2Proof/Machine/Analog.lean ====
section
/-! DEFINITION. Analog inputs, analog outputs and encoders: conversions, flags, self-tests, counts (R295-R309). -/

namespace Sys2Proof.Machine

/-- Since when a condition holds and since when it is absent. -/
def aiSince (d : AiSt) (k t : Nat) (v : Bool) : AiSt :=
  if v then { d with bad := tset d.bad k (tget t d.bad k), ok := tdel d.ok k } else { d with ok := tset d.ok k (tget t d.ok k), bad := tdel d.bad k }

/-- Whether a condition has held, or been absent, for `n` ns. -/
def heldFor (t : Tbl Nat) (k n now : Nat) : Bool := match tfind t k with | some x => decide (x + n ≤ now) | none => false

/-- The ends of a TC or RTD function in °C: -200 to 850 for an RTD (R299); those of a thermocouple type stand in IEC 60584-1 and are open here (DESIGN CHOICE, log 22). -/
def aiEnds (s : State) (a : Nat) : Option (Nat × Nat) :=
  match param s pAiMode a with
  | 6 => let e := Config.tcEnds (param s pAiTcType a); some (e.1.toNat, e.2.toNat)
  | 7 | 8 => some (0xC3480000, 0x44548000)
  | _ => none

/-- Whether the value lies below or above the range (R300): AI.RANGE, the function's ends, and 1.0 to 3.6 mA and 21.0 mA for MA_4_20. -/
def aiRange (s : State) (a : Nat) (x : Rat) : Bool × Bool :=
  let v := (aiValue s a s.t0).toNat
  let m4 := decide (param s pAiMode a = 4)
  let (lo, hi) := match aiEnds s a with | some e => (flt f32 v e.1, flt f32 e.2 v) | none => (false, false)
  (lo || flt f32 v (param s pAiRangeLo a) || (m4 && decide (1 ≤ x ∧ x ≤ 18 / 5)), hi || flt f32 (param s pAiRangeHi a) v || (m4 && decide (21 < x)))

/-- A conversion enters the average and the flags that follow the value (R298, R300). -/
def aiConvert (s : State) (a : Nat) (counts : Int) (x : Word) (lim : Int) : State :=
  let w := param s pAiAvg a * us
  let s := setAin s a (fun d => { d with conv := (d.conv.filter (fun e => decide (s.t0 < e.1 + w))) ++ (if w = 0 then [] else [(s.t0, x)]), x := x, counts := counts })
  let r := ratOf x.toNat
  let m := param s pAiMode a
  let s := aiFlag s a 1 (decide (counts ≤ -lim ∨ lim - 1 ≤ counts))
  let s := if m = 6 then aiFlag s a 5 (match cjPoint s a with | some p => !(p.qual == 0 || p.qual == 10 || p.qual == 7 || p.qual == 8 || p.qual == 1) | none => false) else s
  let (lo, hi) := aiRange s a r
  let s := setAin s a (fun d =>
    let d := aiSince (aiSince d 3 s.t0 lo) 2 s.t0 hi
    let d := if m = 4 then aiSince d 0 s.t0 (decide (r < 1)) else d
    if m = 3 ∨ m = 4 then aiSince d 4 s.t0 (decide (30 < r)) else d)
  let s := if lo then aiFlag s a 3 true else s
  if hi then aiFlag s a 2 true else s

/-- Whether an input converts: it has a mode and is not the odd half of an RTD (R297). -/
def aiActive (s : State) (a : Nat) : Bool := param s pAiMode a != 0 && populated s (aiPt a 0)

/-- SAR_CONVERSION_END (R298): a conversion of a SAR input: its counts and the quantity in V or mA. -/
def execSarConversionEnd (a : BitVec 7) (counts : BitVec 16) (x : Word) (s : State) : Res :=
  let a := a.toNat
  if !aiActive s a ∨ !aiSar s a then .next s else .next (aiRefresh (aiConvert s a counts.toInt x (2 ^ 15)) a s.t0)

/-- SIGMA_DELTA_CONVERSION_END (R298, R301, R309): a conversion with its test phase: `isOpen` the pin check, `off` the reference check failed. Two passing conversions clear OPEN_WIRE. -/
def execSigmaDeltaConversionEnd (a : BitVec 7) (counts : BitVec 24) (x : Word) (isOpen off : Bool) (s : State) : Res :=
  let a := a.toNat
  let m := param s pAiMode a
  if !aiActive s a ∨ aiSar s a then .next s
  else
    let s := aiConvert s a counts.toInt x (2 ^ 23)
    let s := if m < 5 then s
      else if isOpen then aiFlag (setAin s a (fun d => { d with passes := 0 })) a 0 true
      else
        let s := setAin s a (fun d => { d with passes := d.passes + 1 })
        if 2 ≤ (ain s a).passes then aiFlag s a 0 false else s
    let s := setAin s a (fun d => { d with okTests := if off then none else some (d.okTests.getD s.t0) })
    let s := if off && !(ain s a).flags.testBit 6 then report (aiFlag s a 6 true) 0x0A01 (0x60 + a / 32) a else s
    .next (aiRefresh s a s.t0)

/-- AI_FLAG_TIMER (R300): a condition has held, or been absent, for its time: 10 ms for OPEN_WIRE of MA_4_20 and for the range flags' clearing, 1 ms for OVERCURRENT, which opens the shunt. -/
def execAiFlagTimer (a : BitVec 7) (k : Fin 7) (s : State) : Res :=
  let a := a.toNat
  let d := ain s a
  match k.val with
  | 0 =>
    if param s pAiMode a ≠ 4 then .next s
    else if heldFor d.bad 0 (10 * ms) s.t0 then .next (aiFlag s a 0 true)
    else if heldFor d.ok 0 (10 * ms) s.t0 then .next (aiFlag s a 0 false) else .next s
  | 2 => .next (if heldFor d.ok 2 (10 * ms) s.t0 then aiFlag s a 2 false else s)
  | 3 => .next (if heldFor d.ok 3 (10 * ms) s.t0 then aiFlag s a 3 false else s)
  | 4 => .next (if heldFor d.bad 4 ms s.t0 && !d.flags.testBit 4 then aiFlag (setAin s a (fun d => { d with shuntAt := s.t0 })) a 4 true else s)
  | _ => .next s

/-- AI_SHUNT_RECLOSE (R300): every 1 s an opened shunt recloses and tests the current (mA, binary32); at most 25 mA ends OVERCURRENT. -/
def execAiShuntReclose (a : BitVec 7) (ma : Word) (s : State) : Res :=
  let a := a.toNat
  let d := ain s a
  if !d.flags.testBit 4 ∨ s.t0 < d.shuntAt + sec then .next s
  else
    let s := setAin s a (fun d => { d with shuntAt := s.t0, bad := tdel d.bad 4 })
    .next (if fle f32 ma.toNat 0x41C80000 then aiFlag s a 4 false else s)

/-- SAR_SELFTEST (R309): every 1 ms converter `k` of a tile converts its references; three bad results set SELFTEST_FAIL on its inputs. -/
def execSarSelftest (k : Fin 16) (good : Bool) (s : State) : Res :=
  let l := ((List.range 8).map (fun j => 8 * k.val + j)).filter (fun a => aiActive s a && aiSar s a)
  .next (l.foldl (fun s a =>
    let s := setAin s a (fun d => { d with fails := if good then 0 else d.fails + 1, okTests := if good then some (d.okTests.getD s.t0) else none })
    if 3 ≤ (ain s a).fails ∧ !(ain s a).flags.testBit 6 then report (aiFlag s a 6 true) 0x0A01 (0x60 + a / 32) a else s) s)

/-- The span of an output's mode (R302). -/
def aoSpan (m : Nat) : Rat := (aoRange m).2 - (aoRange m).1

/-- AO_SELFTEST (R309): the readback (binary32); a deviation above 0.5 % of span for 50 ms sets SELFTEST_FAIL; suspended with the switch open, OPEN_LOOP or OVERLOAD. -/
def execAoSelftest (a : Fin 32) (meas : Word) (s : State) : Res :=
  let a := a.val
  let d := aout s a
  match aoPin s a with
  | .inr _ => .next (setAout s a (fun d => { d with devSince := none }))
  | .inl v =>
    if d.flags.testBit 0 ∨ d.flags.testBit 1 then .next (setAout s a (fun d => { d with devSince := none }))
    else
      let e := ratOf meas.toNat - ratOf v.toNat
      let e := if e < 0 then -e else e
      let off := decide (aoSpan (param s pAoMode a) / 200 < e)
      let s := putField s (aoPt a 1) meas (aoConds s a)
      let s := setAout s a (fun d => { d with devSince := if off then some (d.devSince.getD s.t0) else none, okTests := if off then none else some (d.okTests.getD s.t0) })
      let late := match (aout s a).devSince with | some t => decide (t + 50 * ms ≤ s.t0) | none => false
      .next (if late && !d.flags.testBit 3 then report (aoFlag s a 3 true) 0x0A01 (0x60 + a / 8) (128 + a) else s)

/-- SELFTEST_CLEAR (R309): 1 s of passing tests clears SELFTEST_FAIL of an input (unit below 128) or an output. -/
def execSelftestClear (unit : Fin 160) (s : State) : Res :=
  let held (o : Option Nat) : Bool := match o with | some t => decide (t + sec ≤ s.t0) | none => false
  if unit.val < 128 then .next (if held (ain s unit.val).okTests then aiFlag s unit.val 6 false else s)
  else .next (if held (aout s (unit.val - 128)).okTests then aoFlag s (unit.val - 128) 3 false else s)

/-- AO_FLAG_TIMER (R304): an output has been in compliance or current limit, or out of it, for 10 ms: OPEN_LOOP in mA modes, OVERLOAD in V modes. -/
def execAoFlagTimer (a : Fin 32) (on : Bool) (s : State) : Res :=
  let a := a.val
  let m := param s pAoMode a
  if m = 0 then .next s else .next (aoFlag s a (if m = 3 ∨ m = 4 then 1 else 0) on)

/-! ### Encoders -/

/-- The count step of a transition of the filtered lines (R305); A leading B counts up (PRESUMED, log 23). -/
def encStep (m : Nat) (a b a' b' : Bool) : Int :=
  let fwd : Int := if a' == a then (if b' == a then 1 else -1) else (if a' == b then -1 else 1)
  match m with
  | 1 => if b then 0 else if a' && !a then 1 else if a && !a' then -1 else 0
  | 2 => if a' != a then fwd else 0
  | 3 => fwd
  | 4 => if a' && !a then (if b then -1 else 1) else 0
  | 5 => if a' && !a then 1 else if b' && !b then -1 else 0
  | _ => 0

/-- An uncertain count clears the reference of the axes that use the encoder (R308). -/
def encUnref (s : State) (e : Nat) : State :=
  ((List.range 32).filter (fun x => param s pAxisEnc x == e)).foldl (fun s x =>
    if (axis s x).referenced then keepCommit (modAxis s x (fun d => { d with referenced := false })) x else s) s

/-- Set or clear an encoder's flag. -/
def encFlag (s : State) (e k : Nat) (v : Bool) : State :=
  if (enc s e).flags.testBit k = v then s
  else
    let s := encRefresh (setEnc s e (fun d => { d with flags := if v then d.flags + 2 ^ k else d.flags - 2 ^ k })) e s.t0
    if v ∧ k ≠ 2 then encUnref s e else s

/-- ENC_LINE_CHANGE (R306, R308): the filtered lines change; a change of both at once sets QUAD_ERR and is not counted. -/
def execEncLineChange (e : Fin 16) (a b : Bool) (s : State) : Res :=
  let e := e.val
  let d := enc s e
  let m := param s pEncMode e
  if m = 0 then .next s
  else
    let both := d.a != a && d.b != b
    let s1 := setEnc s e (fun d => { d with a := a, b := b })
    if d.flags.testBit 1 then .next s1
    else if both then .next (encFlag s1 e 0 true)
    else
      let st := encStep m d.a d.b a b
      let st := if flag s pEncDir e then -st else st
      if st = 0 then .next (encRefresh s1 e s.t0)
      else
        let w := 100 * ms + param s pEncVelWindow e * us
        let kept := d.edges.filter (fun x => decide (s.t0 < x.1 + w))
        let kept := if kept.isEmpty then d.edges.getLast?.toList else kept
        let s := setEnc s1 e (fun d => { d with count := d.count + BitVec.ofInt 32 st, edges := kept ++ [(s.t0, st)] })
        let s := encRefresh s e s.t0
        .next (((List.range 32).filter (fun x => param s pAxisEnc x == e)).foldl axFacets s)

/-- ENC_INDEX (R307, R308): Z rises, gated with Z_GATE by A = B = 1; the count is latched under EVERY or when armed; homing takes it; PPR is checked. -/
def execEncIndex (e : Fin 16) (s : State) : Res :=
  let e := e.val
  let d := enc s e
  if param s pEncMode e = 0 ∨ (flag s pEncZGate e ∧ !(d.a && d.b)) then .next s
  else if !(decide (param s pEncIndex e = 1) || d.armed) then .next s
  else
    let ppr := param s pEncPpr e
    let s := setEnc s e (fun d => { d with latch := d.count, armed := false, lastIndex := some d.count })
    let s := match d.lastIndex with
      | some c => if ppr ≠ 0 ∧ param s pEncIndex e = 1 then encFlag s e 2 (decide ((d.count - c).toInt.natAbs ≠ ppr)) else s
      | none => s
    let s := encRefresh s e s.t0
    .next (((List.range 32).filter (fun x => param s pAxisEnc x == e)).foldl (fun s x =>
      setAxis s x (fun a => { a with indexE := some (gridOf ((d.count.toInt : Rat) * paramRat s pAxisEncRatio x)), indexSeen := a.indexSeen + 1 })) s)

/-- ENC_LINE_FAULT (R308): a differential pair at fault for 1 µs stops counting; with `on` false the fault has gone and its 10 ms begin. -/
def execEncLineFault (e : Fin 16) (on : Bool) (s : State) : Res :=
  let e := e.val
  if param s pEncMode e = 0 ∨ param s pEncInput e ≠ 0 then .next s
  else if on then .next (encFlag (setEnc s e (fun d => { d with faultAt := s.t0, lineBad := true })) e 1 true)
  else .next (setEnc s e (fun d => if d.lineBad then { d with faultAt := s.t0, lineBad := false } else d))

/-- LINE_FAULT_CLEAR (R308): after 10 ms without fault the flag clears and counting resumes. -/
def execLineFaultClear (e : Fin 16) (s : State) : Res :=
  let d := enc s e.val
  if !d.flags.testBit 1 ∨ d.lineBad ∨ s.t0 < d.faultAt + 10 * ms then .next s else .next (encFlag s e.val 1 false)

/-- ENC_VELOCITY_TIMEOUT (R307): no edge for 100 ms: the velocity is 0. -/
def execEncVelocityTimeout (e : Fin 16) (s : State) : Res :=
  match (enc s e.val).edges.getLast? with
  | none => .next s
  | some (t, _) => if s.t0 < t + 100 * ms then .next s else .next (encRefresh s e.val s.t0)

end Sys2Proof.Machine
end

