-- ==== Sys2Proof/Machine/AxisTile.lean ====
section
/-! DEFINITION. What a tile does with its axes: batches, segments, microsteps, limits, the disable deadline (R235-R251). -/

namespace Sys2Proof.Machine

/-- Raise the current to the run current for motion to come (R265). -/
def raiseCurrent (s : State) (x : Nat) : State :=
  let d := axis s x
  if d.drv = 1 ∨ d.drv = 2 ∨ d.drv = 3 then modAxis s x (fun d => { d with drv := 2, ramp := none, cur_ := iRun s x }) else s

/-- Take a batch (R235, R237): its stop tail is stored always; a locked axis takes segments only with RESYNC; one without segments orders the stop (R247). -/
def takeBatch (s : State) (b : Batch) : State :=
  let x := b.axis
  let s := setAxis s x (fun d => { d with stopA := b.stopA, stopJ := b.stopJ, stopHard := b.hard && !b.segs.isEmpty, after := b.after })
  let d := axis s x
  if b.segs.isEmpty then tileStop s x b.hard b.after (ratOf b.stopA.toNat) (ratOf b.stopJ.toNat)
  else if d.drv = 5 then s
  else if b.resync then
    let g := b.segs.headD { start := s.t0, p0 := 0, v0 := 0, a0 := 0, j := 0, seq := 0 }
    let s := modAxis s x (fun d => { d with buf := b.segs, cur := none, stop := none, locked := false, underrun := false, endT := g.start, lastSeq := (g.seq + 65535) % 65536 })
    if b.segs.any (fun g => !g.rest) then raiseCurrent s x else s
  else if d.locked then s
  else
    let s := setAxis s x (fun d => { d with buf := d.buf ++ b.segs })
    if b.segs.any (fun g => !g.rest) then raiseCurrent s x else s

/-- SEGMENT_BATCH_RECEIVE (R235): a tile receives the oldest batch sent to it. -/
def execSegmentBatchReceive (tile : Fin 4) (s : State) : Res :=
  match s.motion.out.find? (fun e => e.1 == tile.val) with
  | none => .next s
  | some e => .next (takeBatch { s with motion := { s.motion with out := s.motion.out.erase e } } e.2)

/-- SEGMENT_START (R237): at a segment boundary the next segment is checked and started, or the stop tail runs. -/
def execSegmentStart (ax : Fin 32) (s : State) : Res :=
  let x := ax.val
  let d := axis s x
  if d.locked ∨ d.stop.isSome ∨ s.t0 < d.endT then .next s
  else match d.buf with
  | [] => .next (tailStop (setAxis s x (fun d => { d with underrun := true })) x)
  | g :: r =>
    if g.start ≠ d.endT ∨ g.seq ≠ (d.lastSeq + 1) % 65536 then
      .next (note (tailStop s x) Ev.segDiscont (0x60 + x / 8) x 0 [g.seq, d.lastSeq])
    else
      let wasRest := d.atRest
      let s := modAxis s x (fun d => { d with buf := r, cur := some g, endT := g.start + 100000, lastSeq := g.seq, atRest := g.rest })
      .next (if g.rest && !wasRest then axisRest s x 0 else s)

/-- MICROSTEP_UPDATE (R235, R258, R262): every 200 ns the microstep index becomes the nearest integer of p, φ follows each step, and the coils take their targets. -/
def execMicrostepUpdate (ax : Fin 32) (s : State) : Res :=
  let x := ax.val
  if s.t0 % 200 ≠ 0 then .next s
  else
    let d := axis s x
    let (p, v, _) := d.at_ s.t0
    let n : Int := if d.drv = 5 then d.pos else nearOf p
    let dn := n - d.pos
    let unit := 2 ^ (8 - param s pAxisUstep x)
    let phi := ((d.phi : Int) + dn * unit).emod 1024
    let mag (r : Rat) : Rat := if r < 0 then -r else r
    let s := setAxis s x (fun d => { d with
      pos := n, phi := phi.toNat, vel := if d.drv = 5 then 0 else v
      neg := { d.neg with away := d.neg.latched && (d.neg.away || decide (0 < dn)) }
      plus := { d.plus with away := d.plus.latched && (d.plus.away || decide (dn < 0)) }
      slowSince := if d.chop = 2 ∧ mag v < d.fbVel / 2 then some (d.slowSince.getD s.t0) else none })
    let (ta, tb) := coilTargets s x
    let q : Nat := if (d.phi : Int) / 256 ≠ ((d.phi : Int) + dn * unit) / 256 then 1 else 0
    let s := setAxis s x (fun d => { d with pa := phaseTarget s d.pa ta (d.drv ≠ 0 ∧ d.drv ≠ 5) q, pb := phaseTarget s d.pb tb (d.drv ≠ 0 ∧ d.drv ≠ 5) q })
    let m := param s pAxisChopMode x
    let s := if (m = 1 ∧ (axis s x).chop = 2) ∨ (m = 2 ∧ (axis s x).chop = 1) then
        setAxis s x (fun d => { d with chop := m, pa := { d.pa with theta := 0 }, pb := { d.pb with theta := 0 } }) else s
    let s := if s.t0 % 100000 = 0 then meanTick s x else s
    .next (axFacets s x)
where
  /-- A phase takes its target (R258): code 0 holds slow decay; a change of sign passes through fast decay. -/
  phaseTarget (s : State) (p : PhaseSt) (t : Int) (on : Bool) (q : Nat) : PhaseSt :=
    let p : PhaseSt := { p with quarters := p.quarters + q }
    let flips : Bool := decide (p.target < 0) != decide (t < 0)
    if !on then { p with st := 0, target := 0 }
    else if t = 0 then
      if p.st = 1 then { p with target := 0, st := 4, next := 3, since := s.t0, blank := false }
      else { p with target := 0, st := if p.st = 0 then 3 else p.st }
    else if p.target ≠ (0 : Int) ∧ flips = true ∧ (p.st = 1 ∨ p.st = 3) then
      { p with target := t, st := 4, next := 2, since := s.t0, offAt := s.t0, blank := false }
    else if p.st = 0 then { p with target := t, st := 1, neg := decide (t < 0), since := s.t0, blank := true }
    else if p.st = 3 ∧ p.target = (0 : Int) then { p with target := t, st := 4, next := 1, since := s.t0 }
    else { p with target := t }
  /-- Facets 4 and 5: the mean of the samples of the tick that ends (R257). -/
  meanTick (s : State) (x : Nat) : State :=
    let d := axis s x
    let mean (p : PhaseSt) : Rat := (if p.cnt = 0 then (p.sensed : Rat) else (p.sum : Rat) / p.cnt) / 1000000
    let s := putField s (axPt x 4) (bv 32 (f32OfRat (mean d.pa)))
    let s := putField s (axPt x 5) (bv 32 (f32OfRat (mean d.pb)))
    setAxis s x (fun d => { d with pa := { d.pa with sum := 0, cnt := 0 }, pb := { d.pb with sum := 0, cnt := 0 } })

/-- STOP_COMPLETE (R236): the stop has come to rest, which is held as AFTER sets. -/
def execStopComplete (ax : Fin 32) (s : State) : Res :=
  let x := ax.val
  match (axis s x).stop with
  | none => .next s
  | some q =>
    if ((s.t0 - q.start : Nat) : Rat) / 1000000000 < phasesLen q.phases then .next s
    else
      let (p, _, _) := runPhases q.phases (phasesLen q.phases) q.p q.v q.a
      .next (axisRest (setAxis s x (fun d => { d with stop := none, pos := nearOf p })) x q.after)

/-- LIMIT_LATCH (R244): the first filtered-active sample latches the limit; on its own tile the axis stops with LIM_STOP where its motion goes toward the limit. -/
def execLimitLatch (ax : Fin 32) (lim : Fin 2) (s : State) : Res :=
  let x := ax.val
  let d := axis s x
  let l := limOf d lim.val
  if !l.active ∨ l.latched then .next s
  else
    let (p, v, _) := d.at_ s.t0
    let sg : Rat := if lim.val = 0 then -1 else 1
    let toward := decide (0 < sg * v) || d.buf.any (fun g => decide (0 < sg * ratOf g.v0.toNat))
    let s := setLim s x lim.val (fun l => { l with latched := true, away := false })
    let s := note s Ev.axisLimit (0x60 + x / 8) x 0 [lim.val, (w32 (nearOf p + d.offset)).toNat, f32OfRat v]
    let ch := param s (if lim.val = 0 then pAxisLimNegCh else pAxisLimPosCh) x
    .next (if toward && ch / 128 == x / 8 then paramStop s x (decide (param s pAxisLimStop x = 0)) 0 else s)

/-- LIMIT_LATCH_CLEAR (R245): after a microstep away and the input inactive for LIM_DEBOUNCE the latch clears. -/
def execLimitLatchClear (ax : Fin 32) (lim : Fin 2) (s : State) : Res :=
  let l := limOf (axis s ax.val) lim.val
  if l.latched && l.away && !l.active && decide (l.since + param s pAxisLimDebounce ax.val * us ≤ s.t0) then
    .next (setLim s ax.val lim.val (fun l => { l with latched := false, away := false }))
  else .next s

/-- LIMIT_CHATTER_CLEAR (R246): 1 s without a transition; the clearing is recorded. -/
def execLimitChatterClear (ax : Fin 32) (lim : Fin 2) (s : State) : Res :=
  let l := limOf (axis s ax.val) lim.val
  if l.chatter && decide (l.since + sec ≤ s.t0) then
    .next (note (setLim s ax.val lim.val (fun l => { l with chatter := false, trans := [] })) Ev.limitChatter (0x60 + ax.val / 8) ax.val 0 [lim.val, 0])
  else .next s

/-- AXIS_DISABLE_DEADLINE (R251): a disabled axis that has not come to rest is stopped HARD and its driver disabled. -/
def execAxisDisableDeadline (ax : Fin 32) (s : State) : Res :=
  let x := ax.val
  match (prof s (profOf x)).disableAt with
  | none => .next s
  | some a =>
    if (axis s x).atRest ∨ s.t0 < a + param s pAxisDisableDeadline x * ms then .next s
    else .next (note (paramStop s x true 1) Ev.axisDisableOverrun (0x60 + x / 8) x 0 [(s.t0 - a) / us])

end Sys2Proof.Machine
end

