-- ==== Sys2Proof/Machine/Flags.lean ====
section
/-! DEFINITION. Flag computations: the bit-logic status word (R114, R123-R125) and float results with their flags. -/

namespace Sys2Proof.Machine

/-- Whether an exact result does not fit 32 bits signed (OV, R114). -/
def outOf32 (x : Int) : Bool := decide (x < -2147483648) || decide (2147483647 < x)

/-- A subnormal operand is a zero of the same sign (R123). -/
def ftz (x : Word) : Nat := if x.toNat / 2 ^ 23 % 256 = 0 then x.toNat / 2 ^ 31 * 2 ^ 31 else x.toNat

/-- Whether bits are a NaN or an infinity: exponent all ones (FE, R114). -/
def isNanInf (x : Nat) : Bool := x / 2 ^ 23 % 256 == 255

/-- A two-operand float operation of a cycle engine: NaN operands pass through, subnormals are zeros (R123, R124). -/
def blFloat (f : Nat → Nat → Nat) (a b : Word) : Word :=
  let na := fisNan f32 a.toNat
  let nb := fisNan f32 b.toNat
  if na && nb then (if Config.nanFirst a b then a else b)
  else if na then a else if nb then b else bv 32 (f (ftz a) (ftz b))

/-- The status word (R114). -/
def BlRegs.status (g : BlRegs) : Word :=
  let n (b : Bool) (k : Nat) : Nat := if b then 2 ^ k else 0
  bv 32 (n g.ov 0 + n g.dz 1 + n g.fe 2 + n g.ix 3 + n g.qd 4 + n g.fs 5)

/-- WA with its OV flag from an exact integer result (R114, R123). -/
def BlRegs.intRes (g : BlRegs) (x : Int) : BlRegs := { g with wa := BitVec.ofInt 32 x, ov := g.ov || outOf32 x }

/-- WA with its FE flag from a float result (R114, R124). -/
def BlRegs.fltRes (g : BlRegs) (v : Word) : BlRegs := { g with wa := v, fe := g.fe || isNanInf v.toNat }

/-- LA from a float comparison: a NaN on either side gives 0 and sets FE (R125). -/
def BlRegs.fltCmp (g : BlRegs) (v : Word) (f : Nat → Nat → Bool) : BlRegs :=
  if fisNan f32 g.wa.toNat || fisNan f32 v.toNat then { g with la := false, fe := true }
  else { g with la := f (ftz g.wa) (ftz v) }

end Sys2Proof.Machine
end

