-- ==== Sys2Proof/Machine/Operands.lean ====
section
/-! DEFINITION. The operand forms of a cycle engine: points, LOCAL items, instance records, immediates, and the fault that ends a release (R115-R119, R127, R128). -/

namespace Sys2Proof.Machine

/-- The region LOCAL (R116). -/
def isLocalPt (x : BitVec 25) : Bool := ptRegion x.toNat == 0x1F
/-- The regions MEM0 to MEM3. -/
def isMem (x : BitVec 25) : Bool := let r := ptRegion x.toNat; decide (0x18 ≤ r ∧ r ≤ 0x1B)
/-- The bit address of a LOCAL operand. -/
def localBit (x : BitVec 25) : Nat := ptIndex x.toNat
/-- A LOCAL operand's reserved bits: index bit 19, and bits [4:0] for a word (R116). -/
def localBad (x : BitVec 25) (word : Bool) : Bool :=
  isLocalPt x && (decide (2 ^ 19 ≤ localBit x) || (word && localBit x % 32 != 0))

/-- The entry a release reads for a point: value, quality, type; its own output first, then its window, then the live image (R117, R60). -/
def readPoint (s : State) (c : Nat) (r : Release) (p : Nat) : Word × Nat × Nat :=
  match (r.outs.filter (fun o => o.point == p)).getLast? with
  | some o => (o.value, o.qual, (pget s p).ty)
  | none =>
    let pts := (tget [] s.sched.windows (task s r.task).window).flatMap (fun w => (List.range w.2).map (fun k => w.1 + k))
    match (pts.zip (tget [] (engine s c).snap r.task)).find? (fun e => e.1 == p) with
    | some e => (bv 32 (e.2.toNat % 2 ^ 32), e.2.toNat / 2 ^ 32 % 16, e.2.toNat / 2 ^ 36 % 16)
    | none => ((pget s p).value, (pget s p).qual, (pget s p).ty)

/-- The word read v(P) (R116, R117). -/
def wordOf (s : State) (c : Nat) (r : Release) (x : BitVec 25) : Word :=
  if isLocalPt x then bv 32 (leVal (mreads (engine s c).mem (localBit x / 8) 4)) else (readPoint s c r x.toNat).1

/-- The bit read b(P) (R116, R117). -/
def bitOf (s : State) (c : Nat) (r : Release) (x : BitVec 25) : Bool :=
  if isLocalPt x then (mread (engine s c).mem (localBit x / 8)).getLsbD (localBit x % 8)
  else let e := readPoint s c r x.toNat; if e.2.2 = 1 then e.1.getLsbD 0 else e.1 != 0

/-- The quality q(P); LOCAL items are GOOD (R116, R117). -/
def qualAt (s : State) (c : Nat) (r : Release) (x : BitVec 25) : Nat :=
  if isLocalPt x then 0 else (readPoint s c r x.toNat).2.1

/-- Write bytes of an engine's data memory (R119). -/
def dataWrite (s : State) (c a : Nat) (l : List Byte) : State := setEngine s c (fun e => { e with mem := mwrites e.mem a l })

/-- Enter a write into the running release's output set, the later replacing the earlier; an unpopulated point takes none (R60, R118). -/
def outWrite (s : State) (c : Nat) (p : Nat) (v : Word) (q : Nat) : State :=
  if populated s p then
    setEngine s c (fun e => { e with running := e.running.map (fun r =>
      { r with outs := r.outs.filter (fun o => o.point != p) ++ [⟨p, v, q⟩] }) })
  else note s Ev.unpopWrite (0x10 + c) 0 p [v.toNat]

/-- A word store (R118, R119). -/
def putWord (s : State) (c : Nat) (x : BitVec 25) (v : Word) (q : Nat := 0) : State :=
  if isLocalPt x then dataWrite s c (localBit x / 8) (leBytes 4 v.toNat) else outWrite s c x.toNat v q

/-- A bit store (R118, R119). -/
def putBit (s : State) (c : Nat) (x : BitVec 25) (b : Bool) : State :=
  if isLocalPt x then
    let a := localBit x / 8
    let m := mread (engine s c).mem a
    let bit : Byte := bv 8 (2 ^ (localBit x % 8))
    dataWrite s c a [if b then m ||| bit else m &&& ~~~ bit]
  else outWrite s c x.toNat (if b then 1 else 0) 0

/-- An execution fault (R127): the release ends at the faulting instruction, its set discarded; the eighth in a row stops the task. -/
def blFault (s : State) (c code pc word : Nat) : State :=
  match (engine s c).running with
  | none => s
  | some r =>
    let i := r.task
    let n := (task s i).faultRun + 1
    let s := setTask s i (fun d => { d with status := d.status ||| 32, aborted := (d.aborted + 1) % 2 ^ 32, faultRun := n })
    let s := note (setEngine s c (fun e => { e with lastFault := (code, pc) })) Ev.blFault (0x10 + c) i 0 [code, pc, word]
    let s := endRelease s c true
    if n < 8 then s
    else
      let s := setTask s i (fun d => { d with stopped := true })
      let s := enableOff s (pid pTaskEnable i)
      note (taskPoints s i) Ev.taskStopped 0x42 i 0 [code, pc]

/-- One instruction of a cycle engine: the fetch check, then its operation, which answers new registers and state or a fault code (R120, R126, R127). -/
def blExec (ce : Fin 16) (opcode : Nat) (x : BitVec 25) (s : State)
    (f : Nat → Release → BlRegs → State → Except Nat (BlRegs × State)) : State :=
  let c := ce.val
  match (engine s c).running with
  | none => s
  | some r =>
    let g := (engine s c).bl
    let word := opcode * 2 ^ 25 + x.toNat
    if (engine s c).role ≠ 0 then s
    else if (prog s (task s r.task).prog).words ≤ g.pc then blFault s c 7 g.pc word
    else match f c r { g with pc := g.pc + 1 } s with
      | .ok (g', s') => setEngine s' c (fun e => { e with bl := g' })
      | .error k => blFault s c k g.pc word

/-- A form without an operand (kind "—"). -/
def opNone (ce : Fin 16) (op : Nat) (x : BitVec 25) (s : State) (f : Nat → Release → BlRegs → State → Except Nat BlRegs) : State :=
  blExec ce op x s (fun c r g s => if x ≠ 0 then .error 8 else (f c r g s).map (fun g => (g, s)))

/-- A form that reads a bit or the quality of a P operand. -/
def opBit (ce : Fin 16) (op : Nat) (x : BitVec 25) (s : State) (f : BlRegs → Bool → BlRegs) : State :=
  blExec ce op x s (fun c r g s => if localBad x false then .error 8 else .ok (f g (bitOf s c r x), s))

/-- A form that reads whether the quality of a P operand is GOOD. -/
def opGood (ce : Fin 16) (op : Nat) (x : BitVec 25) (s : State) (f : BlRegs → Bool → BlRegs) : State :=
  blExec ce op x s (fun c r g s => if localBad x false then .error 8 else .ok (f g (qualAt s c r x == 0), s))

/-- A form that reads a word P operand. -/
def opWord (ce : Fin 16) (op : Nat) (x : BitVec 25) (s : State) (f : BlRegs → Word → BlRegs) : State :=
  blExec ce op x s (fun c r g s => if localBad x true then .error 8 else .ok (f g (wordOf s c r x), s))

/-- A form that stores a bit when its condition holds. -/
def opPutBit (ce : Fin 16) (op : Nat) (x : BitVec 25) (s : State) (f : BlRegs → Option Bool) : State :=
  blExec ce op x s (fun c _ g s => if localBad x false then .error 8 else
    .ok (g, match f g with | some b => putBit s c x b | none => s))

/-- A form with a signed immediate (kind I). -/
def opImm (ce : Fin 16) (op : Nat) (x : BitVec 25) (s : State) (f : BlRegs → Int → BlRegs) : State :=
  blExec ce op x s (fun _ _ g s => .ok (f g x.toInt, s))

/-- A form with a shift count (kind S). -/
def opShift (ce : Fin 16) (op : Nat) (x : BitVec 25) (s : State) (f : Word → Nat → Word) : State :=
  blExec ce op x s (fun _ _ g s => if 32 ≤ x.toNat then .error 8 else .ok ({ g with wa := f g.wa x.toNat }, s))

/-- A form with a code word index (kind C), which must lie in the program's code. -/
def opCode (ce : Fin 16) (op : Nat) (x : BitVec 25) (s : State) (f : BlRegs → Nat → Except Nat BlRegs) : State :=
  blExec ce op x s (fun _ r g s =>
    if 2 ^ 15 ≤ x.toNat then .error 8
    else if (prog s (task s r.task).prog).words ≤ x.toNat then .error 7
    else (f g x.toNat).map (fun g => (g, s)))

/-- The field and the byte address of an instance operand (kind N). -/
def instField (x : BitVec 25) : Nat := x.toNat / 2 ^ 14 % 4
/-- The byte address of the record. -/
def instAddr (x : BitVec 25) : Nat := x.toNat % 2 ^ 14 * 4
/-- A form on an instance record (kind N). -/
def opInst (ce : Fin 16) (op : Nat) (x : BitVec 25) (s : State) (f : Nat → Release → BlRegs → State → Except Nat (BlRegs × State)) : State :=
  blExec ce op x s (fun c r g s => if 2 ^ 16 ≤ x.toNat then .error 8 else f c r g s)

/-- Push one entry: the 17th overflows (R122). -/
def BlRegs.push (g : BlRegs) (b : Bool) (code : Nat) : Except Nat BlRegs :=
  if 16 ≤ g.nest.length then .error 2 else .ok { g with nest := (b, code) :: g.nest }

/-- Pop one entry: from the empty stack it underflows (R122). -/
def BlRegs.pop (g : BlRegs) : Except Nat (Bool × Nat × BlRegs) :=
  match g.nest with | [] => .error 3 | (b, k) :: r => .ok (b, k, { g with nest := r })

/-- A call: the ninth nested one overflows (R126). -/
def BlRegs.call (g : BlRegs) (t : Nat) : Except Nat BlRegs :=
  if 8 ≤ g.calls.length then .error 4 else .ok { g with calls := g.pc :: g.calls, pc := t }

/-- A return: from the empty call stack it underflows (R126). -/
def BlRegs.ret (g : BlRegs) : Except Nat BlRegs :=
  match g.calls with | [] => .error 5 | a :: r => .ok { g with calls := r, pc := a }

/-- The end of a release by the engine: it hands over its set and asks for work (R100, R103, R126). -/
def endAsk (s : State) (c : Nat) (discard : Bool) : State :=
  let s := endRelease (if discard then s else endStream s c) c discard
  if (engine s c).running.isSome then s else dispatch (setEngine s c (fun e => { e with waiting := true })) c

end Sys2Proof.Machine
end

