-- ==== Sys2Proof/Machine/BitLogic.lean ====
section
/-! DEFINITION. The bit-logic instruction set of the cycle engines (R113-R139): one meaning for each instruction; the command carries its operand. -/

namespace Sys2Proof.Machine

/-- What an instance record is by its TYPE byte: 0 timer, 1 counter, 2 edge detector (R128). -/
def instKind (t : Byte) : Option Nat :=
  let b := t.toNat % 128
  if b = 1 ∨ b = 2 ∨ b = 3 then some 0
  else if t.toNat = 0x10 ∨ t.toNat = 0x11 ∨ t.toNat = 0x12 then some 1
  else if t.toNat = 0x20 ∨ t.toNat = 0x21 then some 2 else none

/-- A timer record's working values (R128, R130). -/
structure TimerRec where
  pt : Nat
  et : Nat
  stamp : Nat
  prev : Bool
  q : Bool
  run : Bool
  deriving DecidableEq, Repr

/-- TON at release instant `t` with `u` units of `unit` ns since STAMP (R130). -/
def tonStep (d : TimerRec) (inp : Bool) (t u unit : Nat) : TimerRec :=
  let d := if !inp then { d with et := 0, q := false, stamp := t }
    else if !d.prev then { d with et := 0, stamp := t }
    else { d with et := min d.pt (d.et + u), stamp := d.stamp + u * unit }
  { d with q := inp && decide (d.pt ≤ d.et) }

/-- TOF (R130). -/
def tofStep (d : TimerRec) (inp : Bool) (t u unit : Nat) : TimerRec :=
  let d := if inp then { d with q := true, et := 0, run := false, stamp := t }
    else if d.prev then { d with run := true, et := 0, stamp := t }
    else if d.run then
      let d := { d with et := min d.pt (d.et + u), stamp := d.stamp + u * unit }
      if d.pt ≤ d.et then { d with q := false, run := false } else d
    else { d with stamp := t }
  if d.run && decide (d.pt ≤ d.et) then { d with q := false, run := false } else d

/-- TP (R130). -/
def tpStep (d : TimerRec) (inp : Bool) (t u unit : Nat) : TimerRec :=
  if d.run then
    let d := { d with et := min d.pt (d.et + u), stamp := d.stamp + u * unit }
    if d.pt ≤ d.et then { d with q := false, run := false } else d
  else if inp && !d.prev then
    let d := { d with q := true, run := true, et := 0, stamp := t }
    if d.pt = 0 then { d with q := false, run := false } else d
  else if !inp then { d with et := 0, stamp := t }
  else { d with stamp := t }

/-- Bit `k` of a STATE byte as a number. -/
def stBit (b : Bool) (k : Nat) : Nat := if b then 2 ^ k else 0

/-- A timer instruction: the common prelude, the seed of R156, the timer, and the record written back (R128-R131). -/
def timerOp (ce : Fin 16) (op : Nat) (x : BitVec 25) (s : State) (ty : Nat) (f : TimerRec → Bool → Nat → Nat → Nat → TimerRec) : State :=
  opInst ce op x s (fun c r g s =>
    let a := instAddr x
    let m := (engine s c).mem
    let t := (mread m a).toNat
    let st := mread m (a + 1)
    if t % 128 ≠ ty then .error 6
    else
      let unit := if 128 ≤ t then ms else us
      let stamped := st.getLsbD 3
      let stamp := if stamped then leVal (mreads m (a + 16) 8) else r.due
      let u := (r.due - stamp) / unit
      let seed := st.getLsbD 6
      let d : TimerRec := { pt := leVal (mreads m (a + 4) 4), et := leVal (mreads m (a + 8) 4), stamp := stamp,
                            prev := if seed then g.la else st.getLsbD 0, q := st.getLsbD 1, run := st.getLsbD 2 }
      let d := f d g.la r.due u unit
      let st' := stBit g.la 0 + stBit d.q 1 + stBit d.run 2 + 8 + stBit (st.getLsbD 4) 4 + stBit (st.getLsbD 5) 5
      let s := dataWrite s c (a + 1) [bv 8 st']
      let s := dataWrite s c (a + 8) (leBytes 4 d.et)
      .ok ({ g with la := d.q, wb := bv 32 d.et }, dataWrite s c (a + 16) (leBytes 8 d.stamp)))

/-- A counter record's working values (R128, R132). -/
structure CountRec where
  pv : Int
  cv : Int
  prev : Bool
  cdPrev : Bool
  q : Bool
  qd : Option Bool := none
  deriving DecidableEq, Repr

/-- Pop the block inputs pushed before, the last one pushed first. -/
def popN : Nat → BlRegs → Except Nat (List Bool × BlRegs)
  | 0, g => .ok ([], g)
  | n + 1, g => match g.pop with
    | .error k => .error k
    | .ok e => (popN n e.2.2).map (fun r => (e.1 :: r.1, r.2))

/-- A counter instruction: its inputs popped, the seed of R156, the counter, the record written back; the flag says a count met its limit (R132). -/
def counterOp (ce : Fin 16) (op : Nat) (x : BitVec 25) (s : State) (ty n : Nat) (f : CountRec → List Bool → Bool → CountRec × Bool) : State :=
  opInst ce op x s (fun c _ g s =>
    let a := instAddr x
    let m := (engine s c).mem
    let st := mread m (a + 1)
    if (mread m a).toNat ≠ ty then .error 6
    else match popN n g with
    | .error k => .error k
    | .ok (inp, g) =>
      let seed := st.getLsbD 6
      let d : CountRec := { pv := (bv 32 (leVal (mreads m (a + 4) 4))).toInt, cv := (bv 32 (leVal (mreads m (a + 8) 4))).toInt,
                            prev := if seed then g.la else st.getLsbD 0, cdPrev := if seed && ty == 0x12 then inp.headD false else st.getLsbD 4, q := st.getLsbD 1 }
      let (d, lim) := f d inp g.la
      let st' := stBit d.prev 0 + stBit d.q 1 + stBit (st.getLsbD 2) 2 + stBit (st.getLsbD 3) 3 + stBit d.cdPrev 4 + stBit (st.getLsbD 5) 5
      let cv := BitVec.ofInt 32 d.cv
      let s := dataWrite s c (a + 1) [bv 8 st']
      .ok ({ g with la := d.q, wb := cv, ov := g.ov || lim, qd := d.qd.getD g.qd }, dataWrite s c (a + 8) (leBytes 4 cv.toNat)))

/-- An edge detector (R133, R156). -/
def edgeOp (ce : Fin 16) (op : Nat) (x : BitVec 25) (s : State) (ty : Nat) (f : Bool → Bool → Bool) : State :=
  opInst ce op x s (fun c _ g s =>
    let a := instAddr x
    let m := (engine s c).mem
    let st := mread m (a + 1)
    if (mread m a).toNat ≠ ty then .error 6
    else
      let prev := if st.getLsbD 6 then g.la else st.getLsbD 0
      let q := f g.la prev
      let st' := stBit g.la 0 + stBit q 1 + (st.toNat / 4 % 16) * 4
      .ok ({ g with la := q }, dataWrite s c (a + 1) [bv 8 st']))

/-- END and ENDC (R126): the release ends when the condition holds, else the next word follows. -/
def endForm (ce : Fin 16) (op : Nat) (x : BitVec 25) (s : State) (cond : BlRegs → Bool) : State :=
  let c := ce.val
  let e := engine s c
  match e.running with
  | none => s
  | some r =>
    let word := op * 2 ^ 25 + x.toNat
    if e.role ≠ 0 then s
    else if (prog s (task s r.task).prog).words ≤ e.bl.pc then blFault s c 7 e.bl.pc word
    else if x ≠ 0 then blFault s c 8 e.bl.pc word
    else if cond e.bl then endAsk s c false
    else setEngine s c (fun e => { e with bl := { e.bl with pc := e.bl.pc + 1 } })

/-- BlLd (R122): LA from LA and the bit read. -/
def execBlLd (ce : Fin 16) (x : BitVec 25) (s : State) : Res :=
  .next (opBit ce 0x01 x s (fun g b => { g with la := b }))

/-- BlLdn (R122): LA from LA and the bit read. -/
def execBlLdn (ce : Fin 16) (x : BitVec 25) (s : State) : Res :=
  .next (opBit ce 0x02 x s (fun g b => { g with la := !b }))

/-- BlAnd (R122): LA from LA and the bit read. -/
def execBlAnd (ce : Fin 16) (x : BitVec 25) (s : State) : Res :=
  .next (opBit ce 0x03 x s (fun g b => { g with la := g.la && b }))

/-- BlAndn (R122): LA from LA and the bit read. -/
def execBlAndn (ce : Fin 16) (x : BitVec 25) (s : State) : Res :=
  .next (opBit ce 0x04 x s (fun g b => { g with la := g.la && !b }))

/-- BlOr (R122): LA from LA and the bit read. -/
def execBlOr (ce : Fin 16) (x : BitVec 25) (s : State) : Res :=
  .next (opBit ce 0x05 x s (fun g b => { g with la := g.la || b }))

/-- BlOrn (R122): LA from LA and the bit read. -/
def execBlOrn (ce : Fin 16) (x : BitVec 25) (s : State) : Res :=
  .next (opBit ce 0x06 x s (fun g b => { g with la := g.la || !b }))

/-- BlXor (R122): LA from LA and the bit read. -/
def execBlXor (ce : Fin 16) (x : BitVec 25) (s : State) : Res :=
  .next (opBit ce 0x07 x s (fun g b => { g with la := g.la != b }))

/-- BlXorn (R122): LA from LA and the bit read. -/
def execBlXorn (ce : Fin 16) (x : BitVec 25) (s : State) : Res :=
  .next (opBit ce 0x08 x s (fun g b => { g with la := g.la != !b }))

/-- BlLdg (R122): LA from the quality being GOOD. -/
def execBlLdg (ce : Fin 16) (x : BitVec 25) (s : State) : Res :=
  .next (opGood ce 0x09 x s (fun g b => { g with la := b }))

/-- BlAndg (R122): LA from the quality being GOOD. -/
def execBlAndg (ce : Fin 16) (x : BitVec 25) (s : State) : Res :=
  .next (opGood ce 0x0A x s (fun g b => { g with la := g.la && b }))

/-- BlOrng (R122): LA from the quality being GOOD. -/
def execBlOrng (ce : Fin 16) (x : BitVec 25) (s : State) : Res :=
  .next (opGood ce 0x0B x s (fun g b => { g with la := g.la || !b }))

/-- BlSt (R122): store a bit. -/
def execBlSt (ce : Fin 16) (x : BitVec 25) (s : State) : Res :=
  .next (opPutBit ce 0x0C x s (fun g => some g.la))

/-- BlStn (R122): store a bit. -/
def execBlStn (ce : Fin 16) (x : BitVec 25) (s : State) : Res :=
  .next (opPutBit ce 0x0D x s (fun g => some (!g.la)))

/-- BlSet (R122): store a bit. -/
def execBlSet (ce : Fin 16) (x : BitVec 25) (s : State) : Res :=
  .next (opPutBit ce 0x0E x s (fun g => if g.la then some true else none))

/-- BlRst (R122): store a bit. -/
def execBlRst (ce : Fin 16) (x : BitVec 25) (s : State) : Res :=
  .next (opPutBit ce 0x0F x s (fun g => if g.la then some false else none))

/-- BlNop (R122): a logic instruction without an operand. -/
def execBlNop (ce : Fin 16) (x : BitVec 25) (s : State) : Res :=
  .next (opNone ce 0x00 x s (fun _ _ g _ => .ok g))

/-- BlNot (R122): a logic instruction without an operand. -/
def execBlNot (ce : Fin 16) (x : BitVec 25) (s : State) : Res :=
  .next (opNone ce 0x10 x s (fun _ _ g _ => .ok { g with la := !g.la }))

/-- BlLdt (R122): a logic instruction without an operand. -/
def execBlLdt (ce : Fin 16) (x : BitVec 25) (s : State) : Res :=
  .next (opNone ce 0x11 x s (fun _ _ g _ => .ok { g with la := true }))

/-- BlLdf (R122): a logic instruction without an operand. -/
def execBlLdf (ce : Fin 16) (x : BitVec 25) (s : State) : Res :=
  .next (opNone ce 0x12 x s (fun _ _ g _ => .ok { g with la := false }))

/-- BlLdfs (R122): a logic instruction without an operand. -/
def execBlLdfs (ce : Fin 16) (x : BitVec 25) (s : State) : Res :=
  .next (opNone ce 0x13 x s (fun _ _ g _ => .ok { g with la := g.fs }))

/-- BlLdqd (R122): a logic instruction without an operand. -/
def execBlLdqd (ce : Fin 16) (x : BitVec 25) (s : State) : Res :=
  .next (opNone ce 0x14 x s (fun _ _ g _ => .ok { g with la := g.qd }))

/-- BlAndOpen (R122): push LA with its code and start a new term. -/
def execBlAndOpen (ce : Fin 16) (x : BitVec 25) (s : State) : Res :=
  .next (opNone ce 0x15 x s (fun _ _ g _ => (g.push g.la 1).map (fun g => { g with la := true })))

/-- BlOrOpen (R122): push LA with its code and start a new term. -/
def execBlOrOpen (ce : Fin 16) (x : BitVec 25) (s : State) : Res :=
  .next (opNone ce 0x16 x s (fun _ _ g _ => (g.push g.la 2).map (fun g => { g with la := false })))

/-- BlXorOpen (R122): push LA with its code and start a new term. -/
def execBlXorOpen (ce : Fin 16) (x : BitVec 25) (s : State) : Res :=
  .next (opNone ce 0x17 x s (fun _ _ g _ => (g.push g.la 3).map (fun g => { g with la := false })))

/-- BlPsh (R122): push LA with code NONE. -/
def execBlPsh (ce : Fin 16) (x : BitVec 25) (s : State) : Res :=
  .next (opNone ce 0x18 x s (fun _ _ g _ => g.push g.la 0))

/-- BlClose (R122): pop and combine. -/
def execBlClose (ce : Fin 16) (x : BitVec 25) (s : State) : Res :=
  .next (opNone ce 0x19 x s (fun _ _ g _ => g.pop.map (fun e =>
    { e.2.2 with la := match e.2.1 with | 1 => e.1 && g.la | 2 => e.1 || g.la | 3 => e.1 != g.la | _ => g.la })))

/-- BlPop (R122): LA takes the popped bit. -/
def execBlPop (ce : Fin 16) (x : BitVec 25) (s : State) : Res :=
  .next (opNone ce 0x1A x s (fun _ _ g _ => g.pop.map (fun e => { e.2.2 with la := e.1 })))

/-- BlLdw (R123): a word instruction on a P operand. -/
def execBlLdw (ce : Fin 16) (x : BitVec 25) (s : State) : Res :=
  .next (opWord ce 0x20 x s (fun g v => { g with wa := v }))

/-- BlAdd (R123): a word instruction on a P operand. -/
def execBlAdd (ce : Fin 16) (x : BitVec 25) (s : State) : Res :=
  .next (opWord ce 0x30 x s (fun g v => g.intRes (g.wa.toInt + v.toInt)))

/-- BlSub (R123): a word instruction on a P operand. -/
def execBlSub (ce : Fin 16) (x : BitVec 25) (s : State) : Res :=
  .next (opWord ce 0x31 x s (fun g v => g.intRes (g.wa.toInt - v.toInt)))

/-- BlAndw (R123): a word instruction on a P operand. -/
def execBlAndw (ce : Fin 16) (x : BitVec 25) (s : State) : Res :=
  .next (opWord ce 0x36 x s (fun g v => { g with wa := g.wa &&& v }))

/-- BlOrw (R123): a word instruction on a P operand. -/
def execBlOrw (ce : Fin 16) (x : BitVec 25) (s : State) : Res :=
  .next (opWord ce 0x37 x s (fun g v => { g with wa := g.wa ||| v }))

/-- BlXorw (R123): a word instruction on a P operand. -/
def execBlXorw (ce : Fin 16) (x : BitVec 25) (s : State) : Res :=
  .next (opWord ce 0x38 x s (fun g v => { g with wa := g.wa ^^^ v }))

/-- BlStw (R123): store WA. -/
def execBlStw (ce : Fin 16) (x : BitVec 25) (s : State) : Res :=
  .next (blExec ce 0x21 x s (fun c _ g s => if localBad x true then .error 8 else .ok (g, putWord s c x g.wa)))

/-- BlLdi (R123): WA takes the immediate. -/
def execBlLdi (ce : Fin 16) (x : BitVec 25) (s : State) : Res :=
  .next (opImm ce 0x22 x s (fun g k => { g with wa := BitVec.ofInt 32 k }))

/-- BlLdhi (R123): bits 31 to 25 of WA from the operand. -/
def execBlLdhi (ce : Fin 16) (x : BitVec 25) (s : State) : Res :=
  .next (blExec ce 0x23 x s (fun _ _ g s => if 128 ≤ x.toNat then .error 8 else
    .ok ({ g with wa := bv 32 (x.toNat * 2 ^ 25 + g.wa.toNat % 2 ^ 25) }, s)))

/-- BlSwap (R123): WA and WB change places. -/
def execBlSwap (ce : Fin 16) (x : BitVec 25) (s : State) : Res :=
  .next (opNone ce 0x24 x s (fun _ _ g _ => .ok { g with wa := g.wb, wb := g.wa }))

/-- BlMovab (R123): WB takes WA. -/
def execBlMovab (ce : Fin 16) (x : BitVec 25) (s : State) : Res :=
  .next (opNone ce 0x25 x s (fun _ _ g _ => .ok { g with wb := g.wa }))

/-- BlLdq (R123): WA takes the quality code. -/
def execBlLdq (ce : Fin 16) (x : BitVec 25) (s : State) : Res :=
  .next (blExec ce 0x26 x s (fun c r g s => if localBad x false then .error 8 else .ok ({ g with wa := bv 32 (qualAt s c r x) }, s)))

/-- BlStwq (R124): store WA to a MEM point with a quality; FORCED, SIMULATED and reserved codes become BAD_RANGE. -/
def execBlStwq (ce : Fin 16) (x : BitVec 25) (s : State) : Res :=
  .next (blExec ce 0x27 x s (fun c _ g s =>
    if !isMem x then .error 10
    else
      let q := g.wb.toNat % 16
      .ok (g, putWord s c x g.wa (if q = 7 ∨ q = 8 ∨ 11 ≤ q then 6 else q))))

/-- BlLdwx (R124): WA takes an indexed LOCAL word; beyond 0xFFFC it sets IX and gives 0. -/
def execBlLdwx (ce : Fin 16) (x : BitVec 25) (s : State) : Res :=
  .next (blExec ce 0x28 x s (fun c _ g s =>
    if !isLocalPt x then .error 10
    else if localBad x true then .error 8
    else
      let a := localBit x / 8 + 4 * g.wb.toNat
      .ok (if 0xFFFC < a then { g with wa := 0, ix := true } else { g with wa := bv 32 (leVal (mreads (engine s c).mem a 4)) }, s)))

/-- BlStwx (R124): store WA to an indexed LOCAL word; beyond 0xFFFC it sets IX and stores nothing. -/
def execBlStwx (ce : Fin 16) (x : BitVec 25) (s : State) : Res :=
  .next (blExec ce 0x29 x s (fun c _ g s =>
    if !isLocalPt x then .error 10
    else if localBad x true then .error 8
    else
      let a := localBit x / 8 + 4 * g.wb.toNat
      .ok (if 0xFFFC < a then ({ g with ix := true }, s) else (g, dataWrite s c a (leBytes 4 g.wa.toNat)))))

/-- BlLdtr (R123): the release instant in µs. -/
def execBlLdtr (ce : Fin 16) (x : BitVec 25) (s : State) : Res :=
  .next (opNone ce 0x2A x s (fun _ r g _ => .ok { g with wa := bv 32 (r.due / us), wb := bv 32 (r.due / us / 2 ^ 32) }))

/-- BlLds (R114): WA takes the status word. -/
def execBlLds (ce : Fin 16) (x : BitVec 25) (s : State) : Res :=
  .next (opNone ce 0x2B x s (fun _ _ g _ => .ok { g with wa := g.status }))

/-- BlCls (R114): clear the four sticky bits. -/
def execBlCls (ce : Fin 16) (x : BitVec 25) (s : State) : Res :=
  .next (opNone ce 0x2C x s (fun _ _ g _ => .ok { g with ov := false, dz := false, fe := false, ix := false }))

/-- BlMul (R124): the signed 64-bit product in WB:WA. -/
def execBlMul (ce : Fin 16) (x : BitVec 25) (s : State) : Res :=
  .next (opWord ce 0x32 x s (fun g v =>
    let p := g.wa.toInt * v.toInt
    { g with wa := BitVec.ofInt 32 p, wb := BitVec.ofInt 32 (p / 2 ^ 32), ov := g.ov || outOf32 p }))

/-- BlDiv (R124): quotient and remainder, truncated; by zero only DZ. -/
def execBlDiv (ce : Fin 16) (x : BitVec 25) (s : State) : Res :=
  .next (opWord ce 0x33 x s (fun g v =>
    if v = 0 then { g with dz := true }
    else { (g.intRes (g.wa.toInt.tdiv v.toInt)) with wb := BitVec.ofInt 32 (g.wa.toInt.tmod v.toInt) }))

/-- BlNeg (R124): WA negated. -/
def execBlNeg (ce : Fin 16) (x : BitVec 25) (s : State) : Res :=
  .next (opNone ce 0x34 x s (fun _ _ g _ => .ok (g.intRes (-g.wa.toInt))))

/-- BlAddi (R123): add the immediate. -/
def execBlAddi (ce : Fin 16) (x : BitVec 25) (s : State) : Res :=
  .next (opImm ce 0x35 x s (fun g k => g.intRes (g.wa.toInt + k)))

/-- BlNotw (R123): WA inverted. -/
def execBlNotw (ce : Fin 16) (x : BitVec 25) (s : State) : Res :=
  .next (opNone ce 0x39 x s (fun _ _ g _ => .ok { g with wa := ~~~ g.wa }))

/-- BlShl (R123): shift WA. -/
def execBlShl (ce : Fin 16) (x : BitVec 25) (s : State) : Res :=
  .next (opShift ce 0x3A x s (fun w n => w <<< n))

/-- BlShr (R123): shift WA. -/
def execBlShr (ce : Fin 16) (x : BitVec 25) (s : State) : Res :=
  .next (opShift ce 0x3B x s (fun w n => w >>> n))

/-- BlAsr (R123): shift WA. -/
def execBlAsr (ce : Fin 16) (x : BitVec 25) (s : State) : Res :=
  .next (opShift ce 0x3C x s (fun w n => w.sshiftRight n))

/-- BlAddf (R123): binary32 arithmetic. -/
def execBlAddf (ce : Fin 16) (x : BitVec 25) (s : State) : Res :=
  .next (opWord ce 0x40 x s (fun g v => g.fltRes (blFloat (fadd f32 true) g.wa v)))

/-- BlSubf (R123): binary32 arithmetic. -/
def execBlSubf (ce : Fin 16) (x : BitVec 25) (s : State) : Res :=
  .next (opWord ce 0x41 x s (fun g v => g.fltRes (blFloat (fsub f32 true) g.wa v)))

/-- BlMulf (R123): binary32 arithmetic. -/
def execBlMulf (ce : Fin 16) (x : BitVec 25) (s : State) : Res :=
  .next (opWord ce 0x42 x s (fun g v => g.fltRes (blFloat (fmul f32 true) g.wa v)))

/-- BlDivf (R124): binary32 division; a zero divisor sets DZ and FE. -/
def execBlDivf (ce : Fin 16) (x : BitVec 25) (s : State) : Res :=
  .next (opWord ce 0x43 x s (fun g v =>
    let g' := g.fltRes (blFloat (fdiv f32 true) g.wa v)
    if ftz v % 2 ^ 31 = 0 then { g' with dz := true, fe := true } else g'))

/-- BlItof (R123): WA as binary32. -/
def execBlItof (ce : Fin 16) (x : BitVec 25) (s : State) : Res :=
  .next (opNone ce 0x44 x s (fun _ _ g _ => .ok { g with wa := bv 32 (fofInt f32 g.wa.toInt) }))

/-- BlFtoi (R124): binary32 truncated; NaN gives 0, out of range the limit, both set FE. -/
def execBlFtoi (ce : Fin 16) (x : BitVec 25) (s : State) : Res :=
  .next (opNone ce 0x45 x s (fun _ _ g _ => .ok (
    if fisNan f32 g.wa.toNat then { g with wa := 0, fe := true }
    else match ftrunc f32 g.wa.toNat with
      | some k => if outOf32 k then { g with wa := if 0 < k then 0x7FFFFFFF else 0x80000000, fe := true } else { g with wa := BitVec.ofInt 32 k }
      | none => { g with wa := if g.wa.getLsbD 31 then 0x80000000 else 0x7FFFFFFF, fe := true })))

/-- BlAbsf (R123): bit 31 cleared. -/
def execBlAbsf (ce : Fin 16) (x : BitVec 25) (s : State) : Res :=
  .next (opNone ce 0x46 x s (fun _ _ g _ => .ok { g with wa := g.wa &&& 0x7FFFFFFF }))

/-- BlNegf (R123): bit 31 inverted. -/
def execBlNegf (ce : Fin 16) (x : BitVec 25) (s : State) : Res :=
  .next (opNone ce 0x47 x s (fun _ _ g _ => .ok { g with wa := g.wa ^^^ 0x80000000 }))

/-- BlEq (R125): compare integers. -/
def execBlEq (ce : Fin 16) (x : BitVec 25) (s : State) : Res :=
  .next (opWord ce 0x48 x s (fun g v => { g with la := g.wa == v }))

/-- BlNe (R125): compare integers. -/
def execBlNe (ce : Fin 16) (x : BitVec 25) (s : State) : Res :=
  .next (opWord ce 0x49 x s (fun g v => { g with la := g.wa != v }))

/-- BlLt (R125): compare integers. -/
def execBlLt (ce : Fin 16) (x : BitVec 25) (s : State) : Res :=
  .next (opWord ce 0x4A x s (fun g v => { g with la := g.wa.slt v }))

/-- BlLe (R125): compare integers. -/
def execBlLe (ce : Fin 16) (x : BitVec 25) (s : State) : Res :=
  .next (opWord ce 0x4B x s (fun g v => { g with la := g.wa.sle v }))

/-- BlGt (R125): compare integers. -/
def execBlGt (ce : Fin 16) (x : BitVec 25) (s : State) : Res :=
  .next (opWord ce 0x4C x s (fun g v => { g with la := v.slt g.wa }))

/-- BlGe (R125): compare integers. -/
def execBlGe (ce : Fin 16) (x : BitVec 25) (s : State) : Res :=
  .next (opWord ce 0x4D x s (fun g v => { g with la := v.sle g.wa }))

/-- BlLtu (R125): compare integers. -/
def execBlLtu (ce : Fin 16) (x : BitVec 25) (s : State) : Res :=
  .next (opWord ce 0x4E x s (fun g v => { g with la := g.wa.ult v }))

/-- BlGeu (R125): compare integers. -/
def execBlGeu (ce : Fin 16) (x : BitVec 25) (s : State) : Res :=
  .next (opWord ce 0x4F x s (fun g v => { g with la := v.ule g.wa }))

/-- BlLtf (R125): compare binary32 values. -/
def execBlLtf (ce : Fin 16) (x : BitVec 25) (s : State) : Res :=
  .next (opWord ce 0x50 x s (fun g v => g.fltCmp v (fun a b => flt f32 a b)))

/-- BlLef (R125): compare binary32 values. -/
def execBlLef (ce : Fin 16) (x : BitVec 25) (s : State) : Res :=
  .next (opWord ce 0x51 x s (fun g v => g.fltCmp v (fun a b => fle f32 a b)))

/-- BlGtf (R125): compare binary32 values. -/
def execBlGtf (ce : Fin 16) (x : BitVec 25) (s : State) : Res :=
  .next (opWord ce 0x52 x s (fun g v => g.fltCmp v (fun a b => flt f32 b a)))

/-- BlGef (R125): compare binary32 values. -/
def execBlGef (ce : Fin 16) (x : BitVec 25) (s : State) : Res :=
  .next (opWord ce 0x53 x s (fun g v => g.fltCmp v (fun a b => fle f32 b a)))

/-- BlEqf (R125): compare binary32 values. -/
def execBlEqf (ce : Fin 16) (x : BitVec 25) (s : State) : Res :=
  .next (opWord ce 0x54 x s (fun g v => g.fltCmp v (fun a b => feq f32 a b)))

/-- BlJmp (R126): jump. -/
def execBlJmp (ce : Fin 16) (x : BitVec 25) (s : State) : Res :=
  .next (opCode ce 0x68 x s (fun g t => .ok { g with pc := t }))

/-- BlJc (R126): jump when LA is 1. -/
def execBlJc (ce : Fin 16) (x : BitVec 25) (s : State) : Res :=
  .next (opCode ce 0x69 x s (fun g t => .ok (if g.la then { g with pc := t } else g)))

/-- BlJcn (R126): jump when LA is 0. -/
def execBlJcn (ce : Fin 16) (x : BitVec 25) (s : State) : Res :=
  .next (opCode ce 0x6A x s (fun g t => .ok (if g.la then g else { g with pc := t })))

/-- BlCall (R126): call. -/
def execBlCall (ce : Fin 16) (x : BitVec 25) (s : State) : Res :=
  .next (opCode ce 0x6B x s (fun g t => g.call t))

/-- BlCallc (R126): call when LA is 1. -/
def execBlCallc (ce : Fin 16) (x : BitVec 25) (s : State) : Res :=
  .next (opCode ce 0x6C x s (fun g t => if g.la then g.call t else .ok g))

/-- BlRet (R126): return. -/
def execBlRet (ce : Fin 16) (x : BitVec 25) (s : State) : Res :=
  .next (opNone ce 0x6D x s (fun _ _ g _ => g.ret))

/-- BlRetc (R126): return when LA is 1. -/
def execBlRetc (ce : Fin 16) (x : BitVec 25) (s : State) : Res :=
  .next (opNone ce 0x6E x s (fun _ _ g _ => if g.la then g.ret else .ok g))

/-- BlTon (R130): on-delay timer. -/
def execBlTon (ce : Fin 16) (x : BitVec 25) (s : State) : Res :=
  .next (timerOp ce 0x58 x s 0x01 tonStep)

/-- BlTof (R130): off-delay timer. -/
def execBlTof (ce : Fin 16) (x : BitVec 25) (s : State) : Res :=
  .next (timerOp ce 0x59 x s 0x02 tofStep)

/-- BlTp (R130): pulse timer. -/
def execBlTp (ce : Fin 16) (x : BitVec 25) (s : State) : Res :=
  .next (timerOp ce 0x5A x s 0x03 tpStep)

/-- BlCtu (R132): up counter: pops R. -/
def execBlCtu (ce : Fin 16) (x : BitVec 25) (s : State) : Res :=
  .next (counterOp ce 0x5B x s 0x10 1 (fun d inp cu =>
    let r := inp.headD false
    let cv := if r then 0 else if cu && !d.prev && decide (d.cv < 2147483647) then d.cv + 1 else d.cv
    ({ d with cv := cv, prev := cu, q := decide (d.pv ≤ cv) }, cu && !d.prev && !r && decide (d.cv = 2147483647))))

/-- BlCtd (R132): down counter: pops LD. -/
def execBlCtd (ce : Fin 16) (x : BitVec 25) (s : State) : Res :=
  .next (counterOp ce 0x5C x s 0x11 1 (fun d inp cd =>
    let ld := inp.headD false
    let cv := if ld then d.pv else if cd && !d.prev && decide (-2147483648 < d.cv) then d.cv - 1 else d.cv
    ({ d with cv := cv, prev := cd, q := decide (cv ≤ 0) }, cd && !d.prev && !ld && decide (d.cv = -2147483648))))

/-- BlCtud (R132): up-down counter: pops CD, then LD, then R; QD goes to the flag. -/
def execBlCtud (ce : Fin 16) (x : BitVec 25) (s : State) : Res :=
  .next (counterOp ce 0x5D x s 0x12 3 (fun d inp cu =>
    let cd := inp.headD false
    let ld := (inp.drop 1).headD false
    let r := (inp.drop 2).headD false
    let up := cu && !d.prev
    let down := cd && !d.cdPrev
    let cv := if r then 0 else if ld then d.pv
      else if up && !down && decide (d.cv < 2147483647) then d.cv + 1
      else if down && !up && decide (-2147483648 < d.cv) then d.cv - 1 else d.cv
    ({ d with cv := cv, prev := cu, cdPrev := cd, q := decide (d.pv ≤ cv), qd := some (decide (cv ≤ 0)) },
      !r && !ld && ((up && !down && decide (d.cv = 2147483647)) || (down && !up && decide (d.cv = -2147483648))))))

/-- BlRTrig (R133): rising edge. -/
def execBlRTrig (ce : Fin 16) (x : BitVec 25) (s : State) : Res :=
  .next (edgeOp ce 0x5E x s 0x20 (fun clk prev => clk && !prev))

/-- BlFTrig (R133): falling edge. -/
def execBlFTrig (ce : Fin 16) (x : BitVec 25) (s : State) : Res :=
  .next (edgeOp ce 0x5F x s 0x21 (fun clk prev => !clk && prev))

/-- BlLdiv (R129): WA takes the preset or the current value; another field, or an edge record, gives 0 and sets IX. -/
def execBlLdiv (ce : Fin 16) (x : BitVec 25) (s : State) : Res :=
  .next (opInst ce 0x60 x s (fun c _ g s =>
    let a := instAddr x
    match instKind (mread (engine s c).mem a) with
    | none => .error 6
    | some k =>
      if k = 2 ∨ 2 ≤ instField x then .ok ({ g with wa := 0, ix := true }, s)
      else .ok ({ g with wa := bv 32 (leVal (mreads (engine s c).mem (a + 4 + 4 * instField x) 4)) }, s)))

/-- BlStiv (R129): the preset, or a counter's current value, takes WA; any other is discarded and sets IX. -/
def execBlStiv (ce : Fin 16) (x : BitVec 25) (s : State) : Res :=
  .next (opInst ce 0x61 x s (fun c _ g s =>
    let a := instAddr x
    match instKind (mread (engine s c).mem a) with
    | none => .error 6
    | some k =>
      if k = 2 ∨ 2 ≤ instField x ∨ (k = 0 ∧ instField x = 1) then .ok ({ g with ix := true }, s)
      else .ok (g, dataWrite s c (a + 4 + 4 * instField x) (leBytes 4 g.wa.toNat))))

/-- BL_END (R126): the release ends; the engine hands over its set, stages retained items and asks for work. -/
def execBlEnd (ce : Fin 16) (x : BitVec 25) (s : State) : Res := .next (endForm ce 0x6F x s (fun _ => true))

/-- BL_ENDC (R126): as END when LA is 1. -/
def execBlEndc (ce : Fin 16) (x : BitVec 25) (s : State) : Res := .next (endForm ce 0x70 x s (fun g => g.la))

/-- Whether the tables of the bit-logic instructions list an opcode (R120, R122-R126, R129). -/
def blListed (op : Nat) : Bool :=
  decide (op ≤ 0x1A ∨ (0x20 ≤ op ∧ op ≤ 0x2C) ∨ (0x30 ≤ op ∧ op ≤ 0x3C) ∨ (0x40 ≤ op ∧ op ≤ 0x54) ∨ (0x58 ≤ op ∧ op ≤ 0x61) ∨ (0x68 ≤ op ∧ op ≤ 0x70))

/-- BL_ILLEGAL_OPCODE (R120, R126, R127): a word with a reserved opcode ends the release with fault ILLEGAL_OPCODE, past the last code word with CODE_RANGE. -/
def execBlIllegalOpcode (ce : Fin 16) (word : Word) (s : State) : Res :=
  let e := engine s ce.val
  match e.running with
  | none => .next s
  | some r =>
    if e.role ≠ 0 ∨ blListed (word.toNat / 2 ^ 25) then .next s
    else .next (blFault s ce.val (if (prog s (task s r.task).prog).words ≤ e.bl.pc then 7 else 1) e.bl.pc word.toNat)

/-- RETAIN_COMMIT (R137): once per CE.RETAIN_PERIOD a program's staging copy goes to the Pocket's journal, unless a release of the program is preempted. -/
def execRetainCommit (prog : Byte) (s : State) : Res :=
  let k := prog.toNat
  match tfind s.sched.staging k with
  | none => .next s
  | some r =>
    let pre := s.sched.engines.any (fun e => e.2.preempted.any (fun x => (task s x.task).prog == k))
    if pre || s.t0 % (param s pCeRetainPeriod 0 * ms) != 0 then .next s
    else .next (journalPut { s with sched := { s.sched with lastRetain := s.t0 } } false [(retainOff s k, retainBytes k r)])

end Sys2Proof.Machine
end

