-- ==== Sys2Proof/Machine/Can.lean ====
section
/-! DEFINITION. CAN channels: attempts, reception, error states, slots' ends, TTCAN and the host's frames (R424-R451, R556). -/

namespace Sys2Proof.Machine

/-! ### Error counting (R440-R442) -/

/-- Record a change of error state since `old`. -/
def canNote (s : State) (c old : Nat) : State :=
  let new := canState s c
  if new = old then s else note s Ev.canErrState (0x60 + c / 2) c 0 [old, new, (canCh s c).tec, (canCh s c).rec_]

/-- Bus-off entry: TEC above 255 (R442); the eighth within 60 s holds the channel. -/
def canBusOffCheck (s : State) (c : Nat) : State :=
  let d := canCh s c
  if d.busOff ∨ d.tec ≤ 255 then s
  else
    let offs := d.offs.filter (fun t => decide (s.t0 < t + 60 * sec)) ++ [s.t0]
    let held := decide (8 ≤ offs.length)
    let s := setCan s c (fun d => { d with busOff := true, offs := offs, held := held, offCount := (d.offCount + 1) % 2 ^ 32, onBus := none
                                           recovering := !held && param s pCanRecovery c == 0 })
    let s := note s Ev.canBusOff (0x60 + c / 2) c 0 [offs.length]
    if held then note s Ev.canBusOffHeld (0x60 + c / 2) c 0 [] else s

/-- A detected error with the counts it adds; RESTRICTED and MONITOR channels keep their counters (R438). -/
def canError (s : State) (c tec rec_ : Nat) : State :=
  let old := canState s c
  let keep := canMode s c = 1 ∨ canMode s c = 2
  let s := setCan s c (fun d => { d with errs := (d.errs + 1) % 2 ^ 32, tec := if keep then d.tec else d.tec + tec, rec_ := if keep then d.rec_ else min 255 (d.rec_ + rec_) })
  canPoints (canNote (canBusOffCheck s c) c old) c

/-- A valid frame received or sent ends BUS_ALONE (R441). -/
def canHeard (s : State) (c : Nat) : State := setCan s c (fun d => { d with alone := false, aloneRun := 0 })

/-! ### Reception (R437, R443, R445, R449, R451) -/

/-- Whether a received FRAME_ID is the channel's reference message: all but the three lowest identifier bits (R447). -/
def isRef (s : State) (c id : Nat) : Bool :=
  param s pCanTtRole c != 0 && id % 2 ^ 30 / 8 == param s pCanTtRefId c % 2 ^ 30 / 8 && id / 2 ^ 30 % 2 == 0

/-- The Master_Ref_Mark of a level 2 reference extended by serial difference from the previous one (R8, R451). -/
def extendMark (old : Option Nat) (m : Nat) : Nat :=
  match old with
  | none => m
  | some x => x + (m + 65536 - x % 65536) % 65536

/-- A valid reference message with the T0 of its start of frame (R449, R451). -/
def canRef (s : State) (c id tag : Nat) (data : List Byte) : State :=
  let d := canCh s c
  let cnt := fld data 0 1 % 64
  let lvl2 := param s pCanTtLevel c = 2
  let mark := if lvl2 then some (extendMark d.mark (fld data 2 2)) else none
  let follows := d.ref.isSome && cnt == (d.cycle + 1) % 64
  let cyc := max 1 (canCycle s c)
  -- the three that the loss of synchronisation counted are not counted again
  let missed := match d.ref with | some t => (tag - t + cyc / 2) / cyc - 1 - (if d.syncLost then 3 else 0) | none => 0
  let run := if follows then d.run + 1 else 1
  let s := if d.ref.isSome && !follows then note s Ev.ttCountJump (0x60 + c / 2) c 0 [d.cycle, cnt] else s
  let s := setCan s c (fun d => { d with
    ref := some tag, cycle := cnt, mark := mark, run := run, prio := id % 8, gap := fld data 0 1 / 128 % 2 == 1, syncLost := false
    missedRefs := (d.missedRefs + missed) % 2 ^ 32, tt := if 2 ≤ run ∨ d.tt = 3 then 3 else 2 })
  let s := canPoints s c
  match mark with
  | some m => if flag s pCanT2Source c && param s pTimeSource 2 == 2 then takeMeas s 2 tag ((m * canNtu s c : Nat) : Int) else s
  | none => s

/-- Deliver a station's input block (R58, R445). -/
def stnArrive (s : State) (k bi : Nat) (b : Block) (data : List Byte) : State :=
  let d := station s k
  let st := match d.st with | .silent => StnState.online | .lost => .returning | x => x
  let seen := if d.st = .lost then [bi] else if d.seen.contains bi then d.seen else d.seen ++ [bi]
  let s' := setStation s k (fun d => { d with st := st, lastBlock := s.t0, seen := seen })
  let new := (b.fields.take b.count).mapIdx (fun i f => (stnNode k, b.first + i, fieldIn f (pget s (b.first + i)).ty (getField data f), (0 : BitVec 16)))
  let s' := { s' with img := { s'.img with arrived := s'.img.arrived.filter (fun e => !(new.any (fun x => x.2.1 == e.2.1))) ++ new } }
  if st = d.st then s' else note s' Ev.stationState (nodeIsland (stnNode k)) k 0 [if st = .online then 1 else 2, 0, s.t0]

/-- The input block that a frame matches: the first filter in filter order (R437). -/
def canFilter (s : State) (c id : Nat) : Option (Nat × Nat × Block) :=
  let l := (canStations s c).flatMap (fun k => ((station s k).blocks.mapIdx (fun i b => (k, i, b))).filter (fun x => x.2.2.input && x.2.2.fid % 2 ^ 31 == id % 2 ^ 31))
  l.foldl (fun a x => match a with | none => some x | some y => if x.2.2.slot < y.2.2.slot then some x else a) none

/-- Take a valid frame: references, filters, lengths, overruns (R437, R443, R445). -/
def canTake (s : State) (c id tag : Nat) (data : List Byte) : State :=
  if isRef s c id && decide ((if param s pCanTtLevel c = 2 then 4 else 1) ≤ data.length) then canRef s c id tag data
  else match canFilter s c id with
  | none => setCan s c (fun d => { d with unmatched := (d.unmatched + 1) % 2 ^ 32 })
  | some (k, bi, b) =>
    if data.length < b.len then
      note (setCan s c (fun d => { d with short := (d.short + 1) % 2 ^ 32 })) Ev.canLenShort (0x60 + c / 2) c 0 [id, data.length]
    else
      let over_ := s.img.arrived.any (fun e => decide (b.first ≤ e.2.1 ∧ e.2.1 < b.first + b.count))
      let s := if over_ then setCan s c (fun d => { d with overrun := true, short := (d.short + 1) % 2 ^ 32 }) else s
      stnArrive s k bi b data

/-- Add a frame's time on the bus, in µs (R446). -/
def canBusy (s : State) (c dur : Nat) : State :=
  setCan s c (fun d => { d with busy := d.busy.filter (fun x => decide (s.t0 < x.1 + sec)) ++ [(s.t0, dur)] })

/-- REC after a successful reception; one above 127 goes to a value from 119 to 127 that ISO 11898-1 leaves open (R440). -/
def recDown (s : State) (c : Nat) : State :=
  let d := canCh s c
  if canMode s c = 1 ∨ canMode s c = 2 then s
  else if 127 < d.rec_ then let (v, s) := fresh s; setCan s c (fun d => { d with rec_ := 119 + v.toNat % 9 })
  else setCan s c (fun d => { d with rec_ := d.rec_ - 1 })

/-- CAN_FRAME_RECEIVE (R437): a valid frame of another node, its start of frame at `tag`, `dur` µs long. -/
def execCanFrameReceive (ch : Fin 8) (id : Word) (data : List Byte) (tag : DWord) (dur : Half) (s : State) : Res :=
  let c := ch.val
  let s := canSync s c
  let d := canCh s c
  if !d.on ∨ d.busOff ∨ canMode s c = 3 ∨ s.t0 < tag.toNat ∨ (id.getLsbD 30 ∧ param s pCanFd c = 0) then .next s
  else
    let old := canState s c
    let s := recDown (canHeard s c) c
    let s := canBusy (setCan s c (fun d => { d with rx := (d.rx + 1) % 2 ^ 32 })) c dur.toNat
    .next (canPoints (canNote (canTake s c id.toNat tag.toNat data) c old) c)

/-- CAN_RX_ERROR (R440): an error in a frame of another node; `dom` when a dominant bit follows the error flag. -/
def execCanRxError (ch : Fin 8) (dom : Bool) (s : State) : Res :=
  let c := ch.val
  let s := canSync s c
  if !(canCh s c).on ∨ (canCh s c).busOff then .next s else .next (canError s c 0 (if dom then 8 else 1))

/-- CAN_PROTOCOL_EXCEPTION (R439): counted and PEX set for 1 s without a change of counters, or a form error without CAN.PEX. -/
def execCanProtocolException (ch : Fin 8) (s : State) : Res :=
  let c := ch.val
  let s := canSync s c
  if !(canCh s c).on ∨ (canCh s c).busOff then .next s
  else if !flag s pCanPex c then .next (canError s c 0 1)
  else .next (canPoints (setCan s c (fun d => { d with pexs := (d.pexs + 1) % 2 ^ 32, pexUntil := some (s.t0 + sec) })) c)

/-- PEX_TIMEOUT (R439). -/
def execPexTimeout (ch : Fin 8) (s : State) : Res :=
  match (canCh s ch.val).pexUntil with
  | none => .next s
  | some t => if s.t0 < t then .next s else .next (canPoints (setCan s ch.val (fun d => { d with pexUntil := none })) ch.val)

/-! ### Transmission (R433, R435, R440-R442) -/

/-- The arbitration key of a FRAME_ID (R433). -/
def canKey (id : Nat) : Nat :=
  if id / 2 ^ 29 % 2 = 0 then id % 2 ^ 11 * 2 ^ 21
  else let x := id % 2 ^ 29; x / 2 ^ 18 * 2 ^ 21 + 3 * 2 ^ 19 + x % 2 ^ 18 * 2

/-- Put a slot's frame on the bus. -/
def canStart (s : State) (c k : Nat) (f : CanFrame) : State :=
  let s := setCan s c (fun d => { d with onBus := some k })
  let s := setCanSlot s c k (fun d => { d with pend := some { f with attempts := f.attempts + 1 } })
  canSlotPoints (send s Out.canFrame c [f.id] f.data) c k

/-- Whether a channel may start frames (R438, R442). -/
def canMaySend (s : State) (c : Nat) : Bool :=
  let d := canCh s c
  d.on && !d.busOff && canMode s c != 1 && canMode s c != 2 && d.onBus.isNone

/-- CAN_TX_START (R433): of the frames pending for at least 1 µs the one with the lowest key, then the lowest slot. -/
def execCanTxStart (ch : Fin 8) (s : State) : Res :=
  let c := ch.val
  let s := canSync s c
  if !canMaySend s c then .next s
  else
    let l := (canCh s c).slots.filterMap (fun e => match e.2.pend with
      | some f => if f.since + us ≤ s.t0 ∧ !f.tt then some (e.1, f) else none
      | none => none)
    match l with
    | [] => .next s
    | x :: r => let y := r.foldl (fun a b => if canKey b.2.id < canKey a.2.id then b else a) x
                .next (canStart s c y.1 y.2)

/-- A frame whose attempt failed: withdrawn, out of time, out of attempts, or it waits for the next opportunity with the data that superseded it (R432, R435). -/
def canFailed (s : State) (c k : Nat) (f : CanFrame) (ack : Bool) : State :=
  let n := param s pCanSlotRetry (c * 32 + k)
  let dl := param s pCanSlotDeadline (c * 32 + k) * us
  match f.ending with
  | some e => canEnd s c k e
  | none =>
    if f.tt then canEnd s c k 8
    else if dl ≠ 0 ∧ f.since + dl ≤ s.t0 then canEnd s c k 4
    else if n ≠ 0 ∧ n + 1 ≤ f.attempts then canEnd s c k (if ack then 2 else 3)
    else canSlotPoints (setCanSlot s c k (fun d => { d with pend := some { f with data := d.next.getD f.data }, next := none })) c k

/-- CAN_TX_ATTEMPT_END (R435, R440, R441): 0 sent, 1 ACK error without and 2 with a dominant bit during the error flag, 3 another error, 4 arbitration lost, 5 a delay beyond transmitter delay compensation (R430). -/
def execCanTxAttemptEnd (ch : Fin 8) (result : Fin 6) (dur : Half) (s : State) : Res :=
  let c := ch.val
  match (canCh s c).onBus with
  | none => .next s
  | some k =>
    match (canSlot s c k).pend with
    | none => .next (setCan s c (fun d => { d with onBus := none }))
    | some f =>
      let old := canState s c
      let s := canBusy (setCan s c (fun d => { d with onBus := none })) c dur.toNat
      let res := result.val
      if res = 0 then
        let s := canHeard (setCan s c (fun d => { d with tx := (d.tx + 1) % 2 ^ 32, tec := d.tec - 1, txdTimeout := false })) c
        let s := canEnd (setCanSlot s c k (fun d => { d with pend := some f })) c k 1
        -- withheld or disabled while the frame was on the bus: what followed it ends too
        let s := match f.ending with | some e => canEnd s c k e | none => s
        let s := if 3 ≤ canMode s c then canTake (setCan s c (fun d => { d with rx := (d.rx + 1) % 2 ^ 32 })) c f.id s.t0 f.data else s
        .next (canPoints (canNote s c old) c)
      else if res = 4 then .next (canFailed s c k { f with attempts := f.attempts - 1 } false)
      else
        let ack := decide (res ≤ 2)
        let passive := decide (127 < (canCh s c).tec ∨ 127 < (canCh s c).rec_)
        let s := canError s c (if res = 1 ∧ passive then 0 else 8) 0
        let s := if res = 5 then note s Ev.canTdcRange (0x60 + c / 2) c 0 [f.id] else s
        let s := setCan s c (fun d => { d with aloneRun := if ack then d.aloneRun + 1 else 0 })
        let d := canCh s c
        let s := if 16 ≤ d.aloneRun ∧ !d.alone then note (setCan s c (fun d => { d with alone := true })) Ev.busAlone (0x60 + c / 2) c 0 [] else s
        .next (canPoints (canFailed s c k f ack) c)

/-- CAN_TXD_TIMEOUT (R426): the transceiver releases the bus; the controller detects a bit error in its attempt. -/
def execCanTxdTimeout (ch : Fin 8) (s : State) : Res :=
  let c := ch.val
  let s := canSync s c
  if !(canCh s c).on then .next s else .next (canPoints (setCan s c (fun d => { d with txdTimeout := true })) c)

/-- CAN_BUS_OFF_RECOVERY (R442): 128 occurrences of 11 recessive bits. -/
def execCanBusOffRecovery (ch : Fin 8) (s : State) : Res :=
  let c := ch.val
  let d := canCh s c
  if !(d.busOff && d.recovering) then .next s
  else
    let old := canState s c
    .next (canPoints (canNote (setCan s c (fun d => { d with busOff := false, recovering := false, tec := 0, rec_ := 0 })) c old) c)

/-- CAN_SLOT_DEADLINE (R435): a frame past its deadline ends; an attempt in progress finishes first. -/
def execCanSlotDeadline (ch : Fin 8) (slot : Fin 32) (s : State) : Res :=
  let c := ch.val
  let k := slot.val
  match (canSlot s c k).pend with
  | none => .next s
  | some f =>
    let dl := param s pCanSlotDeadline (c * 32 + k) * us
    if dl = 0 ∨ s.t0 < f.since + dl ∨ (canCh s c).onBus = some k then .next s else .next (canEnd s c k 4)

/-- CAN_HOLD_REPEAT (R436): in silent hold a CYCLIC slot with REPEAT enters its last frame again at its writer's interval, for 5 s. -/
def execCanHoldRepeat (ch : Fin 8) (slot : Fin 32) (s : State) : Res :=
  let c := ch.val
  let k := slot.val
  let d := canSlot s c k
  let n := node s (c / 2)
  let iv := d.applyAt - d.applyPrev
  let cyc := (canStations s c).any (fun x => (station s x).blocks.any (fun b => !b.input && b.slot == k && b.txMode == 0))
  match d.entered with
  | none => .next s
  | some (id, data) =>
    if !n.silent ∨ !cyc ∨ param s pCanSlotHold (c * 32 + k) = 0 ∨ iv = 0 ∨ s.t0 < d.repAt + iv ∨ n.silentSince + 5 * sec < s.t0 then .next s
    else
      let stn := ((canStations s c).find? (fun x => (station s x).blocks.any (fun b => !b.input && b.slot == k)))
      .next (canEnter (setCanSlot s c k (fun d => { d with repAt := d.repAt + iv })) c k id data stn false)

/-! ### TTCAN (R447-R450) -/

/-- The time in ns that a master gives its references, and whether it is T1 (R448). -/
def ttSource (s : State) (c : Nat) : Nat := if param s pCanTtMasterTime c = 0 ∨ (domain s 1).st = 0 then s.t0 else t1At s s.t0

/-- TT_REFERENCE_SEND (R448): a master's reference at TT_CYCLE; a potential master's goes out only when it wins. -/
def execTtReferenceSend (ch : Fin 8) (won : Bool) (s : State) : Res :=
  let c := ch.val
  let s := canSync s c
  let d := canCh s c
  let role := param s pCanTtRole c
  let cur := d.tt = 4 ∨ role = 2
  let due := match d.ref with | some t => t + canCycle s c | none => 0
  let passive := 127 < d.tec ∨ 127 < d.rec_
  if !d.on ∨ d.busOff ∨ passive ∨ canMode s c = 1 ∨ canMode s c = 2 ∨ !(role == 2 || role == 3) ∨ s.t0 < due then .next s
  else if !cur ∧ !won then .next s
  else
    let cnt := match d.ref with | some _ => (d.cycle + 1) % 64 | none => 0
    let m := ttSource s c / canNtu s c
    let lvl2 := param s pCanTtLevel c = 2
    let t1 := decide (param s pCanTtMasterTime c ≠ 0) && decide ((domain s 1).st ≠ 0)
    let disc := d.disc || (match d.srcT1 with | some x => x != t1 | none => false)
    let data := leBytes 1 cnt ++ (if lvl2 then leBytes 1 (if disc then 128 else 0) ++ leBytes 2 (m % 65536) else [])
    let s := if d.tt ≠ 4 ∧ role = 3 then note s Ev.ttMasterChange (0x60 + c / 2) c 0 [cnt] else s
    let s := setCan s c (fun d => { d with tt := 4, cycle := cnt, ref := some s.t0, mark := if lvl2 then some m else none, disc := false, srcT1 := some t1, syncLost := false, gap := false
                                           prio := param s pCanTtRefId c % 8, tx := (d.tx + 1) % 2 ^ 32, tec := d.tec - 1, txdTimeout := false, alone := false, aloneRun := 0 })
    let s := canPoints (send s Out.canFrame c [param s pCanTtRefId c] data) c
    if lvl2 ∧ flag s pCanT2Source c ∧ param s pTimeSource 2 = 2 then .next (takeMeas s 2 s.t0 ((m * canNtu s c : Nat) : Int)) else .next s

/-- TT_WINDOW (R450): a slot's exclusive window; `idle` whether the bus is free at it. -/
def execTtWindow (ch : Fin 8) (slot : Fin 32) (idle : Bool) (s : State) : Res :=
  let c := ch.val
  let k := slot.val
  let s := canSync s c
  let d := canCh s c
  match (canSlot s c k).pend with
  | none => .next s
  | some f =>
    let rep := max 1 (param s pCanSlotTtRepeat (c * 32 + k))
    let mine := (d.cycle + 64 - param s pCanSlotTtBase (c * 32 + k) % 64) % 64 % rep = 0
    let start := match d.ref with | some t => t + param s pCanSlotTtOffset (c * 32 + k) * canNtu s c | none => s.t0
    if !f.tt ∨ !mine ∨ s.t0 < start ∨ d.gap then .next s
    else if (d.tt = 3 ∨ d.tt = 4) ∧ idle ∧ s.t0 ≤ start + canBit s c ∧ canMaySend s c then .next (canStart s c k f)
    else .next (canEndLater s c k 8)

/-- TT_SYNC_LOSS (R449): no valid reference within 3 cycles. -/
def execTtSyncLoss (ch : Fin 8) (s : State) : Res :=
  let c := ch.val
  let d := canCh s c
  match d.ref with
  | none => .next s
  | some t =>
    if d.tt = 4 ∨ d.tt = 1 ∨ param s pCanTtRole c = 0 ∨ s.t0 < t + 3 * canCycle s c then .next s
    else .next (canPoints (setCan s c (fun d => { d with tt := 1, syncLost := true, run := 0, missedRefs := (d.missedRefs + 3) % 2 ^ 32 })) c)

/-! ### The host's frames (R432, R435, R442, R555, R556) -/

/-- Whether an output block of a station uses a slot. -/
def slotTaken (s : State) (c k : Nat) : Bool := (canStations s c).any (fun x => (station s x).blocks.any (fun b => !b.input && b.slot == k))

/-- The lengths a frame may have. -/
def canLenOk (fd : Bool) (n : Nat) : Bool := decide (n ≤ 8) || (fd && [12, 16, 20, 24, 32, 48, 64].contains n)

/-- CAN_SEND. -/
def execCanSend (r : Req) (s : State) : Res :=
  let c := fld r.payload 0 1
  let k := fld r.payload 1 1
  let n := fld r.payload 2 1
  let id := fld r.payload 4 4
  .next (command s r 0x0701 true allModes (8 + n) (r.target == 0 && decide (c < 8) && decide (k < 32 ∨ k = 0xFF) && fld r.payload 3 1 == 0 &&
      canLenOk (id / 2 ^ 30 % 2 == 1 && param s pCanFd c == 1) n && (k == 0xFF || !slotTaken s c k)) (fun s =>
    let s := canSync s c
    if !flag s pCanEnable c then finish s r 0x0701 true 0x0208
    else
      let free := if k = 0xFF then (List.range 32).find? (fun i => !slotTaken s c i && (canSlot s c i).pend.isNone) else some k
      match free with
      | none => finish s r 0x0701 true 0x0505
      | some i => finish (canEnter s c i id ((r.payload.drop 8).take n) none false) r 0x0701 true 0 (leBytes 1 i ++ [0, 0, 0])))

/-- CAN_ABORT. -/
def execCanAbort (r : Req) (s : State) : Res :=
  let c := fld r.payload 0 1
  let k := fld r.payload 1 1
  .next (command s r 0x0702 true allModes 4 (r.target == 0 && decide (c < 8 ∧ k < 32) && fld r.payload 2 2 == 0) (fun s =>
    finish (if (canSlot s c k).pend.isSome then canEndLater s c k 7 else s) r 0x0702 true 0))

/-- CAN_RECOVER: a channel that is not bus-off answers 0x0208. -/
def execCanRecover (r : Req) (s : State) : Res :=
  let c := fld r.payload 0 1
  .next (command s r 0x0703 true allModes 4 (r.target == 0 && decide (c < 8) && fld r.payload 1 3 == 0) (fun s =>
    let s := canSync s c
    if !(canCh s c).busOff then finish s r 0x0703 true 0x0208
    else finish (canPoints (setCan s c (fun d => { d with recovering := true, held := false })) c) r 0x0703 true 0))

end Sys2Proof.Machine
end

