-- ==== Sys2Proof/Machine/Channels.lean ====
section
/-! DEFINITION. The configurable 24 V channels: inputs, outputs, protection, diagnosis, group supply, safety groups (R269-R294). -/

namespace Sys2Proof.Machine

/-- After a channel's state or supply has changed, the axes whose limits it serves follow (R276). -/
def chAxes (s : State) (c : Nat) : State :=
  let q := chConds s c
  axisFiltered s c (chan s c).filt (q.getLsbD 3 || q.getLsbD 4)

/-- A tile unit's event. -/
def chNote (s : State) (e : Ev) (c : Nat) (p : List Nat := []) : State := note s e (0x60 + c / 128) c 0 p

/-- Take a filtered state (R274). -/
def chFiltered (s : State) (c : Nat) (v : Bool) : State :=
  if (chan s c).filt = v then s
  else
    let s := setChan s c (fun d => { d with filt := v, edges := if v then d.edges + 1 else d.edges })
    chAxes (chFacets s c) c

/-- INPUT_PIN_CHANGE (R273, R274, R277, R288): the pin's comparator changes: an input's raw state and full current limit, an output's readback and crossing. -/
def execInputPinChange (c : BitVec 9) (level : Bool) (s : State) : Res :=
  let c := c.toNat
  if (chan s c).raw = level then .next s
  else
    let s := setChan s c (fun d => { d with raw := level, rawSince := s.t0, crossAt := s.t0, crossUp := level })
    if isIn s c then
      let s := axisRawEdge s c
      let s := if (chan s c).flags.testBit 15 then chNote (chFlag s c 15 false) Ev.chStepdown c [0] else s
      .next (if param s pChFilter c = 0 then chFiltered s c level else s)
    else
      -- switchings of other outputs of the tile within the last 200 µs in the same direction (R288)
      let y := s.io.ch.find? (fun e => e.1 / 128 == c / 128 && e.1 != c && e.2.on == level && decide (0 < e.2.swAt) && decide (s.t0 ≤ e.2.swAt + 200000) && isOut s e.1)
      .next (chFacets (setChan s c (fun d => { d with partner := if (chan s c).on then d.partner else y.map (·.1) })) c)

/-- FILTERED_STATE_CHANGE (R274): the raw state has held for CH.FILTER. -/
def execFilteredStateChange (c : BitVec 9) (s : State) : Res :=
  let c := c.toNat
  let d := chan s c
  if !isIn s c ∨ s.t0 < d.rawSince + param s pChFilter c * us then .next s else .next (chFiltered s c d.raw)

/-- STEPDOWN (R273): the comparator has held ON for STEPDOWN_TIME. -/
def execStepdown (c : BitVec 9) (s : State) : Res :=
  let c := c.toNat
  let d := chan s c
  let t := param s pChStepdownTime c
  if !isIn s c ∨ t = 0 ∨ !d.raw ∨ d.flags.testBit 15 ∨ s.t0 < d.rawSince + t * ms then .next s
  else .next (chNote (chFlag s c 15 true) Ev.chStepdown c [1])

/-- WIRE_BREAK_TIMEOUT (R275): the input current (mA, binary32) has stayed on one side of 0.25 mA for WB_TIME; suspended while the supply is lost. -/
def execWireBreakTimeout (c : BitVec 9) (ma : Word) (s : State) : Res :=
  let c := c.toNat
  if !isIn s c ∨ !flag s pChWbEnable c ∨ (grp s (c / 8)).lost then .next s
  else
    let s := putField s (chPt c 3) ma
    .next (chAxes (chFlag s c 3 (flt f32 ma.toNat 0x3E800000)) c)

/-- How a switched-off output waits (R278): 1 latched, 2 for a retry. -/
def waitKind (s : State) (c : Nat) : Nat := if param s pChOvlRetry c = 0 then 1 else 2

/-- OVERLOAD_TIMEOUT (R278): an output in current limit for OVL_TIME is switched off. -/
def execOverloadTimeout (c : BitVec 9) (ma : Word) (s : State) : Res :=
  let c := chKey s c.toNat
  if !isOut s c ∨ !(chan s c).on then .next s
  else
    let s := setChan (putField s (chPt c 3) ma) c (fun d => { d with latch := waitKind s c, latchAt := s.t0 })
    .next (chNote (chRefresh (chFlag s c 0 true) c) Ev.chOverload c [ma.toNat])

/-- OVER_TEMP (R278): a switch junction reaches 160 °C (°C, binary32); the eighth shutdown in 10 s latches. -/
def execOverTemp (c : BitVec 9) (temp : Word) (s : State) : Res :=
  let c := chKey s c.toNat
  if !isOut s c ∨ !(chan s c).on then .next s
  else
    let ts := ((chan s c).thermals ++ [s.t0]).filter (fun t => decide (s.t0 ≤ t + 10 * sec))
    let s := setChan (putField s (chPt c 5) temp) c (fun d => { d with latch := if 8 ≤ ts.length then 1 else 3, latchAt := s.t0, thermals := ts })
    .next (chNote (chRefresh (chFlag s c 1 true) c) Ev.chOvertemp c [temp.toNat])

/-- OVER_TEMP_RECOVER (R278): below 140 °C the output restarts if its command is still 1. -/
def execOverTempRecover (c : BitVec 9) (temp : Word) (s : State) : Res :=
  let c := chKey s c.toNat
  let s := if isOut s c then putField s (chPt c 5) temp else s
  if (chan s c).latch ≠ 3 ∨ !(chan s c).cmd then .next s
  else .next (chRefresh (setChan s c (fun d => { d with latch := 0 })) c)

/-- OVERLOAD_RETRY (R278): with AUTO the output is switched on again after RETRY_PERIOD while the command is 1. -/
def execOverloadRetry (c : BitVec 9) (s : State) : Res :=
  let c := chKey s c.toNat
  let d := chan s c
  if d.latch ≠ 2 ∨ !d.cmd ∨ s.t0 < d.latchAt + param s pChRetryPeriod c * ms then .next s
  else .next (chRefresh (setChan s c (fun d => { d with latch := 0 })) c)

/-- PAIR_IMBALANCE (R279): unequal currents of the two switches for 10 ms set the flag, 100 ms without imbalance clears it. -/
def execPairImbalance (c : BitVec 9) (on : Bool) (s : State) : Res :=
  let c := chKey s c.toNat
  if param s pChMode c ≠ 4 then .next s else .next (chFlag s c 14 on)

/-- The output that load shedding takes next: the one switched on last, of equals the highest channel (R280). -/
def shedPick (s : State) (p : Nat → Bool) : Option Nat :=
  (s.io.ch.filter (fun e => p e.1 && e.2.on)).foldl (fun (a : Option Nat) e =>
    match a with | none => some e.1 | some b => if (chan s b).onAt ≤ e.2.onAt then some e.1 else some b) none

/-- GROUP_SHED (R280): a group's or (unit 64 + t) a tile's measured output current in mA; above its limit for 2 ms one output is shed each 1 ms until it is below release. -/
def execGroupShed (unit : Fin 68) (ma : Nat) (s : State) : Res :=
  let u := unit.val
  let g := grp s u
  let (lim, rel) := if u < 64 then (1650, 1500) else (12500, 12000)
  if ma < rel then .next (setGrp s u (fun g => { g with shedding := false }))
  else if !g.shedding && decide (ma ≤ lim) then .next s
  else if g.shedding && decide (s.t0 < g.shedAt + ms) then .next s
  else match shedPick s (fun c => if u < 64 then c / 8 == u else c / 128 == u - 64) with
  | none => .next s
  | some c =>
    let s := setGrp s u (fun g => { g with shedding := true, shedAt := s.t0 })
    let s := setChan s c (fun d => { d with latch := waitKind s c, latchAt := s.t0 })
    .next (chNote (chRefresh (chFlag s c 12 true) c) Ev.chShed c [u, ma])

/-- SETTLE_EXPIRY (R283): CH.SETTLE has passed since the last change of the command. -/
def execSettleExpiry (c : BitVec 9) (s : State) : Res :=
  let c := chKey s c.toNat
  let d := chan s c
  if d.settled ∨ s.t0 < d.cmdSince + param s pChSettle c * us then .next s
  else .next (setChan s c (fun d => { d with settled := true }))

/-- Whether "after settle" holds: settled, and neither CUT nor SUPPLY_LOST (R283, R293). -/
def afterSettle (s : State) (c : Nat) : Bool := (chan s c).settled && !(grp s (c / 8)).cut && !(grp s (c / 8)).lost

/-- OPEN_LOAD_DETECT (R283): the open-load condition of the off or on state has held for 10 ms; `ma` is the switch current. -/
def execOpenLoadDetect (c : BitVec 9) (ma : Word) (s : State) : Res :=
  let c := chKey s c.toNat
  let on := (chan s c).on
  let hit := if on then flt f32 0 (param s pChOpenOnMa c) && flt f32 ma.toNat (param s pChOpenOnMa c) else flag s pChOpenOffTest c
  if !isOut s c ∨ !afterSettle s c then .next s
  else .next (let s := putField s (chPt c 3) ma; if hit then chFlag s c 2 true else s)

/-- Whether a channel is a standby's paralleled one, whose SHORT_TO_LPLUS and EXT_DRIVE are not set (R479). -/
def standbyPar (s : State) (c : Nat) : Bool := decide (s.mode.cur = .standby) && flag s pTwinParallel c

/-- SHORT_TO_LPLUS_DETECT (R283, R287, R288, R479): an off output's pin at 10 V or more for 1 ms; correlation with a switching makes it EXT_DRIVE. -/
def execShortToLplusDetect (c : BitVec 9) (s : State) : Res :=
  let c := chKey s c.toNat
  if !isOut s c ∨ (chan s c).on ∨ !afterSettle s c ∨ standbyPar s c then .next s
  else if (chan s c).partner.isSome then .next (chFlag s c 5 true) else .next (chFlag s c 4 true)

/-- REVERSE_DETECT (R283, R289): the pin is above the group's L+ by more than 0.5 V for 1 ms. -/
def execReverseDetect (c : BitVec 9) (s : State) : Res :=
  let c := chKey s c.toNat
  if !isOut s c then .next s else .next (chFlag s c 6 true)

/-- STUCK_ON_DETECT (R283): an off switch carries more than 5 mA for 5 ms; the Ridge is told. -/
def execStuckOnDetect (c : BitVec 9) (ma : Word) (s : State) : Res :=
  let c := chKey s c.toNat
  if !isOut s c ∨ (chan s c).on ∨ !afterSettle s c ∨ (chan s c).flags.testBit 7 then .next s
  else .next (report (chFlag (putField s (chPt c 3) ma) c 7 true) 0x0901 (0x60 + c / 128) c)

/-- READBACK_FAIL_DETECT (R283, R294): commanded on, no other flag of the table, readback 0 for 5 ms. -/
def execReadbackFailDetect (c : BitVec 9) (s : State) : Res :=
  let c := chKey s c.toNat
  let d := chan s c
  if !isOut s c ∨ !d.cmd ∨ d.raw ∨ !afterSettle s c ∨ (grp s (c / 8)).test.isSome ∨ chWord s c % 2 ^ 17 ≠ 0 then .next s
  else .next (chFlag s c 8 true)

/-- CH_FLAG_CLEAR (R283): the clearing condition of flag `k` has held for its time. STUCK_ON clears only in a tile restart's self-test. -/
def execChFlagClear (c : BitVec 9) (k : Fin 16) (s : State) : Res :=
  let c := chKey s c.toNat
  let d := chan s c
  let ok := match k.val with
    | 0 | 1 | 12 => d.on && decide (d.onAt + 10 * ms ≤ s.t0)
    | 2 => true
    | 4 | 5 => !d.raw
    | 6 => true
    | 8 => d.raw || !d.cmd
    | _ => false
  if !isOut s c ∨ !ok then .next s
  else
    let s := chFlag s c k.val false
    .next (if k.val = 5 then setChan s c (fun d => { d with partner := none }) else s)

/-! ### Group supply (R284-R286) -/

/-- SUPPLY_MEASURE (R284): every 10 µs a group's L+ is measured (mV); at a 100 µs boundary the mean is published. -/
def execSupplyMeasure (g : Fin 64) (mv : Nat) (s : State) : Res :=
  let g := g.val
  let t := s.t0
  let keep (c : Bool) (o : Option Nat) : Option Nat := if c then some (o.getD t) else none
  let s := setGrp s g (fun d => { d with
    mv := mv, sum := d.sum + mv, cnt := d.cnt + 1
    lowSince := keep (decide (mv < 18000)) d.lowSince, okSince := keep (decide (18000 < mv)) d.okSince
    highSince := keep (decide (31000 < mv)) d.highSince, hiOkSince := keep (decide (mv ≤ 31000)) d.hiOkSince
    minMv := if d.low ∨ d.lost then min d.minMv mv else mv, maxMv := if d.high then max d.maxMv mv else mv })
  if t % 100000 ≠ 0 then .next s
  else
    let d := grp s g
    let v : Rat := (d.sum : Rat) / ((d.cnt : Rat) * 1000)
    let q : BitVec 16 := if v < 0 ∨ 36 < v then condOf 6 else 0
    let s := setGrp s g (fun d => { d with sum := 0, cnt := 0 })
    .next ((grpChans g).foldl (fun s c =>
      if param s pChMode c = 4 ∧ c % 2 = 1 then s else putField s (chPt c 7) (bv 32 (f32OfRat v)) q) s)

/-- A group's event, with the lowest or highest voltage. -/
def grpNote (s : State) (e : Ev) (g mv : Nat) : State := note s e (0x60 + g / 16) g 0 [mv]

/-- SUPPLY_LOW (R285): below 18.0 V or above 31.0 V for 500 µs. -/
def execSupplyLow (g : Fin 64) (s : State) : Res :=
  let g := g.val
  let held (o : Option Nat) : Bool := match o with | some t => decide (t + 500 * us ≤ s.t0) | none => false
  let d := grp s g
  let s := if held d.lowSince && !d.low then grpNote (grpRefresh (setGrp s g (fun d => { d with low := true })) g) Ev.supplyLow g d.minMv else s
  .next (if held d.highSince && !d.high then grpNote (grpRefresh (setGrp s g (fun d => { d with high := true })) g) Ev.supplyHigh g d.maxMv else s)

/-- SUPPLY_LOST (R285): below 9.0 V the group's outputs go off and SUPPLY_LOST latches; tile supply `16t` carries the analog outputs (R302). -/
def execSupplyLost (g : Fin 64) (s : State) : Res :=
  let g := g.val
  let d := grp s g
  if d.lost ∨ 9000 ≤ d.mv then .next s
  else
    let s := grpRefresh (setGrp s g (fun d => { d with lost := true, restoreAt := none, ackWait := false })) g
    let s := (grpChans g).foldl chAxes s
    let s := if g % 16 = 0 then ((List.range 8).map (fun k => 8 * (g / 16) + k)).foldl aoRefresh s else s
    .next (grpNote s Ev.supplyLost g d.mv)

/-- SUPPLY_RESTORED (R285, R286): 10 ms above 18.0 V clears SUPPLY_LOW and SUPPLY_LOST, 10 ms at or below 31.0 V clears SUPPLY_HIGH. -/
def execSupplyRestored (g : Fin 64) (s : State) : Res :=
  let g := g.val
  let held (o : Option Nat) : Bool := match o with | some t => decide (t + 10 * ms ≤ s.t0) | none => false
  let d := grp s g
  let up := held d.okSince && (d.low || d.lost)
  let down := held d.hiOkSince && d.high
  if !up && !down then .next s
  else
    let auto := param s pChGRestore g = 0
    let s := setGrp s g (fun d => { d with
      low := d.low && !up, lost := d.lost && !up, high := d.high && !down
      restoreAt := if up && d.lost && auto then some (wholeMs (s.t0 + 1) 0) else d.restoreAt
      ackWait := if up && d.lost && !auto then true else d.ackWait })
    let s := (grpChans g).foldl chAxes (grpRefresh s g)
    .next (grpNote s Ev.supplyRestored g (if up then d.minMv else d.maxMv))

/-- GROUP_RESTORE (R286): at its instant the group's outputs take their commanded state. -/
def execGroupRestore (g : Fin 64) (s : State) : Res :=
  let g := g.val
  match (grp s g).restoreAt with
  | none => .next s
  | some t => if s.t0 < t then .next s else .next (grpRefresh (setGrp s g (fun d => { d with restoreAt := none, ackWait := false })) g)

/-! ### Safety groups (R292-R294) -/

/-- 1.9 ms without a valid permit edge (R293). -/
def permitNs : Nat := 1900000

/-- PERMIT_EDGE (R293): the tile decodes a valid permit edge. -/
def execPermitEdge (g : Fin 64) (s : State) : Res := .next (setGrp s g.val (fun d => { d with permitAt := some s.t0 }))

/-- Whether a safety group's permit stands at its tile. -/
def permitStands (s : State) (g : Nat) : Bool := match (grp s g).permitAt with | some t => decide (s.t0 < t + permitNs) | none => false

/-- PERMIT_TIMEOUT (R293): both elements open and CUT is set on the eight channels. -/
def execPermitTimeout (g : Fin 64) (s : State) : Res :=
  let g := g.val
  if !flag s pSafeGroup g ∨ (grp s g).cut ∨ permitStands s g then .next s
  else
    let s := setGrp s g (fun d => { d with cut := true, elemA := false, elemB := false })
    let s := (grpChans g).foldl (fun s c => setChan s c (fun d => { d with cutWait := true })) s
    .next (note ((grpChans g).foldl chAxes (grpRefresh s g)) Ev.groupCut (0x60 + g / 16) g 0 [1])

/-- CUT_CLEAR (R293): with the permit back both elements close; the outputs follow from their next apply strobe. -/
def execCutClear (g : Fin 64) (s : State) : Res :=
  let g := g.val
  if !(grp s g).cut ∨ !permitStands s g ∨ (grp s g).test.isSome then .next s
  else
    let s := setGrp s g (fun d => { d with cut := false, elemA := true, elemB := true })
    -- in silent hold no apply strobe comes, and the outputs take the held state (R290)
    let s := if (tget {} s.nodes (g / 16)).silent then (grpChans g).foldl (fun s c => setChan s c (fun d => { d with cutWait := false })) s else s
    .next (note ((grpChans g).foldl chAxes (grpRefresh s g)) Ev.groupCut (0x60 + g / 16) g 0 [0])

/-- CUT_ELEMENT_TEST (R294): the tile opens one element, or under CUT closes the other, for at most 300 µs. -/
def execCutElementTest (g : Fin 64) (elem : Fin 2) (s : State) : Res :=
  let g := g.val
  if !flag s pSafeGroup g ∨ (grp s g).test.isSome then .next s
  else .next (setGrp s g (fun d => { d with
    test := some (elem.val, s.t0), elemA := elem.val = 1, elemB := elem.val = 0 }))

/-- CUT_TEST_END (R294): the test ends with its result, the elements return; a failure is reported as CUT_TEST_FAIL. -/
def execCutTestEnd (g : Fin 64) (passed : Bool) (s : State) : Res :=
  let g := g.val
  match (grp s g).test with
  | none => .next s
  | some (e, _) =>
    let s := setGrp s g (fun d => { d with test := none, elemA := !d.cut, elemB := !d.cut })
    let s := elemResult s g e passed
    .next (if passed then s else report s 0x0804 (0x60 + g / 16) g)

end Sys2Proof.Machine
end

