-- ==== Sys2Proof/Machine/Feasible.lean ====
section
/-! DEFINITION. The feasibility test of task placement: load, response, blocking and tile events (R104). -/

namespace Sys2Proof.Machine

/-- A task as the test sees it: level, period and C' in ns. -/
structure FeasTask where
  level : Nat
  period : Nat
  cost : Nat
  deriving DecidableEq, Repr

/-- C': the budget plus the window copy of R52 plus 1 µs of dispatch. -/
def costNs (budget points : Nat) : Nat := budget * 10 + (500 + 4 * points) + 1000

/-- Whether the sum of cost over period is at most `pct` percent. -/
def loadOk (pct : Nat) (l : List FeasTask) : Bool :=
  let f := l.foldl (fun (a : Nat × Nat) t => (a.1 * t.period + t.cost * a.2, a.2 * t.period)) (0, 1)
  decide (f.1 * 100 ≤ pct * f.2)

/-- One step of the response iteration. -/
def respStep (base : Nat) (others : List FeasTask) (w : Nat) : Nat :=
  others.foldl (fun a t => a + (w + t.period - 1) / max 1 t.period * t.cost) base

/-- The smallest fixed point from below, within the limit and the fuel. -/
def respFix (base limit : Nat) (others : List FeasTask) : Nat → Nat → Bool
  | 0, _ => false
  | n + 1, w => if w > limit then false else
    let v := respStep base others w
    if v = w then true else respFix base limit others n v

/-- The blocking term of a task among the others. -/
def blocking (t : FeasTask) (others : List FeasTask) : Nat :=
  (others.filter (fun o => decide (t.level < o.level) && (decide (4 ≤ t.level) || decide (o.level ≤ 3)))).foldl (fun a o => max a o.cost) 0

/-- Every way to take one element out of a list. -/
def picks {α : Type} : List α → List (α × List α)
  | [] => []
  | x :: r => (x, r) :: (picks r).map (fun p => (p.1, x :: p.2))

/-- The load and response parts of the test on one engine. -/
def engineOk (pct : Nat) (l : List FeasTask) : Bool :=
  loadOk pct l &&
  (picks l).all (fun p =>
    let t := p.1
    let base := t.cost + blocking t p.2
    let limit := t.period - 20 * us
    respFix base limit (p.2.filter (fun o => decide (o.level ≤ t.level))) (limit / 1000 + 2) base)

/-- The tasks of an engine under a placement, as the test sees them. -/
def feasTasks (s : State) (place : Nat → Nat) (c : Nat) : List FeasTask :=
  (s.sched.tasks.filter (fun e => e.2.present && place e.2.prog == c)).map (fun e =>
    { level := param s pTaskLevel e.1, period := periodNs s e.1,
      cost := costNs (param s pTaskBudget e.1) ((tget [] s.sched.windows e.2.window).foldl (fun a r => a + r.2) 0) })

/-- The test on one engine. -/
def feasible (s : State) (place : Nat → Nat) (c : Nat) : Bool :=
  engineOk (param s pSysCeLoadLimit 0) (feasTasks s place c)

/-- Whether `t` µs is a release instant of a period and phase in µs. -/
def isRelease (t period phase : Nat) : Bool := decide (0 < period) && ((t : Int) - phase) % period == 0

/-- Strobe events pending on a tile at `t` µs: one apply strobe of each task or loop that writes there, and the distinct sample instants of the next 20 µs (R104). -/
def tilePending (writers : Nat) (sample : Nat → Bool) (t : Nat) : Nat :=
  writers + ((List.range 20).filter (fun k => sample (t + k + 1))).length

/-- No instant of the hyperperiod has more than 256 pending strobe events on a tile. -/
def tileOk (writers hyper : Nat) (sample : Nat → Bool) : Bool :=
  (List.range hyper).all (fun t => decide (tilePending writers sample t ≤ 256))

end Sys2Proof.Machine
end

