-- ==== Sys2Proof/Machine/Motion.lean ====
section
/-! DEFINITION. The motion engines: requests, planning, coupling, homing, segments (R226-R253). -/

namespace Sys2Proof.Machine

/-- The motion tick in ns (R227). -/
def tickNs : Nat := 100000

/-- A profile's limits V, A, J (R228). -/
def pfV (s : State) (i : Nat) : Rat := if isLocal i then paramRat s pAxisVmax (axisOf i) else paramRat s pProfVmax i
/-- Acceleration limit. -/
def pfA (s : State) (i : Nat) : Rat := if isLocal i then paramRat s pAxisAmax (axisOf i) else paramRat s pProfAmax i
/-- Jerk limit. -/
def pfJ (s : State) (i : Nat) : Rat := if isLocal i then paramRat s pAxisJmax (axisOf i) else paramRat s pProfJmax i
/-- The lead of a profile's segments in ns; profiles without an axis have none (DEDUCED, log 21). -/
def pfLead (s : State) (i : Nat) : Nat := if isLocal i then param s pAxisLead (axisOf i) * tickNs else 0
/-- The offset of a profile's figures: that of its axis (R229, R249). -/
def pfOff (s : State) (i : Nat) : Int := if isLocal i then (axis s (axisOf i)).offset else 0
/-- Whether a profile's figures are referenced. -/
def pfRef (s : State) (i : Nat) : Bool := isLocal i && (axis s (axisOf i)).referenced

/-- The soft limits in tile coordinates (R234). -/
def softLims (s : State) (i : Nat) : Rat × Rat :=
  let o : Int := pfOff s i
  if pfRef s i then (((sval32 (param s pAxisSoftNeg (axisOf i)) - o : Int) : Rat), ((sval32 (param s pAxisSoftPos (axisOf i)) - o : Int) : Rat))
  else (((-2147483647 - o : Int) : Rat), ((2147483647 - o : Int) : Rat))

/-- Facet 6 of the axis as the sample before the tick latched it (R227). -/
def limSample (s : State) (i t : Nat) : Nat :=
  if isLocal i then (pgetAt s (t - tickNs) (axPt (axisOf i) 6)).value.toNat else 0

/-- Whether motion of sign `sg` goes toward a latched limit (R245). -/
def towardLatched (s : State) (i : Nat) (sg : Rat) : Bool :=
  isLocal i && ((decide (sg < 0) && (axis s (axisOf i)).neg.latched) || (decide (0 < sg) && (axis s (axisOf i)).plus.latched))

/-- A plan sampled at `t`: from the first sample whose successor reaches the end, exactly the target at rest (R233); a velocity plan goes on at its last velocity. -/
def sampled (q : Plan) (vel : Bool) (t : Nat) : Rat × Rat × Rat :=
  if vel then
    let (p, v, a) := q.at_ t
    let x : Rat := ((t - q.start : Nat) : Rat) / 1000000000 - phasesLen q.phases
    if 0 < x then (p + v * x, v, 0) else (p, v, a)
  else if q.ends t tickNs then (q.target, 0, 0) else q.at_ t

/-- Whether a profile's state runs a velocity plan. -/
def velState (d : PfSt) : Bool := d.st == 3 || d.st == 4 || (d.st == 7 && match d.home with | some h => h.phase == 0 || h.phase == 2 || h.phase == 3 | none => false)

/-! ### Operations and answers -/

/-- Answer a maintenance command's final response (R554). -/
def maintDone (s : State) (i status : Nat) : State :=
  match (prof s i).running with
  | none => s
  | some m =>
    setProf (finish s { mb := ⟨m.mb % 8, Nat.mod_lt _ (by decide)⟩, tag := bv 5 m.tag } m.opcode true status) i (fun d => { d with running := none })

/-- End the running move's operation with a status and the kind's own code (R327); a step of a stream that owns it learns of a failure (R319). -/
def moveEnd (s : State) (i status detail : Nat) : State :=
  let h := (prof s i).handle
  let s := match opOf s h with
    | none => s
    | some o =>
      let s := setOp s (slotOf h) (fun o => { o with detail := if status = 7 then detail else o.detail })
      let s := if status ≠ 1 ∧ o.owner < 16 then setStream s o.owner (fun d => { d with subFailed := d.subFailed || d.handle == o.parent }) else s
      opEnd s h status
  setProf s i (fun d => { d with handle := 0 })

/-- A homing ends with a status (R249, R250): the AX facet, the event, the operation. -/
def homeEnd (s : State) (i code : Nat) : State :=
  match (prof s i).home with
  | none => s
  | some h =>
    let x := axisOf i
    let s := modAxis s x (fun d => { d with homeSt := code, homing := 0 })
    let s := note s Ev.axisHome (0x28 + i / 16) i 0 [code, (w32 h.e).toNat, (w32 (axis s x).offset).toNat, (s.t0 - h.started) / us]
    let s := setProf s i (fun d => { d with home := none })
    let s := moveEnd s i (if code = 2 then 1 else 7) code
    maintDone s i (if code = 2 then 0 else 0x040B)

/-- What a stop that was asked for, a disable or a mode entry ends: a homing as ABORTED, a move with a status (R250, R251). -/
def endRunning (s : State) (i status : Nat) : State :=
  let d := prof s i
  if d.home.isSome then
    let s := moveEnd s i status 7
    homeEnd s i 7
  else maintDone (moveEnd s i status 0) i (if d.running.any (fun m => m.req == 3) then 0 else 0x020C)

/-- The operation kind of a request (R325). -/
def reqKind (req : Nat) : Option (Nat × Nat) := axisOp req

/-- Attach a request to the operation a stream's step admitted for it, or admit one for a program; the state and the handle (R230, R330). A program's operation has no stated resume rule (DESIGN CHOICE, log 20). -/
def reqAdmit (s : State) (i req no : Nat) (data : List Nat) : Except Nat (Nat × State) :=
  match reqKind req with
  | none => .ok (0, s)
  | some (k, cls) =>
    if !isLocal i then .ok (0, s)
    else
      let mine (o : OpSt) : Bool := o.st == 1 && o.kind == k && decide (o.parent ≠ 0) && (o.data[0]?).getD 64 == i && (k != 2 || (o.data[2]?).getD 256 == no)
      match s.track.slots.find? (fun e => mine e.2) with
      | some e => .ok (handleOf e.1 e.2, setOp s e.1 (fun o => { o with data := data }))
      | none =>
        let (v, s') := fresh s
        opAdmit s' k (2 * 65536 + i) (v.toNat % 4) cls 0 0 s.t0 data false

/-- A request is refused (R230). -/
def refuseReq (s : State) (i no status : Nat) : State :=
  let s := note (setProf s i (fun d => { d with moveNo := no, refused := true })) Ev.motionRefused (0x28 + i / 16) i 0 [no, status]
  let child := s.track.slots.find? (fun e => e.2.st == 1 && decide (e.2.kind = 2 ∨ e.2.kind = 3 ∨ e.2.kind = 4) && decide (e.2.parent ≠ 0) &&
    (e.2.data[0]?).getD 64 == i && handleOf e.1 e.2 != (prof s i).handle)
  match child with
  | some e =>
    let s := if e.2.owner < 16 then setStream s e.2.owner (fun d => { d with subFailed := d.subFailed || d.handle == e.2.parent }) else s
    opEnd s (handleOf e.1 e.2) 7
  | none => s

/-! ### Planning -/

/-- The state of a profile's own plan at `t`: a coupled or resting profile stands at its figures. -/
def pfAt (d : PfSt) (t : Nat) : Rat × Rat × Rat :=
  match d.plan with
  | some q => sampled q (velState d) t
  | none => (d.pos, d.vel, d.acc)

/-- Give a profile a plan and a state. -/
def setPlan (s : State) (i st : Nat) (q : Plan) : State := setProf s i (fun d => { d with st := st, plan := some q, reached := false })

/-- A stop under the PROFILE form from segment start `S` (R247); with other limits for a limit on another tile (R244). -/
def profStop (s : State) (i S : Nat) (A J : Rat) : State :=
  let (p, v, a) := pfAt (prof s i) S
  if v = 0 ∧ a = 0 then setProf s i (fun d => { d with st := if d.st = 0 then 0 else 1, plan := none, pos := p, vel := 0, acc := 0 })
  else setPlan s i 8 (planStop S p v a A J)

/-- Plan a velocity from `S`, limited to V and never toward a latched limit (R232, R245). -/
def velPlan (s : State) (i S st : Nat) (v : Rat) : State :=
  let V := pfV s i
  let v := if V < v then V else if v < -V then -V else v
  let v := if towardLatched s i v then 0 else v
  let (p, v0, a) := pfAt (prof s i) S
  setProf (setPlan s i st (planVel S p v0 a v (pfA s i) (pfJ s i))) i (fun d => { d with target := v })

/-- Plan a position from `S`. -/
def posPlan (s : State) (i S st : Nat) (target : Rat) : State :=
  let (p, v, a) := pfAt (prof s i) S
  setProf (setPlan s i st (planTo S p v a target (pfV s i) (pfA s i) (pfJ s i))) i (fun d => { d with target := target })

/-- Why a target is refused, if it is (R230, R245). -/
def targetBad (s : State) (i S : Nat) (target : Rat) : Bool :=
  let (lo, hi) := softLims s i
  let p := (pfAt (prof s i) S).1
  decide (target < lo ∨ hi < target) || towardLatched s i (target - p)

/-! ### Cam tables (R239-R241) -/

/-- The payload of the cam image a profile names; a coupling keeps the table with which it engaged (R239; DEDUCED, log 136). -/
def camImage (s : State) (i : Nat) : List Byte := ((tget {} s.deck.loaded (6 * 65536 + param s pProfCam i)).bytes).drop 64

/-- Point `k` of a cam table in microsteps, joined periodically (R239, R240). -/
def camPoint (b : List Byte) (k : Int) : Rat :=
  let n := fld b 0 2
  let per := fld b 3 1 = 1
  let cyc : Int := if per then k / n else 0
  let j := if per then (k % n).toNat else (max 0 (min k (n - 1))).toNat
  let v := fld b (32 + 3 * j) 3
  let sv : Int := if v < 2 ^ 23 then v else v - 2 ^ 24
  ((sv * (2 ^ fld b 2 1 : Nat) + cyc * sval32 (fld b 8 4) : Int) : Rat)

/-- The slope at point `k` per interval: centred, one-sided at the ends of a bounded table (R240). -/
def camSlope (b : List Byte) (k : Int) : Rat :=
  let n := fld b 0 2
  if fld b 3 1 = 1 then (camPoint b (k + 1) - camPoint b (k - 1)) / 2
  else if k ≤ 0 then camPoint b 1 - camPoint b 0
  else if (n : Int) - 1 ≤ k then camPoint b (n - 1) - camPoint b (n - 2)
  else (camPoint b (k + 1) - camPoint b (k - 1)) / 2

/-- Slave position and slope per master unit at `x` (R240). -/
def camAt (b : List Byte) (x : Rat) : Rat × Rat :=
  let n := fld b 0 2
  let per := fld b 3 1 = 1
  let span := ratOf (fld b 4 4)
  let w := if span = 0 then 1 else span / (if per then (n : Rat) else ((n - 1 : Nat) : Rat))
  let x := if per then x else if x < 0 then 0 else if span < x then span else x
  let k := (x / w).floor
  let k := if per then k else min k ((n : Int) - 2)
  let u := x / w - k
  let (p0, p1, m0, m1) := (camPoint b k, camPoint b (k + 1), camSlope b k, camSlope b (k + 1))
  (p0 * (2 * u * u * u - 3 * u * u + 1) + m0 * (u * u * u - 2 * u * u + u) + p1 * (3 * u * u - 2 * u * u * u) + m1 * (u * u * u - u * u),
   (p0 * (6 * u * u - 6 * u) + m0 * (3 * u * u - 4 * u + 1) + p1 * (6 * u - 6 * u * u) + m1 * (3 * u * u - 2 * u)) / w)

/-- The slave's offset from S0 and its ratio to the master's velocity at master `m` (R241). -/
def coupleAt (s : State) (i : Nat) (gear : Bool) (m0 m : Rat) : Rat × Rat :=
  if gear then
    let r : Rat := (sval32 (param s pProfGearNum i) : Rat) / (sval32 (param s pProfGearDen i) : Rat)
    (r * (m - m0), r)
  else camAt (prof s i).cam (m - m0)

/-- The profile on the same engine that a profile's master point names. -/
def masterProf (s : State) (i : Nat) : Option Nat :=
  let p := param s pProfMaster i
  if ptRegion p = 5 ∧ ptIndex p % 256 = 4 ∧ ptIndex p / 256 / 16 = i / 16 then some (ptIndex p / 256) else none

/-- A point's value as a number (R46). -/
def pointRat (p : Point) : Rat :=
  match p.ty with
  | 4 => ratOf p.value.toNat
  | 2 => (p.value.toInt : Rat)
  | 5 => (p.value.toInt : Rat) / 2147483648
  | 6 => ((bv 16 p.value.toNat).toInt : Rat) / 32768
  | _ => (p.value.toNat : Rat)

/-- Latch the sample of a profile's master point, but for a profile of the same engine, and keep the one before (R227, R241). -/
def sampleTick (s : State) (i t : Nat) : State :=
  if param s pProfMaster i = 0 ∨ (masterProf s i).isSome then s
  else setProf s i (fun d => { d with sampleOld := d.sample, sample := pointRat (pgetAt s (t - tickNs) (param s pProfMaster i)) })

/-- Position, in the figures' coordinates, and velocity at segment start `S` of a profile's master: a profile of the same engine from its own plan, any other point from its last two samples (R241). -/
def masterAt (s : State) (i t S : Nat) : Nat → Rat × Rat
  | 0 => (0, 0)
  | n + 1 =>
    match masterProf s i with
    | some k =>
      let d := prof s k
      let o : Rat := (pfOff s k : Rat)
      (match d.plan with
      | some q => let x := sampled q (velState d) S; (x.1 + o, x.2.1)
      | none =>
        if d.st = 5 ∨ d.st = 6 then
          let m := masterAt s k t S n
          let c := coupleAt s k (decide (d.st = 6)) d.m0 m.1
          (d.s0 + c.1 + o, c.2 * m.2)
        else (d.pos + o, 0))
    | none =>
      let d := prof s i
      let v := (d.sample - d.sampleOld) * 10000
      (d.sample + v * ((S + tickNs - t : Nat) : Rat) / 1000000000, v)

/-- The master's position and velocity at the profile's segment start and whether its quality is usable (R241, R242). -/
def masterNow (s : State) (i t : Nat) : Rat × Rat × Bool :=
  let m := masterAt s i t (t + pfLead s i) 17
  (m.1, m.2, (masterProf s i).isSome || usableHeld (pgetAt s (t - tickNs) (param s pProfMaster i)).qual)

/-! ### Homing (R248-R250) -/

/-- Direction of a homing's search. -/
def homeDir (method : Nat) : Rat := if method = 2 ∨ method = 4 ∨ method = 6 then 1 else -1
/-- The bit of AX facet 6 that a homing senses: the home switch, or the searched limit. -/
def homeBit (method : Nat) : Nat := if method = 3 then 0 else if method = 4 then 1 else 2

/-- Arm the index latch of an axis's encoder (R249, R307). -/
def armIndex (s : State) (x : Nat) : State :=
  setEnc (setAxis s x (fun d => { d with indexE := none, indexSeen := 0 })) (param s pAxisEnc x) (fun e => { e with armed := true })

/-- Begin a homing (R249). -/
def homeStart (s : State) (i S : Nat) : State :=
  let x := axisOf i
  let m := param s pAxisHomeMethod x
  let (p, _, _) := pfAt (prof s i) S
  let s := modAxis s x (fun d => { d with referenced := false, homeSt := 1, homing := m, keepRestored := d.keepRestored && decide (m = 8), indexE := none })
  let h : HomeSt := { method := m, started := s.t0, from_ := p }
  if m = 0 ∨ m = 8 then
    let ok := m = 0 || keepGood s x
    if !ok then homeEnd (setProf s i (fun d => { d with home := some h, st := 1 })) i 6
    else
      let b := mreads s.pocket.mem (keepAt x) 16
      let e : Int := if m = 0 then nearOf p else (axis s x).pos
      let off : Int := if m = 0 then sval32 (param s pAxisHomePos x) - e else sval32 (fld b 0 4) - e
      let s := modAxis s x (fun d => { d with offset := off, referenced := true, keepRestored := decide (m = 8), refGen := (d.refGen + (if m = 0 then 1 else 0)) % 2 ^ 32 })
      homeEnd (keepCommit (setProf s i (fun d => { d with home := some { h with e := e }, st := 1 })) x) i 2
  else
    let v := if m = 6 ∨ m = 7 then paramRat s pAxisHomeVslow x else paramRat s pAxisHomeVfast x
    let s := if m = 6 then armIndex s x else s
    let s := setProf s i (fun d => { d with st := 7, home := some { h with phase := if m = 6 then 3 else 0 } })
    velPlan s i S 7 (homeDir m * v)

/-- Change the homing in progress. -/
def setHome (s : State) (i : Nat) (f : HomeSt → HomeSt) : State := setProf s i (fun d => { d with home := d.home.map f })

/-- The reference is found at `e` (R249): the figures shift at this tick and the last stop is planned. -/
def homeFound (s : State) (i S : Nat) (e : Int) (next : Nat) : State :=
  let x := axisOf i
  let s := modAxis s x (fun d => { d with offset := sval32 (param s pAxisHomePos x) - e })
  let s := note s Ev.axisOffset (0x28 + i / 16) i 0 [(w32 (axis s x).offset).toNat, s.t0]
  let s := profStop s i S (pfA s i) (pfJ s i)
  setHome (setProf s i (fun d => { d with st := 7 })) i (fun h => { h with phase := next, e := e })

/-- Whether a profile's plan has come to rest at `S`. -/
def restsAt (d : PfSt) (S : Nat) : Bool := match d.plan with | none => true | some q => q.ends S tickNs

/-- One tick of a homing (R249, R250). -/
def homeTick (s : State) (i t S : Nat) : State :=
  match (prof s i).home with
  | none => s
  | some h =>
    let x := axisOf i
    let fl := limSample s i t
    let sense := fl.testBit (homeBit h.method)
    let (p, _, _) := pfAt (prof s i) S
    let travel := if p < h.from_ then h.from_ - p else p - h.from_
    let dir := homeDir h.method
    let limHit := (fl.testBit 3 && h.method != 3) || (fl.testBit 4 && h.method != 4)
    let hq := (pgetAt s (t - tickNs) (chPt (param s pAxisHomeCh x) 0)).qual
    let homeBad := homeBit h.method == 2 && decide (h.method ≤ 5) && decide (param s pAxisHomeCh x < 512) && (hq == 3 || hq == 4)
    let fail (s : State) (c : Nat) := profStop (homeEnd s i c) i S (pfA s i) (pfJ s i)
    let index := decide (0 < (axis s x).indexSeen)
    if limHit then fail s 3
    else if homeBad && decide (h.phase ≤ 2) then fail s 5
    else if h.phase = 0 then
      if h.method = 7 then
        let e0 := (pgetAt s (t - tickNs) (axPt x 0)).value.toInt
        let e1 := (pgetAt s (t - tickNs) (axPt x 1)).value.toInt
        if (param s pAxisHomeStall x : Int) < (e0 - e1).natAbs then homeFound s i S (e1 - (axis s x).offset) 6 else s
      else if sense then setHome (setProf (profStop s i S (pfA s i) (pfJ s i)) i (fun d => { d with st := 7 })) i (fun h => { h with phase := 1 })
      else if (param s pAxisHomeTravel x : Rat) < travel then fail s 5
      else s
    else if h.phase = 1 then
      if restsAt (prof s i) S && (axis s x).stop.isNone then
        velPlan (setHome s i (fun h => { h with phase := 2, seen := sense })) i S 7 (-dir * paramRat s pAxisHomeVslow x)
      else s
    else if h.phase = 2 then
      if sense then setHome s i (fun h => { h with seen := true })
      else if h.seen then
        if h.method = 5 then setHome (armIndex s x) i (fun h => { h with phase := 3 })
        else homeFound s i S (axis s x).leaveE 4
      else s
    else if h.phase = 3 then
      if index then homeFound s i S ((axis s x).indexE.getD (axis s x).pos) 4 else s
    else if h.phase = 6 then
      -- after the stall: back off before the reference is set
      if restsAt (prof s i) S then posPlan (setHome s i (fun h => { h with phase := 4 })) i S 7 (p - dir * 2 * (param s pAxisHomeStall x : Rat)) else s
    else if h.phase = 4 then
      if restsAt (prof s i) S then
        let s := modAxis s x (fun d => { d with referenced := true, refGen := (d.refGen + 1) % 2 ^ 32, homing := 0 })
        let s := setHome (keepCommit s x) i (fun h => { h with phase := 5 })
        posPlan s i S 7 ((sval32 (param s pAxisHomePark x) - (axis s x).offset : Int) : Rat)
      else s
    else if restsAt (prof s i) S then
      let s := homeEnd s i 2
      setProf s i (fun d => { d with st := 1, reached := true, plan := none, pos := p, vel := 0, acc := 0 })
    else s

/-! ### Requests (R229, R230) -/

/-- Whether the mode lets a profile take motion requests of programs and streams (R68). -/
def moveMode (s : State) : Bool := match effMode s with | .run | .hold | .standby => true | _ => false

/-- Whether a stream writes a profile's command word: such a request waits in HOLD (R252). -/
def streamWrites (s : State) (i : Nat) : Bool :=
  match tfind s.img.writers (ptid 5 (i * 256 + 2)) with
  | some w => (streamOfTask s w).isSome
  | none => false

/-- Start a motion with its figures; the flags of a stop before it clear (DEDUCED, log 137). -/
def startMotion (s : State) (i t S req : Nat) (raw : Nat) : State :=
  let s := setProf s i (fun d => { d with softLimit := false, camLimit := false, masterBad := false, cam := if req = 5 then camImage s i else d.cam })
  let d := prof s i
  let (p, _, _) := pfAt d S
  let off : Rat := (pfOff s i : Rat)
  match req with
  | 1 => posPlan s i S 2 ((sval32 raw : Rat) - off)
  | 2 => posPlan s i S 2 ((gridOf p : Rat) + (sval32 raw : Rat))
  | 3 => velPlan s i S 3 (ratOf raw)
  | 4 => velPlan s i S 4 (pointRat (pgetAt s t (param s pProfVelSrc i)))
  | 7 => homeStart s i S
  | _ =>
    let m0 := (masterNow s i t).1
    let f := (coupleAt s i (decide (req = 6)) m0 m0).1
    setProf s i (fun d => { d with st := req, plan := none, m0 := m0, s0 := p - f, cycles := 0 })

/-- Whether a homing's method takes its reference from an encoder that the axis does not have (R248). -/
def homeNoEnc (s : State) (x : Nat) : Bool :=
  decide (5 ≤ param s pAxisHomeMethod x ∧ param s pAxisHomeMethod x ≤ 7) && decide (15 < param s pAxisEnc x)

/-- Whether a request is refused for its figures (R230, R241, R245, R248). -/
def reqBad (s : State) (i t S req raw : Nat) : Bool :=
  let (p, v, _) := pfAt (prof s i) S
  let off : Rat := (pfOff s i : Rat)
  match req with
  | 1 => targetBad s i S ((sval32 raw : Rat) - off)
  | 2 => targetBad s i S ((gridOf p : Rat) + (sval32 raw : Rat))
  | 3 => towardLatched s i (ratOf raw)
  | 4 => towardLatched s i (pointRat (pgetAt s t (param s pProfVelSrc i)))
  | 5 | 6 => decide (v ≠ 0) && decide ((masterNow s i t).2.1 ≠ 0)
  | 7 =>
    let m := param s pAxisHomeMethod (axisOf i)
    !isLocal i || homeNoEnc s (axisOf i) || (decide (m ≠ 0 ∧ m ≠ 8) && towardLatched s i (homeDir m))
  | _ => true

/-- The stop forms of a STOP request (R229, R247): PROFILE, or a stop at the tile. -/
def stopReq (s : State) (i S k : Nat) : State :=
  if k = 0 ∨ !isLocal i then profStop s i S (pfA s i) (pfJ s i)
  else
    let b : Batch := { axis := axisOf i, stopA := bv 32 (param s pAxisStopAmax (axisOf i)), stopJ := bv 32 (param s pAxisStopJmax (axisOf i)), hard := decide (k = 2) }
    { s with motion := { s.motion with out := s.motion.out ++ [(i / 16, b)] } }

/-- A profile that can take requests: enabled, not stopped by its tile, no fault. -/
def pfReady (d : PfSt) : Bool := d.enabled && d.st != 9 && d.st != 10 && !d.resync

/-- Take a program's or stream's request at tick `t` (R230). -/
def takeReq (s : State) (i t S : Nat) : State :=
  let d := prof s i
  let w := (pgetAt s t (ptid 5 (i * 256 + 2))).value.toNat
  let no := w / 256 % 256
  let req := w % 16
  if no = d.moveNo ∨ (s.mode.cur = .hold ∧ streamWrites s i) then s
  else
    let raw := (pgetAt s t (ptid 5 (i * 256 + (if req = 3 then 1 else 0)))).value.toNat
    if req = 0 then
      if !d.enabled then refuseReq s i no 0x020C
      else
        let s := setProf s i (fun d => { d with moveNo := no, refused := false })
        let s := endRunning s i 2
        stopReq s i S (w / 65536 % 4)
    else if !moveMode s || !pfReady d || reqBad s i t S req raw then refuseReq s i no (if req = 7 ∧ isLocal i ∧ homeNoEnc s (axisOf i) then 0x0107 else 0x020C)
    else
      let (p, _, _) := pfAt d S
      let data := match req with
        | 7 => [i, param s pAxisHomeMethod (axisOf i), 0, 0, 0]
        | 5 | 6 => [i, param s pProfCam i, (w32 (gridOf (masterNow s i t).1)).toNat, (w32 (gridOf p)).toNat, 0]
        | _ => [i, req, no, w / 65536 % 4, raw, (w32 (gridOf p + pfOff s i)).toNat]
      let s := if d.handle ≠ 0 ∨ d.home.isSome then endRunning s i 2 else s
      match reqAdmit s i req no data with
      | .error e => opRefuse (refuseReq s i no e) (2 * 65536 + i) e
      | .ok (h, s) => startMotion (setProf s i (fun d => { d with moveNo := no, refused := false, handle := h })) i t S req raw

/-- Whether the interlock points of an axis all read true (R70). -/
def locksTrue (s : State) (key : Nat) : Bool := (tget [] s.motion.locks key).all (fun p => (pget s p).value.getLsbD 0)

/-- Take a maintenance request (R230, R554). -/
def takeMaint (s : State) (i t S : Nat) : State :=
  match (prof s i).maint with
  | none => s
  | some m =>
    let s := setProf s i (fun d => { d with maint := none })
    let raw := if m.req = 3 then m.vel.toNat else (w32 m.target).toNat
    let deny (s : State) : State := finish s { mb := ⟨m.mb % 8, Nat.mod_lt _ (by decide)⟩, tag := bv 5 m.tag } m.opcode true (if m.req = 7 ∧ homeNoEnc s (axisOf i) then 0x0107 else 0x020C)
    if m.req = 0 then finish (stopReq (endRunning s i 2) i S m.stopk) { mb := ⟨m.mb % 8, Nat.mod_lt _ (by decide)⟩, tag := bv 5 m.tag } m.opcode true 0
    else if !pfReady (prof s i) || reqBad s i t S m.req raw || !locksTrue s (4 * 4096 + axisOf i) then deny s
    else
      let s := endRunning s i 2
      let s := setProf s i (fun d => { d with refused := false, running := some { m with until_ := if m.req = 3 then t + m.until_ else 0 } })
      startMotion s i t S m.req raw

/-- Resume a restored operation's motion (R338): REDO and CONTINUE of a move replan to its target, a homing restarts, a coupling engages with its stored or fresh figures. -/
def resumeMotion (s : State) (i t S : Nat) : State :=
  let d := prof s i
  match d.resume.bind (fun h => (opOf s h).map (fun o => (h, o))) with
  | none => setProf s i (fun d => { d with resume := none })
  | some (h, o) =>
    if !pfReady d then s
    else
      let g (k : Nat) : Nat := (o.data[k]?).getD 0
      let s := setProf s i (fun d => { d with resume := none, handle := h })
      let s := opState (setOp s (slotOf h) (fun o => { o with st := 1 })) (slotOf h)
      match o.kind with
      | 2 =>
        if g 1 = 2 then posPlan s i S 2 ((sval32 (g 5) + sval32 (g 4) - pfOff s i : Int) : Rat)
        else startMotion s i t S (g 1) (g 4)
      | 3 => homeStart s i S
      | _ =>
        let s := startMotion s i t S (if d.st = 6 then 6 else 5) 0
        if o.eff = 0 then setProf s i (fun d => { d with m0 := (sval32 (g 2) : Rat), s0 := (sval32 (g 3) : Rat) }) else s

/-! ### One profile's tick -/

/-- Whether the axis or profile is wanted enabled in this mode (R68, R251, R252, R500). -/
def wantOn (s : State) (i : Nat) : Bool :=
  if !isLocal i then true
  else flag s pAxisEnable (axisOf i) && (match effMode s with
    | .boot | .config | .keep => false
    | .safe => !(decide (param s pSafeAxisAfter (axisOf i) = 1) && (decide (param s pSafeAxisStop (axisOf i) = 2) || (axis s (axisOf i)).atRest))
    | _ => true)

/-- Enabling and disabling (R251): a disable plans a stop, and at rest the tile takes the driver out of power. A coil fault stays until AXIS.ENABLE has been 0 (R263). -/
def enableTick (s : State) (i t S : Nat) : State :=
  let x := axisOf i
  let s := if isLocal i && !flag s pAxisEnable x then setProf s i (fun d => { d with enableLow := true }) else s
  let d := prof s i
  if wantOn s i && !d.enabled && d.disableAt.isNone && isLocal i && (axis s x).drv == 5 && !d.enableLow then setProf s i (fun d => { d with enabled := true, st := 10 })
  else if wantOn s i && !d.enabled && d.disableAt.isNone then
    let no := (pgetAt s t (ptid 5 (i * 256 + 2))).value.toNat / 256 % 256
    let s := setProf s i (fun d => { d with enabled := true, enableLow := false, st := 1, moveNo := no, plan := none, vel := 0, acc := 0 })
    if isLocal i then energise s x else s
  else if !wantOn s i && d.enabled then
    let s := endRunning s i 4
    let s := if d.st = 9 ∨ d.st = 10 then s else profStop s i S (pfA s i) (pfJ s i)
    setProf s i (fun d => { d with enabled := false, disableAt := some t })
  else match d.disableAt with
    | some _ =>
      let rest := if isLocal i then (axis s x).atRest else restsAt d S
      if rest && (d.st == 9 || d.st == 10 || restsAt d S) then
        let broken := isLocal i && (axis s x).drv == 5
        let s := setProf s i (fun d => { d with disableAt := none, st := if broken then 10 else 0, plan := none, vel := 0, acc := 0 })
        if isLocal i && !broken then deEnergise s x else s
      else s
    | none => s

/-- What the tile has done to a local axis: a stop of its own, a fault, rest after it (R237, R263). -/
def tileTick (s : State) (i _t S : Nat) : State :=
  let d := prof s i
  let x := axisOf i
  let a := axis s x
  if !isLocal i then s
  else if a.drv = 5 then
    if d.st = 10 then s else setProf (endRunning s i 7) i (fun d => { d with st := 10, plan := none, vel := 0, acc := 0 })
  else if a.locked then
    if !a.atRest then
      let searched := match d.home with | some h => decide ((h.method = 3 ∨ h.method = 4) ∧ h.phase ≤ 1) | none => false
      if d.st == 9 || searched then s
      else
        let lim := a.neg.latched || a.plus.latched
        let s := if d.home.isSome then homeEnd s i (if lim then 3 else 7) else maintDone (moveEnd s i 7 0) i 0x020C
        setProf s i (fun d => { d with st := 9, plan := none })
    else if s.mode.cur = .standby then s
    else
      -- rest is reported: RESYNC with P0 at the position of rest
      let g : Seg := { start := S, p0 := a.pos * 65536, v0 := 0, a0 := 0, j := 0, seq := d.seq, eom := true, rest := true }
      let b : Batch := { axis := x, resync := true, segs := [g], stopA := bv 32 (param s pAxisStopAmax x), stopJ := bv 32 (param s pAxisStopJmax x) }
      let s := { s with motion := { s.motion with out := s.motion.out ++ [(i / 16, b)] } }
      let homing := d.home.isSome
      setProf s i (fun d => { d with
        pos := (a.pos : Rat), vel := 0, acc := 0, plan := none, resync := true, seq := (d.seq + 1) % 65536
        st := if homing then 7 else if d.enabled then 1 else 0 })
  else setProf s i (fun d => { d with resync := false })

/-- Soft limits in velocity states: stop from `S` when a stop one tick later would pass the limit (R234). -/
def softTick (s : State) (i S : Nat) : State :=
  let d := prof s i
  if !(d.st == 3 || d.st == 4 || d.st == 5 || d.st == 6) then s
  else
    let (p, v, a) := match d.plan with | some q => sampled q (velState d) (S + tickNs) | none => (d.pos + d.vel / 10000, d.vel, d.acc)
    let (lo, hi) := softLims s i
    let e := p + stopDist v a (pfA s i) (pfJ s i)
    if (0 < v ∧ hi < e) ∨ (v < 0 ∧ e < lo) then
      setProf (profStop (endRunning s i 2) i S (pfA s i) (pfJ s i)) i (fun d => { d with softLimit := true })
    else s

/-- A limit on another tile: the stop is planned at the tick that reads its sample (R244). -/
def remoteLimit (s : State) (i t S : Nat) : State :=
  let x := axisOf i
  let fl := limSample s i t
  let (_, v, _) := pfAt (prof s i) S
  let far (c : Nat) : Bool := let ch := param s c x; decide (ch < 512 ∧ ch / 128 ≠ x / 8)
  let hit := (fl.testBit 3 && far pAxisLimNegCh && decide (v < 0)) || (fl.testBit 4 && far pAxisLimPosCh && decide (0 < v))
  if isLocal i && hit && (prof s i).st != 8 && (prof s i).st != 9 then
    let s := if (prof s i).home.isSome then s else maintDone (moveEnd s i 7 0) i 0x020C
    if param s pAxisLimStop x = 0 then stopReq s i S 2
    else
      let h := (prof s i).home
      let s := profStop s i S (paramRat s pAxisStopAmax x) (paramRat s pAxisStopJmax x)
      if h.isSome then setProf s i (fun d => { d with st := 7 }) else s
  else s

/-- The stops that modes order (R68, R252): a mode without moves stops what runs; SAFE stops it where the reaction leaves the axis to the profile. -/
def modeTick (s : State) (i t S : Nat) : State :=
  let d := prof s i
  let moving := d.st == 2 || d.st == 3 || d.st == 4 || d.st == 5 || d.st == 6 || d.st == 7
  if !moving then s
  else
    let jogOver := match d.running with | some m => m.req == 3 && decide (m.until_ ≤ t) | none => false
    let bad := match effMode s with
      | .maint => d.running.isNone
      | .run | .hold | .standby | .resume => false
      | .safe => !isLocal i || decide (param s pSafeAxisStop (axisOf i) = 2)
      | _ => true
    if d.running.isSome && !locksTrue s (4 * 4096 + axisOf i) then
      -- an interlock point turned false: the configured RAMP stop
      stopReq (maintDone (moveEnd (setProf s i (fun d => { d with home := none })) i 2 0) i 0x020C) i S 1
    else if bad then profStop (endRunning s i 2) i S (pfA s i) (pfJ s i)
    else if jogOver then setProf (profStop s i S (pfA s i) (pfJ s i)) i (fun d => { d with handle := 0 })
    else s

/-- Follow the velocity command while VELOCITY or FOLLOW runs (R232). -/
def followTick (s : State) (i t S : Nat) : State :=
  let d := prof s i
  let want : Option Rat :=
    if d.st = 3 ∧ d.running.isNone then some (ratOf (pgetAt s t (ptid 5 (i * 256 + 1))).value.toNat)
    else if d.st = 4 then some (pointRat (pgetAt s t (param s pProfVelSrc i))) else none
  match want with
  | none => s
  | some v =>
    let V := pfV s i
    let v' := if V < v then V else if v < -V then -V else v
    if v' = d.target ∨ (towardLatched s i v' ∧ d.target = 0) then s else velPlan s i S d.st v'

/-- A stop asked for by a time limit (R250). -/
def stopTick (s : State) (i S : Nat) : State :=
  match (prof s i).stopReq with
  | none => s
  | some k => stopReq (setProf s i (fun d => { d with stopReq := none })) i S k

/-- The figures of a profile without coupling at `S`, and what the end of its plan means (R233). -/
def planTick (s : State) (i S : Nat) : State :=
  let d := prof s i
  match d.plan with
  | none => s
  | some q =>
    let (p, v, a) := sampled q (velState d) S
    let s := setProf s i (fun d => { d with pos := p, vel := v, acc := a })
    if !velState d && q.ends S tickNs then
      if d.st = 2 then
        let s := setProf s i (fun d => { d with st := 1, plan := none, reached := true })
        maintDone (moveEnd s i 1 0) i 0
      else if d.st = 8 then
        let s := setProf s i (fun d => { d with st := 1, plan := none })
        maintDone s i (if d.running.any (fun m => m.req == 3) then 0 else 0x020C)
      else s
    else s

/-- A coupled profile at `S` (R241, R242). -/
def coupleTick (s : State) (i t S : Nat) : State :=
  let d := prof s i
  if d.st ≠ 5 ∧ d.st ≠ 6 then s
  else
    let (m, mv, ok) := masterNow s i t
    let (f, r) := coupleAt s i (decide (d.st = 6)) d.m0 m
    let p := d.s0 + f
    let v := r * mv
    let a := (v - d.vel) * 10000
    let mag (x : Rat) : Rat := if x < 0 then -x else x
    let excess := decide (pfV s i < mag v ∨ pfA s i < mag a)
    let s := setProf s i (fun d => { d with master := m, cycles := (if ratOf (fld d.cam 4 4) = 0 then 0 else ((m - d.m0) / ratOf (fld d.cam 4 4)).floor) })
    if excess || !ok || towardLatched s i v then
      let s := note s Ev.camFault (0x28 + i / 16) i 0 [if ok then 0 else 1]
      let s := moveEnd s i 7 0
      let s := setProf s i (fun d => { d with camLimit := d.camLimit || ok, masterBad := d.masterBad || !ok })
      profStop s i S (pfA s i) (pfJ s i)
    else setProf s i (fun d => { d with pos := p, vel := v, acc := a })

/-! ### What a tick sends and publishes -/

/-- The position at the end of the segment that starts at `S` (R235). -/
def segEnd (s : State) (i t S : Nat) : Rat :=
  let d := prof s i
  match d.plan with
  | some q => (sampled q (velState d) (S + tickNs)).1
  | none =>
    if d.st = 5 ∨ d.st = 6 then
      d.s0 + (coupleAt s i (decide (d.st = 6)) d.m0 (masterAt s i t (S + tickNs) 17).1).1
    else d.pos

/-- Send the segment of a local axis for the interval from `S` (R227, R235); in STANDBY none is sent (R252). -/
def sendSeg (s : State) (i t S : Nat) : State :=
  let d := prof s i
  let x := axisOf i
  if !isLocal i || (axis s x).locked || d.st = 9 || d.st = 10 || s.mode.cur = .standby then s
  else
    let h : Rat := 1 / 10000
    let e := segEnd s i t S
    let j := 6 * (e - d.pos - d.vel * h - d.acc * h * h / 2) / (h * h * h)
    let rest := decide (d.vel = 0 ∧ d.acc = 0 ∧ j = 0)
    let g : Seg := { start := S, p0 := gridOf (d.pos * 65536), v0 := bv 32 (f32OfRat d.vel), a0 := bv 32 (f32OfRat d.acc), j := bv 32 (f32OfRat j),
                     seq := d.seq, eom := d.reached, rest := rest }
    let b : Batch := { axis := x, segs := [g], stopA := bv 32 (param s pAxisStopAmax x), stopJ := bv 32 (param s pAxisStopJmax x),
                       hard := false, after := if d.disableAt.isSome then 1 else 0 }
    setProf { s with motion := { s.motion with out := s.motion.out ++ [(i / 16, b)] } } i (fun d => { d with seq := (d.seq + 1) % 65536 })

/-- Publish a profile's facets (R229); a REMOTE profile writes its position when its period has passed (R226). -/
def pfPoints (s : State) (i t S : Nat) : State :=
  let d := prof s i
  let b (v : Bool) (k : Nat) : Nat := if v then 2 ^ k else 0
  let under := isLocal i && (axis s (axisOf i)).underrun
  let left := match d.plan with
    | some q => ((phasesLen q.phases - ((S - q.start : Nat) : Rat) / 1000000000) * 1000000).floor.toNat
    | none => 0
  let pos := w32 (gridOf d.pos + pfOff s i)
  let s := updates s t ([(3, bv 32 d.st), (4, pos), (5, bv 32 (f32OfRat d.vel)), (6, bv 32 (f32OfRat d.acc)), (7, bv 32 (f32OfRat d.master)),
      (8, bv 32 d.moveNo),
      (9, bv 32 (b (pfRef s i) 0 + b d.reached 1 + b d.softLimit 2 + b d.camLimit 3 + b under 4 + b d.resync 5 + b d.refused 6 + b d.masterBad 7)),
      (10, bv 32 d.handle), (11, bv 32 left)].map (fun e => (ptid 5 (i * 256 + e.1), e.2, 0)))
  if param s pProfKind i = 3 ∧ !isLocal i ∧ d.remoteAt + param s pProfRemotePeriod i * ms ≤ t then
    let id := s.sched.nextSet
    let dst := param s pProfRemoteDst i
    let s := { s with sched := { s.sched with nextSet := id + 1 } }
    let s := sendSet s id t t false [⟨dst, pos, 0⟩]
    setProf (sendApply s (nodeOf dst).toList id t) i (fun d => { d with remoteAt := t })
  else s

/-- The tick of one profile but for coupling and output. -/
def pfTick (s : State) (i t : Nat) : State :=
  let S := t + pfLead s i
  let s := sampleTick s i t
  let s := tileTick s i t S
  let s := enableTick s i t S
  let s := remoteLimit s i t S
  let s := modeTick s i t S
  let s := stopTick s i S
  let s := if s.mode.cur = .maint then takeMaint s i t S else takeReq s i t S
  let s := if (prof s i).resume.isSome then resumeMotion s i t S else s
  let s := followTick s i t S
  let s := homeTick s i t S
  let s := softTick s i S
  planTick s i S

/-- How many masters on the same engine stand before a profile (R241). -/
def coupleDepth (s : State) : Nat → Nat → Nat
  | 0, _ => 0
  | n + 1, i =>
    let d := prof s i
    if d.st = 5 ∨ d.st = 6 then match masterProf s i with | some k => 1 + coupleDepth s n k | none => 1 else 0

/-- The payload figures of a homing and of a coupling as they stand (R325). -/
def liveData (d : PfSt) (o : OpSt) : List Nat :=
  match o.kind, d.home with
  | 3, some h => [(o.data[0]?).getD 0, (o.data[1]?).getD 0, h.phase, (w32 h.e).toNat, 0]
  | 4, _ => [(o.data[0]?).getD 0, (o.data[1]?).getD 0, (w32 (gridOf d.m0)).toNat, (w32 (gridOf d.s0)).toNat, (w32 d.cycles).toNat]
  | _, _ => o.data

/-- Checkpoint the operation of a request that a program made, whose owner is the profile (R332); a stream's moves are checkpointed at the stream's releases. -/
def moveCkpt (s : State) (i t : Nat) : State :=
  let d := prof s i
  match opOf s d.handle with
  | some o =>
    let s := setOp s (slotOf d.handle) (fun o => { o with data := liveData d o })
    if o.st = 1 ∧ o.owner = 2 * 65536 + i then opCkpt s (slotOf d.handle) t else s
  | none => s

/-- MOTION_TICK (R227): at a whole multiple of 100 µs an engine takes requests, plans its sixteen profiles, a coupled one after its master, and sends one segment per local axis. -/
def execMotionTick (me : Fin 4) (s : State) : Res :=
  let t := s.t0
  if t % tickNs ≠ 0 ∨ s.rst.stage ≠ 0 ∨ !(island s (0x28 + me.val)).inService ∨ tget 0 s.motion.ticked me.val = t + 1 then .next s
  else
    let s := { s with motion := { s.motion with ticked := tset s.motion.ticked me.val (t + 1) } }
    let ps := (List.range 16).map (fun k => 16 * me.val + k)
    let s := ps.foldl (fun s i => pfTick s i t) s
    let s := (List.range 17).foldl (fun s n =>
      (ps.filter (fun i => coupleDepth s 17 i == n)).foldl (fun s i => coupleTick s i t (t + pfLead s i)) s) s
    let s := ps.foldl (fun s i => moveCkpt (pfPoints (sendSeg s i t (t + pfLead s i)) i t (t + pfLead s i)) i t) s
    .next s

/-- HOME_TIMEOUT (R250): a homing past its time stops under the PROFILE form and ends FAILED_TIMEOUT. -/
def execHomeTimeout (ax : Fin 32) (s : State) : Res :=
  let i := profOf ax.val
  match (prof s i).home with
  | none => .next s
  | some h =>
    if s.t0 < h.started + param s pAxisHomeTimeout ax.val * sec then .next s
    else .next (setProf (homeEnd s i 4) i (fun d => { d with stopReq := some 0, st := 8 }))

end Sys2Proof.Machine
end

