-- ==== Sys2Proof/Machine/DeckCheck.lean ====
section
/-! DEFINITION. The Deck's rules that the device itself checks at DECK_LOAD: structure, bit timing, the Pocket's worst set, the loop engines and the strobe events (R86, R87). -/

namespace Sys2Proof.Machine

/-! ### Value ranges over several parameters, step 8 (R425, R429, R431) -/

/-- Whether a channel's bit timing is within R425 and R429, and triple sampling within R431. -/
def canTimingOk (s : State) (c : Nat) : Bool :=
  let n1 := param s pCanNtseg1 c
  let nt := 1 + n1 + param s pCanNtseg2 c
  let nd := param s pCanNbrp c * nt
  let d1 := param s pCanDtseg1 c
  let dt := 1 + d1 + param s pCanDtseg2 c
  let dd := param s pCanDbrp c * dt
  decide (80 ≤ nd ∧ nd ≤ 8000) && decide (nt ≤ 2 * (1 + n1) ∧ 10 * (1 + n1) ≤ 9 * nt) && decide (8 ≤ nt) &&
    (param s pCanFd c == 0 || (decide (16 ≤ dd ∧ dd ≤ nd) && decide (dt ≤ 2 * (1 + d1) ∧ 20 * (1 + d1) ≤ 17 * dt) && decide (5 ≤ dt))) &&
    (!flag s pCanTriple c || (decide (640 ≤ nd) && decide (4 ≤ n1) && param s pCanFd c == 0))

/-! ### Structure, step 10 -/

/-- A station number within its region and the limits of a descriptor (R57). -/
def stationOk (k : Nat) (d : Station) : Bool :=
  let r := k / 1024
  (if r < 16 then decide (k % 1024 < 128) else decide (r ≤ 18)) && decide (8 ≤ r) && decide (1 ≤ d.blocks.length ∧ d.blocks.length ≤ 64) &&
    decide (100000 ≤ d.expectNs ∧ d.expectNs ≤ 10000 * ms) && decide (d.expectNs ≤ d.silentNs ∧ d.silentNs ≤ 10000 * ms) && decide (d.silentNs ≤ d.lostNs ∧ d.lostNs ≤ 60000 * ms)

/-- The bits of a frame that a field takes. -/
def fieldPlaces (f : FieldMap) : List Nat :=
  (List.range f.bits).map (fun i =>
    let b := f.bit + i
    8 * (f.byte + (if f.format % 2 = 1 then f.span - 1 - b / 8 else b / 8)) + b % 8)

/-- Whether the fields of a block lie within LEN, have 1 to 32 bits and do not overlap (R445, R458). -/
def blockMapOk (b : Block) : Bool :=
  b.fields.all (fun f => decide (1 ≤ f.bits ∧ f.bits ≤ 32 ∧ f.bit < 8) && (fieldPlaces f).all (fun p => decide (p < 8 * b.len))) && decide (b.fields.flatMap fieldPlaces).Nodup

/-- The station descriptors (R57, R445, R458). -/
def stationsOk (l : List (Nat × Station)) : Bool :=
  decide (l.length ≤ 2048) && decide (l.map (·.1)).Nodup && l.all (fun e => stationOk e.1 e.2 && e.2.blocks.all blockMapOk)

/-- A DERIVED definition's own limits (R65). -/
def derivedOk (d : Derived) : Bool :=
  decide (1 ≤ d.args.length ∧ d.args.length ≤ 8) && decide (50 ≤ d.periodUs ∧ d.periodUs ≤ 10000000) && decide (d.phaseUs < d.periodUs)

/-- Take away, `n` times, every definition that names none of those that are left. -/
def derivedLeft : Nat → List (Nat × Derived) → List (Nat × Derived)
  | 0, l => l
  | n + 1, l => derivedLeft n (l.filter (fun e => e.2.args.any (fun a => ptRegion a == 0x1E && l.any (fun f => f.1 == ptIndex a))))

/-- Whether the definitions form no cycle (R67). -/
def derivedAcyclic (l : List (Nat × Derived)) : Bool := (derivedLeft l.length l).isEmpty

/-- The DERIVED definitions (R65, R67). -/
def derivedsOk (l : List (Nat × Derived)) : Bool :=
  decide (l.length ≤ 65536) && decide (l.map (·.1)).Nodup && l.all (fun e => derivedOk e.2) && derivedAcyclic l

/-- Whether a channel is an output: OUTPUT, or the even channel of a pair. -/
def isOutput (s : State) (c : Nat) : Bool := param s pChMode c == 3 || (param s pChMode c == 4 && c % 2 == 0)

/-- The sum of LOAD_MA over the outputs among channels; a pair counts once (R280). -/
def loadSum (s : State) (l : List Nat) : Nat := (l.filter (isOutput s)).foldl (fun a c => a + param s pChLoadMa c) 0

/-- A channel's part of the tile's dissipation in W (R281). -/
def channelWatts (s : State) (c : Nat) : Rat :=
  match param s pChMode c with
  | 1 | 2 => 30 * (if param s pChStepdownTime c = 0 then paramRat s pChInCurrent c else 1) / 1000
  | 3 => let a : Rat := (param s pChLoadMa c : Rat) / 1000; a * a / 2
  | 4 => if c % 2 = 0 then (let a : Rat := (param s pChLoadMa c : Rat) / 2000; 2 * (a * a / 2)) else 0
  | _ => 0

/-- Pairs, group and tile loads, dissipation and safety groups (R271, R280, R281, R292). -/
def channelsOk (s : State) : Bool :=
  (List.range 256).all (fun k => (param s pChMode (2 * k) == 4) == (param s pChMode (2 * k + 1) == 4)) &&
    (List.range 64).all (fun g => decide (loadSum s ((List.range 8).map (8 * g + ·)) ≤ 1500)) &&
    (List.range 4).all (fun t => let l := (List.range 128).map (128 * t + ·); decide (loadSum s l ≤ 12000) && decide (l.foldl (fun a c => a + channelWatts s c) 0 ≤ 4)) &&
    (List.range 64).all (fun g => !flag s pSafeGroup g || (List.range 8).all (fun j => decide (3 ≤ param s pChMode (8 * g + j))))

/-- The conversion time of a ΣΔ input in ns: 1.1 T_INT + 50 µs (R297). -/
def sdTime (s : State) (i : Nat) : Nat := ([250000, 1000000, 2500000, 16667000, 20000000][param s pAiTInt i]?).getD 0 * 11 / 10 + 50000

/-- The SAR rates and the ΣΔ cycles; an RTD's odd input is not populated (R297). -/
def analogOk (s : State) : Bool :=
  (List.range 16).all (fun k =>
    let l := ((List.range 8).map (8 * k + ·)).filter (fun i => param s pAiMode i != 0 && !(i % 2 == 1 && decide (7 ≤ param s pAiMode (i - 1))))
    let sd (i : Nat) : Bool := param s pAiConv i == 1 || decide (5 ≤ param s pAiMode i)
    decide ((l.filter (fun i => !sd i)).foldl (fun a i => a + param s pAiRate i) 0 ≤ 1980000) &&
      decide ((l.filter sd).foldl (fun a i => a + sdTime s i) 0 ≤ 90 * ms))

/-- The cam tables named on a motion engine, by its profiles or by CAM.ENGINES, fit its 131,072 words (R239). -/
def camsOk (s : State) : Bool :=
  (List.range 4).all (fun n =>
    let named (k : Nat) : Bool := (List.range 16).any (fun j => param s pProfCam (16 * n + j) == k) || (param s pCamEngines k).testBit n
    decide (((List.range 64).filter named).foldl (fun a k => a + fld ((tget {} s.deck.loaded (imgKey 6 k)).bytes) 64 2) 0 ≤ 131072))

/-- A PTP domain's port, and the other sources of R463. -/
def timeOk (s : State) : Bool :=
  let src (d : Nat) := param s pTimeSource d
  let port (d : Nat) := param s pTimeSourcePort d
  ([1, 2, 3] : List Nat).all (fun d => match src d with
    | 0 => true
    | 1 => decide (d ≠ 2) && param s pEthPtpRole (port d) == 1 && ([1, 2, 3] : List Nat).all (fun e => e == d || src e != 1 || port e != port d)
    | 2 => decide (d = 2) && (List.range 8).any (fun c => flag s pCanT2Source c)
    | _ => decide (d = 3) && flag s pTwinEnable 0)

/-- The T2 source among the CAN channels (R451). -/
def t2Ok (s : State) : Bool :=
  let l := (List.range 8).filter (fun c => flag s pCanT2Source c)
  decide (l.length ≤ 1) && l.all (fun c => param s pCanTtLevel c == 2 && (param s pCanTtRole c == 1 || param s pCanTtRole c == 3) && decide (param s pCanTtCycle c ≤ 32767))

/-- The gate cycle of a port is at most 1 s (R456). -/
def gatesOk (s : State) (p : Nat) : Bool :=
  !flag s pEthQbv p || decide ((List.range (param s pEthGclLen p)).foldl (fun a k => a + param s pEthGclNs (64 * p + k)) 0 ≤ sec)

/-- The privileged channels (R473). -/
def privilegedOk (s : State) : Bool :=
  let l := (List.range 512).filter (fun c => flag s pTwinPrivileged c)
  decide (l.length ≤ 64) && l.all (fun c => flag s pTwinParallel c && decide (3 ≤ param s pChMode c))

/-- The law images a Deck's loops name fit the program memory, and their blocks lie above the frame's words (R200, R201, R221). -/
def lawsOk (s : State) : Bool :=
  let custom := (tkeys s.loops).filter (fun i => param s pLoopLaw i == 6)
  let img (i : Nat) : List Byte := ((tget {} s.deck.loaded (imgKey 4 (param s pLoopLawImage i))).bytes).drop 64
  let code (i : Nat) : Nat × Nat := (fld (img i) 4 2, fld (img i) 4 2 + fld (img i) 2 2)
  let blk (at_ n : Nat) : Bool := n == 0 || decide (0x1000 ≤ at_ ∧ at_ + n ≤ 0x4000)
  custom.all (fun i =>
    let b := (loop s i).blocks
    decide ((code i).2 ≤ 0x2000) && blk b.1 (fld (img i) 0x0A 2) && blk b.2.1 (fld (img i) 0x0C 2) && blk b.2.2 (fld (img i) 0x0E 2) &&
      custom.all (fun j => i / 64 != j / 64 || param s pLoopLawImage i == param s pLoopLawImage j || decide ((code i).2 ≤ (code j).1 ∨ (code j).2 ≤ (code i).1)))

/-- Whether a capture source fits its unit's kind and format (R372, R373). -/
def acqSrcOk (s : State) (u p : Nat) : Bool :=
  let first := param s pAcqSrc0 u
  let fmt := param s pAcqFormat u
  let i := ptIndex p / 16
  match param s pAcqSrcKind u with
  | 0 => decide (p < 2 ^ 25) && ptRegion p == 2 && ptIndex p % 16 == 0 && nodeOf p == nodeOf first && param s pAiMode i != 0 &&
      (fmt == 2 || (param s pAiConv i == 0 && decide (param s pAiMode i < 5) && param s pAiRate i == param s pAiRate (ptIndex first / 16)))
  | 1 => decide (p < 2 ^ 25) && ptRegion p == 4 && (ptIndex p % 256 == 4 || ptIndex p % 256 == 5) && nodeOf p == nodeOf first
  | 2 => fmt == 2 && ((decide (p < 2 ^ 25) && ptRegion p == 1 && ptIndex p % 16 == 0 && (param s pChMode i == 1 || param s pChMode i == 2)) ||
      (decide (0x40000000 ≤ p ∧ p < 0x40000040) && p % 4 != 3) || decide (0x80000000 ≤ p ∧ p < 0x80000004))
  | _ => fmt != 1 && decide (p < 2 ^ 25) && populated s p

/-- The bytes of one frame of a unit. -/
def acqFrameBytes (s : State) (u : Nat) : Nat := (acqSrcs s u).length * acqBytes s u * (if param s pAcqFormat u = 1 then 2 else 1)

/-- The frames that a span in µs takes. -/
def acqFrames (s : State) (u span : Nat) : Nat := let f := max 1 (acqFrame s u); (span * us + f - 1) / f

/-- The bytes of a complete record without gaps: header, source table, chunks of at most 4,096 bytes (R381, R382). -/
def acqRecordBytes (s : State) (u : Nat) : Nat :=
  let fb := max 1 (acqFrameBytes s u)
  let part (n : Nat) : Nat := n * fb + 16 * ((n + 4096 / fb - 1) / max 1 (4096 / fb))
  128 + part (acqFrames s u (param s pAcqPreUs u)) + part (acqFrames s u (param s pAcqPostUs u))

/-- Whether a chain of UNIT triggers from a unit ends (R373). -/
def unitChainEnds (s : State) : Nat → Nat → Bool
  | 0, _ => false
  | n + 1, u => param s pAcqTrigKind u != 10 || unitChainEnds s n (param s pAcqTrigSrc u % 32)

/-- The capture units (R373). -/
def acqOk (s : State) : Bool :=
  let us_ := List.range 32
  let framed := us_.filter (fun u => param s pAcqFormat u != 2 && !(acqSrcs s u).isEmpty)
  let rate (u : Nat) : Rat := (acqFrameBytes s u : Rat) * 1000000000 / (max 1 (acqFrame s u) : Nat)
  let sum (l : List Nat) : Rat := l.foldl (fun a u => a + rate u) 0
  decide (us_.foldl (fun a u => a + param s pAcqPoolKib u) 0 ≤ 2048) && decide (us_.foldl (fun a u => a + param s pAcqRingMib u) 0 ≤ param s pAcqRegionMib 0) &&
    us_.all (fun u => (acqSrcs s u).all (acqSrcOk s u) && unitChainEnds s 33 u) &&
    framed.all (fun u => decide (acqFrames s u (param s pAcqPreUs u) * acqFrameBytes s u ≤ param s pAcqPoolKib u * 1024) &&
      decide (acqRecordBytes s u ≤ param s pAcqRingMib u * 2 ^ 20)) &&
    (List.range 4).all (fun t => decide (sum (framed.filter (fun u => decide (param s pAcqSrcKind u ≤ 1) && nodeOf (param s pAcqSrc0 u) == some t)) ≤ 200000000)) &&
    decide (sum framed ≤ 1000000000)

/-- The header, the tight ring and the log region fit the Thatch region (R398); the rings' share rests on sizes the spec leaves open (DESIGN CHOICE, log 24). -/
def thatchFits (s : State) : Bool := decide (65536 + (param s pThatchTightMib 0 + param s pThatchLogMib 0) * 2 ^ 20 ≤ param s pThatchRegionMib 0 * 2 ^ 20)

/-- The recipes among a Deck's images: the first that R313 refuses, by status and key. -/
def recipesBad (s : State) : Option (Nat × Nat) :=
  (s.deck.loaded.filter (fun e => e.1 / 65536 == 5)).findSome? (fun e => let r := recipeStatus s (e.2.bytes.drop 64); if r = 0 then none else some (r, e.1))

/-- The structure rules that R86 step 10 and the chapters state, on a machine `t` under the Deck `b`. -/
def structureOk (t : State) (b : List Byte) : Bool :=
  decide ((Config.deckWriters b).map (·.1)).Nodup && stationsOk (Config.deckStations b) && derivedsOk (Config.deckDerived b) && channelsOk t && analogOk t && camsOk t &&
    (List.range 32).all (fun x => !homeNoEnc t x) && timeOk t && t2Ok t && (List.range 3).all (gatesOk t) && privilegedOk t && lawsOk t && acqOk t && thatchFits t

/-! ### The Pocket's worst set, step 11 (R331) -/

/-- The recipes a stream may run. -/
def recipesOf (s : State) (k : Nat) : List (List Byte) :=
  ((s.deck.loaded.filter (fun e => e.1 / 65536 == 5)).map (fun e => e.2.bytes.drop 64)).filter (fun pl => fld pl 0x31 1 == k || fld pl 0x31 1 == 0xFF)

/-- The local profiles whose command facets a program writes. -/
def progProfiles (s : State) : List Nat :=
  (List.range 64).filter (fun i => isLocal i && (match tfind s.img.writers (ptid 5 (i * 256 + 2)) with | some w => decide (w < 1024) && (task s w).kind != 2 | none => false))

/-- A step's checkpoint traffic in bytes per µs. -/
def opTraffic (s : State) (l : List (Nat × Nat)) : Rat := l.foldl (fun a e => a + (clsBytes e.2 : Rat) / (max 1 (param s pOpCkptPeriod e.1) : Nat)) 0

/-- The worst concurrent operations fit the slots of each class, and their traffic with the retained copies is at most 8 MB/s (R331). -/
def worstFits (s : State) : Bool :=
  let up := param s pPocketUpsize 0 % 2 == 1
  let pp := (progProfiles s).map (fun _ => (2, 1))
  ([0, 1, 2, 3] : List Nat).all (fun c =>
    decide ((List.range 16).foldl (fun a k => a + (recipesOf s k).foldl (fun m pl => max m (recipeNeed up pl c)) 0) (needOf up pp c) ≤ slotsOf s up c)) &&
  decide ((List.range 16).foldl (fun a k => a + (recipesOf s k).foldl (fun m pl =>
      (List.range (fld pl 0x10 2)).foldl (fun m j => max m (opTraffic s (stepOps pl j))) m) 0) (opTraffic s pp) +
    (s.sched.progs.foldl (fun a e => a + retainSize e.2) 0 : Nat) / (max 1 (param s pCeRetainPeriod 0) * 1000 : Nat) ≤ (8 : Rat))

/-! ### Feasibility, step 13 (R67, R104, R166) -/

/-- The DERIVED evaluations per second are at most 4 M (R67, R104). -/
def derivedFits (s : State) : Bool := decide (s.img.derived.foldl (fun (a : Rat) e => a + 1000000 / (max 1 e.2.periodUs : Nat)) 0 ≤ 4000000)

/-- The cycles of a loop's release at 600 MHz, with its filters, feed-forward and profile (R166, R175). -/
def loopCycles (s : State) (i : Nat) : Nat :=
  let b := ((tget {} s.deck.loaded (imgKey 4 (param s pLoopLawImage i))).bytes).drop 64
  let law := match param s pLoopLaw i with
    | 1 => 96 | 2 => 112 | 3 => 40
    | 4 => let n := ss8Order b; 48 + 4 * (n * n + 4 * n + 3)
    | 5 => 30 | 6 => fld b 8 2 | _ => 0
  let filt (k : Nat) : Nat := match k with | 1 => 40 | 2 => 48 | _ => 0
  150 + law + filt (param s pLoopF1Kind i) + filt (param s pLoopF2Kind i) + (if param s pLoopFfSrc i ≠ 0 ∧ param s pLoopLaw i ≠ 5 then 30 else 0) +
    (if param s pLoopSpVmax i % 2 ^ 31 ≠ 0 then 60 else 0)

/-- The load and response tests of a loop engine, in cycles (R166). -/
def loopEngineFits (s : State) (n : Nat) : Bool :=
  let l := (tkeys s.loops).filter (fun i => i / 64 == n)
  let per (i : Nat) : Nat := max 1 (600 * param s pLoopPeriod i)
  decide (l.foldl (fun (a : Rat) i => a + (loopCycles s i : Rat) / (per i : Nat)) 0 * 100 ≤ (param s pLeLoadLimit n : Nat)) &&
    l.all (fun i =>
      let d := per i - 600 * (10 + param s pLoopInputWait i)
      let sum := l.foldl (fun a j => a + (d + per j - 1) / per j * loopCycles s j) 0
      decide (sum + (l.filter (· != i)).foldl (fun a j => max a (loopCycles s j)) 0 ≤ d))

/-- The sample instants on a tile: period and phase in µs of every task and loop that reads there, the base grid, and the motion ticks of a tile with axes (R98). -/
def tileSamples (s : State) (n : Nat) : List (Nat × Nat) :=
  let here (p : Nat) : Bool := nodeOf p == some n
  let ts := (s.sched.tasks.filter (fun e => e.2.kind != 1 && (tget [] s.sched.windows e.2.window).any (fun r => (List.range r.2).any (fun k => here (r.1 + k))))).map
    (fun e => (param s pTaskPeriod e.1, param s pTaskPhase e.1))
  let ls := ((tkeys s.loops).filter (fun i => ([pLoopPvSrc, pLoopSpSrc, pLoopFfSrc, pLoopTrackSrc] : List Nat).any (fun c => param s c i != 0 && here (param s c i)))).map
    (fun i => (param s pLoopPeriod i, param s pLoopPhase i))
  ts ++ ls ++ [(1000, 0)] ++ (if (List.range 8).any (fun j => flag s pAxisEnable (8 * n + j)) then [(100, 0)] else [])

/-- No tile has more than 256 strobe events pending at any instant (R104): one apply strobe of every task and loop that writes there, and the sample instants of the next 20 µs. -/
def tileFits (s : State) (n : Nat) : Bool :=
  let w := ((s.img.writers.filter (fun e => nodeOf e.1 == some n)).map (·.2)).eraseDups.length
  let l := tileSamples s n
  decide (w + 20 ≤ 256) || tileOk w (l.foldl (fun a e => Nat.lcm a (max 1 e.1)) 1) (fun t => l.any (fun e => isRelease t e.1 e.2))

/-- Step 13 but for the cycle engines' own test. -/
def othersFit (s : State) : Bool := derivedFits s && (List.range 8).all (loopEngineFits s) && (List.range 4).all (tileFits s)

end Sys2Proof.Machine
end

