-- ==== Sys2Proof/Machine/Ridge.lean ====
section
/-! DEFINITION. The Ridge's rows and the SAFE commands (R489-R505, R546). -/

namespace Sys2Proof.Machine

/-! ### Permits (R491, R492) -/

/-- The frame a tile is sent: per slot 1 granted or 0 withheld; sync counts as 1, the last slot is the echo bit. -/
def permitSlots (s : State) (t : Nat) (echo : Bool) : List Nat :=
  [1] ++ (List.range 16).map (fun k => if granted s (16 * t + k) then 1 else 0) ++ [if echo then 1 else 0]

/-- PERMIT_FRAME (R491): one frame of 18 pulses of 75, 50 or 25 µs goes to the tile; under RIDGE_STOP the train stops (R498). -/
def execPermitFrame (tile : Fin 4) (echo : Bool) (s : State) : Res :=
  if s.ridge.stopped then .next s
  else
    let f := permitSlots s tile echo
    let s := setRidge s (fun r => { r with chans := tmod {} r.chans tile (fun c => { c with sent := f }) })
    .next (ridgePoints (send s Out.permitFrame tile (75 :: (f.drop 1).map (fun (v : Nat) => if v = 1 then (50 : Int) else 25))))

/-- PERMIT_REPORT (R492): the tile's decoded slots (0 withheld, 1 granted, 2 invalid) against the frame sent; two differing frames in a row are PERMIT_ECHO. -/
def execPermitReport (tile : Fin 4) (slots : List Nat) (s : State) : Res :=
  let c := tget {} s.ridge.chans tile
  let ok := slots == c.sent
  let bad := if ok then 0 else c.bad + 1
  let s := setRidge s (fun r => { r with chans := tset r.chans tile { c with bad := min bad 2, lastReport := s.t0, missing := false } })
  .next (if bad = 2 then ridgeFault s ⟨0x0802, 0x60 + tile, tile, 0⟩ else s)

/-- PERMIT_ECHO_MISSING (R492): no report for 1 s from an enabled tile that has passed its start-up part (DEDUCED, log 143). -/
def execPermitEchoMissing (tile : Fin 4) (s : State) : Res :=
  let c := tget {} s.ridge.chans tile
  if c.missing ∨ s.t0 < c.lastReport + sec ∨ !flag s pTileEnable tile ∨ !s.ridge.tilesOk.contains tile.val then .next s
  else .next (ridgeFault (setRidge s (fun r => { r with chans := tset r.chans tile { c with missing := true } })) ⟨0x0803, 0x60 + tile, tile, 0⟩)

/-! ### Element tests (R494) -/

/-- Whether an element's next test is due: its period has passed, or its retry. -/
def testDue (s : State) (k : Nat) : Bool :=
  match (elem s k).retryAt with
  | some t => decide (t ≤ s.t0)
  | none => match (elem s k).lastTest with | some t => decide (t + safeParam s pSafeCutTestPeriod 0 * 60 * sec ≤ s.t0) | none => true

/-- Whether a test ended on the tile less than 10 ms ago, or one runs there. -/
def testBusy (s : State) (t : Nat) : Bool :=
  (List.range 32).any (fun j => match (elem s (32 * t + j)).lastTest with | some u => decide (s.t0 < u + 10 * ms) | none => false) ||
    (List.range 16).any (fun j => (grp s (16 * t + j)).test.isSome)

/-- CUT_TEST_SCHEDULE (R494): the Ridge orders the test of one element; one that cannot run, with the tile silent or the group's supply lost, is retried after 1 min. -/
def execCutTestSchedule (g : Fin 64) (el : Fin 2) (s : State) : Res :=
  let k := 2 * g.val + el.val
  let t := g.val / 16
  if !declared s g ∨ !testDue s k ∨ testBusy s t then .next s
  else if (node s t).silent ∨ (grp s g).lost then
    .next (setRidge s (fun r => { r with elems := tmod {} r.elems k (fun x => { x with retryAt := some (s.t0 + 60 * sec) }) }))
  else .next (send s Out.cutTest t [g.val, el.val])

/-- CUT_TEST_DUE (R494): an element of the group without a passing test for 8 h. -/
def execCutTestDue (g : Fin 64) (s : State) : Res :=
  let over_ (k : Nat) : Bool := decide (((elem s k).lastPass.getD 0) + hours8 ≤ s.t0) && !(elem s k).due
  let ks := [2 * g.val, 2 * g.val + 1].filter over_
  if !declared s g ∨ ks.isEmpty then .next s
  else
    let s := setRidge s (fun r => { r with elems := ks.foldl (fun t k => tmod {} t k (fun x => { x with due := true })) r.elems })
    .next (ridgeFault s ⟨0x0805, 0x60 + g.val / 16, g.val, 0⟩)

/-! ### Emergency stop and error chain (R495, R496) -/

/-- Change the inputs and latches. -/
def setEstop (s : State) (f : EstopSt → EstopSt) : State := setRidge s (fun r => { r with estop := f r.estop })

/-- ESTOP_DEMAND (R495): the levels that have stood for ESTOP_FILTER; a low one is a stop demand. -/
def execEstopDemand (aLow bLow : Bool) (s : State) : Res :=
  let e := s.ridge.estop
  let s1 := setEstop s (fun x => { x with aHigh := !aLow, bHigh := !bLow, bothLowSeen := x.bothLowSeen || (aLow && bLow) })
  if !(aLow || bLow) ∨ e.demand then .next (ridgePoints s1)
  else .next (ridgeFault (setEstop s1 (fun x => { x with demand := true })) ⟨0x0B01, 0x7F, 0, 0⟩)

/-- ESTOP_DISCREPANCY (R495): the inputs have differed for longer than ESTOP_DISC. -/
def execEstopDiscrepancy (aHigh : Bool) (s : State) : Res :=
  let s1 := setEstop s (fun x => { x with aHigh := aHigh, bHigh := !aHigh })
  if s.ridge.estop.discrepancy then .next (ridgePoints s1)
  else .next (ridgeFault (setEstop s1 (fun x => { x with discrepancy := true, bothLowSeen := false })) ⟨0x0B02, 0x7F, 0, 0⟩)

/-- ESTOP_RELEASE (R495): both inputs high together for 100 ms end the demand; a discrepancy ends only when both were low together since. -/
def execEstopRelease (s : State) : Res :=
  let s := setEstop s (fun x => { x with aHigh := true, bHigh := true, demand := false, discrepancy := x.discrepancy && !x.bothLowSeen })
  .next (dropRelatched s)

/-- ERRIN_DEMAND (R496): ERRIN_N low for ESTOP_FILTER. -/
def execErrinDemand (s : State) : Res :=
  if s.ridge.estop.errDemand then .next s
  else .next (ridgeFault (setEstop s (fun x => { x with errHigh := false, errDemand := true })) ⟨0x0B03, 0x7F, 0, 0⟩)

/-- ERRIN_RELEASE (R496): ERRIN_N high for 100 ms. -/
def execErrinRelease (s : State) : Res := .next (dropRelatched (setEstop s (fun x => { x with errHigh := true, errDemand := false })))

/-! ### The Ridge itself -/

/-- RIDGE_WATCHDOG (R489, R497): a watchdog was not served by both cores in turn within 100 µs. -/
def execRidgeWatchdog (wd : Fin 2) (s : State) : Res := .next (ridgeFault s ⟨0x0D02, 0x7F, wd.val, 0⟩)

/-- RIDGE_CONFIG_CHECK (R490): every 1 s the copy's CRC as read is compared with the one kept. -/
def execRidgeConfigCheck (crc : Word) (s : State) : Res :=
  if crc = s.ridge.configCrc then .next s else .next (ridgeFault s ⟨0x0D01, 0x7F, 0, 0⟩)

/-- RIDGE_FAULT_REPORT (R497, R498): the oldest report reaches the Ridge. -/
def execRidgeFaultReport (s : State) : Res :=
  match s.faultq with
  | [] => .next s
  | f :: r => .next (ridgeFault { s with faultq := r } f)

/-- RIDGE_HEARTBEAT_LOSS (R498): after a RIDGE_STOP the loss of the Ridge's heartbeat puts the device into M10. -/
def execRidgeHeartbeatLoss (s : State) : Res :=
  if !s.ridge.stopped ∨ s.ridge.hbLost then .next s else .next (enterSafe (setRidge s (fun r => { r with hbLost := true })))

/-- RIDGE_STARTUP_TEST_END (R502): a part of the start-up tests ends: 0 internal, 1 to 4 a tile, with the groups whose elements passed; STARTING ends with the last part. -/
def execRidgeStartupTestEnd (part : Fin 5) (passed : Bool) (tested : BitVec 64) (s : State) : Res :=
  if !passed then .next s
  else
    let t := part.val - 1
    let s := if part = 0 then setRidge s (fun r => { r with internalOk := true })
      else
        let s := setRidge s (fun r => { r with tilesOk := if r.tilesOk.contains t then r.tilesOk else r.tilesOk ++ [t] })
        ((List.range 16).map (16 * t + ·)).foldl (fun s g =>
          if declared s g && tested.getLsbD g then elemResult (elemResult s g 0 true) g 1 true else s) s
    let done := s.ridge.internalOk && ([0, 1, 2, 3] : List Nat).all (fun n => !flag s pTileEnable n || s.ridge.tilesOk.contains n)
    .next (dropRelatched (setRidge s (fun r => { r with starting := r.starting && !done })))

/-! ### Safe actions (R500, R501) -/

/-- The safe action of a channel outside the safety groups. -/
def safeChan (s : State) (c : Nat) : State :=
  if flag s pSafeGroup (c / 8) then s
  else
    let v : Option Bool := match param s pSafeChAction c with
      | 0 => some false | 1 => some (flag s pChDefaultState c) | 2 => some (chan s c).on | _ => none
    chRefresh (setChan s c (fun d => { d with safe := v })) c

/-- The safe action of an analog output. -/
def safeAo (s : State) (a : Nat) : State :=
  let v : Option (Option Word) := match param s pSafeAoAction a with
    | 0 => some none | 1 => some (some (bv 32 (param s pAoDefault a)))
    | 2 => some (match aoPin s a with | .inl v => some v | .inr _ => none) | _ => none
  aoRefresh (setAout s a (fun d => { d with safe := v })) a

/-- The stop of an axis that its tile executes: HARD or RAMP. -/
def safeAxis (s : State) (x : Nat) : State :=
  let k := param s pSafeAxisStop x
  if k = 2 ∨ (axis s x).drv = 0 then s else paramStop s x (decide (k = 0)) (param s pSafeAxisAfter x)

/-- SAFE_COMMAND_RECEIVE (R499-R501): a tile applies the safe actions to its pins and axes, a motion engine plans the PROFILE stops; a silent tile does not hear it. -/
def execSafeCommandReceive (isl : Byte) (s : State) : Res :=
  let i := isl.toNat
  let t := i - 0x60
  if !s.ridge.safeCmds.contains i ∨ (0x60 ≤ i ∧ ((node s t).silent ∨ !(node s t).powered)) then .next s
  else
    let s := setRidge s (fun r => { r with safeCmds := r.safeCmds.filter (· != i) })
    if 0x60 ≤ i then
      let s := ((outChans s).filter (fun c => c / 128 == t)).foldl safeChan s
      let s := ((outAos s).filter (fun a => a / 8 == t)).foldl safeAo s
      .next (((List.range 8).map (8 * t + ·)).foldl safeAxis s)
    else if 0x28 ≤ i ∧ i < 0x2C then
      let ps := (List.range 8).map (16 * (i - 0x28) + ·)
      .next ((ps.filter (fun p => decide (param s pSafeAxisStop (8 * (i - 0x28) + p % 16) = 2) && decide ((prof s p).st ≠ 0 ∧ (prof s p).st ≠ 1))).foldl
        (fun s p => setProf s p (fun d => { d with stopReq := some 0 })) s)
    else .next s

/-! ### Commands (R498, R546) -/

/-- Whether a command's TARGET, which its row does not name, is 0 (R542). -/
def noTarget (r : Req) : Bool := r.target == 0

/-- SAFE_RESET (R498). -/
def execSafeReset (r : Req) (s : State) : Res :=
  .next (command s r 0x0801 true [.safe] 0 (noTarget r) (fun s => safeReset s r 0x0801))

/-- SAFE_GROUP_RESET (R498): GROUP reactions over the named groups whose causes have ended are released; else 0x0203. -/
def execSafeGroupReset (r : Req) (s : State) : Res :=
  .next (command s r 0x0802 true allModes 8 (noTarget r) (fun s =>
    let g := bv 64 (fld r.payload 0 8)
    if s.ridge.latches.any (fun l => l.react == .group && (l.groups &&& g) != 0 && causeHolds s l) then finish s r 0x0802 true 0x0203
    else
      let rest := s.ridge.latches.map (fun l => if l.react = .group then { l with groups := l.groups &&& ~~~g } else l)
      let s := setRidge s (fun x => { x with latches := rest.filter (fun l => l.react != .group || l.groups != 0) })
      finish (ridgePoints (noteRelease s)) r 0x0802 true 0))

/-- SAFE_PROOF_TEST (R494): every element of every safety group that can be tested is tested; the final response comes with the last result. -/
def execSafeProofTest (r : Req) (s : State) : Res :=
  .next (command s r 0x0803 true [.idle, .maint, .safe] 0 (noTarget r) (fun s =>
    let gs := (List.range 64).filter (fun g => declared s g && !(node s (g / 16)).silent && !(grp s g).lost)
    let ks := gs.flatMap (fun g => [2 * g, 2 * g + 1])
    let s := accepted s r 0x0803
    if ks.isEmpty then finish s r 0x0803 true 0
    else
      let s := setRidge s (fun x => { x with proof := some (r.mb.val, r.tag.toNat), proofLeft := ks, proofFailed := 0 })
      ks.foldl (fun s k => send s Out.cutTest (k / 32) [((k / 2 : Nat) : Int), ((k % 2 : Nat) : Int)]) s))

end Sys2Proof.Machine
end

