-- ==== Sys2Proof/Machine/Deck.lean ====
section
/-! DEFINITION. Mode requests, image staging, Deck and image validation, commits and saves, firmware banks (R71-R89, R546-R553). -/

namespace Sys2Proof.Machine

/-- Change the Deck's state. -/
def setDeck (s : State) (f : DeckSt → DeckSt) : State := { s with deck := f s.deck }
/-- The request that a background job answers. -/
def jobReq (j : BgJob) : Req := { mb := ⟨j.mb % 8, Nat.mod_lt _ (by decide)⟩, tag := bv 5 j.tag }
/-- A background job of a request. -/
def jobOf (r : Req) (kind slot flags : Nat) : BgJob := ⟨kind, slot, flags, r.mb.val, r.tag.toNat⟩
/-- Staged bytes of an image. -/
def stagedImg (s : State) (k : Nat) : List Byte := tget [] s.deck.staged k

/-! ### Validation (R86, R87, R89) -/

/-- The reaction a SAFE.REACT value must not undercut, and codes whose value no Deck may name (R490). -/
def reactOk (s : State) (code v : Nat) : Bool :=
  let d := faultDefault s ⟨code, 0x7F, 0, 0⟩
  let d := if code = 0x0901 ∨ code = 0x0902 then Reaction.group else d
  decide (d.num < 2 ∧ d.num ≤ v)

/-- The first failing check of step 8 on a value, by status (R86): 0 for none. -/
def valueStatus (s : State) (id v : Nat) : Nat :=
  match descOf id with
  | none => if isFactory id then 0x0106 else 0x010F
  | some d =>
    if encStatus d.ty v ≠ 0 ∨ !inRange s d (id % 4096) v ∨ (d.code = pSafeReact ∧ !reactOk s (id % 4096) v) then 0x0105 else 0

/-- Step 8 over (scope, ID, value) entries, a base value taken against the base values alone: the status of the first kind of failure in the order unknown, factory, range, and its ID. -/
def step8 (s : State) (l : List (Nat × Nat × Nat)) : Nat × Nat :=
  let base := { s with params := { s.params with force := s.params.force.filter (fun e => decide (e.1 < 2 ^ 32)), live := s.params.live.filter (fun p => decide (p.key < 2 ^ 32)) } }
  let view (sc : Nat) : State := if sc = 0 then base else { s with mode := { s.mode with cur := (modeOf (sc - 1)).getD s.mode.cur } }
  let res := l.map (fun e => (valueStatus (view e.1) e.2.1 e.2.2, e.2.1))
  ((([0x010F, 0x0106, 0x0105] : List Nat)).findSome? (fun c => res.find? (fun e => e.1 == c))).getD (0, 0)

/-- Step 9: a Shingle's deltas obey R85; the offending ID. -/
def step9 (s : State) (l : List (Nat × Nat × Nat)) : Option Nat :=
  (l.find? (fun e => e.1 != 0 && (match descOf e.2.1 with | some d => !shingleOk s d e.1 e.2.1 | none => true))).map (fun e => e.2.1)

/-- The sections of a Deck obey R83: kinds once, all required ones present, 8-byte aligned, inside the image, without overlap. -/
def sectionsOk (b : List Byte) : Bool :=
  let d := deckDir b
  let ks := d.map (·.1)
  decide (fld (b.drop 0x40) 0 4 ≤ 16) && ([1, 2, 3, 4, 5, 6, 7, 8, 9, 11] : List Nat).all ks.contains && ks.all (fun k => decide (1 ≤ k ∧ k ≤ 12)) &&
    decide ks.Nodup && d.all (fun e => e.2.1 % 8 == 0 && decide (e.2.1 + e.2.2.1 ≤ b.length)) &&
    d.all (fun e => d.all (fun f => e.1 == f.1 || decide (e.2.1 + e.2.2.1 ≤ f.2.1 ∨ f.2.1 + f.2.2.1 ≤ e.2.1)))

/-- The Thatch plan obeys R397: a default entry first, the others apart from each other and from LOCAL. -/
def planOk (l : List PlanEnt) : Bool :=
  match l with
  | [] => false
  | d :: r => d.first == 0 && d.count == 0 &&
    r.all (fun e => ptRegion e.first != 0x1F && r.all (fun f => e == f || decide (e.first + e.count ≤ f.first ∨ f.first + f.count ≤ e.first)))

/-- The window lists obey R53: at most 16 ranges, sorted, apart, each in one region and populated, at most 4,096 points. -/
def windowsOk (s : State) (l : List (List (Nat × Nat))) : Bool :=
  l.all (fun w =>
    decide (w.foldl (fun a r => a + r.2) 0 ≤ 4096) && w.all (fun r => decide (1 ≤ r.2 ∧ r.2 ≤ 4096) && ptRegion r.1 == ptRegion (r.1 + r.2 - 1) &&
      (List.range r.2).all (fun k => populated s (r.1 + k))) &&
    (w.zip (w.drop 1)).all (fun e => decide (e.1.1 + e.1.2 ≤ e.2.1)))

/-- The DRAM limits of R34 and R35 and the Pocket areas of R329. -/
def regionsOk (s : State) : Bool :=
  let th := param s pThatchRegionMib 0
  let aq := param s pAcqRegionMib 0
  decide (384 + th + aq + param s pSysImageRegionMib 0 + param s pSysStagingRegionMib 0 ≤ 4096) && decide (th + aq ≤ 3584) &&
    decide (param s pPocketOpArea 0 + param s pPocketRetainArea 0 ≤ 14336)

/-- A Deck configures nothing on a tile that is not enabled (R560). -/
def tilesOff (s : State) : Bool :=
  let off (t : Nat) : Bool := !flag s pTileEnable t
  !((kindInsts s pChMode).any (fun c => param s pChMode c != 0 && off (c / 128)) || (kindInsts s pAiMode).any (fun c => param s pAiMode c != 0 && off (c / 32)) ||
    (kindInsts s pAoMode).any (fun c => param s pAoMode c != 0 && off (c / 8)) || (kindInsts s pEncMode).any (fun c => param s pEncMode c != 0 && off (c / 4)) ||
    (kindInsts s pAxisEnable).any (fun c => flag s pAxisEnable c && off (c / 8)) || (kindInsts s pCanEnable).any (fun c => flag s pCanEnable c && off (c / 2)))

/-- The part of step 11 that R329 and R331 state on slots and areas. -/
def pocketFits (s : State) : Bool :=
  decide ((List.range 4).foldl (fun a k => a + param s pPocketSlots k * clsBytes k) 0 ≤ param s pPocketOpArea 0) &&
    decide (s.sched.progs.foldl (fun a e => a + retainSize e.2) 0 ≤ param s pPocketRetainArea 0) && s.sched.progs.all (fun e => decide (retainSize e.2 ≤ 872))

/-- Step 13 for the cycle engines (R104). -/
def schedFits (s : State) : Bool := (List.range 16).all (fun c => feasible s (fun p => tget 0 s.sched.home p) c)

/-- The Deck's validation: failed step (0 for none), status, detail. `late` is the step from 10 to 13 that fails on what the spec gives no layout for (DESIGN CHOICE, log 24). -/
def deckCheck (s : State) (late : Nat) (detail : Nat) : Nat × Nat × Nat :=
  let b := stagedImg s (imgKey 1 0)
  let refs := Config.deckRefs b
  let imgs := (refs.map (fun r => imgKey r.1 r.2.1)).filter (fun k => (tfind s.deck.staged k).isSome)
  let heads := (imgKey 1 0 :: imgs).map (fun k => (hdrCheck s (k / 65536) (stagedImg s k), k))
  match (([1, 2, 3, 4, 5] : List Nat)).findSome? (fun i => heads.find? (fun e => e.1.1 == i)) with
  | some e => (e.1.1, e.1.2, e.2)
  | none =>
    match imgs.find? (fun k => fld (stagedImg s k) 0x14 4 != hdrGen b) with
    | some k => (6, 0x0104, k)
    | none =>
      match refs.find? (fun r => let g := stagedImg s (imgKey r.1 r.2.1); hdrGen g != r.2.2.1 || fld g 0x38 4 != r.2.2.2) with
      | some r => (7, 0x0108, imgKey r.1 r.2.1)
      | none =>
        let t := useDeck s b (imgs.foldl (fun t k => tset t k (stagedImg s k)) [])
        let vals := t.params.working.map (fun e => (e.1 / 2 ^ 32, e.1 % 2 ^ 32, e.2.toNat))
        let r8 := step8 t vals
        if r8.1 ≠ 0 then (8, r8.1, r8.2)
        else if (List.range 8).any (fun c => !canTimingOk t c) then (8, 0x0105, pid pCanNbrp (((List.range 8).find? (fun c => !canTimingOk t c)).getD 0))
        else match step9 t vals with
        | some id => (9, 0x0106, id)
        | none =>
          let lists := t.params.keepList ++ t.params.bootList
          if late = 10 ∨ !sectionsOk b ∨ !planOk t.thatch.plan ∨ !windowsOk t (deckWindows b) ∨ !regionsOk t ∨ !tilesOff t ∨ !structureOk t b ∨
              lists.any (fun id => match descOf id with | some d => !(d.cm == .live || d.cm == .mode) | none => true) then (10, 0x0107, detail)
          else if let some e := recipesBad t then (10, e.1, e.2)
          else if late = 11 ∨ !pocketFits t ∨ !worstFits t then (11, 0x0301, detail)
          else if late = 12 then (12, 0x0302, detail)
          else if late = 13 ∨ !schedFits t ∨ !othersFit t then (13, 0x0303, detail)
          else (0, 0, 0)

/-- DECK_VALIDATION_END (R86, R87): DECK_LOAD's final response: failed step, detail, the device's and the proof's results. -/
def execDeckValidationEnd (late : Fin 14) (detail device proof : Word) (s : State) : Res :=
  match s.deck.validating with
  | none => .next s
  | some j =>
    let (step, st, det) := deckCheck s late.val detail.toNat
    let s := setDeck s (fun d => { d with validating := none, stagedOk := decide (step = 0) })
    let b := 11 ≤ step
    .next (finish s (jobReq j) 0x0203 true st
      (leBytes 1 step ++ [0, 0, 0] ++ leBytes 4 det ++ leBytes 4 (if b then device.toNat else 0) ++ leBytes 4 (if b then proof.toNat else 0)))

/-! ### Writing Decks to flash (R82, R88) -/

/-- The slot that a write uses: the one the Deck in use does not stand in. -/
def otherSlot (s : State) : Nat := 1 - s.deck.slot
/-- Put a Deck with its valid mark into a slot; it is the one written last. -/
def putFlash (s : State) (f : FlashDeck) : State :=
  let o := s.deck.flash.foldl (fun a e => max a e.2.order) 0 + 1
  setDeck s (fun d => { d with flash := tset d.flash (otherSlot s) { f with order := o }, slot := otherSlot s })

/-- DECK_COMMIT_DONE (R88): with the read-back good the slot is marked and M3 is entered at E, unless the device has left M2 (0x0201, DEDUCED, log 43); else 0x0602. -/
def execDeckCommitDone (readOk : Bool) (s : State) : Res :=
  match s.deck.committing with
  | none => .next s
  | some j =>
    if j.kind ≠ 1 then .next s
    else if !readOk then .next (finish (setDeck s (fun d => { d with committing := none })) (jobReq j) 0x0204 true 0x0602)
    else
      let b := stagedImg s (imgKey 1 0)
      let imgs := s.deck.staged.filter (fun e => e.1 != imgKey 1 0 && e.1 / 65536 != 8)
      let s := putFlash s { deck := b, imgs := imgs, edit := fld b 0x18 2, vals := deckValues b imgs }
      if s.mode.cur ≠ .config then .next (finish (setDeck s (fun d => { d with committing := none })) (jobReq j) 0x0204 true 0x0201)
      else .next (pendMode (setDeck s (fun d => { d with committing := some { j with kind := 2 } })) .idle 3).1

/-- DECK_SAVE_DONE (R82): the working Deck stands in flash with its new edit count, which goes to the Pocket header through the journal. -/
def execDeckSaveDone (readOk : Bool) (s : State) : Res :=
  match s.deck.saving with
  | none => .next s
  | some j =>
    let s := setDeck s (fun d => { d with saving := none })
    if !readOk then .next (finish s (jobReq j) 0x0205 true 0x0602)
    else
      let e := (s.deck.edit + 1) % 65536
      let imgs := (s.deck.loaded.filter (fun x => x.1 != imgKey 1 0)).map (fun x => (x.1, x.2.bytes))
      let s := putFlash s { deck := (tget {} s.deck.loaded (imgKey 1 0)).bytes, imgs := imgs, edit := e, vals := s.params.working }
      let s := setDeck s (fun d => { d with edit := e })
      let s := { s with params := { s.params with saved := s.params.working, unsaved := 0 } }
      .next (finish (journalPut s false [(0x00C, leBytes 2 e)]) (jobReq j) 0x0205 true 0 (leBytes 2 e))

/-! ### Single images (R81, R89) -/

/-- The checks of one image: steps 1 to 9, the generation, a recipe's of R313, then 11 to 13 by `late`. -/
def imageCheck (s : State) (kind slot flags late : Nat) : Nat :=
  let b := stagedImg s (imgKey kind slot)
  let old := tfind s.deck.loaded (imgKey kind slot)
  let h := hdrCheck s kind b
  let vals := if kind = 2 then (shingleDeltas b).map (fun e => (slot + 1, e.1, e.2)) else []
  if h.1 ≠ 0 then h.2
  else if fld b 0x14 4 ≠ s.deck.gen then 0x0104
  else if (step8 s vals).1 ≠ 0 then (step8 s vals).1
  else if (step9 s vals).isSome then 0x0106
  else if flags % 2 = 0 ∧ old.any (fun o => !imgLater (hdrGen b) o.gen) then 0x0109
  else if kind = 5 ∧ recipeStatus s (b.drop 64) ≠ 0 then recipeStatus s (b.drop 64)
  else if late = 11 then 0x0301 else if late = 12 then 0x0302 else if late = 13 then 0x0303 else 0

/-- IMAGE_VALIDATION_END (R81, R89): the image is taken or refused. A Shingle's deltas stand for its mode's next entry; a program waits staged for its exchange (DEDUCED, log 31). -/
def execImageValidationEnd (late : Fin 14) (s : State) : Res :=
  match s.deck.loading with
  | none => .next s
  | some j =>
    let k := imgKey j.kind j.slot
    let b := stagedImg s k
    let old := (tget {} s.deck.loaded k).gen
    let st := imageCheck s j.kind j.slot j.flags late.val
    let s := setDeck s (fun d => { d with loading := none })
    if st ≠ 0 then .next (finish s (jobReq j) 0x0202 true st)
    else
      let older := (tfind s.deck.loaded k).any (fun o => !imgLater (hdrGen b) o.gen)
      let s := if older then note s Ev.imageOlder 0x00 j.slot 0 [j.kind, old, hdrGen b] else note s Ev.imageLoad 0x00 j.slot 0 [j.kind, old, hdrGen b]
      let s := if j.kind = 3 then s
        else setDeck s (fun d => { d with loaded := tset d.loaded k { gen := hdrGen b, deckGen := fld b 0x14 4, bytes := b } })
      let s := if j.kind = 7 then { s with sched := { s.sched with natives := tset s.sched.natives j.slot { Config.progImg b with gen := hdrGen b } } } else s
      let s := if j.kind ≠ 2 then s
        else
          let sc := j.slot + 1
          let w := s.params.working.filter (fun e => e.1 / 2 ^ 32 != sc)
          { s with params := { s.params with working := (shingleDeltas b).foldl (fun t e => tset t (pkey sc e.1) (bv 64 e.2)) w } }
      .next (finish s (jobReq j) 0x0202 true 0 (leBytes 2 old ++ leBytes 2 (hdrGen b)))

/-! ### Commands -/

/-- The transitions a host may request (R71). -/
def hostTransition (a b : Mode) : Bool :=
  match a, b with
  | .config, .idle | .idle, .config | .idle, .run | .idle, .maint | .idle, .test | .run, .hold | .hold, .run | .run, .idle | .hold, .idle | .maint, .idle | .safe, .idle => true
  | _, _ => false

/-- MODE_SET (R71, R72, R74, R560; 0x0501 too while a commit is on its way to M3, DEDUCED, log 43): the present mode is answered at once, with an E the spec does not give; another is checked and pends until E. -/
def execModeSet (r : Req) (s : State) : Res :=
  .next (command s r 0x0002 true [.config, .idle, .run, .hold, .maint, .safe] 4 (noTarget r && fld r.payload 1 3 == 0) (fun s =>
    let cur := s.mode.cur
    if s.mode.pend.isSome ∨ (cur = .config ∧ s.deck.committing.isSome) then finish s r 0x0002 true 0x0501
    else match modeOf (fld r.payload 0 1) with
    | none => finish s r 0x0002 true 0x0201
    | some m =>
      if m = cur then (let (v, s) := fresh s; finish s r 0x0002 true 0 (leBytes 8 v.toNat))
      else if !hostTransition cur m then finish s r 0x0002 true 0x0201
      else if cur = .safe then safeReset s r 0x0002
      else if !dwellOk s then finish s r 0x0002 true 0x050C
      else if cur = .config ∧ !s.deck.inUse then finish s r 0x0002 true 0x0108
      else if (cur = .run ∨ cur = .hold) ∧ m = .idle ∧ streamsActive s then finish s r 0x0002 true 0x0202
      else
        -- from M2 a Deck that is staged and not committed is discarded, and the discard recorded
        let s := if cur = .config ∧ s.deck.stagedOk then
          note (setDeck s (fun d => { d with stagedOk := false, staged := tdel d.staged (imgKey 1 0) })) Ev.deckDiscard 0x00 0 0 [hdrGen (stagedImg s (imgKey 1 0))] else s
        let p := pendMode s m 0
        finish p.1 r 0x0002 true 0 (leBytes 8 p.2)))

/-- Whether a job in the background uses an image (R548). -/
def stageBusy (s : State) (kind slot : Nat) : Bool :=
  (s.deck.validating.isSome && kind != 8) || s.deck.loading.any (fun j => j.kind == kind && j.slot == slot) ||
    (s.sched.exch.any (fun x => x.slot == slot && x.ended.isNone) && kind == 3) || (s.deck.committing.isSome && kind != 8)

/-- IMAGE_STAGE (R548): one chunk, in order, from the bulk window to the staged bytes. -/
def execImageStage (r : Req) (s : State) : Res :=
  let kind := fld r.payload 0 1
  let slot := fld r.payload 2 2
  let off := fld r.payload 4 4
  let bo := fld r.payload 8 4
  let bl := fld r.payload 12 4
  .next (command s r 0x0201 true [.config, .idle, .run, .hold, .maint] 16
    (noTarget r && fld r.payload 1 1 == 0 && decide (1 ≤ kind ∧ kind ≤ 8) && bulkOk bo bl) (fun s =>
    let have_ := if off = 0 then [] else stagedImg s (imgKey kind slot)
    if stageBusy s kind slot then finish s r 0x0201 true 0x050D
    else if off ≠ have_.length then finish s r 0x0201 true 0x010E
    else if kindLimit kind < off + bl then finish s r 0x0201 true 0x0102
    else if bulkBusy s bo bl then finish s r 0x0201 true 0x0509
    else
      let (ok, s) := bulkMay s bl
      if !ok then finish s r 0x0201 true 0x050B else
      let b := have_ ++ mreads s.host.bulk bo bl
      finish (setDeck s (fun d => { d with staged := tset d.staged (imgKey kind slot) b, stagedOk := d.stagedOk && kind == 8 })) r 0x0201 true 0))

/-- IMAGE_LOAD (R89). -/
def execImageLoad (r : Req) (s : State) : Res :=
  let kind := fld r.payload 0 1
  let fl := fld r.payload 1 1
  let slot := fld r.payload 2 2
  .next (command s r 0x0202 true [.idle, .run, .hold, .maint] 4 (noTarget r && decide (2 ≤ kind ∧ kind ≤ 7) && decide (fl ≤ 1)) (fun s =>
    if stageBusy s kind slot ∨ s.deck.loading.isSome then finish s r 0x0202 true 0x050D
    else if (tfind s.deck.staged (imgKey kind slot)).isNone then finish s r 0x0202 true 0x0108
    else accepted (setDeck s (fun d => { d with loading := some (jobOf r kind slot fl) })) r 0x0202))

/-- DECK_LOAD (R86): validation begins. -/
def execDeckLoad (r : Req) (s : State) : Res :=
  .next (command s r 0x0203 true [.config] 0 (noTarget r) (fun s =>
    if s.deck.validating.isSome ∨ s.deck.committing.isSome then finish s r 0x0203 true 0x050D
    else accepted (setDeck s (fun d => { d with validating := some (jobOf r 1 0 0), stagedOk := false })) r 0x0203))

/-- DECK_COMMIT (R88, R549): only a Deck that has passed; the other slot loses its mark first. -/
def execDeckCommit (r : Req) (s : State) : Res :=
  .next (command s r 0x0204 true [.config] 0 (noTarget r) (fun s =>
    if !s.deck.stagedOk ∨ s.deck.committing.isSome then finish s r 0x0204 true 0x0108
    else if !dwellOk s then finish s r 0x0204 true 0x050C
    else accepted (setDeck s (fun d => { d with committing := some (jobOf r 1 0 0), flash := tdel d.flash (otherSlot s) })) r 0x0204))

/-- DECK_SAVE (R82). -/
def execDeckSave (r : Req) (s : State) : Res :=
  .next (command s r 0x0205 true [.idle, .run, .hold, .maint] 0 (noTarget r) (fun s =>
    if s.deck.saving.isSome then finish s r 0x0205 true 0x050D
    else accepted (setDeck s (fun d => { d with saving := some (jobOf r 1 0 0), flash := tdel d.flash (otherSlot s) })) r 0x0205))

/-- IMAGE_INFO (R546): the headers of the loaded and the kept image. -/
def execImageInfo (r : Req) (s : State) : Res :=
  let k := imgKey (fld r.payload 0 1) (fld r.payload 2 2)
  .next (command s r 0x0206 false allModes 4 (noTarget r && fld r.payload 1 1 == 0) (fun s =>
    match tfind s.deck.loaded k with
    | none => finish s r 0x0206 false 0x0108
    | some i => finish s r 0x0206 false 0 (hdrBytes i.bytes ++ hdrBytes (tget {} s.deck.kept k).bytes)))

/-! ### Firmware (R550-R552) -/

/-- The bank that is not running. -/
def otherBank (s : State) : Nat := 1 - s.fw.bank

/-- FW_UPDATE (R551): the checks and the write of the other bank run in the background. -/
def execFwUpdate (r : Req) (s : State) : Res :=
  let fl := fld r.payload 0 1
  .next (command s r 0x0210 true [.config, .idle, .run, .hold, .maint] 4 (noTarget r && decide (fl ≤ 1) && fld r.payload 1 3 == 0) (fun s =>
    match tfind s.deck.staged (imgKey 8 (otherBank s)) with
    | none => finish s r 0x0210 true 0x0108
    | some _ =>
      if s.fw.writing.isSome then finish s r 0x0210 true 0x050D
      else accepted { s with fw := { s.fw with writing := some (jobOf r 8 (otherBank s) fl) } } r 0x0210))

/-- The checks of R551 in order; whether the signature verifies comes with the row. -/
def fwCheck (s : State) (j : BgJob) (sigOk : Bool) : Nat :=
  let b := stagedImg s (imgKey 8 j.slot)
  let h := hdrCheck s 8 b
  if h.1 = 1 then h.2
  else if h.1 = 2 ∨ fld b 0x18 4 ≠ j.slot then 0x0101
  else if h.1 ≠ 0 then h.2
  else if !sigOk then 0x0706
  else if j.flags % 2 = 0 ∧ !imgLater (hdrGen b) (tget 0 s.fw.gen s.fw.bank) then 0x0109 else 0

/-- FW_UPDATE_DONE (R551): a refused image leaves the bank; a good one is written, read back and marked last. -/
def execFwUpdateDone (sigOk readOk : Bool) (s : State) : Res :=
  match s.fw.writing with
  | none => .next s
  | some j =>
    let b := stagedImg s (imgKey 8 j.slot)
    let st := fwCheck s j sigOk
    let s := { s with fw := { s.fw with writing := none } }
    if st ≠ 0 then .next (finish s (jobReq j) 0x0210 true st)
    else if !readOk then .next (finish { s with fw := { s.fw with valid := tdel s.fw.valid j.slot } } (jobReq j) 0x0210 true 0x0602)
    else .next (finish { s with fw := { s.fw with valid := tset s.fw.valid j.slot (fld b 0x10 4), gen := tset s.fw.gen j.slot (hdrGen b) } } (jobReq j) 0x0210 true 0 (leBytes 1 j.slot ++ [0, 0, 0]))

/-- FW_TARGET of the flash Deck written last. -/
def flashTarget (s : State) : Nat :=
  match s.deck.flash.foldl (fun (a : Option FlashDeck) e => match a with | none => some e.2 | some x => if x.order < e.2.order then some e.2 else a) none with
  | some f => fld f.deck 0x10 4
  | none => 0

/-- FW_SWAP (R552): M11 is entered, and the swap's warm restart is set for the first whole millisecond 2 ms on. -/
def execFwSwap (r : Req) (s : State) : Res :=
  let fl := fld r.payload 0 1
  .next (command s r 0x0211 true [.idle, .run, .hold] 4 (noTarget r && decide (fl ≤ 1) && fld r.payload 1 3 == 0) (fun s =>
    if s.sched.exch.isSome ∨ s.fw.swapAt.isSome then finish s r 0x0211 true 0x0503
    else if s.mode.pend.isSome then finish s r 0x0211 true 0x0501
    else if !dwellOk s then finish s r 0x0211 true 0x050C
    else match tfind s.fw.valid (otherBank s) with
    | none => finish s r 0x0211 true 0x0108
    | some v =>
      if v ≠ flashTarget s ∧ fl % 2 = 0 then finish s r 0x0211 true 0x0103
      else
        let s := { s with fw := { s.fw with swapAt := some (wholeMs s.t0 (2 * ms)) } }
        finish (pendMode s .update 4).1 r 0x0211 true 0))

end Sys2Proof.Machine
end

