-- ==== Sys2Proof/Machine/CheckValue.lean ====
section
/-! DEFINITION. The check-value units and die temperatures (R3, R509-R519, R576). -/

namespace Sys2Proof.Machine

/-! ### Check values (R509, R511) -/

/-- One bit of a reflected CRC. -/
def crcRefBit (poly c : DWord) : DWord := if c.getLsbD 0 then (c >>> 1) ^^^ poly else c >>> 1
/-- One bit of a CRC of width `w` that takes the highest bit first. -/
def crcMsbBit (w : Nat) (poly c : DWord) : DWord :=
  let d := (c <<< 1) &&& bv 64 (2 ^ w - 1)
  if c.getLsbD (w - 1) then d ^^^ poly else d

/-- Apply a function a number of times. -/
def times {α : Type} (f : α → α) : Nat → α → α
  | 0, x => x
  | n + 1, x => times f n (f x)

/-- A reflected CRC over bytes. -/
def crcRef (poly init : DWord) (l : List Byte) : DWord := l.foldl (fun c b => times (crcRefBit poly) 8 (c ^^^ b.zeroExtend 64)) init
/-- A CRC of width `w` with the highest bit first. -/
def crcMsb (w : Nat) (poly init : DWord) (l : List Byte) : DWord :=
  l.foldl (fun c b => times (crcMsbBit w poly) 8 (c ^^^ ((b.zeroExtend 64 : DWord) <<< (w - 8)))) init

/-- The value of a preset over bytes (R509). -/
def cvValue (preset : Nat) (l : List Byte) : DWord :=
  match preset with
  | 0 => crcRef 0x82F63B78 0xFFFFFFFF l ^^^ 0xFFFFFFFF
  | 1 => crcRef 0xEDB88320 0xFFFFFFFF l ^^^ 0xFFFFFFFF
  | 2 => crcMsb 16 0x1021 0xFFFF l
  | 3 => crcMsb 8 0x07 0 l
  | _ => crcRef 0xC96C5795D7870F42 0xFFFFFFFFFFFFFFFF l ^^^ 0xFFFFFFFFFFFFFFFF

/-- The bytes that a job feeds (R511). -/
def cvFeed (j : CvJob) (l : List Byte) : List Byte :=
  let z := zeroAt l j.zOff j.zLen
  match j.fold with
  | 0 => z
  | 1 => foldWords (fun a => j.foldVal + a) 0 z
  | _ => foldWords (fun _ => j.foldVal) 0 z

/-! ### Units (R512-R515) -/

/-- A unit. -/
def cvUnit (s : State) (u : Nat) : CvUnit := tget {} s.cv.units u
/-- Change it. -/
def setCv (s : State) (u : Nat) (f : CvUnit → CvUnit) : State := { s with cv := { s.cv with units := tmod {} s.cv.units u f } }

/-- A result's 48 bytes (R515). -/
def cvBytes (x : CvRes) : List Byte :=
  leBytes 4 x.id ++ leBytes 1 x.unit_ ++ leBytes 1 x.status ++ leBytes 1 x.preset ++ leBytes 1 x.restarts ++ leBytes 8 x.value.toNat ++
    leBytes 4 x.bytes ++ leBytes 4 x.fault ++ leBytes 8 x.tStart ++ leBytes 8 x.tEnd ++ leBytes 4 x.mean ++ [0, 0, 0, 0]

/-- Keep a result among the unit's last 16 and answer the request of a host job (R515). -/
def cvEnd (s : State) (u : Nat) (j : CvJob) (x : CvRes) : State :=
  let s := setCv s u (fun d => { d with results := (d.results ++ [x]).drop (d.results.length + 1 - 16) })
  if j.own then s else finish s { mb := ⟨j.mb % 8, Nat.mod_lt _ (by decide)⟩, tag := bv 5 j.tag } 0x0810 false 0 (cvBytes x)

/-- CV_JOB_START (R513): a free unit in service takes its next job, the device's own jobs first. -/
def execCvJobStart (u : Fin 4) (s : State) : Res :=
  let d := cvUnit s u.val
  if d.running.isSome || !(tget {} s.islands (0x30 + u.val) : IslandSt).inService then .next s
  else match ((d.queue.filter (·.own)) ++ d.queue.filter (fun j => !j.own)) with
  | [] => .next s
  | j :: _ => .next (setCv s u.val (fun d => { d with running := some { j with began := s.t0 }, queue := d.queue.filter (fun x => x.id != j.id) }))

/-- Bytes over the run time in MB/s; the spec states no rounding (DESIGN CHOICE, log 11), and no value for a run of no measured length. -/
def cvMean (s : State) (bytes ns : Nat) : Nat × State :=
  if ns = 0 then let (v, s) := fresh s; (v.toNat % 2 ^ 32, s)
  else (bytes * 1000 / ns + (if bytes * 1000 % ns ≠ 0 ∧ Config.roundUp (bytes * 1000) ns = true then 1 else 0), s)

/-- CV_JOB_END (R511, R514, R515): the bytes as read, and a fault at an offset: 1 a double-bit ECC error, 2 a flash fault. -/
def execCvJobEnd (u : Fin 4) (data : List Byte) (fault : Fin 3) (off : Word) (s : State) : Res :=
  match (cvUnit s u.val).running with
  | none => .next s
  | some j =>
    if fault = 0 ∧ data.length ≠ j.len ∨ fault ≠ 0 ∧ j.len ≤ off.toNat then .next s
    else
      let bytes := if fault = 0 then j.len else off.toNat
      let (mean, s) := cvMean s bytes (s.t0 - j.began)
      let x : CvRes := { id := j.id, unit_ := u.val, status := if fault = 0 then 0 else if fault = 1 then 1 else 3, preset := j.preset, restarts := j.restarts
                         value := if fault = 0 then cvValue j.preset (cvFeed j data) else 0, bytes := bytes, fault := if fault = 0 then 0 else off.toNat
                         tStart := j.began, tEnd := s.t0, mean := mean }
      let s := if fault = 1 then (if j.space = 0 then report s 0x0401 (0x30 + u.val) 0 (j.start + off.toNat) else report s 0x0402 0x41 0 (j.start + off.toNat)) else s
      .next (cvEnd (setCv s u.val (fun d => { d with running := none })) u.val j x)

/-- IMAGE_RESCAN (R519): every scan period the staged images are checked again; a mismatch is recorded, and the next warm restart runs DEGRADED. -/
def execImageRescan (bad : Bool) (s : State) : Res :=
  if s.t0 < s.cv.scanAt + param s pCvImageScanPeriod 0 * sec ∨ s.mode.cur = .keep then .next s
  else
    let s := { s with cv := { s.cv with scanAt := s.t0 } }
    if bad && !s.deck.staged.isEmpty then .next (note (setDeck s (fun d => { d with crcBad := true })) Ev.imageCrcFail 0x30 0 0 []) else .next s

/-- Tj max of a die in °C: 0 the control die, 1 to 4 the tiles (R3). -/
def tjMax (die : Nat) : Int := if die = 0 then 105 else 125

/-- DIE_TEMP_MEASURE (R576): the junction temperature in m°C; coming within 5 °C of Tj max and exceeding it are recorded. -/
def execDieTempMeasure (die : Fin 5) (mc : Word) (s : State) : Res :=
  let t := mc.toInt
  let lim := tjMax die.val * 1000
  let lev := if lim < t then 2 else if lim - 5000 ≤ t then 1 else 0
  let old := tget 0 s.cv.dies die.val
  let isl := if die.val = 0 then 0x00 else 0x5F + die.val
  let s := { s with cv := { s.cv with dies := tset s.cv.dies die.val lev } }
  let s := if old < 1 ∧ 1 ≤ lev then note s Ev.dieTempHigh isl die.val 0 [mc.toNat] else s
  .next (if old < 2 ∧ lev = 2 then note s Ev.dieTempLimit isl die.val 0 [mc.toNat] else s)

/-! ### Commands (R510, R512, R515) -/

/-- A request's descriptor. -/
def cvJobOf (p : List Byte) : CvJob :=
  { id := 0, space := fld p 4 1, preset := fld p 5 1, fold := fld p 6 1, start := fld p 8 8, len := fld p 0x10 4, foldVal := fld p 0x14 4, zOff := fld p 0x18 4, zLen := fld p 0x1C 2 }

/-- The end of a job's space: the assigned DRAM regions follow each other from 0 (R34), the commons has 8 MiB (R37), the flash a size that the spec does not state (DESIGN CHOICE, log 39). -/
def cvLimit (s : State) (space : Nat) : Nat :=
  match space with
  | 0 => (384 + param s pThatchRegionMib 0 + param s pAcqRegionMib 0 + param s pSysImageRegionMib 0 + param s pSysStagingRegionMib 0) * 2 ^ 20
  | 1 => 8 * 2 ^ 20
  | _ => Config.flashBytes

/-- CV_SCAN (R512, R513): refused, or queued on the unit with the shortest queue. -/
def execCvScan (r : Req) (s : State) : Res :=
  let j := cvJobOf r.payload
  .next (command s r 0x0810 false allModes 32
    (r.target == 0 && fld r.payload 0 4 == 0 && decide (j.space ≤ 2 ∧ j.fold ≤ 2 ∧ 1 ≤ j.len ∧ j.len ≤ 0xFFFFFFFC ∧ j.zLen ≤ 8)) (fun s =>
    let folded := decide (j.fold ≠ 0) && !(j.start % 4 == 0 && j.len % 4 == 0 && j.zOff % 4 == 0 && j.zLen % 4 == 0)
    if fld r.payload 7 1 ≠ 0 ∨ fld r.payload 0x1E 2 ≠ 0 ∨ 5 ≤ j.preset ∨ folded = true then finish s r 0x0810 false 0x010A
    else if cvLimit s j.space < j.start + j.len then finish s r 0x0810 false 0x0406
    else
      let len (u : Nat) : Nat := (cvUnit s u).queue.length
      let u := [1, 2, 3].foldl (fun b u => if len u < len b then u else b) 0
      if 8 ≤ len u then finish s r 0x0810 false 0x0506
      else
        let id := s.cv.nextId
        let s := setCv s u (fun d => { d with queue := d.queue ++ [{ j with id := id, mb := r.mb.val, tag := r.tag.toNat }] })
        accepted { s with cv := { s.cv with nextId := (id + 1) % 2 ^ 32 } } r 0x0810 (leBytes 4 id)))

/-- CV_RESULT_GET (R515). -/
def execCvResultGet (r : Req) (s : State) : Res :=
  .next (command s r 0x0811 false allModes 4 (r.target == 0) (fun s =>
    let id := fld r.payload 0 4
    let us := s.cv.units.map (·.2)
    match (us.flatMap (·.results)).find? (fun x => x.id == id) with
    | some x => finish s r 0x0811 false 0 (cvBytes x)
    | none => if us.any (fun d => (d.queue ++ d.running.toList).any (fun j => j.id == id)) then finish s r 0x0811 false 1 else finish s r 0x0811 false 0x0405))

/-- CV_ABORT (R515): a queued or running host job ends with ABORTED_HOST; what it had fed, and when a queued one began, the spec does not state. -/
def execCvAbort (r : Req) (s : State) : Res :=
  .next (command s r 0x0812 true allModes 4 (r.target == 0) (fun s =>
    let id := fld r.payload 0 4
    match s.cv.units.find? (fun e => (e.2.queue ++ e.2.running.toList).any (fun j => j.id == id && !j.own)) with
    | none => finish s r 0x0812 true 0x0405
    | some e =>
      let run := e.2.running.any (fun j => j.id == id)
      match (e.2.queue ++ e.2.running.toList).find? (fun j => j.id == id) with
      | none => finish s r 0x0812 true 0x0405
      | some j =>
        let (a, s) := fresh s
        let (b, s) := fresh s
        let (m, s) := fresh s
        let x : CvRes := { id := id, unit_ := e.1, status := 2, preset := j.preset, restarts := j.restarts, bytes := if run then a.toNat % (j.len + 1) else 0
                           tStart := if run then j.began else b.toNat, tEnd := s.t0, mean := if run then m.toNat % 2 ^ 32 else 0 }
        let s := setCv s e.1 (fun d => { d with queue := d.queue.filter (fun y => y.id != id), running := if run then none else d.running })
        finish (cvEnd s e.1 j x) r 0x0812 true 0))

end Sys2Proof.Machine
end

