-- ==== Sys2Proof/Machine/Chopper.lean ====
section
/-! DEFINITION. The choppers of the tiles: fixed off time, hysteresis, coil faults, standstill current (R255-R268). -/

namespace Sys2Proof.Machine

/-- The states of a coil phase. -/
def phaseOf (s : State) (x : Nat) (b : Fin 2) : PhaseSt := if b.val = 0 then (axis s x).pa else (axis s x).pb
/-- Change a phase. -/
def setPhase (s : State) (x : Nat) (b : Fin 2) (f : PhaseSt → PhaseSt) : State :=
  setAxis s x (fun d => if b.val = 0 then { d with pa := f d.pa } else { d with pb := f d.pb })

/-- A sensed current is kept for the mean of the tick (R257). -/
def sense (s : State) (x : Nat) (b : Fin 2) (i : Int) : State :=
  setPhase s x b (fun p => { p with sensed := i, sum := p.sum + i, cnt := p.cnt + 1 })

/-- Microamperes as A, without sign. -/
def magA (i : Int) : Rat := (i.natAbs : Rat) / 1000000
/-- A phase's target in A, without sign (R258). -/
def targetA (s : State) (x : Nat) (p : PhaseSt) : Rat := (p.target.natAbs : Rat) / 1024 * iFs s x

/-- Pass to another bridge state through the dead time (R255). -/
def passTo (s : State) (st : Nat) (p : PhaseSt) : PhaseSt := { p with st := 4, next := st, since := s.t0, blank := false }

/-- Begin the off time: fast decay, or slow where FAST_FRAC is 0 (R259). -/
def beginOff (s : State) (x : Nat) (p : PhaseSt) : PhaseSt :=
  { passTo s (if param s pAxisFastFrac x = 0 ∧ (axis s x).chop = 1 then 3 else 2) p with offAt := s.t0 }

/-- CHOP_BLANK_END (R260, R263): blanking ends; in drive an overshoot is counted; a short is detected. -/
def execChopBlankEnd (ax : Fin 32) (b : Fin 2) (i : Int) (s : State) : Res :=
  let x := ax.val
  let p := phaseOf s x b
  if !p.blank ∨ (p.st ≠ 1 ∧ p.st ≠ 2) ∨ s.t0 < p.since + param s pAxisTBlank x then .next s
  else
    let run := paramRat s pAxisIRun x
    let short := decide (run * 3 / 2 < magA i ∨ iFs s x ≤ magA i)
    let high := decide (targetA s x p + run / 20 < magA i)
    .next (setPhase (sense s x b i) x b (fun p => { p with
      blank := false, flt := if short then 1 else p.flt
      overN := if p.st = 1 ∧ (axis s x).chop = 1 then (if high then p.overN + 1 else 0) else p.overN }))

/-- CHOP_CURRENT_REACHED (R259, R263): the sensed current reaches the target and the off time begins; 8 such cycles clear I_LOW. -/
def execChopCurrentReached (ax : Fin 32) (b : Fin 2) (i : Int) (s : State) : Res :=
  let x := ax.val
  let p := phaseOf s x b
  if p.st ≠ 1 ∨ p.blank ∨ (axis s x).chop ≠ 1 ∨ magA i < targetA s x p then .next s
  else
    let s := setPhase (sense s x b i) x b (fun p => { beginOff s x p with lowN := 0, openN := 0, reachN := p.reachN + 1 })
    let s := if 8 ≤ (phaseOf s x b).reachN then setPhase s x b (fun p => { p with low := false }) else s
    let clear := !(axis s x).pa.low && !(axis s x).pb.low && (axis s x).flags.testBit 13
    .next (if clear then modAxis s x (fun d => { d with flags := d.flags - 2 ^ 13, lowSince := none }) else s)

/-- CHOP_ON_MAX_TIMEOUT (R259, R263): T_ON_MAX has passed without the target; decay begins, and an open coil or I_LOW is counted. -/
def execChopOnMaxTimeout (ax : Fin 32) (b : Fin 2) (i : Int) (s : State) : Res :=
  let x := ax.val
  let p := phaseOf s x b
  if p.st ≠ 1 ∨ p.blank ∨ s.t0 < p.since + 100000 then .next s
  else
    let run := paramRat s pAxisIRun x
    let isOpen := decide (run / 5 < targetA s x p ∧ magA i < targetA s x p / 10)
    let s := setPhase (sense s x b i) x b (fun p => { beginOff s x p with
      openN := if isOpen then p.openN + 1 else 0, lowN := if isOpen then 0 else p.lowN + 1, reachN := 0 })
    let s := if 4 ≤ (phaseOf s x b).openN then setPhase s x b (fun p => { p with flt := 2 }) else s
    let s := if 8 ≤ (phaseOf s x b).lowN then setPhase s x b (fun p => { p with low := true }) else s
    let low := (phaseOf s x b).low && !(axis s x).flags.testBit 13
    .next (if low then modAxis s x (fun d => { d with flags := d.flags + 2 ^ 13, lowSince := some s.t0 }) else s)

/-- CHOP_FAST_DECAY_END (R259): the fast part of T_OFF ends. -/
def execChopFastDecayEnd (ax : Fin 32) (b : Fin 2) (s : State) : Res :=
  let x := ax.val
  let p := phaseOf s x b
  if p.st ≠ 2 ∨ (axis s x).chop ≠ 1 ∨ s.t0 < p.offAt + param s pAxisTOff x * param s pAxisFastFrac x / 100 then .next s
  else .next (setPhase s x b (passTo s 3))

/-- CHOP_OFF_END (R259): T_OFF ends and the phase drives again; a target of code 0 holds slow decay (R258). -/
def execChopOffEnd (ax : Fin 32) (b : Fin 2) (s : State) : Res :=
  let x := ax.val
  let p := phaseOf s x b
  if (p.st ≠ 3 ∧ p.st ≠ 2) ∨ (axis s x).chop ≠ 1 ∨ p.target = 0 ∨ s.t0 < p.offAt + param s pAxisTOff x then .next s
  else .next (setPhase s x b (passTo s 1))

/-- CHOP_DEAD_TIME_END (R255): the new bridge state is driven, with blanking after drive and fast decay (R260). -/
def execChopDeadTimeEnd (ax : Fin 32) (b : Fin 2) (s : State) : Res :=
  let x := ax.val
  let p := phaseOf s x b
  if p.st ≠ 4 ∨ s.t0 < p.since + param s pAxisDeadTime x then .next s
  else .next (setPhase s x b (fun p => { p with
    st := p.next, since := s.t0, blank := decide (p.next = 1 ∨ p.next = 2), neg := if p.next = 1 then decide (p.target < 0) else p.neg }))

/-- Half the hysteresis width in A (R261). -/
def halfH (s : State) (x : Nat) : Rat := paramRat s pAxisHystWidth x * paramRat s pAxisIRun x / 200

/-- HYST_THRESHOLD (R261): in HYSTERESIS the phase switches between drive and fast decay at its thresholds, each state lasting T_BLANK at least. -/
def execHystThreshold (ax : Fin 32) (b : Fin 2) (i : Int) (s : State) : Res :=
  let x := ax.val
  let p := phaseOf s x b
  let y : Rat := (if p.target < 0 then -(i : Rat) else (i : Rat)) / 1000000
  let c := targetA s x p + p.theta
  if (axis s x).chop ≠ 2 ∨ p.blank ∨ p.target = 0 then .next s
  else if p.st = 1 ∧ c + halfH s x ≤ y then .next (setPhase (sense s x b i) x b (passTo s 2))
  else if p.st = 2 ∧ y ≤ c - halfH s x then .next (setPhase (sense s x b i) x b (passTo s 1))
  else .next s

/-- HYST_QUARTER_ADAPT (R261): at a completed quarter θ follows half the mean of sensed minus target (µA), limited to ±H/2; a change is recorded. -/
def execHystQuarterAdapt (ax : Fin 32) (b : Fin 2) (mean : Int) (s : State) : Res :=
  let x := ax.val
  let p := phaseOf s x b
  if (axis s x).chop ≠ 2 ∨ p.quarters = 0 then .next s
  else
    let h := halfH s x
    let t := p.theta - (mean : Rat) / 2000000
    let t := if h < t then h else if t < -h then -h else t
    let s' := setPhase s x b (fun p => { p with theta := t, quarters := 0 })
    .next (if t = p.theta then s' else note s' Ev.chopAdapt (0x60 + x / 8) (2 * x + b.val) 0 [f32OfRat t])

/-- CHOP_FALLBACK (R262): 16 consecutive overshoots of a phase switch an AUTO axis to HYSTERESIS. -/
def execChopFallback (ax : Fin 32) (s : State) : Res :=
  let x := ax.val
  let d := axis s x
  if param s pAxisChopMode x ≠ 0 ∨ d.chop ≠ 1 ∨ (d.pa.overN < 16 ∧ d.pb.overN < 16) then .next s
  else
    let s := modAxis s x (fun d => { d with
      chop := 2, fbVel := if d.vel < 0 then -d.vel else d.vel, slowSince := none
      pa := { d.pa with theta := 0, overN := 0, quarters := 0 }, pb := { d.pb with theta := 0, overN := 0, quarters := 0 } })
    .next (note s Ev.chopFallback (0x60 + x / 8) x 0 [f32OfRat d.vel, d.phi])

/-- CHOP_RETURN (R262): an AUTO axis returns to FIXED_OFF at rest, or after 100 ms below half the velocity of its fall-back. -/
def execChopReturn (ax : Fin 32) (s : State) : Res :=
  let x := ax.val
  let d := axis s x
  let slow := match d.slowSince with | some t => decide (t + 100 * ms ≤ s.t0) | none => false
  if param s pAxisChopMode x = 0 ∧ d.chop = 2 ∧ (d.atRest || slow) then
    let s := modAxis s x (fun d => { d with chop := 1, slowSince := none, pa := { d.pa with overN := 0 }, pb := { d.pb with overN := 0 } })
    .next (note s Ev.chopFallback (0x60 + x / 8) x 0 [f32OfRat d.vel, d.phi])
  else .next s

/-- COIL_FAULT (R263, R268): a detected short or open coil switches both phases off, discards the buffer and the reference; the axis coasts. -/
def execCoilFault (ax : Fin 32) (s : State) : Res :=
  let x := ax.val
  let d := axis s x
  if (d.pa.flt = 0 ∧ d.pb.flt = 0) ∨ d.drv = 5 then .next s
  else
    let bit (f k : Nat) : Nat := if f = 1 then 2 ^ (9 + k) else if f = 2 then 2 ^ (11 + k) else 0
    let fl := bit d.pa.flt 0 + bit d.pb.flt 1
    let s := modAxis s x (fun d => { d with
      drv := 5, flags := fl + (if d.flags.testBit 13 then 2 ^ 13 else 0), buf := [], cur := none, stop := none, locked := true, atRest := true
      vel := 0, ramp := none, cur_ := 0, pa := {}, pb := {}, referenced := false })
    .next (keepCommit (note s Ev.coilFault (0x60 + x / 8) x 0 [fl]) x)

/-- I_LOW_TIMEOUT (R263): I_LOW for more than 10 ms in motion clears the reference. -/
def execILowTimeout (ax : Fin 32) (s : State) : Res :=
  let x := ax.val
  match (axis s x).lowSince with
  | none => .next s
  | some t =>
    if (axis s x).atRest ∨ !(axis s x).referenced ∨ s.t0 ≤ t + 10 * ms then .next s
    else .next (keepCommit (modAxis s x (fun d => { d with referenced := false })) x)

/-- HOLD_DELAY_EXPIRY (R265): after HOLD_DELAY at rest the current ramps to I_HOLD. -/
def execHoldDelayExpiry (ax : Fin 32) (s : State) : Res :=
  let x := ax.val
  let d := axis s x
  if d.drv ≠ 2 ∨ !d.atRest ∨ d.ramp.isSome ∨ s.t0 < d.restAt + param s pAxisHoldDelay x * ms then .next s
  else .next (modAxis s x (fun d => { d with ramp := some (magNow s x, iHold s x, s.t0, param s pAxisHoldRamp x * ms) }))

/-- CURRENT_RAMP_END (R265, R266): a ramp completes: to hold, or to power off with the keep record. -/
def execCurrentRampEnd (ax : Fin 32) (s : State) : Res :=
  let x := ax.val
  match (axis s x).ramp with
  | none => .next s
  | some (_, b, t, n) =>
    if s.t0 < t + n then .next s
    else if (axis s x).drv = 4 then .next (driverOff s x)
    else .next (modAxis s x (fun d => { d with ramp := none, cur_ := b, drv := if d.atRest then 3 else 2 }))

end Sys2Proof.Machine
end

