-- ==== Sys2Proof/Machine/Sched.lean ====
section
/-! DEFINITION. The scheduler's rows: strobes, releases, triggers, deadlines, placement (R94-R112). -/

namespace Sys2Proof.Machine

/-- Whether T0 `t` is an instant for which a sample strobe is sent: a release of a listed CYCLIC or STREAM task or of a loop, a motion tick, or the 1 ms base grid (R98, R227). -/
def strobeInstant (s : State) (t : Nat) : Bool :=
  t % us == 0 && (t / us % 100 == 0 ||
    s.sched.tasks.any (fun e => e.2.present && e.2.kind != 1 && isRelease (t / us) (param s pTaskPeriod e.1) (param s pTaskPhase e.1)) ||
    s.loops.any (fun e => e.2.present && isRelease (t / us) (param s pLoopPeriod e.1) (param s pLoopPhase e.1)))

/-- SAMPLE_STROBE_SEND (R98): the strobe for an instant goes out 20 to 10 µs ahead of it. -/
def execSampleStrobeSend (node_ : Fin 7) (at_ : Nat) (s : State) : Res :=
  if s.mode.cur = .keep ∨ s.mode.cur = .boot ∨ at_ < s.t0 + 10 * us ∨ s.t0 + 20 * us < at_ ∨ !strobeInstant s at_ then .next s
  else .next { s with sched := { s.sched with
    strobesOut := s.sched.strobesOut ++ [(node_.val, { due := at_ })], strobesSent := s.sched.strobesSent + 1 } }

/-- A release instant that falls while the previous release runs is skipped; MAX_SKIP in a row abort the running release (R107). The status describes the skipped release (R111). -/
def skipRel (s : State) (i : Nat) : State :=
  let n := (task s i).skipRun + 1
  let s := setTask s i (fun d => { d with skipped := (d.skipped + 1) % 2 ^ 32, skipRun := n, status := d.status / 64 * 64 + 8 })
  if n < param s pTaskMaxSkip i then taskPoints s i
  else
    let c := homeOf s i
    let s := setTask s i (fun d => { d with aborted := (d.aborted + 1) % 2 ^ 32, skipRun := 0, status := d.status ||| 32 })
    let e := engine s c
    let s := if e.running.any (fun r => r.task == i) then endRelease s c true
      else taskPoints (setEngine s c (fun e => { e with preempted := if e.preempted.any (fun r => r.task == i) then none else e.preempted })) i
    note s Ev.taskAborted 0x42 i 0 [s.t0]

/-- Release a task at `t`, or skip when its previous release still runs (R95, R107). -/
def releaseTask (s : State) (i t : Nat) : State :=
  match relOf s i with
  | some _ => skipRel s i
  | none => queueRel s i t

/-- TASK_RELEASE (R95): a CYCLIC or STREAM task releases at its instant while it is enabled and its mode allows programs. -/
def execTaskRelease (task_ : BitVec 10) (s : State) : Res :=
  let i := task_.toNat
  if (task s i).present && !(task s i).stopped && (task s i).kind != 1 && flag s pTaskEnable i && programsRun s i && s.t0 % us == 0 &&
      isRelease (s.t0 / us) (param s pTaskPeriod i) (param s pTaskPhase i) then .next (releaseTask s i s.t0)
  else .next s

/-- A trigger of task `i` at instant `t` releases it, or is held, or is merged into the held one (R96, R97). -/
def takeTrig (s : State) (i t : Nat) : State :=
  let d := task s i
  if !(d.present && !d.stopped && d.kind == 1 && flag s pTaskEnable i && programsRun s i) then s
  else if d.heldTrig then taskPoints (setTask s i (fun d => { d with merged := (d.merged + 1) % 2 ^ 32 })) i
  else match d.lastRel with
    | some l => if t < l + periodNs s i then setTask s i (fun d => { d with heldTrig := true }) else releaseTask s i t
    | none => releaseTask s i t

/-- EVENT_TASK_TRIGGER (R96, R97): the oldest trigger whose instant has come acts; a paired active forwards it, and a standby takes forwarded triggers only (R477). -/
def execEventTaskTrigger (s : State) : Res :=
  match s.sched.trigs.find? (fun e => decide (e.2 ≤ s.t0)) with
  | none => .next s
  | some (i, t) =>
    let s := { s with sched := { s.sched with trigs := s.sched.trigs.erase (i, t) } }
    if s.mode.cur = .standby then .next s else .next (takeTrig (forward s 1 [i, t]) i t)

/-- HELD_TRIGGER_RELEASE (R97): the held trigger releases at the previous release plus PERIOD_US. -/
def execHeldTriggerRelease (task_ : BitVec 10) (s : State) : Res :=
  let i := task_.toNat
  match (task s i).lastRel with
  | some l =>
    if (task s i).heldTrig && decide (l + periodNs s i ≤ s.t0) then
      .next (releaseTask (setTask s i (fun d => { d with heldTrig := false })) i (l + periodNs s i))
    else .next s
  | none => .next s

/-- ENGINE_ASK_WORK (R100): the engine takes the first prefetched release, or waits without executing. -/
def execEngineAskWork (ce : Fin 16) (s : State) : Res :=
  if (engine s ce).running.isSome then .next s
  else .next (dispatch (setEngine s ce (fun e => { e with waiting := true })) ce)

/-- Change the release of a task wherever it stands on its engine. -/
def mapRel (s : State) (i : Nat) (f : Release → Release) : State :=
  let g (r : Release) : Release := if r.task = i then f r else r
  setEngine s (homeOf s i) (fun e => { e with queue := e.queue.map g, running := e.running.map g, preempted := e.preempted.map g })

/-- TASK_DEADLINE (R105, R106): at t + P - 20 µs a release that has not begun is missed, one that has not ended overruns. -/
def execTaskDeadline (task_ : BitVec 10) (s : State) : Res :=
  let i := task_.toNat
  match relOf s i with
  | none => .next s
  | some r =>
    if s.t0 + 20 * us < r.due + periodNs s i ∨ r.overrun then .next s
    else if r.began.isNone then
      let s := depthPoint (setEngine s (homeOf s i) (fun e => { e with queue := slotTrim (e.queue.filter (fun x => x.task != i)) })) (homeOf s i)
      let s := setTask s i (fun d => { d with missed := (d.missed + 1) % 2 ^ 32, status := d.status ||| 16 })
      .next (note (taskPoints s i) Ev.taskMissed 0x42 i 0 [r.due])
    else
      let id := s.sched.nextSet
      let s := mapRel { s with sched := { s.sched with nextSet := id + 1 } } i (fun r => { r with overrun := true, setId := some id })
      let s := setTask s i (fun d => { d with overruns := (d.overruns + 1) % 2 ^ 32, status := d.status ||| 4 })
      .next (note (taskPoints s i) Ev.taskOverrun 0x42 i 0 [r.due, (r.execNs + (s.t0 - r.resumedAt)) / 10])

/-- APPLY_STROBE_SEND (R103): the apply strobe of a release that has overrun goes out alone. -/
def execApplyStrobeSend (task_ : BitVec 10) (s : State) : Res :=
  let i := task_.toNat
  match relOf s i with
  | none => .next s
  | some r =>
    match r.setId with
    | some id =>
      if r.strobed then .next s
      else .next (sendApply (mapRel s i (fun r => { r with strobed := true })) (writerNodes s i) id (r.due + periodNs s i))
    | none => .next s

/-- The moves the window's busy fractions allow (R109): program and engine. -/
def moveChoices (s : State) : List (Nat × Nat) :=
  s.sched.home.flatMap (fun h =>
    let ts := s.sched.tasks.filter (fun e => e.2.present && e.2.prog == h.1)
    ((List.range 16).filter (fun c => c != h.2 && !ts.isEmpty &&
      ts.all (fun e => (param s pTaskAffinity e.1).testBit c) &&
      decide ((engine s h.2).busy > (engine s c).busy + 100 * param s pSysPlaceMargin 0) &&
      (let place := fun p => if p = h.1 then c else tget 0 s.sched.home p
       feasible s place c && feasible s place h.2))).map (fun c => (h.1, c)))

/-- Mark the tasks of a program MIGRATING, or no longer so (R111; DEDUCED, log 130). -/
def markMove (s : State) (prog : Nat) (on : Bool) : State :=
  (s.sched.tasks.filter (fun e => e.2.present && e.2.prog == prog)).foldl (fun s e =>
    taskPoints (setTask s e.1 (fun d => { d with status := d.status % 64 + (if on then 64 else 0) })) e.1) s

/-- The proven load of an engine in units of 0.01 % (R104, R112), rounded down (DESIGN CHOICE, log 131). -/
def provenLoad (s : State) (c : Nat) : Nat :=
  let f := (feasTasks s (fun p => tget 0 s.sched.home p) c).foldl (fun (a : Nat × Nat) t => (a.1 * t.period + t.cost * a.2, a.2 * t.period)) (0, 1)
  f.1 * 10000 / max 1 f.2

/-- Publish the engine and scheduler points at the end of a 1 s window and begin the next one (R112). -/
def windowPoints (s : State) : State :=
  let s := (List.range 16).foldl (fun s c =>
    let e := engine s c
    let s := updates s s.t0 [(engPt c 1, bv 32 e.busy, 0), (engPt c 3, bv 32 (max e.depthMax e.queue.length), 0), (engPt c 4, bv 32 (provenLoad s c), 0)]
    setEngine s c (fun e => { e with depthMax := e.queue.length })) s
  let s := updates s s.t0 [(ptid 0x17 0x4100, bv 32 s.sched.relsWin, 0), (ptid 0x17 0x4101, bv 32 (s.sched.strobesSent - s.sched.strobesMark), 0),
    (ptid 0x17 0x4102, bv 32 s.sched.pendMax, 0)]
  { s with sched := { s.sched with relsWin := 0, strobesMark := s.sched.strobesSent, pendMax := (List.range 7).foldl (fun m n => max m (node s n).strobes.length) 0 } }

/-- PLACEMENT_WINDOW (R109): the window's busy fractions (units of 0.01 %) are taken and the window's points published, and one move may be decided; which one among several is open (DESIGN CHOICE, log 10). -/
def execPlacementWindow (busy : List Nat) (s : State) : Res :=
  let s := windowPoints ((List.range 16).foldl (fun s c => setEngine s c (fun e => { e with busy := (busy[c]?).getD 0 })) s)
  if !flag s pSysPlaceAdapt 0 ∨ s.sched.move.isSome ∨ s.sched.lastMove.any (fun t => decide (s.t0 < t + 100 * ms)) then .next s
  else match moveChoices s with
    | [] => .next s
    | x :: r =>
      let (v, s) := fresh s
      let c := ((x :: r)[v.toNat % (r.length + 1)]?).getD x
      .next (markMove { s with sched := { s.sched with move := some ⟨c.1, c.2, s.t0⟩, lastMove := some s.t0 } } c.1 true)

/-- The next release instant of a task after `t`; none for an event task without a held trigger. -/
def nextRelease (s : State) (i t : Nat) : Option Nat :=
  let d := task s i
  if d.kind = 1 then (if d.heldTrig then d.lastRel.map (· + periodNs s i) else none)
  else
    let p := max 1 (param s pTaskPeriod i)
    let ph := param s pTaskPhase i
    let n := (t / us + p - ph % p) / p
    some ((n * p + ph % p) * us)

/-- PROGRAM_MOVE (R110): in a gap of 22 µs + 0.4 µs per KiB in which no task of the program is running or queued, the program moves to its new engine. -/
def execProgramMove (s : State) : Res :=
  match s.sched.move with
  | none => .next s
  | some m =>
    let ts := s.sched.tasks.filter (fun e => e.2.present && e.2.prog == m.prog)
    let need := 22 * us + 400 * tget 0 s.sched.progKib m.prog
    if s.sched.exch.any (fun x => x.slot == m.prog) then .next s
    else if ts.any (fun e => (relOf s e.1).isSome || (nextRelease s e.1 s.t0).any (fun t => decide (t < s.t0 + need))) then .next s
    else
      let src := tget 0 s.sched.home m.prog
      let b0 := (engine s src).busy
      let b1 := (engine s m.dst).busy
      let s := { s with sched := { s.sched with home := tset s.sched.home m.prog m.dst, move := none } }
      let s := setEngine s src (fun e => { e with movedOut := (e.movedOut + 1) % 2 ^ 32 })
      let g := prog s m.prog
      let bytes := mreads (engine s src).mem g.base g.len
      let s := setEngine s m.dst (fun e => { e with movedIn := (e.movedIn + 1) % 2 ^ 32, mem := mwrites e.mem g.base bytes })
      let s := updates s s.t0 [(engPt src 6, bv 32 (engine s src).movedOut, 0), (engPt m.dst 5, bv 32 (engine s m.dst).movedIn, 0)]
      .next (note (markMove s m.prog false) Ev.taskMigrate 0x42 m.prog 0 [src, m.dst, b0, b1])

/-- PROGRAM_MOVE_ABANDON (R110): no sufficient gap within 1 s. -/
def execProgramMoveAbandon (s : State) : Res :=
  match s.sched.move with
  | none => .next s
  | some m =>
    if s.t0 < m.decided + sec then .next s
    else
      let src := tget 0 s.sched.home m.prog
      .next (note (markMove { s with sched := { s.sched with move := none } } m.prog false) Ev.taskMigrate 0x42 m.prog 1 [src, m.dst, (engine s src).busy, (engine s m.dst).busy])

end Sys2Proof.Machine
end

