-- ==== Sys2Proof/Machine/Exchange.lean ====
section
/-! DEFINITION. On-line program exchange (R149-R161). -/

namespace Sys2Proof.Machine

/-- The tasks of a program. -/
def progTasks (s : State) (k : Nat) : List Nat := (s.sched.tasks.filter (fun e => e.2.present && e.2.prog == k)).map (·.1)
/-- The swap time Tq in ns (R150). -/
def swapNs (g : ProgImg) : Nat := 30 * us + 400 * g.kib + 20 * g.insts.length

/-- The new code and data fit the home engine's memories beside its other programs: the code words of all, the new data area inside the 64 KiB and apart from theirs (R37, R149). -/
def exchFits (s : State) (k : Nat) (g : ProgImg) : Bool :=
  let others := (s.sched.progs.filter (fun e => e.1 != k && tget 0 s.sched.home e.1 == tget 0 s.sched.home k)).map (·.2)
  decide (others.foldl (fun a e => a + e.words) g.words ≤ 32768) && decide (g.base + g.len ≤ 65536) &&
    others.all (fun e => decide (g.base + g.len ≤ e.base ∨ e.base + e.len ≤ g.base))

/-- The checks of R149 on an image for a slot: 0 or the refusal's status. -/
def exchCheck (s : State) (k : Nat) (g : ProgImg) : Nat :=
  let ts := progTasks s k
  let new := g.tasks.map (·.1)
  let c := tget 0 s.sched.home k
  let budgets := g.tasks.foldl (fun f e => tset f (pkey 0 (pid pTaskBudget e.1)) (bv 64 e.2.2)) s.params.force
  if !(ts.all new.contains && new.all ts.contains) then 0x0107
  else if !g.writes.all (fun p => match tfind s.img.writers p with | some w => ts.contains w | none => false) then 0x0107
  else if !g.mems.all (populated s) then 0x0107
  else if param s pPocketRetainArea 0 < (s.sched.progs.filter (fun e => e.1 != k)).foldl (fun a e => a + retainSize e.2) 0 + retainSize g ∨ 872 < retainSize g then 0x0301
  else if !exchFits s k g ∨
      !feasible { s with params := { s.params with force := budgets } } (fun p => tget 0 s.sched.home p) c then 0x0303
  else 0

/-- Begin an exchange: ACCEPTED, and M11 at E (R149). -/
def beginExch (s : State) (r : Req) (op k : Nat) (revert : Bool) (b : List Byte) : State :=
  let s := accepted s r op
  let p := pendMode s .update 5
  let x : ExchSt := { slot := k, mb := r.mb.val, tag := r.tag.toNat, revert := revert, img := { Config.progImg b with gen := hdrGen b }
                      bytes := b, newGen := hdrGen b, entry := p.2 }
  { p.1 with sched := { p.1.sched with exch := some x } }

/-- PROG_EXCHANGE (R149). -/
def execProgExchange (r : Req) (s : State) : Res :=
  let k := fld r.payload 0 2
  .next (command s r 0x0301 true [.idle, .run, .hold] 4 (noTarget r && fld r.payload 2 2 == 0) (fun s =>
    if s.sched.exch.isSome ∨ s.fw.swapAt.isSome then finish s r 0x0301 true 0x0503
    else if s.mode.pend.isSome then finish s r 0x0301 true 0x0501
    else if !dwellOk s then finish s r 0x0301 true 0x050C
    else match tfind s.deck.staged (imgKey 3 k) with
    | none => finish s r 0x0301 true 0x0108
    | some b =>
      let st := imageCheck s 3 k 0 0
      let st := if st ≠ 0 then st else exchCheck s k { Config.progImg b with gen := hdrGen b }
      if st ≠ 0 then finish s r 0x0301 true st else beginExch s r 0x0301 k false b))

/-- PROG_REVERT (R160): the kept image takes the new one's role; its generation is not checked. -/
def execProgRevert (r : Req) (s : State) : Res :=
  let k := fld r.payload 0 2
  .next (command s r 0x0302 true [.idle, .run, .hold] 4 (noTarget r && fld r.payload 2 2 == 0) (fun s =>
    match tfind s.deck.kept (imgKey 3 k) with
    | none => finish s r 0x0302 true 0x0204
    | some i =>
      if s.sched.exch.isSome ∨ s.fw.swapAt.isSome then finish s r 0x0302 true 0x0503
      else if s.mode.pend.isSome then finish s r 0x0302 true 0x0501
      else if !dwellOk s then finish s r 0x0302 true 0x050C
      else beginExch s r 0x0302 k true i.bytes))

/-! ### The swap (R150, R155-R158) -/

/-- An instance record's ID and TYPE. -/
def instId (m : Mem) (a : Nat) : Nat := leVal (mreads m (a + 2) 2)

/-- Merge one instance of the new image at `a` with the old one at `o`, of equal TYPE (R155). -/
def mergeInst (old new : Mem) (a o : Nat) : Mem :=
  let ty := (mread new a).toNat % 128
  let m := mwrite new (a + 1) (mread old (o + 1))
  if ty < 0x10 then mwrites (mwrites m (a + 8) (mreads old (o + 8) 4)) (a + 16) (mreads old (o + 16) 8)
  else if ty < 0x20 then mwrites m (a + 8) (mreads old (o + 8) 4) else m

/-- A new instance: all but TON and TOF take SEED (R155, R156). -/
def seedInst (m : Mem) (a : Nat) : Mem :=
  let ty := (mread m a).toNat % 128
  if ty = 1 ∨ ty = 2 then m else mwrite m (a + 1) (mread m (a + 1) ||| 0x40)

/-- The old instance with the ID of the new one at `a`. -/
def oldInst (old new : Mem) (l : List Nat) (a : Nat) : Option Nat := l.find? (fun o => instId old o == instId new a)
/-- Whether two instances have equal TYPE bytes. -/
def sameType (old new : Mem) (a o : Nat) : Bool := mread new a == mread old o

/-- The new data memory: initial data, instances, carried variables and retained variables (R155, R158). -/
def mergeData (old : Mem) (g0 g1 : ProgImg) : Mem :=
  let m := mwrites old g0.base (List.replicate g0.len 0)
  let init := g1.data.foldl (fun m d => mwrite m d.1 d.2) m
  let m := g1.insts.foldl (fun m a =>
    match oldInst old init g0.insts a with
    | some o => if sameType old init a o then mergeInst old m a o else seedInst m a
    | none => seedInst m a) init
  let m := g1.map.foldl (fun m e => mwrites m e.2.1 (mreads old e.1 e.2.2)) m
  let vals := g0.retain.map (retRead old)
  (g1.retain.filter (fun i => decide (i.ty ≤ 1))).foldl (fun m i => match vals.find? (retMatch init i) with | some v => retWrite m i.addr v | none => m) m

/-- The report's counts (R159). -/
def exchCounts (s : State) (x : ExchSt) (q : Nat) (old new : Mem) (g0 : ProgImg) : ExchRep :=
  let g1 := x.img
  let same := g1.insts.filter (fun a => (oldInst old new g0.insts a).any (fun o => sameType old new a o))
  let retyped := g1.insts.filter (fun a => (oldInst old new g0.insts a).any (fun o => !sameType old new a o))
  let fresh_ := g1.insts.filter (fun a => (oldInst old new g0.insts a).isNone)
  let gone := (g0.insts.filter (fun o => !(g1.insts.any (fun a => instId new a == instId old o)))).map (instId old)
  let hits := (g1.retain.filter (fun i => g0.retain.any (fun j => j.id == i.id && j.ty == i.ty))).length
  { slot := x.slot, status := 0, oldGen := g0.gen, newGen := x.newGen, quiet := q, waitUs := (s.t0 - x.entry) / us, tq := swapNs g1
    matched := same.length, retyped := retyped.length, new := fresh_.length, carried := g1.map.length, inits := g1.vars - g1.map.length
    retMatched := hits, retDiscarded := g0.retain.length - hits
    flags := (if 1024 < gone.length then 1 else 0) + (if x.revert then 2 else 0), removed := gone }

/-- The quiet point whose swap begins now (R150). -/
def quietNow (s : State) (x : ExchSt) : Option Nat :=
  let ts := progTasks s x.slot
  let q := s.t0 + swapNs x.img
  let next := ts.filterMap (fun i => nextRelease s i (s.t0 - 1))
  if x.entry ≤ s.t0 ∧ next.contains q ∧ !next.any (fun t => decide (t < q)) ∧ !ts.any (fun i => (relOf s i).isSome) then some q else none

/-- The data memory after the swap (R155-R158). -/
def swapMem (s : State) (x : ExchSt) : Mem := mergeData (engine s (tget 0 s.sched.home x.slot)).mem (prog s x.slot) x.img

/-- The swap of a program at quiet point `q` (R150, R155-R161): a reverted or replaced image is kept no longer. -/
def exchSwap (s : State) (x : ExchSt) (q : Nat) : State :=
  let c := tget 0 s.sched.home x.slot
  let new := swapMem s x
  let k := imgKey 3 x.slot
  let was := tget {} s.deck.loaded k
  let s := setEngine s c (fun e => { e with mem := new })
  let s := x.img.tasks.foldl (fun s e => setTask s e.1 (fun d => { d with entry := e.2.1 })) s
  let put (t : Tbl DWord) : Tbl DWord := x.img.tasks.foldl (fun f e => tset f (pkey 0 (pid pTaskBudget e.1)) (bv 64 e.2.2)) t
  let copy : RetCopy := { gen := x.newGen, at_ := q / us, items := x.img.retain.map (retRead new) }
  let s := { s with
    params := { s.params with working := put s.params.working, force := put s.params.force }
    sched := { s.sched with
      progs := tset s.sched.progs x.slot x.img, progKib := tset s.sched.progKib x.slot x.img.kib
      staging := if x.img.retain.isEmpty then tdel s.sched.staging x.slot else tset s.sched.staging x.slot copy
      exch := some { x with swapped := some q, ended := some q } } }
  setDeck s (fun d => { d with
    loaded := tset d.loaded k { gen := x.newGen, deckGen := fld x.bytes 0x14 4, bytes := x.bytes }
    kept := if x.revert then tdel d.kept k else tset d.kept k was })

/-- EXCHANGE_SWAP (R150, R154): at q - Tq of a quiet point the new program takes over; a paired active tells its standby q and the image. -/
def execExchangeSwap (s : State) : Res :=
  match s.twin.exchAt, s.twin.exch with
  | some q, some x =>
    -- a standby makes the forwarded swap when no release of the program before q is left (R154)
    if (progTasks s x.slot).any (fun i => match relOf s i with | some r => decide (r.due < q) | none => false) then
      .next (if q ≤ s.t0 + swapNs x.img ∧ x.entry ≠ 1 then note { s with twin := { s.twin with exch := some { x with entry := 1 } } } Ev.exchTwinLate 0x4B x.slot 0 [q] else s)
    else if s.t0 + swapNs x.img < q ∧ (progTasks s x.slot).any (fun i => (nextRelease s i s.t0).any (fun t => decide (t < q))) then .next s
    else
      let s := exchSwap { s with twin := { s.twin with exchAt := none, exch := none } } x q
      .next (dispatch { s with sched := { s.sched with exch := none } } (tget 0 s.sched.home x.slot))
  | _, _ =>
  match s.sched.exch with
  | none => .next s
  | some x =>
    if x.swapped.isSome ∨ x.ended.isSome ∨ s.mode.cur ≠ .update then .next s
    else match quietNow s x with
    | none => .next s
    | some q =>
      let rep := exchCounts s x q (engine s (tget 0 s.sched.home x.slot)).mem (swapMem s x) (prog s x.slot)
      .next (exchReport (exchSwap (forward s 8 [x.slot, q] x.bytes) x q) x rep)

/-- EXCH_NO_QUIET (R151): no quiet point can come within ten of the longest periods of E. -/
def execExchNoQuiet (s : State) : Res :=
  match s.sched.exch with
  | none => .next s
  | some x =>
    let p := (progTasks s x.slot).foldl (fun a i => max a (periodNs s i)) 0
    if x.ended.isSome ∨ s.t0 + swapNs x.img ≤ x.entry + 10 * p then .next s
    else
      let s1 := { s with sched := { s.sched with exch := some { x with ended := some s.t0 } } }
      .next (exchReport s1 x { slot := x.slot, status := 0x0502, oldGen := (prog s x.slot).gen, newGen := x.newGen, tq := swapNs x.img, flags := if x.revert then 2 else 0 })

/-- EXCHANGE_RETURN (R152): the device returns to the mode of origin, which counts as a mode entry. -/
def execExchangeReturn (s : State) : Res :=
  match s.sched.exch with
  | none => .next s
  | some x =>
    match x.ended with
    | none => .next s
    | some t =>
      let e := wholeMs t (500 * us)
      if s.t0 < e ∨ s.mode.cur ≠ .update then .next s
      else .next (enterMode { s with sched := { s.sched with exch := none } } s.mode.origin 6 e)

/-- The bytes of a report (R159). -/
def reportBytes (r : ExchRep) : List Byte :=
  let l := r.removed.take 1024
  leBytes 2 r.slot ++ leBytes 2 r.status ++ leBytes 2 r.oldGen ++ leBytes 2 r.newGen ++ leBytes 8 r.quiet ++ leBytes 4 r.waitUs ++ leBytes 4 r.tq ++
    leBytes 2 r.matched ++ leBytes 2 r.retyped ++ leBytes 2 r.new ++ leBytes 2 r.removed.length ++ leBytes 2 r.carried ++ leBytes 2 r.inits ++
    leBytes 2 r.retMatched ++ leBytes 2 r.retDiscarded ++ leBytes 2 r.flags ++ leBytes 2 l.length ++ l.flatMap (leBytes 2)

/-- EXCH_REPORT_GET (R159). -/
def execExchReportGet (r : Req) (s : State) : Res :=
  .next (command s r 0x0303 false allModes 4 (noTarget r && fld r.payload 2 2 == 0) (fun s =>
    match tfind s.sched.reports (fld r.payload 0 2) with
    | none => finish s r 0x0303 false 0x0405
    | some x => finish s r 0x0303 false 0 (reportBytes x)))

end Sys2Proof.Machine
end

