-- ==== Sys2Proof/Machine/HostWin.lean ====
section
/-! DEFINITION. The host window: registers, rings, frames, responses, interrupts and the host heartbeat (R9, R520-R541). -/

namespace Sys2Proof.Machine

/-! ### Commands that exist (R542, R546-R556) -/

/-- Every opcode, and whether its command is a change (C). -/
def opTable : List (Nat × Bool) :=
  [(0x0001, false), (0x0002, true), (0x0003, true), (0x0004, true), (0x0005, false),
   (0x0101, false), (0x0102, true), (0x0103, true), (0x0104, false), (0x0105, false), (0x0106, true), (0x0107, true), (0x0108, true), (0x0109, true), (0x010A, true), (0x010B, true),
   (0x0201, true), (0x0202, true), (0x0203, true), (0x0204, true), (0x0205, true), (0x0206, false), (0x0210, true), (0x0211, true)] ++
  [(0x0301, true), (0x0302, true), (0x0303, false), (0x0310, true), (0x0311, true), (0x0312, false), (0x0313, true),
   (0x0401, true), (0x0402, true), (0x0403, true), (0x0404, true), (0x0410, true), (0x0411, true), (0x0412, true),
   (0x0501, true), (0x0502, true), (0x0503, true), (0x0504, true), (0x0505, true), (0x0510, true)] ++
  [(0x0601, true), (0x0602, true), (0x0603, true), (0x0604, false), (0x0605, true), (0x0606, true), (0x0610, false),
   (0x0620, false), (0x0621, false), (0x0622, false), (0x0623, false), (0x0624, true), (0x0625, true), (0x0626, true),
   (0x0701, true), (0x0702, true), (0x0703, true), (0x0710, true), (0x0720, true), (0x0721, true), (0x0722, false),
   (0x0801, true), (0x0802, true), (0x0803, true), (0x0810, false), (0x0811, false), (0x0812, true)]

/-- Whether an opcode's command is a change; none for an opcode that is not defined. -/
def opKind (op : Nat) : Option Bool := tfind opTable op

/-! ### Registers (R524-R526) -/

/-- Change the host window's state. -/
def setHost (s : State) (f : HostSt → HostSt) : State := { s with host := f s.host }
/-- A count that saturates in 8 bits. -/
def sat8 (n : Nat) : Nat := min (n + 1) 255
/-- A bit at a place. -/
def bitAt (b : Bool) (k : Nat) : Nat := if b then 2 ^ k else 0

/-- GLB_STATUS (R525). -/
def glbStatus (s : State) : Nat :=
  s.host.lastKind % 4 * 4096 + bitAt (decide (s.mode.cur = .standby)) 11 + bitAt s.recd.degraded 10 + bitAt (decide (1 ≤ topReaction' s)) 9 + bitAt s.host.ready 8 + s.mode.cur.num
where
  /-- The highest latched reaction. -/
  topReaction' (s : State) : Nat := s.ridge.latches.foldl (fun a l => max a (match l.react with | .log => 0 | .group => 1 | .safe => 2 | .ridgeStop => 3)) 0

/-- MB_STATUS (R526). -/
def mbStatus (x : MbxSt) : Nat := x.tags.length * 2 ^ 24 + x.owner * 2 ^ 14 + bitAt x.stall 3 + bitAt x.blocked 2 + bitAt x.error 1 + bitAt x.isOpen 0

/-- MB_ERR of a mailbox (R524). -/
def mbErr (x : MbxSt) : Nat := x.errCrc + x.errSeq * 2 ^ 8 + x.errTag * 2 ^ 16 + x.errOther * 2 ^ 24
/-- Read MB_ERR: its value, then the counts clear (R9). -/
def readMbErr (s : State) (m : Nat) : Nat × State :=
  (mbErr (mbx s m), setMbx s m (fun x => { x with errCrc := 0, errSeq := 0, errTag := 0, errOther := 0 }))
/-- Read GLB_LINK_ERR likewise. -/
def readLinkErr (s : State) : Nat × State :=
  (s.host.errSpi + s.host.errUdp * 2 ^ 8 + s.host.errWin * 2 ^ 16, setHost s (fun h => { h with errSpi := 0, errUdp := 0, errWin := 0 }))
/-- Read GLB_T0_LO, which latches the high word. -/
def readT0Lo (s : State) : Nat × State := (s.t0 % 2 ^ 32, setHost s (fun h => { h with t0Hi := bv 32 (s.t0 / 2 ^ 32) }))

/-- A mailbox register's value by offset; MB_ERR has its own read. -/
def mbRead (x : MbxSt) (o : Nat) : Nat :=
  match o with
  | 0x00 => bitAt x.intEn 0 + bitAt x.relPend 1
  | 0x04 => mbStatus x
  | 0x08 => x.cmdTail.toNat | 0x0C => x.cmdHead.toNat | 0x10 => x.rspTail.toNat | 0x14 => x.rspHead.toNat
  | 0x18 => x.cmdSeq.toNat | 0x1C => x.rspSeq.toNat
  | 0x20 => (x.tags.foldl (fun (b : Word) t => b ||| bv 32 (2 ^ (t.tag % 32))) 0).toNat
  | 0x28 => x.intCfg.toNat
  | 0x2C => x.lastStatus
  | _ => 0

/-- Read a word of BAR0 (R9, R524): a register that is not listed reads 0. -/
def bar0Read (s : State) (o : Nat) : Nat × State :=
  let mac (k : Nat) : Nat := (Config.macAddr k).toNat
  match o with
  | 0x0000 => (0x44594C44, s) | 0x0004 => (0x16480B00, s) | 0x0008 => (s.host.idFw.toNat, s)
  | 0x000C => (if s.host.idFw = 0 then 0 else s.fw.bank, s)
  | 0x0010 => (Config.serial.toNat % 2 ^ 32, s) | 0x0014 => (Config.serial.toNat / 2 ^ 32, s)
  | 0x0018 => (bitAt Config.grade 0, s)
  | 0x0020 => (mac 0 % 2 ^ 32, s) | 0x0024 => (mac 0 / 2 ^ 32, s) | 0x0028 => (mac 1 % 2 ^ 32, s) | 0x002C => (mac 1 / 2 ^ 32, s)
  | 0x0030 => (mac 2 % 2 ^ 32, s) | 0x0034 => (mac 2 / 2 ^ 32, s)
  | 0x0038 => (0x16481F4E, s) | 0x003C => (0xFE200808, s)
  | 0x0100 => (glbStatus s, s) | 0x0104 => (s.host.heartbeat.toNat, s)
  | 0x0108 => readT0Lo s | 0x010C => (s.host.t0Hi.toNat, s)
  | 0x0110 => (s.host.intStatus.toNat, s) | 0x0114 => (s.host.intEnable.toNat, s) | 0x0118 => (s.host.intStatus.toNat, s)
  | 0x011C => (s.host.epoch.toNat, s) | 0x0120 => (s.host.hostHb.toNat, s) | 0x0124 => readLinkErr s
  | _ =>
    if 0x0400 ≤ o ∧ o < 0x0600 then
      let m := (o - 0x0400) / 64
      if o % 64 = 0x24 then readMbErr s m else (mbRead (mbx s m) (o % 64), s)
    else if 0x1000 ≤ o ∧ o < 0x1028 ∧ o % 4 = 0 then ((pget s (ptid 0x1D ((o - 0x1000) / 4))).value.toNat, s)
    else (0, s)

/-! ### Doorbells and mailbox control (R528, R529, R532, R535) -/

/-- The fill of a ring from head to tail (R527). -/
def fill (tail head : Half) : Nat := (tail - head).toNat

/-- A CMD_TAIL write (R528) by PCIe (0) or SPI (1). -/
def cmdTailWrite (s : State) (m via : Nat) (w : Half) : State :=
  setMbx s m (fun x =>
    let n := fill w x.cmdHead
    if fill x.cmdTail x.cmdHead ≤ n ∧ n ≤ 256 then { x with cmdTail := w, via := via } else { x with error := true })

/-- An RSP_HEAD write (R529). -/
def rspHeadWrite (s : State) (m : Nat) (w : Half) : State :=
  setMbx s m (fun x =>
    if fill w x.rspHead ≤ fill x.rspTail x.rspHead then
      { x with rspHead := w, unread := x.unread.filter (fun e => decide (fill w x.rspHead < fill (bv 16 e.1) x.rspHead)) }
    else { x with error := true })

/-- RESET of a mailbox (R532): untaken frames and unread responses are discarded, then ERROR clears. A mailbox that was blocked no longer is, which sets CMD_SPACE (R538). -/
def mbReset (s : State) (m : Nat) : State :=
  let was := (mbx s m).blocked
  let s := setMbx s m (fun x => { x with cmdHead := x.cmdTail, rspHead := x.rspTail, unread := [], error := false, blocked := false, stall := false })
  if was then irq s (8 + m) else s

/-- RELEASE of a mailbox (R535): at once, or with the last outstanding tag. -/
def mbRelease (s : State) (m : Nat) : State :=
  setMbx s m (fun x => if x.tags.isEmpty then { x with owner := 0, isOpen := false } else { x with relPend := true })

/-- Set interrupt causes by a word (R524, R538). -/
def intSet (s : State) (w : Word) : State := (List.range 22).foldl (fun s b => if w.getLsbD b then irq s b else s) s

/-- A write of GLB_HOST_HB (R539): a change after a loss is recorded. -/
def hostHbWrite (s : State) (w : Word) : State :=
  if w = s.host.hostHb then s
  else
    let lost := s.host.hostLost
    let s := setHost s (fun h => { h with hostHb := w, hbChanged := s.t0, hostLost := false })
    if lost then note s Ev.hostReturned 0x48 0 0 [] else s

/-- Write a word of BAR0 (R9, R524, R526). -/
def bar0Write (s : State) (via o : Nat) (w : Word) : State :=
  match o with
  | 0x0110 => setHost s (fun h => { h with intStatus := h.intStatus &&& ~~~w })
  | 0x0114 => setHost s (fun h => { h with intEnable := w })
  | 0x0118 => intSet s w
  | 0x0120 => hostHbWrite s w
  | _ =>
    if 0x0400 ≤ o ∧ o < 0x0600 then
      let m := (o - 0x0400) / 64
      match o % 64 with
      | 0x00 =>
        let s := setMbx s m (fun x => { x with intEn := w.getLsbD 0 })
        let s := if w.getLsbD 1 then mbRelease s m else s
        if w.getLsbD 2 then mbReset s m else s
      | 0x08 => cmdTailWrite s m via (w.truncate 16)
      | 0x14 => rspHeadWrite s m (w.truncate 16)
      | 0x28 => setMbx s m (fun x => { x with intCfg := w &&& 0xFFFF003F })
      | _ => s
    else s

/-! ### The window's spaces (R520, R521, R540) -/

/-- The size of a space: BAR0, BAR2, BAR4. -/
def barSize (space : Nat) : Nat := match space with | 0 => 0x10000 | 2 => 0x20000 | _ => 0x1000000

/-- Write a word to a space; while the control die is away BAR2 and BAR4 writes are discarded and counted (R540). -/
def winWrite (s : State) (via space o : Nat) (w : Word) : State :=
  if space = 0 then bar0Write s via o w
  else if s.host.windowDown then setHost s (fun h => { h with errWin := sat8 h.errWin })
  else if space = 2 then setHost s (fun h => { h with rings := mwrites h.rings o (leBytes 4 w.toNat) })
  else bulkCount (setHost s (fun h => { h with bulk := mwrites h.bulk o (leBytes 4 w.toNat) })) 4

/-- Read a word from a space. -/
def winRead (s : State) (space o : Nat) : Nat × State :=
  if space = 0 then bar0Read s o
  else if s.host.windowDown then (0xFFFFFFFF, s)
  else if space = 2 then (leVal (mreads s.host.rings o 4), s)
  else (leVal (mreads s.host.bulk o 4), bulkCount s 4)

/-- Write consecutive words. -/
def winWrites (s : State) (via space : Nat) : Nat → Nat → List Byte → State
  | 0, _, _ => s
  | n + 1, o, l => winWrites (winWrite s via space o (bv 32 (fld l 0 4))) via space n (o + 4) (l.drop 4)

/-- Read consecutive words. -/
def winReads (s : State) (space : Nat) : Nat → Nat → List Byte × State
  | 0, _ => ([], s)
  | n + 1, o => let (v, s) := winRead s space o; let (l, s) := winReads s space n (o + 4); (leBytes 4 v ++ l, s)

/-- SPI_TRANSFER (R521): the bytes the host drove on one frame of SPIH_CS_N; in a read those after the address only clock. What breaks the layout is discarded and counted. -/
def execSpiTransfer (mosi : List Byte) (s : State) : Res :=
  if s.mode.cur = .keep ∨ !flag s pHostSpiEnable 0 then .next s
  else
    let bad := setHost s (fun h => { h with errSpi := sat8 h.errSpi })
    let cmd := fld mosi 0 1
    let a := fld mosi 1 4
    let space := a / 2 ^ 28
    let o := a % 2 ^ 24
    let dummy := if cmd = 2 then 0 else if space = 4 then 8 else 2
    let n := mosi.length - 9 - dummy
    if (cmd ≠ 2 ∧ cmd ≠ 3) ∨ mosi.length < 13 + dummy ∨ n % 4 ≠ 0 ∨ 4096 < n then .next bad
    else if (space ≠ 0 ∧ space ≠ 2 ∧ space ≠ 4) ∨ a / 2 ^ 24 % 16 ≠ 0 ∨ barSize space < o + n then .next bad
    else if cmd = 2 then
      if (crc32c (mosi.take (5 + n))).toNat ≠ fld mosi (5 + n) 4 then .next bad
      else .next (winWrites s 1 space (n / 4) o (mosi.drop 5))
    else
      let (data, s) := winReads s space (n / 4) o
      .next (send (setHost s (fun h => { h with readData := data })) Out.spiMiso 0 [] (data ++ leBytes 4 (crc32c (mosi.take 5 ++ data)).toNat))

/-- REGISTER_WRITE (R9, R520): a PCIe write of a word at an offset of BAR0 (0), BAR2 (1) or BAR4 (2); beyond its space there is nothing to write. -/
def execRegisterWrite (bar : Fin 3) (off : BitVec 24) (w : Word) (s : State) : Res :=
  if s.mode.cur = .keep ∨ barSize (2 * bar.val) < off.toNat + 4 then .next s else .next (winWrite s 0 (2 * bar.val) off.toNat w)

/-- CMD_TAIL_WRITE (R528). -/
def execCmdTailWrite (m : Fin 8) (w : Word) (s : State) : Res := if s.mode.cur = .keep then .next s else .next (cmdTailWrite s m.val 0 (w.truncate 16))
/-- RSP_HEAD_WRITE (R529). -/
def execRspHeadWrite (m : Fin 8) (w : Word) (s : State) : Res := if s.mode.cur = .keep then .next s else .next (rspHeadWrite s m.val (w.truncate 16))
/-- MB_CTRL_RESET (R532). -/
def execMbCtrlReset (m : Fin 8) (s : State) : Res := if s.mode.cur = .keep then .next s else .next (mbReset s m.val)
/-- MB_CTRL_RELEASE (R535). -/
def execMbCtrlRelease (m : Fin 8) (s : State) : Res := if s.mode.cur = .keep then .next s else .next (mbRelease s m.val)
/-- GLB_INT_SET_WRITE (R524). -/
def execGlbIntSetWrite (w : Word) (s : State) : Res := if s.mode.cur = .keep then .next s else .next (intSet s w)
/-- GLB_HOST_HB_WRITE (R539). -/
def execGlbHostHbWrite (w : Word) (s : State) : Res := if s.mode.cur = .keep then .next s else .next (hostHbWrite s w)

/-- Keep what a register read returned. -/
def returnRead (r : Nat × State) : State := setHost r.2 (fun h => { h with readData := leBytes 4 r.1 })
/-- GLB_T0_LO_READ (R524). -/
def execGlbT0LoRead (s : State) : Res := if s.mode.cur = .keep then .next s else .next (returnRead (readT0Lo s))
/-- MB_ERR_READ (R524). -/
def execMbErrRead (m : Fin 8) (s : State) : Res := if s.mode.cur = .keep then .next s else .next (returnRead (readMbErr s m.val))
/-- GLB_LINK_ERR_READ (R524). -/
def execGlbLinkErrRead (s : State) : Res := if s.mode.cur = .keep then .next s else .next (returnRead (readLinkErr s))

/-! ### Frames (R527, R530, R531, R533, R535, R536) -/

/-- Units of a frame with a payload length. -/
def units (len : Nat) : Nat := (32 + len + 31) / 32
/-- `n` bytes of a ring from a unit index on (R527). -/
def ringRead (s : State) (base : Nat) (idx : Half) (n : Nat) : List Byte :=
  (List.range n).map (fun i => mread s.host.rings (base + (idx.toNat % 256 * 32 + i) % 8192))
/-- Write a ring likewise. -/
def ringWrite (s : State) (base : Nat) (idx : Half) (l : List Byte) : State :=
  setHost s (fun h => { h with rings := (l.mapIdx (fun i b => (base + (idx.toNat % 256 * 32 + i) % 8192, b))).foldl (fun m e => mwrite m e.1 e.2) h.rings })

/-- Whether a mailbox's owner admits a frame of a transport (1 window, 2 UDP) and source (R535). -/
def ownerOk (x : MbxSt) (tr src : Nat) (isOpen : Bool) : Bool :=
  let mine := x.owner == tr && (tr != 2 || x.udpSrc == src)
  if isOpen then x.owner == 0 || (mine && x.tags.isEmpty) else mine

/-- Steps 3 to 8 of the take-in of a frame in mailbox `m` (R531): 0 when every step passes. -/
def frameStatus (s : State) (m tr src : Nat) (fr : List Byte) : Nat :=
  let x := mbx s m
  let isOpen := (fld fr 7 1).testBit 0
  let tag := fld fr 6 1
  if (frameCrc fr).toNat ≠ fld fr 0x1C 4 then 0x0603
  else if !isOpen && decide (fld fr 0x10 4 ≠ x.cmdSeq.toNat) then 0x0604
  else if fld fr 3 1 ≠ m then 0x010C
  else if !ownerOk x tr src isOpen then 0x050A
  else if 31 < tag ∨ x.tags.any (fun t => t.tag == tag) = true then 0x0507
  else if (opKind (fld fr 4 2)).isNone then 0x010D
  else 0

/-- Count a refused frame in MB_ERR (R524). -/
def countRefused (x : MbxSt) (st : Nat) : MbxSt :=
  if st = 0x0603 then { x with errCrc := sat8 x.errCrc } else if st = 0x0604 then { x with errSeq := sat8 x.errSeq }
  else if st = 0x0507 then { x with errTag := sat8 x.errTag } else { x with errOther := sat8 x.errOther }

/-- Answer a refused frame with REFUSED and FINAL; a sequence gap tells the SEQ expected (R531). -/
def refuseFrame (s : State) (m : Nat) (udp : Option Nat) (fr : List Byte) (st : Nat) : State :=
  setMbx s m (fun x => { countRefused x st with
    resps := x.resps ++ [{ tag := fld fr 6 1, opcode := fld fr 4 2, target := bv 32 (fld fr 0x0C 4), status := st, flags := 3, arg := if st = 0x0604 then x.cmdSeq.toNat else 0, udp := udp, cseq := fld fr 0x10 4 }] })

/-- The claim of a mailbox by OPEN (R535). -/
def claim (x : MbxSt) (tr src seq : Nat) : MbxSt := { x with isOpen := true, owner := tr, udpSrc := src, cmdSeq := bv 32 (seq + 1), rspSeq := 0, relPend := false }

/-- Take in a frame that stands whole (R531, R533, R535): refused by its first failed step, or accepted with its tag outstanding. `via` 0 PCIe, 1 SPI, 2 UDP. -/
def takeFrame (s : State) (m via src : Nat) (fr : List Byte) : State :=
  let tr := if via = 2 then 2 else 1
  let udp := if via = 2 then some src else none
  let st := frameStatus s m tr src fr
  let seq := fld fr 0x10 4
  let past := st = 0 ∨ st = 0x0507 ∨ st = 0x010D
  let s := if past ∧ (fld fr 7 1).testBit 0 then setMbx s m (fun x => claim x tr src seq) else s
  let s := if past ∨ st = 0x010C then setMbx s m (fun x => { x with cmdSeq := bv 32 (seq + 1) }) else s
  if st ≠ 0 then refuseFrame s m udp fr st
  else
    let t : CmdTag := { tag := fld fr 6 1, opcode := fld fr 4 2, target := bv 32 (fld fr 0x0C 4), accepted := s.t0, deadlineUs := fld fr 0x14 4
                        barrier := (fld fr 7 1).testBit 1, transport := via, src := src, seq := seq, payload := (fr.drop 32).take (fld fr 8 2) }
    setMbx s m (fun x => { x with
      tags := x.tags ++ [t], lastCrc := bv 32 (fld fr 0x1C 4)
      acc := if via = 2 then (x.acc ++ [seq]).drop (x.acc.length + 1 - 32) else x.acc })

/-- Whether a mailbox may take in a frame (R533). -/
def mayTake (x : MbxSt) : Bool := decide (x.tags.length < 32 ∧ fill x.rspTail x.rspHead ≤ 128)

/-- FRAME_TAKE_IN (R531, R533): the next frame of the mailboxes in turn; a mailbox that cannot take one is blocked, and one that again can sets CMD_SPACE. -/
def execFrameTakeIn (s : State) : Res :=
  if !s.host.ready ∨ s.rst.stage = 4 then .next s
  else
    let waits := ((List.range 8).map (fun k => (s.host.turn + k) % 8)).filter (fun m => let x := mbx s m; !x.error && decide (0 < fill x.cmdTail x.cmdHead))
    let s := waits.foldl (fun s m => if mayTake (mbx s m) then s else setMbx s m (fun x => { x with blocked := true })) s
    match waits.find? (fun m => mayTake (mbx s m)) with
    | none => .next s
    | some m =>
      let x := mbx s m
      let s := setHost s (fun h => { h with turn := (m + 1) % 8 })
      let s := if x.blocked then irq (setMbx s m (fun x => { x with blocked := false })) (8 + m) else s
      let hd := ringRead s (m * 0x4000) x.cmdHead 32
      let stop (st : Nat) : State := setMbx (refuseFrame s m none hd st) m (fun x => { x with error := true })
      if fld hd 0 2 ≠ 0x424D ∨ fld hd 2 1 ≠ 1 then .next (stop 0x010B)
      else
        let len := fld hd 8 2
        if 4064 < len ∨ fill x.cmdTail x.cmdHead < units len then .next (stop 0x0102)
        else
          let fr := ringRead s (m * 0x4000) x.cmdHead (32 + len)
          .next (setMbx (takeFrame s m (if x.via = 1 then 1 else 0) 0 fr) m (fun x => { x with cmdHead := x.cmdHead + bv 16 (units len) }))

/-- A response frame's bytes (R530). -/
def respBytes (x : Resp) (m seq flags : Nat) : List Byte :=
  let f := leBytes 2 0x424D ++ [0x01, bv 8 m] ++ leBytes 2 x.opcode ++ leBytes 1 x.tag ++ leBytes 1 flags ++ leBytes 2 x.payload.length ++ leBytes 2 x.status ++
    leBytes 4 x.target.toNat ++ leBytes 4 seq ++ leBytes 4 x.timeUs ++ leBytes 4 x.arg ++ leBytes 4 0 ++ x.payload
  f.take 0x1C ++ leBytes 4 (frameCrc f).toNat ++ x.payload

/-- A frame sent again: DUPLICATE set and the CRC anew (R536). -/
def asDuplicate (fr : List Byte) : List Byte :=
  let f := fr.take 7 ++ leBytes 1 (Nat.lor (fld fr 7 1) 8) ++ fr.drop 8
  f.take 0x1C ++ leBytes 4 (frameCrc f).toNat ++ f.drop 0x20

/-- Set the RSP bit when the responses that wait reach the threshold (R538). -/
def rspCount (s : State) (m : Nat) : State :=
  let x := mbx s m
  if !x.unread.isEmpty ∧ x.intCfg.toNat % 64 ≤ x.unread.length then irq s m else s

/-- RESPONSE_WRITE (R529, R533, R534, R536): the mailbox's next response goes out, over UDP at once, to its ring when there is room; else it waits with RSP_STALL. -/
def execResponseWrite (m : Fin 8) (s : State) : Res :=
  let x := mbx s m.val
  match x.resps with
  | [] => .next s
  | p :: rest =>
    if !s.host.ready then .next s
    else
      let fr := respBytes p m.val x.rspSeq.toNat p.flags
      match p.udp with
      | some src =>
        let acc := x.acc
        let s := setMbx s m.val (fun x => { x with
          resps := rest, rspSeq := x.rspSeq + 1, lastStatus := p.status
          kept := (if p.flags / 2 % 2 = 1 then x.kept else x.kept ++ [(p.cseq, fr)]).filter (fun e => acc.contains e.1) })
        .next (send s Out.udpFrame src [] fr)
      | none =>
        let n := units p.payload.length
        if 256 < fill x.rspTail x.rspHead + n then .next (setMbx s m.val (fun x => { x with stall := true }))
        else
          let s := ringWrite s (m.val * 0x4000 + 0x2000) x.rspTail fr
          let tail := x.rspTail + bv 16 n
          let s := setMbx s m.val (fun x => { x with
            resps := rest, rspTail := tail, rspSeq := x.rspSeq + 1, lastStatus := p.status, stall := false, unread := x.unread ++ [(tail.toNat, s.t0)] })
          .next (rspCount s m.val)

/-- UDP_DATAGRAM (R461, R522, R531, R536): one frame from a source address and port; a fragment, or any while the transport is off or the Steward away, is discarded. -/
def execUdpDatagram (src : BitVec 48) (frag : Bool) (fr : List Byte) (s : State) : Res :=
  let m := fld fr 3 1
  let len := fld fr 8 2
  let a := src.toNat
  if frag || !s.host.ready || s.rst.stage == 4 || !flag s pHostUdpEnable 0 then .next s
  else if fr.length < 32 ∨ fld fr 0 2 ≠ 0x424D ∨ fld fr 2 1 ≠ 1 then .next (setHost s (fun h => { h with errUdp := sat8 h.errUdp }))
  else if 8 ≤ m then
    -- no mailbox holds this frame's counters: the refusal alone goes back
    let st := if 1440 < len ∨ fr.length ≠ 32 + len then 0x0102 else if (frameCrc fr).toNat ≠ fld fr 0x1C 4 then 0x0603 else 0x010C
    .next (send s Out.udpFrame a [] (respBytes { tag := fld fr 6 1, opcode := fld fr 4 2, target := bv 32 (fld fr 0x0C 4), status := st, flags := 3 } m 0 3))
  else
    let x := mbx s m
    let s := if x.owner = 2 ∧ x.udpSrc = a then setMbx s m (fun x => { x with lastUdp := s.t0 }) else s
    if 1440 < len ∨ fr.length ≠ 32 + len then .next (refuseFrame s m (some a) fr 0x0102)
    else if x.owner = 2 ∧ x.udpSrc = a ∧ bv 32 (fld fr 0x10 4 + 1) = x.cmdSeq ∧ bv 32 (fld fr 0x1C 4) = x.lastCrc ∧ (frameCrc fr).toNat = fld fr 0x1C 4 then
      .next ((x.kept.filter (fun e => e.1 == fld fr 0x10 4)).foldl (fun s e => send s Out.udpFrame a [] (asDuplicate e.2)) s)
    else
      let s := takeFrame s m 2 a fr
      .next (if (mbx s m).owner = 2 ∧ (mbx s m).udpSrc = a then setMbx s m (fun x => { x with lastUdp := s.t0 }) else s)

/-! ### Interrupts, deadlines, heartbeats, ownership (R534, R535, R538, R539) -/

/-- MB_INT_HOLDOFF (R538): the oldest waiting response has waited for the holdoff. -/
def execMbIntHoldoff (m : Fin 8) (s : State) : Res :=
  let x := mbx s m.val
  match x.unread with
  | e :: _ => if s.t0 < e.2 + x.intCfg.toNat / 65536 * us then .next s else .next (irq s m.val)
  | [] => .next s

/-- COMMAND_DEADLINE (R534): a command not begun by its deadline completes with DEADLINE_PASSED. -/
def execCommandDeadline (m : Fin 8) (s : State) : Res :=
  match (mbx s m.val).tags.find? (fun t => !t.begun && tooLate s t) with
  | none => .next s
  | some t =>
    if !s.host.ready then .next s
    else .next (finish s { mb := m, tag := bv 5 t.tag, target := t.target, payload := t.payload } t.opcode ((opKind t.opcode).getD false) 0x0508)

/-- The Steward's heartbeat at a whole millisecond of T0, once in each (R539). -/
def stewardBeat (s : State) : State :=
  if s.host.ready && s.t0 % ms == 0 && s.host.beatAt != some s.t0 then setHost s (fun h => { h with heartbeat := h.heartbeat + 1, beatAt := some s.t0 }) else s

/-- STEWARD_HEARTBEAT (R539). -/
def execStewardHeartbeat (s : State) : Res := .next (stewardBeat s)

/-- A pause of a running stream (R322). -/
def streamPause (s : State) (k reason : Nat) : State :=
  if (stream s k).st = 2 then streamPoints (setStream s k (fun d => { d with st := 3, reason := reason })) k else s

/-- HOST_HB_TIMEOUT (R539, R540): GLB_HOST_HB has not changed for the timeout; the loss is recorded once, and with PAUSE_STREAMS every running stream pauses. -/
def execHostHbTimeout (s : State) : Res :=
  let to_ := param s pHostHbTimeout 0
  if !s.host.ready ∨ to_ = 0 ∨ s.host.hostLost ∨ s.t0 < s.host.hbChanged + to_ * ms ∨ s.t0 < s.host.hbHoldUntil then .next s
  else
    let s := note (setHost s (fun h => { h with hostLost := true })) Ev.hostLost 0x48 0 0 []
    .next (if param s pHostHbAction 0 = 1 then (tkeys s.streams).foldl (fun s k => streamPause s k 1) s else s)

/-- UDP_IDLE_EXPIRY (R535): no datagram for the idle time on a UDP-owned mailbox without outstanding tags. -/
def execUdpIdleExpiry (m : Fin 8) (s : State) : Res :=
  let x := mbx s m.val
  if x.owner ≠ 2 ∨ !x.tags.isEmpty ∨ s.t0 < x.lastUdp + param s pHostUdpIdle 0 * sec then .next s
  else .next (setMbx s m.val (fun x => { x with owner := 0, isOpen := false }))

end Sys2Proof.Machine
end

