-- ==== Sys2Proof/Machine/Loops.lean ====
section
/-! DEFINITION. The loop engines' rows: releases, the frame of one release, tuning, bridge laws, and the loop commands (R162-R197). -/

namespace Sys2Proof.Machine

/-- A loop input at the release instant `t`: binary32 value and quality; source 0 means none. -/
def loopIn (s : State) (t src : Nat) : LoopIn :=
  if src = 0 then {} else let p := pgetAt s t src; { v := bv 32 (asF32 p), q := p.qual }

/-- Count HELD from the first release that saw it (R168). -/
def holdFrom (t : Nat) (x : LoopIn) (h : Option Nat) : Option Nat := if x.q = 1 then some (h.getD t) else none

/-- LOOP_RELEASE (R164, R167, R197): at its instant a loop that runs releases under the mode of that instant; the three flags of the last release are replaced. While the previous release still runs the new one waits behind it. A loop that its mode stops only says so, once no release of it runs. -/
def execLoopRelease (loop_ : BitVec 9) (s : State) : Res :=
  let i := loop_.toNat
  let d := loop s i
  if !d.present || s.rst.stage != 0 || s.t0 % us != 0 || !isRelease (s.t0 / us) (param s pLoopPeriod i) (param s pLoopPhase i) then .next s
  else if loopRuns s i = 0 then
    if d.begun then .next s else .next (loopStatePoint (setLoop s i (fun d => { d with st := 0, rel := none })) i s.t0)
  else
    let f := putFlag (putFlag (putFlag d.flags 15 false) 16 false) 17 false
    if d.begun then .next (setLoop s i (fun d => { d with nextRel := some s.t0, flags := f }))
    else .next (setLoop s i (fun d => { d with rel := some s.t0, runsAt := loopRuns s i, overrun := false, inputLate := false, flags := f }))

/-- A release that has ended gives way to the one that waited behind it (R166, R167). -/
def relDone (s : State) (d : LoopSt) (i : Nat) : LoopSt :=
  { d with rel := d.nextRel, nextRel := none, runsAt := loopRuns s i, begun := false, overrun := false, inputLate := false }

/-- The ready release of an engine: earliest apply instant, then lowest loop number (R166). -/
def readyLoop (s : State) (le : Nat) : Option Nat :=
  let l := s.loops.filter (fun e => e.1 / 64 == le && e.2.rel.isSome && !e.2.begun)
  (l.foldl (fun (b : Option (Nat × Nat)) e =>
    let k := e.2.rel.getD 0 + loopNs s e.1
    match b with | none => some (k, e.1) | some x => if k < x.1 then some (k, e.1) else some x) none).map (·.2)

/-- Begin the ready release of an engine with the entries of the release instant (R165, R166). -/
def beginLoop (s : State) (le : Nat) : State :=
  let e := tget {} s.loopEng le
  match e.running, if (island s (0x20 + le)).inService then readyLoop s le else none with
  | none, some i =>
    let d := loop s i
    let t := d.rel.getD 0
    let x := [loopIn s t (param s pLoopPvSrc i), loopIn s t (param s pLoopSpSrc i), loopIn s t (param s pLoopFfSrc i), loopIn s t (param s pLoopTrackSrc i)]
    let s := setLoop s i (fun d => { d with
      begun := true, pv := (x[0]?).getD {}, sp := (x[1]?).getD {}, ff := (x[2]?).getD {}, tr := (x[3]?).getD {}
      held := (x.zip d.held).map (fun e => holdFrom t e.1 e.2)
      expired := (x.zip d.expired).map (fun e => e.1.q == 1 && e.2)
      flags := putFlag d.flags 15 d.inputLate })
    { s with loopEng := tset s.loopEng le { e with running := some i } }
  | _, _ => s

/-- LOOP_INPUT_WAIT_EXPIRY (R165): the release goes on with the latest entries and is marked INPUT_LATE. -/
def execLoopInputWaitExpiry (loop_ : BitVec 9) (s : State) : Res :=
  let i := loop_.toNat
  let d := loop s i
  match d.rel with
  | some t =>
    if d.begun || decide (s.t0 < t + param s pLoopInputWait i * us) then .next s
    else .next (setLoop s i (fun d => { d with inputLate := true }))
  | none => .next s

/-- LOOP_DEADLINE (R167): 10 µs before the apply instant a release that has not begun is missed, one that has not ended overruns; the loop state alone becomes visible. -/
def execLoopDeadline (loop_ : BitVec 9) (s : State) : Res :=
  let i := loop_.toNat
  let d := loop s i
  let due (t : Nat) : Bool := decide (t + loopNs s i ≤ s.t0 + 10 * us)
  let missed (s : State) (t : Nat) : State :=
    note (loopStatePoint (setLoop s i (fun d => { d with flags := putFlag d.flags 17 true })) i (t + loopNs s i)) Ev.loopMissed (0x20 + i / 64) i 0 [t]
  match d.rel, d.nextRel with
  | some t, n =>
    if due t && !d.begun then .next (missed (setLoop s i (fun d => { d with rel := none })) t)
    else if due t && !d.overrun then
      let s := setLoop s i (fun d => { d with overrun := true, flags := putFlag d.flags 16 true })
      .next (note (loopStatePoint s i (t + loopNs s i)) Ev.loopOverrun (0x20 + i / 64) i 0 [t])
    else match n with
      | some u => if due u then .next (missed (setLoop s i (fun d => { d with nextRel := none })) u) else .next s
      | none => .next s
  | none, _ => .next s

/-- HELD_TIME_EXPIRY (R168): an input HELD for the held time is a bad value from then on. Inputs: 0 PV, 1 SP, 2 FF, 3 TRACK. -/
def execHeldTimeExpiry (loop_ : BitVec 9) (inp : Fin 4) (s : State) : Res :=
  let i := loop_.toNat
  match ((loop s i).held[inp.val]?).getD none with
  | some t =>
    if s.t0 < t + param s pLoopHeldTime i * ms then .next s
    else .next (setLoop s i (fun d => { d with expired := d.expired.set inp.val true }))
  | none => .next s

/-- A set point within SP_MIN and SP_MAX (R183, R187). -/
def clampSp (s : State) (i : Nat) (v : Word) : Word :=
  let r := ratOf v.toNat
  if r < paramRat s pLoopSpMin i then bv 32 (param s pLoopSpMin i) else if paramRat s pLoopSpMax i < r then bv 32 (param s pLoopSpMax i) else v

/-- One release of the set-point profile (R187, R188): a new target or limit replans; the last sample sets the target exactly. -/
def spProfile (s : State) (i t : Nat) (d : LoopSt) (target : Word) : LoopSt :=
  let V := paramRat s pLoopSpVmax i
  let A := paramRat s pLoopSpAmax i
  let J := paramRat s pLoopSpJmax i
  let lim := [bv 32 (param s pLoopSpVmax i), bv 32 (param s pLoopSpAmax i), bv 32 (param s pLoopSpJmax i)]
  if V = 0 then { d with spEff := target, target := target, plan := none, lim := lim, flags := putFlag d.flags 18 false }
  else
    let cur := match d.plan with
      | some q => q.at_ t
      | none => (ratOf d.spEff.toNat, 0, 0)
    let d :=
      if d.target = target ∧ (d.lim = lim ∨ d.plan.isNone) ∧ (d.plan.isSome ∨ d.spEff = target) then d
      else
        let tg := ratOf target.toNat
        let q : Plan :=
          if A = 0 then
            let D := tg - cur.1
            ⟨t, cur.1, if D < 0 then -V else V, 0, [((if D < 0 then -D else D) / V, 0, 0)], tg⟩
          else planTo t cur.1 cur.2.1 cur.2.2 tg V A J
        { d with target := target, lim := lim, plan := some q, flags := putFlag (putFlag d.flags 18 true) 19 false }
    match d.plan with
    | none => d
    | some q =>
      if q.ends t (loopNs s i) then { d with spEff := target, plan := none, flags := putFlag d.flags 18 false }
      else { d with spEff := bv 32 (f32OfRat (q.at_ t).1) }

/-- The law in tracking (R183, R184): its integrator, or its bias, makes its output equal the realised output `u`; histories at rest on the inputs. -/
def trackLaw (s : State) (i : Nat) (d : LoopSt) (r y e f u : Int) : LoopSt :=
  let l := mainLaw s i { d with integ := 0 } r y e f u 0 true
  if hasInteg (param s pLoopLaw i) then { l.d with integ := clamp31 (u - l.v) }
  else if param s pLoopLaw i = 6 then d
  else { l.d with ss := d.ss, bias := u - l.v }

/-- The law computing (R173-R184): `restart` makes it bumpless; answers the loop with its new realised output and flags. -/
def runLaw (s : State) (i : Nat) (d : LoopSt) (r y e f lawOut : Int) (restart : Bool) : LoopSt :=
  let d := if restart then
      let t := trackLaw s i d r y e f d.u
      { d with integ := t.integ, bias := t.bias }
    else d
  let l := mainLaw s i d r y e f d.u lawOut restart
  let v1 := if hasInteg (param s pLoopLaw i) ∨ param s pLoopLaw i = 6 then l.v else l.v + d.bias
  let (v2, f2) := filt s i (param s pLoopF2Kind i) pLoopF2A pLoopF2B pLoopF2C (clamp31 v1) d.f2 restart
  let (u, hi, lo, rt) := limitOut s i v2 d.u
  let (integ, blocked) := integStep s i l (clamp31 v1) u
  let sticky := if v1 = clamp31 v1 then l.d.sticky else Nat.lor l.d.sticky 1
  { l.d with u := u, f2 := f2, integ := integ, sticky := sticky,
             flags := putFlag (putFlag (putFlag (putFlag d.flags 8 hi) 9 lo) 10 rt) 20 blocked }

/-- MANUAL, TRACK and an outer loop whose inner is not in CASCADE: `v` takes the law's place and the law tracks (R183, R185, R197). -/
def runTrack (s : State) (i : Nat) (d : LoopSt) (r y e f v : Int) (rate : Bool) : LoopSt :=
  let (u, hi, lo, rt) := if rate then limitOut s i v d.u else
    let lo := normOut s i (paramRat s pLoopOutMin i)
    let hi := normOut s i (paramRat s pLoopOutMax i)
    (max lo (min hi v), decide (hi < v), decide (v < lo), false)
  let t := trackLaw s i d r y e f u
  let (_, f2) := filt s i (param s pLoopF2Kind i) pLoopF2A pLoopF2B pLoopF2C u d.f2 true
  { t with u := u, f2 := f2, flags := putFlag (putFlag (putFlag (putFlag d.flags 8 hi) 9 lo) 10 rt) 20 false }

/-- The relay of a tune (R190): the output, the relay's side, and the measures of the frame. -/
def runRelay (s : State) (i t : Nat) (d : LoopSt) (x : TuneSt) (y e : Int) : LoopSt :=
  let amp := gridOf (paramRat s pLoopTuneAmp i / 100 * (2 ^ 31 : Nat))
  let eps := gridOf (paramRat s pLoopTuneHyst i / 100 * (2 ^ 31 : Nat))
  let high := if eps < e then true else if e < -eps then false else x.high
  let (u, hi, lo, rt) := limitOut s i (if high then x.u0 + amp else x.u0 - amp) d.u
  let cross := decide (x.lastE ≤ eps) && decide (eps < e)
  let x := { x with high := high, lastE := e, curMax := max x.curMax y, curMin := min x.curMin y }
  let x := if cross then { x with crossings := x.crossings ++ [t], peaks := if x.crossings.isEmpty then x.peaks else x.peaks ++ [x.curMax - x.curMin], curMax := y, curMin := y } else x
  { d with u := u, tune := some x, flags := putFlag (putFlag (putFlag d.flags 8 hi) 9 lo) 10 rt }

/-- Whether the previous release computed the law, so that no transfer is due (R184). -/
def computing (d : LoopSt) : Bool := (d.st == 5 || d.st == 6) && !d.flags.testBit 11 && !d.bridge.running && !d.reseed

/-- The frame of one release (R168-R185, R190, R197), with the inputs read at `t`. -/
def frame (s : State) (i t : Nat) (lawOut : Int) : State :=
  let d0 := loop s i
  let runs := d0.runsAt
  let off := if s.mode.cur = .maint then d0.tuneOff else 0
  let pvOk := usable d0.pv.q (d0.expired.headD false)
  let mode := param s pLoopMode i
  let dis := decide (runs ≠ 1) || (!pvOk && param s pLoopBadPv i == 1) || off == 2
  -- aborts of a profile and of a tune (R189, R192, R197)
  let s := if dis ∨ mode ≠ 1 ∨ d0.tune.any (fun x => x.phase == 1 || x.phase == 2 || x.phase == 3) then abortProfile s i else s
  let live := d0.tune.any (fun x => x.phase == 1 || x.phase == 2 || x.phase == 3)
  let s := if !live then s else if !pvOk then abortTune s i 2 else if s.mode.cur ≠ .maint ∨ dis then abortTune s i 1
    else if d0.tune.any (excursion s i) then abortTune s i 3 else s
  -- the release after an abort gives the output of its acceptance once, later ones the disable action (R192)
  let back := off == 1 || (live && (loop s i).tuneOff == 1)
  let s := setLoop s i (fun d => { d with tuneOff := if back && s.mode.cur == .maint then 2 else off })
  let d := loop s i
  let lo := paramRat s pLoopPvLo i
  let hi := paramRat s pLoopPvHi i
  let yRaw := norm (ratOf d.pv.v.toNat) lo hi
  let restart := !computing d
  let (y, f1) := filt s i (param s pLoopF1Kind i) pLoopF1A pLoopF1B pLoopF1C (clamp31 yRaw) d.f1 restart
  let flags := putFlag (putFlag d.flags 12 (yRaw != clamp31 yRaw)) 11 (!pvOk)
  let spSrc := param s pLoopSpSrc i
  let spOk := usable d.sp.q ((d.expired[1]?).getD false)
  let ffSrc := param s pLoopFfSrc i
  let ffOk := usable d.ff.q ((d.expired[2]?).getD false)
  let flags := putFlag (putFlag flags 13 (decide (spSrc ≠ 0) && mode != 0 && !spOk)) 14 (decide (ffSrc ≠ 0) && !ffOk)
  let d := { d with flags := flags }
  -- feed-forward (R169, R181)
  let f := if ffSrc = 0 then 0 else if ffOk then ffTerm s i d.ff.v (d.zPrev.getD d.ff.v) else d.fTerm
  let d := { d with fTerm := f, zPrev := if ffSrc ≠ 0 && ffOk then some d.ff.v else d.zPrev }
  if back && !dis then setLoop s i (fun _ => { d with f1 := f1, st := 1 + param s pLoopDisableAction i })
  else if !pvOk && !dis then setLoop s i (fun _ => { d with st := if mode = 0 then 4 else if mode = 1 then 5 else 6 })
  else if dis then
    -- the disable action (R197)
    let act := param s pLoopDisableAction i
    let d := { d with st := 1 + act, f1 := f1 }
    let r := clamp31 (norm (ratOf d.spEff.toNat) lo hi)
    let e := if param s pLoopAction i = 1 then y - r else r - y
    let d := match act with
      | 1 => { d with u := normOut s i (paramRat s pLoopOutOff i) }
      | 2 => if usable d.tr.q ((d.expired[3]?).getD false) then
          runTrack s i d r y (clamp31 e) f (clamp31 (norm (ratOf d.tr.v.toNat) (paramRat s pLoopOutLo i) (paramRat s pLoopOutHi i))) false else d
      | _ => d
    setLoop s i (fun _ => d)
  else
    -- the set point (R169, R183, R187)
    let tuning := d.tune.any (fun x => x.phase == 1 || x.phase == 2 || x.phase == 3)
    let d := if tuning then d
      else if mode = 0 then (if flag s pLoopSpTrackMan i then { d with spEff := d.pv.v, target := d.pv.v } else d)
      else if spSrc ≠ 0 ∧ !spOk then d
      else if mode = 2 then { d with spEff := clampSp s i d.sp.v, target := clampSp s i d.sp.v }
      else spProfile s i t d (clampSp s i (if spSrc ≠ 0 then d.sp.v else bv 32 (param s pLoopSpLocal i)))
    let r := match d.tune with
      | some x => if tuning then x.r0 else clamp31 (norm (ratOf d.spEff.toNat) lo hi)
      | none => clamp31 (norm (ratOf d.spEff.toNat) lo hi)
    let e := clamp31 (if param s pLoopAction i = 1 then y - r else r - y)
    let d := { d with f1 := f1 }
    let inner := innerOf s i
    let d := match d.tune with
      | some x =>
        if x.phase = 1 then
          { runLaw s i d r y e f lawOut restart with st := 7, tune := some { x with hist := x.hist ++ [(t, y)] } }
        else if tuning then { runRelay s i t d x y e with st := 7 }
        else if mode = 0 then { runTrack s i d r y e f (normOut s i (paramRat s pLoopManOut i)) true with st := 4 }
        else { runLaw s i d r y e f lawOut restart with st := if mode = 1 then 5 else 6 }
      | none =>
        if mode = 0 then { runTrack s i d r y e f (normOut s i (paramRat s pLoopManOut i)) true with st := 4 }
        else match inner with
          | some j =>
            if (loop s j).st = 6 then { runLaw s i d r y e f lawOut restart with st := if mode = 1 then 5 else 6 }
            else
              let v := clamp31 (norm (ratOf (loop s j).spEff.toNat) (paramRat s pLoopOutLo i) (paramRat s pLoopOutHi i))
              { runTrack s i d r y e f v true with st := if mode = 1 then 5 else 6 }
          | none => { runLaw s i d r y e f lawOut restart with st := if mode = 1 then 5 else 6 }
    -- the loop engine's sticky flags are noted by the engine's own instructions (R172)
    setLoop s i (fun _ => d)

/-- Copy newly set sticky flags of the engine into facet 5 and record the first of each (R172). -/
def loopSticky (s : State) (i : Nat) : State :=
  let d := loop s i
  ([0, 1, 2] : List Nat).foldl (fun s b =>
    if d.sticky.testBit b && !d.seen.testBit b then
      note (setLoop s i (fun d => { d with seen := putFlag d.seen b true })) Ev.loopArith (0x20 + i / 64) i 0 [b] else s) s

/-- LOOP_END (R164, R167, R194): the engine ends its release; an overrun keeps the state but not the output. -/
def execLoopEnd (le : Fin 8) (s : State) : Res :=
  let e := tget {} s.loopEng le.val
  match e.running with
  | none => .next s
  | some i =>
    if e.inLaw then .next s
    else
    let d := loop s i
    let t := d.rel.getD 0
    let at_ := t + loopNs s i
    let s := { s with loopEng := tset s.loopEng le.val { e with running := none } }
    -- handback from a bridge law: the last realised output is the bridge's (R196)
    let s := if d.bridge.running then setLoop s i (fun x => { x with u := normOut s i (ratOf x.bridge.u.toNat) }) else s
    let s1 := setLoop (loopSticky (frame s i t e.lawOut) i) i (fun x => { x with reseed := false })
    if d.overrun then .next (setLoop s1 i (fun x => { relDone s1 x i with u := d.u }))
    else
      let s1 := setLoop s1 i (fun x => relDone s1 x i)
      let x := loop s1 i
      let c := if x.flags.testBit 11 then condOf x.pv.q else 0
      let out := engOut s1 i x.u
      let err := f32OfRat (ratOf x.spEff.toNat - ratOf x.pv.v.toNat)
      let ff := f32OfRat ((x.fTerm : Rat) / (2 ^ 31 : Nat) * (paramRat s1 pLoopOutHi i - paramRat s1 pLoopOutLo i))
      let s1 := loopPoints s1 i at_ x.spEff (bv 32 err) (bv 32 ff) c (condOf x.pv.q)
      let s1 := if flag s1 pLoopBridge i then setLoop s1 i (fun x => { x with bridge := { x.bridge with
          next := some (x.spEff, out, x.pv.v, bv 32 (f32OfRat ((x.integ : Rat) / (2 ^ 31 : Nat) * (paramRat s1 pLoopOutHi i - paramRat s1 pLoopOutLo i)))) } }) else s1
      let dst := param s1 pLoopOutDst i
      if dst = 0 then .next s1
      else
        let id := s1.sched.nextSet
        let s1 := { s1 with sched := { s1.sched with nextSet := id + 1 } }
        let s1 := sendSet s1 id t at_ true [⟨dst, out, if c = 0 then 0 else x.pv.q⟩]
        .next (sendApply s1 (nodeOf dst).toList id at_)

/-! ### Auto-tune (R190-R193) -/

/-- The request of the LOOP_TUNE that a tune belongs to. -/
def tuneReq (x : TuneSt) : Req := { mb := ⟨x.mb % 8, Nat.mod_lt _ (by decide)⟩, tag := bv 5 x.tag }

/-- The smallest and largest of Q31 signals. -/
def spread (l : List Int) : Int := match l with | [] => 0 | x :: r => r.foldl max x - r.foldl min x

/-- The samples of the last max(2 s, 20 Ts) (R190). -/
def checkWindow (s : State) (i : Nat) : Nat := max (2 * sec) (20 * loopNs s i)

/-- Whether the process has been steady over the whole window. -/
def steady (s : State) (i : Nat) (x : TuneSt) : Bool :=
  let w := checkWindow s i
  let l := x.hist.filter (fun h => decide (s.t0 ≤ h.1 + w))
  let eps := gridOf (paramRat s pLoopTuneHyst i / 100 * (2 ^ 31 : Nat))
  decide (x.accepted + w ≤ s.t0) && decide (spread (l.map (·.2)) < 2 * eps)

/-- TUNE_CHECK_TIMEOUT (R190): the end of CHECK: to SETTLE when the process is steady; otherwise after 60 s the tune aborts NOT_STEADY. -/
def execTuneCheckTimeout (loop_ : BitVec 9) (s : State) : Res :=
  let i := loop_.toNat
  match (loop s i).tune with
  | some x =>
    if x.phase ≠ 1 then .next s
    else if steady s i x then .next (setLoop s i (fun d => { d with tune := some { x with phase := 2, hist := [], crossings := [], peaks := [] } }))
    else if s.t0 < x.accepted + 60 * sec then .next s
    else .next (abortTune s i 0)
  | none => .next s

/-- TUNE_SETTLE_DONE (R190): two full relay periods have passed; MEASURE begins. -/
def execTuneSettleDone (loop_ : BitVec 9) (s : State) : Res :=
  let i := loop_.toNat
  match (loop s i).tune with
  | some x =>
    if x.phase ≠ 2 then .next s
    else if excursion s i x then .next (abortTune s i 3)
    else if x.crossings.length < 3 then .next s
    else .next (setLoop s i (fun d => { d with tune := some { x with phase := 3, crossings := x.crossings.drop (x.crossings.length - 1), peaks := [] } }))
  | none => .next s

/-- Consecutive differences of crossings. -/
def diffs : List Nat → List Nat
  | a :: b :: r => (b - a) :: diffs (b :: r)
  | _ => []

/-- Whether every value lies within 20 % of the mean (R192 INCONSISTENT). -/
def consistent (l : List Rat) : Bool :=
  let m := (l.foldl (· + ·) 0 : Rat) / (l.length : Nat)
  l.all (fun v => decide ((if v < m then m - v else v - m) ≤ m / 5))

/-- The proposed gains of the rules (R191). -/
def tuneGains (rule : Nat) (ku tu : Rat) : Rat × Rat × Rat :=
  match rule with
  | 0 => (45 / 100 * ku, tu / (12 / 10), 0)
  | 1 => (6 / 10 * ku, tu / 2, tu / 8)
  | 2 => (ku / (32 / 10), 22 / 10 * tu, 0)
  | _ => (ku / (22 / 10), 22 / 10 * tu, tu / (63 / 10))

/-- TUNE_MEASURE_DONE (R190-R192): three full relay periods recorded: the result, or an abort INCONSISTENT, TOO_FAST or NO_OSCILLATION. -/
def execTuneMeasureDone (loop_ : BitVec 9) (s : State) : Res :=
  let i := loop_.toNat
  match (loop s i).tune with
  | some x =>
    if x.phase ≠ 3 then .next s
    else if excursion s i x then .next (abortTune s i 3)
    else if x.crossings.length < 4 ∨ x.peaks.length < 3 then .next s
    else
      let ps := ((diffs x.crossings).take 3).map (fun n => (n : Rat) / 1000000000)
      let as_ := (x.peaks.take 3).map (fun n => (n : Rat))
      let tu := (ps.foldl (· + ·) 0 : Rat) / 3
      let a := (as_.foldl (· + ·) 0 : Rat) / 6
      let eps := paramRat s pLoopTuneHyst i / 100 * (2 ^ 31 : Nat)
      if !consistent ps || !consistent as_ then .next (abortTune s i 5)
      else if tu < 20 * loopTs s i then .next (abortTune s i 6)
      else if a ≤ eps then .next (abortTune s i 7)
      else
        let dAmp := gridOf (paramRat s pLoopTuneAmp i / 100 * (2 ^ 31 : Nat))
        let ku := Config.tuneKu dAmp (gridOf a) (gridOf eps)
        let rule := param s pLoopTuneRule i
        let g := tuneGains rule (ratOf ku.toNat) tu
        let res : TuneRes := { ku := ku, tu := bv 32 (f32OfRat tu), amp := bv 32 (f32OfRat (a / (2 ^ 31 : Nat))), rule := rule,
                               kp := bv 32 (f32OfRat g.1), ti := bv 32 (f32OfRat g.2.1), td := bv 32 (f32OfRat g.2.2) }
        let s := setLoop s i (fun d => { d with tune := some { x with phase := 4 }, result := some res, u := x.u0 })
        .next (finish s (tuneReq x) 0x0311 true 0)
  | none => .next s

/-- TUNE_TIMEOUT (R192): MEASURE not complete within TUNE_TIMEOUT of acceptance. -/
def execTuneTimeout (loop_ : BitVec 9) (s : State) : Res :=
  let i := loop_.toNat
  match (loop s i).tune with
  | some x =>
    if (x.phase = 1 ∨ x.phase = 2 ∨ x.phase = 3) ∧ x.accepted + param s pLoopTuneTimeout i * sec ≤ s.t0 then .next (abortTune s i 4) else .next s
  | none => .next s

/-! ### Bridge laws (R194-R196) -/

/-- The tile of a designated loop. -/
def bridgeTile (s : State) (i : Nat) : Nat := (nodeOf (param s pLoopOutDst i)).getD 0

/-- The bridge error in binary32 engineering units. -/
def bridgeErr (s : State) (i : Nat) (sp pv : Nat) : Nat :=
  if param s pLoopAction i = 1 then fsub f32 true pv sp else fsub f32 true sp pv

/-- BRIDGE_LAW_START (R195): at an instant of its grid after silent-hold entry the law starts with I so that its first output equals the seed. -/
def execBridgeLawStart (loop_ : BitVec 9) (s : State) : Res :=
  let i := loop_.toNat
  let d := loop s i
  let n := node s (bridgeTile s i)
  if !d.present || !flag s pLoopBridge i || !n.silent || d.bridge.running || d.bridge.expired ||
      s.t0 % (param s pLoopBrPeriod i * us) != 0 then .next s
  else
    let e := bridgeErr s i d.bridge.seedSp.toNat d.bridge.seedPv.toNat
    let I := fsub f32 true d.bridge.seedU.toNat (fmul f32 true (param s pLoopBrKp i) e)
    .next (loopStatePoint (setLoop s i (fun d => { d with st := 8, bridge := { d.bridge with
      running := true, startAt := n.silentSince, u := d.bridge.seedU, un := none, i := bv 32 I } })) i s.t0)

/-- The larger or smaller of two binary32 values. -/
def fmax2 (a b : Nat) : Nat := if flt f32 a b then b else a
/-- The smaller of two binary32 values. -/
def fmin2 (a b : Nat) : Nat := if flt f32 b a then b else a

/-- The bridge output computed one period before is applied (R195). -/
def bridgeApply (s : State) (i : Nat) : State :=
  match (loop s i).bridge.un with
  | none => s
  | some u =>
    let s := setLoop s i (fun d => { d with bridge := { d.bridge with u := u, un := none } })
    if ptRegion (param s pLoopOutDst i) = 3 then aoRefresh s (ptIndex (param s pLoopOutDst i) / 16) else s

/-- BRIDGE_PERIOD (R195): the output of the period before is applied; PV is sampled at the tile, and its output waits one period. -/
def execBridgePeriod (loop_ : BitVec 9) (s : State) : Res :=
  let i := loop_.toNat
  let b := (loop s i).bridge
  if !b.running || b.expired || s.t0 % (param s pLoopBrPeriod i * us) != 0 then .next s
  else
    let s := bridgeApply (fieldNow s (bridgeTile s i) s.t0) i
    let b := (loop s i).bridge
    let fv := tget ((0 : Word), (0x200 : BitVec 16)) s.img.field (param s pLoopPvSrc i)
    let put (u I : Word) : State := setLoop s i (fun d => { d with bridge := { d.bridge with un := some u, i := I } })
    if !(qAlways (qualOf fv.2)) then .next (put b.u b.i)
    else
      let band := param s pLoopBrBand i
      let lo := fmax2 (param s pLoopOutMin i) (fsub f32 true b.seedU.toNat band)
      let hi := fmin2 (param s pLoopOutMax i) (fadd f32 true b.seedU.toNat band)
      if feq f32 band 0 then .next (put b.seedU b.i)
      else
        let e := bridgeErr s i b.seedSp.toNat fv.1.toNat
        let v := fadd f32 true (fmul f32 true (param s pLoopBrKp i) e) b.i.toNat
        let u := fmin2 hi (fmax2 lo v)
        let back := (flt f32 hi v && flt f32 e 0) || (flt f32 v lo && flt f32 0 e)
        let ti := param s pLoopBrTi i
        let ts := fdiv f32 true (fofInt f32 (param s pLoopBrPeriod i)) (fofInt f32 1000000)
        let I := if flt f32 0 ti && (feq f32 v u || back) then
            fadd f32 true b.i.toNat (fmul f32 true (fdiv f32 true (fmul f32 true (param s pLoopBrKp i) ts) ti) e) else b.i.toNat
        .next (put (bv 32 u) (bv 32 I))

/-- BRIDGE_EXPIRY (R196): 5 s after silent-hold entry the output holds its last bridge value. -/
def execBridgeExpiry (loop_ : BitVec 9) (s : State) : Res :=
  let i := loop_.toNat
  let d := loop s i
  if !d.bridge.running || d.bridge.expired || decide (s.t0 < d.bridge.startAt + 5 * sec) then .next s
  else .next (loopStatePoint (setLoop s i (fun d => { d with st := 9, bridge := { d.bridge with expired := true } })) i s.t0)

/-! ### Loop commands (chapter 23) -/

/-- The loop a command names, or none when out of range. -/
def loopArg (r : Req) : Nat := fld r.payload 0 2

/-- LOOP_FLAGS_CLEAR (R172): clear facet 5 of one loop or of all. -/
def execLoopFlagsClear (r : Req) (s : State) : Res :=
  let n := loopArg r
  .next (command s r 0x0310 true allModes 4 (decide (r.target = 0 ∧ fld r.payload 2 2 = 0 ∧ (n < 512 ∨ n = 0xFFFF))) (fun s =>
    let clr (s : State) (i : Nat) : State :=
      update (setLoop s i (fun d => { d with sticky := 0, seen := 0 })) s.t0 (ptid 6 (i * 256 + 5)) 0
    let s := if n = 0xFFFF then (tkeys s.loops).foldl clr s else clr s n
    finish s r 0x0310 true 0))

/-- LOOP_TUNE (R190): accepted in M7 for a loop in AUTO with a usable PV when no other tune runs on its engine. -/
def execLoopTune (r : Req) (s : State) : Res :=
  let i := loopArg r
  .next (command s r 0x0311 true [.maint] 4 (decide (r.target = 0 ∧ fld r.payload 2 2 = 0 ∧ i < 512)) (fun s =>
    let d := loop s i
    let busy := s.loops.any (fun e => e.1 / 64 == i / 64 && e.2.tune.any (fun x => x.phase == 1 || x.phase == 2 || x.phase == 3))
    if !d.present || d.st != 5 || !usable d.pv.q (d.expired.headD false) || busy then finish s r 0x0311 true 0x0403
    else
      let r0 := clamp31 (norm (ratOf d.spEff.toNat) (paramRat s pLoopPvLo i) (paramRat s pLoopPvHi i))
      let s := abortProfile s i
      let s := setLoop s i (fun d => { d with result := none, st := 7, tuneOff := 0, tune := some { accepted := s.t0, mb := r.mb, tag := r.tag.toNat, r0 := r0, u0 := d.u } })
      accepted s r 0x0311))

/-- LOOP_TUNE_RESULT (R193). -/
def execLoopTuneResult (r : Req) (s : State) : Res :=
  let i := loopArg r
  .next (command s r 0x0312 false allModes 4 (decide (r.target = 0 ∧ fld r.payload 2 2 = 0 ∧ i < 512)) (fun s =>
    match (loop s i).result with
    | none => finish s r 0x0312 false 0x0405
    | some x => finish s r 0x0312 false 0 (leBytes 4 x.ku.toNat ++ leBytes 4 x.tu.toNat ++ leBytes 4 x.amp.toNat ++ [bv 8 x.rule, 0, 0, 0] ++
        leBytes 4 x.kp.toNat ++ leBytes 4 x.ti.toNat ++ leBytes 4 x.td.toNat)))

end Sys2Proof.Machine
end

