-- ==== Sys2Proof/Machine/Lining.lean ====
section
/-! DEFINITION. Lining packets and credits, heartbeats, T0 alignment, strobe events, output sets and the scrubs (R15-R41). -/

namespace Sys2Proof.Machine

/-- The key of a link direction and class. -/
def linkKey (link : Byte) (up : Bool) (cls : Nat) : Nat := link.toNat * 16 + cls * 2 + (if up then 1 else 0)
/-- A link direction's record in one class. -/
def linkSt (s : State) (k : Nat) : LinkSt := tget {} s.links k
/-- Change it. -/
def setLink (s : State) (k : Nat) (f : LinkSt → LinkSt) : State := { s with links := tmod {} s.links k f }

/-- Credits of 64 bytes that a packet of `n` bytes takes, header, payload and CRC counted (R18). -/
def creditsFor (n : Nat) : Nat := (n + 63) / 64
/-- A packet's length in bytes on the link. -/
def Packet.size (p : Packet) : Nat := 12 + p.payload.length

/-- Decode a packet's bytes (R16): none when the length or the CRC fails. -/
def packetOf (raw : List Byte) : Option Packet :=
  let h := fld raw 0 8
  let len := h / 2 ^ 26 % 64
  if raw.length = 12 + 8 * len ∧ len ≤ 32 ∧ crc32c (raw.take (8 + 8 * len)) = bv 32 (fld raw (8 + 8 * len) 4) then
    some { dest := bv 8 (h / 2 ^ 56), src := bv 8 (h / 2 ^ 48), cls := h / 2 ^ 45 % 8, ty := h / 2 ^ 40 % 32,
           seq := bv 8 (h / 2 ^ 32), arg := bv 26 h, payload := (raw.drop 8).take (8 * len) }
  else none

/-- The class a packet's header names. -/
def packetClass (raw : List Byte) : Nat := fld raw 0 8 / 2 ^ 45 % 8

/-- PACKET_RECEIVE (R16, R19, R20): accept the next packet in sequence, or discard it and answer with a negative acknowledge of its class. -/
def execPacketReceive (link : Byte) (up : Bool) (raw : List Byte) (s : State) : Res :=
  let k := linkKey link up (packetClass raw)
  let nak := send s Out.negativeAcknowledge link.toNat [packetClass raw]
  match packetOf raw with
  | some p =>
    if p.cls ≠ 7 ∧ p.seq = (linkSt s k).rxSeq then
      .next (setLink s k (fun l => { l with rxSeq := l.rxSeq + 1, held := l.held + creditsFor p.size, accepted := some p }))
    else .next nak
  | none => .next nak

/-- Publish the retransmissions of an island's link in a class, both directions together (R41, R44; DEDUCED, log 132). -/
def retransPoint (s : State) (link cls : Nat) : State :=
  sysPoint s (0x1000 + link * 16 + cls * 2 + 1) (((linkSt s (link * 16 + cls * 2)).retrans + (linkSt s (link * 16 + cls * 2 + 1)).retrans) % 2 ^ 32)

/-- NEGATIVE_ACKNOWLEDGE (R19): retransmit from the first unacknowledged packet; after 3 failed retransmissions of it the link reports LINK_FAULT. -/
def execNegativeAcknowledge (link : Byte) (up : Bool) (cls : Fin 7) (s : State) : Res :=
  let k := linkKey link up cls
  let l := linkSt s k
  let failed := if l.retx = 3 then report s 0x0301 link.toNat cls else s
  let s := setLink failed k (fun l => { l with retx := if l.retx = 3 then 1 else l.retx + 1, retrans := (l.retrans + l.unacked.length) % 2 ^ 32 })
  let s := retransPoint s link.toNat cls
  .next (l.unacked.foldl (fun s p => send s Out.packet link.toNat [cls, p.seq.toNat] p.payload) s)

/-- The packets still unacknowledged once `n` credits have come back: a packet whose buffer was freed has been received (DEDUCED, log 8). -/
def ackBy (n : Nat) : List Packet → List Packet
  | [] => []
  | p :: r => if creditsFor p.size ≤ n then ackBy (n - creditsFor p.size) r else p :: r

/-- CREDIT_RETURN (R18): restore the sender's credits of the class; the packets they covered are acknowledged. -/
def execCreditReturn (link : Byte) (up : Bool) (cls : Fin 7) (n : Nat) (s : State) : Res :=
  .next (setLink s (linkKey link up cls) (fun l =>
    let rest := ackBy n l.unacked
    { l with credits := l.credits + n, unacked := rest, retx := if rest.length = l.unacked.length then l.retx else 0, held := l.held - n }))

/-- The islands of the control die and the tiles that send heartbeats to the Ridge (the island table). -/
def islandIds : List Nat :=
  [0x00] ++ (List.range 16).map (0x10 + ·) ++ (List.range 14).map (0x20 + ·) ++ (List.range 4).map (0x30 + ·) ++
  [0x40, 0x41, 0x42, 0x43, 0x48, 0x49, 0x4A, 0x4B, 0x50] ++ (List.range 4).map (0x60 + ·)

/-- HEARTBEAT_SEND (R22): each tile that is linked hears the control die, and the Ridge hears every island in service. -/
def execHeartbeatSend (s : State) : Res :=
  let s1 := islandIds.foldl (fun s i => if (island s i).inService then setIsland s i (fun d => { d with lastHb := s.t0 }) else s) s
  .next ([0, 1, 2, 3].foldl (fun s n => if (node s n).powered && (node s n).linked then setNode s n (fun d => { d with lastHb := s.t0 }) else s) s1)

/-- SILENT_HOLD (R22, R355): a tile without a heartbeat for 200 µs holds its outputs and buffers its samples; the Ridge records SILENT_TILE. -/
def execSilentHold (tile : Fin 4) (s : State) : Res :=
  if s.t0 < (node s tile).lastHb + 200 * us ∨ (node s tile).silent ∨ !(node s tile).powered then .next s
  else .next (report (setNode s tile (fun d => { d with silent := true, silentSince := s.t0, gap := [], gapFull := false, gapLost := [], gapFullAt := 0, gapEv := [], replaying := false }))
    0x0203 (0x60 + tile) tile)

/-- A rate correction within 2,000 ppm whose value the spec leaves open (R24, DESIGN CHOICE, log 9). -/
def ratePick (v : DWord) : Int := (v.toNat % 4001 : Nat) - 2000

/-- Bring a tile's outputs to what the pin rows now give (R290, R303). -/
def refreshOuts' (n : Nat) (s : State) : State :=
  let s := (s.io.ch.filter (fun e => e.1 / 128 == n && isOut s e.1)).foldl (fun s e => chRefresh s e.1) s
  (s.io.ao.filter (fun e => e.1 / 8 == n)).foldl (fun s e => aoRefresh s e.1) s

/-- An aligned tile that has power gets its configuration, and while the device runs its heartbeats (R22, R569). -/
def tileReady (s : State) (n : Nat) : State :=
  if !(node s n).powered then s
  else refreshOuts' n (setNode s n (fun d => { d with configured := true, linked := d.linked || decide (s.rst.stage = 0), lastHb := if d.silent then d.lastHb else s.t0 }))

/-- T0_ALIGN_EXCHANGE (R24, R25): the first exchange sets the copy; later ones correct its rate; 8 within 20 ns align it, 4 beyond 200 ns are a T0 fault. -/
def execT0AlignExchange (isl : Byte) (offset : Int) (s : State) : Res :=
  let i := isl.toNat
  let d := island s i
  if !d.copySet then .next (setIsland s i (fun d => { d with copySet := true, offset := 0, ratePpm := 0, good := 0, aligned := false, bad200 := 0 }))
  else
    let (v, s) := fresh s
    let good := if offset.natAbs ≤ 20 then d.good + 1 else 0
    let bad := if offset.natAbs > 200 then d.bad200 + 1 else 0
    let s := setIsland s i (fun d => { d with offset := offset, ratePpm := ratePick v, good := good, aligned := d.aligned || decide (8 ≤ good), bad200 := if bad = 4 then 0 else bad })
    let s := if !d.aligned && decide (8 ≤ good ∧ 0x60 ≤ i ∧ i < 0x64) then tileReady s (i - 0x60) else s
    let s := if d.aligned && decide (offset.natAbs > 20) then note s Ev.t0Drift i 0 0 [offset.natAbs] else s
    .next (if bad = 4 then report s 0x0701 i else s)

/-- T0_CROSS_CHECK (R26): the third consecutive window beyond 1,000 ppm is a T0 fault. -/
def execT0CrossCheck (t0Adv ridgeAdv : Nat) (s : State) : Res :=
  let off := if t0Adv ≥ ridgeAdv then t0Adv - ridgeAdv else ridgeAdv - t0Adv
  let bad := if off * 1000 > ridgeAdv then s.clock.crossBad + 1 else 0
  let s := { s with clock := { s.clock with crossBad := if bad = 3 then 0 else bad } }
  .next (if bad = 3 then report s 0x0702 0x7F else s)

/-- REFCLK_LOST (R27, R468, R471): T0 runs on from the internal oscillator and the domains T1-T3 that follow a source go to holdover. -/
def execRefclkLost (s : State) : Res :=
  if !s.clock.refclk then .next s
  else
    let s := t0Facet { s with clock := { s.clock with refclk := false, refGoodNs := 0 } }
    let s := ([1, 2, 3] : List Nat).foldl (fun s d =>
      let old := (domain s d).st
      if old = 1 ∨ old = 2 then timePoints (noteHold (setDomain s d (fun m => { m.toHoldover s.t0 with byRefclk := true })) d old) d else s) s
    .next (report (note s Ev.refclkLost 0x7F 0 0 [s.t0]) 0x0502)

/-- REFCLK_RETURN (R27): T0 returns to REFCLK without a step. -/
def execRefclkReturn (s : State) : Res :=
  .next (t0Facet { s with clock := { s.clock with refclk := true }, domains := s.domains.map (fun e => (e.1, { e.2 with byRefclk := false })) })

/-- Count a late strobe of an island and publish the count (R30, R44). -/
def lateStrobe (s : State) (isl : Nat) : State :=
  let s := setIsland s isl (fun d => { d with late := (d.late + 1) % 2 ^ 32 })
  sysPoint s (0x1000 + isl * 16 + 15) (island s isl).late

/-- STROBE_EVENT_RECEIVE (R28, R30): the node stores the next strobe sent to it; one whose stated T0 has passed executes at once and is flagged and counted. -/
def execStrobeEventReceive (node_ : Fin 7) (s : State) : Res :=
  let n := node_.val
  match s.sched.strobesOut.find? (fun e => e.1 == n) with
  | none => .next s
  | some e =>
    let s := { s with sched := { s.sched with strobesOut := s.sched.strobesOut.erase e } }
    let isl := nodeIsland n
    if !(island s isl).aligned then .next s
    else if e.2.due < s.t0 then
      let s := lateStrobe s isl
      .next (match e.2.set with | none => doSample s n s.t0 true | some id => doApply s n s.t0 id)
    else if (node s n).strobes.length ≥ 256 then .next s
    else
      let s := setNode s n (fun d => { d with strobes := d.strobes ++ [e.2] })
      .next { s with sched := { s.sched with pendMax := max s.sched.pendMax (node s n).strobes.length } }

/-- The earliest pending strobe of a kind whose stated T0 has come. -/
def dueStrobe (s : State) (n : Nat) (sample : Bool) : Option Strobe :=
  ((node s n).strobes.filter (fun e => (e.set.isNone == sample) && decide (e.due ≤ s.t0))).foldl
    (fun b e => match b with | none => some e | some x => if e.due < x.due then some e else some x) none

/-- SAMPLE_STROBE (R28, R98): one sample strobe executes for the earliest instant due, whatever the number of strobes that name it. -/
def execSampleStrobe (node_ : Fin 7) (s : State) : Res :=
  let n := node_.val
  if !(island s (nodeIsland n)).aligned then .next s
  else match dueStrobe s n true with
  | none => .next s
  | some e => .next (doSample (setNode s n (fun d => { d with strobes := d.strobes.filter (fun x => !(x.set.isNone && x.due == e.due)) })) n e.due false)

/-- APPLY_STROBE (R29, R31): a sample strobe due at or before the same T0 executes first; then the set named is applied. -/
def execApplyStrobe (node_ : Fin 7) (s : State) : Res :=
  let n := node_.val
  if !(island s (nodeIsland n)).aligned then .next s
  else match dueStrobe s n false with
  | none => .next s
  | some a =>
    let s := match dueStrobe s n true with
      | some e => if e.due ≤ a.due then doSample (setNode s n (fun d => { d with strobes := d.strobes.filter (fun x => !(x.set.isNone && x.due == e.due)) })) n e.due false else s
      | none => s
    .next (doApply (setNode s n (fun d => { d with strobes := d.strobes.erase a })) n a.due (a.set.getD 0))

/-- OUTPUT_SET_RECEIVE (R31): the next packet of an output set on its way to the node arrives. -/
def execOutputSetReceive (node_ : Fin 7) (s : State) : Res :=
  let n := node_.val
  match s.sched.setsOut.find? (fun e => e.1 == n) with
  | none => .next s
  | some e => .next (takeSet { s with sched := { s.sched with setsOut := s.sched.setsOut.erase e } } n e.2)

/-- DRAM_SCRUB (R36): a single-bit error is corrected, a double-bit error goes to the Ridge with its address. -/
def execDramScrub (addr : Word) (errs : Fin 3) (s : State) : Res :=
  let s := { s with memErr := { s.memErr with dramPos := addr.toNat } }
  if errs.val = 0 then .next s
  else if errs.val = 1 then .next (report { s with memErr := { s.memErr with dramSingle := s.memErr.dramSingle + 1 } } 0x0403 0x40 0 addr.toNat)
  else .next (report { s with memErr := { s.memErr with dramDouble := s.memErr.dramDouble ++ [addr.toNat] } } 0x0401 0x40 0 addr.toNat)

/-- COMMONS_SCRUB (R37): a single-bit error is corrected, a double-bit error goes to the Ridge. -/
def execCommonsScrub (off : BitVec 23) (errs : Fin 3) (s : State) : Res :=
  let s := { s with memErr := { s.memErr with commonsPos := off.toNat } }
  if errs.val = 0 then .next s
  else if errs.val = 1 then .next (report { s with memErr := { s.memErr with commonsSingle := s.memErr.commonsSingle + 1 } } 0x0403 0x41 0 off.toNat)
  else .next (report { s with memErr := { s.memErr with commonsDouble := s.memErr.commonsDouble ++ [off.toNat] } } 0x0402 0x41 0 off.toNat)

end Sys2Proof.Machine
end

