-- ==== Sys2Proof/Machine/Native.lean ====
section
/-! DEFINITION. Native mode as the block sees it: the image aperture, exceptions, the time limit and the device CSRs (R140-R148). -/

namespace Sys2Proof.Machine

/-- Change an engine's native registers. -/
def setNat (s : State) (c : Nat) (f : NatRegs → NatRegs) : State := setEngine s c (fun e => { e with nat := f e.nat })

/-- Write an integer register; x0 takes none. -/
def NatRegs.setX (n : NatRegs) (rd : Nat) (v : Word) : NatRegs := if rd = 0 then n else { n with x := n.x.set rd v }

/-- Begin the engine's next START or RECOVERY run: image slot, and the program it recovers (R140); a1 holds no release instant and is not stated (DESIGN CHOICE, log 97). -/
def natNext (s : State) (c : Nat) : State :=
  match (engine s c).natQueue with
  | [] => setEngine s c (fun e => { e with role := 0, waiting := true })
  | q :: r =>
    let g := tget {} s.sched.natives q.1
    let task := ((g.tasks.find? (fun t => g.role != 2 || (task s t.1).prog == q.2)).map (·.1)).getD 0
    let (v, s) := fresh s
    setEngine s c (fun e => { e with
      role := g.role, roleSince := s.t0, roleProg := if g.role = 2 then q.2 else q.1, natQueue := r, waiting := false
      nat := ({} : NatRegs).start g task (bv 32 v.toNat) })

/-- Queue the runs of a role, as (engine, image slot, program), and begin each engine's first (R140). -/
def natRuns (s : State) (l : List (Nat × Nat × Nat)) : State :=
  let s := l.foldl (fun s e => setEngine s e.1 (fun d => { d with natQueue := d.natQueue ++ [e.2] })) s
  (List.range 16).foldl (fun s c => if (engine s c).natQueue.isEmpty then s else natNext s c) s

/-- The START runs: each START image on each engine of its mask (R140). -/
def startRuns (s : State) : List (Nat × Nat × Nat) :=
  (s.sched.natives.filter (fun e => e.2.role == 1)).flatMap (fun e => ((List.range 16).filter (fun c => e.2.mask.getLsbD c)).map (fun c => (c, e.1, 0)))

/-- The RECOVERY runs: each RECOVERY image once for every program with a task bound to it, on the program's home engine (R140). -/
def recoveryRuns (s : State) : List (Nat × Nat × Nat) :=
  (s.sched.natives.filter (fun e => e.2.role == 2)).flatMap (fun e =>
    ((tkeys s.sched.progs).filter (fun k => e.2.tasks.any (fun t => (task s t.1).present && (task s t.1).prog == k))).map (fun k => (tget 0 s.sched.home k, e.1, k)))

/-- Whether a START or RECOVERY run is still going on. -/
def natBusy (s : State) : Bool := (List.range 16).any (fun c => (engine s c).role == 1 || (engine s c).role == 2)

/-- An exception in native code (R145): a trap to mtvec, or the end of the release with NATIVE_TRAP when mtvec is 0. -/
def nativeTrap (s : State) (c : Nat) (cause epc tval : Word) : State :=
  let n := (engine s c).nat
  if n.mtvec ≠ 0 then setNat s c (fun n => { n with mepc := epc, mcause := cause, mtval := tval, pc := n.mtvec &&& 0xFFFFFFFC })
  else match (engine s c).running with
    | some _ => blFault (setNat s c (fun n => { n with mcause := cause })) c 9 epc.toNat cause.toNat
    | none => natNext (note (setNat (setEngine s c (fun e => { e with lastFault := (9, epc.toNat) })) c (fun n => { n with mcause := cause })) Ev.blFault (0x10 + c) (engine s c).roleProg 0 [9, epc.toNat, cause.toNat]) c

/-- The quality a native write carries: DLPQ, clamped as for STWQ (R124, R147). -/
def clampQ (q : Nat) : Nat := if q = 7 ∨ q = 8 ∨ 11 ≤ q then 6 else q

/-- A store to a point's VALUE (R142, R143): RECOVERY code may not store. -/
def nativePut (s : State) (c p : Nat) (v : Word) : State :=
  let e := engine s c
  if e.role = 2 then nativeTrap s c 7 e.nat.pc (bv 32 (0x40000000 + 8 * p))
  else outWrite s c p v (clampQ e.nat.pq.toNat)

/-- NATIVE_APERTURE_STORE (R143): a word store to offset 0 enters the output set; offset 4 or a narrower store raises a store access fault. -/
def execNativeApertureStore (ce : Fin 16) (p : BitVec 25) (hi narrow : Bool) (v : Word) (s : State) : Res :=
  let c := ce.val
  let e := engine s c
  if e.role = 0 then .next s
  else if hi || narrow then .next (nativeTrap s c 7 e.nat.pc (bv 32 (0x40000000 + 8 * p.toNat + (if hi then 4 else 0))))
  else .next (nativePut s c p.toNat v)

/-- NATIVE_EXCEPTION (R145). -/
def execNativeException (ce : Fin 16) (cause epc tval : Word) (s : State) : Res :=
  if (engine s ce.val).role = 0 then .next s else .next (nativeTrap s ce.val cause epc tval)

/-- NATIVE_TIMEOUT (R141): START or RECOVERY code past its 2 ms is stopped; after RECOVERY the retained state is loaded again from the staging copy. -/
def execNativeTimeout (ce : Fin 16) (s : State) : Res :=
  let c := ce.val
  let e := engine s c
  if (e.role ≠ 1 ∧ e.role ≠ 2) ∨ s.t0 < e.roleSince + 2 * ms then .next s
  else
    let k := e.roleProg
    let s1 := note s Ev.nativeTimeout (0x10 + c) k 0 [e.role]
    if e.role = 1 then .next (natNext s1 c)
    else .next (natNext (reloadProg s1 k) c)

/-- DLASK := 1 (R147): the release, or the START or RECOVERY run, ends and its output set is handed over. -/
def execDlaskEnd (ce : Fin 16) (s : State) : Res :=
  let c := ce.val
  let e := engine s c
  if e.role = 0 then .next s
  else match e.running with
    | some _ => .next (endAsk s c false)
    | none => .next (natNext s c)

/-- DLASK := 2 (R147): as 1, but the output set is discarded. -/
def execDlaskDiscard (ce : Fin 16) (s : State) : Res :=
  let c := ce.val
  let e := engine s c
  if e.role = 0 then .next s
  else match e.running with
    | some _ => .next (endAsk s c true)
    | none => .next (natNext s c)

/-- What native code reads of a point: as R117, or live when it runs outside a release. -/
def nativeRead (s : State) (c p : Nat) : Word × Nat :=
  match (engine s c).running with
  | some r => let e := readPoint s c r p; (e.1, e.2.1)
  | none => ((pget s p).value, (pget s p).qual)

/-- A read of DLPVAL (R147): VALUE of the point in DLPTID, its quality to DLPQ. -/
def execDlpvalRead (ce : Fin 16) (p : BitVec 25) (rd : Fin 32) (s : State) : Res :=
  let c := ce.val
  if (engine s c).role = 0 then .next s
  else
    let e := nativeRead s c p.toNat
    .next (setNat s c (fun n => { (n.setX rd.val e.1) with ptid := p, pq := bv 4 e.2 }))

/-- A write of DLPVAL (R147): as an aperture store to the point in DLPTID with the quality in DLPQ. -/
def execDlpvalWrite (ce : Fin 16) (p : BitVec 25) (q : BitVec 4) (v : Word) (s : State) : Res :=
  let c := ce.val
  if (engine s c).role = 0 then .next s
  else .next (nativePut (setNat s c (fun n => { n with ptid := p, pq := q })) c p.toNat v)

/-- A read of DLNOW (R147): the low half of the engine's T0 copy; the high half is latched into DLNOWH. -/
def execDlnowRead (ce : Fin 16) (rd : Fin 32) (s : State) : Res :=
  let c := ce.val
  if (engine s c).role = 0 then .next s
  else
    let t := ((s.t0 : Int) + (island s (0x10 + c)).offset).toNat
    .next (setNat s c (fun n => { (n.setX rd.val (bv 32 t)) with nowHi := bv 32 (t / 2 ^ 32) }))

/-- Whether a strobe request is refused: less than 10 µs ahead, or a tile that holds 256 pending events (R148). -/
def strobeRefused (s : State) (tiles : BitVec 4) (at_ : Nat) : Bool :=
  decide (at_ < s.t0 + 10 * us) || ([0, 1, 2, 3] : List Nat).any (fun n => tiles.getLsbD n && decide (256 ≤ (node s n).strobes.length))

/-- The request registers after GO. -/
def strobeReq (s : State) (c : Nat) (tiles : BitVec 4) (at_ : DWord) (kind refused : Bool) : State :=
  setNat s c (fun n => { n with strbt := at_, tiles := tiles, kind := kind, refused := refused, go := false })

/-- DLSTRBC.GO with KIND 0 (R147, R148): TEST code asks for a sample strobe on tiles at an instant in µs. -/
def execDlstrbcSampleStrobe (ce : Fin 16) (tiles : BitVec 4) (at_ : DWord) (s : State) : Res :=
  let c := ce.val
  let t := at_.toNat * us
  if (engine s c).role ≠ 3 then .next s
  else if strobeRefused s tiles t then .next (strobeReq s c tiles at_ false true)
  else
    let ns := ([0, 1, 2, 3] : List Nat).filter (fun n => tiles.getLsbD n)
    let s := strobeReq s c tiles at_ false false
    let s := { s with sched := { s.sched with
      strobesOut := s.sched.strobesOut ++ ns.map (fun n => (n, { due := t })), strobesSent := s.sched.strobesSent + ns.length } }
    .next (note s Ev.strobeRequest (0x10 + c) 0 0 [0, tiles.toNat, t])

/-- DLSTRBC.GO with KIND 1 (R147, R148): the output set as it stands is sent with its apply strobe, and the release goes on with an empty one. -/
def execDlstrbcApplyStrobe (ce : Fin 16) (tiles : BitVec 4) (at_ : DWord) (s : State) : Res :=
  let c := ce.val
  let t := at_.toNat * us
  if (engine s c).role ≠ 3 then .next s
  else if strobeRefused s tiles t then .next (strobeReq s c tiles at_ true true)
  else match (engine s c).running with
    | none => .next (strobeReq s c tiles at_ true false)
    | some r =>
      let ns := ([0, 1, 2, 3] : List Nat).filter (fun n => tiles.getLsbD n)
      let s := strobeReq s c tiles at_ true false
      let id := s.sched.nextSet
      let s := { s with sched := { s.sched with nextSet := id + 1 } }
      let s := sendApply (sendSet s id r.due t false r.outs) ns id t
      let s := setEngine s c (fun e => { e with running := some { r with outs := [] } })
      .next (note s Ev.strobeRequest (0x10 + c) 0 0 [1, tiles.toNat, t])

end Sys2Proof.Machine
end

