-- ==== Sys2Proof/Machine/Network.lean ====
section
/-! DEFINITION. Ethernet ports, CSX reception, PTP and the time domains (R452-R472, R368). -/

namespace Sys2Proof.Machine

/-- The RTC in ns: the keep tick counter at 32,768 Hz (R368). -/
def rtcNs (s : State) : Nat := keepTick s * sec / 32768

/-- Write the Pocket's timekeeping area (R368): a T1 correction takes a new RTC offset and trim, a flush keeps them. -/
def timekeepWrite (s : State) (correction : Bool) : State :=
  let at_ := 0x3C00
  let (trim, s) := if correction then let (v, s) := fresh s; (leBytes 4 v.toNat, s) else (mreads s.pocket.mem (at_ + 0x20) 4, s)
  let t1 := t1At s s.t0
  let off := if correction then leBytes 8 (BitVec.ofInt 64 ((t1 : Int) - rtcNs s)).toNat else mreads s.pocket.mem (at_ + 0x18) 8
  let b := leBytes 6 (keepTick s) ++ [0, 0] ++ leBytes 8 s.t0 ++ leBytes 8 t1 ++ off ++ trim ++
    (leBytes 1 (if s.clock.refclk then 2 else 3) ++ leBytes 1 (domain s 1).st ++ leBytes 1 (domain s 2).st ++ leBytes 1 (domain s 3).st) ++ List.replicate 84 0
  setPocket s (fun p => { p with mem := mwrites p.mem at_ (b ++ leBytes 4 (crc32c b).toNat) })

/-- Whether the timekeeping area passes its CRC (R469). -/
def timekeepOk (s : State) : Bool :=
  let b := mreads s.pocket.mem 0x3C00 0x7C
  fld (mreads s.pocket.mem 0x3C7C 4) 0 4 == (crc32c b).toNat && b.any (· != 0)

/-! ### Ports (R456, R459, R461) -/

/-- CSX_INPUT_FRAME (R459): the payload of a CSX frame from a source MAC. -/
def execCsxInputFrame (port : Fin 3) (mac : BitVec 48) (payload : List Byte) (s : State) : Res :=
  let p := port.val
  let s := ethSync s p
  if !(ethPort s p).on ∨ !(ethPort s p).up then .next s
  else
    let s := ethPoints (setEth s p (fun e => { e with rx := (e.rx + 1) % 2 ^ 32 })) p
    let k := stnKey (16 + p) (fld payload 2 2 % 1024)
    let bi := fld payload 6 1
    let len := fld payload 0x10 2
    let seq := fld payload 4 2
    let d := station s k
    match d.blocks[bi]? with
    | none => .next s
    | some b =>
      if !b.input ∨ b.mac ≠ mac.toNat ∨ !d.present ∨ fld payload 0 1 ≠ 1 ∨ fld payload 1 1 ≠ 2 ∨ 1023 < fld payload 2 2 ∨ fld payload 2 2 = 0 then .next s
      else if payload.length < 24 + len ∨ fld payload (20 + len) 4 ≠ (crc32c (payload.take (20 + len))).toNat then
        .next (ethPoints (setEth s p (fun e => { e with rejCrc := (e.rejCrc + 1) % 2 ^ 32 })) p)
      else if len < b.len then
        .next (note (ethPoints (setEth s p (fun e => { e with rejCrc := (e.rejCrc + 1) % 2 ^ 32 })) p) Ev.csxLenShort 0x48 p 0 [k, bi, len])
      else
        let key := k * 64 + bi
        let x := tget ({} : CsxBlock) s.csx key
        let free := d.st == .lost || (d.st == .returning && !d.seen.contains bi)
        let fine := free || (match x.rxSeq with | some o => later 16 seq o | none => true)
        if !fine then .next (ethPoints (setEth s p (fun e => { e with rejSeq := (e.rejSeq + 1) % 2 ^ 32 })) p)
        else .next (stnArrive { s with csx := tset s.csx key { x with rxSeq := some seq } } k bi b ((payload.drop 20).take len))

/-- QBV_GATE_CHANGE (R456): the gates of the entry at this instant take effect and frames that may start do. -/
def execQbvGateChange (port : Fin 3) (s : State) : Res :=
  let p := port.val
  let s := ethSync s p
  if !flag s pEthQbv p then .next s
  else
    let (idx, gates, all) := match qbvBase s p with
      | none => (0, 255, true)
      | some t => let l := gateList s p
                  let (i, g, _) := gateAt l (t % max 1 ((l.map (·.2)).sum)) 0
                  (i, g, false)
    .next (ethDrain (ethPoints (setEth s p (fun e => { e with gateIdx := idx, gates := bv 8 gates, allOpen := all })) p) p)

/-- ETH_LINK_CHANGE (R461): the link goes up at a speed or goes down, and output frames are discarded. -/
def execEthLinkChange (port : Fin 3) (up : Bool) (speed : Fin 4) (s : State) : Res :=
  let p := port.val
  let s := ethSync s p
  if up then .next (ethDrain (ethPoints (setEth s p (fun e => { e with up := decide (speed.val ≠ 0), speed := speed.val })) p) p)
  else .next (ethPoints (setEth s p (fun e => { e with up := false, queues := [] })) p)

/-! ### PTP (R455, R463, R472) -/

/-- The domains that take PTP from a port that is SLAVE. -/
def ptpDomains (s : State) (p : Nat) : List Nat :=
  ([1, 3] : List Nat).filter (fun d => param s pTimeSource d == 1 && param s pTimeSourcePort d == p && param s pEthPtpRole p == 1)

/-- PTP_SYNC_RECEIVE (R463): a Sync of a master with its receive stamp and origin plus correction. -/
def execPtpSyncReceive (port : Fin 3) (master stamp : DWord) (origin : DWord) (s : State) : Res :=
  let p := port.val
  let s := ethSync s p
  if !(ethPort s p).on ∨ !(ethPort s p).up ∨ s.t0 < stamp.toNat then .next s
  else
    let t := stamp.toNat - param s pEthPhyRxDelay p
    let s := setEth s p (fun e => { e with rx := (e.rx + 1) % 2 ^ 32 })
    .next (ethPoints ((ptpDomains s p).foldl (fun s d =>
      let m := domain s d
      if m.master ≠ 0 ∧ m.master ≠ master.toNat then s else takeMeas s d t ((origin.toNat + m.delay : Nat) : Int)) s) p)

/-- PTP_ANNOUNCE_RECEIVE (R472): the best of the masters that a SLAVE port hears: the lower rank of data set, then the lower identity. -/
def execPtpAnnounceReceive (port : Fin 3) (master rank : DWord) (steps : Half) (s : State) : Res :=
  let p := port.val
  let s := ethSync s p
  .next ((ptpDomains s p).foldl (fun s d =>
    let m := domain s d
    let better := m.master = 0 ∨ m.master = master.toNat ∨ rank.toNat < m.masterPrio ∨ (rank.toNat = m.masterPrio ∧ master.toNat < m.master)
    if better then setDomain s d (fun m => { m with
        meas := if m.master = master.toNat then m.meas else [], master := master.toNat, masterPrio := rank.toNat, masterSteps := steps.toNat }) else s) s)

/-- PTP_DELAY_RESPONSE (R463): an exchange with its four stamps gives the mean path delay. -/
def execPtpDelayResponse (port : Fin 3) (t1 t2 t3 t4 : DWord) (s : State) : Res :=
  let p := port.val
  let delay := ((t2.toNat : Int) - t1.toNat + ((t4.toNat : Int) - t3.toNat)) / 2
  .next (ethPoints ((ptpDomains s p).foldl (fun s d => timePoints (setDomain s d (fun m => { m with delay := delay.toNat })) d) s) p)

/-- The interval of Sync in ns (R454, R472). -/
def syncIv (s : State) (p : Nat) : Nat :=
  let l := (bv 8 (param s pEthPtpSyncLog p)).toInt
  if 0 ≤ l then sec * 2 ^ l.toNat else sec / 2 ^ (-l).toNat

/-- PTP_SYNC_SEND (R453, R472): a MASTER port sends Sync with its Follow_Up, and Announce, while T1 is not UNSYNC; in HOLDOVER it announces clockClass 248; a standby is silent (R479). -/
def execPtpSyncSend (port : Fin 3) (s : State) : Res :=
  let p := port.val
  let s := ethSync s p
  let m := domain s 1
  if param s pEthPtpRole p ≠ 2 ∨ s.mode.cur = .standby ∨ m.st = 0 ∨ !(ethPort s p).on ∨ s.t0 < (ethPort s p).syncAt + syncIv s p then .next s
  else
    let seq := (ethPort s p).syncSeq
    let s := setEth s p (fun e => { e with syncAt := s.t0, syncSeq := (seq + 1) % 65536 })
    let rank := if m.st = 3 then m.masterPrio % 2 ^ 56 / 2 ^ 48 * 2 ^ 48 + 248 * 2 ^ 40 + m.masterPrio % 2 ^ 40 else m.masterPrio
    let s := ethEnqueue s p 7 0 (Config.ptpBytes 0 seq (t1At s s.t0) 0 0)
    let s := ethEnqueue s p 0 0 (Config.ptpBytes 2 seq (t1At s s.t0) 0 0)
    .next (ethEnqueue s p 0 0 (Config.ptpBytes 1 seq (t1At s s.t0) rank (m.masterSteps + 1)))

/-! ### Domains (R465-R469) -/

/-- After a step or a new rate: an anchor, T1's timekeeping area, the event. -/
def timeWritten (s : State) (d : Nat) (ev : Ev) (l : List Nat) : State :=
  let s := askAnchor s 2
  let s := if d = 1 then timekeepWrite s true else s
  timePoints (note s ev 0x48 d 0 l) d

/-- What a step of T1 does besides: Disc_Bit, and the jump of schedules that follow T1 (R456, R469). -/
def t1Stepped (s : State) : State :=
  let s := discAll s
  [0, 1, 2].foldl (fun s p => if flag s pEthQbv p && param s pEthQbvBase p == 1 then note s Ev.ethQbvJump 0x48 p 0 [s.t0] else s) s

/-- TIME_CORRECTION (R465, R466): at a multiple of CORR_PERIOD. -/
def execTimeCorrection (dom : Fin 3) (s : State) : Res :=
  let d := dom.val + 1
  let m := domain s d
  let per := param s pTimeCorrPeriod d * ms
  if m.st = 0 ∨ per = 0 ∨ s.t0 % per ≠ 0 ∨ s.t0 ≤ m.c then .next s
  else
    let s := setDomain s d (fun m => { m with base := m.fine s.t0, c := s.t0 })
    if m.st = 3 ∨ m.offs = [] then .next (timePoints (setDomain s d (fun m => { m with offs := [] })) d)
    else
      let o := gridOf ((m.offs.foldl (· + ·) 0 : Int) / (m.offs.length : Rat))
      let tc := ratOf (param s pTimeSlewTc d)
      let r := clampRate (Config.slope m.meas + (if tc = 0 then 0 else gridOf ((o : Rat) * 1000 / tc)))
      let lim := param s pTimeLockLimit d
      let lockRun := if o.natAbs ≤ lim then m.lockRun + 1 else 0
      let unlockRun := if 10 * lim < o.natAbs then m.unlockRun + 1 else 0
      let st := if m.st = 1 ∧ 8 ≤ lockRun then 2 else if m.st = 2 ∧ 2 ≤ unlockRun then 1 else m.st
      let s := setDomain s d (fun m => { m with
        rate := r, offs := [], st := st, lockRun := if st = m.st then lockRun else 0, unlockRun := if st = m.st then unlockRun else 0, lastOff := o })
      .next (timeWritten s d Ev.timeRate [(BitVec.ofInt 64 r).toNat, (BitVec.ofInt 64 o).toNat])

/-- TIME_STEP (R465, R469): the step that waits for its whole millisecond. -/
def execTimeStep (dom : Fin 3) (s : State) : Res :=
  let d := dom.val + 1
  let m := domain s d
  match m.stepAt with
  | none => .next s
  | some (t, o) =>
    if s.t0 < t then .next s
    else
      let rate := if m.st = 0 ∧ 2 ≤ m.meas.length then clampRate (Config.slope m.meas) else m.rate
      let s := setDomain s d (fun m => { (m.stepBy t o) with rate := rate, st := 1, unlockRun := 0, byRefclk := false })
      let s := noteHold s d m.st
      let s := timeWritten s d Ev.timeStep [(BitVec.ofInt 64 o).toNat, t]
      .next (if d = 1 then t1Stepped s else s)

/-- TIME_LOSS_TIMEOUT (R468). -/
def execTimeLossTimeout (dom : Fin 3) (s : State) : Res :=
  let d := dom.val + 1
  let m := domain s d
  if (m.st ≠ 1 ∧ m.st ≠ 2) ∨ s.t0 < m.lastMeas + param s pTimeLossTime d * ms then .next s
  else .next (timePoints (noteHold (setDomain s d (fun m => m.toHoldover s.t0)) d m.st) d)

/-- T1 from the RTC (R469): RTC plus RTC_OFFSET, corrected by RTC_TRIM over the ticks since TICK_PF. -/
def rtcTime (s : State) : Int :=
  let b := mreads s.pocket.mem 0x3C00 0x28
  let off := (bv 64 (fld b 0x18 8)).toInt
  let trim := (bv 32 (fld b 0x20 4)).toInt
  let ticks : Int := ((keepTick s + 2 ^ 48 - fld b 0 6) % 2 ^ 48 : Nat)
  (rtcNs s : Int) + off - ticks * sec / 32768 * trim / 100000000

/-- TIME_RESTEP (R469). -/
def execTimeRestep (r : Req) (s : State) : Res :=
  let d := fld r.payload 0 1
  let m := fld r.payload 1 1
  let modes : List Mode := [.config, .idle, .maint, .test] ++ (if flag s pTimeRestepInRun 0 then [.run, .hold] else [])
  .next (command s r 0x0710 true modes 4 (r.target == 0 && decide (1 ≤ d ∧ d ≤ 3 ∧ m ≤ 1) && fld r.payload 2 2 == 0) (fun s =>
    if m = 0 then finish (note (setDomain s d (fun x => { x with restep := true })) Ev.timeRestep 0x48 d 0 [d, m]) r 0x0710 true 0
    else if d ≠ 1 ∨ (domain s 1).st ≠ 0 ∨ !timekeepOk s then finish s r 0x0710 true 0x0206
    else
      let v := rtcTime s
      let o := v - (domain s 1).at_ s.t0
      let s := setDomain s 1 (fun x => { (x.stepBy s.t0 o) with st := 3, holdSince := s.t0 })
      let s := note (noteHold s 1 0) Ev.timeRestep 0x48 d 0 [d, m]
      finish (t1Stepped (timeWritten s 1 Ev.timeStep [(BitVec.ofInt 64 o).toNat, s.t0])) r 0x0710 true 0))

end Sys2Proof.Machine
end

