-- ==== Sys2Proof/Machine/Thatch.lean ====
section
/-! DEFINITION. The Thatch signal history: aggregates, open states, rings, tightening, coarsening, logs and queries (R394-R409). -/

namespace Sys2Proof.Machine

/-! ### Values and merging (R395, R396) -/

/-- A value as binary64 (R396). -/
def toF64 (ty : Nat) (v : Word) : Nat :=
  match ty with
  | 1 => fofInt f64 (v.toNat % 2 : Nat)
  | 2 => fofInt f64 v.toInt
  | 4 => fconv f32 f64 v.toNat
  | 5 => fround f64 false (v.toInt < 0) v.toInt.natAbs (-31)
  | 6 => fround f64 false (v.toInt < 0) v.toInt.natAbs (-15)
  | _ => fofInt f64 (v.toNat : Nat)

/-- What a value adds to SUM. -/
def sumV (ty : Nat) (prev v : Word) : Nat :=
  if ty = 7 then fofInt f64 (if v = prev then 0 else 1) else if ty = 8 then 0 else toF64 ty v

/-- Add counts; the ceiling sets COUNT_SAT. -/
def addCount (st : IntvSt) (n : Nat) : IntvSt :=
  if 16777215 < st.count + n then { st with count := 16777215, flags := st.flags ||| 0x80 } else { st with count := st.count + n }

/-- The histogram bin of a value (R399). -/
def histBin (lo hi x : Nat) : Nat :=
  if flt f64 x lo then 0
  else if !flt f64 x hi then 31
  else 1 + min 29 ((ftrunc f64 (fmul f64 false (fdiv f64 false (fsub f64 false x lo) (fsub f64 false hi lo)) (fofInt f64 30))).getD 0).toNat

/-- Add to bins, saturating. -/
def addBins (h g : List Nat) : List Nat := h.mapIdx (fun i v => min (2 ^ 32 - 1) (v + (g[i]?).getD 0))

/-- One value of a quality enters a state. -/
def pushVal (ty : Nat) (e : PlanEnt) (st : IntvSt) (v : Word) (q : Nat) : IntvSt :=
  let st := { st with qmask := st.qmask ||| bv 16 (2 ^ q) }
  if ty = 4 ∧ fisNan f32 v.toNat then { st with flags := st.flags ||| 0x20, last := v }
  else
    let st := { st with min := if st.count = 0 then v else minV ty st.min v, max := if st.count = 0 then v else maxV ty st.max v
                        sum := bv 64 (fadd f64 false st.sum.toNat (sumV ty st.last v)), last := v
                        hist := addBins st.hist ((List.range 32).map (fun i =>
                          if i = histBin (fconv f32 f64 e.histLo.toNat) (fconv f32 f64 e.histHi.toNat) (toF64 ty v) then 1 else 0)) }
    addCount st 1

/-- Merge an aggregate into a state; an interval that was CARRIED is so no more (R394). -/
def mergeIntv (ty : Nat) (e : PlanEnt) (a b : IntvSt) : IntvSt :=
  let a := { a with qmask := a.qmask ||| b.qmask, cls := max a.cls b.cls, flags := a.flags ||| (b.flags &&& 0xFE) }
  if b.count = 0 then a
  else
    let a := { a with min := if a.count = 0 then b.min else minV ty a.min b.min, max := if a.count = 0 then b.max else maxV ty a.max b.max
                      sum := bv 64 (if a.count = 0 then b.sum.toNat else fadd f64 false a.sum.toNat b.sum.toNat)
                      last := b.last, flags := a.flags &&& 0xFE
                      hist := addBins a.hist (Config.histSplit b.min b.max b.sum b.count e.histLo e.histHi) }
    addCount a b.count

/-- An open state that has taken nothing yet. -/
def openIntv (c start : Nat) (last : Word) : IntvSt := { min := last, max := last, cls := c, start := start, last := last }

/-- An update enters a state. -/
def feedIntv (ty : Nat) (e : PlanEnt) (st : IntvSt) (u : ThUpd) : IntvSt :=
  let st := match u.agg with | none => pushVal ty e st u.val u.qual | some a => mergeIntv ty e st a
  if u.replay then { st with flags := st.flags ||| 8 } else st

/-! ### Rings (R398, R400) -/

/-- A ring's key: point and slot of the interval with first index `n`. -/
def ringKey (p c depth n : Nat) : Nat := p * 2 ^ 32 + n / clsLen c % max 1 depth

/-- Write a closed interval in a ring. -/
def ringPut (r : Tbl IntvSt) (p c depth : Nat) (st : IntvSt) : Tbl IntvSt := tset r (ringKey p c depth st.start) st

/-- A late or replayed update enters the closed record of its interval, or makes one where none is live. -/
def ringFeed (r : Tbl IntvSt) (p c depth ty : Nat) (e : PlanEnt) (u : ThUpd) : Tbl IntvSt :=
  let n := u.t / 10000 / clsLen c * clsLen c
  let old := tget {} r (ringKey p c depth n)
  let st := if old.start = n ∧ (tfind r (ringKey p c depth n)).isSome then old else openIntv c n u.val
  tset r (ringKey p c depth n) (feedIntv ty e st u)

/-! ### The log region (R399) -/

/-- The bytes of a stored log record. -/
def logSize (r : LogRec) : Nat := if r.state.hist.isEmpty then 0x38 else 0xB8

/-- Keep the newest log records that fit. -/
def logTrim : Nat → List LogRec → List LogRec
  | _, [] => []
  | room, r :: l => if logSize r ≤ room then r :: logTrim (room - logSize r) l else []

/-- Close a point's log states whose span has ended by interval index `n`. -/
def closeLogs (s : State) (p n : Nat) : State :=
  let done (l : LogOpen) : Bool := l.point == p && (match l.iEnd with | some e => decide (e ≤ n) | none => false)
  let recs : List LogRec := (s.thatch.logOpen.filter done).map (fun l =>
    { kind := l.kind, stream := l.stream, point := p, key := l.key, entry := l.entry, iStart := l.iStart, iEnd := l.iEnd.getD n, state := l.st })
  if recs.isEmpty then s
  else setThatch s (fun h => { h with
    logOpen := h.logOpen.filter (fun l => !done l), demand := h.demand + recs.length
    log := (logTrim (param s pThatchLogMib 0 * 2 ^ 20) (h.log ++ recs).reverse).reverse })

/-- Feed the open log states whose span contains the update's interval. -/
def feedLogs (s : State) (p ty : Nat) (u : ThUpd) : State :=
  let e := planOf s p
  let c := effCls s p
  let n := u.t / 10000 / clsLen c * clsLen c
  let hit (l : LogOpen) : Bool := l.point == p && decide (l.iStart ≤ n) && (match l.iEnd with | some x => decide (n < x) | none => true)
  setThatch s (fun h => { h with
    demand := h.demand + (h.logOpen.filter hit).length
    logOpen := h.logOpen.map (fun l => if hit l then { l with st := feedIntv ty e l.st u } else l) })

/-! ### Tiles and updates (R394, R403) -/

/-- The smallest class whose interval covers a span of `n` indices. -/
def coverCls (n : Nat) : Nat := (([0, 1, 2, 3, 4, 5] : List Nat).find? (fun c => decide (n ≤ clsLen c))).getD 5

/-- TILE_AGGREGATE_SEND (R394, R403): the aggregate of a tile point's last interval; without class 4 credits it merges into the one still to send. -/
def execTileAggregateSend (p mn mx : Word) (sum : DWord) (count : BitVec 24) (qmask : BitVec 11) (nan credits : Bool) (s : State) : Res :=
  let p := p.toNat
  if !tilePoint p || !recorded s p then .next s
  else
    let c := effClsAt s p (s.t0 - 1)
    let n := s.t0 / 10000 / clsLen c
    if n = 0 then .next s
    else
      let a : IntvSt := { min := mn, max := mx, sum := sum, count := count.toNat, qmask := qmask.zeroExtend 16, cls := c, last := mx
                          flags := if nan then 0x20 else 0, start := (n - 1) * clsLen c }
      let ty := (pget s p).ty
      let a : IntvSt := match tfind s.thatch.tileAgg p with
        | none => a
        | some b => { mergeIntv ty (planOf s p) b a with flags := b.flags ||| a.flags ||| 2, cls := max c (coverCls (n * clsLen c - b.start)) }
      if credits then .next (setThatch s (fun h => { h with tileAgg := tdel h.tileAgg p, queue := h.queue ++ [{ point := p, t := a.start * 10000, val := a.last, agg := some a }] }))
      else .next (setThatch s (fun h => { h with tileAgg := tset h.tileAgg p a }))

/-- THATCH_UPDATE (R394): the oldest update enters its point's open states; it waits while an interval before its own is still open. -/
def execThatchUpdate (s : State) : Res :=
  match s.thatch.queue with
  | [] => .next s
  | u :: rest =>
    let p := u.point
    if !recorded s p then .next (setThatch s (fun h => { h with queue := rest }))
    else
      let s := syncLogs s p
      let e := planOf s p
      let ty := (pget s p).ty
      let n := u.t / 10000
      let c := rangeClsAt e s.t0
      let o := (tfind s.thatch.l0 p).getD (openIntv c (n / clsLen c * clsLen c) u.val)
      let o1 := (tfind s.thatch.l1 p).getD (openIntv 5 (n / clsLen 5 * clsLen 5) u.val)
      let l1 := e.layers % 2 == 1
      let ended (x : IntvSt) (k : Nat) : Bool := decide (x.start + clsLen k ≤ n)
      if ended o o.cls || (l1 && ended o1 5) || (match tightOf s p with | some t => ended t.st t.cls | none => false) then .next s
      else
        let s := feedLogs s p ty u
        .next (setThatch s (fun h =>
          let h := { h with queue := rest, demand := h.demand + 1 + (if l1 then 1 else 0) + (if h.tight.any (fun t => t.point == p) then 1 else 0) }
          let h := if o.start ≤ n then { h with l0 := tset h.l0 p (feedIntv ty e o u) } else { h with l0 := tset h.l0 p o, l0Ring := ringFeed h.l0Ring p e.cls e.l0Depth ty e u }
          let h := if !l1 then h else if o1.start ≤ n then { h with l1 := tset h.l1 p (feedIntv ty e o1 u) } else { h with l1 := tset h.l1 p o1, l1Ring := ringFeed h.l1Ring p 5 e.l1Depth ty e u }
          { h with
            tight := h.tight.map (fun t => if t.point = p ∧ t.st.start ≤ n then { t with st := feedIntv ty e t.st u } else t)
            tightRing := h.tightRing.map (fun x => if x.1 = p ∧ x.2.start ≤ n ∧ n < x.2.start + clsLen x.2.cls then (x.1, feedIntv ty e x.2 u) else x) }))

/-! ### Closing and tightening (R398, R404) -/

/-- The updates per second that class `c'` costs over class `c` (R402). -/
def addedU (s : State) (p c c' : Nat) : Nat :=
  let m := (s.thatch.logOpen.filter (fun l => l.point == p)).length
  let k := if tilePoint p then 3 + m else 2
  k * (10 ^ (5 - c') - 10 ^ (5 - c))

/-- The load limit in updates per second. -/
def loadLimit (s : State) : Nat := param s pThatchAdaptLimit 0 * 1500000

/-- An interval's span as binary64, MAX - MIN. -/
def intvSpan (ty : Nat) (st : IntvSt) : Nat := fsub f64 false (toF64 ty st.max) (toF64 ty st.min)

/-- Activity of a closed interval tightens its point by one class where load and FINEST allow. -/
def activity (s : State) (p : Nat) (st : IntvSt) : State :=
  let e := planOf s p
  let ty := (pget s p).ty
  if !flag s pThatchAdapt 0 || !flt f32 0 e.active.toNat || decide (st.count = 0) || !flt f64 (fconv f32 f64 e.active.toNat) (intvSpan ty st) then s
  else
    let c := effCls s p
    let load := (s.thatch.win.getLast?).getD 0 * 1000
    let s := setThatch s (fun h => { h with tight := h.tight.map (fun t => if t.point = p then { t with lastAct := s.t0 } else t) })
    if c ≤ e.finest ∨ loadLimit s < load + addedU s p c (c - 1) then s
    else
      let n := s.t0 / 10000 / clsLen (c - 1) * clsLen (c - 1)
      let t : Tight := { point := p, cls := c - 1, lastAct := s.t0, st := openIntv (c - 1) n st.last }
      note (setThatch s (fun h => { h with tight := h.tight.filter (fun t => t.point != p) ++ [t] })) Ev.thatchTighten 0x40 0 p [c, c - 1, 1]

/-- The tight ring's records. -/
def tightCap (s : State) : Nat := param s pThatchTightMib 0 * 2 ^ 20 / 40

/-- A closed interval with its flags. -/
def closeIntv (p : Nat) (st : IntvSt) (more : Byte) : IntvSt :=
  { st with flags := st.flags ||| more ||| (if st.count = 0 ∧ !st.flags.getLsbD 5 ∧ !tilePoint p then 1 else 0) }

/-- THATCH_INTERVAL_CLOSE (R395, R398, R404): the point's open intervals that have ended are written to their rings and the next ones open. -/
def execThatchIntervalClose (p : Word) (s : State) : Res :=
  let p := p.toNat
  if !recorded s p then .next s
  else
    let s := syncLogs s p
    let e := planOf s p
    let n := s.t0 / 10000
    let v := (pget s p).value
    let c := rangeClsAt e s.t0
    let o := (tfind s.thatch.l0 p).getD (openIntv c (n / clsLen c * clsLen c) v)
    let o1 := (tfind s.thatch.l1 p).getD (openIntv 5 (n / clsLen 5 * clsLen 5) v)
    let l1 := e.layers % 2 == 1
    let s := setThatch s (fun h => { h with l0 := tset h.l0 p o, l1 := if l1 then tset h.l1 p o1 else h.l1 })
    let tight := (tightOf s p).filter (fun t => decide (t.st.start + clsLen t.cls ≤ n))
    let s := match tight with
      | none => s
      | some t =>
        let x := closeIntv p t.st 4
        let s := setThatch s (fun h => { h with
          demand := h.demand + 1
          tightRing := let r := h.tightRing ++ [(p, x)]; r.drop (r.length - tightCap s)
          tight := h.tight.map (fun y => if y.point = p then { y with st := openIntv t.cls (t.st.start + clsLen t.cls) x.last } else y) })
        activity s p x
    let s :=
      if n < o.start + clsLen o.cls then s
      else
        let x := closeIntv p o (if e.cls < o.cls then 2 else 0)
        let start := o.start + clsLen o.cls
        let c' := rangeClsAt e (start * 10000)
        let c' := if start % clsLen c' = 0 then c' else o.cls
        let s := setThatch s (fun h => { h with demand := h.demand + 1, l0Ring := ringPut h.l0Ring p e.cls e.l0Depth x, l0 := tset h.l0 p (openIntv c' start x.last) })
        closeLogs (activity s p x) p start
    if l1 ∧ o1.start + clsLen 5 ≤ n then
      let x := closeIntv p o1 0
      .next (setThatch s (fun h => { h with demand := h.demand + 1, l1Ring := ringPut h.l1Ring p 5 e.l1Depth x, l1 := tset h.l1 p (openIntv 5 (o1.start + clsLen 5) x.last) }))
    else .next s

/-- End a point's tightening. -/
def endTight (s : State) (p : Nat) : State :=
  match tightOf s p with
  | none => s
  | some t => note (setThatch s (fun h => { h with tight := h.tight.filter (fun x => x.point != p) })) Ev.thatchTighten 0x40 0 p [t.cls, rangeCls (planOf s p), 0]

/-- THATCH_TIGHT_HOLD_EXPIRY (R404). -/
def execThatchTightHoldExpiry (p : Word) (s : State) : Res :=
  match tightOf s p.toNat with
  | none => .next s
  | some t => if t.lastAct + param s pThatchTightHold 0 * ms ≤ s.t0 then .next (endTight s p.toNat) else .next s

/-! ### Load (R405, R406) -/

/-- The range to coarsen next: lowest PRIORITY, then finest class, then earliest. -/
def coarsenPick (s : State) : Option Nat :=
  let l := (s.thatch.plan.mapIdx (fun i e => (i, e))).filter (fun x => decide (rangeCls x.2 < 5))
  let key (x : Nat × PlanEnt) : Nat := x.2.prio * 8 + rangeCls x.2
  match l with
  | [] => none
  | x :: r => some (r.foldl (fun a y => if key y < key a then y else a) x).1

/-- When a step to a class takes effect: the next boundary of the coarser of it and the class in effect (R405, R406). -/
def stepAt (s : State) (e : PlanEnt) (c : Nat) : Nat :=
  let len := clsLen (max c (rangeClsAt e s.t0)) * 10000
  (s.t0 / len + 1) * len

/-- Change a range's coarsening from an instant on. -/
def setCoarse (s : State) (i due : Nat) (f : Nat → Nat) : State :=
  setThatch s (fun h => { h with
    plan := h.plan.mapIdx (fun k e => if k = i then { e with coarse := f e.coarse, was := rangeClsAt e s.t0, effAt := due } else e) })

/-- The updates per second that a range's next finer class adds. -/
def restoreU (s : State) (i : Nat) : Nat :=
  let c := rangeCls ((s.thatch.plan[i]?).getD {})
  (((tkeys s.thatch.l0).filter (fun p => planIdx s.thatch.plan p == i)).map (fun p => addedU s p c (c - 1))).sum

/-- THATCH_LOAD_WINDOW (R405, R406): at the end of a 1 ms window, with the update queues and credit waiting as measured, one step of coarsening or of restoring. -/
def execThatchLoadWindow (queueFull creditWait : Bool) (s : State) : Res :=
  let w := s.t0 / ms
  if w ≤ s.thatch.windowAt then .next s
  else
    let d := s.thatch.demand
    let s := setThatch s (fun h => { h with windowAt := w, demand := 0, win := let l := h.win ++ [d]; l.drop (l.length - 1000) })
    if 150000 < d ∨ queueFull ∨ creditWait then
      if (match s.thatch.stepDue with | some t => decide (s.t0 < t + ms) | none => false) then .next s
      else match s.thatch.tight.getLast? with
      | some t =>
        let len := clsLen (rangeCls (planOf s t.point)) * 10000
        .next (setThatch (endTight s t.point) (fun h => { h with stepDue := some ((s.t0 / len + 1) * len) }))
      | none =>
        match coarsenPick s with
        | none => .next s
        | some i =>
          let e := (s.thatch.plan[i]?).getD {}
          let c := rangeCls e
          let due := stepAt s e (c + 1)
          let s := setThatch (setCoarse s i due (· + 1)) (fun h => { h with stack := i :: h.stack, stepDue := some due })
          .next (note s Ev.thatchCoarsen 0x40 i e.first [e.first, e.count, c, c + 1, d * 1000])
    else match s.thatch.stack with
      | [] => .next s
      | i :: rest =>
        if s.t0 < s.thatch.lastRestore + 100 * ms ∨ loadLimit s < s.thatch.win.sum + restoreU s i then .next s
        else
          let e := (s.thatch.plan[i]?).getD {}
          let s := setThatch (setCoarse s i (stepAt s e (rangeCls e - 1)) (· - 1)) (fun h => { h with stack := rest, lastRestore := s.t0 })
          .next (note s Ev.thatchRestore 0x40 i e.first [e.first, e.count, rangeCls e, rangeCls e - 1, d * 1000])

/-! ### Queries (R395, R400, R407, R409, R554) -/

/-- The LAP of an interval in a ring of class `c` (R395, R400). -/
def lapOf (c depth : Nat) (st : IntvSt) : Nat := st.start / clsLen c / max 1 depth % 256

/-- A state's 24 bytes with its LAP (R395). -/
def intvBytes (lap : Nat) (st : IntvSt) : List Byte :=
  [st.flags] ++ leBytes 1 (st.cls % 8) ++ leBytes 2 st.qmask.toNat ++ leBytes 1 lap ++ leBytes 3 st.count ++
    leBytes 8 st.sum.toNat ++ leBytes 4 st.max.toNat ++ leBytes 4 st.min.toNat

/-- Mark an interval that lies in an outage and that no replay has filled (R407). -/
def markOutage (s : State) (p : Nat) (st : IntvSt) : IntvSt :=
  let inside := s.thatch.outages.any (fun o => decide (o.start ≤ st.start * 10000) && (match o.stop with | some x => decide (st.start * 10000 < x) | none => true) &&
    (o.kind == 0 || nodeOf p == some o.tile))
  if inside ∧ !st.flags.getLsbD 3 then { st with flags := st.flags ||| 0x40 } else st

/-- Insert a state in rising order of its first index. -/
def intvInsert (x : IntvSt) : List IntvSt → List IntvSt
  | [] => [x]
  | y :: l => if x.start ≤ y.start then x :: y :: l else y :: intvInsert x l

/-- Merge neighbouring records into intervals of an output class (R409). -/
def resample (ty : Nat) (e : PlanEnt) (oc : Nat) : List IntvSt → List IntvSt
  | [] => []
  | x :: l =>
    let n := x.start / clsLen oc * clsLen oc
    match resample ty e oc l with
    | y :: r => if y.start = n then { mergeIntv ty e { x with start := n, cls := oc } y with start := n, cls := oc, last := y.last } :: r else { x with start := n, cls := oc } :: y :: r
    | [] => [{ x with start := n, cls := oc }]

/-- The records of a point's ring layer, oldest first, the open one last. -/
def layerRecs (s : State) (p layer : Nat) : List IntvSt :=
  let ofRing (r : Tbl IntvSt) : List IntvSt := ((r.filter (fun e => e.1 / 2 ^ 32 == p)).map (·.2)).foldr intvInsert []
  match layer with
  | 0 => ofRing s.thatch.l0Ring ++ (tfind s.thatch.l0 p).toList
  | 1 => ofRing s.thatch.l1Ring ++ (tfind s.thatch.l1 p).toList
  | _ => (s.thatch.tightRing.filter (fun x => x.1 == p)).map (·.2) ++ ((tightOf s p).map (·.st)).toList

/-- A log record's bytes (R399). -/
def logBytes (r : LogRec) : List Byte :=
  leBytes 1 r.kind ++ leBytes 1 r.state.hist.length ++ leBytes 1 r.stream ++ [0] ++ leBytes 4 r.point ++ leBytes 4 r.key ++ leBytes 4 r.entry ++
    leBytes 8 r.iStart ++ leBytes 8 r.iEnd ++ intvBytes 0 r.state ++ r.state.hist.flatMap (leBytes 4)

/-- The log records of a point and kind, the open ones last with the span as it stands. -/
def logRecs (s : State) (p kind : Nat) : List LogRec :=
  s.thatch.log.filter (fun r => r.point == p && r.kind == kind) ++
    (s.thatch.logOpen.filter (fun l => l.point == p && l.kind == kind)).map (fun l =>
      ({ kind := kind, stream := l.stream, point := p, key := l.key, entry := l.entry, iStart := l.iStart, iEnd := l.iEnd.getD (s.t0 / 10000), state := l.st } : LogRec))

/-- Answer a query from its records: position and bytes of each. -/
def thatchAnswer (s : State) (r : Req) (bo bl : Nat) (toPos : Nat → Nat) (l : List (Nat × List Byte)) : State :=
  let got := fitting bl (l.map (·.2))
  let next := match l[got.length]? with | some x => toPos x.1 | none => 0
  finish (bulkPut s bo got.flatten) r 0x0610 false 0 (leBytes 4 got.length ++ leBytes 4 got.flatten.length ++ leBytes 8 next)

/-- THATCH_QUERY (R409, R554). -/
def execThatchQuery (r : Req) (s : State) : Res :=
  let layer := fld r.payload 0 1
  let span := fld r.payload 1 1
  let oc := fld r.payload 2 1
  let from_ := fld r.payload 4 8
  let till := fld r.payload 12 8
  let key := fld r.payload 20 4
  let bo := fld r.payload 24 4
  let bl := fld r.payload 28 4
  let p := r.target.toNat
  .next (command s r 0x0610 false allModes 32
    (decide (layer ≤ 4 ∧ span ≤ 2 ∧ (oc ≤ 5 ∨ oc = 0xFF)) && fld r.payload 3 1 == 0 && (span != 2 || decide (3 ≤ layer)) && bulkOk bo bl) (fun s =>
    if !recorded s p then finish s r 0x0610 false 0x0401
    else if bulkBusy s bo bl then finish s r 0x0610 false 0x0509
    else
      let a := if span = 0 then from_ / 10000 else from_
      let b := if span = 0 then till / 10000 else till
      let pos (n : Nat) : Nat := if span = 0 then n * 10000 else n
      let e := planOf s p
      if layer ≤ 2 then
        let l := layerRecs s p layer
        match l with
        | [] => finish s r 0x0610 false 0x0405
        | x :: _ =>
          if a < x.start then finish s r 0x0610 false 0x0405
          else
            let l := (l.filter (fun y => decide (a < y.start + clsLen y.cls ∧ y.start ≤ b))).map (markOutage s p)
            let l := if oc = 0xFF then l else resample (pget s p).ty e oc l
            let lap (y : IntvSt) : Nat := if layer = 1 then lapOf 5 e.l1Depth y else if layer = 0 then lapOf e.cls e.l0Depth y else 0
            thatchAnswer s r bo bl pos (l.map (fun y => (y.start, leBytes 8 y.start ++ intvBytes (lap y) y)))
      else
        let l := logRecs s p (layer - 1)
        let hit := if span = 2 then l.filter (fun y => y.key == key) else l.filter (fun y => decide (a < y.iEnd ∧ y.iStart ≤ b))
        let gone := if span = 2 then hit.isEmpty else match l with | [] => true | y :: _ => decide (a < y.iStart)
        if gone then finish s r 0x0610 false 0x0405
        else thatchAnswer s r bo bl pos (hit.map (fun y => (y.iStart, logBytes y)))))

end Sys2Proof.Machine
end

