-- ==== Sys2Proof/Machine/RestartOps.lean ====
section
/-! DEFINITION. Restart triggers, the restart-cause record, what each restart kind drops and keeps, and the Pocket's records at boot (R326, R334-R345, R364-R369). -/

namespace Sys2Proof.Machine

/-- Change the restart unit. -/
def setRst (s : State) (f : RestartSt → RestartSt) : State := { s with rst := f s.rst }

/-! ### The restart-cause record (R344) -/

/-- Its 64 bytes. -/
def causeBytes (r : RestartSt) : List Byte :=
  let b (v : Bool) (k : Nat) : Nat := if v then 2 ^ k else 0
  let body := leBytes 1 r.cause ++ leBytes 1 r.kind ++ leBytes 1 r.origin ++ leBytes 1 (b r.flushed 0 + b r.degraded 1 + b r.parkAll 2 + b r.vbatLow 3) ++
    leBytes 1 r.isl ++ [0, 0, 0] ++ leBytes 8 r.t0Trigger ++ leBytes 6 r.keepTime ++ leBytes 2 r.flushUs ++ leBytes 4 r.count ++
    leBytes 1 r.prevCause ++ leBytes 1 r.prevKind ++ List.replicate 30 0
  body ++ leBytes 4 (crc32c body).toNat

/-- Whether the header passes its check (R367). -/
def headerOk (s : State) : Bool :=
  let m := s.pocket.mem
  fld (mreads m 0 4) 0 4 == 0x544B4350 && fld (mreads m 4 2) 0 2 == 1 && mreads m 0xFC 4 == pocketCrc m

/-- The header's restart fields (R367). -/
def restartHeader (r : RestartSt) : List (Nat × List Byte) :=
  [(0x01C, leBytes 4 r.count ++ leBytes 4 r.coldCount ++ ((r.warm ++ [0, 0, 0]).take 3).flatMap (leBytes 4))]

/-- Write the record, and with it the header's counters while the header is sound: a restart does not repair a bad one (R344, R367). -/
def putCause (s : State) : State :=
  let r := s.rst
  let s := setPocket s (fun p => { p with mem := mwrites p.mem 0x140 (causeBytes r) })
  if headerOk s then pocketHeader s (restartHeader r) else s

/-- ORIGIN of a trigger now (R344). -/
def originNow (s : State) : Nat :=
  match s.mode.cur with
  | .update => s.mode.origin.num
  | .boot | .resume | .keep => s.rst.origin
  | m => m.num

/-- Three warm restarts within 60 s of keep ticks (R352, R367). -/
def warmThird (l : List Nat) : Bool :=
  match l with
  | [a, _, c] => let d := (a + 2 ^ 32 - c) % 2 ^ 32; decide (d ≤ 60 * 32768)
  | _ => false

/-- Latch cause, kind, island and instants of a restart (R344, R352). -/
def latchRestart (s : State) (kind cause isl origin : Nat) : State :=
  let tick := keepTick s
  let warm := if kind = 1 then (tick % 2 ^ 32 :: s.rst.warm).take 3 else s.rst.warm
  let s := setRst s (fun r => { r with
    kind := kind, cause := cause, isl := isl, started := false, recovered := false, origin := origin, t0Trigger := s.t0, keepTime := tick, warm := warm
    flushed := r.flushed && decide (kind = 2), flushUs := if kind = 2 then r.flushUs else 0, degraded := false
    parkAll := decide (kind = 1) && warmThird warm, prevCause := r.cause, prevKind := r.kind
    count := if kind = 3 then 0 else (r.count + 1) % 2 ^ 32, coldCount := if kind = 3 then (r.coldCount + 1) % 2 ^ 32 else r.coldCount })
  putCause { s with host := { s.host with lastKind := kind } }

/-- Publish and record a restart: SYS points 1 and 2, the event with the trigger it came from, PARK_ALL. -/
def tellRestart (s : State) (trigger : Nat) : State :=
  let r := s.rst
  let s := sysPoint (sysPoint s 1 r.count) 2 r.kind
  let s := note s Ev.restart 0x50 r.isl 0 [r.cause, r.kind, r.origin, trigger, r.t0Trigger]
  if r.parkAll then note s Ev.parkAll 0x50 0 0 [r.cause] else s

/-! ### Keep and cold restarts: what outlives them (R345, R364, R541) -/

/-- The Deck written to flash last. -/
def newestFlash (s : State) (ok : Nat → Bool) : Option (Nat × FlashDeck) :=
  (s.deck.flash.filter (fun e => ok e.1)).foldl (fun (a : Option (Nat × FlashDeck)) e =>
    match a with | none => some e | some x => if x.2.order < e.2.order then some e else a) none

/-- Whether a loaded program differs from the flash Deck's: an exchange that a Deck from flash would lose (R161). -/
def exchUnsaved (s : State) : Bool :=
  match newestFlash s (fun _ => true) with
  | some f => s.deck.loaded.any (fun e => e.1 / 65536 == 3 && tget [] f.2.imgs e.1 != e.2.bytes)
  | none => false

/-- An FW_UPDATE that has not marked its bank leaves it without a valid mark (R551). -/
def dropFwWrite (f : FwSt) : FwSt :=
  match f.writing with | some j => { f with writing := none, valid := tdel f.valid j.slot } | none => f

/-- The device in M1 BOOT after a loss of power or a cold trigger: what flash, the keep die, the field and the supplies hold stays, all else is as after reset. -/
def powerBase (s : State) (tick : Nat) : State :=
  let z := State.reset
  let ch := s.io.ch.map (fun e => (e.1, ({ raw := e.2.raw } : ChSt)))
  let un := s.recd.ring.filter (fun x => !x.committed)
  let en := s.io.enc.map (fun e => (e.1, ({ a := e.2.a, b := e.2.b, z := e.2.z } : EncSt)))
  let b := { z with
    clock := { refclk := s.clock.refclk }
    deck := { flash := s.deck.flash, slot := s.deck.slot }
    fw := { dropFwWrite s.fw with swapAt := none }
    recd := { s.recd with ring := [], challenge := none, clearing := none, anchorDue := some 5, authFails := [], lockedUntil := 0 }
    pocket := { mem := s.pocket.mem, txseq := s.pocket.txseq, tick0 := tick }
    rst := { s.rst with
      stage := 2, tr := none, lowAt := none, hotLog := [], lostSets := s.params.unsaved, exchLost := exchUnsaved s, dramLost := true
      lostRange := if un.isEmpty then s.rst.lostRange else some ((s.recd.committedSeq + 1).toNat, (s.recd.next - 1).toNat, un.length)
      badStreams := [], atLeast := 0, pocketErrs := [] }
    nodes := s.nodes.map (fun e => (e.1, ({ powered := e.2.powered, configured := false, linked := false } : NodeSt)))
    io := { ch := ch, enc := en }
    eth := s.eth.map (fun e => (e.1, ({ up := e.2.up, speed := e.2.speed } : EthSt)))
    ridge := { z.ridge with record := s.ridge.record, estop := { aHigh := s.ridge.estop.aHigh, bHigh := s.ridge.estop.bHigh, errHigh := s.ridge.estop.errHigh } }
    twin := { heard := [none, none], down := s.twin.down }
    host := { lastKind := s.rst.kind }
    outbox := s.outbox, freeCtr := s.freeCtr, pending := s.pending }
  sysPoint b 0 1

/-- A cold restart begins (R364). -/
def coldRestart (s : State) (cause isl origin trigger : Nat) : State :=
  let s := latchRestart s 3 cause isl origin
  tellRestart (powerBase s (keepTick s)) trigger

/-- A keep boot begins again from the Pocket (R343). -/
def keepAgain (s : State) (cause isl : Nat) : State :=
  let s := latchRestart s 2 cause isl s.rst.origin
  tellRestart (powerBase s (keepTick s)) cause

/-! ### Warm restarts (R345, R349) -/

/-- What a warm trigger ends at once: releases, forces, jobs, tunes, an exchange, links and heartbeats, and the Pocket's transaction. -/
def warmStop (s : State) : State :=
  let s := endForces s s.t0 (fun _ => true)
  -- releases end without apply; the queues are empty after the boot
  let s := { s with
    sched := { s.sched with engines := s.sched.engines.map (fun (e : Nat × EngineSt) => (e.1, { e.2 with queue := [], running := none, preempted := none, waiting := false, role := 0, natQueue := [] })), trigs := [], move := none }
    loops := s.loops.map (fun (e : Nat × LoopSt) => (e.1, { e.2 with rel := none, nextRel := none, begun := false, tune := none, result := none, tuneOff := 0 }))
    loopEng := s.loopEng.map (fun (e : Nat × LoopEng) => (e.1, { e.2 with running := none, inLaw := false })) }
  let s := match s.sched.exch with
    | some x =>
      let rep : ExchRep := { slot := x.slot, status := 0x0205, oldGen := (prog s x.slot).gen, newGen := x.newGen, flags := if x.revert then 2 else 0 }
      let s := if x.ended.isSome then s else note s Ev.exchange 0x42 x.slot 0 [0x0205, rep.oldGen, rep.newGen]
      { s with sched := { s.sched with exch := none, reports := if x.ended.isSome then s.sched.reports else tset s.sched.reports x.slot rep } }
    | none => s
  -- the committed journal transaction completes; the others are dropped (R335)
  let s := setPocket s (fun p =>
    match p.active with
    | some t => { p with mem := mwrites (t.entries.foldl (fun m e => mwrites m e.1 e.2) p.mem) journalAt (leBytes 4 0), active := none, queue := [], txns := (p.txns + 1) % 2 ^ 32 }
    | none => { p with queue := [] })
  let s := (tkeys s.acq).foldl (fun s u => acqClose s u s.t0 4) s
  let s := (s.thatch.tight.map (·.point)).foldl endTight s
  let out : Outage := { start := s.t0, stop := none, kind := 0 }
  let s := { s with
    thatch := { s.thatch with outages := (s.thatch.outages ++ [out]).drop (s.thatch.outages.length + 1 - 64) }
    nodes := [0, 1, 2, 3].foldl (fun t n => tmod {} t n (fun d => { d with linked := false })) s.nodes
    eth := s.eth.map (fun e => (e.1, { e.2 with queues := [] }))
    deck := { s.deck with validating := none, committing := none, saving := none, loading := none, stagedOk := false, staged := tdel s.deck.staged (imgKey 1 0) }
    fw := dropFwWrite s.fw
    motion := { s.motion with pf := s.motion.pf.map (fun e => (e.1, { e.2 with maint := none, running := none })) }
    ridge := { s.ridge with proof := none, proofLeft := [] }
    cv := { s.cv with units := [] }
    recd := { s.recd with clearing := none }
    lines := s.lines.map (fun e => (e.1, { e.2 with calib := none }))
    mode := { s.mode with pend := none }
    twin := { s.twin with wasPaired := s.twin.st == 2 || s.twin.st == 3 || s.twin.st == 5, exchAt := none, exch := none, instants := [], ours := [], theirs := [], nextProof := none, st := 0, p0 := none, reply := none, swap := none, waitFrom := none, standbyDrives := false, proof := [], proofStage := 0 }
    host := { s.host with ready := false, holds := [], throttled := false, restartReq := [] } }
  irq s 21

/-- A warm trigger (R71, R343): from M8 TEST it is carried out cold, in the boot of a keep or cold restart by that boot's kind. -/
def warmRestart (s : State) (cause isl : Nat) : State :=
  if s.mode.cur = .keep then s
  else if s.mode.cur = .test then coldRestart s 0x32 isl 8 cause
  else if 2 ≤ s.rst.stage ∧ s.rst.stage ≤ 3 ∧ s.rst.kind = 3 then coldRestart s cause isl s.rst.origin cause
  else if 2 ≤ s.rst.stage ∧ s.rst.stage ≤ 3 ∧ s.rst.kind = 2 then keepAgain s cause isl
  else
    let s := latchRestart s 1 cause isl (originNow s)
    let s := setRst s (fun r => { r with stage := 1, tr := none, lowAt := none, dramLost := false, lostRange := none, badStreams := [], atLeast := if r.parkAll then 2 else 0 })
    tellRestart (warmStop s) cause

/-! ### Hot restarts (R346-R348) -/

/-- Whether an island is an engine of R343's hot rows. -/
def isEngine (i : Nat) : Bool := decide (0x10 ≤ i ∧ i < 0x34 ∧ i ≠ 0x2E ∧ i ≠ 0x2F)
/-- Whether it is one of the core islands of cause CORE_FAULT. -/
def isCore (i : Nat) : Bool := [0x40, 0x41, 0x42, 0x43, 0x48].contains i

/-- A hot trigger: the engine is held in reset and its running release ends without apply; the third within 10 s becomes a warm restart (R348). During a boot the engines are being loaded anyway. -/
def hotRestart (s : State) (cause isl : Nat) : State :=
  if s.rst.stage ≠ 0 then s
  else if 2 ≤ (s.rst.hotLog.filter (fun e => e.1 == isl && decide (s.t0 < e.2 + 10 * sec))).length then warmRestart s 0x13 isl
  else
    let s := tellRestart (latchRestart s 0 cause isl (originNow s)) cause
    let s := setRst s (fun r => { r with hotLog := r.hotLog ++ [(isl, s.t0)] })
    let s := setIsland s isl (fun d => { d with inService := false, restarting := some s.t0, aligned := false, copySet := false, good := 0 })
    let s := { s with links := s.links.filter (fun e => e.1 / 16 != isl) }
    if isl < 0x20 then setEngine s (isl - 0x10) (fun e => { e with running := none, preempted := none, waiting := false, role := 0, natQueue := [] })
    else if isl < 0x28 then
      { s with loopEng := tmod {} s.loopEng (isl - 0x20) (fun e => { e with running := none, inLaw := false })
               loops := s.loops.map (fun e => if e.1 / 64 = isl - 0x20 ∧ e.2.begun then (e.1, { e.2 with rel := none, nextRel := none, begun := false }) else e) }
    else s

/-! ### The Pocket at boot (R335, R338-R341, R366, R367) -/

/-- The entries of a journal area. -/
def jEntries : Nat → List Byte → List (Nat × List Byte)
  | 0, _ => []
  | n + 1, b => let k := fld b 2 2; (fld b 0 2, (b.drop 8).take k) :: jEntries n (b.drop (8 + k))

/-- The journal is inspected before any record is read: a committed one is repeated, any other discarded (R335). -/
def journalInspect (s : State) : State :=
  setPocket s (fun p =>
    let h := mreads p.mem journalAt 16
    let e := mreads p.mem (journalAt + 16) (min (fld h 10 2) 880)
    let ok := fld h 0 4 == 0x5A3CC3A5 && fld h 12 4 == (crc32c ((h.drop 4).take 8 ++ e)).toNat
    let m := if ok then (jEntries (min (fld h 8 2) 110) e).foldl (fun m x => mwrites m x.1 x.2) p.mem else p.mem
    { p with mem := mwrites m journalAt (leBytes 4 0), active := none, queue := [] })

/-- The record slots of the plan in the header: class and offset. -/
def headerSlots (s : State) : List (Nat × Nat) :=
  let n (c : Nat) : Nat := fld (mreads s.pocket.mem (0x14 + 2 * c) 2) 0 2
  ((List.range 4).foldl (fun (a : Nat × List (Nat × Nat)) c =>
    (a.1 + n c * clsBytes c, a.2 ++ (List.range (n c)).map (fun k => (c, a.1 + k * clsBytes c)))) (opAreaAt, [])).2.filter (fun e => decide (e.2 + clsBytes e.1 ≤ 0x3A00))

/-- A record's bytes and whether it is committed and passes its CRC (R333). -/
def recordAt (s : State) (c off : Nat) : List Byte × Bool × Bool :=
  let n := clsBytes c
  let b := mreads s.pocket.mem off n
  let chk := (b.take (n - 4)).mapIdx (fun i x => if i = 15 then (0xA5 : Byte) else x)
  (b, fld b 15 1 == 0xA5, fld b (n - 4) 4 == (crc32c chk).toNat)

/-- Discard every operation, retained, axis keep and journal area (R364). -/
def clearAreas (s : State) (keepAxes : Bool) : State :=
  setPocket s (fun p => { p with mem := p.mem.filter (fun c => decide (c.1 < 0x200 ∨ (0x3C00 ≤ c.1 ∧ c.1 < 0x3C80) ∨ (keepAxes = true ∧ 0x3A00 ≤ c.1 ∧ c.1 < 0x3C00))) })

/-- The kind's own values of a record's payload (R325). -/
def opDataOf (kind : Nat) (p : List Byte) : List Nat :=
  match kind with
  | 1 => [fld p 0 1, fld p 1 1, fld p 2 2]
  | 2 => [fld p 0 1, fld p 1 1, fld p 2 1, fld p 3 1, fld p 4 4, fld p 8 4]
  | 3 => [fld p 0 1, fld p 1 1, fld p 2 1, fld p 4 4]
  | 4 => [fld p 0 1, fld p 1 1, fld p 4 8, fld p 12 8, fld p 20 4]
  | 5 => [fld p 0 1, 0]
  | _ => [fld p 0 1, 0, 0]

/-- Where a kind's payload holds its elapsed time. -/
def elapsedAt (kind : Nat) : Nat := match kind with | 1 => 4 | 2 => 12 | 3 => 8 | 4 => 24 | _ => 4

/-- T0 in ns of an instant kept in µs modulo 2^32, the one nearest to now. -/
def unwrapUs (t v : Nat) : Nat :=
  let n := t / us
  let c := n / 2 ^ 32 * 2 ^ 32 + v
  (if n + 2 ^ 31 < c then c - 2 ^ 32 else c) * us

/-- The time in µs since a keep tick (R338). -/
def outageUs (s : State) (tick : Nat) : Nat := ((keepTick s + 2 ^ 48 - tick) % 2 ^ 48) * 1000000 / 32768

/-- A slot's operation from its record. -/
def opOfRecord (s : State) (c off : Nat) (b : List Byte) : Nat × OpSt :=
  let p := (b.drop 16).take (fld b 14 1)
  let k := fld b 12 1
  let el := fld p (elapsedAt k) 4
  (fld b 0 1, { gen := fld b 1 3, st := 3, kind := k, rule := fld b 13 1 % 4, eff := fld b 13 1 % 4, cls := c, off := off, seq := fld b 10 2, keep := fld b 4 6
                elapsed := el, data := opDataOf k p, owner := if k = 1 then fld p 0 1 else if k ≤ 4 then 2 * 65536 + fld p 0 1 else 0
                -- T0 restarts at 0 when DRAM is lost: the elapsed time then counts on from now
                start := if s.rst.dramLost then s.t0 else if k = 1 then unwrapUs s.t0 (fld p 40 4) else s.t0 - (el + outageUs s (fld b 4 6)) * us
                e0 := if s.rst.dramLost then el * us else 0
                detail := if k = 1 then fld p 2 2 else if k = 2 then fld p 2 1 else 0 })

/-- The block kind that starts an operation of a kind (R312, R319). -/
def blockOf (kind : Nat) : Nat := match kind with | 5 => 7 | 6 => 8 | _ => 3

/-- The step operation that admitted a restored one: what the kept image says, else the first step with a block for it (DESIGN CHOICE, log 36). -/
def parentOf (s : State) (ops : Tbl OpSt) (i : Nat) (o : OpSt) : Nat :=
  if o.kind = 1 then 0
  else if !s.rst.dramLost ∧ (pget s (ptid 0x14 (i * 64))).value.toNat = handleOf i o then (pget s (ptid 0x14 (i * 64 + 11))).value.toNat
  else
    let fits (e : Nat × OpSt) : Bool := e.2.kind == 1 &&
      (stepBlocks (stream s ((e.2.data[0]?).getD 0)).recipe ((e.2.data[2]?).getD 0)).any (fun b =>
        b.kind == blockOf o.kind && (decide (5 ≤ o.kind) || fld b.b 4 1 == (o.data[0]?).getD 64))
    match ops.find? fits with | some e => handleOf e.1 e.2 | none => 0

/-- The steps of a recipe's abort sequence, by NEXT from ABORT_STEP. -/
def abortChain (pl : List Byte) : Nat → Nat → List Nat
  | 0, _ => []
  | n + 1, k => if k = 0xFFFF then [] else k :: abortChain pl n (fld (recStep pl k) 0x0C 2)

/-- The recipe of a stream whose loaded image is lost: a loaded recipe that may serve it and has the step; which of several the spec does not say (DESIGN CHOICE, log 37). -/
def recipeFor (s : State) (k step : Nat) : Option (Nat × List Byte) × State :=
  let l := s.deck.loaded.filterMap (fun e =>
    let pl := e.2.bytes.drop 64
    if e.1 / 65536 = 5 ∧ step < fld pl 0x10 2 ∧ (fld pl 0x31 1 = k ∨ fld pl 0x31 1 = 0xFF) then some (e.1 % 65536, pl) else none)
  let own := l.filter (fun e => fld e.2 0x31 1 == k)
  let l := if own.isEmpty then l else own
  if l.length ≤ 1 then (l.head?, s)
  else let (v, s) := fresh s; (l[v.toNat % l.length]?, s)

/-- A stream whose STEP record was restored goes to RESUMING (R338); after a loss of DRAM it takes its recipe anew. -/
def streamRestore (s : State) (i : Nat) (o : OpSt) (counters : List Nat) : State :=
  let k := (o.data[0]?).getD 0
  let step := (o.data[2]?).getD 0
  let s := if s.rst.dramLost then
      let (r, s) := recipeFor s k step
      match r with
      | some (slot, pl) => setStream s k (fun d => { d with
          slot := slot, recipe := pl, gen := (tget {} s.deck.loaded (imgKey 5 slot)).gen, inAbort := (abortChain pl (fld pl 0x10 2) (fld pl 0x12 2)).contains step })
      | none => s
    else s
  streamPoints (setStream s k (fun d => { d with
    handle := handleOf i o, step := step, counters := counters, stepStart := o.start, e0 := o.e0, st := 9, enter := none, boundary := none, reenter := none
    drain := none, abortReq := none, holds := [], subFailed := false })) k

/-- The n-th block of a kind in an operation's parent step: the block of a VSEQ or HANDSHAKE. -/
def subBlock (s : State) (ops : Tbl OpSt) (i : Nat) (o : OpSt) : Nat :=
  let n := (ops.filter (fun e => decide (e.1 < i) && e.2.kind == o.kind && e.2.parent == o.parent)).length
  match ops.find? (fun e => handleOf e.1 e.2 == o.parent) with
  | some e =>
    let bl := (stepBlocks (stream s ((e.2.data[0]?).getD 0)).recipe ((e.2.data[2]?).getD 0)).filter (fun b => b.kind == blockOf o.kind)
    ((bl[n]?).map (·.off)).getD 0
  | none => 0

/-- Rebuild the tracker and the streams from the Pocket (R326, R338, R340, R341): every committed record that passes its CRC is an operation in RESUMING; one that fails is discarded and recorded, and its stream marked. -/
def opsRestore (s : State) : State :=
  let recs := (headerSlots s).map (fun e => (e, recordAt s e.1 e.2))
  let good := recs.filter (fun e => e.2.2.1 && e.2.2.2)
  let bad := recs.filter (fun e => e.2.2.1 && !e.2.2.2)
  let s := bad.foldl (fun s e => note s Ev.opDiscarded 0x43 0 0 [e.1.2, fld e.2.1 0 4]) s
  let s := setRst s (fun r => { r with badStreams := r.badStreams ++ bad.filterMap (fun e => if fld e.2.1 12 1 = 1 then some (fld e.2.1 16 1 % 16) else none) })
  let ops := good.foldl (fun (t : Tbl OpSt) e => let x := opOfRecord s e.1.1 e.1.2 e.2.1; tset t x.1 x.2) []
  let s := setTrack s (fun t => { t with slots := ops, genHigh := fld (mreads s.pocket.mem 0x30 3) 0 3, free := (List.range 256).filter (fun i => !(tkeys ops).contains i) })
  let s := good.foldl (fun s e => if fld e.2.1 12 1 = 1 then
    let x := opOfRecord s e.1.1 e.1.2 e.2.1
    streamRestore s x.1 x.2 ((List.range 8).map (fun j => fld e.2.1 (16 + 8 + 4 * j) 4)) else s) s
  let withP := ops.map (fun e =>
    let p := parentOf s ops e.1 e.2
    (e.1, { e.2 with parent := p, owner := match ops.find? (fun x => p != 0 && handleOf x.1 x.2 == p) with | some x => x.2.owner | none => e.2.owner }))
  let full := withP.map (fun e =>
    if e.2.kind = 5 then (e.1, { e.2 with data := [(e.2.data[0]?).getD 0, subBlock s withP e.1 e.2, 2 ^ (e.2.data[0]?).getD 0 - 1] })
    else if e.2.kind = 6 then (e.1, { e.2 with data := [(e.2.data[0]?).getD 0, s.t0, subBlock s withP e.1 e.2] }) else e)
  let s := setTrack s (fun t => { t with slots := full })
  trackPoints ((tkeys full).foldl opState s)

/-- A retained copy's items, read by the program's own list; an unknown ID ends the reading (R136, DEDUCED, log 17). -/
def retParse (items : List RetItem) : Nat → List Byte → List RetVal
  | 0, _ => []
  | n + 1, b =>
    match items.find? (fun i => i.id == fld b 0 2) with
    | none => []
    | some i =>
      if b.length < 4 then []
      else if i.ty ≤ 1 then { id := i.id, ty := fld b 2 2, val := bv 32 (fld b 4 4) } :: retParse items n (b.drop 8)
      else if i.ty = 4 then { id := i.id, ty := i.ty, rty := bv 8 (fld b 2 1), st := bv 8 (fld b 3 1) } :: retParse items n (b.drop 4)
      else { id := i.id, ty := i.ty, rty := bv 8 (fld b 2 1), st := bv 8 (fld b 3 1), val := bv 32 (fld b 4 4) } :: retParse items n (b.drop 12)

/-- A program's retained copy in the Pocket. -/
def retCopy (s : State) (k : Nat) : RetCopy :=
  let b := mreads s.pocket.mem (retainOff s k) (retainSize (prog s k))
  let n := min (fld b 8 4) (b.length - 16)
  if fld b 0 4 ≠ k then {} else { gen := fld b 4 4, at_ := fld b 12 4, items := retParse (prog s k).retain (n / 4) ((b.drop 16).take n) }

/-- Every program takes its retained items from the Pocket (R138, R139). -/
def retainRestore (s : State) : State :=
  ((tkeys s.sched.progs).filter (fun k => !(prog s k).retain.isEmpty)).foldl (fun s k =>
    let c := retCopy s k
    let s := restoreProg s k c
    { s with sched := { s.sched with staging := tset s.sched.staging k c } }) s

/-! ### Rules at Tr (R338-R342) -/

/-- The effective rule of an operation and the reason of its degradation: 0 none, 1 parent, 2 least rule, 3 DRAM lost, 4 outage, 5 no reference (R340). -/
def effRule (s : State) (o : OpSt) (outage : Nat) : Nat × Nat :=
  let par := match opOf s o.parent with | some p => p.eff | none => 0
  let r := max o.rule par
  let w := if o.rule < par then 1 else 0
  let (r, w) := if r < s.rst.atLeast then (s.rst.atLeast, 2) else (r, w)
  let (r, w) := if r = 0 ∧ s.rst.dramLost then (2, 3) else if r = 0 ∧ param s pOpContinueMax o.kind * 1000 < outage then (2, 4) else (r, w)
  if r ≤ 1 ∧ (o.kind = 2 ∨ o.kind = 4) ∧ !pfRef s ((o.data[0]?).getD 0) then (2, 5) else (r, w)

/-- Values that a stream writes with its next release. -/
def streamHold (s : State) (k : Nat) (l : List OutVal) : State := setStream s k (fun d => { d with held := d.held ++ l })

/-- The stream and block of a sub-operation. -/
def subOf (s : State) (o : OpSt) : Nat × RBlock :=
  match opOf s o.parent with
  | some p =>
    let k := (p.data[0]?).getD 0
    (k, (recBlocks (stream s k).recipe 1 ((o.data[if o.kind = 5 then 1 else 2]?).getD 0)).headD ⟨0, 0, 0, []⟩)
  | none => (0, ⟨0, 0, 0, []⟩)

/-- Act on one operation by its effective rule; `el` is the elapsed time of a step entered again (R338, R342). -/
def opAct (s : State) (i : Nat) (o : OpSt) (eff outage : Nat) : State :=
  let h := handleOf i o
  let s := setOp s i (fun o => { o with eff := eff })
  let g (k : Nat) : Nat := (o.data[k]?).getD 0
  if o.kind = 1 then
    let k := g 0
    match eff with
    | 0 => setStream s k (fun d => { d with st := 9, reenter := some (o.elapsed + if g 1 % 2 = 1 then outage else 0) })
    | 1 => setStream s k (fun d => { d with st := 9, reenter := some 0 })
    | 2 => parkStream s k
    | _ => if streamsStep s then setStream s k (fun d => { d with st := if d.inAbort then 6 else 2, abortReq := some 5 }) else abortNow (opEnd s h 5) k
  else if o.kind ≤ 4 then
    if eff ≤ 1 then setProf (opState s i) (g 0) (fun d => { d with resume := some h })
    else
      let s := setProf s (g 0) (fun d => { d with stopReq := some 0 })
      if eff = 2 then opPark s h else opEnd s h 5
  else if o.kind = 5 then
    match eff with
    | 0 => opState (setOp s i (fun o => { o with st := 1 })) i
    | 1 => opState (setOp s i (fun o => { o with st := 1, data := [0, g 1, 0] })) i
    | 2 => opPark s h
    | _ => opEnd s h 5
  else
    let (k, b) := subOf s o
    match eff with
    | 0 => opState (setOp s i (fun o => { o with st := 1, data := [g 0, s.t0, g 2] })) i
    | 1 => opState (setOp (streamHold s k [⟨fld b.b 4 4, 1, 0⟩]) i (fun o => { o with st := 1, data := [0, s.t0, g 2] })) i
    | 2 => opPark s h
    | _ => opEnd (streamHold s k [⟨fld b.b 4 4, 0, 0⟩]) h 5

/-- The slots in the order of R341: slot order, a parent before its sub-operations. -/
def opOrder (s : State) : List Nat :=
  s.track.slots.foldl (fun l e =>
    let p := slotOf e.2.parent
    let l := if e.2.parent ≠ 0 ∧ (opOf s e.2.parent).isSome ∧ !l.contains p then l ++ [p] else l
    if e.2.st = 3 ∧ !l.contains e.1 then l ++ [e.1] else l) []

/-- The time in µs that an operation was out (R338). -/
def outageOf (s : State) (o : OpSt) : Nat := outageUs s o.keep

/-- Evaluate the rule of one operation in RESUMING. -/
def opResume (s : State) (i : Nat) : State :=
  let o := op s i
  if o.st ≠ 3 then s
  else
    let out := outageOf s o
    let (eff, why) := effRule s o out
    let s := if why = 0 then s else note s Ev.opDegraded 0x43 i (handleOf i o) [o.rule, eff, why]
    opAct s i o eff out

/-- Evaluate every operation's rule, and the streams without a STEP record (R338-R342). -/
def opRules (s : State) (was : List (Nat × Nat)) : State :=
  let s := (opOrder s).foldl opResume s
  let park := (if s.rst.dramLost then [] else was.filterMap (fun e => if [2, 3, 4, 5, 6, 9].contains e.2 then some e.1 else none)) ++ s.rst.badStreams
  park.eraseDups.foldl (fun s k => if (stream s k).handle = 0 then parkStream s k else s) s

end Sys2Proof.Machine
end

