-- ==== Sys2Proof/Machine/Restart.lean ====
section
/-! DEFINITION. Faults that restart, hot and warm restarts, boot, RESUME, power failure, the keep die and tile supplies (R15, R343-R369, R552, R553, R569, R570). -/

namespace Sys2Proof.Machine

/-- The device has power: every mode but M0. -/
def alive (s : State) : Bool := s.mode.cur != .keep

/-! ### Faults that restart (R15, R343, R497) -/

/-- The restart that R343 starts for an island's fault. -/
def faultRestart (s : State) (isl cause : Nat) : State :=
  if isEngine isl then hotRestart s cause isl
  else if isl = 0 then warmRestart s 0x11 isl
  else if isCore isl ∨ [0x49, 0x4A, 0x4B, 0x50].contains isl then warmRestart s 0x12 isl
  else s

/-- The code of an island's lockstep fault; none for an island without a lockstep row (R497). -/
def lockstepCode (isl : Nat) : Option Nat :=
  if isEngine isl then some 0x0101 else if isCore isl then some 0x0102 else if isl = 0 then some 0x0103
  else if 0x60 ≤ isl ∧ isl < 0x64 then some 0x0104 else if isl = 0x7F then some 0x0105 else none

/-- LOCKSTEP_MISMATCH (R15): the Ridge takes the fault and R343's restart begins. -/
def execLockstepMismatch (isl : Byte) (s : State) : Res :=
  let i := isl.toNat
  match lockstepCode i with
  | some c => if !alive s || !(island s i).inService then .next s else .next (faultRestart (report s c i) i 0x01)
  | none => .next s

/-- HEARTBEAT_TIMEOUT (R343): 100 µs without a heartbeat from an engine or a core island in service. -/
def execHeartbeatTimeout (isl : Byte) (s : State) : Res :=
  let i := isl.toNat
  let d := island s i
  if !alive s || !(s.rst.stage == 0 || s.rst.stage == 3) || !d.inService || decide (s.t0 < d.lastHb + 100 * us) then .next s
  else if isEngine i then .next (faultRestart (report s 0x0201 i) i 0x02)
  else if isCore i then .next (faultRestart (report s 0x0202 i) i 0x12)
  else .next s

/-- STEWARD_WATCHDOG (R343). -/
def execStewardWatchdog (s : State) : Res := if alive s then .next (warmRestart s 0x11 0x00) else .next s

/-- CLOCK_FAULT (R497): as a lockstep fault of that island; the Ridge's own oscillator is CLOCK_RIDGE. -/
def execClockFault (isl : Byte) (s : State) : Res :=
  let i := isl.toNat
  if !alive s || !(island s i).inService then .next s
  else if i = 0x7F then .next (report s 0x0503 i)
  else if (lockstepCode i).isSome || [0x49, 0x4A, 0x4B, 0x50].contains i then .next (faultRestart (report s 0x0501 i) i 0x01)
  else .next s

/-! ### Hot restarts (R346-R348, R387, R518) -/

/-- The loop's next release seeds under R184 from an output value (R347, R354). -/
def loopSeed (s : State) (i : Nat) (r : Rat) : State := setLoop s i (fun d => { d with reseed := true, u := normOut s i r })

/-- A cycle engine's memories: initial data, then the retained items of the staging copies (R138, R346); its tasks' first releases see FS (R135). -/
def ceBack (s : State) (c : Nat) : State :=
  let ks := (tkeys s.sched.progs).filter (fun k => tget 0 s.sched.home k == c)
  let s := setEngine s c (fun e => { e with mem := [], bl := {}, blSaved := {}, nat := {}, natSaved := {}, natQueue := [], half := 0, snap := [], role := 0 })
  let s := ks.foldl (fun s k => restoreProg (initData s k) k (tget {} s.sched.staging k)) s
  let s := (tkeys s.sched.tasks).foldl (fun s i => if homeOf s i = c then setTask s i (fun d => { d with scan := true }) else s) s
  dispatch s c

/-- A loop engine's memories from the images and its loops: first releases seeded from the realised output, sticky flags cleared (R172, R347). -/
def leBack (s : State) (le : Nat) : State :=
  let s := loadLaws { s with loopEng := tdel s.loopEng le } le
  ((tkeys s.loops).filter (fun i => i / 64 == le)).foldl (fun s i =>
    let s := loopSeed s i (ratOf (pget s (ptid 6 (i * 256 + 2))).value.toNat)
    update (setLoop s i (fun d => { d with sticky := 0, seen := 0 })) s.t0 (ptid 6 (i * 256 + 5)) 0) s

/-- A motion engine's profiles: a moving one ends in TILE_STOP, and the operations pass through RESUMING with the outage since the trigger (R347). -/
def meBack (s : State) (m trig : Nat) : State :=
  let ps := (List.range 16).map (16 * m + ·)
  let s := ps.foldl (fun s p =>
    let d := prof s p
    if d.plan.isNone ∧ d.home.isNone ∧ d.vel = 0 then s
    else setProf s p (fun d => { d with st := 9, plan := none, home := none, vel := 0, acc := 0, maint := none, running := none, stopReq := none })) s
  let tick := (s.pocket.tick0 + trig * 32768 / sec) % 2 ^ 48
  (s.track.slots.filter (fun e => e.2.st == 1 && decide (2 ≤ e.2.kind ∧ e.2.kind ≤ 4 ∧ (e.2.data[0]?).getD 64 / 16 = m))).foldl (fun s e =>
    opResume (opState (setOp s e.1 (fun o => { o with st := 3, keep := tick })) e.1) e.1) s

/-- An acquisition engine's units: open records close with TRUNCATED, pools are lost, units arm again; a SINGLE unit only if it was armed, a unit its full ring stopped not at all (R387, R380). -/
def aeBack (s : State) (ae : Nat) : State :=
  ((tkeys s.acq).filter (fun u => u / 16 == ae)).foldl (fun s u =>
    let was := acqUnit s u
    let s := acqClose s u s.t0 4
    if !acqMay s u || was.ringFull then setAcq s u (fun m => { m with pool := [], grp := none, gapN := none })
    else if was.st ≠ 2 ∧ was.get 0 = 1 then setAcq s u (fun m => { m with st := 1, pool := [], grp := none, filling := false, gapN := none })
    else acqArm (setAcq s u (fun m => { m with gapN := none })) u false) s

/-- A check-value unit's running job starts again from START (R518). -/
def cvBack (s : State) (u : Nat) : State :=
  { s with cv := { s.cv with units := tmod {} s.cv.units u (fun d => { d with running := d.running.map (fun j => { j with restarts := min (j.restarts + 1) 255, began := s.t0 }) }) } }

/-- ENGINE_IN_SERVICE (R346): the engine is aligned, reloaded and in service; the fault's cause has ended (R498). -/
def execEngineInService (isl : Byte) (s : State) : Res :=
  let i := isl.toNat
  match (island s i).restarting with
  | none => .next s
  | some trig =>
    let s := setIsland s i (fun d => { d with inService := true, restarting := none, aligned := true, copySet := true, lastHb := s.t0 })
    let s := causeEnd s (fun l => decide (l.isl = i) && [0x0101, 0x0201, 0x0402, 0x0501].contains l.code)
    if i < 0x20 then .next (ceBack s (i - 0x10))
    else if i < 0x28 then .next (leBack s (i - 0x20))
    else if i < 0x2C then .next (meBack s (i - 0x28) trig)
    else if i < 0x30 then .next (aeBack s (i - 0x2C))
    else .next (cvBack s (i - 0x30))

/-- HOT_RESTART_TIMEOUT (R348): not in service 1 ms after the trigger becomes a warm restart. -/
def execHotRestartTimeout (isl : Byte) (s : State) : Res :=
  match (island s isl.toNat).restarting with
  | some t => if s.t0 < t + ms then .next s else .next (warmRestart s 0x13 isl.toNat)
  | none => .next s

/-! ### The warm boot (R349, R421) -/

/-- The records that a warm restart commits: at most 64, highest severity first and oldest first within one (R421). -/
def warmPick (l : List EvRec) : List EvRec :=
  if l.length ≤ 64 then l
  else
    let order := ((List.range 8).reverse.flatMap (fun v => l.filter (fun x => x.sev == v))).take 64
    l.filter (fun x => order.any (fun y => y.seq == x.seq))

/-- The recorder before the commons is reset: what awaits is committed in SEQ order, the rest is lost, the last word is written (R420, R421). -/
def recorderFlush (s : State) : State :=
  let s := (s.evq).foldl createRec { s with evq := [] }
  let un := s.recd.ring.filter (fun x => !x.committed)
  let pick := if s.recd.flashFailed then [] else warmPick un
  let lost := un.filter (fun x => !pick.any (fun y => y.seq == x.seq))
  let before := s.recd.committedSeq
  let s := pick.foldl commitRec s
  match lost with
  | [] => setRec (putLastWord s none) (fun r => { r with ring := [] })
  | x :: _ =>
    let known := match pick with | y :: _ => if later 32 x.seq.toNat y.seq.toNat then x.seq - 1 else before | [] => before
    let s := putLastWord (setRec s (fun r => { r with committedSeq := known })) none
    let s := setRec s (fun r => { (lost.foldl (fun r x => countLost r x.sev) r) with ring := [] })
    setRst s (fun r => { r with lostRange := some ((known + 1).toNat, (s.recd.next - 1).toNat, lost.length) })

/-- WARM_BOOT_START (R349): after the trigger, with every tile in silent hold, events are committed, the control die is reset and M1 is entered. -/
def execWarmBootStart (s : State) : Res :=
  if s.rst.stage ≠ 1 ∨ ([0, 1, 2, 3].any (fun n => (node s n).powered && !(node s n).silent)) = true then .next s
  else
    let s := recorderFlush s
    let s := { s with
      links := [], track := {}, loopEng := []
      sched := { s.sched with engines := [], setsOut := [], strobesOut := [] }
      streams := s.streams.map (fun (e : Nat × StreamSt) => (e.1, { e.2 with handle := 0, enter := none, boundary := none, reenter := none, drain := none, abortReq := none, held := [], holds := [] }))
      acq := s.acq.map (fun (e : Nat × AcqUnit) => (e.1, { e.2 with pool := [], grp := none, gapN := none, filling := false, st := if e.2.st = 0 then 0 else 1 }))
      islands := s.islands.map (fun (e : Nat × IslandSt) => (e.1, { e.2 with aligned := false, copySet := false, good := 0, restarting := none, inService := true }))
      params := { s.params with force := s.params.onRestart.foldl putForce s.params.force, onRestart := [] } }
    let s := [1, 2, 3].foldl (fun s d =>
      let old := (domain s d).st
      timePoints (noteHold (setDomain s d (fun m => m.toHoldover s.t0)) d old) d) s
    .next (setRst (forceMode' { s with host := { s.host with windowDown := true } } .boot 7) (fun r => { r with stage := 2 }))

/-! ### The end of boot (R71, R349, R351, R361, R364-R367, R485, R553) -/

/-- The bank to run: the chosen one, or the other valid one when it does not verify (R553); none when neither does. -/
def bankPick (s : State) (bad : BitVec 2) : Option Nat :=
  let ok (b : Nat) : Bool := (tfind s.fw.valid b).isSome && !bad.getLsbD b
  if ok s.fw.bank then some s.fw.bank else if ok (1 - s.fw.bank) then some (1 - s.fw.bank) else none

/-- Load the Deck and images that flash holds (R93, R361): the values are the saved Deck's. -/
def bootDeck (s : State) (bad : BitVec 2) : State :=
  match newestFlash s (fun k => !bad.getLsbD k) with
  | none => { s with deck := { s.deck with inUse := false } }
  | some (slot, f) =>
    let s := useDeck s f.deck f.imgs
    let s := { s with
      deck := { s.deck with edit := f.edit, slot := slot }
      params := { s.params with working := f.vals, force := f.vals, saved := f.vals } }
    ridgeConfig (loadEngines s)

/-- The era after the last record of the flash journal; with no record the spec names none. -/
def journalEra (s : State) : Half × State :=
  match s.recd.journal.flatten.getLast? with
  | some x => (x.era + 1, s)
  | none => let (v, s) := fresh s; (bv 16 v.toNat, s)

/-- The whole header (R367). -/
def newHeader (s : State) : State :=
  let base := leBytes 4 0x544B4350 ++ leBytes 2 1 ++ leBytes 2 s.recd.era.toNat ++ List.replicate 6 0 ++ leBytes 2 (if s.deck.inUse then 1 else 0) ++ List.replicate 240 0
  let s := setPocket s (fun p => { p with mem := mwrites p.mem 0 base })
  pocketHeader s (planHeader s ++ shingleHeader s ++ restartHeader s.rst ++ [(0x030, leBytes 4 s.track.genHigh)])

/-- The committed records of the operation area under the header's plan. -/
def opCount (s : State) : Nat := ((headerSlots s).filter (fun e => (recordAt s e.1 e.2).2.1)).length

/-- What a cold boot makes of the Pocket and the recorder (R364, R365, R413). -/
def coldPocket (s : State) (recOk : Bool) : State :=
  let sound := headerOk s && !s.rst.vbatLost && !(fld (mreads s.pocket.mem 0x0E 1) 0 1).testBit 1
  let s := setRst s (fun r => { r with lostOps := if sound then opCount s else 0, vbatLost := false })
  let (era, s) := if sound then (bv 16 (fld (mreads s.pocket.mem 6 2) 0 2 + 1), s) else journalEra s
  let gh := if sound then fld (mreads s.pocket.mem 0x30 3) 0 3 else 0
  let s := setTrack (clearAreas s false) (fun t => { t with genHigh := gh })
  setRec s (fun r => { r with
    era := era, next := 0, wraps := 0, committedSeq := 0xFFFFFFFF
    degraded := r.degraded && !recOk, flashFailed := r.flashFailed && !recOk })

/-- The plan check of R367: a differing DECK_GEN or plan discards every operation and retained record, each discard recorded; a differing DECK_EDIT alone is taken over. -/
def planCheck (s : State) : State :=
  let m := s.pocket.mem
  let want := planHeader s
  let eq (e : Nat × List Byte) : Bool := mreads m e.1 e.2.length == e.2
  let genPlan := mreads m 0x008 4 == leBytes 4 s.deck.gen && (want.drop 1).all eq
  if !genPlan then
    let s := (headerSlots s).foldl (fun s e =>
      let r := recordAt s e.1 e.2
      if r.2.1 then note s Ev.opDiscarded 0x43 0 0 [e.2, fld r.1 0 4] else s) s
    let s := ((tkeys s.sched.progs).filter (fun k => !(prog s k).retain.isEmpty)).foldl (fun s k => note s Ev.retainDiscarded 0x50 k 0 []) s
    pocketHeader (clearAreas s true) (want ++ shingleHeader s)
  else if !want.all eq then pocketHeader (note s Ev.deckEditDiff 0x50 0 0 [fld (mreads m 0x0C 2) 0 2, s.deck.edit]) want
  else s

/-- The events that state what a restart has lost (R93, R161, R340, R421). -/
def tellLost (s : State) : State :=
  let r := s.rst
  let s := if r.lostSets = 0 then s else note s Ev.setsLost 0x00 0 0 [r.lostSets]
  let s := if r.exchLost then note s Ev.exchLost 0x00 0 0 [] else s
  let s := if r.kind = 3 ∧ r.lostOps ≠ 0 then note s Ev.opsLost 0x43 0 0 [r.lostOps] else s
  setRst s (fun r => { r with lostSets := 0, exchLost := false, lostOps := 0 })

/-- The EVT_LOST_RANGE record (R421): range, number lost, era. -/
def tellRange (s : State) (era : Nat) : State :=
  match s.rst.lostRange with
  | some (a, b, n) => setRst (note s Ev.evtLostRange 0x00 0 0 [a, b, n, era]) (fun r => { r with lostRange := none })
  | none => s

/-- A warm restart that goes on DEGRADED: DRAM counts as lost (R351). -/
def degrade (s : State) : State :=
  let z := State.reset
  let s := note s Ev.restartDegraded 0x00 0 0 [s.rst.cause]
  let s := setRst s (fun r => { r with degraded := true, dramLost := true, lostSets := s.params.unsaved, exchLost := exchUnsaved s })
  putCause { s with img := { z.img with cmd := s.img.cmd, field := s.img.field }, thatch := z.thatch, acq := [], streams := [], deck := { s.deck with crcBad := false, staged := [], stagedOk := false, loaded := [], kept := [] } }

/-- A kept PERSISTENT fault record latches its fault again with its cause (R502). -/
def relatch (s : State) : State :=
  let x := s.ridge.record
  if !(x.latched && x.persistent) then s
  else
    let r : Reaction := match x.react with | 1 => .group | 2 => .safe | 3 => .ridgeStop | _ => .log
    let s := match x.code with
      | 0x0804 => setRidge s (fun d => { d with elems := tmod {} d.elems (x.unit % 256 * 2 + x.unit / 256 % 2) (fun e => { e with bad := true }) })
      | 0x0901 => setChan s x.unit (fun d => { d with flags := Nat.lor d.flags 128 })
      | 0x0902 => { s with twin := { s.twin with proofBad := x.unit :: s.twin.proofBad } }
      | 0x0B01 => setRidge s (fun d => { d with estop := { d.estop with demand := true } })
      | 0x0B02 => setRidge s (fun d => { d with estop := { d.estop with discrepancy := true } })
      | 0x0B03 => setRidge s (fun d => { d with estop := { d.estop with errDemand := true } })
      | _ => s
    ridgePoints (setRidge s (fun d => { d with latches := d.latches ++ [⟨x.code, r, x.groupsCut, x.isl, x.unit, true, true⟩] }))

/-- Every island is aligned and in service at the end of boot; a powered tile is configured, and after a keep or cold boot it hears heartbeats again. -/
def islandsUp (s : State) : State :=
  let up (i : Nat) : Bool := if 0x60 ≤ i ∧ i < 0x64 then (node s (i - 0x60)).powered else true
  let s := islandIds.foldl (fun s i => if up i then setIsland s i (fun d => { d with aligned := true, copySet := true, inService := true, lastHb := s.t0 }) else s) s
  [0, 1, 2, 3].foldl (fun s n => if (node s n).powered then setNode s n (fun d => { d with configured := true, linked := d.linked || s.rst.kind != 1, lastHb := s.t0 }) else s) s

/-- Tiles leave silent hold and hear heartbeats again (R350). -/
def tilesLive (s : State) : State :=
  let s := { s with twin := { s.twin with wasPaired := false }, io := { s.io with
    ch := s.io.ch.map (fun (e : Nat × ChSt) => (e.1, { e.2 with twinOff := false })), ao := s.io.ao.map (fun (e : Nat × AoSt) => (e.1, { e.2 with held := false })) } }
  refreshOuts ([0, 1, 2, 3].foldl (fun s n => setNode s n (fun d => { d with silent := false, linked := d.powered, lastHb := s.t0 })) s)

/-- Answer every outstanding tag with 0x0F01 (R540). -/
def answerDown (s : State) : State :=
  [0, 1, 2, 3, 4, 5, 6, 7].foldl (fun s m => (mbx s m).tags.foldl (fun s t =>
    respond s { mb := ⟨m % 8, Nat.mod_lt _ (by decide)⟩, tag := bv 5 t.tag } t.opcode 0x0F01 1 []) s) s

/-- The Steward returns after a warm restart (R540): tags answered, a new epoch, window up, host heartbeat held off. -/
def stewardBack (s : State) : State :=
  let s := answerDown s
  stewardUp { s with host := { s.host with epoch := s.host.epoch + 1, windowDown := false, hbHoldUntil := s.t0 + param s pHostHbTimeout 0 * ms } }

/-- What a completed restart ends: core, Steward and clock faults (R498). -/
def restartCauses (s : State) : State :=
  causeEnd s (fun l => [0x0101, 0x0102, 0x0103, 0x0201, 0x0202, 0x0402, 0x0501].contains l.code)

/-- Go on from boot: to M2 or M3 at the instant of R364 after a cold boot, else to M6, or to M2 without a Deck or under another firmware than the Deck's (R71, R552). -/
def bootGo (s : State) : State :=
  if s.rst.kind = 3 then (pendMode s (if !s.deck.inUse || flag s pSysBootToConfig 0 then .config else .idle) 7).1
  else if !s.deck.inUse ∨ (s.rst.cause = 0x14 ∧ fwVersion s s.fw.bank ≠ flashTarget s) then
    let s := setRst s (fun r => { r with stage := 0, dramLost := false, atLeast := 0 })
    let s := if s.rst.kind = 1 then stewardBack s else stewardUp s
    tilesLive (restartCauses (forceMode' s .config 7))
  else
    let s := setRst (forceMode' s .resume 7) (fun r => { r with stage := 3 })
    if s.rst.kind = 2 then stewardUp s else s

/-- Whether an active partner is heard that we match (R475). -/
def partnerActive (s : State) : Bool :=
  s.twin.heard.any (fun h => match h with | some t => decide (s.t0 < t + 3 * ms) | none => false) && s.twin.partner.role == 0 && (s.twin.partner.st == 4 || s.twin.partner.st == 5)

/-- The twins' part at the end of boot (R71, R475, R485): a matching active partner is paired with, and without one the boot waits. -/
def bootTwin (s : State) : State :=
  if !flag s pTwinEnable 0 || !s.deck.inUse then bootGo s
  else if partnerActive s && s.twin.partner.same && flag s pTwinAutoPair 0 then
    note { s with twin := { s.twin with st := 1 } } Ev.twinState 0x4B 0 0 [s.twin.st, 1]
  else { s with twin := { s.twin with waitFrom := some s.t0 } }

/-- What follows the engines' loading and START code: the islands are up and the device goes on. -/
def bootRest (s : State) : State :=
  bootTwin (islandsUp (setRst s (fun d => { d with atLeast := max d.atLeast (if d.parkAll then 2 else 0) })))

/-- BOOT_END (R71): a bad header, VBAT_LOST or an ORIGIN of M8 makes the boot cold; else Deck, Pocket and engine memories are made ready, START code runs (R140), and at the event's next coming after it the device goes on. -/
def execBootEnd (degraded : Bool) (badSlots badBanks : BitVec 2) (recOk : Bool) (s : State) : Res :=
  if s.rst.stage ≠ 2 ∨ s.mode.pend.isSome = true ∨ s.twin.waitFrom.isSome = true ∨ s.twin.st = 1 then .next s
  else if s.rst.started then (if natBusy s then .next s else .next (bootRest s))
  else match bankPick s badBanks with
  | none => .next s
  | some b =>
    let s := if b = s.fw.bank then s else note { s with fw := { s.fw with bank := b, swapped := false, badBoots := 0 } } Ev.fwFallback 0x00 0 0 [b]
    let r := s.rst
    let vbat := r.vbatLost || (fld (mreads s.pocket.mem 0x0E 1) 0 1).testBit 1
    if r.kind ≠ 3 ∧ !headerOk s then .next (coldRestart s 0x33 r.isl r.origin r.cause)
    else if r.kind = 2 ∧ vbat = true then .next (coldRestart s 0x34 r.isl r.origin r.cause)
    else if r.kind = 2 ∧ r.origin = 8 then .next (coldRestart s 0x32 r.isl r.origin r.cause)
    else
      let s := journalInspect s
      let era := s.recd.era.toNat
      let s := if r.kind = 1 ∧ (degraded || s.deck.crcBad) = true then degrade s else s
      let s := if r.kind = 3 then coldPocket s recOk else s
      let s := if r.kind = 1 ∧ !s.rst.dramLost then loadEngines s else bootDeck s badSlots
      let s := if r.kind = 3 then newHeader s else if s.deck.inUse then planCheck s else s
      let s := tellRange (tellLost s) era
      let s := if r.kind = 1 then s else relatch s
      let s := setRst (askAnchor s 5) (fun d => { d with started := true })
      let runs := if s.deck.inUse then startRuns s else []
      .next (if runs.isEmpty then bootRest s else natRuns s runs)

/-! ### RESUME (R353, R354) -/

/-- Loops are prepared (R354 step 3): seeded from the held output after a warm restart, from the value of OUT_DST after a keep restart. -/
def loopsPrepare (s : State) : State :=
  (tkeys s.loops).foldl (fun s i =>
    let dst := param s pLoopOutDst i
    let v := if s.rst.dramLost then (pget s dst).value else match tfind s.img.cmd dst with | some v => v | none => (pget s (ptid 6 (i * 256 + 2))).value
    loopSeed (setLoop s i (fun d => { d with sticky := 0, seen := 0 })) i (ratOf v.toNat)) s

/-- Axes are prepared (R354 step 4): a RESYNC batch at each rest position, or the keep records. -/
def axesPrepare (s : State) : State :=
  let xs := (List.range 32).filter (fun x => decide (param s pTileEnable (x / 8) ≠ 0))
  if s.rst.kind = 2 then xs.foldl keepLoad s
  else
    let s := { s with motion := { s.motion with pf := s.motion.pf.map (fun (e : Nat × PfSt) => (e.1, ({ pos := e.2.pos, moveNo := e.2.moveNo, seq := e.2.seq, enabled := e.2.enabled, st := 9 } : PfSt))) } }
    s.motion.ax.foldl (fun s e => setAxis s e.1 (fun d => { d with locked := true })) s

/-- Loops, axes and operations are rebuilt in order at c, and Tr is set (R354 steps 3 to 5). -/
def rebuild (s : State) : State :=
  let s := opsRestore (axesPrepare (loopsPrepare s))
  let s := (tkeys s.sched.tasks).foldl (fun s i => setTask s i (fun d => { d with scan := true })) s
  setRst s (fun r => { r with tr := some (wholeMs s.t0 (500 * us)) })

/-- RECONSTRUCTION_COMPLETE (R354): retained items are restored and RECOVERY code runs (R140); at the event's next coming after it, or at once without such code, the rest is rebuilt. -/
def execReconstructionComplete (s : State) : Res :=
  if s.rst.stage ≠ 3 ∨ s.rst.tr.isSome = true then .next s
  else if s.rst.recovered then (if natBusy s then .next s else .next (rebuild s))
  else
    let s := setRst (retainRestore s) (fun r => { r with recovered := true })
    let runs := recoveryRuns s
    .next (if runs.isEmpty then rebuild s else natRuns s runs)

/-- The target of a restart (R353, R485): M10 while a reaction is latched. -/
def resumeTarget (s : State) : Mode :=
  if s.ridge.latches.any (fun l => l.react == .safe || l.react == .ridgeStop) then .safe
  else match s.rst.origin with
    | 4 => if flag s pSysResumeToHold 0 then .hold else .run
    | 5 => .hold
    | _ => .idle

/-- CSX stations at Tr of a warm restart are RETURNING (R461). -/
def csxReturn (s : State) : State :=
  (tkeys s.img.stations).foldl (fun s k =>
    if k / 1024 < 16 ∨ !flag s pEthEnable (k / 1024 - 16) ∨ (station s k).st = .returning then s
    else note (setStation s k (fun d => { d with st := .returning, seen := [], lastBlock := s.t0 })) Ev.stationState 0x48 k 0 [2, 0, s.t0]) s

/-- RESUME_GO (R350, R353, R354): at Tr tiles leave silent hold, the target mode is entered, operation rules are evaluated, and releases begin. -/
def execResumeGo (s : State) : Res :=
  match s.rst.tr with
  | none => .next s
  | some tr =>
    if s.rst.stage ≠ 3 ∨ s.t0 < tr then .next s
    else
      let warm := decide (s.rst.kind = 1)
      let was := (List.range 16).map (fun k => (k, (pget s (ptid 0x15 (k * 4096))).value.toNat))
      let dest := resumeTarget s
      let s := setRst s (fun r => { r with stage := 0, tr := none, atLeast := if dest = .safe ∨ r.origin = 9 then max r.atLeast 2 else r.atLeast })
      let s := if warm then stewardBack (csxReturn s) else s
      let s := enterMode s dest 7 tr
      let s := opRules (tilesLive s) was
      let s := { s with thatch := { s.thatch with outages := s.thatch.outages.map (fun o => if o.kind = 0 ∧ o.stop.isNone then { o with stop := some tr } else o) } }
      let s := (tkeys s.acq).foldl (fun s u => if warm && acqMay s u && (acqUnit s u).st == 1 && !(acqUnit s u).ringFull then acqArm s u false else s) s
      let s := restartCauses s
      .next (setRst s (fun r => { r with dramLost := false, atLeast := 0, badStreams := [] }))

/-! ### Gap buffers (R355-R357, R407) -/

/-- GAP_BUFFER_FULL (R356). -/
def execGapBufferFull (tile : Fin 4) (s : State) : Res :=
  let d := node s tile
  if !d.silent ∨ d.gapFull ∨ d.gap.length < gapCapacity then .next s
  else .next (setNode s tile (fun d => { d with gapFull := true, gapFullAt := s.t0 }))

/-- The summary of a full gap buffer as Thatch takes it: one record per point with SUMMARY, COUNT the number of changes (R407). Its SUM the spec does not state. -/
def gapSummary (s : State) (n : Nat) : List ThUpd × State :=
  (node s n).gapLost.foldl (fun (a : List ThUpd × State) e =>
    let (v, s) := fresh a.2
    let st : IntvSt := { min := e.2.1, max := e.2.2.1, sum := v, count := e.2.2.2.1, qmask := bv 16 (2 ^ qualOf e.2.2.2.2.2), flags := 0x10, last := e.2.2.2.2.1, start := (node s n).gapFullAt / 10000 }
    (a.1 ++ [{ point := e.1, t := (node s n).gapFullAt, val := e.2.2.2.2.1, qual := qualOf e.2.2.2.2.2, agg := some st, replay := true }], s)) ([], s)

/-- GAP_BUFFER_REPLAY (R357): an aligned tile sends its buffer, its events and its summary to Thatch and the recorder only. -/
def execGapBufferReplay (tile : Fin 4) (s : State) : Res :=
  let d := node s tile
  if !tileAligned s tile ∨ (d.gap.isEmpty ∧ d.gapLost.isEmpty ∧ d.gapEv.isEmpty) then .next s
  else
    let (sum, s) := gapSummary s tile
    let l : List ThUpd := d.gap.map (fun e => { point := e.2.1, t := e.1, val := e.2.2.1, qual := qualOf e.2.2.2, replay := true })
    let out : Outage := { start := d.silentSince, stop := some s.t0, kind := 1, tile := tile, summary := if d.gapLost.isEmpty then 0 else d.gapFullAt }
    let s := if d.replaying then s else note s Ev.gapReplay 0x42 tile 0 [1, d.silentSince]
    let s := { s with
      thatch := { s.thatch with queue := if s.thatch.plan.isEmpty then s.thatch.queue else s.thatch.queue ++ l ++ sum
                                outages := if d.replaying then s.thatch.outages else (s.thatch.outages ++ [out]).drop (s.thatch.outages.length + 1 - 64) }
      evq := s.evq ++ d.gapEv }
    .next (setNode s tile (fun d => { d with gap := [], gapLost := [], gapEv := [], gapFull := false, replaying := true }))

/-- REPLAY_COMPLETE (R357). -/
def execReplayComplete (tile : Fin 4) (s : State) : Res :=
  let d := node s tile
  if !d.replaying ∨ !d.gap.isEmpty ∨ !d.gapEv.isEmpty then .next s
  else .next (note (setNode s tile (fun d => { d with replaying := false })) Ev.gapReplay 0x42 tile 0 [0, d.silentSince])

/-! ### Power failure and the keep die (R358-R362, R570) -/

/-- The flush's records in their order: operations as of their last ended release, staging copies, axis keep records (R358). -/
def flushEntries (s : State) : List (Nat × List Byte) :=
  let ops := (s.track.slots.filter (fun e => e.2.st == 1 || e.2.st == 2 || e.2.st == 3)).map (fun e =>
    let u := setOp s e.1 (fun o => { o with seq := (o.seq + 1) % 65536 })
    (e.2.off, opRecord { u with t0 := e.2.start + e.2.elapsed * us - e.2.e0 } e.1 true))
  let ret := ((tkeys s.sched.progs).filter (fun k => !(prog s k).retain.isEmpty && (tfind s.sched.staging k).isSome)).map (fun k => (retainOff s k, retainBytes k (tget {} s.sched.staging k)))
  ops ++ ret ++ s.motion.ax.map (fun e => (keepAt e.1, keepBytes s e.1))

/-- POWER_FAIL_FLUSH (R358, R360): PWRFAIL_N falls; a step-boundary transaction in progress completes first, and in M1, in M6 and during a warm restart no record gets newer; `done` says that the flush completed in `flushUs` µs, else `written` of its records were. -/
def execPowerFailFlush (done : Bool) (written : Nat) (flushUs : Half) (s : State) : Res :=
  if !alive s || s.rst.lowAt.isSome then .next s
  else
    let state := s.rst.stage = 0 ∧ s.mode.cur ≠ .boot ∧ s.mode.cur ≠ .resume
    let org := originNow s
    let bt := if state then s.pocket.queue.filter (·.boundary) else []
    let l := if state then flushEntries s else []
    let s := abandonExch { s with mode := { s.mode with pend := none } }
    let s := setPocket s (fun p => match p.active with
      | some t => { p with mem := mwrites (t.entries.foldl (fun m e => mwrites m e.1 e.2) p.mem) journalAt (leBytes 4 0), active := none, txns := (p.txns + 1) % 2 ^ 32 }
      | none => p)
    let s := setPocket s (fun p => 
      let l := bt.flatMap (fun t => (withHdrCrc p.mem t).entries) ++ l
      { p with queue := [], mem := (if done then l else l.take written).foldl (fun m e => mwrites m e.1 e.2) p.mem })
    let s := setRst s (fun r => { r with stage := 4, lowAt := some s.t0, origin := org, flushed := done, flushUs := if done then flushUs.toNat else 0 })
    let r := s.rst
    let x : RestartSt := { r with
      kind := 2, cause := if done then 0x20 else 0x21, isl := 0xFF, t0Trigger := s.t0, keepTime := keepTick s, degraded := false, parkAll := false
      count := (r.count + 1) % 2 ^ 32, prevCause := r.cause, prevKind := r.kind }
    let s := setPocket s (fun p => { p with mem := mwrites p.mem 0x140 (causeBytes x) })
    let s := if done then (if state then putLastWord (timekeepWrite s false) none else timekeepWrite s false) else s
    .next s

/-- PWRFAIL_RECOVERED (R360): PWRFAIL_N has been high for 10 ms without a supply trip. -/
def execPwrfailRecovered (s : State) : Res :=
  if !alive s || s.rst.lowAt.isNone then .next s
  else
    let s := setRst s (fun r => { r with lowAt := none, stage := if s.mode.cur = .boot then 2 else if s.mode.cur = .resume then 3 else 0 })
    .next (warmRestart s 0x15 0xFF)

/-- KEEP_ENTRY (R362): the keep die runs on VBAT; M0 with the KEEP Shingle. -/
def execKeepEntry (s : State) : Res :=
  if !alive s then .next s
  else
    let org := originNow s
    let s := setRst s (fun r => if r.lowAt.isSome then { r with stage := 4, tr := none } else { r with stage := 4, tr := none, origin := org, flushed := false, flushUs := 0, lowAt := some s.t0 })
    .next (forceMode' { s with host := { s.host with ready := false } } .keep 7)

/-- POWER_RETURN (R361, R362): main power returns `ticks` keep ticks after entry to M0; with the power-good latch lost VBAT_LOST counts as set, and the tick count and whether the Pocket still holds its bytes are free values. -/
def execPowerReturn (ticks : BitVec 48) (latchOk : Bool) (s : State) : Res :=
  if s.mode.cur ≠ .keep then .next s
  else
    let low := s.rst.lowAt.getD s.t0
    let tickLow := (s.pocket.tick0 + low * 32768 / sec) % 2 ^ 48
    let s := latchRestart s 2 (if s.rst.flushed then 0x20 else 0x21) 0xFF s.rst.origin
    let s := putCause (setRst s (fun r => { r with t0Trigger := low, keepTime := tickLow, vbatLost := r.vbatLost || !latchOk }))
    let (v, s) := if latchOk then (bv 64 ((keepTick s + ticks.toNat) % 2 ^ 48), s) else fresh s
    let s := powerBase s (v.toNat % 2 ^ 48)
    let (lost, s) := if latchOk then (0, s) else fresh s
    let s := if lost.getLsbD 0 then setPocket s (fun p => { p with mem := [] }) else s
    .next (tellRestart s s.rst.cause)

/-- RESET_PIN (R343, R570): RESET_N low for 10 µs with main power present; ignored while PWRFAIL_N is low. -/
def execResetPin (s : State) : Res :=
  if !alive s || s.rst.lowAt.isSome then .next s else .next (coldRestart s 0x31 0xFF (originNow s) 0x31)

/-- VBAT_THRESHOLD (R362): below 2.2 V VBAT_LOW_SEEN; below 2.05 V in M0 the sticky VBAT_LOST in the header and its latch. -/
def execVbatThreshold (lost : Bool) (s : State) : Res :=
  if !lost then .next (setRst s (fun r => { r with vbatLow := true }))
  else if alive s then .next s
  else
    let f := fld (mreads s.pocket.mem 0x0E 2) 0 2
    let s := if headerOk s then pocketHeader s [(0x0E, leBytes 2 (Nat.lor f 2))] else s
    .next (setRst s (fun r => { r with vbatLost := true }))

/-! ### Supplies (R569, R570) -/

/-- SUPPLY_RAIL_FAULT (R570): a logic rail leaves its range without a preceding fall of PWRFAIL_N. -/
def execSupplyRailFault (rail : Fin 5) (s : State) : Res :=
  if !alive s || s.rst.lowAt.isSome then .next s else .next (report s 0x0601 0x7F rail.val)

/-- An axis whose tile loses its drive: it coasts, and the reference stays only at rest in DETENT (R267, R345). -/
def axisCoast (s : State) (x : Nat) : State :=
  let keep := (axis s x).atRest && decide (param s pAxisKeepMode x = 1)
  setAxis s x (fun d => { d with
    drv := 0, buf := [], cur := none, stop := none, locked := true, atRest := true, vel := 0, cur_ := 0, ramp := none, pa := {}, pb := {}
    referenced := d.referenced && keep, underrun := false })

/-- TILE_SUPPLY_LOSS (R569): the tile's outputs go off, its inputs and axes lose their state, and SUPPLY_TILE is reported. -/
def execTileSupplyLoss (tile : Fin 4) (s : State) : Res :=
  if !(node s tile).powered then .next s
  else
    let n := tile.val
    let s := if alive s then report s 0x0602 (0x60 + n) n else s
    let s := setNode s n (fun d => { powered := false, configured := false, linked := false, superseded := d.superseded, applyLate := d.applyLate, applyMissed := d.applyMissed })
    let s := setIsland s (0x60 + n) (fun d => { d with aligned := false, copySet := false, good := 0 })
    let s := (s.motion.ax.filter (fun e => e.1 / 8 == n)).foldl (fun s e => axFacets (axisCoast s e.1) e.1) s
    let s := { s with io := { s.io with
      ch := s.io.ch.map (fun (e : Nat × ChSt) => if e.1 / 128 = n then (e.1, ({ raw := e.2.raw } : ChSt)) else e)
      grp := s.io.grp.filter (fun e => !(decide (e.1 < 64 ∧ e.1 / 16 = n) || e.1 == 64 + n))
      ai := s.io.ai.filter (fun e => e.1 / 32 != n), ao := s.io.ao.filter (fun e => e.1 / 8 != n)
      enc := s.io.enc.map (fun (e : Nat × EncSt) => if e.1 / 4 = n then (e.1, ({ a := e.2.a, b := e.2.b, z := e.2.z } : EncSt)) else e) } }
    .next (refreshOuts s)

/-- TILE_POWER_UP (R569): VFL rises; the tile is in reset until the control die has configured it. -/
def execTilePowerUp (tile : Fin 4) (s : State) : Res :=
  if (node s tile).powered then .next s
  else .next (setNode s tile (fun d => { d with powered := true, configured := false, linked := false, silent := false, lastHb := s.t0 }))

/-- POCKET_SCAN (R369): words with a parity or CRC error are recorded, reported and rewritten from the live state; a third error of a word within 24 h marks the Pocket as failing. -/
def execPocketScan (errs : List (BitVec 12)) (s : State) : Res :=
  if !alive s then .next s
  else .next (errs.foldl (fun s w =>
    let t := keepTick s
    let recent := s.rst.pocketErrs.filter (fun e => decide ((t + 2 ^ 48 - e.2) % 2 ^ 48 < 24 * 3600 * 32768))
    let s := setRst s (fun r => { r with pocketErrs := recent ++ [(w.toNat, t)] })
    let s := report (note s Ev.pocketError 0x50 0 w.toNat []) 0x0C02 0x50 w.toNat
    if 2 ≤ (recent.filter (fun e => e.1 == w.toNat)).length then note s Ev.pocketFailing 0x50 0 w.toNat [] else s) s)

/-! ### Firmware swaps (R552, R553) and the host's restart (R547) -/

/-- FIRMWARE_SWAP_RESTART (R552): at the swap's instant a warm restart begins, and its boot loads the other bank. -/
def execFirmwareSwapRestart (s : State) : Res :=
  match s.fw.swapAt with
  | some t =>
    if s.t0 < t ∨ s.rst.stage ≠ 0 then .next s
    else .next (warmRestart { s with fw := { s.fw with swapAt := none, bank := 1 - s.fw.bank, swapped := true, badBoots := 0 } } 0x14 0xFF)
  | none => .next s

/-- STEWARD_READY_TIMEOUT (R553): the Steward of a newly swapped bank is not ready 5 s after the trigger; the boot is repeated, after the second time with the other valid bank. -/
def execStewardReadyTimeout (s : State) : Res :=
  if !s.fw.swapped ∨ s.host.ready ∨ s.t0 < s.rst.t0Trigger + 5 * sec then .next s
  else
    let n := s.fw.badBoots + 1
    let back := decide (2 ≤ n) && (tfind s.fw.valid (1 - s.fw.bank)).isSome
    let s := if back then note { s with fw := { s.fw with bank := 1 - s.fw.bank, swapped := false, badBoots := 0 } } Ev.fwFallback 0x00 0 0 [1 - s.fw.bank]
      else { s with fw := { s.fw with badBoots := n } }
    .next (warmRestart s 0x11 0x00)

end Sys2Proof.Machine
end

