-- ==== Sys2Proof/Machine/HostCmd.lean ====
section
/-! DEFINITION. Mailbox commands: device, bulk, parameters, points, tasks, axes, channels, encoders, streams and operations (R61-R64, R322, R342, R546-R561). -/

namespace Sys2Proof.Machine

/-! ### Device and bulk (R546, R547) -/

/-- DEVICE_INFO. -/
def execDeviceInfo (r : Req) (s : State) : Res :=
  .next (command s r 0x0001 false allModes 0 (r.target == 0) (fun s =>
    finish s r 0x0001 false 0 (leBytes 4 s.host.idFw.toNat ++ leBytes 4 0x16480B00 ++ leBytes 8 Config.serial.toNat ++ leBytes 4 s.deck.gen ++ leBytes 2 s.deck.edit ++
      leBytes 1 s.mode.cur.num ++ leBytes 1 s.twin.st ++ leBytes 4 s.host.epoch.toNat ++ leBytes 4 s.rst.count)))

/-- DEVICE_RESTART (R547): the final response comes first, the restart at the first whole millisecond at least 1 ms later. -/
def execDeviceRestart (r : Req) (s : State) : Res :=
  let kind := fld r.payload 0 1
  let isl := fld r.payload 1 1
  .next (command s r 0x0003 true allModes 4
    (r.target == 0 && fld r.payload 2 2 == 0 && ((kind == 0 && isEngine isl) || ((kind == 1 || kind == 3) && isl == 0))) (fun s =>
    finish (setHost s (fun h => { h with restartReq := h.restartReq ++ [(wholeMs s.t0 ms, kind, isl)] })) r 0x0003 true 0))

/-- DEVICE_RESTART_TRIGGER (R343, R547). -/
def execDeviceRestartTrigger (s : State) : Res :=
  match s.host.restartReq with
  | [] => .next s
  | (t, kind, isl) :: rest =>
    if s.t0 < t ∨ s.mode.cur = .keep then .next s
    else
      let s := setHost s (fun h => { h with restartReq := rest })
      .next (match kind with | 0 => hotRestart s 0x03 isl | 1 => warmRestart s 0x10 0xFF | _ => coldRestart s 0x30 0xFF (originNow s) 0x30)

/-- BULK_WRITE. -/
def execBulkWrite (r : Req) (s : State) : Res :=
  let off := fld r.payload 0 4
  let data := r.payload.drop 4
  .next (command s r 0x0004 true allModes 8 (r.target == 0 && bulkOk off data.length && decide (data.length ≤ 1436)) (fun s =>
    if bulkBusy s off data.length then finish s r 0x0004 true 0x0509
    else
      let (ok, s) := bulkMay s data.length
      if !ok then finish s r 0x0004 true 0x050B
      else finish (setHost s (fun h => { h with bulk := mwrites h.bulk off data })) r 0x0004 true 0))

/-- BULK_READ. -/
def execBulkRead (r : Req) (s : State) : Res :=
  let off := fld r.payload 0 4
  let len := fld r.payload 4 4
  .next (command s r 0x0005 false allModes 8 (r.target == 0 && bulkOk off len && decide (4 ≤ len ∧ len ≤ 1440)) (fun s =>
    if bulkBusy s off len then finish s r 0x0005 false 0x0509
    else
      let (ok, s) := bulkMay s len
      if !ok then finish s r 0x0005 false 0x050B else finish s r 0x0005 false 0 (mreads s.host.bulk off len)))

/-! ### Parameters (R546, R557-R561) -/

/-- Whether an accepted SET of a key waits to take effect. -/
def setWaits (s : State) (key : Nat) : Bool := (s.params.live ++ s.params.onMode ++ s.params.onRestart).any (fun p => p.key == key)

/-- PARAM_GET. -/
def execParamGet (r : Req) (s : State) : Res :=
  let id := r.target.toNat
  let sc := fld r.payload 0 1
  .next (command s r 0x0101 false allModes 4 (decide (sc ≤ 12) && fld r.payload 1 3 == 0) (fun s =>
    match descOf id with
    | some _ =>
      let f := bitAt (tfind s.params.working (pkey sc id)).isSome 0 * (if sc = 0 then 0 else 1) + bitAt (setWaits s (pkey sc id)) 1
      finish s r 0x0101 false 0 (leBytes 8 (govern s sc id).1.toNat ++ leBytes 8 (peff s (id / 4096) (id % 4096)).toNat ++ leBytes 4 f)
    | none =>
      if isFactory id then
        let v := leBytes 8 (Config.factoryValue (id / 4096) (id % 4096)).toNat
        finish s r 0x0101 false 0 (v ++ v ++ leBytes 4 0)
      else finish s r 0x0101 false 0x010F))

/-- The transport of a request. -/
def via (s : State) (r : Req) (op : Nat) : Nat := (tagOf s r op).transport

/-- PARAM_SET (R93, R544, R558). -/
def execParamSet (r : Req) (s : State) : Res :=
  let sc := fld r.payload 0 1
  let v := fld r.payload 4 8
  .next (command s r 0x0102 true allModes 12 (fld r.payload 1 3 == 0) (fun s =>
    let st := setStatus s sc r.target.toNat v
    if st ≠ 0 then finish s r 0x0102 true st
    else
      let (s, e) := doSet s r.mb (via s r 0x0102) r.tag.toNat sc r.target.toNat (bv 64 v) false
      finish s r 0x0102 false 0 (leBytes 8 e)))

/-- PARAM_UNSET: without a delta in the scope it has no effect but its record. -/
def execParamUnset (r : Req) (s : State) : Res :=
  let sc := fld r.payload 0 1
  let id := r.target.toNat
  .next (command s r 0x0103 true allModes 4 (decide (1 ≤ sc ∧ sc ≤ 12) && fld r.payload 1 3 == 0) (fun s =>
    match descOf id with
    | none => finish s r 0x0103 true (if isFactory id then 0x0106 else 0x010F)
    | some d =>
      if !shingleOk s d sc id then finish s r 0x0103 true 0x0106
      else if (tfind s.params.working (pkey sc id)).isNone then
        let v := (govern s sc id).1.toNat
        finish (note s Ev.configChange 0x48 r.mb id [sc, via s r 0x0103, r.tag.toNat, 3, v, v, 0]) r 0x0103 false 0 (leBytes 8 0)
      else
        let (s, e) := doSet s r.mb (via s r 0x0103) r.tag.toNat sc id 0 true
        finish s r 0x0103 false 0 (leBytes 8 e)))

/-- A text as ASCII bytes in a field of `n`. -/
def asciiBytes (n : Nat) (t : String) : List Byte := ((t.toList.map (fun (c : Char) => bv 8 c.toNat)) ++ List.replicate n 0).take n

/-- The bits of a binary32 value given by its order key. -/
def fofKey (k : Int) : Nat := if k < 0 then 2 ^ 31 + k.natAbs else k.natAbs

/-- A bound as a parameter value travels (R557). -/
def boundBytes (ty : PTy) (x : Int) : List Byte :=
  leBytes 8 (match ty with | .f32 => fofKey x | .i8 => (BitVec.ofInt 8 x).toNat | .i32 => (BitVec.ofInt 32 x).toNat | _ => x.toNat)

/-- A kind's type code and change-mode code (R557). -/
def tyCode : PTy → Nat
  | .bool => 0 | .u8 => 1 | .u16 => 2 | .u32 => 3 | .i8 => 4 | .i32 => 5 | .f32 => 6 | .bits => 7 | .point => 8
/-- The change-mode code. -/
def cmCode : PCm → Nat
  | .live => 0 | .mode => 1 | .restart => 2 | .image => 3

/-- The defined kind numbers of a class in rising order, factory kinds included (R559, R561). -/
def classKinds (c : Nat) : List Nat :=
  (List.range 0x800).filter (fun k => (paramDesc (c * 4096 + k)).isSome) ++ ((List.range 0x800).map (0x800 + ·)).filter (fun k => Config.factoryKind (c * 4096 + k))

/-- PARAM_DESCRIBE. -/
def execParamDescribe (r : Req) (s : State) : Res :=
  let id := r.target.toNat
  let code := id / 4096
  .next (command s r 0x0104 false allModes 0 (id % 4096 == 0) (fun s =>
    if code % 4096 = 0 then
      let l := classKinds (code / 4096)
      if l.isEmpty then finish s r 0x0104 false 0x010F else finish s r 0x0104 false 0 (leBytes 2 l.length ++ l.flatMap (leBytes 2))
    else match paramDesc code with
    | some d =>
      finish s r 0x0104 false 0 (asciiBytes 24 d.name ++ asciiBytes 16 d.units ++ leBytes 1 (tyCode d.ty) ++ leBytes 1 (cmCode d.cm) ++ leBytes 2 0 ++
        boundBytes d.ty d.lo ++ boundBytes d.ty d.hi ++ leBytes 8 (pdefault code d.first) ++ leBytes 4 (d.last - d.first + 1))
    | none =>
      if isFactory id then
        let b (k n : Nat) : List Byte := (List.range n).map (fun i => (Config.factoryDesc code (k + i)))
        finish s r 0x0104 false 0 (b 0 42 ++ leBytes 2 1 ++ b 44 28)
      else finish s r 0x0104 false 0x010F))

/-! ### Points (R61-R64, R546, R579) -/

/-- Whether a point counts as populated for the host: LOCAL never does (R60). -/
def hostPoint (s : State) (p : Nat) : Bool := decide (p < 2 ^ 25) && ptRegion p != 0x1F && populated s p

/-- POINT_READ: consecutive entries at one instant (R52). -/
def execPointRead (r : Req) (s : State) : Res :=
  let n := fld r.payload 0 2
  let p := r.target.toNat
  .next (command s r 0x0105 false allModes 4 (decide (1 ≤ n ∧ n ≤ 507) && fld r.payload 2 2 == 0) (fun s =>
    let l := (List.range n).map (p + ·)
    match l.find? (fun q => !hostPoint s q) with
    | some q => finish s r 0x0105 false 0x0401 (leBytes 4 q)
    | none => finish s r 0x0105 false 0 (leBytes 8 s.t0 ++ l.flatMap (fun q => leBytes 8 (pgetAt s s.t0 q).entry.toNat))))

/-- Whether a station's point belongs to an input block, or to an output block. -/
def stnSide (s : State) (p : Nat) (input : Bool) : Bool :=
  match stnOf p with | some k => (stnPoints (station s k) input).any (fun e => e.1 == p) | none => false

/-- Whether the host may write a point (R61): no writer, and an output command, a station output or a MEM variable. -/
def hostWritable (s : State) (p : Nat) : Bool :=
  let g := ptRegion p
  (tfind s.img.writers p).isNone &&
    ((g == 1 && ptIndex p % 16 == 1) || (g == 3 && ptIndex p % 16 == 0) || stnSide s p false || decide (0x18 ≤ g ∧ g ≤ 0x1B))

/-- Whether a point is simulated now. -/
def simOf (s : State) (p : Nat) : Bool := s.img.forces.any (fun f => f.sim && f.point == p)

/-- A host write at its acceptance (R51, R61, R579): to a simulated point the simulated value, else the point's own, an output going to the field with it. -/
def pointWrite (s : State) (p : Nat) (v : Word) : State :=
  if simOf s p then
    let s := { s with img := { s.img with forces := s.img.forces.map (fun (f : Force) => if f.sim && f.point == p then { f with value := v } else f) } }
    let pt := pgetAt s s.t0 p
    update s s.t0 p pt.source pt.srcConds
  else if 0x18 ≤ ptRegion p then update s s.t0 p v
  else netApply (applyOne s s.t0 s.t0 ⟨p, v, 0⟩) s.t0 s.t0 [p] false

/-- POINT_WRITE. -/
def execPointWrite (r : Req) (s : State) : Res :=
  let p := r.target.toNat
  .next (command s r 0x0106 true allModes 8 (fld r.payload 4 4 == 0) (fun s =>
    if !hostPoint s p then finish s r 0x0106 true 0x0401
    else if !hostWritable s p && !simOf s p then finish s r 0x0106 true 0x0404
    else finish (pointWrite (forward s 4 [0x0106, p, s.t0] r.payload) p (bv 32 (fld r.payload 0 4))) r 0x0106 true 0 (leBytes 8 s.t0)))

/-- The force instant of a request accepted at `a` (R579). -/
def forceAt (a : Nat) : Nat := wholeMs a (500 * us)

/-- The points forced, or simulated, now or from their force instant on. -/
def forcedPoints (s : State) (sim : Bool) : List Nat :=
  ((s.img.forces.filter (fun f => f.sim == sim)).map (·.point) ++ (s.img.forcePend.filter (fun f => f.starts && f.f.sim == sim)).map (·.f.point)).eraseDups

/-- Begin a force or simulation, or end it, at the force instant of acceptance `a`. -/
def forceReq (s : State) (a : Nat) (starts : Bool) (f : Force) : State :=
  { s with img := { s.img with forcePend := s.img.forcePend ++ [⟨forceAt a, starts, f⟩] } }

/-- Regions whose points may be forced (R62). -/
def forceRegion (p : Nat) : Bool := let g := ptRegion p; g == 1 || g == 2 || g == 3 || g == 7 || decide (8 ≤ g ∧ g ≤ 0x12) || decide (0x18 ≤ g ∧ g ≤ 0x1B)

/-- Input points, which may be simulated (R63): CH facet 0, AI and ENC figures, station inputs. -/
def inputPoint (s : State) (p : Nat) : Bool :=
  match ptRegion p with
  | 1 => ptIndex p % 16 == 0
  | 2 => decide (ptIndex p % 16 ≤ 2)
  | 7 => decide (ptIndex p % 16 ≤ 2)
  | _ => stnSide s p true

/-- POINT_FORCE (R62). -/
def execPointForce (r : Req) (s : State) : Res :=
  let p := r.target.toNat
  .next (command s r 0x0107 true ([.idle, .maint] ++ (if flag s pSysForceInRun 0 then [.run] else [])) 8 (fld r.payload 4 4 == 0) (fun s =>
    if !hostPoint s p then finish s r 0x0107 true 0x0401
    else if !forceRegion p then finish s r 0x0107 true 0x0404
    else if 256 ≤ ((forcedPoints s false).filter (· != p)).length then finish s r 0x0107 true 0x0305
    else finish (forceReq (forward s 4 [0x0107, p, s.t0] r.payload) s.t0 true ⟨false, p, bv 32 (fld r.payload 0 4), 0⟩) r 0x0107 true 0))

/-- POINT_SIMULATE (R63): the value comes from host writes or from a DERIVED point. -/
def execPointSimulate (r : Req) (s : State) : Res :=
  let p := r.target.toNat
  let src := fld r.payload 0 4
  .next (command s r 0x0109 true [.idle, .maint, .test] 8 (src == 0 || (ptRegion src == 0x1E && populated s src)) (fun s =>
    if !hostPoint s p then finish s r 0x0109 true 0x0401
    else if !inputPoint s p then finish s r 0x0109 true 0x0404
    else if 256 ≤ ((forcedPoints s true).filter (· != p)).length then finish s r 0x0109 true 0x0305
    else finish (forceReq (forward s 4 [0x0109, p, s.t0] r.payload) s.t0 true ⟨true, p, bv 32 (fld r.payload 4 4), src⟩) r 0x0109 true 0))

/-- End a force or simulation at its force instant; without one there is nothing to end (R64, R579). -/
def unforce (s : State) (a p : Nat) (sim : Bool) : State :=
  if (forcedPoints s sim).contains p then forceReq s a false ⟨sim, p, 0, 0⟩ else s

/-- POINT_UNFORCE (R64). -/
def execPointUnforce (r : Req) (s : State) : Res :=
  let p := r.target.toNat
  .next (command s r 0x0108 true allModes 0 true (fun s =>
    if !hostPoint s p then finish s r 0x0108 true 0x0401
    else finish (unforce (forward s 4 [0x0108, p, s.t0]) s.t0 p false) r 0x0108 true 0))

/-- POINT_UNSIMULATE (R64). -/
def execPointUnsimulate (r : Req) (s : State) : Res :=
  let p := r.target.toNat
  .next (command s r 0x010A true allModes 0 true (fun s =>
    if !hostPoint s p then finish s r 0x010A true 0x0401
    else finish (unforce (forward s 4 [0x010A, p, s.t0]) s.t0 p true) r 0x010A true 0))

/-- TASK_TRIGGER (R96): an enabled EVENT task is released; the trigger instant is the acceptance. -/
def execTaskTrigger (r : Req) (s : State) : Res :=
  let i := fld r.payload 0 2
  .next (command s r 0x010B true [.idle, .run, .hold, .maint, .safe, .update] 4 (r.target == 0 && decide (i < 1024) && fld r.payload 2 2 == 0) (fun s =>
    if !(task s i).present ∨ (task s i).kind ≠ 1 ∨ !flag s pTaskEnable i then finish s r 0x010B true 0x020B
    else finish (takeTrig (forward s 1 [i, s.t0]) i s.t0) r 0x010B true 0 (leBytes 8 s.t0)))

/-! ### Loops, axes, channels, encoders (R190, R193, R230, R286, R307, R308, R553, R554) -/

/-- LOOP_TUNE_ACCEPT (R193). -/
def execLoopTuneAccept (r : Req) (s : State) : Res :=
  let i := loopArg r
  .next (command s r 0x0313 true [.idle, .maint] 4 (decide (r.target = 0 ∧ fld r.payload 2 2 = 0 ∧ i < 512)) (fun s =>
    match (loop s i).result with
    | none => finish s r 0x0313 true 0x0405
    | some x =>
      if flt f32 (param s pLoopKpMax i) x.kp.toNat then finish s r 0x0313 true 0x0105
      else
        let set (s : State) (code : Nat) (v : Word) : State := (doSet s r.mb (via s r 0x0313) r.tag.toNat 0 (pid code i) (v.zeroExtend 64) false).1
        finish (set (set (set s pLoopKp x.kp) pLoopTi x.ti) pLoopTd x.td) r 0x0313 true 0))

/-- Answer a maintenance request that another one replaces before the next tick: a jog by a jog with OK, a stop with OK (R554). -/
def dropMaint (s : State) (i : Nat) (new : Nat) : State :=
  match (prof s i).maint with
  | none => s
  | some m => finish s { mb := ⟨m.mb % 8, Nat.mod_lt _ (by decide)⟩, tag := bv 5 m.tag } m.opcode true (if m.req = 0 ∨ (m.req = 3 ∧ (new = 3 ∨ new = 0)) then 0 else 0x020C)

/-- Hand a maintenance request to the axis's profile, which takes it at its next tick (R230). -/
def maintReq (s : State) (r : Req) (op ax : Nat) (m : MaintReq) : State :=
  let i := profOf ax
  if !(prof s i).enabled then finish s r op true 0x020C
  else
    let s := setProf (dropMaint s i m.req) i (fun d => { d with maint := some { m with mb := r.mb.val, tag := r.tag.toNat, opcode := op } })
    if m.req = 0 then s else accepted s r op

/-- AXIS_JOG. -/
def execAxisJog (r : Req) (s : State) : Res :=
  let ax := fld r.payload 0 1
  let dur := fld r.payload 8 4
  .next (command s r 0x0401 true [.maint] 12 (r.target == 0 && decide (ax < 32 ∧ 1 ≤ dur ∧ dur ≤ 10000) && fld r.payload 1 3 == 0) (fun s =>
    maintReq s r 0x0401 ax { req := 3, vel := bv 32 (fld r.payload 4 4), until_ := dur * ms }))

/-- AXIS_MOVE. -/
def execAxisMove (r : Req) (s : State) : Res :=
  let ax := fld r.payload 0 1
  let q := fld r.payload 1 1
  .next (command s r 0x0402 true [.maint] 8 (r.target == 0 && decide (ax < 32 ∧ (q = 1 ∨ q = 2)) && fld r.payload 2 2 == 0) (fun s =>
    maintReq s r 0x0402 ax { req := q, target := sval32 (fld r.payload 4 4) }))

/-- AXIS_HOME; a method that needs an encoder is refused without one (R248). -/
def execAxisHome (r : Req) (s : State) : Res :=
  let ax := fld r.payload 0 1
  .next (command s r 0x0403 true [.maint] 4 (r.target == 0 && decide (ax < 32) && fld r.payload 1 3 == 0) (fun s =>
    if homeNoEnc s ax then finish s r 0x0403 true 0x0107 else maintReq s r 0x0403 ax { req := 7 }))

/-- AXIS_STOP: the stop is asked for at once; its response comes when the profile takes it. -/
def execAxisStop (r : Req) (s : State) : Res :=
  let ax := fld r.payload 0 1
  let k := fld r.payload 1 1
  .next (command s r 0x0404 true [.maint] 4 (r.target == 0 && decide (ax < 32 ∧ k ≤ 2) && fld r.payload 2 2 == 0) (fun s =>
    if !(prof s (profOf ax)).enabled then finish s r 0x0404 true 0 else maintReq s r 0x0404 ax { req := 0, stopk := k }))

/-- CH_ACK (R286, R554). -/
def execChAck (r : Req) (s : State) : Res :=
  let g := fld r.payload 0 1
  .next (command s r 0x0410 true allModes 4 (r.target == 0 && decide (g < 64) && fld r.payload 1 3 == 0) (fun s =>
    if (grp s g).lost then finish s r 0x0410 true 0x0204
    else if (grp s g).ackWait then finish (setGrp s g (fun d => { d with restoreAt := some (wholeMs s.t0 (500 * us)) })) r 0x0410 true 0
    else finish s r 0x0410 true 0))

/-- ENC_ARM (R307). -/
def execEncArm (r : Req) (s : State) : Res :=
  let e := fld r.payload 0 1
  .next (command s r 0x0411 true allModes 4 (r.target == 0 && decide (e < 16) && fld r.payload 1 3 == 0) (fun s =>
    finish (setEnc s e (fun d => { d with armed := true })) r 0x0411 true 0))

/-- ENC_CLEAR (R308): QUAD_ERR clears. -/
def execEncClear (r : Req) (s : State) : Res :=
  let e := fld r.payload 0 1
  .next (command s r 0x0412 true allModes 4 (r.target == 0 && decide (e < 16) && fld r.payload 1 3 == 0) (fun s =>
    finish (encFlag s e 0 false) r 0x0412 true 0))

/-! ### Streams (R313, R321-R323) -/

/-- The recipe loaded in a slot. -/
def recipeIn (s : State) (slot : Nat) : Option ImageRec := tfind s.deck.loaded (imgKey 5 slot)

/-- STREAM_LOAD: the recipe's slot is bound. -/
def streamLoad (s : State) (k slot : Nat) : State :=
  match recipeIn s slot with
  | none => s
  | some x => streamPoints (setStream s k (fun d => { d with st := 1, slot := slot, gen := x.gen, recipe := x.bytes.drop 64, step := 0, handle := 0, enter := none, boundary := none, reason := 0 })) k

/-- STREAM_START: step 0 is entered at the next release; the slot's recipe as it now stands is used until the stream ends (R313). -/
def streamStart (s : State) (k a : Nat) : State :=
  match recipeIn s (stream s k).slot with
  | none => s
  | some x => streamPoints (setStream s k (fun d => { d with
      st := 2, recipe := x.bytes.drop 64, gen := x.gen, step := 0, handle := 0, counters := [0, 0, 0, 0, 0, 0, 0, 0], enter := some 0, enterFrom := a, boundary := none, reenter := none, subFailed := false, inAbort := false, drain := none, abortReq := none, reason := 0, holds := [] })) k

/-- STREAM_CONTINUE: a pause that has not come is cancelled; a paused stream enters its next step at the first release at or after acceptance + 100 µs. -/
def streamContinue (s : State) (k a : Nat) : State :=
  if (stream s k).st = 3 then streamPoints (setStream s k (fun d => { d with st := 2, reason := 0 })) k
  else setStream s k (fun d => { d with enter := d.boundary, enterFrom := a + 100 * us })

/-- STREAM_ABORT (R323): where streams do not step, at once; with DRAIN at the end of the step, or of its deadline; else at the next release. -/
def streamAbort (s : State) (k how a : Nat) : State :=
  let d := stream s k
  if s.mode.cur = .maint ∨ s.mode.cur = .safe then abortNow s k
  else if how = 0 ∧ d.st = 5 then setStream s k (fun d => { d with drain := some a })
  else if how = 0 ∧ d.st ≠ 4 then streamPoints (setStream s k (fun d => { d with st := 6, drain := some a })) k
  else streamPoints (setStream s k (fun d => { d with st := 6, abortReq := some 2, enter := none, reenter := none })) k

/-- The status with which entering a step would now be refused admission (R330), 0 when it would not. -/
def admitStatus (s : State) (k step : Nat) : Nat := match admitStep s k step s.t0 (s.t0 + streamPeriod s k) with | .error e => e | .ok _ => 0

/-- Whether the STREAM field of a request is a stream and the bytes after it are 0. -/
def streamArg (r : Req) (n : Nat) : Bool := r.target == 0 && decide (fld r.payload 0 1 < 16) && fld r.payload (4 - n) n == 0

/-- STREAM_LOAD (R313, R322). -/
def execStreamLoad (r : Req) (s : State) : Res :=
  let k := fld r.payload 0 1
  let slot := fld r.payload 2 2
  .next (command s r 0x0501 true [.idle, .run, .hold] 4 (r.target == 0 && decide (k < 16) && fld r.payload 1 1 == 0) (fun s =>
    if !([0, 1, 7, 8] : List Nat).contains (stream s k).st then finish s r 0x0501 true 0x0207
    else match recipeIn s slot with
    | none => finish s r 0x0501 true 0x0108
    | some x =>
      let pl := x.bytes.drop 64
      let own := fld pl 0x31 1
      if own ≠ k ∧ (own ≠ 0xFF ∨ !recipeFits s k pl) then finish s r 0x0501 true 0x0107
      else finish (streamLoad (forward s 4 [0x0501, 0, s.t0] r.payload) k slot) r 0x0501 true 0))

/-- STREAM_START (R322): ENTRY is the release that enters step 0. -/
def execStreamStart (r : Req) (s : State) : Res :=
  let k := fld r.payload 0 1
  .next (command s r 0x0502 true [.run] 4 (streamArg r 3) (fun s =>
    if !([1, 7, 8] : List Nat).contains (stream s k).st ∨ (recipeIn s (stream s k).slot).isNone then finish s r 0x0502 true 0x0207
    else
      let s' := streamStart (forward s 4 [0x0502, 0, s.t0] r.payload) k s.t0
      let e := admitStatus s' k 0
      if e ≠ 0 then finish s r 0x0502 true e
      else
        let i := streamTask s k
        finish s' r 0x0502 true 0 (leBytes 8 (nextRel s.t0 (param s pTaskPeriod i) (param s pTaskPhase i)))))

/-- STREAM_PAUSE (R322). -/
def execStreamPause (r : Req) (s : State) : Res :=
  let k := fld r.payload 0 1
  .next (command s r 0x0503 true [.run, .hold] 4 (streamArg r 3) (fun s =>
    if (stream s k).st ≠ 2 then finish s r 0x0503 true 0x0207
    else finish (streamPause (forward s 4 [0x0503, 0, s.t0] r.payload) k 1) r 0x0503 true 0))

/-- STREAM_CONTINUE (R322). -/
def execStreamContinue (r : Req) (s : State) : Res :=
  let k := fld r.payload 0 1
  .next (command s r 0x0504 true [.run] 4 (streamArg r 3) (fun s =>
    let d := stream s k
    if d.st ≠ 3 ∧ d.st ≠ 4 then finish s r 0x0504 true 0x0207
    else
      let e := if d.st = 4 then (match d.boundary with | some n => admitStatus s k n | none => 0) else 0
      if e ≠ 0 then finish s r 0x0504 true e
      else finish (streamContinue (forward s 4 [0x0504, 0, s.t0] r.payload) k s.t0) r 0x0504 true 0))

/-- STREAM_ABORT (R322, R323). -/
def execStreamAbort (r : Req) (s : State) : Res :=
  let k := fld r.payload 0 1
  let how := fld r.payload 1 1
  .next (command s r 0x0505 true [.run, .hold, .maint, .safe] 4 (streamArg r 2 && decide (how ≤ 1)) (fun s =>
    if !([2, 3, 4, 5] : List Nat).contains (stream s k).st then finish s r 0x0505 true 0x0207
    else finish (streamAbort (forward s 4 [0x0505, 0, s.t0] r.payload) k how s.t0) r 0x0505 true 0))

/-! ### Parked operations (R342) -/

/-- The outage of a restored operation as at Tr; one that no restart has interrupted had none (R338). -/
def outageAtTr (s : State) (o : OpSt) : Nat :=
  match s.rst.tr with
  | some t => if o.keep = 0 then 0 else (((s.pocket.tick0 + t * 32768 / sec) % 2 ^ 48 + 2 ^ 48 - o.keep) % 2 ^ 48) * 1000000 / 32768
  | none => 0

/-- Apply a resolved rule to an operation, and then to its parked sub-operations by their own rules and this one (R340, R342). -/
def resolveAs (s : State) (i eff : Nat) : State :=
  let o := op s i
  let kids := (childrenOf s (handleOf i o)).filter (fun e => e.2.st == 2)
  let s := opAct s i o eff (outageAtTr s o)
  kids.foldl (fun s e =>
    let c := op s e.1
    let (f, why) := effRule s c (outageAtTr s c)
    let s := if why = 0 then s else note s Ev.opDegraded 0x43 e.1 (handleOf e.1 c) [c.rule, f, why]
    opAct s e.1 c f (outageAtTr s c)) s

/-- OP_RESOLVE's effect: 0 CONTINUE, 1 REDO, 2 SKIP, 3 ABORT (R342). A parked operation that is no step ends under the last two (DEDUCED, log 41). -/
def opResolve (s : State) (h action : Nat) : State :=
  let i := slotOf h
  let o := op s i
  if action ≤ 1 then resolveAs s i action
  else if o.kind ≠ 1 then opEnd s h 2
  else
    let k := (o.data[0]?).getD 0
    let d := stream s k
    if action = 2 then
      let next := fld (recStep d.recipe d.step) 0x0C 2
      let s := (childrenOf s h).foldl (fun s e => opEnd s (handleOf e.1 e.2) 8) s
      let s := opEnd s h 2
      if next = 0xFFFF then finishStream s k (if d.inAbort then 8 else 7)
      else streamPoints (setStream s k (fun d => { d with st := if d.inAbort then 6 else 4, handle := 0, enter := some next, enterFrom := s.t0, boundary := some next })) k
    else streamPoints (setStream s k (fun d => { d with st := 6, abortReq := some 2, enter := none, reenter := none })) k

/-- OP_RESOLVE. -/
def execOpResolve (r : Req) (s : State) : Res :=
  let h := fld r.payload 0 4
  let a := fld r.payload 4 1
  .next (command s r 0x0510 true [.run, .hold] 8 (r.target == 0 && decide (a ≤ 3) && fld r.payload 5 3 == 0) (fun s =>
    match opOf s h with
    | none => finish s r 0x0510 true 0x0402
    | some o =>
      if o.st ≠ 2 then finish s r 0x0510 true 0x0207
      else
        let k := (o.data[0]?).getD 0
        let next := fld (recStep (stream s k).recipe (stream s k).step) 0x0C 2
        let e := if a = 2 ∧ o.kind = 1 ∧ next ≠ 0xFFFF then admitStatus s k next else 0
        if e ≠ 0 then finish s r 0x0510 true e
        else finish (opResolve (forward s 4 [0x0510, 0, s.t0] r.payload) h a) r 0x0510 true 0))

end Sys2Proof.Machine
end

