-- ==== Sys2Proof/Machine/LoopIsa.lean ====
section
/-! DEFINITION. The loop engine core (R198-R225): registers, addressing, the pipeline's visible latencies, and one meaning for each instruction; the command carries the instruction's fields. -/

namespace Sys2Proof.Machine

/-! ### Registers and memories -/

/-- A loop engine. -/
def loopEngine (s : State) (le : Nat) : LoopEng := tget {} s.loopEng le
/-- Change it. -/
def setLe (s : State) (le : Nat) (f : LoopEng → LoopEng) : State := { s with loopEng := tmod {} s.loopEng le f }

/-- The bank in use (R198, R219). -/
def LoopEng.bank (e : LoopEng) : LeBank := if e.shd then e.shadow else e.main
/-- Replace the bank in use. -/
def LoopEng.setBank (e : LoopEng) (b : LeBank) : LoopEng := if e.shd then { e with shadow := b } else { e with main := b }

/-- The entry that register `n` of the w file names: the rotating window, or sw directly in the shadow bank (R198, R218). Entries count from 64. -/
def LoopEng.wPhys (e : LoopEng) (n : Nat) : Nat := if e.shd then 64 + n else 64 + (e.main.wbOld + n) % 64

/-- The home of a register field R6: d0-d15, w0-w31; 0x10-0x1F are reserved (R214). -/
def LoopEng.home (e : LoopEng) (r : Nat) : Except Nat Nat :=
  if r < 16 then .ok r else if r < 32 then .error 0x0A else .ok (e.wPhys (r - 32))

/-- Read an entry of the register files. -/
def LeBank.rd (b : LeBank) (n : Nat) : Word := if n < 64 then (b.d[n]?).getD 0 else (b.w[n - 64]?).getD 0
/-- Write an entry. -/
def LeBank.wr (b : LeBank) (n : Nat) (v : Word) : LeBank := if n < 64 then { b with d := b.d.set n v } else { b with w := b.w.set (n - 64) v }
/-- Read a register field. -/
def LoopEng.reg (e : LoopEng) (r : Nat) : Except Nat Word := (e.home r).map e.bank.rd
/-- An accumulator. -/
def LeBank.acc (b : LeBank) (k : Nat) : Int := (b.a[k]?).getD 0
/-- An accumulator as STA, STG, CMPA and a MOVAA source see it (R206). -/
def LeBank.accLate (b : LeBank) (k : Nat) : Int := (b.aOld[k]?).getD 0

/-- The status register as read (R199). -/
def LoopEng.st (e : LoopEng) : Word :=
  let b := e.bank
  let n (x : Bool) (k : Nat) : Nat := if x then 2 ^ k else 0
  bv 32 (n b.sv 0 + n b.av 1 + n b.as 2 + n b.eq 4 + n b.lt 5 + n e.rep.isSome 10 + n e.shd 11)

/-- Whether a bus and word address lie in the running loop's blocks; a handler is not limited (R201). -/
def LoopEng.addrOk (e : LoopEng) (bus a : Nat) : Bool :=
  e.shd || match bus with
    | 0 => decide (e.ctx.xb ≤ a ∧ a < e.ctx.xb + e.ctx.xn)
    | 1 => decide (e.ctx.yb ≤ a ∧ a < e.ctx.yb + e.ctx.yn)
    | _ => decide (e.ctx.cb ≤ a ∧ a < e.ctx.cb + e.ctx.cn)

/-- Load from bus 0 X, 1 Y or 2 C, the last sign-extended (R200). -/
def LoopEng.load (e : LoopEng) (bus a : Nat) : Except Nat Word :=
  if !e.addrOk bus a then .error 0x05
  else .ok (match bus with
    | 0 => bv 32 (leVal (mreads e.x (4 * a) 4))
    | 1 => bv 32 (leVal (mreads e.y (4 * a) 4))
    | _ => (bv 16 (leVal (mreads e.c (2 * a) 2))).signExtend 32)

/-! ### Effects and their visibility -/

/-- What one instruction does: register results, loads, accumulator and address results, flags, stores, control. -/
inductive LeEff where
  | reg (r : Nat) (v : Word)
  | load (r : Nat) (v : Word)
  | acc (k : Nat) (v : Int)
  | ptr (n v : Nat)
  | movp (sel n : Nat) (v : Word)
  | wbase (v : Nat)
  | cmp (lt eq : Bool)
  | sat (sv av as : Bool)
  | store (bus a : Nat) (v : Word)
  | go (t : Option Nat)
  | push (a : Nat)
  | pop
  | rep (count len : Nat) (rot : Bool)
  | rti
  deriving DecidableEq, Repr

/-- Whether a handler's instruction has the effect on the engine's state: the loop state and link stack of the interrupted code stay frozen (R219). -/
def LeEff.inHandler : LeEff → Bool
  | .go _ | .push _ | .pop | .rep .. => false
  | _ => true

/-- Apply an effect to the engine, leaving loads and MOVP writes in flight (R206). -/
def leApply (e : LoopEng) (f : LeEff) : LoopEng :=
  let b := e.bank
  match f with
  | .reg r v => e.setBank (b.wr r v)
  | .load r v => e.setBank { b with loads := b.loads ++ [(r, v)] }
  | .acc k v => e.setBank { b with a := b.a.set k v }
  | .ptr n v => e.setBank { b with p := b.p.set n v }
  | .movp sel n v => e.setBank { b with movp := some (sel, n, v) }
  | .wbase v => if e.shd then e else e.setBank { b with wb := v % 64 }
  | .cmp l q => e.setBank { b with lt := l, eq := q }
  | .sat x y z => e.setBank { b with sv := b.sv || x, av := b.av || y, as := b.as || z }
  | .store bus a v =>
    (match bus with
    | 0 => { e with x := mwrites e.x (4 * a) (leBytes 4 v.toNat) }
    | 1 => { e with y := mwrites e.y (4 * a) (leBytes 4 v.toNat) }
    | _ => { e with c := mwrites e.c (2 * a) (leBytes 2 v.toNat) })
  | .go t => { e with slot := some t }
  | .push a => { e with link := a :: e.link }
  | .pop => { e with link := e.link.drop 1 }
  | .rep n len rot => if n = 0 then { e with pc := e.pc + len } else { e with rep := some ⟨n, e.pc, e.pc + len - 1, rot⟩ }
  | .rti => { e with shd := false }

/-- A MOVP write of an address register or modifier reaches address generation. -/
def LeBank.putMovp (b : LeBank) : Option (Nat × Nat × Word) → LeBank
  | some (0, n, v) => { b with p := b.p.set n (v.toNat % 2 ^ 14) }
  | some (_, n, v) => { b with m := b.m.set n v }
  | none => b

/-- One instruction's effects with the pipeline's distances: loads of the instruction before become readable, and what late readers see moves on by one (R206). -/
def leFlow (e : LoopEng) (l : List LeEff) : LoopEng :=
  let b := e.bank
  let inFlight := b.loads
  let mv := b.movp
  -- the loads of the instruction before land first; a result of this instruction in the same register prevails (DEDUCED, log 18)
  let landed := inFlight.foldl (fun b x => b.wr x.1 x.2) { b with loads := [], movp := none }
  let e1 := l.foldl leApply (e.setBank landed)
  if e1.shd ≠ e.shd then e1
  else
    let n := e1.bank
    e1.setBank ({ n with aOld := b.a, ltOld := b.lt, eqOld := b.eq, wbOld := b.wb }.putMovp mv)

/-- The address of the next instruction, after a delay slot or at the end of a REP body (R208, R217, R218). -/
def leNext (e : LoopEng) (pc : Nat) (wasSlot : Option (Option Nat)) : LoopEng :=
  match wasSlot with
  | some (some t) => { e with pc := t, slot := none }
  | some none => { e with slot := none }
  | none =>
    match e.rep with
    | some r =>
      if pc = r.last then
        let rot (b : LeBank) : LeBank := if r.rot then { b with wb := (b.wb + 63) % 64, wbOld := (b.wbOld + 63) % 64 } else b
        let e := if e.shd then e else { e with main := rot e.main }
        if r.left ≤ 1 then { e with rep := none } else { e with rep := some { r with left := r.left - 1 }, pc := r.first }
      else e
    | none => e

/-- A fault in law code (R225): the release ends with its output held and the loop state alone becoming visible, as for an overrun (R167); the eighth in a row disables the loop. -/
def lawFault (s : State) (le code pc word : Nat) : State :=
  match (loopEngine s le).running with
  | none => s
  | some i =>
    let d := loop s i
    let e := loopEngine s le
    let bits := (if e.main.sv then 1 else 0) + (if e.main.av then 2 else 0) + (if e.main.as then 4 else 0)
    let n := d.lawFaults + 1
    let s := setLe s le (fun e => { e with running := none, inLaw := false, slot := none, rep := none, link := [], shd := false })
    let at_ := d.rel.getD s.t0 + loopNs s i
    let s := setLoop s i (fun d => { relDone s d i with lawFaults := n, sticky := Nat.lor d.sticky bits })
    let s := loopSticky s i
    let s := note (if d.overrun then s else loopStatePoint s i at_) Ev.loopLawFault (0x20 + le) i 0 [code, pc, word]
    if n < 8 then s
    else note (enableOff (setLoop s i (fun d => { d with lawFaults := 0 })) (pid pLoopEnable i)) Ev.loopStopped (0x20 + le) i 0 [code, pc]

/-- The return of a law to the frame: v̂ is d0, and the sticky flags go to the loop (R199, R222). -/
def lawDone (s : State) (le : Nat) : State :=
  let e := loopEngine s le
  match e.running with
  | none => s
  | some i =>
    let b := e.main.loads.foldl (fun b x => b.wr x.1 x.2) e.main
    let bits := (if b.sv then 1 else 0) + (if b.av then 2 else 0) + (if b.as then 4 else 0)
    let s := setLe s le (fun e => { e with inLaw := false, lawOut := (b.rd 0).toInt, main := { b with loads := [] } })
    setLoop s i (fun d => { d with sticky := Nat.lor d.sticky bits, lawFaults := 0 })

/-- One instruction of a loop engine (R205-R208, R225): fetch range, delay slot and REP body rules for control instructions, its effects, the next address. -/
def leExec (le : Fin 8) (word : Nat) (control : Bool) (s : State) (f : LoopEng → Except Nat (List LeEff)) : State :=
  let k := le.val
  let e := loopEngine s k
  if !e.inLaw && !e.shd then s
  else if !e.shd && (decide (e.pc < e.ctx.lo) || decide (e.ctx.lo + e.ctx.words ≤ e.pc)) then lawFault s k 0x0B e.pc word
  else if control && !e.shd && e.slot.isSome then lawFault s k 0x03 e.pc word
  else if control && !e.shd && e.rep.isSome then lawFault s k 0x04 e.pc word
  else match f e with
  | .error c => lawFault s k c e.pc word
  | .ok l =>
    if e.shd then setLe s k (fun _ => leFlow e (l.filter LeEff.inHandler))
    else
      let e' := leNext (leFlow { e with pc := e.pc + 1, cycles := e.cycles + 1 } l) e.pc e.slot
      let s := setLe s k (fun _ => e')
      -- the frame's own return address is the bottom of the link stack
      if e.slot.isSome && e'.link.isEmpty then lawDone s k else s

/-! ### Fields (R212, R214) -/

/-- Bits `hi` to `lo` of a field word. -/
def fldBits (x hi lo : Nat) : Nat := x / 2 ^ lo % 2 ^ (hi + 1 - lo)
/-- A signed field. -/
def sfld (x hi lo : Nat) : Int := (bv (hi + 1 - lo) (fldBits x hi lo)).toInt
/-- The S bit of format G. -/
def gS (x : Nat) : Bool := x.testBit 24
/-- Refuse reserved bits (R214). -/
def need (b : Bool) : Except Nat Unit := if b then .ok () else .error 0x0A

/-- A 32-bit result under S (R210). -/
def res32 (r : Nat) (S : Bool) (v : Int) : List LeEff :=
  if outOf32 v && S then [.reg r (if 0 < v then 0x7FFFFFFF else 0x80000000), .sat true false false] else [.reg r (BitVec.ofInt 32 v)]

/-- Whether a value lies outside the 40-bit range. -/
def outOf40 (v : Int) : Bool := decide (v < -549755813888) || decide (549755813887 < v)
/-- Wrap to 40 bits signed. -/
def wrap40 (v : Int) : Int := (BitVec.ofInt 40 v).toInt
/-- An accumulator result under S (R210). -/
def resAcc (k : Nat) (S : Bool) (v : Int) : List LeEff :=
  if outOf40 v then (if S then [.acc k (if 0 < v then 549755813887 else -549755813888), .sat true false true] else [.acc k (wrap40 v), .sat false true false])
  else [.acc k v]

/-- Reverse the low `k` bits. -/
def revBits : Nat → Nat → Nat
  | 0, _ => 0
  | k + 1, x => x % 2 * 2 ^ k + revBits k (x / 2)

/-- The smallest b with 2^b at least n, within 14. -/
def alignBits (n : Nat) : Nat := ((List.range 15).find? (fun b => decide (n ≤ 2 ^ b))).getD 14

/-- Post-modify an address register by its modifier, `neg` for the downward mode (R203). -/
def postMod (b : LeBank) (n : Nat) (neg : Bool) : Except Nat LeEff :=
  let m := ((b.m[n]?).getD 0).toNat
  let p := (b.p[n]?).getD 0
  let step := sfld m 15 0
  let s : Int := if neg then -step else step
  match fldBits m 31 30 with
  | 0 => .ok (.ptr n ((p + s) % 2 ^ 14).toNat)
  | 1 =>
    let L : Int := fldBits m 29 16 + 1
    if L < s ∨ s < -L then .error 0x09
    else
      let al := 2 ^ alignBits L.toNat
      let base : Int := p / al * al
      let q := p + s
      let q := if base + L ≤ q then q - L else q
      let q := if q < base then q + L else q
      .ok (.ptr n (q % 2 ^ 14).toNat)
  | 2 =>
    let k := fldBits m 19 16
    if k = 0 ∨ 14 < k ∨ fldBits m 29 20 ≠ 0 then .error 0x09
    else
      let r := revBits k (p % 2 ^ k)
      .ok (.ptr n (p / 2 ^ k * 2 ^ k + revBits k ((r + s) % 2 ^ k).toNat))
  | _ => .error 0x09

/-- A memory operand: the address used and the change of the address register (R204). Modes: 0 [p], 1 [p+], 2 [p-], 3 [p+d]. -/
def memOp (e : LoopEng) (n mode : Nat) (disp : Int) : Except Nat (Nat × List LeEff) :=
  let b := e.bank
  let p := (b.p[n]?).getD 0
  match mode with
  | 0 => .ok (p, [])
  | 1 => (postMod b n false).map (fun m => (p, [m]))
  | 2 => (postMod b n true).map (fun m => (p, [m]))
  | _ => .ok (((p + disp) % 2 ^ 14).toNat, [])

/-! ### Forms -/

/-- Format G: opcode and fields. -/
def leG (le : Fin 8) (op : Nat) (x : BitVec 25) (s : State) (f : LoopEng → Nat → Except Nat (List LeEff)) : State :=
  leExec le (op * 2 ^ 25 + x.toNat) false s (fun e => f e x.toNat)

/-- G3 with two sources (R214). -/
def leG3 (le : Fin 8) (op : Nat) (x : BitVec 25) (s : State) (f : Nat → Bool → Word → Word → List LeEff) : State :=
  leG le op x s (fun e w => do
    need (fldBits w 5 0 == 0)
    let rd ← e.home (fldBits w 23 18)
    let a ← e.reg (fldBits w 17 12)
    let b ← e.reg (fldBits w 11 6)
    .ok (f rd (gS w) a b))

/-- GI: one source and an immediate; shifts use bits 4 to 0 (R214). -/
def leGI (le : Fin 8) (op : Nat) (x : BitVec 25) (shift : Bool) (s : State) (f : Nat → Bool → Word → Int → List LeEff) : State :=
  leG le op x s (fun e w => do
    need (!shift || fldBits w 11 5 == 0)
    let rd ← e.home (fldBits w 23 18)
    let a ← e.reg (fldBits w 17 12)
    .ok (f rd (gS w) a (if shift then fldBits w 4 0 else sfld w 11 0)))

/-- GA: an accumulator, a register field and imm6 (R214). -/
def leGA (le : Fin 8) (op : Nat) (x : BitVec 25) (s : State) (f : LoopEng → Nat → Nat → Bool → Nat → Except Nat (List LeEff)) : State :=
  leG le op x s (fun e w => do
    need (fldBits w 16 6 == 0)
    f e (fldBits w 23 23) (fldBits w 22 17) (gS w) w)

/-- The product P and whether it was replaced (R209). -/
def leProd (ra rb : Word) (lowHalf : Bool) : Int × Bool :=
  let a : Int := if lowHalf then (ra.toNat % 2 ^ 16 : Nat) else (bv 16 (ra.toNat / 2 ^ 16)).toInt
  let b : Int := (bv 16 rb.toNat).toInt
  if a = -32768 ∧ b = -32768 then (0x7FFFFFFF, true) else (a * b * 2, false)

/-- The two parallel moves of format M (R212, R213): move 2 uses bus C, or Y for DMOVE. -/
def leMoves (e : LoopEng) (w bus2 : Nat) : Except Nat (List LeEff) := do
  let reg (n : Nat) : Nat := if w.testBit 25 then e.wPhys n else n
  let one (bus p m dst : Nat) : Except Nat (List LeEff) :=
    if m = 0 then .ok []
    else do
      let a ← memOp e p (m - 1) 0
      let v ← e.load bus a.1
      .ok (a.2 ++ [.load (reg dst) v])
  let m1 ← one (fldBits w 15 15) (fldBits w 14 12) (fldBits w 11 10) (fldBits w 9 7)
  let m2 ← one bus2 (fldBits w 6 4) (fldBits w 3 2) (fldBits w 1 0 + 12)
  .ok (m1 ++ m2)

/-- Format M with a multiplication: `f` gives the accumulator's new exact value from the old one and P (R213). -/
def leM (le : Fin 8) (mop : Nat) (x : BitVec 28) (s : State) (f : Int → Int → Int) : State :=
  leExec le (2 ^ 31 + mop * 2 ^ 28 + x.toNat) false s (fun e => do
    let w := x.toNat
    let reg (n : Nat) : Nat := if w.testBit 25 then e.wPhys n else n
    let pr := leProd (e.bank.rd (reg (fldBits w 24 21))) (e.bank.rd (reg (fldBits w 19 16))) (w.testBit 20)
    let k := fldBits w 26 26
    let mv ← leMoves e w 2
    .ok (resAcc k (w.testBit 27) (f (e.bank.acc k) pr.1) ++ [.sat pr.2 false false] ++ mv))

/-- MOVE and DMOVE: ACC, RA, HA, RB and S are 0 (R213). -/
def leMv (le : Fin 8) (mop : Nat) (x : BitVec 28) (s : State) (bus2 : Nat) : State :=
  leExec le (2 ^ 31 + mop * 2 ^ 28 + x.toNat) false s (fun e => do
    let w := x.toNat
    need (fldBits w 27 26 == 0 && fldBits w 24 16 == 0 && (bus2 == 2 || fldBits w 15 15 == 0))
    leMoves e w bus2)

/-- Compare two integers (R199). -/
def leCmp (a b : Int) : LeEff := .cmp (decide (a < b)) (decide (a = b))

/-- Whether a condition holds for BR, with the flags two instructions back (R206, R216). -/
def leCond (b : LeBank) (c : Nat) : Except Nat Bool :=
  match c with
  | 0 => .ok true | 1 => .ok b.eqOld | 2 => .ok (!b.eqOld) | 3 => .ok b.ltOld
  | 4 => .ok (!b.ltOld) | 5 => .ok (b.ltOld || b.eqOld) | 6 => .ok (!b.ltOld && !b.eqOld) | _ => .error 0x0A

/-- An accumulator shift: left when positive, arithmetic right when negative (R215). -/
def leAsh (v : Int) (n : Int) : Int := if 0 ≤ n then v * 2 ^ n.toNat else v / 2 ^ (-n).toNat

/-! ### The instructions -/

/-- LE_MPY (R213): acc takes P. -/
def execLeMpy (le : Fin 8) (x : BitVec 28) (s : State) : Res :=
  .next (leM le 0 x s (fun _ p => p))

/-- LE_MAC (R213): acc plus P. -/
def execLeMac (le : Fin 8) (x : BitVec 28) (s : State) : Res :=
  .next (leM le 1 x s (fun a p => a + p))

/-- LE_MSU (R213): acc minus P. -/
def execLeMsu (le : Fin 8) (x : BitVec 28) (s : State) : Res :=
  .next (leM le 2 x s (fun a p => a - p))

/-- LE_MACL (R213): acc plus P shifted right by 16. -/
def execLeMacl (le : Fin 8) (x : BitVec 28) (s : State) : Res :=
  .next (leM le 3 x s (fun a p => a + p / 65536))

/-- LE_MSUL (R213): acc minus P shifted right by 16. -/
def execLeMsul (le : Fin 8) (x : BitVec 28) (s : State) : Res :=
  .next (leM le 4 x s (fun a p => a - p / 65536))

/-- LE_MPYL (R213): acc takes P shifted right by 16. -/
def execLeMpyl (le : Fin 8) (x : BitVec 28) (s : State) : Res :=
  .next (leM le 5 x s (fun _ p => p / 65536))

/-- LE_MOVE (R213): moves only; move 2 on bus C. -/
def execLeMove (le : Fin 8) (x : BitVec 28) (s : State) : Res :=
  .next (leMv le 6 x s 2)

/-- LE_DMOVE (R213): moves only, on X and Y. -/
def execLeDmove (le : Fin 8) (x : BitVec 28) (s : State) : Res :=
  .next (leMv le 7 x s 1)

/-- LE_NOP (R215): nothing. -/
def execLeNop (le : Fin 8) (x : BitVec 25) (s : State) : Res :=
  .next (leG le 0x00 x s (fun _ w => do
    need (fldBits w 23 0 == 0)
    .ok []))

/-- LE_LD (R215): a register takes a memory word. -/
def execLeLd (le : Fin 8) (x : BitVec 25) (s : State) : Res :=
  .next (leG le 0x01 x s (fun e w => do
    need (!w.testBit 15 && fldBits w 17 16 != 3)
    let rd ← e.home (fldBits w 23 18)
    let a ← memOp e (fldBits w 14 12) (fldBits w 11 10) (sfld w 9 0)
    let v ← e.load (fldBits w 17 16) a.1
    .ok (a.2 ++ [.load rd v])))

/-- LE_ST (R215): a memory word takes a register. -/
def execLeSt (le : Fin 8) (x : BitVec 25) (s : State) : Res :=
  .next (leG le 0x02 x s (fun e w => do
    need (!w.testBit 15 && fldBits w 17 16 != 3)
    let v ← e.reg (fldBits w 23 18)
    let a ← memOp e (fldBits w 14 12) (fldBits w 11 10) (sfld w 9 0)
    if e.addrOk (fldBits w 17 16) a.1 then .ok (a.2 ++ [.store (fldBits w 17 16) a.1 v]) else .error 0x05))

/-- LE_LDD (R215): a register takes the memory word at an address. -/
def execLeLdd (le : Fin 8) (x : BitVec 25) (s : State) : Res :=
  .next (leG le 0x03 x s (fun e w => do
    need (fldBits w 15 14 == 0 && fldBits w 17 16 != 3)
    let rd ← e.home (fldBits w 23 18)
    let v ← e.load (fldBits w 17 16) (fldBits w 13 0)
    .ok [.load rd v]))

/-- LE_STD (R215): the memory word at an address takes a register. -/
def execLeStd (le : Fin 8) (x : BitVec 25) (s : State) : Res :=
  .next (leG le 0x04 x s (fun e w => do
    need (fldBits w 15 14 == 0 && fldBits w 17 16 != 3)
    let v ← e.reg (fldBits w 23 18)
    if e.addrOk (fldBits w 17 16) (fldBits w 13 0) then .ok [.store (fldBits w 17 16) (fldBits w 13 0) v] else .error 0x05))

/-- LE_LDI (R215): rd takes the signed immediate. -/
def execLeLdi (le : Fin 8) (x : BitVec 25) (s : State) : Res :=
  .next (leG le 0x05 x s (fun e w => do
    let rd ← e.home (fldBits w 23 18)
    .ok [.reg rd (BitVec.ofInt 32 (sfld w 17 0))]))

/-- LE_LDIH (R215): the upper half of rd takes the immediate. -/
def execLeLdih (le : Fin 8) (x : BitVec 25) (s : State) : Res :=
  .next (leG le 0x06 x s (fun e w => do
    need (fldBits w 17 16 == 0)
    let rd ← e.home (fldBits w 23 18)
    .ok [.reg rd (bv 32 (fldBits w 15 0 * 65536 + (e.bank.rd rd).toNat % 65536))]))

/-- LE_MOV (R215): rd takes rs. -/
def execLeMov (le : Fin 8) (x : BitVec 25) (s : State) : Res :=
  .next (leG3 le 0x07 x s (fun rd _ a _ => [.reg rd a]))

/-- LE_ADD (R215): under S. -/
def execLeAdd (le : Fin 8) (x : BitVec 25) (s : State) : Res :=
  .next (leG3 le 0x08 x s (fun rd S a b => res32 rd S (a.toInt + b.toInt)))

/-- LE_SUB (R215): under S. -/
def execLeSub (le : Fin 8) (x : BitVec 25) (s : State) : Res :=
  .next (leG3 le 0x09 x s (fun rd S a b => res32 rd S (a.toInt - b.toInt)))

/-- LE_ADDI (R215): rs plus the immediate, under S. -/
def execLeAddi (le : Fin 8) (x : BitVec 25) (s : State) : Res :=
  .next (leGI le 0x0A x false s (fun rd S a k => res32 rd S (a.toInt + k)))

/-- LE_AND (R215): bitwise. -/
def execLeAnd (le : Fin 8) (x : BitVec 25) (s : State) : Res :=
  .next (leG3 le 0x0B x s (fun rd _ a b => [.reg rd (a &&& b)]))

/-- LE_OR (R215): bitwise. -/
def execLeOr (le : Fin 8) (x : BitVec 25) (s : State) : Res :=
  .next (leG3 le 0x0C x s (fun rd _ a b => [.reg rd (a ||| b)]))

/-- LE_XOR (R215): bitwise. -/
def execLeXor (le : Fin 8) (x : BitVec 25) (s : State) : Res :=
  .next (leG3 le 0x0D x s (fun rd _ a b => [.reg rd (a ^^^ b)]))

/-- LE_SHL (R215): shift left, under S. -/
def execLeShl (le : Fin 8) (x : BitVec 25) (s : State) : Res :=
  .next (leGI le 0x0E x true s (fun rd S a k => res32 rd S (a.toInt * 2 ^ k.toNat)))

/-- LE_ASR (R215): shift right with sign fill. -/
def execLeAsr (le : Fin 8) (x : BitVec 25) (s : State) : Res :=
  .next (leGI le 0x0F x true s (fun rd _ a k => [.reg rd (a.sshiftRight k.toNat)]))

/-- LE_LSR (R215): shift right with zero fill. -/
def execLeLsr (le : Fin 8) (x : BitVec 25) (s : State) : Res :=
  .next (leGI le 0x10 x true s (fun rd _ a k => [.reg rd (a >>> k.toNat)]))

/-- LE_NEG (R215): minus rs, under S. -/
def execLeNeg (le : Fin 8) (x : BitVec 25) (s : State) : Res :=
  .next (leG3 le 0x11 x s (fun rd S a _ => res32 rd S (-a.toInt)))

/-- LE_ABS (R215): magnitude of rs, under S. -/
def execLeAbs (le : Fin 8) (x : BitVec 25) (s : State) : Res :=
  .next (leG3 le 0x12 x s (fun rd S a _ => res32 rd S (a.toInt.natAbs : Nat)))

/-- LE_MIN (R215): signed minimum. -/
def execLeMin (le : Fin 8) (x : BitVec 25) (s : State) : Res :=
  .next (leG3 le 0x13 x s (fun rd _ a b => [.reg rd (if a.slt b then a else b)]))

/-- LE_MAX (R215): signed maximum. -/
def execLeMax (le : Fin 8) (x : BitVec 25) (s : State) : Res :=
  .next (leG3 le 0x14 x s (fun rd _ a b => [.reg rd (if a.slt b then b else a)]))

/-- LE_MULI (R215): signed 16-bit product. -/
def execLeMuli (le : Fin 8) (x : BitVec 25) (s : State) : Res :=
  .next (leG3 le 0x15 x s (fun rd _ a b => [.reg rd (BitVec.ofInt 32 ((bv 16 a.toNat).toInt * (bv 16 b.toNat).toInt))]))

/-- LE_CMP (R215): compare rs with rt; rd is 0. -/
def execLeCmp (le : Fin 8) (x : BitVec 25) (s : State) : Res :=
  .next (leG le 0x16 x s (fun e w => do
    need (fldBits w 5 0 == 0 && fldBits w 23 18 == 0)
    let a ← e.reg (fldBits w 17 12)
    let b ← e.reg (fldBits w 11 6)
    .ok [leCmp a.toInt b.toInt]))

/-- LE_CMPI (R215): compare rs with the immediate; rd is 0. -/
def execLeCmpi (le : Fin 8) (x : BitVec 25) (s : State) : Res :=
  .next (leG le 0x17 x s (fun e w => do
    need (fldBits w 23 18 == 0)
    let a ← e.reg (fldBits w 17 12)
    .ok [leCmp a.toInt (sfld w 11 0)]))

/-- LE_CLR (R215): acc takes 0. -/
def execLeClr (le : Fin 8) (x : BitVec 25) (s : State) : Res :=
  .next (leGA le 0x18 x s (fun _ k _ _ _ => .ok [.acc k 0]))

/-- LE_LDA (R215): acc takes rs. -/
def execLeLda (le : Fin 8) (x : BitVec 25) (s : State) : Res :=
  .next (leGA le 0x19 x s (fun e k r _ _ => (e.reg r).map (fun v => [.acc k v.toInt])))

/-- LE_STA (R210): rd takes the accumulator, clamped under S. -/
def execLeSta (le : Fin 8) (x : BitVec 25) (s : State) : Res :=
  .next (leGA le 0x1A x s (fun e k r S _ => (e.home r).map (fun rd => res32 rd S (e.bank.accLate k))))

/-- LE_ADDA (R215): acc plus rs, under S. -/
def execLeAdda (le : Fin 8) (x : BitVec 25) (s : State) : Res :=
  .next (leGA le 0x1B x s (fun e k r S _ => (e.reg r).map (fun v => resAcc k S (e.bank.acc k + v.toInt))))

/-- LE_SUBA (R215): acc minus rs, under S. -/
def execLeSuba (le : Fin 8) (x : BitVec 25) (s : State) : Res :=
  .next (leGA le 0x1C x s (fun e k r S _ => (e.reg r).map (fun v => resAcc k S (e.bank.acc k - v.toInt))))

/-- LE_ASHA (R215): acc shifted by imm6. -/
def execLeAsha (le : Fin 8) (x : BitVec 25) (s : State) : Res :=
  .next (leGA le 0x1D x s (fun e k _ S w =>
    let n := sfld w 5 0
    if n < -31 ∨ 15 < n then .error 0x0A else .ok (resAcc k S (leAsh (e.bank.acc k) n))))

/-- LE_ASHR (R215): acc shifted by a register, clamped to -31 to 15. -/
def execLeAshr (le : Fin 8) (x : BitVec 25) (s : State) : Res :=
  .next (leGA le 0x1E x s (fun e k r S _ => (e.reg r).map (fun v =>
    resAcc k S (leAsh (e.bank.acc k) (max (-31) (min 15 (sfld v.toNat 5 0)))))))

/-- LE_ADDAA (R215): acc plus the other accumulator. -/
def execLeAddaa (le : Fin 8) (x : BitVec 25) (s : State) : Res :=
  .next (leGA le 0x1F x s (fun e k _ S _ => .ok (resAcc k S (e.bank.acc k + e.bank.acc (1 - k)))))

/-- LE_MOVAA (R215): acc takes the other accumulator. -/
def execLeMovaa (le : Fin 8) (x : BitVec 25) (s : State) : Res :=
  .next (leGA le 0x20 x s (fun e k _ _ _ => .ok [.acc k (e.bank.accLate (1 - k))]))

/-- LE_CMPA (R215): compare acc with rs. -/
def execLeCmpa (le : Fin 8) (x : BitVec 25) (s : State) : Res :=
  .next (leGA le 0x21 x s (fun e k r _ _ => (e.reg r).map (fun v => [leCmp (e.bank.accLate k) v.toInt])))

/-- LE_STG (R215): rd takes the guard bits. -/
def execLeStg (le : Fin 8) (x : BitVec 25) (s : State) : Res :=
  .next (leGA le 0x22 x s (fun e k r _ _ => (e.home r).map (fun rd => [.reg rd (BitVec.ofInt 32 (e.bank.accLate k / 2 ^ 32))])))

/-- LE_LDG (R215): the guard bits take rs[7:0]. -/
def execLeLdg (le : Fin 8) (x : BitVec 25) (s : State) : Res :=
  .next (leGA le 0x23 x s (fun e k r _ _ => (e.reg r).map (fun v => [.acc k (wrap40 ((v.toNat % 256 : Nat) * 2 ^ 32 + e.bank.acc k % 2 ^ 32))])))

/-- LE_SATA (R210): clamp acc to 32 bits. -/
def execLeSata (le : Fin 8) (x : BitVec 25) (s : State) : Res :=
  .next (leGA le 0x24 x s (fun e k _ _ _ =>
    let a := e.bank.acc k
    .ok (if outOf32 a then [.acc k (if 0 < a then 2147483647 else -2147483648), .sat true false false] else [.acc k a])))

/-- LE_RNDA (R215): round acc by n bits, 1 to 31. -/
def execLeRnda (le : Fin 8) (x : BitVec 25) (s : State) : Res :=
  .next (leGA le 0x25 x s (fun e k _ S w =>
    let n := fldBits w 5 0
    if n = 0 ∨ 31 < n then .error 0x0A else .ok (resAcc k S ((e.bank.acc k + 2 ^ (n - 1)) / 2 ^ n))))

/-- LE_MOVP (R215): copy between a register and an address register, modifier, wbase or ST. -/
def execLeMovp (le : Fin 8) (x : BitVec 25) (s : State) : Res :=
  .next (leG le 0x28 x s (fun e w => do
    need (fldBits w 11 0 == 0)
    let n := fldBits w 23 21
    let sel := fldBits w 20 19
    if w.testBit 18 then
      let rd ← e.home (fldBits w 17 12)
      let b := e.bank
      let own : Option Word := match b.movp with | some (s', n', v) => if s' = sel ∧ n' = n then some v else none | none => none
      let v : Word := match sel with
        | 0 => own.getD (bv 32 ((b.p[n]?).getD 0))
        | 1 => own.getD ((b.m[n]?).getD 0)
        | 2 => bv 32 e.main.wb
        | _ => e.st
      .ok [.reg rd v]
    else
      let v ← e.reg (fldBits w 17 12)
      .ok (match sel with | 0 => [.movp 0 n (v &&& 0x3FFF)] | 1 => [.movp 1 n v] | 2 => [.wbase v.toNat] | _ => [])))

/-- LE_STEPP (R203): post-modify without an access. -/
def execLeStepp (le : Fin 8) (x : BitVec 25) (s : State) : Res :=
  .next (leG le 0x29 x s (fun e w => do
    need (fldBits w 19 0 == 0)
    let m ← postMod e.bank (fldBits w 23 21) (w.testBit 20)
    .ok [m]))

/-- LE_WROT (R218): move the rotating window. -/
def execLeWrot (le : Fin 8) (x : BitVec 25) (s : State) : Res :=
  .next (leG le 0x2A x s (fun e w => do
    need (fldBits w 23 6 == 0)
    .ok [.wbase (e.main.wb + fldBits w 5 0)]))

/-- LE_BR (R208): branch after the delay slot when the condition holds. -/
def execLeBr (le : Fin 8) (x : BitVec 25) (s : State) : Res :=
  .next (leExec le (0x30 * 2 ^ 25 + x.toNat) true s (fun e => do
    let w := x.toNat
    need (fldBits w 20 13 == 0)
    let c ← leCond e.bank (fldBits w 23 21)
    .ok [.go (if c then some (fldBits w 12 0) else none)]))

/-- LE_CALL (R208): call after the delay slot; the fifth entry overflows. -/
def execLeCall (le : Fin 8) (x : BitVec 25) (s : State) : Res :=
  .next (leExec le (0x31 * 2 ^ 25 + x.toNat) true s (fun e => do
    let w := x.toNat
    need (fldBits w 23 13 == 0)
    if 4 ≤ e.link.length then .error 0x06 else .ok [.push (e.pc + 2), .go (some (fldBits w 12 0))]))

/-- LE_RET (R208): return after the delay slot. -/
def execLeRet (le : Fin 8) (x : BitVec 25) (s : State) : Res :=
  .next (leExec le (0x32 * 2 ^ 25 + x.toNat) true s (fun e => do
    let w := x.toNat
    need (fldBits w 23 0 == 0)
    match e.link with
    | [] => .error 0x07
    | a :: _ => .ok [.pop, .go (some a)]))

/-- LE_REP (R217): hardware loop over the next instructions. -/
def execLeRep (le : Fin 8) (x : BitVec 25) (s : State) : Res :=
  .next (leExec le (0x33 * 2 ^ 25 + x.toNat) true s (fun e => do
    let w := x.toNat
    need (fldBits w 5 0 == 0 && (!w.testBit 23 || fldBits w 16 13 == 0))
    let len := fldBits w 12 7 + 1
    if w.testBit 23 then do
      let v ← e.reg (fldBits w 22 17)
      .ok [.rep (v.toNat % 65536) len (w.testBit 6)]
    else .ok [.rep (fldBits w 22 13 + 1) len (w.testBit 6)]))

/-- LE_RTI (R219): return from a handler; law code may not. -/
def execLeRti (le : Fin 8) (x : BitVec 25) (s : State) : Res :=
  .next (leExec le (0x34 * 2 ^ 25 + x.toNat) true s (fun e => do
    let w := x.toNat
    let _ := w
    if e.shd then .ok [.rti] else .error 0x02))

/-- FAST_INTERRUPT (R219): taken at a boundary outside a delay slot and not in a handler; the shadow bank is selected and the main bank, with everything in flight, stays frozen. -/
def execFastInterrupt (le : Fin 8) (_input : Bool) (s : State) : Res :=
  let e := loopEngine s le.val
  if e.shd || e.slot.isSome || e.running.isNone then .next s
  else .next (setLe s le.val (fun e => { e with shd := true, shadow := { e.shadow with loads := [], movp := none } }))

/-- The word of the running law's code at an address (R221). -/
def lawWord (s : State) (e : LoopEng) : Nat :=
  match e.running with
  | some i => fld (lawImage s i) (0x20 + 4 * (e.pc - e.ctx.lo)) 4
  | none => 0

/-- LAW_BUDGET (R224): the watchdog stops a law that has run CYCLES + 16 cycles. -/
def execLawBudget (le : Fin 8) (s : State) : Res :=
  let e := loopEngine s le.val
  if !e.inLaw || decide (e.cycles < e.ctx.cycles + 16) then .next s else .next (lawFault s le.val 0x08 e.pc (lawWord s e))

/-- LE_ILLEGAL_OPCODE (R215, R225): a reserved opcode raises ILLEGAL_OPCODE, a frame opcode in law code PRIVILEGED, a fetch outside the law's code PC_RANGE. -/
def execLeIllegalOpcode (le : Fin 8) (word : Word) (s : State) : Res :=
  let e := loopEngine s le.val
  let op := word.toNat / 2 ^ 25
  let reserved := (([0x26, 0x27, 0x2B, 0x2C, 0x2D, 0x2E, 0x2F] : List Nat)).contains op
  if !e.inLaw || e.shd || !(reserved || decide (0x34 ≤ op ∧ op ≤ 0x3F)) then .next s
  else
    let out := decide (e.pc < e.ctx.lo) || decide (e.ctx.lo + e.ctx.words ≤ e.pc)
    .next (lawFault s le.val (if out then 0x0B else if reserved then 0x01 else 0x02) e.pc word.toNat)

/-! ### The frame's call of a custom law (R222, R223) -/

/-- The payload header of a law image (R221) as the engine uses it for a loop. -/
def lawCtx (s : State) (i : Nat) : LawCtx × Nat :=
  let b := lawImage s i
  let d := (loop s i).blocks
  ({ lo := fld b 4 2, words := fld b 2 2, cycles := fld b 8 2, xb := d.1, xn := fld b 0x0A 2,
     yb := d.2.1, yn := fld b 0x0C 2, cb := d.2.2, cn := fld b 0x0E 2 }, fld b 6 2)

/-- Call the custom law of a loop whose release begins at `t`, if the release computes or tracks it: registers as R222 gives them. -/
def lawCall (s : State) (i t : Nat) : State :=
  let d := loop s i
  let pvOk := usable d.pv.q (d.expired.headD false)
  let x := loop (frame s i t d.u) i
  let relay := x.st == 7 && !d.tune.any (fun q => q.phase == 1)
  if param s pLoopLaw i ≠ 6 ∨ x.st < 3 ∨ relay = true ∨ (!pvOk && param s pLoopBadPv i == 0) then s
  else
    let lo := paramRat s pLoopPvLo i
    let hi := paramRat s pLoopPvHi i
    let restart := !computing d
    let y := (filt s i (param s pLoopF1Kind i) pLoopF1A pLoopF1B pLoopF1C (clamp31 (norm (ratOf d.pv.v.toNat) lo hi)) d.f1 restart).1
    let r := clamp31 (norm (ratOf x.spEff.toNat) lo hi)
    let e := clamp31 (if param s pLoopAction i = 1 then y - r else r - y)
    let c := lawCtx s i
    let le := i / 64
    let q (v : Int) : Word := BitVec.ofInt 32 v
    let flags : Word := bv 32 ((if restart then 1 else 0) + (if x.st = 4 ∨ x.st = 3 then 2 else 0))
    setLe s le (fun g =>
      let b := g.main
      let d8 := [q r, q y, q e, q x.fTerm, q d.u, bv 32 i, flags, bv 32 (param s pLoopPeriod i)]
      let b := { b with d := d8 ++ b.d.drop 8, p := [c.1.xb, c.1.yb, c.1.cb] ++ b.p.drop 3, m := [1, 1, 1] ++ b.m.drop 3
                        a := [0, 0], aOld := [0, 0], wb := 0, wbOld := 0, sv := false, av := false, as := false, loads := [], movp := none }
      { g with main := b, inLaw := true, ctx := c.1, pc := c.2, link := [0], rep := none, slot := none, cycles := 0 })

/-- LOOP_BEGIN (R165, R166, R222): the engine begins its ready release with the entries of the release instant; for CUSTOM the frame calls the law. -/
def execLoopBegin (le : Fin 8) (s : State) : Res :=
  let s1 := beginLoop s le.val
  match (loopEngine s le.val).running, (loopEngine s1 le.val).running with
  | none, some i => .next (lawCall s1 i ((loop s1 i).rel.getD 0))
  | _, _ => .next s1

end Sys2Proof.Machine
end

