-- ==== Sys2Proof/Machine/Twin.lean ====
section
/-! DEFINITION. Twin operation: heartbeats, pairing, forwarded traffic, takeover, role swaps and proof swaps (R154, R471-R488). -/

namespace Sys2Proof.Machine

/-- Change the twin unit. -/
def setTwin (s : State) (f : TwinSt → TwinSt) : State := { s with twin := f s.twin }
/-- Whether a twin state is a standby's. -/
def standbyRole (st : Nat) : Bool := st == 2 || st == 3
/-- Whether it is an active device's. -/
def activeRole (st : Nat) : Bool := st == 4 || st == 5

/-- Change the twin state: recorded, and a change of role raises its interrupt (R475, R538). -/
def twinTo (s : State) (st : Nat) : State :=
  let old := s.twin.st
  if old = st then s
  else
    let s := note (setTwin s (fun d => { d with st := st })) Ev.twinState 0x4B 0 0 [old, st]
    if standbyRole old == standbyRole st then s else irq s 20

/-- The paralleled channels, of which only the privileged when `priv`. -/
def parChans (s : State) (priv : Bool) : List Nat :=
  (List.range 512).filter (fun c => flag s pTwinParallel c && isOut s c && (!priv || flag s pTwinPrivileged c))
/-- The paralleled analog outputs. -/
def parAos (s : State) : List Nat := (List.range 32).filter (flag s pTwinAoParallel)

/-- Whether a lane has been heard within 3.0 ms: 30 heartbeats (R474, R481). -/
def laneUp (s : State) (l : Nat) : Bool :=
  match (s.twin.heard[l]?).getD none with | some t => decide (s.t0 < t + 3 * ms) | none => false
/-- Both lanes silent. -/
def seamSilent (s : State) : Bool := !laneUp s 0 && !laneUp s 1

/-- Open or close this device's switch for every paralleled analog output (R482, R484). -/
def aoSwitch (s : State) (l : List Nat) (isOpen : Bool) : State :=
  l.foldl (fun s a => aoRefresh (setAout s a (fun d => { d with held := isOpen, hzWait := d.hzWait && isOpen })) a) s
/-- Release, or drive again, channels. -/
def chSwitch (s : State) (l : List Nat) (off : Bool) : State :=
  l.foldl (fun s c => chRefresh (setChan s c (fun d => { d with twinOff := off })) c) s

/-! ### Heartbeats and pairing (R474-R476) -/

/-- The reason a pairing is refused: 1 no active partner, 2 another Deck, image or firmware, 3 a REFCLK that is not shared; 0 none (R475, R476). -/
def pairReason (s : State) : Nat :=
  if !partnerActive s then 1 else if !s.twin.partner.same then 2
  else if param s pTimeSource 3 = 3 ∧ (domain s 3).st ≠ 0 ∧ 1000000 < (domain s 3).rate.natAbs then 3 else 0

/-- Refuse a pairing: the reason is recorded, once until it changes, and a TWIN_PAIR that waits is answered. -/
def pairRefuse (s : State) (why : Nat) : State :=
  let s := if s.twin.refused = why then s else note (setTwin s (fun d => { d with refused := why })) Ev.twinRefused 0x4B 0 0 [why]
  let s := if s.twin.st = 1 then twinTo s 0 else s
  match s.twin.reply with
  | some (m, t) => finish (setTwin s (fun d => { d with reply := none })) { mb := ⟨m % 8, Nat.mod_lt _ (by decide)⟩, tag := bv 5 t } 0x0720 true 0x020A
  | none => s

/-- Begin pairing. -/
def pairBegin (s : State) : State := twinTo (setTwin s (fun d => { d with refused := 0, waitFrom := none })) 1

/-- SEAM_HEARTBEAT_SEND (R474, R476): every 100 µs on each lane T0, role, mode, twin state and Ridge state; an active's T3 is its own T0, and one that hears no partner is alone. -/
def execSeamHeartbeatSend (s : State) : Res :=
  let on := flag s pTwinEnable 0 && alive s && (s.rst.stage == 0 || s.rst.stage == 2)
  if !on ∨ (match s.twin.sentHb with | some t => decide (s.t0 < t + 100 * us) | none => false) = true then .next s
  else
    let s := setTwin s (fun d => { d with sentHb := some s.t0 })
    let args := [(s.t0 : Int), if standbyRole s.twin.st then 1 else 0, s.mode.cur.num, s.twin.st, topReaction s]
    let s := [0, 1].foldl (fun s l => send s Out.seamHeartbeat l args) s
    let s := if activeRole s.twin.st ∧ param s pTimeSource 3 = 3 then setDomain s 3 (fun m => { m with base := (s.t0 : Int) * 4294967296, c := s.t0, rate := 0, st := 2 }) else s
    if s.twin.st = 5 ∧ seamSilent s = true then
      let s := twinTo (setTwin s (fun d => { d with p0 := none, standbyDrives := false, nextProof := none })) 4
      .next { s with io := { s.io with ch := s.io.ch.map (fun (e : Nat × ChSt) => (e.1, { e.2 with twinOff := false })) } }
    else .next s

/-- Nearest multiple of 10; a half is open (R476, DESIGN CHOICE, log 11). -/
def round10 (x : Int) : Int :=
  let q := x / 10
  let r := x % 10
  if r < 5 then q * 10 else if 5 < r then (q + 1) * 10 else if Config.roundUp x 10 then (q + 1) * 10 else q * 10

/-- The twin offset, once T3 is LOCKED (R476). -/
def fixDelta (s : State) : State :=
  if s.twin.delta.isNone ∧ !activeRole s.twin.st ∧ param s pTimeSource 3 = 3 ∧ (domain s 3).st = 2 then
    setTwin s (fun d => { d with delta := some (round10 ((domain s 3).at_ s.t0 - s.t0)) })
  else s

/-- What the partner's state means for an active: paired once it is in step, alone when it has left; its snapshot when it asks (R475, R486). -/
def activeHears (s : State) : State :=
  let p := s.twin.partner
  if s.twin.st = 4 ∧ p.st = 2 then
    let at_ := s.twin.p0.getD s.t0
    twinTo (setTwin s (fun d => { d with standbyDrives := false, pairAt := at_, nextProof := some (at_ + param s pTwinSwapPeriod 0 * 3600 * sec) })) 5
  else if s.twin.st = 5 ∧ p.st ≠ 2 ∧ s.twin.swap.isNone then
    let s := twinTo (setTwin s (fun d => { d with p0 := none, standbyDrives := false, nextProof := none })) 4
    { s with io := { s.io with ch := s.io.ch.map (fun (e : Nat × ChSt) => (e.1, { e.2 with twinOff := false })) } }
  else if s.twin.st = 4 ∧ p.st = 1 ∧ s.twin.p0.isNone then
    let t := wholeMs s.t0 0
    send (setTwin s (fun d => { d with p0 := some t })) Out.seamSnapshot 0 [t]
  else if s.twin.st = 4 ∧ p.st = 0 then setTwin s (fun d => { d with p0 := none })
  else s

/-- SEAM_HEARTBEAT_RECEIVE (R474-R476, R481, R485): a partner's heartbeat: its T0, role, mode, twin state, whether a Ridge reaction is latched, whether Deck, images and firmware are ours, and the lane's round trip in ns. -/
def execSeamHeartbeatReceive (lane : Fin 2) (t0 : DWord) (role : Fin 2) (mode : Fin 12) (st : Fin 6) (latched same : Bool) (rtt : Word) (s : State) : Res :=
  if !flag s pTwinEnable 0 || !alive s || s.rst.stage == 4 then .next s
  else
    let s := setTwin s (fun d => { d with
      heard := d.heard.set lane.val (some s.t0), down := d.down.set lane.val false
      partner := { t0 := t0.toNat, role := role.val, mode := mode.val, st := st.val, latched := latched, same := same } })
    let s := if !activeRole s.twin.st ∧ param s pTimeSource 3 = 3 ∧ activeRole st.val then takeMeas s 3 s.t0 ((t0.toNat + rtt.toNat / 2 : Nat) : Int) else s
    let s := fixDelta s
    let why := pairReason s
    if standbyRole s.twin.st ∧ s.mode.cur = .standby ∧ latched = true then
      -- a standby that sees a latched reaction enters M10 (R481)
      .next (twinTo (forceMode' s .safe 1) 0)
    else if activeRole s.twin.st ∧ activeRole st.val ∧ s.twin.tookOver then
      -- both are active: the one that became active later goes back to standby (R485)
      let s := setTwin (note s Ev.twinSplit 0x4B 0 0 []) (fun d => { d with tookOver := false, p0 := none, standbyDrives := false, nextProof := none })
      .next (pairBegin (forceMode' s .standby 11))
    else if activeRole s.twin.st then .next (activeHears s)
    else if s.twin.st = 1 ∧ why ≠ 0 then .next (pairRefuse s why)
    else if activeRole st.val ∧ ((s.mode.cur = .idle ∧ s.twin.st = 0 ∧ s.mode.pend.isNone) ∨ (s.mode.cur = .standby ∧ s.twin.st = 3) ∨ (s.rst.stage = 2 ∧ s.twin.waitFrom.isSome)) ∧ flag s pTwinAutoPair 0 then
      .next (if why = 0 then pairBegin s else pairRefuse s why)
    else .next s

/-- TWIN_PAIR (R475, R556). -/
def execTwinPair (r : Req) (s : State) : Res :=
  .next (command s r 0x0720 true [.idle] 0 (r.target == 0) (fun s =>
    let why := if flag s pTwinEnable 0 then pairReason s else 1
    if why ≠ 0 ∨ s.twin.st ≠ 0 then finish (if why = 0 then s else pairRefuse s why) r 0x0720 true 0x020A
    else if !dwellOk s then finish s r 0x0720 true 0x050C
    else accepted (pairBegin (setTwin s (fun d => { d with reply := some (r.mb.val, r.tag.toNat) }))) r 0x0720))

/-- A paired device uses T0 + Δ from now on (R476): T0 itself moves by Δ once, with what is timed against it. -/
def shiftT0 (s : State) : State :=
  match s.twin.delta with
  | some d =>
    if s.twin.shifted then s
    else
      let f (t : Nat) : Nat := ((t : Int) + d).toNat
      let tick := keepTick s
      let n := f s.t0
      let s := { s with
        t0 := n
        islands := s.islands.map (fun (e : Nat × IslandSt) => (e.1, { e.2 with lastHb := f e.2.lastHb }))
        nodes := s.nodes.map (fun (e : Nat × NodeSt) => (e.1, { e.2 with lastHb := f e.2.lastHb, silentSince := f e.2.silentSince, lastSample := f e.2.lastSample }))
        domains := s.domains.map (fun (e : Nat × DomainSt) => (e.1, { e.2 with c := f e.2.c, lastMeas := f e.2.lastMeas, holdSince := f e.2.holdSince, meas := e.2.meas.map (fun (m : Nat × Int) => (f m.1, m.2)) }))
        host := { s.host with hbChanged := f s.host.hbChanged, hbHoldUntil := f s.host.hbHoldUntil }
        pocket := { s.pocket with tick0 := (tick + 2 ^ 48 - n * 32768 / sec % 2 ^ 48) % 2 ^ 48 } }
      setTwin s (fun d => { d with shifted := true, heard := d.heard.map (fun h => h.map f), sentHb := d.sentHb.map f })
  | none => s

/-- Outputs that are not paralleled take their defaults with the entry to M9 (R479). -/
def standbyDefaults (s : State) : State :=
  let s := ((outChans s).filter (fun c => !flag s pTwinParallel c)).foldl (fun s c => setChan s c (fun d => { d with pendDef := true })) s
  ((outAos s).filter (fun a => !flag s pTwinAoParallel a)).foldl (fun s a => setAout s a (fun d => { d with pendDef := true })) s

/-- Enter M9 STANDBY. -/
def enterStandby (s : State) (trigger : Nat) : State := standbyDefaults (forceMode' s .standby trigger)

/-- What the boot still does before it ends in M9 (R71, R345, R485). -/
def bootStandby (s : State) : State :=
  if s.rst.stage ≠ 2 then s
  else
    let s := if s.rst.kind = 3 then s else axesPrepare s
    let warm := decide (s.rst.kind = 1)
    let s := setRst s (fun r => { r with stage := 0, tr := none, dramLost := false, atLeast := 0, badStreams := [] })
    let s := if warm then stewardBack (csxReturn s) else stewardUp s
    let s := { s with thatch := { s.thatch with outages := s.thatch.outages.map (fun o => if o.kind = 0 ∧ o.stop.isNone then { o with stop := some s.t0 } else o) } }
    tilesLive (restartCauses s)

/-- Take over the partner's snapshot (R475): its image, with its SYS points as TWIN, engine memories, tracker, streams and Pocket areas. -/
def takeSnap (s : State) (x : Snap) : State :=
  let own := s.img.points.filter (fun e => ptRegion e.1 == 0)
  let pts := x.points.filter (fun e => ptRegion e.1 != 0 && ptRegion e.1 != 0x13)
  let mirror := (x.points.filter (fun e => ptRegion e.1 == 0)).map (fun e => (ptid 0x13 e.1, e.2))
  let s := { s with
    img := { s.img with points := mirror.foldl (fun t e => tset t e.1 e.2) (pts.foldl (fun t e => tset t e.1 e.2) own) }
    loops := x.loops, loopEng := x.loopEng, motion := { s.motion with pf := x.prof }, track := x.track, streams := x.streams
    sched := { s.sched with nextSet := x.nextSet } }
  let s := x.engMem.foldl (fun s e => setEngine s e.1 (fun d => { d with mem := e.2 })) s
  let area := x.pocket.filter (fun c => decide (0x200 ≤ c.1 ∧ c.1 < 0x3C00))
  setPocket (clearAreas s false) (fun p => { p with mem := area.foldl (fun m c => mwrite m c.1 c.2) p.mem })

/-- SNAPSHOT_APPLIED (R475): a pairing device with its offset fixed takes the snapshot and enters M9 STANDBY in step; TWIN_PAIR completes. -/
def execSnapshotApplied (snap : Machine.Snap) (s : State) : Res :=
  if s.twin.st ≠ 1 ∨ s.twin.delta.isNone ∨ pairReason s ≠ 0 then .next s
  else
    let s := takeSnap (shiftT0 s) snap
    let s := enterStandby (bootStandby s) 9
    let s := setTwin s (fun d => { d with
      p0 := some snap.p0, pairAt := snap.p0, nextProof := some (snap.p0 + param s pTwinSwapPeriod 0 * 3600 * sec), standbyDrives := false, instants := [], ours := [], theirs := [], tookOver := false, mismatch := [] })
    let s := twinTo s 2
    match s.twin.reply with
    | some (m, t) => .next (finish (setTwin s (fun d => { d with reply := none })) { mb := ⟨m % 8, Nat.mod_lt _ (by decide)⟩, tag := bv 5 t } 0x0720 true 0)
    | none => .next s

/-- PAIR_WAIT_EXPIRY (R485): no active partner within PAIR_WAIT: the device goes on as active, ID 1 after ID 0; beside an active partner that it may not pair with it goes on unpaired. -/
def execPairWaitExpiry (s : State) : Res :=
  match s.twin.waitFrom with
  | none => .next s
  | some w =>
    let first := param s pTwinId 0 = 0 ∨ seamSilent s = true ∨ partnerActive s = true
    if s.rst.stage ≠ 2 ∨ s.t0 < w + param s pTwinPairWait 0 * ms ∨ ¬first then .next s
    else
      let s := setTwin s (fun d => { d with waitFrom := none })
      let s := if partnerActive s then s else twinTo s 4
      .next (bootGo (setRst s (fun r => { r with atLeast := if r.origin = 9 then max r.atLeast 2 else r.atLeast })))

/-! ### Forwarded traffic (R154, R477, R478) -/

/-- Fall out of step: 1 late marker, 2 CRC mismatch, 3 lost traffic, 4 too little Seam (R478). -/
def desync (s : State) (why : Nat) : State :=
  if s.twin.st ≠ 2 then s
  else
    let s := setTwin s (fun d => { d with standbyDrives := false, exchAt := none, exch := none })
    let s := twinTo (note s Ev.twinDesync 0x4B 0 0 [why]) 3
    (parChans s true).foldl chRefresh s

/-- A forwarded command that changes what runs in step, applied with its acceptance instant (R477). -/
def applyForwarded (s : State) (op target a : Nat) (p : List Byte) : State :=
  let k := fld p 0 1
  match op with
  | 0x0107 => forceReq s a true ⟨false, target, bv 32 (fld p 0 4), 0⟩
  | 0x0108 => unforce s a target false
  | 0x0109 => forceReq s a true ⟨true, target, bv 32 (fld p 4 4), fld p 0 4⟩
  | 0x010A => unforce s a target true
  | 0x0310 =>
    let clr (s : State) (i : Nat) : State := setLoop s i (fun d => { d with sticky := 0, seen := 0 })
    if fld p 0 2 = 0xFFFF then (tkeys s.loops).foldl clr s else clr s (fld p 0 2)
  | 0x0501 => streamLoad s k (fld p 2 2)
  | 0x0502 => streamStart s k a
  | 0x0503 => streamPause s k 1
  | 0x0504 => streamContinue s k a
  | 0x0505 => streamAbort s k (fld p 1 1) a
  | 0x0510 => if (opOf s (fld p 0 4)).isSome then opResolve s (fld p 0 4) (fld p 4 1) else s
  | 0x0721 => setTwin s (fun d => { d with swap := some (fld p 0 8, false, 0) })
  | _ => s

/-- Compare the CRCs of an output set that both devices have (R478). -/
def crcCheck (s : State) (id : Nat) : State :=
  match tfind s.twin.ours id, tfind s.twin.theirs id with
  | some a, some b =>
    let s := setTwin s (fun d => { d with ours := tdel d.ours id, theirs := tdel d.theirs id })
    if a = b then s else desync s 2
  | _, _ => s

/-- SEAM_FORWARD_RECEIVE (R42, R154, R471, R477): the partner's SYS updates appear in TWIN; a standby takes everything else. -/
def execSeamForwardReceive (msg : SeamMsg) (s : State) : Res :=
  let paired := standbyRole s.twin.st ∨ s.twin.st = 5
  let sb := standbyRole s.twin.st ∧ s.mode.cur = .standby
  match msg with
  | .update t p v c =>
    if ptRegion p = 0 then .next (if paired then putUpdate s t (ptid 0x13 p) v c else s)
    else if sb then
      let s := if ptRegion p = 1 ∧ ptIndex p % 16 = 1 then setTwin s (fun d => { d with cmd := tset d.cmd p v }) else s
      .next (putUpdate s t p v c)
    else .next s
  | .trigger i t => .next (if sb then takeTrig s i.toNat t else s)
  | .set sc id v rem e =>
    if sb then
      let key := pkey sc.val id.toNat
      let s := (applySet' s sc.val id.toNat v rem).1
      .next { s with params := { s.params with live := s.params.live.map (fun (p : SetPend) => if p.key = key ∧ e ≠ 0 then { p with due := e } else p) } }
    else .next s
  | .mode m e => .next (if sb then { s with mode := { s.mode with pend := (modeOf m.val).map (fun d => ⟨d, e, 12, none⟩) } } else s)
  | .command op target t p => .next (if sb then applyForwarded s op.toNat target.toNat t p else s)
  | .journal l => .next (if sb then setPocket s (fun p => { p with mem := l.foldl (fun m e => mwrites m e.1.toNat e.2) p.mem, txns := (p.txns + 1) % 2 ^ 32 }) else s)
  | .marker t =>
    if sb then
      let s := setTwin s (fun d => { d with instants := d.instants.filter (fun x => x != t) })
      .next (if t + 100 * us < s.t0 then desync s 1 else s)
    else .next s
  | .crc id c => .next (if sb then crcCheck (setTwin s (fun d => { d with theirs := tset d.theirs id c })) id else s)
  | .exch slot q b =>
    if sb then
      .next (setTwin s (fun d => { d with
        exchAt := some q, exch := some { slot := slot.toNat, mb := 0, tag := 0, img := { Config.progImg b with gen := hdrGen b }, bytes := b, newGen := hdrGen b } }))
    else .next s
  | .lost => .next (if sb then desync s 3 else s)

/-- END_OF_INSTANT_TIMEOUT (R478): a marker is 100 µs late, or CRCs of one output set differ. -/
def execEndOfInstantTimeout (s : State) : Res :=
  if s.twin.st ≠ 2 ∨ s.mode.cur ≠ .standby then .next s
  else
    let s := (tkeys s.twin.ours).foldl crcCheck s
    .next (if s.twin.instants.any (fun t => decide (t + 100 * us < s.t0)) then desync s 1 else s)

/-- TWIN_LANE_FAULT (R478): one lane has failed; a Deck that forwards more than one lane carries (`heavy`) falls out of step. -/
def execTwinLaneFault (lane : Fin 2) (heavy : Bool) (s : State) : Res :=
  if !flag s pTwinEnable 0 || !alive s || (s.twin.down[lane.val]?).getD false then .next s
  else
    let s := note (setTwin s (fun d => { d with down := d.down.set lane.val true, heard := d.heard.set lane.val none })) Ev.twinLaneFault 0x4B lane.val 0 []
    .next (if heavy then desync s 4 else s)

/-! ### Takeover (R481-R483) -/

/-- Local profiles whose plan is not at rest end in TILE_STOP, and their operations are parked (R483). -/
def dropMoves (s : State) : State :=
  (tkeys s.motion.pf).foldl (fun s i =>
    let d := prof s i
    if !isLocal i ∨ (d.plan.isNone ∧ d.home.isNone ∧ d.vel = 0) then s
    else
      let s := opPark s d.handle
      setProf s i (fun d => { d with st := 9, plan := none, home := none, vel := 0, acc := 0, maint := none, running := none, stopReq := none })) s

/-- Every active operation acts by a rule of at least PARK (R481). -/
def parkLeast (s : State) : State :=
  (s.track.slots.filter (fun e => e.2.st == 1 && e.2.parent == 0)).foldl (fun s e => opAct s e.1 (op s e.1) (max 2 e.2.rule) 0) s

/-- Become active in M4 RUN (R483): the latest sets computed in step drive the paralleled outputs, designated loops seed from the forwarded realised outputs, local moves are dropped; the former active's HOLD or IDLE follows at the next entry instant. -/
def takeOver (s : State) (trigger cause : Nat) : State :=
  let was := s.twin.st
  let pm := s.twin.partner.mode
  let s := note s Ev.takeover 0x4B 0 0 [cause]
  let s := setTwin s (fun d => { d with instants := [], ours := [], theirs := [], standbyDrives := false, nextProof := none })
  let s := enterMode { s with mode := { s.mode with pend := none } } .run trigger s.t0
  let s := if was = 3 then parkLeast s else s
  let s := dropMoves s
  let s := ((tkeys s.loops).filter (fun i => flag s pLoopBridge i)).foldl (fun s i => loopSeed s i (ratOf (pget s (ptid 6 (i * 256 + 2))).value.toNat)) s
  let s := refreshOuts (chSwitch s (parChans s false) false)
  if pm = 5 then (pendMode s .hold trigger).1 else if pm = 3 then (pendMode s .idle trigger).1 else s

/-- TAKEOVER (R481): a standby that has missed 30 heartbeats on both lanes takes over, unless its partner's Ridge reaction is latched. -/
def execTakeover (s : State) : Res :=
  if s.mode.cur ≠ .standby ∨ !standbyRole s.twin.st ∨ !seamSilent s ∨ s.twin.partner.latched then .next s
  else
    let s := setTwin (takeOver s 8 0) (fun d => { d with tookOver := true, p0 := none, swap := none, exchAt := none, exch := none })
    .next (twinTo (aoSwitch s (parAos s) false) 4)

/-- Whether a silent tile's paralleled outputs follow R482. -/
def pairedTile (s : State) (n : Nat) : Bool := (node s n).silent && (s.twin.wasPaired || s.twin.st == 2 || s.twin.st == 3 || s.twin.st == 5)

/-- PARALLEL_ANALOG_OPEN (R482): 2.8 ms after its last heartbeat a silent tile opens its paralleled analog switches. -/
def execParallelAnalogOpen (tile : Fin 4) (s : State) : Res :=
  if !pairedTile s tile.val ∨ s.t0 < (node s tile.val).lastHb + 2800 * us then .next s
  else .next (aoSwitch s ((parAos s).filter (fun a => a / 8 == tile.val)) true)

/-- PARALLEL_CHANNEL_RELEASE (R482): 4.5 ms after it the tile switches its paralleled channels off. -/
def execParallelChannelRelease (tile : Fin 4) (s : State) : Res :=
  if !pairedTile s tile.val ∨ s.t0 < (node s tile.val).lastHb + 4500 * us then .next s
  else .next (chSwitch s ((parChans s false).filter (fun c => c / 128 == tile.val)) true)

/-! ### Role swaps (R484) -/

/-- TWIN_SWAP: accepted in step with no local axis moving; W is the first whole millisecond at least 2 ms after acceptance. -/
def execTwinSwap (r : Req) (s : State) : Res :=
  .next (command s r 0x0721 true [.run] 0 (r.target == 0) (fun s =>
    if s.twin.st ≠ 5 ∨ s.twin.partner.st ≠ 2 ∨ s.twin.swap.isSome ∨ s.motion.ax.any (fun e => !e.2.atRest) = true then finish s r 0x0721 true 0x020A
    else if !dwellOk s then finish s r 0x0721 true 0x050C
    else
      let w := wholeMs s.t0 (2 * ms)
      let s := forward s 4 [0x0721, 0, s.t0] (leBytes 8 w)
      finish (setTwin s (fun d => { d with swap := some (w, true, 0) })) r 0x0721 true 0 (leBytes 8 w)))

/-- TWIN_SWAP_INSTANT: at W the roles change: the incoming device applies its paralleled channels, the outgoing opens its analog switches. -/
def execTwinSwapInstant (s : State) : Res :=
  match s.twin.swap with
  | some (w, out, 0) =>
    if s.t0 < w then .next s
    else
      let s := setTwin s (fun d => { d with swap := some (w, out, 1) })
      if out then .next (twinTo (aoSwitch s (parAos s) true) 2)
      else
        -- the switches stay open past the mode change
        let s := (parAos s).foldl (fun s a => setAout s a (fun d => { d with held := true })) s
        let next := s.twin.nextProof
        .next (twinTo (setTwin (takeOver s 10 1) (fun d => { d with nextProof := next, tookOver := false })) 5)
  | _ => .next s

/-- TWIN_SWAP_ANALOG_CLOSE: at W + 0.5 ms the incoming device closes its analog switches. -/
def execTwinSwapAnalogClose (s : State) : Res :=
  match s.twin.swap with
  | some (w, false, 1) => if s.t0 < w + 500 * us then .next s else .next (aoSwitch (setTwin s (fun d => { d with swap := none })) (parAos s) false)
  | _ => .next s

/-- TWIN_SWAP_RELEASE: at W + 1.0 ms the outgoing device releases its channels and enters M9 STANDBY. -/
def execTwinSwapRelease (s : State) : Res :=
  match s.twin.swap with
  | some (w, true, 1) =>
    if s.t0 < w + ms then .next s
    else
      let s := setTwin s (fun d => { d with swap := none, standbyDrives := false, instants := [], ours := [], theirs := [] })
      let s := enterStandby s 10
      .next (aoSwitch s (parAos s) false)
  | _ => .next s

/-! ### Proof swaps (R486, R487) -/

/-- A measured switch current in mA, 0 when none is given. -/
def currentOf (l : List (BitVec 9 × Word)) (c : Nat) : Rat := match l.find? (fun e => e.1.toNat == c) with | some e => ratOf e.2.toNat | none => 0

/-- Whether this device now drives the privileged channels. -/
def drivesPriv (s : State) : Bool := if standbyRole s.twin.st then s.twin.standbyDrives else !s.twin.standbyDrives

/-- The command of a channel as this device has it. -/
def privCmd (s : State) (c : Nat) : Bool := (chan s c).cmd

/-- PROOF_SWAP (R486, R487): at W the incoming side applies; `ma` gives the outgoing switches' least currents in the 1 ms before W. -/
def execProofSwap (ma : List (BitVec 9 × Word)) (s : State) : Res :=
  match s.twin.nextProof with
  | none => .next s
  | some w =>
    if s.t0 < w ∨ (s.twin.st ≠ 2 ∧ s.twin.st ≠ 5) then .next s
    else
      let out := drivesPriv s
      let on := (parChans s true).filter (fun c => privCmd s c)
      let good := on.filter (fun c => decide (ratOf (param s pTwinProofMa 0) ≤ currentOf ma c))
      let sb := standbyRole s.twin.st
      let s := setTwin s (fun d => { d with
        nextProof := some (w + param s pTwinSwapPeriod 0 * 3600 * sec), proofAt := w, proof := good, proofOn := on, proofOut := out, proofStage := 1
        -- a standby that goes out drives on until W + 1.0 ms
        standbyDrives := if sb && out then true else !d.standbyDrives })
      .next (if out then s else if sb then (parChans s true).foldl chRefresh s else chSwitch s (parChans s true) false)

/-- PROOF_SWAP_RELEASE (R486): at W + 1.0 ms the outgoing side releases. -/
def execProofSwapRelease (s : State) : Res :=
  if s.twin.proofStage ≠ 1 ∨ s.t0 < s.twin.proofAt + ms then .next s
  else
    let s := setTwin s (fun d => { d with proofStage := 2 })
    if !s.twin.proofOut then .next s
    else if standbyRole s.twin.st then .next ((parChans s true).foldl chRefresh (setTwin s (fun d => { d with standbyDrives := false })))
    else .next (chSwitch s (parChans s true) true)

/-- PROOF_CHECK (R487): at W + 3 ms the incoming switch carries PROOF_MA and the outgoing at most 5 mA; a channel that fails goes back to the outgoing side, PROOF_FAIL and the Ridge learn of it; PROOF_DUE after two periods without a proof. -/
def execProofCheck (inc out : List (BitVec 9 × Word)) (s : State) : Res :=
  if s.twin.proofStage ≠ 2 ∨ s.t0 < s.twin.proofAt + 3 * ms then .next s
  else
    let w := s.twin.proofAt
    let per := param s pTwinSwapPeriod 0 * 3600 * sec
    let on := (parChans s true).filter (fun c => privCmd s c && s.twin.proofOn.contains c)
    let ok (c : Nat) : Bool := decide (ratOf (param s pTwinProofMa 0) ≤ currentOf inc c) && decide (currentOf out c ≤ 5)
    let s := setTwin s (fun d => { d with proofStage := 0 })
    let s := on.foldl (fun s c =>
      if ok c then
        let s := setTwin s (fun d => { d with proofBad := d.proofBad.filter (· != c) })
        if s.twin.proof.contains c then setTwin s (fun d => { d with proven := tset d.proven c w, dueNoted := d.dueNoted.filter (· != c) }) else s
      else
        let s := report (note (setTwin s (fun d => { d with proofBad := d.proofBad.filter (· != c) ++ [c] })) Ev.proofFail 0x4B c (chPt c 1) []) 0x0902 (0x60 + c / 128) c
        if s.twin.proofOut && !standbyRole s.twin.st then chSwitch s [c] false else chRefresh s c) s
    let due := (parChans s true).filter (fun c => !s.twin.dueNoted.contains c && decide (tget s.twin.pairAt s.twin.proven c + 2 * per ≤ s.t0))
    .next (due.foldl (fun s c => note (setTwin s (fun d => { d with dueNoted := d.dueNoted ++ [c] })) Ev.proofDue 0x4B c (chPt c 1) []) s)

/-- TWIN_PIN_MISMATCH (R479): a standby's paralleled pin has disagreed with the partner's applied command for 10 ms after settle; the pin's voltage in mV. -/
def execTwinPinMismatch (c : BitVec 9) (mv : Nat) (s : State) : Res :=
  let c := c.toNat
  if s.mode.cur ≠ .standby ∨ !flag s pTwinParallel c ∨ !isOut s c then .next s
  else match tfind s.twin.cmd (chPt c 1) with
  | none => .next s
  | some v =>
    let bad := if v.getLsbD 0 then decide (mv < 3000) else decide (10000 ≤ mv)
    if !bad then .next (setTwin s (fun d => { d with mismatch := d.mismatch.filter (· != c) }))
    else if s.twin.mismatch.contains c then .next s
    else .next (note (setTwin s (fun d => { d with mismatch := d.mismatch ++ [c] })) Ev.twinPinMismatch (0x60 + c / 128) c (chPt c 1) [mv])

/-- TWIN_STATUS_GET (R475, R476, R484, R486). -/
def execTwinStatusGet (r : Req) (s : State) : Res :=
  .next (command s r 0x0722 false allModes 0 (r.target == 0) (fun s =>
    let lanes := (if laneUp s 0 && !(s.twin.down[0]?).getD false then 1 else 0) + (if laneUp s 1 && !(s.twin.down[1]?).getD false then 2 else 0)
    finish s r 0x0722 false 0 (leBytes 1 s.twin.st ++ leBytes 1 (if standbyRole s.twin.st then 1 else 0) ++ leBytes 1 lanes ++ [0] ++
      leBytes 8 (BitVec.ofInt 64 (s.twin.delta.getD 0)).toNat ++ leBytes 8 (s.twin.p0.getD 0) ++ leBytes 8 (s.twin.nextProof.getD 0))))

end Sys2Proof.Machine
end

