-- ==== Sys2Proof/Machine/Dispatch.lean ====
section
/-! DEFINITION. One arm per command: the meaning it calls. -/

namespace Sys2Proof.Machine

/-- The effect of a command on everything but the queue. -/
def exec (i : Instr) (s : State) : Host.Outcome State Fault Refusal :=
  match i with
  | .packetReceive link up raw => Sys2Proof.Machine.execPacketReceive link up raw s
  | .negativeAcknowledge link up cls => Sys2Proof.Machine.execNegativeAcknowledge link up cls s
  | .creditReturn link up cls n => Sys2Proof.Machine.execCreditReturn link up cls n s
  | .heartbeatSend => Sys2Proof.Machine.execHeartbeatSend s
  | .silentHold tile => Sys2Proof.Machine.execSilentHold tile s
  | .t0AlignExchange isl offset => Sys2Proof.Machine.execT0AlignExchange isl offset s
  | .t0CrossCheck t0Adv ridgeAdv => Sys2Proof.Machine.execT0CrossCheck t0Adv ridgeAdv s
  | .refclkLost => Sys2Proof.Machine.execRefclkLost s
  | .refclkReturn => Sys2Proof.Machine.execRefclkReturn s
  | .strobeEventReceive node => Sys2Proof.Machine.execStrobeEventReceive node s
  | .sampleStrobe node => Sys2Proof.Machine.execSampleStrobe node s
  | .applyStrobe node => Sys2Proof.Machine.execApplyStrobe node s
  | .outputSetReceive node => Sys2Proof.Machine.execOutputSetReceive node s
  | .dramScrub addr errs => Sys2Proof.Machine.execDramScrub addr errs s
  | .commonsScrub off errs => Sys2Proof.Machine.execCommonsScrub off errs s
  | .imageUpdateVisible => Sys2Proof.Machine.execImageUpdateVisible s
  | .windowCopyComplete ce => Sys2Proof.Machine.execWindowCopyComplete ce s
  | .windowWaitExpiry ce => Sys2Proof.Machine.execWindowWaitExpiry ce s
  | .stationInputBlock region stn blk vals conds => Sys2Proof.Machine.execStationInputBlock region stn blk vals conds s
  | .stationSilent region stn => Sys2Proof.Machine.execStationSilent region stn s
  | .stationLost region stn => Sys2Proof.Machine.execStationLost region stn s
  | .forceInstant => Sys2Proof.Machine.execForceInstant s
  | .derivedRelease n => Sys2Proof.Machine.execDerivedRelease n s
  | .modeEntry => Sys2Proof.Machine.execModeEntry s
  | .deckValidationEnd late detail device proof => Sys2Proof.Machine.execDeckValidationEnd late detail device proof s
  | .deckCommitDone readOk => Sys2Proof.Machine.execDeckCommitDone readOk s
  | .deckSaveDone readOk => Sys2Proof.Machine.execDeckSaveDone readOk s
  | .imageValidationEnd late => Sys2Proof.Machine.execImageValidationEnd late s
  | .sampleStrobeSend node at_ => Sys2Proof.Machine.execSampleStrobeSend node at_ s
  | .taskRelease task => Sys2Proof.Machine.execTaskRelease task s
  | .eventTaskTrigger => Sys2Proof.Machine.execEventTaskTrigger s
  | .heldTriggerRelease task => Sys2Proof.Machine.execHeldTriggerRelease task s
  | .engineAskWork ce => Sys2Proof.Machine.execEngineAskWork ce s
  | .taskDeadline task => Sys2Proof.Machine.execTaskDeadline task s
  | .applyStrobeSend task => Sys2Proof.Machine.execApplyStrobeSend task s
  | .releaseEnd ce => Sys2Proof.Machine.execReleaseEnd ce s
  | .placementWindow busy => Sys2Proof.Machine.execPlacementWindow busy s
  | .programMove => Sys2Proof.Machine.execProgramMove s
  | .programMoveAbandon => Sys2Proof.Machine.execProgramMoveAbandon s
  | .blNop ce x => Sys2Proof.Machine.execBlNop ce x s
  | .blLd ce x => Sys2Proof.Machine.execBlLd ce x s
  | .blLdn ce x => Sys2Proof.Machine.execBlLdn ce x s
  | .blAnd ce x => Sys2Proof.Machine.execBlAnd ce x s
  | .blAndn ce x => Sys2Proof.Machine.execBlAndn ce x s
  | .blOr ce x => Sys2Proof.Machine.execBlOr ce x s
  | .blOrn ce x => Sys2Proof.Machine.execBlOrn ce x s
  | .blXor ce x => Sys2Proof.Machine.execBlXor ce x s
  | .blXorn ce x => Sys2Proof.Machine.execBlXorn ce x s
  | .blLdg ce x => Sys2Proof.Machine.execBlLdg ce x s
  | .blAndg ce x => Sys2Proof.Machine.execBlAndg ce x s
  | .blOrng ce x => Sys2Proof.Machine.execBlOrng ce x s
  | .blSt ce x => Sys2Proof.Machine.execBlSt ce x s
  | .blStn ce x => Sys2Proof.Machine.execBlStn ce x s
  | .blSet ce x => Sys2Proof.Machine.execBlSet ce x s
  | .blRst ce x => Sys2Proof.Machine.execBlRst ce x s
  | .blNot ce x => Sys2Proof.Machine.execBlNot ce x s
  | .blLdt ce x => Sys2Proof.Machine.execBlLdt ce x s
  | .blLdf ce x => Sys2Proof.Machine.execBlLdf ce x s
  | .blLdfs ce x => Sys2Proof.Machine.execBlLdfs ce x s
  | .blLdqd ce x => Sys2Proof.Machine.execBlLdqd ce x s
  | .blAndOpen ce x => Sys2Proof.Machine.execBlAndOpen ce x s
  | .blOrOpen ce x => Sys2Proof.Machine.execBlOrOpen ce x s
  | .blXorOpen ce x => Sys2Proof.Machine.execBlXorOpen ce x s
  | .blPsh ce x => Sys2Proof.Machine.execBlPsh ce x s
  | .blClose ce x => Sys2Proof.Machine.execBlClose ce x s
  | .blPop ce x => Sys2Proof.Machine.execBlPop ce x s
  | .blLdw ce x => Sys2Proof.Machine.execBlLdw ce x s
  | .blStw ce x => Sys2Proof.Machine.execBlStw ce x s
  | .blLdi ce x => Sys2Proof.Machine.execBlLdi ce x s
  | .blLdhi ce x => Sys2Proof.Machine.execBlLdhi ce x s
  | .blSwap ce x => Sys2Proof.Machine.execBlSwap ce x s
  | .blMovab ce x => Sys2Proof.Machine.execBlMovab ce x s
  | .blLdq ce x => Sys2Proof.Machine.execBlLdq ce x s
  | .blStwq ce x => Sys2Proof.Machine.execBlStwq ce x s
  | .blLdwx ce x => Sys2Proof.Machine.execBlLdwx ce x s
  | .blStwx ce x => Sys2Proof.Machine.execBlStwx ce x s
  | .blLdtr ce x => Sys2Proof.Machine.execBlLdtr ce x s
  | .blLds ce x => Sys2Proof.Machine.execBlLds ce x s
  | .blCls ce x => Sys2Proof.Machine.execBlCls ce x s
  | .blAdd ce x => Sys2Proof.Machine.execBlAdd ce x s
  | .blSub ce x => Sys2Proof.Machine.execBlSub ce x s
  | .blMul ce x => Sys2Proof.Machine.execBlMul ce x s
  | .blDiv ce x => Sys2Proof.Machine.execBlDiv ce x s
  | .blNeg ce x => Sys2Proof.Machine.execBlNeg ce x s
  | .blAddi ce x => Sys2Proof.Machine.execBlAddi ce x s
  | .blAndw ce x => Sys2Proof.Machine.execBlAndw ce x s
  | .blOrw ce x => Sys2Proof.Machine.execBlOrw ce x s
  | .blXorw ce x => Sys2Proof.Machine.execBlXorw ce x s
  | .blNotw ce x => Sys2Proof.Machine.execBlNotw ce x s
  | .blShl ce x => Sys2Proof.Machine.execBlShl ce x s
  | .blShr ce x => Sys2Proof.Machine.execBlShr ce x s
  | .blAsr ce x => Sys2Proof.Machine.execBlAsr ce x s
  | .blAddf ce x => Sys2Proof.Machine.execBlAddf ce x s
  | .blSubf ce x => Sys2Proof.Machine.execBlSubf ce x s
  | .blMulf ce x => Sys2Proof.Machine.execBlMulf ce x s
  | .blDivf ce x => Sys2Proof.Machine.execBlDivf ce x s
  | .blItof ce x => Sys2Proof.Machine.execBlItof ce x s
  | .blFtoi ce x => Sys2Proof.Machine.execBlFtoi ce x s
  | .blAbsf ce x => Sys2Proof.Machine.execBlAbsf ce x s
  | .blNegf ce x => Sys2Proof.Machine.execBlNegf ce x s
  | .blEq ce x => Sys2Proof.Machine.execBlEq ce x s
  | .blNe ce x => Sys2Proof.Machine.execBlNe ce x s
  | .blLt ce x => Sys2Proof.Machine.execBlLt ce x s
  | .blLe ce x => Sys2Proof.Machine.execBlLe ce x s
  | .blGt ce x => Sys2Proof.Machine.execBlGt ce x s
  | .blGe ce x => Sys2Proof.Machine.execBlGe ce x s
  | .blLtu ce x => Sys2Proof.Machine.execBlLtu ce x s
  | .blGeu ce x => Sys2Proof.Machine.execBlGeu ce x s
  | .blLtf ce x => Sys2Proof.Machine.execBlLtf ce x s
  | .blLef ce x => Sys2Proof.Machine.execBlLef ce x s
  | .blGtf ce x => Sys2Proof.Machine.execBlGtf ce x s
  | .blGef ce x => Sys2Proof.Machine.execBlGef ce x s
  | .blEqf ce x => Sys2Proof.Machine.execBlEqf ce x s
  | .blJmp ce x => Sys2Proof.Machine.execBlJmp ce x s
  | .blJc ce x => Sys2Proof.Machine.execBlJc ce x s
  | .blJcn ce x => Sys2Proof.Machine.execBlJcn ce x s
  | .blCall ce x => Sys2Proof.Machine.execBlCall ce x s
  | .blCallc ce x => Sys2Proof.Machine.execBlCallc ce x s
  | .blRet ce x => Sys2Proof.Machine.execBlRet ce x s
  | .blRetc ce x => Sys2Proof.Machine.execBlRetc ce x s
  | .blEnd ce x => Sys2Proof.Machine.execBlEnd ce x s
  | .blEndc ce x => Sys2Proof.Machine.execBlEndc ce x s
  | .blTon ce x => Sys2Proof.Machine.execBlTon ce x s
  | .blTof ce x => Sys2Proof.Machine.execBlTof ce x s
  | .blTp ce x => Sys2Proof.Machine.execBlTp ce x s
  | .blCtu ce x => Sys2Proof.Machine.execBlCtu ce x s
  | .blCtd ce x => Sys2Proof.Machine.execBlCtd ce x s
  | .blCtud ce x => Sys2Proof.Machine.execBlCtud ce x s
  | .blRTrig ce x => Sys2Proof.Machine.execBlRTrig ce x s
  | .blFTrig ce x => Sys2Proof.Machine.execBlFTrig ce x s
  | .blLdiv ce x => Sys2Proof.Machine.execBlLdiv ce x s
  | .blStiv ce x => Sys2Proof.Machine.execBlStiv ce x s
  | .retainCommit prog => Sys2Proof.Machine.execRetainCommit prog s
  | .nativeApertureStore ce p hi narrow v => Sys2Proof.Machine.execNativeApertureStore ce p hi narrow v s
  | .nativeException ce cause epc tval => Sys2Proof.Machine.execNativeException ce cause epc tval s
  | .nativeTimeout ce => Sys2Proof.Machine.execNativeTimeout ce s
  | .dlaskEnd ce => Sys2Proof.Machine.execDlaskEnd ce s
  | .dlaskDiscard ce => Sys2Proof.Machine.execDlaskDiscard ce s
  | .dlpvalRead ce p rd => Sys2Proof.Machine.execDlpvalRead ce p rd s
  | .dlpvalWrite ce p q v => Sys2Proof.Machine.execDlpvalWrite ce p q v s
  | .dlnowRead ce rd => Sys2Proof.Machine.execDlnowRead ce rd s
  | .dlstrbcSampleStrobe ce tiles at_ => Sys2Proof.Machine.execDlstrbcSampleStrobe ce tiles at_ s
  | .dlstrbcApplyStrobe ce tiles at_ => Sys2Proof.Machine.execDlstrbcApplyStrobe ce tiles at_ s
  | .exchangeSwap => Sys2Proof.Machine.execExchangeSwap s
  | .exchNoQuiet => Sys2Proof.Machine.execExchNoQuiet s
  | .exchangeReturn => Sys2Proof.Machine.execExchangeReturn s
  | .loopRelease loop => Sys2Proof.Machine.execLoopRelease loop s
  | .loopBegin le => Sys2Proof.Machine.execLoopBegin le s
  | .loopInputWaitExpiry loop => Sys2Proof.Machine.execLoopInputWaitExpiry loop s
  | .loopDeadline loop => Sys2Proof.Machine.execLoopDeadline loop s
  | .loopEnd le => Sys2Proof.Machine.execLoopEnd le s
  | .heldTimeExpiry loop inp => Sys2Proof.Machine.execHeldTimeExpiry loop inp s
  | .tuneCheckTimeout loop => Sys2Proof.Machine.execTuneCheckTimeout loop s
  | .tuneSettleDone loop => Sys2Proof.Machine.execTuneSettleDone loop s
  | .tuneMeasureDone loop => Sys2Proof.Machine.execTuneMeasureDone loop s
  | .tuneTimeout loop => Sys2Proof.Machine.execTuneTimeout loop s
  | .bridgeLawStart loop => Sys2Proof.Machine.execBridgeLawStart loop s
  | .bridgePeriod loop => Sys2Proof.Machine.execBridgePeriod loop s
  | .bridgeExpiry loop => Sys2Proof.Machine.execBridgeExpiry loop s
  | .leMpy le x => Sys2Proof.Machine.execLeMpy le x s
  | .leMac le x => Sys2Proof.Machine.execLeMac le x s
  | .leMsu le x => Sys2Proof.Machine.execLeMsu le x s
  | .leMacl le x => Sys2Proof.Machine.execLeMacl le x s
  | .leMsul le x => Sys2Proof.Machine.execLeMsul le x s
  | .leMpyl le x => Sys2Proof.Machine.execLeMpyl le x s
  | .leMove le x => Sys2Proof.Machine.execLeMove le x s
  | .leDmove le x => Sys2Proof.Machine.execLeDmove le x s
  | .leNop le x => Sys2Proof.Machine.execLeNop le x s
  | .leLd le x => Sys2Proof.Machine.execLeLd le x s
  | .leSt le x => Sys2Proof.Machine.execLeSt le x s
  | .leLdd le x => Sys2Proof.Machine.execLeLdd le x s
  | .leStd le x => Sys2Proof.Machine.execLeStd le x s
  | .leLdi le x => Sys2Proof.Machine.execLeLdi le x s
  | .leLdih le x => Sys2Proof.Machine.execLeLdih le x s
  | .leMov le x => Sys2Proof.Machine.execLeMov le x s
  | .leAdd le x => Sys2Proof.Machine.execLeAdd le x s
  | .leSub le x => Sys2Proof.Machine.execLeSub le x s
  | .leAddi le x => Sys2Proof.Machine.execLeAddi le x s
  | .leAnd le x => Sys2Proof.Machine.execLeAnd le x s
  | .leOr le x => Sys2Proof.Machine.execLeOr le x s
  | .leXor le x => Sys2Proof.Machine.execLeXor le x s
  | .leShl le x => Sys2Proof.Machine.execLeShl le x s
  | .leAsr le x => Sys2Proof.Machine.execLeAsr le x s
  | .leLsr le x => Sys2Proof.Machine.execLeLsr le x s
  | .leNeg le x => Sys2Proof.Machine.execLeNeg le x s
  | .leAbs le x => Sys2Proof.Machine.execLeAbs le x s
  | .leMin le x => Sys2Proof.Machine.execLeMin le x s
  | .leMax le x => Sys2Proof.Machine.execLeMax le x s
  | .leMuli le x => Sys2Proof.Machine.execLeMuli le x s
  | .leCmp le x => Sys2Proof.Machine.execLeCmp le x s
  | .leCmpi le x => Sys2Proof.Machine.execLeCmpi le x s
  | .leClr le x => Sys2Proof.Machine.execLeClr le x s
  | .leLda le x => Sys2Proof.Machine.execLeLda le x s
  | .leSta le x => Sys2Proof.Machine.execLeSta le x s
  | .leAdda le x => Sys2Proof.Machine.execLeAdda le x s
  | .leSuba le x => Sys2Proof.Machine.execLeSuba le x s
  | .leAsha le x => Sys2Proof.Machine.execLeAsha le x s
  | .leAshr le x => Sys2Proof.Machine.execLeAshr le x s
  | .leAddaa le x => Sys2Proof.Machine.execLeAddaa le x s
  | .leMovaa le x => Sys2Proof.Machine.execLeMovaa le x s
  | .leCmpa le x => Sys2Proof.Machine.execLeCmpa le x s
  | .leStg le x => Sys2Proof.Machine.execLeStg le x s
  | .leLdg le x => Sys2Proof.Machine.execLeLdg le x s
  | .leSata le x => Sys2Proof.Machine.execLeSata le x s
  | .leRnda le x => Sys2Proof.Machine.execLeRnda le x s
  | .leMovp le x => Sys2Proof.Machine.execLeMovp le x s
  | .leStepp le x => Sys2Proof.Machine.execLeStepp le x s
  | .leWrot le x => Sys2Proof.Machine.execLeWrot le x s
  | .leBr le x => Sys2Proof.Machine.execLeBr le x s
  | .leCall le x => Sys2Proof.Machine.execLeCall le x s
  | .leRet le x => Sys2Proof.Machine.execLeRet le x s
  | .leRep le x => Sys2Proof.Machine.execLeRep le x s
  | .leRti le x => Sys2Proof.Machine.execLeRti le x s
  | .fastInterrupt le input => Sys2Proof.Machine.execFastInterrupt le input s
  | .lawBudget le => Sys2Proof.Machine.execLawBudget le s
  | .motionTick me => Sys2Proof.Machine.execMotionTick me s
  | .segmentBatchReceive tile => Sys2Proof.Machine.execSegmentBatchReceive tile s
  | .segmentStart ax => Sys2Proof.Machine.execSegmentStart ax s
  | .microstepUpdate ax => Sys2Proof.Machine.execMicrostepUpdate ax s
  | .stopComplete ax => Sys2Proof.Machine.execStopComplete ax s
  | .limitLatch ax lim => Sys2Proof.Machine.execLimitLatch ax lim s
  | .limitLatchClear ax lim => Sys2Proof.Machine.execLimitLatchClear ax lim s
  | .limitChatterClear ax lim => Sys2Proof.Machine.execLimitChatterClear ax lim s
  | .homeTimeout ax => Sys2Proof.Machine.execHomeTimeout ax s
  | .axisDisableDeadline ax => Sys2Proof.Machine.execAxisDisableDeadline ax s
  | .chopBlankEnd ax b cur => Sys2Proof.Machine.execChopBlankEnd ax b cur s
  | .chopCurrentReached ax b cur => Sys2Proof.Machine.execChopCurrentReached ax b cur s
  | .chopOnMaxTimeout ax b cur => Sys2Proof.Machine.execChopOnMaxTimeout ax b cur s
  | .chopFastDecayEnd ax b => Sys2Proof.Machine.execChopFastDecayEnd ax b s
  | .chopOffEnd ax b => Sys2Proof.Machine.execChopOffEnd ax b s
  | .chopDeadTimeEnd ax b => Sys2Proof.Machine.execChopDeadTimeEnd ax b s
  | .hystThreshold ax b cur => Sys2Proof.Machine.execHystThreshold ax b cur s
  | .hystQuarterAdapt ax b mean => Sys2Proof.Machine.execHystQuarterAdapt ax b mean s
  | .chopFallback ax => Sys2Proof.Machine.execChopFallback ax s
  | .chopReturn ax => Sys2Proof.Machine.execChopReturn ax s
  | .coilFault ax => Sys2Proof.Machine.execCoilFault ax s
  | .iLowTimeout ax => Sys2Proof.Machine.execILowTimeout ax s
  | .holdDelayExpiry ax => Sys2Proof.Machine.execHoldDelayExpiry ax s
  | .currentRampEnd ax => Sys2Proof.Machine.execCurrentRampEnd ax s
  | .inputPinChange c level => Sys2Proof.Machine.execInputPinChange c level s
  | .filteredStateChange c => Sys2Proof.Machine.execFilteredStateChange c s
  | .stepdown c => Sys2Proof.Machine.execStepdown c s
  | .wireBreakTimeout c ma => Sys2Proof.Machine.execWireBreakTimeout c ma s
  | .overloadTimeout c ma => Sys2Proof.Machine.execOverloadTimeout c ma s
  | .overTemp c temp => Sys2Proof.Machine.execOverTemp c temp s
  | .overTempRecover c temp => Sys2Proof.Machine.execOverTempRecover c temp s
  | .overloadRetry c => Sys2Proof.Machine.execOverloadRetry c s
  | .pairImbalance c on => Sys2Proof.Machine.execPairImbalance c on s
  | .groupShed unit ma => Sys2Proof.Machine.execGroupShed unit ma s
  | .settleExpiry c => Sys2Proof.Machine.execSettleExpiry c s
  | .openLoadDetect c ma => Sys2Proof.Machine.execOpenLoadDetect c ma s
  | .shortToLplusDetect c => Sys2Proof.Machine.execShortToLplusDetect c s
  | .reverseDetect c => Sys2Proof.Machine.execReverseDetect c s
  | .stuckOnDetect c ma => Sys2Proof.Machine.execStuckOnDetect c ma s
  | .readbackFailDetect c => Sys2Proof.Machine.execReadbackFailDetect c s
  | .chFlagClear c k => Sys2Proof.Machine.execChFlagClear c k s
  | .supplyMeasure g mv => Sys2Proof.Machine.execSupplyMeasure g mv s
  | .supplyLow g => Sys2Proof.Machine.execSupplyLow g s
  | .supplyLost g => Sys2Proof.Machine.execSupplyLost g s
  | .supplyRestored g => Sys2Proof.Machine.execSupplyRestored g s
  | .groupRestore g => Sys2Proof.Machine.execGroupRestore g s
  | .permitEdge g => Sys2Proof.Machine.execPermitEdge g s
  | .permitTimeout g => Sys2Proof.Machine.execPermitTimeout g s
  | .cutClear g => Sys2Proof.Machine.execCutClear g s
  | .cutElementTest g elem => Sys2Proof.Machine.execCutElementTest g elem s
  | .cutTestEnd g passed => Sys2Proof.Machine.execCutTestEnd g passed s
  | .sarConversionEnd a counts x => Sys2Proof.Machine.execSarConversionEnd a counts x s
  | .sigmaDeltaConversionEnd a counts x isOpen off => Sys2Proof.Machine.execSigmaDeltaConversionEnd a counts x isOpen off s
  | .aiFlagTimer a k => Sys2Proof.Machine.execAiFlagTimer a k s
  | .aiShuntReclose a ma => Sys2Proof.Machine.execAiShuntReclose a ma s
  | .aoFlagTimer a on => Sys2Proof.Machine.execAoFlagTimer a on s
  | .encLineChange e a b => Sys2Proof.Machine.execEncLineChange e a b s
  | .encIndex e => Sys2Proof.Machine.execEncIndex e s
  | .encLineFault e on => Sys2Proof.Machine.execEncLineFault e on s
  | .encVelocityTimeout e => Sys2Proof.Machine.execEncVelocityTimeout e s
  | .sarSelftest k good => Sys2Proof.Machine.execSarSelftest k good s
  | .aoSelftest a meas => Sys2Proof.Machine.execAoSelftest a meas s
  | .selftestClear unit => Sys2Proof.Machine.execSelftestClear unit s
  | .handshakeTimeout k => Sys2Proof.Machine.execHandshakeTimeout k s
  | .drainDeadline k => Sys2Proof.Machine.execDrainDeadline k s
  | .journalTransaction => Sys2Proof.Machine.execJournalTransaction s
  | .journalCommit => Sys2Proof.Machine.execJournalCommit s
  | .pocketScan errs => Sys2Proof.Machine.execPocketScan errs s
  | .lockstepMismatch isl => Sys2Proof.Machine.execLockstepMismatch isl s
  | .heartbeatTimeout isl => Sys2Proof.Machine.execHeartbeatTimeout isl s
  | .stewardWatchdog => Sys2Proof.Machine.execStewardWatchdog s
  | .clockFault isl => Sys2Proof.Machine.execClockFault isl s
  | .engineInService isl => Sys2Proof.Machine.execEngineInService isl s
  | .hotRestartTimeout isl => Sys2Proof.Machine.execHotRestartTimeout isl s
  | .warmBootStart => Sys2Proof.Machine.execWarmBootStart s
  | .bootEnd degraded badSlots badBanks recOk => Sys2Proof.Machine.execBootEnd degraded badSlots badBanks recOk s
  | .reconstructionComplete => Sys2Proof.Machine.execReconstructionComplete s
  | .resumeGo => Sys2Proof.Machine.execResumeGo s
  | .gapBufferFull tile => Sys2Proof.Machine.execGapBufferFull tile s
  | .gapBufferReplay tile => Sys2Proof.Machine.execGapBufferReplay tile s
  | .replayComplete tile => Sys2Proof.Machine.execReplayComplete tile s
  | .powerFailFlush done written flushUs => Sys2Proof.Machine.execPowerFailFlush done written flushUs s
  | .pwrfailRecovered => Sys2Proof.Machine.execPwrfailRecovered s
  | .keepEntry => Sys2Proof.Machine.execKeepEntry s
  | .powerReturn ticks latchOk => Sys2Proof.Machine.execPowerReturn ticks latchOk s
  | .resetPin => Sys2Proof.Machine.execResetPin s
  | .vbatThreshold lost => Sys2Proof.Machine.execVbatThreshold lost s
  | .supplyRailFault rail => Sys2Proof.Machine.execSupplyRailFault rail s
  | .tileSupplyLoss tile => Sys2Proof.Machine.execTileSupplyLoss tile s
  | .tilePowerUp tile => Sys2Proof.Machine.execTilePowerUp tile s
  | .captureSample u t vals => Sys2Proof.Machine.execCaptureSample u t vals s
  | .acqTriggerEvent u t v => Sys2Proof.Machine.execAcqTriggerEvent u t v s
  | .acqAutoTimeout u => Sys2Proof.Machine.execAcqAutoTimeout u s
  | .acqRecordEnd u => Sys2Proof.Machine.execAcqRecordEnd u s
  | .acqPoolSwitchEnd u => Sys2Proof.Machine.execAcqPoolSwitchEnd u s
  | .acqHoldoffEnd u => Sys2Proof.Machine.execAcqHoldoffEnd u s
  | .acqGap u on => Sys2Proof.Machine.execAcqGap u on s
  | .acqDisableDeadline u => Sys2Proof.Machine.execAcqDisableDeadline u s
  | .trgPulseDrive line => Sys2Proof.Machine.execTrgPulseDrive line s
  | .trgEdgeReceive line tag rise => Sys2Proof.Machine.execTrgEdgeReceive line tag rise s
  | .trgEcho line => Sys2Proof.Machine.execTrgEcho line s
  | .tileAggregateSend p mn mx sum count qmask nan credits => Sys2Proof.Machine.execTileAggregateSend p mn mx sum count qmask nan credits s
  | .thatchUpdate => Sys2Proof.Machine.execThatchUpdate s
  | .thatchIntervalClose p => Sys2Proof.Machine.execThatchIntervalClose p s
  | .thatchLoadWindow queueFull creditWait => Sys2Proof.Machine.execThatchLoadWindow queueFull creditWait s
  | .thatchTightHoldExpiry p => Sys2Proof.Machine.execThatchTightHoldExpiry p s
  | .eventRecordCreate => Sys2Proof.Machine.execEventRecordCreate s
  | .coalesceWindowEnd => Sys2Proof.Machine.execCoalesceWindowEnd s
  | .recordCommit => Sys2Proof.Machine.execRecordCommit s
  | .journalSectorReclaim => Sys2Proof.Machine.execJournalSectorReclaim s
  | .recorderFault code addr => Sys2Proof.Machine.execRecorderFault code addr s
  | .canTxStart ch => Sys2Proof.Machine.execCanTxStart ch s
  | .canTxAttemptEnd ch result dur => Sys2Proof.Machine.execCanTxAttemptEnd ch result dur s
  | .canFrameReceive ch id data tag dur => Sys2Proof.Machine.execCanFrameReceive ch id data tag dur s
  | .canTxdTimeout ch => Sys2Proof.Machine.execCanTxdTimeout ch s
  | .canBusOffRecovery ch => Sys2Proof.Machine.execCanBusOffRecovery ch s
  | .canSlotDeadline ch slot => Sys2Proof.Machine.execCanSlotDeadline ch slot s
  | .canProtocolException ch => Sys2Proof.Machine.execCanProtocolException ch s
  | .canHoldRepeat ch slot => Sys2Proof.Machine.execCanHoldRepeat ch slot s
  | .ttReferenceSend ch won => Sys2Proof.Machine.execTtReferenceSend ch won s
  | .ttWindow ch slot idle => Sys2Proof.Machine.execTtWindow ch slot idle s
  | .ttSyncLoss ch => Sys2Proof.Machine.execTtSyncLoss ch s
  | .csxInputFrame port mac payload => Sys2Proof.Machine.execCsxInputFrame port mac payload s
  | .qbvGateChange port => Sys2Proof.Machine.execQbvGateChange port s
  | .ethLinkChange port up speed => Sys2Proof.Machine.execEthLinkChange port up speed s
  | .ptpSyncReceive port master stamp origin => Sys2Proof.Machine.execPtpSyncReceive port master stamp origin s
  | .ptpSyncSend port => Sys2Proof.Machine.execPtpSyncSend port s
  | .timeCorrection dom => Sys2Proof.Machine.execTimeCorrection dom s
  | .timeStep dom => Sys2Proof.Machine.execTimeStep dom s
  | .timeLossTimeout dom => Sys2Proof.Machine.execTimeLossTimeout dom s
  | .seamHeartbeatSend => Sys2Proof.Machine.execSeamHeartbeatSend s
  | .seamHeartbeatReceive lane t0 role mode st latched same rtt => Sys2Proof.Machine.execSeamHeartbeatReceive lane t0 role mode st latched same rtt s
  | .seamForwardReceive msg => Sys2Proof.Machine.execSeamForwardReceive msg s
  | .endOfInstantTimeout => Sys2Proof.Machine.execEndOfInstantTimeout s
  | .snapshotApplied snap => Sys2Proof.Machine.execSnapshotApplied snap s
  | .takeover => Sys2Proof.Machine.execTakeover s
  | .parallelAnalogOpen tile => Sys2Proof.Machine.execParallelAnalogOpen tile s
  | .parallelChannelRelease tile => Sys2Proof.Machine.execParallelChannelRelease tile s
  | .twinSwapInstant => Sys2Proof.Machine.execTwinSwapInstant s
  | .twinSwapAnalogClose => Sys2Proof.Machine.execTwinSwapAnalogClose s
  | .twinSwapRelease => Sys2Proof.Machine.execTwinSwapRelease s
  | .proofSwap ma => Sys2Proof.Machine.execProofSwap ma s
  | .proofSwapRelease => Sys2Proof.Machine.execProofSwapRelease s
  | .proofCheck inc out => Sys2Proof.Machine.execProofCheck inc out s
  | .twinPinMismatch c mv => Sys2Proof.Machine.execTwinPinMismatch c mv s
  | .pairWaitExpiry => Sys2Proof.Machine.execPairWaitExpiry s
  | .permitFrame tile echo => Sys2Proof.Machine.execPermitFrame tile echo s
  | .permitReport tile slots => Sys2Proof.Machine.execPermitReport tile slots s
  | .permitEchoMissing tile => Sys2Proof.Machine.execPermitEchoMissing tile s
  | .cutTestSchedule g el => Sys2Proof.Machine.execCutTestSchedule g el s
  | .cutTestDue g => Sys2Proof.Machine.execCutTestDue g s
  | .estopDemand aLow bLow => Sys2Proof.Machine.execEstopDemand aLow bLow s
  | .estopDiscrepancy aHigh => Sys2Proof.Machine.execEstopDiscrepancy aHigh s
  | .estopRelease => Sys2Proof.Machine.execEstopRelease s
  | .errinDemand => Sys2Proof.Machine.execErrinDemand s
  | .errinRelease => Sys2Proof.Machine.execErrinRelease s
  | .ridgeWatchdog wd => Sys2Proof.Machine.execRidgeWatchdog wd s
  | .ridgeConfigCheck crc => Sys2Proof.Machine.execRidgeConfigCheck crc s
  | .ridgeFaultReport => Sys2Proof.Machine.execRidgeFaultReport s
  | .safeCommandReceive isl => Sys2Proof.Machine.execSafeCommandReceive isl s
  | .ridgeStartupTestEnd part passed tested => Sys2Proof.Machine.execRidgeStartupTestEnd part passed tested s
  | .cvJobStart u => Sys2Proof.Machine.execCvJobStart u s
  | .cvJobEnd u data fault off => Sys2Proof.Machine.execCvJobEnd u data fault off s
  | .imageRescan bad => Sys2Proof.Machine.execImageRescan bad s
  | .dieTempMeasure die mc => Sys2Proof.Machine.execDieTempMeasure die mc s
  | .spiTransfer mosi => Sys2Proof.Machine.execSpiTransfer mosi s
  | .udpDatagram src frag fr => Sys2Proof.Machine.execUdpDatagram src frag fr s
  | .cmdTailWrite m w => Sys2Proof.Machine.execCmdTailWrite m w s
  | .rspHeadWrite m w => Sys2Proof.Machine.execRspHeadWrite m w s
  | .mbCtrlReset m => Sys2Proof.Machine.execMbCtrlReset m s
  | .mbCtrlRelease m => Sys2Proof.Machine.execMbCtrlRelease m s
  | .glbIntSetWrite w => Sys2Proof.Machine.execGlbIntSetWrite w s
  | .glbT0LoRead => Sys2Proof.Machine.execGlbT0LoRead s
  | .glbHostHbWrite w => Sys2Proof.Machine.execGlbHostHbWrite w s
  | .mbErrRead m => Sys2Proof.Machine.execMbErrRead m s
  | .glbLinkErrRead => Sys2Proof.Machine.execGlbLinkErrRead s
  | .registerWrite bar off w => Sys2Proof.Machine.execRegisterWrite bar off w s
  | .frameTakeIn => Sys2Proof.Machine.execFrameTakeIn s
  | .responseWrite m => Sys2Proof.Machine.execResponseWrite m s
  | .mbIntHoldoff m => Sys2Proof.Machine.execMbIntHoldoff m s
  | .commandDeadline m => Sys2Proof.Machine.execCommandDeadline m s
  | .stewardHeartbeat => Sys2Proof.Machine.execStewardHeartbeat s
  | .hostHbTimeout => Sys2Proof.Machine.execHostHbTimeout s
  | .udpIdleExpiry m => Sys2Proof.Machine.execUdpIdleExpiry m s
  | .deviceInfo r => Sys2Proof.Machine.execDeviceInfo r s
  | .modeSet r => Sys2Proof.Machine.execModeSet r s
  | .deviceRestart r => Sys2Proof.Machine.execDeviceRestart r s
  | .deviceRestartTrigger => Sys2Proof.Machine.execDeviceRestartTrigger s
  | .bulkWrite r => Sys2Proof.Machine.execBulkWrite r s
  | .bulkRead r => Sys2Proof.Machine.execBulkRead r s
  | .paramGet r => Sys2Proof.Machine.execParamGet r s
  | .paramSet r => Sys2Proof.Machine.execParamSet r s
  | .paramUnset r => Sys2Proof.Machine.execParamUnset r s
  | .paramDescribe r => Sys2Proof.Machine.execParamDescribe r s
  | .pointRead r => Sys2Proof.Machine.execPointRead r s
  | .pointWrite r => Sys2Proof.Machine.execPointWrite r s
  | .pointForce r => Sys2Proof.Machine.execPointForce r s
  | .pointUnforce r => Sys2Proof.Machine.execPointUnforce r s
  | .pointSimulate r => Sys2Proof.Machine.execPointSimulate r s
  | .pointUnsimulate r => Sys2Proof.Machine.execPointUnsimulate r s
  | .taskTrigger r => Sys2Proof.Machine.execTaskTrigger r s
  | .imageStage r => Sys2Proof.Machine.execImageStage r s
  | .imageLoad r => Sys2Proof.Machine.execImageLoad r s
  | .deckLoad r => Sys2Proof.Machine.execDeckLoad r s
  | .deckCommit r => Sys2Proof.Machine.execDeckCommit r s
  | .deckSave r => Sys2Proof.Machine.execDeckSave r s
  | .imageInfo r => Sys2Proof.Machine.execImageInfo r s
  | .fwUpdate r => Sys2Proof.Machine.execFwUpdate r s
  | .fwUpdateDone sigOk readOk => Sys2Proof.Machine.execFwUpdateDone sigOk readOk s
  | .fwSwap r => Sys2Proof.Machine.execFwSwap r s
  | .firmwareSwapRestart => Sys2Proof.Machine.execFirmwareSwapRestart s
  | .progExchange r => Sys2Proof.Machine.execProgExchange r s
  | .progRevert r => Sys2Proof.Machine.execProgRevert r s
  | .exchReportGet r => Sys2Proof.Machine.execExchReportGet r s
  | .loopFlagsClear r => Sys2Proof.Machine.execLoopFlagsClear r s
  | .loopTune r => Sys2Proof.Machine.execLoopTune r s
  | .loopTuneResult r => Sys2Proof.Machine.execLoopTuneResult r s
  | .loopTuneAccept r => Sys2Proof.Machine.execLoopTuneAccept r s
  | .axisJog r => Sys2Proof.Machine.execAxisJog r s
  | .axisMove r => Sys2Proof.Machine.execAxisMove r s
  | .axisHome r => Sys2Proof.Machine.execAxisHome r s
  | .axisStop r => Sys2Proof.Machine.execAxisStop r s
  | .chAck r => Sys2Proof.Machine.execChAck r s
  | .encArm r => Sys2Proof.Machine.execEncArm r s
  | .encClear r => Sys2Proof.Machine.execEncClear r s
  | .streamLoad r => Sys2Proof.Machine.execStreamLoad r s
  | .streamStart r => Sys2Proof.Machine.execStreamStart r s
  | .streamPause r => Sys2Proof.Machine.execStreamPause r s
  | .streamContinue r => Sys2Proof.Machine.execStreamContinue r s
  | .streamAbort r => Sys2Proof.Machine.execStreamAbort r s
  | .opResolve r => Sys2Proof.Machine.execOpResolve r s
  | .acqArm r => Sys2Proof.Machine.execAcqArm r s
  | .acqTrigger r => Sys2Proof.Machine.execAcqTrigger r s
  | .acqStop r => Sys2Proof.Machine.execAcqStop r s
  | .acqRead r => Sys2Proof.Machine.execAcqRead r s
  | .acqRelease r => Sys2Proof.Machine.execAcqRelease r s
  | .trgCalibrate r => Sys2Proof.Machine.execTrgCalibrate r s
  | .thatchQuery r => Sys2Proof.Machine.execThatchQuery r s
  | .evtRead r => Sys2Proof.Machine.execEvtRead r s
  | .evtStatusGet r => Sys2Proof.Machine.execEvtStatusGet r s
  | .evtClassesGet r => Sys2Proof.Machine.execEvtClassesGet r s
  | .evtAnchorsGet r => Sys2Proof.Machine.execEvtAnchorsGet r s
  | .evtSecretSet r => Sys2Proof.Machine.execEvtSecretSet r s
  | .evtClearChallenge r => Sys2Proof.Machine.execEvtClearChallenge r s
  | .evtClear r => Sys2Proof.Machine.execEvtClear r s
  | .canSend r => Sys2Proof.Machine.execCanSend r s
  | .canAbort r => Sys2Proof.Machine.execCanAbort r s
  | .canRecover r => Sys2Proof.Machine.execCanRecover r s
  | .timeRestep r => Sys2Proof.Machine.execTimeRestep r s
  | .twinPair r => Sys2Proof.Machine.execTwinPair r s
  | .twinSwap r => Sys2Proof.Machine.execTwinSwap r s
  | .twinStatusGet r => Sys2Proof.Machine.execTwinStatusGet r s
  | .safeReset r => Sys2Proof.Machine.execSafeReset r s
  | .safeGroupReset r => Sys2Proof.Machine.execSafeGroupReset r s
  | .safeProofTest r => Sys2Proof.Machine.execSafeProofTest r s
  | .cvScan r => Sys2Proof.Machine.execCvScan r s
  | .cvResultGet r => Sys2Proof.Machine.execCvResultGet r s
  | .cvAbort r => Sys2Proof.Machine.execCvAbort r s
  | .stewardReadyTimeout => Sys2Proof.Machine.execStewardReadyTimeout s
  | .ridgeHeartbeatLoss => Sys2Proof.Machine.execRidgeHeartbeatLoss s
  | .twinLaneFault lane heavy => Sys2Proof.Machine.execTwinLaneFault lane heavy s
  | .ptpAnnounceReceive port master rank steps => Sys2Proof.Machine.execPtpAnnounceReceive port master rank steps s
  | .ptpDelayResponse port t1 t2 t3 t4 => Sys2Proof.Machine.execPtpDelayResponse port t1 t2 t3 t4 s
  | .canRxError ch dom => Sys2Proof.Machine.execCanRxError ch dom s
  | .lineFaultClear e => Sys2Proof.Machine.execLineFaultClear e s
  | .pexTimeout ch => Sys2Proof.Machine.execPexTimeout ch s
  | .noEcho line => Sys2Proof.Machine.execNoEcho line s
  | .blIllegalOpcode ce word => Sys2Proof.Machine.execBlIllegalOpcode ce word s
  | .leIllegalOpcode le word => Sys2Proof.Machine.execLeIllegalOpcode le word s

end Sys2Proof.Machine
end

