-- ==== Sys2Proof/Machine/Tick.lean ====
section
/-! DEFINITION. What one period of REFCLK does while no command waits (R23; DESIGN CHOICE, log 42). -/

namespace Sys2Proof.Machine

/-- The period of T0's count in ns (R23). -/
def t0Period : Nat := 10

/-- What happens of itself at a whole millisecond of T0: the time of each domain (R471) and the Steward's heartbeat (R539). -/
def atMilli (s : State) : State :=
  if s.t0 % ms = 0 then
    let s := if (pget s (ptid 0x1C 0)).value = (if s.clock.refclk then 2 else 3) then s else t0Facet s
    stewardBeat (timeFacets s)
  else s

/-- Egress of each port that is on (R456, R457). -/
def drainPorts (s : State) : State := [0, 1, 2].foldl ethDrain s

/-- One period of T0 passes; in M0 KEEP the device has no T0 (R361). -/
def tick (s : State) : State :=
  if s.mode.cur = .keep then s else drainPorts (atMilli { s with t0 := s.t0 + t0Period })

end Sys2Proof.Machine
end

