-- ==== Sys2Proof/Safety.lean ====
section
/-! DEFINITION. What counts as a safe run, and the terms in which the claims are stated. -/

namespace Sys2Proof.Safety

open Sys2Proof.Machine

/-- A state from which `n` steps end in no fault and no refusal. -/
def SafeFor (n : Nat) (s : State) : Prop := ∃ t, Host.Core.run Sys2Proof.core n s = .next t

/-- Byte memory `m'` reads as `m` outside the `n` bytes at `a`. -/
def SameBut (m m' : Mem) (a n : Nat) : Prop := ∀ b, (b < a ∨ a + n ≤ b) → mread m' b = mread m b

/-! ### Cycle engines -/

/-- Cycle engine `ce` runs release `r` in the bit-logic role with its pc inside the program. -/
abbrev BlAt (s : State) (ce : Fin 16) (r : Release) : Prop :=
  (engine s ce.val).running = some r ∧ (engine s ce.val).role = 0 ∧
  (engine s ce.val).bl.pc < (prog s (task s r.task).prog).words

/-- The registers of the engine with the pc past the instruction. -/
def blGo (s : State) (ce : Fin 16) : BlRegs := { (engine s ce.val).bl with pc := (engine s ce.val).bl.pc + 1 }

/-- The state whose only change is that the engine's registers are `g`. -/
def blSet (s : State) (ce : Fin 16) (g : BlRegs) : State := setEngine s ce.val (fun e => { e with bl := g })

/-- The state whose only change is that the engine's registers are `g` and its data memory is `m`. -/
def blMem (s : State) (ce : Fin 16) (g : BlRegs) (m : Mem) : State := setEngine s ce.val (fun e => { e with bl := g, mem := m })

/-! ### Loop engines -/

/-- A loop engine runs law code inside its image, outside a delay slot and outside a handler. -/
abbrev LeAt (s : State) (le : Fin 8) : Prop :=
  let e := loopEngine s le.val
  e.inLaw = true ∧ e.shd = false ∧ e.ctx.lo ≤ e.pc ∧ e.pc < e.ctx.lo + e.ctx.words ∧ e.slot = none

/-- The registers once the loads of the instruction before have landed (R206). -/
def leLanded (e : LoopEng) : LeBank :=
  e.main.loads.foldl (fun b x => b.wr x.1 x.2) { e.main with loads := [], movp := none }

/-- The registers after an instruction that leaves `b`: late readers see what stood before it, and a MOVP write of the instruction before arrives (R206). -/
def leAged (e : LoopEng) (b : LeBank) : LeBank :=
  ({ b with aOld := e.main.a, ltOld := e.main.lt, eqOld := e.main.eq, wbOld := e.main.wb } : LeBank).putMovp e.main.movp

/-- The state after an instruction that changes the engine by `f` and leaves the registers `b`: the pc goes on, to the top of a REP body at its end. -/
def leTo (s : State) (le : Fin 8) (b : LeBank) (f : LoopEng → LoopEng := id) : State :=
  setLe s le.val (fun e => leNext (f { e with main := leAged e b, pc := e.pc + 1, cycles := e.cycles + 1 }) e.pc none)

/-- A 32-bit result in register entry `rd` under S (R210). -/
def leRes (b : LeBank) (rd : Nat) (sat : Bool) (z : Int) : LeBank :=
  if -2147483648 ≤ z ∧ z ≤ 2147483647 then b.wr rd (BitVec.ofInt 32 z)
  else if sat then { b.wr rd (if 0 < z then 0x7FFFFFFF else 0x80000000) with sv := true } else b.wr rd (BitVec.ofInt 32 z)

/-- A 40-bit result in accumulator `k` under S (R210). -/
def leAcc (b : LeBank) (k : Nat) (sat : Bool) (z : Int) : LeBank :=
  if -549755813888 ≤ z ∧ z ≤ 549755813887 then { b with a := b.a.set k z }
  else if sat then { b with a := b.a.set k (if 0 < z then 549755813887 else -549755813888), sv := true, as := true }
  else { b with a := b.a.set k (BitVec.ofInt 40 z).toInt, av := true }

/-! ### Mailbox commands -/

/-- A command begins and passes the checks every command shares: it may begin, is not past its deadline, has its payload bytes and well-formed fields, and its mode allows it (R533, R534, R542, R543). -/
abbrev Runs (s : State) (r : Req) (op : Nat) (isC : Bool) (modes : List Mode) (len : Nat) (ok : Bool) : Prop :=
  mayBegin s r op = true ∧ tooLate s (tagOf s r op) = false ∧ len ≤ r.payload.length ∧ ok = true ∧
  (isC = true → (s.mode.cur ≠ .standby ∨ op = 0x0003) ∧ s.mode.cur ≠ .resume) ∧ s.mode.cur ∈ modes

/-- The state in which the command has begun and nothing else has changed. -/
abbrev begun (s : State) (r : Req) (op : Nat) : State := beginCmd s r op

/-! ### Networks -/

/-- A CAN channel that is enabled, started and not bus-off. -/
abbrev CanLive (s : State) (c : Nat) : Prop := flag s pCanEnable c = true ∧ (canCh s c).on = true ∧ (canCh s c).busOff = false

/-- An Ethernet port that is enabled and started. -/
abbrev EthLive (s : State) (p : Nat) : Prop := flag s pEthEnable p = true ∧ (ethPort s p).on = true

/-! ### The whole machine -/

/-- The commands that can end in another mode: entries, the ends of boots, restarts and exchanges, power events, takeovers and role changes, and what can latch a Ridge reaction or start a restart. -/
def mayChangeMode (c : Instr) : Bool :=
  match c with
  | .modeEntry | .exchangeReturn | .lockstepMismatch .. | .heartbeatTimeout .. | .stewardWatchdog | .clockFault .. | .hotRestartTimeout .. | .warmBootStart
  | .bootEnd .. | .resumeGo | .pwrfailRecovered | .keepEntry | .powerReturn .. | .resetPin | .seamHeartbeatReceive .. | .snapshotApplied .. | .takeover
  | .twinSwapInstant | .twinSwapRelease | .pairWaitExpiry | .permitReport .. | .permitEchoMissing .. | .cutTestDue .. | .estopDemand .. | .estopDiscrepancy ..
  | .errinDemand | .ridgeWatchdog .. | .ridgeConfigCheck .. | .ridgeFaultReport | .deviceRestartTrigger | .firmwareSwapRestart | .stewardReadyTimeout | .ridgeHeartbeatLoss
  => true
  | _ => false

/-- The request of a mailbox command with its opcode, and whether it is a change (R543). -/
def cmdOf (c : Instr) : Option (Req × Nat × Bool) :=
  match c with
  | .deviceInfo r => some (r, 0x0001, false)
  | .modeSet r => some (r, 0x0002, true)
  | .deviceRestart r => some (r, 0x0003, true)
  | .bulkWrite r => some (r, 0x0004, true)
  | .bulkRead r => some (r, 0x0005, false)
  | .paramGet r => some (r, 0x0101, false)
  | .paramSet r => some (r, 0x0102, true)
  | .paramUnset r => some (r, 0x0103, true)
  | .paramDescribe r => some (r, 0x0104, false)
  | .pointRead r => some (r, 0x0105, false)
  | .pointWrite r => some (r, 0x0106, true)
  | .pointForce r => some (r, 0x0107, true)
  | .pointUnforce r => some (r, 0x0108, true)
  | .pointSimulate r => some (r, 0x0109, true)
  | .pointUnsimulate r => some (r, 0x010A, true)
  | .taskTrigger r => some (r, 0x010B, true)
  | .imageStage r => some (r, 0x0201, true)
  | .imageLoad r => some (r, 0x0202, true)
  | .deckLoad r => some (r, 0x0203, true)
  | .deckCommit r => some (r, 0x0204, true)
  | .deckSave r => some (r, 0x0205, true)
  | .imageInfo r => some (r, 0x0206, false)
  | .fwUpdate r => some (r, 0x0210, true)
  | .fwSwap r => some (r, 0x0211, true)
  | .progExchange r => some (r, 0x0301, true)
  | .progRevert r => some (r, 0x0302, true)
  | .exchReportGet r => some (r, 0x0303, false)
  | .loopFlagsClear r => some (r, 0x0310, true)
  | .loopTune r => some (r, 0x0311, true)
  | .loopTuneResult r => some (r, 0x0312, false)
  | .loopTuneAccept r => some (r, 0x0313, true)
  | .axisJog r => some (r, 0x0401, true)
  | .axisMove r => some (r, 0x0402, true)
  | .axisHome r => some (r, 0x0403, true)
  | .axisStop r => some (r, 0x0404, true)
  | .chAck r => some (r, 0x0410, true)
  | .encArm r => some (r, 0x0411, true)
  | .encClear r => some (r, 0x0412, true)
  | .streamLoad r => some (r, 0x0501, true)
  | .streamStart r => some (r, 0x0502, true)
  | .streamPause r => some (r, 0x0503, true)
  | .streamContinue r => some (r, 0x0504, true)
  | .streamAbort r => some (r, 0x0505, true)
  | .opResolve r => some (r, 0x0510, true)
  | .acqArm r => some (r, 0x0601, true)
  | .acqTrigger r => some (r, 0x0602, true)
  | .acqStop r => some (r, 0x0603, true)
  | .acqRead r => some (r, 0x0604, false)
  | .acqRelease r => some (r, 0x0605, true)
  | .trgCalibrate r => some (r, 0x0606, true)
  | .thatchQuery r => some (r, 0x0610, false)
  | .evtRead r => some (r, 0x0620, false)
  | .evtStatusGet r => some (r, 0x0621, false)
  | .evtClassesGet r => some (r, 0x0622, false)
  | .evtAnchorsGet r => some (r, 0x0623, false)
  | .evtSecretSet r => some (r, 0x0624, true)
  | .evtClearChallenge r => some (r, 0x0625, true)
  | .evtClear r => some (r, 0x0626, true)
  | .canSend r => some (r, 0x0701, true)
  | .canAbort r => some (r, 0x0702, true)
  | .canRecover r => some (r, 0x0703, true)
  | .timeRestep r => some (r, 0x0710, true)
  | .twinPair r => some (r, 0x0720, true)
  | .twinSwap r => some (r, 0x0721, true)
  | .twinStatusGet r => some (r, 0x0722, false)
  | .safeReset r => some (r, 0x0801, true)
  | .safeGroupReset r => some (r, 0x0802, true)
  | .safeProofTest r => some (r, 0x0803, true)
  | .cvScan r => some (r, 0x0810, false)
  | .cvResultGet r => some (r, 0x0811, false)
  | .cvAbort r => some (r, 0x0812, true)
  | _ => none

end Sys2Proof.Safety
end

