-- ==== Sys2Proof/WellFormed.lean ====
section
/-! DEFINITION. Which commands are well formed: the bounds on a command's operands that their types do not give. -/

namespace Sys2Proof

/-- A frame carries at most 4,064 payload bytes (R530). -/
def reqWf (r : Req) : Bool := decide (r.payload.length ≤ 4064)

/-- A forwarded command's payload is a frame's (R530). -/
def seamWf : SeamMsg → Bool
  | .command _ _ _ payload => decide (payload.length ≤ 4064)
  | _ => true

/-- Whether a command is well formed: packet sizes (R16), a busy fraction for each cycle engine (R109), points of a station (R43), 18 permit slots (R492), CAN FD and CSX frame sizes (R432, R452), datagram size (R522), 8 acquisition sources (R371), no interval without an update (R394). -/
def Instr.wf : Instr → Bool
  | .packetReceive _ _ raw => decide (12 ≤ raw.length ∧ raw.length ≤ 268)
  | .negativeAcknowledge _ _ _ => true
  | .creditReturn _ _ _ _ => true
  | .heartbeatSend => true
  | .silentHold _ => true
  | .t0AlignExchange _ _ => true
  | .t0CrossCheck _ _ => true
  | .refclkLost => true
  | .refclkReturn => true
  | .strobeEventReceive _ => true
  | .sampleStrobe _ => true
  | .applyStrobe _ => true
  | .outputSetReceive _ => true
  | .dramScrub _ _ => true
  | .commonsScrub _ _ => true
  | .imageUpdateVisible => true
  | .windowCopyComplete _ => true
  | .windowWaitExpiry _ => true
  | .stationInputBlock _ _ _ vals _ => decide (vals.length ≤ 8192)
  | .stationSilent _ _ => true
  | .stationLost _ _ => true
  | .forceInstant => true
  | .derivedRelease _ => true
  | .modeEntry => true
  | .deckValidationEnd _ _ _ _ => true
  | .deckCommitDone _ => true
  | .deckSaveDone _ => true
  | .imageValidationEnd _ => true
  | .sampleStrobeSend _ _ => true
  | .taskRelease _ => true
  | .eventTaskTrigger => true
  | .heldTriggerRelease _ => true
  | .engineAskWork _ => true
  | .taskDeadline _ => true
  | .applyStrobeSend _ => true
  | .releaseEnd _ => true
  | .placementWindow busy => decide (busy.length = 16)
  | .programMove => true
  | .programMoveAbandon => true
  | .blNop _ _ => true
  | .blLd _ _ => true
  | .blLdn _ _ => true
  | .blAnd _ _ => true
  | .blAndn _ _ => true
  | .blOr _ _ => true
  | .blOrn _ _ => true
  | .blXor _ _ => true
  | .blXorn _ _ => true
  | .blLdg _ _ => true
  | .blAndg _ _ => true
  | .blOrng _ _ => true
  | .blSt _ _ => true
  | .blStn _ _ => true
  | .blSet _ _ => true
  | .blRst _ _ => true
  | .blNot _ _ => true
  | .blLdt _ _ => true
  | .blLdf _ _ => true
  | .blLdfs _ _ => true
  | .blLdqd _ _ => true
  | .blAndOpen _ _ => true
  | .blOrOpen _ _ => true
  | .blXorOpen _ _ => true
  | .blPsh _ _ => true
  | .blClose _ _ => true
  | .blPop _ _ => true
  | .blLdw _ _ => true
  | .blStw _ _ => true
  | .blLdi _ _ => true
  | .blLdhi _ _ => true
  | .blSwap _ _ => true
  | .blMovab _ _ => true
  | .blLdq _ _ => true
  | .blStwq _ _ => true
  | .blLdwx _ _ => true
  | .blStwx _ _ => true
  | .blLdtr _ _ => true
  | .blLds _ _ => true
  | .blCls _ _ => true
  | .blAdd _ _ => true
  | .blSub _ _ => true
  | .blMul _ _ => true
  | .blDiv _ _ => true
  | .blNeg _ _ => true
  | .blAddi _ _ => true
  | .blAndw _ _ => true
  | .blOrw _ _ => true
  | .blXorw _ _ => true
  | .blNotw _ _ => true
  | .blShl _ _ => true
  | .blShr _ _ => true
  | .blAsr _ _ => true
  | .blAddf _ _ => true
  | .blSubf _ _ => true
  | .blMulf _ _ => true
  | .blDivf _ _ => true
  | .blItof _ _ => true
  | .blFtoi _ _ => true
  | .blAbsf _ _ => true
  | .blNegf _ _ => true
  | .blEq _ _ => true
  | .blNe _ _ => true
  | .blLt _ _ => true
  | .blLe _ _ => true
  | .blGt _ _ => true
  | .blGe _ _ => true
  | .blLtu _ _ => true
  | .blGeu _ _ => true
  | .blLtf _ _ => true
  | .blLef _ _ => true
  | .blGtf _ _ => true
  | .blGef _ _ => true
  | .blEqf _ _ => true
  | .blJmp _ _ => true
  | .blJc _ _ => true
  | .blJcn _ _ => true
  | .blCall _ _ => true
  | .blCallc _ _ => true
  | .blRet _ _ => true
  | .blRetc _ _ => true
  | .blEnd _ _ => true
  | .blEndc _ _ => true
  | .blTon _ _ => true
  | .blTof _ _ => true
  | .blTp _ _ => true
  | .blCtu _ _ => true
  | .blCtd _ _ => true
  | .blCtud _ _ => true
  | .blRTrig _ _ => true
  | .blFTrig _ _ => true
  | .blLdiv _ _ => true
  | .blStiv _ _ => true
  | .retainCommit _ => true
  | .nativeApertureStore _ _ _ _ _ => true
  | .nativeException _ _ _ _ => true
  | .nativeTimeout _ => true
  | .dlaskEnd _ => true
  | .dlaskDiscard _ => true
  | .dlpvalRead _ _ _ => true
  | .dlpvalWrite _ _ _ _ => true
  | .dlnowRead _ _ => true
  | .dlstrbcSampleStrobe _ _ _ => true
  | .dlstrbcApplyStrobe _ _ _ => true
  | .exchangeSwap => true
  | .exchNoQuiet => true
  | .exchangeReturn => true
  | .loopRelease _ => true
  | .loopBegin _ => true
  | .loopInputWaitExpiry _ => true
  | .loopDeadline _ => true
  | .loopEnd _ => true
  | .heldTimeExpiry _ _ => true
  | .tuneCheckTimeout _ => true
  | .tuneSettleDone _ => true
  | .tuneMeasureDone _ => true
  | .tuneTimeout _ => true
  | .bridgeLawStart _ => true
  | .bridgePeriod _ => true
  | .bridgeExpiry _ => true
  | .leMpy _ _ => true
  | .leMac _ _ => true
  | .leMsu _ _ => true
  | .leMacl _ _ => true
  | .leMsul _ _ => true
  | .leMpyl _ _ => true
  | .leMove _ _ => true
  | .leDmove _ _ => true
  | .leNop _ _ => true
  | .leLd _ _ => true
  | .leSt _ _ => true
  | .leLdd _ _ => true
  | .leStd _ _ => true
  | .leLdi _ _ => true
  | .leLdih _ _ => true
  | .leMov _ _ => true
  | .leAdd _ _ => true
  | .leSub _ _ => true
  | .leAddi _ _ => true
  | .leAnd _ _ => true
  | .leOr _ _ => true
  | .leXor _ _ => true
  | .leShl _ _ => true
  | .leAsr _ _ => true
  | .leLsr _ _ => true
  | .leNeg _ _ => true
  | .leAbs _ _ => true
  | .leMin _ _ => true
  | .leMax _ _ => true
  | .leMuli _ _ => true
  | .leCmp _ _ => true
  | .leCmpi _ _ => true
  | .leClr _ _ => true
  | .leLda _ _ => true
  | .leSta _ _ => true
  | .leAdda _ _ => true
  | .leSuba _ _ => true
  | .leAsha _ _ => true
  | .leAshr _ _ => true
  | .leAddaa _ _ => true
  | .leMovaa _ _ => true
  | .leCmpa _ _ => true
  | .leStg _ _ => true
  | .leLdg _ _ => true
  | .leSata _ _ => true
  | .leRnda _ _ => true
  | .leMovp _ _ => true
  | .leStepp _ _ => true
  | .leWrot _ _ => true
  | .leBr _ _ => true
  | .leCall _ _ => true
  | .leRet _ _ => true
  | .leRep _ _ => true
  | .leRti _ _ => true
  | .fastInterrupt _ _ => true
  | .lawBudget _ => true
  | .motionTick _ => true
  | .segmentBatchReceive _ => true
  | .segmentStart _ => true
  | .microstepUpdate _ => true
  | .stopComplete _ => true
  | .limitLatch _ _ => true
  | .limitLatchClear _ _ => true
  | .limitChatterClear _ _ => true
  | .homeTimeout _ => true
  | .axisDisableDeadline _ => true
  | .chopBlankEnd _ _ _ => true
  | .chopCurrentReached _ _ _ => true
  | .chopOnMaxTimeout _ _ _ => true
  | .chopFastDecayEnd _ _ => true
  | .chopOffEnd _ _ => true
  | .chopDeadTimeEnd _ _ => true
  | .hystThreshold _ _ _ => true
  | .hystQuarterAdapt _ _ _ => true
  | .chopFallback _ => true
  | .chopReturn _ => true
  | .coilFault _ => true
  | .iLowTimeout _ => true
  | .holdDelayExpiry _ => true
  | .currentRampEnd _ => true
  | .inputPinChange _ _ => true
  | .filteredStateChange _ => true
  | .stepdown _ => true
  | .wireBreakTimeout _ _ => true
  | .overloadTimeout _ _ => true
  | .overTemp _ _ => true
  | .overTempRecover _ _ => true
  | .overloadRetry _ => true
  | .pairImbalance _ _ => true
  | .groupShed _ _ => true
  | .settleExpiry _ => true
  | .openLoadDetect _ _ => true
  | .shortToLplusDetect _ => true
  | .reverseDetect _ => true
  | .stuckOnDetect _ _ => true
  | .readbackFailDetect _ => true
  | .chFlagClear _ _ => true
  | .supplyMeasure _ _ => true
  | .supplyLow _ => true
  | .supplyLost _ => true
  | .supplyRestored _ => true
  | .groupRestore _ => true
  | .permitEdge _ => true
  | .permitTimeout _ => true
  | .cutClear _ => true
  | .cutElementTest _ _ => true
  | .cutTestEnd _ _ => true
  | .sarConversionEnd _ _ _ => true
  | .sigmaDeltaConversionEnd _ _ _ _ _ => true
  | .aiFlagTimer _ _ => true
  | .aiShuntReclose _ _ => true
  | .aoFlagTimer _ _ => true
  | .encLineChange _ _ _ => true
  | .encIndex _ => true
  | .encLineFault _ _ => true
  | .encVelocityTimeout _ => true
  | .sarSelftest _ _ => true
  | .aoSelftest _ _ => true
  | .selftestClear _ => true
  | .handshakeTimeout _ => true
  | .drainDeadline _ => true
  | .journalTransaction => true
  | .journalCommit => true
  | .pocketScan errs => decide (errs.Nodup)
  | .lockstepMismatch _ => true
  | .heartbeatTimeout _ => true
  | .stewardWatchdog => true
  | .clockFault _ => true
  | .engineInService _ => true
  | .hotRestartTimeout _ => true
  | .warmBootStart => true
  | .bootEnd _ _ _ _ => true
  | .reconstructionComplete => true
  | .resumeGo => true
  | .gapBufferFull _ => true
  | .gapBufferReplay _ => true
  | .replayComplete _ => true
  | .powerFailFlush _ _ _ => true
  | .pwrfailRecovered => true
  | .keepEntry => true
  | .powerReturn _ _ => true
  | .resetPin => true
  | .vbatThreshold _ => true
  | .supplyRailFault _ => true
  | .tileSupplyLoss _ => true
  | .tilePowerUp _ => true
  | .captureSample _ _ vals => decide (vals.length ≤ 8)
  | .acqTriggerEvent _ _ _ => true
  | .acqAutoTimeout _ => true
  | .acqRecordEnd _ => true
  | .acqPoolSwitchEnd _ => true
  | .acqHoldoffEnd _ => true
  | .acqGap _ _ => true
  | .acqDisableDeadline _ => true
  | .trgPulseDrive _ => true
  | .trgEdgeReceive _ _ _ => true
  | .trgEcho _ => true
  | .tileAggregateSend _ _ _ _ count _ _ _ => decide (1 ≤ count.toNat)
  | .thatchUpdate => true
  | .thatchIntervalClose _ => true
  | .thatchLoadWindow _ _ => true
  | .thatchTightHoldExpiry _ => true
  | .eventRecordCreate => true
  | .coalesceWindowEnd => true
  | .recordCommit => true
  | .journalSectorReclaim => true
  | .recorderFault _ _ => true
  | .canTxStart _ => true
  | .canTxAttemptEnd _ _ _ => true
  | .canFrameReceive _ _ data _ _ => decide (data.length ≤ 64)
  | .canTxdTimeout _ => true
  | .canBusOffRecovery _ => true
  | .canSlotDeadline _ _ => true
  | .canProtocolException _ => true
  | .canHoldRepeat _ _ => true
  | .ttReferenceSend _ _ => true
  | .ttWindow _ _ _ => true
  | .ttSyncLoss _ => true
  | .csxInputFrame _ _ payload => decide (payload.length ≤ 1500)
  | .qbvGateChange _ => true
  | .ethLinkChange _ _ _ => true
  | .ptpSyncReceive _ _ _ _ => true
  | .ptpSyncSend _ => true
  | .timeCorrection _ => true
  | .timeStep _ => true
  | .timeLossTimeout _ => true
  | .seamHeartbeatSend => true
  | .seamHeartbeatReceive _ _ _ _ _ _ _ _ => true
  | .seamForwardReceive msg => seamWf msg
  | .endOfInstantTimeout => true
  | .snapshotApplied _ => true
  | .takeover => true
  | .parallelAnalogOpen _ => true
  | .parallelChannelRelease _ => true
  | .twinSwapInstant => true
  | .twinSwapAnalogClose => true
  | .twinSwapRelease => true
  | .proofSwap ma => decide ((ma.map (·.1)).Nodup)
  | .proofSwapRelease => true
  | .proofCheck inc out => decide ((inc.map (·.1)).Nodup ∧ (out.map (·.1)).Nodup)
  | .twinPinMismatch _ _ => true
  | .pairWaitExpiry => true
  | .permitFrame _ _ => true
  | .permitReport _ slots => decide (slots.length = 18)
  | .permitEchoMissing _ => true
  | .cutTestSchedule _ _ => true
  | .cutTestDue _ => true
  | .estopDemand _ _ => true
  | .estopDiscrepancy _ => true
  | .estopRelease => true
  | .errinDemand => true
  | .errinRelease => true
  | .ridgeWatchdog _ => true
  | .ridgeConfigCheck _ => true
  | .ridgeFaultReport => true
  | .safeCommandReceive _ => true
  | .ridgeStartupTestEnd _ _ _ => true
  | .cvJobStart _ => true
  | .cvJobEnd _ _ _ _ => true
  | .imageRescan _ => true
  | .dieTempMeasure _ _ => true
  | .spiTransfer mosi => decide (mosi ≠ [])
  | .udpDatagram _ _ fr => decide (fr.length ≤ 1472)
  | .cmdTailWrite _ _ => true
  | .rspHeadWrite _ _ => true
  | .mbCtrlReset _ => true
  | .mbCtrlRelease _ => true
  | .glbIntSetWrite _ => true
  | .glbT0LoRead => true
  | .glbHostHbWrite _ => true
  | .mbErrRead _ => true
  | .glbLinkErrRead => true
  | .registerWrite _ _ _ => true
  | .frameTakeIn => true
  | .responseWrite _ => true
  | .mbIntHoldoff _ => true
  | .commandDeadline _ => true
  | .stewardHeartbeat => true
  | .hostHbTimeout => true
  | .udpIdleExpiry _ => true
  | .deviceInfo r => reqWf r
  | .modeSet r => reqWf r
  | .deviceRestart r => reqWf r
  | .deviceRestartTrigger => true
  | .bulkWrite r => reqWf r
  | .bulkRead r => reqWf r
  | .paramGet r => reqWf r
  | .paramSet r => reqWf r
  | .paramUnset r => reqWf r
  | .paramDescribe r => reqWf r
  | .pointRead r => reqWf r
  | .pointWrite r => reqWf r
  | .pointForce r => reqWf r
  | .pointUnforce r => reqWf r
  | .pointSimulate r => reqWf r
  | .pointUnsimulate r => reqWf r
  | .taskTrigger r => reqWf r
  | .imageStage r => reqWf r
  | .imageLoad r => reqWf r
  | .deckLoad r => reqWf r
  | .deckCommit r => reqWf r
  | .deckSave r => reqWf r
  | .imageInfo r => reqWf r
  | .fwUpdate r => reqWf r
  | .fwUpdateDone _ _ => true
  | .fwSwap r => reqWf r
  | .firmwareSwapRestart => true
  | .progExchange r => reqWf r
  | .progRevert r => reqWf r
  | .exchReportGet r => reqWf r
  | .loopFlagsClear r => reqWf r
  | .loopTune r => reqWf r
  | .loopTuneResult r => reqWf r
  | .loopTuneAccept r => reqWf r
  | .axisJog r => reqWf r
  | .axisMove r => reqWf r
  | .axisHome r => reqWf r
  | .axisStop r => reqWf r
  | .chAck r => reqWf r
  | .encArm r => reqWf r
  | .encClear r => reqWf r
  | .streamLoad r => reqWf r
  | .streamStart r => reqWf r
  | .streamPause r => reqWf r
  | .streamContinue r => reqWf r
  | .streamAbort r => reqWf r
  | .opResolve r => reqWf r
  | .acqArm r => reqWf r
  | .acqTrigger r => reqWf r
  | .acqStop r => reqWf r
  | .acqRead r => reqWf r
  | .acqRelease r => reqWf r
  | .trgCalibrate r => reqWf r
  | .thatchQuery r => reqWf r
  | .evtRead r => reqWf r
  | .evtStatusGet r => reqWf r
  | .evtClassesGet r => reqWf r
  | .evtAnchorsGet r => reqWf r
  | .evtSecretSet r => reqWf r
  | .evtClearChallenge r => reqWf r
  | .evtClear r => reqWf r
  | .canSend r => reqWf r
  | .canAbort r => reqWf r
  | .canRecover r => reqWf r
  | .timeRestep r => reqWf r
  | .twinPair r => reqWf r
  | .twinSwap r => reqWf r
  | .twinStatusGet r => reqWf r
  | .safeReset r => reqWf r
  | .safeGroupReset r => reqWf r
  | .safeProofTest r => reqWf r
  | .cvScan r => reqWf r
  | .cvResultGet r => reqWf r
  | .cvAbort r => reqWf r
  | .stewardReadyTimeout => true
  | .ridgeHeartbeatLoss => true
  | .twinLaneFault _ _ => true
  | .ptpAnnounceReceive _ _ _ _ => true
  | .ptpDelayResponse _ _ _ _ _ => true
  | .canRxError _ _ => true
  | .lineFaultClear _ => true
  | .pexTimeout _ => true
  | .noEcho _ => true
  | .blIllegalOpcode _ _ => true
  | .leIllegalOpcode _ _ => true

end Sys2Proof
end

