-- ==== Sys2Proof/Certificates/Slice0/Obligations.lean ====
section
/-! DEFINITION. The statements for the provers. Each docstring says what its statement says. -/

open Sys2Proof Sys2Proof.Machine Sys2Proof.Safety

/-! ### Lining, time and strobes (R15-R41) -/

/-- A packet of a class below 7 whose length and CRC are right and whose SEQ is the next expected is accepted: the link record of its class alone changes, its next SEQ rises by one, and the packet's credits are held. A packet that fails its CRC, or whose SEQ is another, changes nothing but sends a negative acknowledge of its class. On a negative acknowledge the sender sends every unacknowledged packet again, in order, and on the fourth for one packet reports LINK_FAULT. A credit return raises the sender's credits of that class by what it returns and changes no other link. -/
def Obligations.LiningPacketsAndCredits : Prop :=
  ∀ (s : State) (link : Byte) (up : Bool),
    (∀ raw p, packetOf raw = some p →
      let k := linkKey link up (packetClass raw)
      (p.cls ≠ 7 → p.seq = (linkSt s k).rxSeq → exec (.packetReceive link up raw) s = .next (setLink s k (fun l => { l with
        rxSeq := l.rxSeq + 1, held := l.held + (12 + p.payload.length + 63) / 64, accepted := some p }))) ∧
      (p.seq ≠ (linkSt s k).rxSeq → exec (.packetReceive link up raw) s = .next (send s .negativeAcknowledge link.toNat [packetClass raw]))) ∧
    (∀ raw, packetOf raw = none → exec (.packetReceive link up raw) s = .next (send s .negativeAcknowledge link.toNat [packetClass raw])) ∧
    (∀ cls : Fin 7,
      let l := linkSt s (linkKey link up cls)
      ∃ t, exec (.negativeAcknowledge link up cls) s = .next t ∧
        t.outbox = s.outbox ++ l.unacked.map (fun p => ⟨.packet, link.toNat, [(cls.val : Int), (p.seq.toNat : Int)], p.payload⟩) ∧
        t.faultq = s.faultq ++ (if l.retx = 3 then [⟨0x0301, link.toNat, cls.val, 0⟩] else []) ∧
        (linkSt t (linkKey link up cls)).retx = (if l.retx = 3 then 1 else l.retx + 1)) ∧
    (∀ (cls : Fin 7) (n : Nat),
      let k := linkKey link up cls
      ∃ t, exec (.creditReturn link up cls n) s = .next t ∧ (linkSt t k).credits = (linkSt s k).credits + n ∧
        (∀ j, j ≠ k → linkSt t j = linkSt s j) ∧ { t with links := s.links } = s)

/-- A heartbeat reaches each powered and linked tile. A powered tile without one for 200 µs that is not silent yet becomes silent, with an empty gap buffer, and the Ridge is told. The first T0 exchange of an island sets its copy and leaves it not aligned; a later one within 20 ns counts, and the eighth in a row aligns it. The third cross-check window in a row beyond 1,000 ppm reports a T0 fault and starts the count again; any window within it clears the count. REFCLK lost is recorded and reported and T0 goes on; its return makes it the source again. T0 itself is not changed by any of these. At an aligned node: a strobe event whose stated T0 has not passed is stored while fewer than 256 wait, and the largest number that has waited is kept; a late one runs at once and is counted on the island, and its SYS point shows the count. A sample strobe executes the earliest instant due, once for all the events that name it. An apply strobe applies the set its earliest due event names, after a sample strobe due at or before it. The next packet of an output set on its way is taken in. A scrub of DRAM or of the commons memory notes its position; a single-bit error is counted and reported with its address, a double-bit error is listed and reported. -/
def Obligations.TimeAlignmentStrobesAndScrubs : Prop :=
  (∀ (s : State),
     (∃ t, exec .heartbeatSend s = .next t ∧ t.t0 = s.t0 ∧ ∀ n, n < 4 → (node s n).powered = true → (node s n).linked = true → (node t n).lastHb = s.t0) ∧
     (∀ n : Fin 4, (node s n).lastHb + 200000 ≤ s.t0 → (node s n).silent = false → (node s n).powered = true →
       exec (.silentHold n) s = .next (report (setNode s n (fun d => { d with
         silent := true, silentSince := s.t0, gap := [], gapFull := false, gapLost := [], gapFullAt := 0, gapEv := [], replaying := false })) 0x0203 (0x60 + n) n)) ∧
     (∀ (i : Byte) (o : Int), (island s i.toNat).copySet = false →
       exec (.t0AlignExchange i o) s = .next (setIsland s i.toNat (fun d => { d with copySet := true, offset := 0, ratePpm := 0, good := 0, aligned := false, bad200 := 0 }))) ∧
     (∀ (i : Byte) (o : Int), i.toNat < 0x60 → (island s i.toNat).copySet = true → o.natAbs ≤ 20 →
       ∃ t, exec (.t0AlignExchange i o) s = .next t ∧ (island t i.toNat).good = (island s i.toNat).good + 1 ∧
         (7 ≤ (island s i.toNat).good → (island t i.toNat).aligned = true) ∧ (island t i.toNat).offset = o ∧ t.faultq = s.faultq) ∧
     (∀ a b : Nat, (1000 * (if b ≤ a then a - b else b - a) ≤ b → exec (.t0CrossCheck a b) s = .next { s with clock := { s.clock with crossBad := 0 } }) ∧
       (b < 1000 * (if b ≤ a then a - b else b - a) → s.clock.crossBad = 2 →
         exec (.t0CrossCheck a b) s = .next (report { s with clock := { s.clock with crossBad := 0 } } 0x0702 0x7F))) ∧
     (s.clock.refclk = true → ∃ t, exec .refclkLost s = .next t ∧ t.clock.refclk = false ∧ t.t0 = s.t0 ∧
       t.faultq = s.faultq ++ [⟨0x0502, 0x7F, 0, 0⟩] ∧ ∀ d, d = 1 ∨ d = 2 ∨ d = 3 → ((domain s d).st = 1 ∨ (domain s d).st = 2) → (domain t d).st = 3) ∧
     (∃ t, exec .refclkReturn s = .next t ∧ t.clock.refclk = true ∧ t.t0 = s.t0)) ∧
  (∀ (s : State),
     (∀ (n : Fin 7) (e : Nat × Strobe), s.sched.strobesOut.find? (fun e => e.1 == n.val) = some e → (island s (nodeIsland n)).aligned = true →
       let s1 := { s with sched := { s.sched with strobesOut := s.sched.strobesOut.erase e } }
       (s.t0 ≤ e.2.due → (node s n).strobes.length < 256 →
         let s2 := setNode s1 n (fun d => { d with strobes := d.strobes ++ [e.2] })
         exec (.strobeEventReceive n) s = .next { s2 with sched := { s2.sched with pendMax := max s2.sched.pendMax (node s2 n).strobes.length } }) ∧
       (e.2.due < s.t0 → e.2.set = none →
         let s2 := setIsland s1 (nodeIsland n) (fun d => { d with late := (d.late + 1) % 2 ^ 32 })
         exec (.strobeEventReceive n) s =
           .next (doSample (sysPoint s2 (0x1000 + nodeIsland n * 16 + 15) (island s2 (nodeIsland n)).late) n s.t0 true))) ∧
     (∀ (n : Fin 7) (e : Strobe), (island s (nodeIsland n)).aligned = true → dueStrobe s n true = some e →
       exec (.sampleStrobe n) s = .next (doSample (setNode s n (fun d => { d with strobes := d.strobes.filter (fun x => !(x.set.isNone && x.due == e.due)) })) n e.due false)) ∧
     (∀ (n : Fin 7) (e : Strobe) (k : Nat), (island s (nodeIsland n)).aligned = true → dueStrobe s n false = some e → e.set = some k →
       dueStrobe s n true = none → exec (.applyStrobe n) s = .next (doApply (setNode s n (fun d => { d with strobes := d.strobes.erase e })) n e.due k)) ∧
     (∀ (n : Fin 7) (e : Nat × OutSet), s.sched.setsOut.find? (fun e => e.1 == n.val) = some e →
       exec (.outputSetReceive n) s = .next (takeSet { s with sched := { s.sched with setsOut := s.sched.setsOut.erase e } } n e.2)) ∧
     (∀ a : Word, exec (.dramScrub a 0) s = .next { s with memErr := { s.memErr with dramPos := a.toNat } } ∧
       exec (.dramScrub a 1) s = .next (report { s with memErr := { s.memErr with dramPos := a.toNat, dramSingle := s.memErr.dramSingle + 1 } } 0x0403 0x40 0 a.toNat) ∧
       exec (.dramScrub a 2) s = .next (report { s with memErr := { s.memErr with dramPos := a.toNat, dramDouble := s.memErr.dramDouble ++ [a.toNat] } } 0x0401 0x40 0 a.toNat)) ∧
     (∀ a : BitVec 23, exec (.commonsScrub a 0) s = .next { s with memErr := { s.memErr with commonsPos := a.toNat } } ∧
       exec (.commonsScrub a 1) s = .next (report { s with memErr := { s.memErr with commonsPos := a.toNat, commonsSingle := s.memErr.commonsSingle + 1 } } 0x0403 0x41 0 a.toNat) ∧
       exec (.commonsScrub a 2) s = .next (report { s with memErr := { s.memErr with commonsPos := a.toNat, commonsDouble := s.memErr.commonsDouble ++ [a.toNat] } } 0x0402 0x41 0 a.toNat)))

/-! ### The process image, stations and forces (R45-R67) -/

/-- When an update is due, the earliest of them leaves the pending list and its point shows it: UCNT rises by one, IVL is bits [15:0] of the effective T0 in units of 10 µs, the source value is the update's value, and the visible value and conditions are the update's, or while a force is in force the forced value with FORCED among the conditions. No other point of the image changes. -/
def Obligations.ImageUpdatesBecomeVisible : Prop :=
  ∀ (s : State) (u : Upd), dueUpd s = some u →
    ∃ t, exec .imageUpdateVisible s = .next t ∧
      (let old := pget s u.point
       let new := tget {} t.img.points u.point
       t.img.pend = s.img.pend.erase u ∧ new.ucnt = old.ucnt + 1 ∧ new.ivl = bv 16 (u.due / 10000) ∧ new.source = u.value ∧
       (forceOf s u.point = none → new.value = u.value ∧ new.conds = u.conds) ∧
       (∀ f, forceOf s u.point = some f → new.value = forceVal s f ∧ new.conds = u.conds ||| condOf (if f.sim then 8 else 7))) ∧
      (∀ p, p ≠ u.point → tget {} t.img.points p = tget {} s.img.points p)

/-- A window copy gives the first prefetched release without one its window and lets the engine start it; past the window wait, WINDOW_LATE is set and recorded. A station's input block that arrives makes a SILENT station ONLINE and a LOST one RETURNING, with an event, and its values wait for the next sample strobe; an ONLINE station without a block for its silent time becomes SILENT; any but a LOST one without a block for its lost time becomes LOST. At a force instant every begin and end that is due is taken, and none of them waits any longer. A DERIVED point released at its instant with a finite result is updated one period later. -/
def Obligations.WindowsStationsForcesDerived : Prop :=
  ∀ (s : State),
    (∀ (ce : Fin 16) (r : Release), ((engine s ce).queue.take 2).find? (fun r => !r.copied) = some r →
      exec (.windowCopyComplete ce) s = .next (dispatch (setEngine s ce (fun e => { e with
        queue := e.queue.map (fun x => if x.task = r.task then { x with copied := true } else x), snap := tset e.snap r.task (windowAt s r.task r.due) })) ce) ∧
      (r.due + param s pTaskWindowWait r.task * 1000 ≤ s.t0 →
        exec (.windowWaitExpiry ce) s = .next (note (setEngine s ce (fun e => { e with
          queue := e.queue.map (fun x => if x.task = r.task then { x with windowLate := true } else x) })) .windowLate 0x42 r.task 0 [r.due]))) ∧
    (∀ (g : Fin 11) (stn : BitVec 10),
      let k := stnKey (8 + g.val) stn.toNat
      let d := station s k
      (∀ (blk : BitVec 6) (vals : List Word) (c : BitVec 16) (b : Block), d.blocks[blk.toNat]? = some b → b.input = true →
        ∃ t, exec (.stationInputBlock g stn blk vals c) s = .next t ∧
          (station t k).st = (if d.st = .silent then .online else if d.st = .lost then .returning else d.st) ∧ (station t k).lastBlock = s.t0 ∧
          t.img.arrived = s.img.arrived ++ (vals.take b.count).mapIdx (fun i v => (stnNode k, b.first + i, v, c))) ∧
      (d.st = .online → d.lastBlock + d.silentNs ≤ s.t0 → ∃ t, exec (.stationSilent g stn) s = .next t ∧ (station t k).st = .silent) ∧
      (d.st ≠ .lost → d.lostNs ≠ 0 → d.lastBlock + d.lostNs ≤ s.t0 → ∃ t, exec (.stationLost g stn) s = .next t ∧ (station t k).st = .lost)) ∧
    (exec .forceInstant s = .next ((s.img.forcePend.filter (fun f => decide (f.due ≤ s.t0))).foldl forceStep
      { s with img := { s.img with forcePend := s.img.forcePend.filter (fun f => decide (s.t0 < f.due)) } })) ∧
    (∀ (n : Half) (d : Derived), tfind s.img.derived n.toNat = some d → s.mode.cur ≠ .keep → s.mode.cur ≠ .boot → d.periodUs ≠ 0 →
      s.t0 % 1000 = 0 → ((s.t0 / 1000 : Int) - d.phaseUs) % d.periodUs = 0 →
      let l := d.args.map (pgetAt s s.t0)
      let v := derVal d.op l (pget s (ptid 0x1E n.toNat)).ty
      (v.2 = false ∨ fisFin f32 v.1 = true) →
        exec (.derivedRelease n) s = .next (update s (s.t0 + d.periodUs * 1000) (ptid 0x1E n.toNat) (bv 32 v.1) (derConds d.op l)))

/-! ### The scheduler (R94-R112) -/

/-- A sample strobe for an instant 10 to 20 µs ahead goes out to the node outside M0 and M1. A present, enabled CYCLIC or STREAM task that its mode lets run is released at its instant, or skipped while its previous release runs. The oldest trigger, when its instant has come, is taken from the queue and releases its event task, is held, or is merged; on a standby it is only dropped. A held trigger releases one period after the previous release. A free engine that asks for work waits for, or begins, its first prefetched release. Within 20 µs of its deadline a release that has not begun is missed and leaves the queue, and one that runs overruns and is marked for a late apply strobe, which then goes out once, alone. RELEASE_END ends the engine's running release. A placement window takes each engine's busy fraction, and with adaptation off decides nothing. A decided program move is made in a sufficient gap: the program's home and data memory move; without such a gap for 1 s it is given up with an event. -/
def Obligations.SchedulerReleasesAndMoves : Prop :=
  (∀ (s : State),
     (∀ (n : Fin 7) (a : Nat), s.mode.cur ≠ .keep → s.mode.cur ≠ .boot → s.t0 + 10000 ≤ a → a ≤ s.t0 + 20000 → strobeInstant s a = true →
       exec (.sampleStrobeSend n a) s = .next { s with sched := { s.sched with
         strobesOut := s.sched.strobesOut ++ [(n.val, { due := a })], strobesSent := s.sched.strobesSent + 1 } }) ∧
     (∀ k : BitVec 10,
       let i := k.toNat
       let d := task s i
       (d.present = true → d.stopped = false → d.kind ≠ 1 → flag s pTaskEnable i = true → programsRun s i = true → s.t0 % 1000 = 0 →
         isRelease (s.t0 / 1000) (param s pTaskPeriod i) (param s pTaskPhase i) = true →
         exec (.taskRelease k) s = .next (if (relOf s i).isSome then skipRel s i else queueRel s i s.t0)) ∧
       (∀ l, d.lastRel = some l → d.heldTrig = true → l + periodNs s i ≤ s.t0 →
         exec (.heldTriggerRelease k) s = .next (releaseTask (setTask s i (fun d => { d with heldTrig := false })) i (l + periodNs s i)))) ∧
     (∀ (i t : Nat) (r : List (Nat × Nat)), s.sched.trigs = (i, t) :: r → t ≤ s.t0 →
       let s1 := { s with sched := { s.sched with trigs := r } }
       (s.mode.cur = .standby → exec .eventTaskTrigger s = .next s1) ∧
       (s.mode.cur ≠ .standby → exec .eventTaskTrigger s = .next (takeTrig (forward s1 1 [i, t]) i t))) ∧
     (∀ ce : Fin 16, (engine s ce).running = none →
       exec (.engineAskWork ce) s = .next (dispatch (setEngine s ce (fun e => { e with waiting := true })) ce))) ∧
  (∀ (s : State),
     (∀ (k : BitVec 10) (r : Release),
       let i := k.toNat
       relOf s i = some r →
       (r.due + periodNs s i ≤ s.t0 + 20000 → r.overrun = false →
         (r.began = none → ∃ t, exec (.taskDeadline k) s = .next t ∧ (task t i).missed = ((task s i).missed + 1) % 2 ^ 32 ∧
           (engine t (homeOf s i)).queue = slotTrim ((engine s (homeOf s i)).queue.filter (fun x => x.task != i))) ∧
         (r.began ≠ none → ∃ t, exec (.taskDeadline k) s = .next t ∧ (task t i).overruns = ((task s i).overruns + 1) % 2 ^ 32 ∧
           t.sched.nextSet = s.sched.nextSet + 1)) ∧
       (∀ id, r.setId = some id → r.strobed = false →
         exec (.applyStrobeSend k) s = .next (sendApply (mapRel s i (fun r => { r with strobed := true })) (writerNodes s i) id (r.due + periodNs s i)))) ∧
     (∀ l : List Nat, flag s pSysPlaceAdapt 0 = false → ∃ t, exec (.placementWindow l) s = .next t ∧
       (∀ c, c < 16 → (engine t c).busy = (l[c]?).getD 0) ∧ t.sched.home = s.sched.home ∧ t.sched.move = s.sched.move) ∧
     (∀ m, s.sched.move = some m →
       (s.sched.exch.any (fun x => x.slot == m.prog) = false →
         (∀ e ∈ s.sched.tasks, e.2.present = true → e.2.prog = m.prog → relOf s e.1 = none ∧
           ∀ a, nextRelease s e.1 s.t0 = some a → s.t0 + 22000 + 400 * tget 0 s.sched.progKib m.prog ≤ a) →
         ∃ t, exec .programMove s = .next t ∧ tget 0 t.sched.home m.prog = m.dst ∧ t.sched.move = none ∧
           mreads (engine t m.dst).mem (prog s m.prog).base (prog s m.prog).len =
             mreads (engine s (tget 0 s.sched.home m.prog)).mem (prog s m.prog).base (prog s m.prog).len) ∧
       (m.decided + 1000000000 ≤ s.t0 → ∃ t, exec .programMoveAbandon s = .next t ∧ t.sched.move = none ∧ t.sched.home = s.sched.home)) ∧
     (∀ ce : Fin 16, exec (.releaseEnd ce) s = .next (endRelease (endStream s ce) ce false)))

/-! ### The bit-logic instructions (R113-R133) -/

/-- While the engine runs a release in the bit-logic role, each logic instruction that reads a P operand with no reserved bit set answers the state in which only LA and the pc have changed: LA is computed from LA and the bit read (LD, LDN, AND, ANDN, OR, ORN, XOR, XORN), or from LA and whether the quality read is GOOD (LDG, ANDG, ORNG). While the engine runs a release in the bit-logic role and the operand has no reserved bit set: on a LOCAL operand, ST writes LA, STN writes NOT LA, SET writes 1 and RST writes 0 to the one bit the operand names; every other bit of that byte and every byte at another address reads as before, and nothing but the pc changes besides. SET and RST with LA = 0 store nothing. On a point, the value 1 or 0 is entered into the output set with quality GOOD. While the engine runs a release in the bit-logic role and the operand field is 0, only the registers change, and the pc goes on: NOP changes nothing more; NOT, LDT, LDF, LDFS and LDQD set LA; AND(, OR(, XOR( and PSH push LA with their code while fewer than 16 entries are on the nesting stack, the three opening instructions then starting LA at 1, 0 and 0; ) pops an entry and combines its bit with LA by the entry's code; POP pops an entry into LA. -/
def Obligations.BitLogicBits : Prop :=
  (∀ (s : State) (ce : Fin 16) (x : BitVec 25) (r : Release), BlAt s ce r → localBad x false = false →
     let g := blGo s ce
     let b := bitOf s ce.val r x
     let q := qualAt s ce.val r x == 0
     exec (.blLd ce x) s = .next (blSet s ce { g with la := b }) ∧
     exec (.blLdn ce x) s = .next (blSet s ce { g with la := !b }) ∧
     exec (.blAnd ce x) s = .next (blSet s ce { g with la := g.la && b }) ∧
     exec (.blAndn ce x) s = .next (blSet s ce { g with la := g.la && !b }) ∧
     exec (.blOr ce x) s = .next (blSet s ce { g with la := g.la || b }) ∧
     exec (.blOrn ce x) s = .next (blSet s ce { g with la := g.la || !b }) ∧
     exec (.blXor ce x) s = .next (blSet s ce { g with la := xor g.la b }) ∧
     exec (.blXorn ce x) s = .next (blSet s ce { g with la := !(xor g.la b) }) ∧
     exec (.blLdg ce x) s = .next (blSet s ce { g with la := q }) ∧
     exec (.blAndg ce x) s = .next (blSet s ce { g with la := g.la && q }) ∧
     exec (.blOrng ce x) s = .next (blSet s ce { g with la := g.la || !q })) ∧
  (∀ (s : State) (ce : Fin 16) (x : BitVec 25) (r : Release), BlAt s ce r → localBad x false = false →
     let g := blGo s ce
     let m := (engine s ce.val).mem
     let a := localBit x / 8
     let k := localBit x % 8
     let put (i : Instr) (b : Bool) : Prop :=
       (isLocalPt x = true → ∃ m', exec i s = .next (blMem s ce g m') ∧ (mread m' a).getLsbD k = b ∧
         (∀ j, j < 8 → j ≠ k → (mread m' a).getLsbD j = (mread m a).getLsbD j) ∧ SameBut m m' a 1) ∧
       (isLocalPt x = false → exec i s = .next (blSet (outWrite s ce.val x.toNat (if b then 1 else 0) 0) ce g))
     put (.blSt ce x) g.la ∧ put (.blStn ce x) (!g.la) ∧
     (g.la = true → put (.blSet ce x) true ∧ put (.blRst ce x) false) ∧
     (g.la = false → exec (.blSet ce x) s = .next (blSet s ce g) ∧ exec (.blRst ce x) s = .next (blSet s ce g))) ∧
  (∀ (s : State) (ce : Fin 16) (r : Release), BlAt s ce r →
     let g := blGo s ce
     exec (.blNop ce 0) s = .next (blSet s ce g) ∧
     exec (.blNot ce 0) s = .next (blSet s ce { g with la := !g.la }) ∧
     exec (.blLdt ce 0) s = .next (blSet s ce { g with la := true }) ∧
     exec (.blLdf ce 0) s = .next (blSet s ce { g with la := false }) ∧
     exec (.blLdfs ce 0) s = .next (blSet s ce { g with la := g.fs }) ∧
     exec (.blLdqd ce 0) s = .next (blSet s ce { g with la := g.qd }) ∧
     (g.nest.length < 16 →
       exec (.blAndOpen ce 0) s = .next (blSet s ce { g with la := true, nest := (g.la, 1) :: g.nest }) ∧
       exec (.blOrOpen ce 0) s = .next (blSet s ce { g with la := false, nest := (g.la, 2) :: g.nest }) ∧
       exec (.blXorOpen ce 0) s = .next (blSet s ce { g with la := false, nest := (g.la, 3) :: g.nest }) ∧
       exec (.blPsh ce 0) s = .next (blSet s ce { g with nest := (g.la, 0) :: g.nest })) ∧
     (∀ b k l, g.nest = (b, k) :: l →
       exec (.blPop ce 0) s = .next (blSet s ce { g with la := b, nest := l }) ∧
       exec (.blClose ce 0) s = .next (blSet s ce { g with nest := l, la :=
         if k = 1 then b && g.la else if k = 2 then b || g.la else if k = 3 then xor b g.la else g.la })))

/-- While the engine runs a release in the bit-logic role and the operand has the form the instruction asks for: LDW and LDQ load WA with the word read and the quality code; LDI, LDHI, SWAP, MOVAB, LDS and LDTR (release instant in µs, low word to WA and high word to WB) move registers as their rows say; CLS clears OV, DZ, FE and IX; LDWX loads the LOCAL word at the operand's address plus 4 × WB when that is at most 0xFFFC, and otherwise gives 0 and sets IX. STW and STWX write WA to 4 bytes of LOCAL memory, every other byte reading as before (STWX beyond 0xFFFC stores nothing and sets IX); STW to a point enters WA with quality GOOD into the output set; STWQ enters WA with the quality in WB bits [3:0], where codes 7, 8 and 11–15 become BAD_RANGE. While the engine runs a release in the bit-logic role: ADD, SUB, ADDI and NEG give the exact result modulo 2^32 and set OV when it does not fit 32 bits signed, and otherwise leave OV; MUL gives the signed 64-bit product in WB:WA and sets OV when it does not fit 32 bits; DIV gives the quotient truncated towards zero in WA and the remainder in WB, and with a divisor of 0 sets only DZ; ANDW, ORW, XORW and NOTW are bitwise; SHL, SHR and ASR shift by 0 to 31. No other register, and nothing outside the engine's registers, changes but the pc. -/
def Obligations.BitLogicWords : Prop :=
  (∀ (s : State) (ce : Fin 16) (x : BitVec 25) (r : Release), BlAt s ce r →
     let g := blGo s ce
     let m := (engine s ce.val).mem
     let stored (i : Instr) (a : Nat) : Prop :=
       ∃ m', exec i s = .next (blMem s ce g m') ∧ mreads m' a 4 = leBytes 4 g.wa.toNat ∧ SameBut m m' a 4
     let a := localBit x / 8
     let ax := a + 4 * g.wb.toNat
     let q := g.wb.toNat % 16
     exec (.blLdi ce x) s = .next (blSet s ce { g with wa := x.signExtend 32 }) ∧
     (x.toNat < 128 → exec (.blLdhi ce x) s = .next (blSet s ce { g with wa := bv 32 (x.toNat * 2 ^ 25 + g.wa.toNat % 2 ^ 25) })) ∧
     exec (.blSwap ce 0) s = .next (blSet s ce { g with wa := g.wb, wb := g.wa }) ∧
     exec (.blMovab ce 0) s = .next (blSet s ce { g with wb := g.wa }) ∧
     exec (.blLdtr ce 0) s = .next (blSet s ce { g with wa := bv 32 (r.due / 1000), wb := bv 32 (r.due / 1000 / 2 ^ 32) }) ∧
     exec (.blLds ce 0) s = .next (blSet s ce { g with wa := g.status }) ∧
     exec (.blCls ce 0) s = .next (blSet s ce { g with ov := false, dz := false, fe := false, ix := false }) ∧
     (localBad x false = false → exec (.blLdq ce x) s = .next (blSet s ce { g with wa := bv 32 (qualAt s ce.val r x) })) ∧
     (localBad x true = false →
       exec (.blLdw ce x) s = .next (blSet s ce { g with wa := wordOf s ce.val r x }) ∧
       (isLocalPt x = true → stored (.blStw ce x) a) ∧
       (isLocalPt x = false → exec (.blStw ce x) s = .next (blSet (outWrite s ce.val x.toNat g.wa 0) ce g)) ∧
       (isLocalPt x = true → ax ≤ 0xFFFC →
         exec (.blLdwx ce x) s = .next (blSet s ce { g with wa := bv 32 (leVal (mreads m ax 4)) }) ∧ stored (.blStwx ce x) ax) ∧
       (isLocalPt x = true → 0xFFFC < ax →
         exec (.blLdwx ce x) s = .next (blSet s ce { g with wa := 0, ix := true }) ∧
         exec (.blStwx ce x) s = .next (blSet s ce { g with ix := true }))) ∧
     (isMem x = true → exec (.blStwq ce x) s =
       .next (blSet (outWrite s ce.val x.toNat g.wa (if q = 7 ∨ q = 8 ∨ 11 ≤ q then 6 else q)) ce g))) ∧
  (∀ (s : State) (ce : Fin 16) (x : BitVec 25) (r : Release), BlAt s ce r →
     let g := blGo s ce
     let a := g.wa.toInt
     let res (z : Int) : BlRegs := { g with wa := BitVec.ofInt 32 z, ov := g.ov || decide (z < -2147483648 ∨ 2147483647 < z) }
     exec (.blNeg ce 0) s = .next (blSet s ce (res (-a))) ∧
     exec (.blAddi ce x) s = .next (blSet s ce (res (a + x.toInt))) ∧
     exec (.blNotw ce 0) s = .next (blSet s ce { g with wa := ~~~ g.wa }) ∧
     (x.toNat < 32 →
       exec (.blShl ce x) s = .next (blSet s ce { g with wa := g.wa <<< x.toNat }) ∧
       exec (.blShr ce x) s = .next (blSet s ce { g with wa := g.wa >>> x.toNat }) ∧
       exec (.blAsr ce x) s = .next (blSet s ce { g with wa := g.wa.sshiftRight x.toNat })) ∧
     (localBad x true = false →
       let v := wordOf s ce.val r x
       let p := a * v.toInt
       exec (.blAdd ce x) s = .next (blSet s ce (res (a + v.toInt))) ∧
       exec (.blSub ce x) s = .next (blSet s ce (res (a - v.toInt))) ∧
       exec (.blMul ce x) s = .next (blSet s ce { res p with wb := BitVec.ofInt 32 (p / 2 ^ 32) }) ∧
       (v ≠ 0 → exec (.blDiv ce x) s = .next (blSet s ce { res (a.tdiv v.toInt) with wb := BitVec.ofInt 32 (a.tmod v.toInt) })) ∧
       (v = 0 → exec (.blDiv ce x) s = .next (blSet s ce { g with dz := true })) ∧
       exec (.blAndw ce x) s = .next (blSet s ce { g with wa := g.wa &&& v }) ∧
       exec (.blOrw ce x) s = .next (blSet s ce { g with wa := g.wa ||| v }) ∧
       exec (.blXorw ce x) s = .next (blSet s ce { g with wa := g.wa ^^^ v })))

/-- While the engine runs a release in the bit-logic role: ADDF, SUBF, MULF and DIVF answer the state in which only WA, FE, DZ and the pc have changed. With no NaN operand WA is the rounded result on the operands with subnormals taken as zeros; with one NaN operand WA is that operand. FE is set when the result is a NaN or an infinity; DIVF with a zero divisor sets DZ and FE. ITOF converts WA; ABSF clears and NEGF inverts bit 31; FTOI of a NaN gives 0 and sets FE, and of a value in range gives it truncated. While the engine runs a release in the bit-logic role and the word operand has no reserved bit set, a compare answers the state in which only LA and the pc have changed: EQ, NE, LT, LE, GT and GE compare signed, LTU and GEU unsigned; the float compares order the operands with subnormals taken as zeros, and with a NaN on either side give LA = 0 and set FE. -/
def Obligations.BitLogicFloatsAndCompares : Prop :=
  (∀ (s : State) (ce : Fin 16) (x : BitVec 25) (r : Release), BlAt s ce r →
     let g := blGo s ce
     exec (.blItof ce 0) s = .next (blSet s ce { g with wa := bv 32 (fofInt f32 g.wa.toInt) }) ∧
     exec (.blAbsf ce 0) s = .next (blSet s ce { g with wa := g.wa &&& 0x7FFFFFFF }) ∧
     exec (.blNegf ce 0) s = .next (blSet s ce { g with wa := g.wa ^^^ 0x80000000 }) ∧
     (fisNan f32 g.wa.toNat = true → exec (.blFtoi ce 0) s = .next (blSet s ce { g with wa := 0, fe := true })) ∧
     (∀ k, fisNan f32 g.wa.toNat = false → ftrunc f32 g.wa.toNat = some k → outOf32 k = false →
       exec (.blFtoi ce 0) s = .next (blSet s ce { g with wa := BitVec.ofInt 32 k })) ∧
     (localBad x true = false →
       let v := wordOf s ce.val r x
       let res (w : Word) : BlRegs := { g with wa := w, fe := g.fe || isNanInf w.toNat }
       let nan (w : Word) : Bool := fisNan f32 w.toNat
       let form (i : Instr) (f : Nat → Nat → Nat) (h : BlRegs → BlRegs) : Prop :=
         (nan g.wa = false → nan v = false → exec i s = .next (blSet s ce (h (res (bv 32 (f (ftz g.wa) (ftz v))))))) ∧
         (nan g.wa = true → nan v = false → exec i s = .next (blSet s ce (h (res g.wa)))) ∧
         (nan g.wa = false → nan v = true → exec i s = .next (blSet s ce (h (res v))))
       form (.blAddf ce x) (fadd f32 true) id ∧ form (.blSubf ce x) (fsub f32 true) id ∧ form (.blMulf ce x) (fmul f32 true) id ∧
       form (.blDivf ce x) (fdiv f32 true) (fun h => if ftz v % 2 ^ 31 = 0 then { h with dz := true, fe := true } else h))) ∧
  (∀ (s : State) (ce : Fin 16) (x : BitVec 25) (r : Release), BlAt s ce r → localBad x true = false →
     let g := blGo s ce
     let v := wordOf s ce.val r x
     let la (b : Bool) : Res := .next (blSet s ce { g with la := b })
     let nan := fisNan f32 g.wa.toNat || fisNan f32 v.toNat
     let flo (i : Instr) (f : Nat → Nat → Bool) : Prop :=
       (nan = true → exec i s = .next (blSet s ce { g with la := false, fe := true })) ∧
       (nan = false → exec i s = la (f (ftz g.wa) (ftz v)))
     exec (.blEq ce x) s = la (decide (g.wa = v)) ∧ exec (.blNe ce x) s = la (decide (g.wa ≠ v)) ∧
     exec (.blLt ce x) s = la (decide (g.wa.toInt < v.toInt)) ∧ exec (.blLe ce x) s = la (decide (g.wa.toInt ≤ v.toInt)) ∧
     exec (.blGt ce x) s = la (decide (v.toInt < g.wa.toInt)) ∧ exec (.blGe ce x) s = la (decide (v.toInt ≤ g.wa.toInt)) ∧
     exec (.blLtu ce x) s = la (decide (g.wa.toNat < v.toNat)) ∧ exec (.blGeu ce x) s = la (decide (v.toNat ≤ g.wa.toNat)) ∧
     flo (.blLtf ce x) (flt f32) ∧ flo (.blLef ce x) (fle f32) ∧
     flo (.blGtf ce x) (fun a b => flt f32 b a) ∧ flo (.blGef ce x) (fun a b => fle f32 b a) ∧ flo (.blEqf ce x) (feq f32))

/-- While the engine runs a release in the bit-logic role: JMP, and JC and JCN when their condition holds, set the pc to a target inside the program; CALL, and CALLC with LA = 1, push the address of the next word while fewer than 8 calls are nested, and jump; RET, and RETC with LA = 1, pop it; each conditional form otherwise goes on at the next word. END, and ENDC with LA = 1, end the release: the engine hands over its output set and asks for work. No form changes another register. While a release runs in the bit-logic role: a word with an opcode that no table lists is fault 1, or 7 with the pc beyond the program. With the pc inside the program: a push onto a full nesting stack is fault 2, a pop from an empty one 3; a ninth nested call 4, a return without a call 5; a record of another TYPE 6; a jump target inside 15 bits but beyond the program 7; a reserved operand bit 8. With the pc beyond the program every instruction is fault 7. Each of these answers the state that the fault's own operation gives: the release ended and its set discarded. -/
def Obligations.BitLogicFlowAndFaults : Prop :=
  (∀ (s : State) (ce : Fin 16) (x : BitVec 25) (r : Release), BlAt s ce r →
     let g := blGo s ce
     let go : Res := .next (blSet s ce g)
     exec (.blEnd ce 0) s = .next (endAsk s ce.val false) ∧
     exec (.blEndc ce 0) s = (if g.la then .next (endAsk s ce.val false) else go) ∧
     (g.la = false → exec (.blRetc ce 0) s = go) ∧
     (∀ a l, g.calls = a :: l →
       exec (.blRet ce 0) s = .next (blSet s ce { g with pc := a, calls := l }) ∧
       (g.la = true → exec (.blRetc ce 0) s = .next (blSet s ce { g with pc := a, calls := l }))) ∧
     (x.toNat < 2 ^ 15 → x.toNat < (prog s (task s r.task).prog).words →
       let jump : Res := .next (blSet s ce { g with pc := x.toNat })
       let call : Res := .next (blSet s ce { g with pc := x.toNat, calls := g.pc :: g.calls })
       exec (.blJmp ce x) s = jump ∧ exec (.blJc ce x) s = (if g.la then jump else go) ∧
       exec (.blJcn ce x) s = (if g.la then go else jump) ∧
       (g.calls.length < 8 → exec (.blCall ce x) s = call ∧ (g.la = true → exec (.blCallc ce x) s = call)) ∧
       (g.la = false → exec (.blCallc ce x) s = go))) ∧
  (∀ (s : State) (ce : Fin 16) (x : BitVec 25) (r : Release),
     let g := (engine s ce.val).bl
     let fault (i : Instr) (code op : Nat) : Prop := exec i s = .next (blFault s ce.val code g.pc (op * 2 ^ 25 + x.toNat))
     let words := (prog s (task s r.task).prog).words
     ((engine s ce.val).running = some r → (engine s ce.val).role = 0 → ∀ w, blListed (w.toNat / 2 ^ 25) = false →
       exec (.blIllegalOpcode ce w) s = .next (blFault s ce.val (if words ≤ g.pc then 7 else 1) g.pc w.toNat)) ∧
     ((engine s ce.val).running = some r → (engine s ce.val).role = 0 → words ≤ g.pc →
       fault (.blLd ce x) 7 0x01 ∧ fault (.blEnd ce x) 7 0x6F ∧ fault (.blAddi ce x) 7 0x35) ∧
     (BlAt s ce r →
       (x = 0 → g.nest.length = 16 → fault (.blPsh ce x) 2 0x18 ∧ fault (.blAndOpen ce x) 2 0x15 ∧ fault (.blOrOpen ce x) 2 0x16 ∧ fault (.blXorOpen ce x) 2 0x17) ∧
       (x = 0 → g.nest = [] → fault (.blPop ce x) 3 0x1A ∧ fault (.blClose ce x) 3 0x19) ∧
       (x.toNat < 2 ^ 15 → x.toNat < words → g.calls.length = 8 → fault (.blCall ce x) 4 0x6B) ∧
       (x = 0 → g.calls = [] → fault (.blRet ce x) 5 0x6D) ∧
       (x.toNat < 2 ^ 16 → (mread (engine s ce.val).mem (instAddr x)).toNat ≠ 0x20 → fault (.blRTrig ce x) 6 0x5E) ∧
       (x.toNat < 2 ^ 15 → words ≤ x.toNat → fault (.blJmp ce x) 7 0x68 ∧ fault (.blCall ce x) 7 0x6B) ∧
       (2 ^ 15 ≤ x.toNat → fault (.blJmp ce x) 8 0x68) ∧ (32 ≤ x.toNat → fault (.blShl ce x) 8 0x3A) ∧
       (x ≠ 0 → fault (.blNop ce x) 8 0x00 ∧ fault (.blEnd ce x) 8 0x6F) ∧
       (localBad x false = true → fault (.blLd ce x) 8 0x01 ∧ fault (.blSt ce x) 8 0x0C) ∧
       (localBad x true = true → fault (.blLdw ce x) 8 0x20 ∧ fault (.blStw ce x) 8 0x21)))

/-- While the engine runs a release in the bit-logic role and the operand names a record of the instruction's TYPE (with the block inputs pushed that a counter pops), TON, TOF, TP, CTU, CTD, CTUD, R_TRIG and F_TRIG answer a state in which the bytes of the engine's data memory outside the record read as before and nothing but the engine's registers and data memory has changed. A rising-edge detector gives LA = CLK and not the previous CLK, a falling-edge detector the reverse, and both keep CLK; a timer that has run its preset: TON gives LA = 1, ET = PT. LDIV of field 0 or 1 of a timer or counter loads that field; STIV of field 0 stores WA there. -/
def Obligations.BitLogicTimersCountersEdges : Prop :=
  ∀ (s : State) (ce : Fin 16) (x : BitVec 25) (r : Release), BlAt s ce r → x.toNat < 2 ^ 16 →
    let g := blGo s ce
    let m := (engine s ce.val).mem
    let a := instAddr x
    let ty := (mread m a).toNat
    let st := mread m (a + 1)
    let prev := if st.getLsbD 6 then g.la else st.getLsbD 0
    let kept (i : Instr) (n : Nat) : Prop := ∃ g' m', exec i s = .next (blMem s ce g' m') ∧ SameBut m m' a n ∧ g'.pc = g.pc ∧ g'.wa = g.wa
    (ty % 128 = 1 → kept (.blTon ce x) 24) ∧ (ty % 128 = 2 → kept (.blTof ce x) 24) ∧ (ty % 128 = 3 → kept (.blTp ce x) 24) ∧
    (ty % 128 = 1 → g.la = true → st.getLsbD 6 = false → st.getLsbD 0 = true → st.getLsbD 3 = true →
      let u := (r.due - leVal (mreads m (a + 16) 8)) / (if 128 ≤ ty then 1000000 else 1000)
      leVal (mreads m (a + 4) 4) ≤ leVal (mreads m (a + 8) 4) + u →
      ∃ g' m', exec (.blTon ce x) s = .next (blMem s ce g' m') ∧ g'.la = true ∧ mreads m' (a + 8) 4 = mreads m (a + 4) 4) ∧
    (ty = 0x10 → g.nest ≠ [] → kept (.blCtu ce x) 12) ∧ (ty = 0x11 → g.nest ≠ [] → kept (.blCtd ce x) 12) ∧
    (ty = 0x12 → 3 ≤ g.nest.length → kept (.blCtud ce x) 12) ∧
    (ty = 0x20 → ∃ m', exec (.blRTrig ce x) s = .next (blMem s ce { g with la := g.la && !prev } m') ∧
      (mread m' (a + 1)).getLsbD 0 = g.la ∧ SameBut m m' (a + 1) 1) ∧
    (ty = 0x21 → ∃ m', exec (.blFTrig ce x) s = .next (blMem s ce { g with la := !g.la && prev } m') ∧
      (mread m' (a + 1)).getLsbD 0 = g.la ∧ SameBut m m' (a + 1) 1) ∧
    ((instKind (mread m a) = some 0 ∨ instKind (mread m a) = some 1) → instField x < 2 →
      exec (.blLdiv ce x) s = .next (blSet s ce { g with wa := bv 32 (leVal (mreads m (a + 4 + 4 * instField x) 4)) })) ∧
    ((instKind (mread m a) = some 0 ∨ instKind (mread m a) = some 1) → instField x = 0 →
      ∃ m', exec (.blStiv ce x) s = .next (blMem s ce g m') ∧ mreads m' (a + 4) 4 = leBytes 4 g.wa.toNat ∧ SameBut m m' (a + 4) 4)

/-! ### Native code, retained items, streams and the program exchange (chapters 6, 13) -/

/-- For an engine in a native role: a word store to offset 0 of a point's aperture outside RECOVERY code enters its value with the quality in DLPQ (codes 7, 8 and 11–15 as BAD_RANGE) into the output set; a narrower store or one to offset 4 is a store access fault; an exception takes the trap. START code past 2 ms is stopped with an event, and the engine's next run begins. DLASK := 1 ends the running release with its set handed over, 2 with it discarded; outside a release both end the run, and the engine begins the next one that waits, or asks for work without one. DLPVAL reads give the register the point's value and DLPQ its quality; writes act as a store with DLPQ. DLNOW gives the low half of the engine's T0 copy and latches the high half. In TEST code a strobe request less than 10 µs ahead is refused and sends nothing; a granted sample strobe goes to each tile named. -/
def Obligations.NativeCodeActsThroughItsRegisters : Prop :=
  ∀ (s : State) (ce : Fin 16) (p : BitVec 25) (v : Word),
    let e := engine s ce
    e.role ≠ 0 →
    (e.role ≠ 2 → exec (.nativeApertureStore ce p false false v) s = .next (outWrite s ce p.toNat v (clampQ e.nat.pq.toNat))) ∧
    (∀ hi narrow, hi = true ∨ narrow = true → exec (.nativeApertureStore ce p hi narrow v) s =
      .next (nativeTrap s ce 7 e.nat.pc (bv 32 (0x40000000 + 8 * p.toNat + (if hi then 4 else 0))))) ∧
    (∀ c a b, exec (.nativeException ce c a b) s = .next (nativeTrap s ce c a b)) ∧
    (e.role = 1 → e.roleSince + 2000000 ≤ s.t0 →
      exec (.nativeTimeout ce) s = .next (natNext (note s .nativeTimeout (0x10 + ce) e.roleProg 0 [1]) ce)) ∧
    (∀ r, e.running = some r → exec (.dlaskEnd ce) s = .next (endAsk s ce false) ∧ exec (.dlaskDiscard ce) s = .next (endAsk s ce true)) ∧
    (e.running = none → ∀ i, i = .dlaskEnd ce ∨ i = .dlaskDiscard ce → exec i s = .next (natNext s ce) ∧
      (e.natQueue = [] → exec i s = .next (setEngine s ce (fun e => { e with role := 0, waiting := true })))) ∧
    (∀ rd : Fin 32, exec (.dlpvalRead ce p rd) s =
      .next (setNat s ce (fun n => { (n.setX rd.val (nativeRead s ce p.toNat).1) with ptid := p, pq := bv 4 (nativeRead s ce p.toNat).2 }))) ∧
    (∀ q : BitVec 4, exec (.dlpvalWrite ce p q v) s = .next (nativePut (setNat s ce (fun n => { n with ptid := p, pq := q })) ce p.toNat v)) ∧
    (∀ rd : Fin 32, let t := ((s.t0 : Int) + (island s (0x10 + ce)).offset).toNat
      exec (.dlnowRead ce rd) s = .next (setNat s ce (fun n => { (n.setX rd.val (bv 32 t)) with nowHi := bv 32 (t / 2 ^ 32) }))) ∧
    (∀ (tiles : BitVec 4) (a : DWord), e.role = 3 →
      (a.toNat * 1000 < s.t0 + 10000 →
        exec (.dlstrbcSampleStrobe ce tiles a) s = .next (strobeReq s ce tiles a false true) ∧
        exec (.dlstrbcApplyStrobe ce tiles a) s = .next (strobeReq s ce tiles a true true)) ∧
      (strobeRefused s tiles (a.toNat * 1000) = false →
        (∃ t, exec (.dlstrbcSampleStrobe ce tiles a) s = .next t ∧ t.sched.strobesOut = s.sched.strobesOut ++
          (([0, 1, 2, 3] : List Nat).filter (fun n => tiles.getLsbD n)).map (fun n => (n, { due := a.toNat * 1000 }))) ∧
        (e.running = none → exec (.dlstrbcApplyStrobe ce tiles a) s = .next (strobeReq s ce tiles a true false))))

/-- With no transaction in the journal, the first that waits is written to the journal area and becomes the active one with the next TXSEQ, and the Pocket outside the journal area reads as before. At the commit of the active one, every byte of each entry stands at its target unless a later entry or the journal area covers it, the journal's COMMIT is cleared, no transaction is active and the transaction count rises. At a commit period a program's staging copy becomes a journal transaction while no release of the program is preempted. A draining step past its deadline is aborted as IMMEDIATE; a handshake past its time is ended with TIMEOUT. With no exchange, no firmware swap and no transition pending and the mode's least dwell time over, PROG_EXCHANGE of a staged image that passes its checks and PROG_REVERT of a kept one begin the exchange; EXCH_REPORT_GET answers 0 with the slot's report. In M11 an exchange that has not swapped and finds its quiet point now swaps there and is reported. With ten of the longest periods gone an exchange that has not ended ends with 0x0502 and is reported. From the first whole millisecond at least 500 µs after its end the device enters the mode of origin, and no exchange is left. -/
def Obligations.PocketStreamsAndPrograms : Prop :=
  (∀ (s : State),
     (∀ x q, s.pocket.active = none → s.pocket.queue = x :: q →
       ∃ t y, exec .journalTransaction s = .next t ∧ t.pocket.active = some y ∧ y = withHdrCrc s.pocket.mem x ∧ t.pocket.queue = q ∧
         t.pocket.txseq = (s.pocket.txseq + 1) % 2 ^ 32 ∧
         SameBut s.pocket.mem t.pocket.mem journalAt (journalImage y ((s.pocket.txseq + 1) % 2 ^ 32)).length) ∧
     (∀ x, s.pocket.active = some x →
       ∃ t, exec .journalCommit s = .next t ∧ t.pocket.active = none ∧ t.pocket.txns = (s.pocket.txns + 1) % 2 ^ 32 ∧
         mreads t.pocket.mem journalAt 4 = [0, 0, 0, 0] ∧
         (∀ a, (∀ e ∈ x.entries, a < e.1 ∨ e.1 + e.2.length ≤ a) → (a < journalAt ∨ journalAt + 4 ≤ a) → mread t.pocket.mem a = mread s.pocket.mem a)) ∧
     (∀ (k : Byte) (r : RetCopy), tfind s.sched.staging k.toNat = some r → s.t0 % (param s pCeRetainPeriod 0 * 1000000) = 0 →
       (∀ e ∈ s.sched.engines, ∀ x, e.2.preempted = some x → (task s x.task).prog ≠ k.toNat) →
       exec (.retainCommit k) s = .next (journalPut { s with sched := { s.sched with lastRetain := s.t0 } } false [(retainOff s k.toNat, retainBytes k.toNat r)])) ∧
     (∀ (k : Fin 16) (a : Nat), (stream s k).drain = some a → a + param s pStreamDrainDeadline k * 1000000 ≤ s.t0 →
       exec (.drainDeadline k) s = .next (setStream s k (fun d => { d with drain := none, abortReq := some 2, st := 6, reenter := none, enter := none }))) ∧
     (∀ (k : Fin 16) (e : Nat × OpSt) (l : List (Nat × OpSt)), childrenOf s (stream s k).handle = e :: l → e.2.kind = 6 → e.2.st = 1 →
       (let b := (recBlocks (stream s k).recipe 1 ((e.2.data[2]?).getD 0)).headD ⟨0, 0, 0, []⟩
        (e.2.data[1]?).getD 0 + (if (e.2.data[0]?).getD 0 = 0 then fld b.b 12 4 else fld b.b 16 4) * 1000 < s.t0) →
       exec (.handshakeTimeout k) s = .next (setStream (opEnd s (handleOf e.1 e.2) 6) k (fun d => { d with subFailed := true })))) ∧
  (∀ (s : State),
     (∀ r : Req,
       let k := fld r.payload 0 2
       let ok := noTarget r && fld r.payload 2 2 == 0
       (∀ b, Runs s r 0x0301 true [.idle, .run, .hold] 4 ok → s.sched.exch = none → s.fw.swapAt = none → s.mode.pend = none → dwellOk s = true →
         let s1 := begun s r 0x0301
         tfind s.deck.staged (imgKey 3 k) = some b → imageCheck s1 3 k 0 0 = 0 → exchCheck s1 k { Config.progImg b with gen := hdrGen b } = 0 →
         exec (.progExchange r) s = .next (beginExch s1 r 0x0301 k false b)) ∧
       (∀ i, Runs s r 0x0302 true [.idle, .run, .hold] 4 ok → s.sched.exch = none → s.fw.swapAt = none → s.mode.pend = none → dwellOk s = true →
         tfind s.deck.kept (imgKey 3 k) = some i → exec (.progRevert r) s = .next (beginExch (begun s r 0x0302) r 0x0302 k true i.bytes)) ∧
       (∀ x, Runs s r 0x0303 false allModes 4 ok → tfind s.sched.reports k = some x →
         exec (.exchReportGet r) s = .next (finish (begun s r 0x0303) r 0x0303 false 0 (reportBytes x)))) ∧
     (∀ x, s.sched.exch = some x →
       (∀ q, s.twin.exchAt = none → s.mode.cur = .update → x.swapped = none → x.ended = none → quietNow s x = some q →
         exec .exchangeSwap s = .next (exchReport (exchSwap (forward s 8 [x.slot, q] x.bytes) x q) x
           (exchCounts s x q (engine s (tget 0 s.sched.home x.slot)).mem (swapMem s x) (prog s x.slot)))) ∧
       (x.ended = none → x.entry + 10 * (progTasks s x.slot).foldl (fun a i => max a (periodNs s i)) 0 < s.t0 + swapNs x.img →
         ∃ t rep, exec .exchNoQuiet s = .next t ∧ tfind t.sched.reports x.slot = some rep ∧ rep.status = 0x0502) ∧
       (∀ a, x.ended = some a → s.mode.cur = .update → wholeMs a 500000 ≤ s.t0 →
         exec .exchangeReturn s = .next (enterMode { s with sched := { s.sched with exch := none } } s.mode.origin 6 (wholeMs a 500000)))))

/-! ### Control loops (R162-R197) -/

/-- At its release instant a present loop that runs has its release pending, not begun, with the overrun, missed and late flags cleared, or waiting behind a release that has begun; one that does not run, with no release begun, is shown in state 0. A free engine in service begins its ready release, if any, taking the four inputs. Past the input wait the release is marked INPUT_LATE; past the held time a HELD input counts as expired. Ten µs before the apply instant a release that has not begun is dropped and recorded as missed, and one that runs is marked and recorded as overrun. When the engine ends an overrun release, the loop keeps its output, its release is the one that waited behind it, if any, and the engine is free. -/
def Obligations.LoopReleaseCycle : Prop :=
  ∀ (s : State) (k : BitVec 9),
    let i := k.toNat
    let d := loop s i
    (d.present = true → s.rst.stage = 0 → s.t0 % 1000 = 0 → isRelease (s.t0 / 1000) (param s pLoopPeriod i) (param s pLoopPhase i) = true →
      let f := putFlag (putFlag (putFlag d.flags 15 false) 16 false) 17 false
      (d.begun = false → loopRuns s i = 0 → exec (.loopRelease k) s = .next (loopStatePoint (setLoop s i (fun d => { d with st := 0, rel := none })) i s.t0)) ∧
      (d.begun = false → loopRuns s i ≠ 0 → ∃ t, exec (.loopRelease k) s = .next t ∧ (loop t i).rel = some s.t0 ∧ (loop t i).begun = false ∧
        (loop t i).overrun = false ∧ (loop t i).flags = f ∧ (loop t i).u = d.u ∧ ∀ j, j ≠ i → loop t j = loop s j) ∧
      (d.begun = true → loopRuns s i ≠ 0 → exec (.loopRelease k) s = .next (setLoop s i (fun d => { d with nextRel := some s.t0, flags := f })))) ∧
    (∀ (le : Fin 8) (j : Nat), (loopEngine s le).running = none → (island s (0x20 + le)).inService = true → readyLoop s le = some j → param s pLoopLaw j ≠ 6 →
      ∃ t, exec (.loopBegin le) s = .next t ∧ (loopEngine t le).running = some j ∧ (loop t j).begun = true ∧
        (loop t j).pv = loopIn s ((loop s j).rel.getD 0) (param s pLoopPvSrc j)) ∧
    (∀ a, d.rel = some a →
      (d.begun = false → a + param s pLoopInputWait i * 1000 ≤ s.t0 →
        exec (.loopInputWaitExpiry k) s = .next (setLoop s i (fun d => { d with inputLate := true }))) ∧
      (a + loopNs s i ≤ s.t0 + 10000 → d.overrun = false →
        (d.begun = true → exec (.loopDeadline k) s = .next (note (loopStatePoint (setLoop s i (fun d => { d with overrun := true, flags := putFlag d.flags 16 true })) i
          (a + loopNs s i)) .loopOverrun (0x20 + i / 64) i 0 [a])) ∧
        (d.begun = false → exec (.loopDeadline k) s = .next (note (loopStatePoint (setLoop s i (fun d => { d with rel := none, flags := putFlag d.flags 17 true })) i
          (a + loopNs s i)) .loopMissed (0x20 + i / 64) i 0 [a])))) ∧
    (∀ (n : Fin 4) (a : Nat), (d.held[n.val]?).getD none = some a → a + param s pLoopHeldTime i * 1000000 ≤ s.t0 →
      exec (.heldTimeExpiry k n) s = .next (setLoop s i (fun d => { d with expired := d.expired.set n.val true }))) ∧
    (∀ (le : Fin 8) (j : Nat), (loopEngine s le).running = some j → (loopEngine s le).inLaw = false → (loop s j).overrun = true →
      (loop s j).bridge.running = false →
      ∃ t, exec (.loopEnd le) s = .next t ∧ (loopEngine t le).running = none ∧ (loop t j).rel = (loop s j).nextRel ∧ (loop t j).begun = false ∧ (loop t j).u = (loop s j).u)

/-- A tune in CHECK whose process is steady goes to SETTLE, and one not steady for 60 s aborts; a tune in SETTLE or MEASURE whose value leaves its limit aborts; SETTLE with three crossings goes to MEASURE; a MEASURE with consistent periods and amplitudes, periods not below 20 Ts and an amplitude above the hysteresis gives its result, restores the output and answers 0; past the tune time-out a tune aborts. LOOP_TUNE of a loop in AUTO with a usable value and no tune on its engine is accepted, with the loop in TUNING; LOOP_TUNE_RESULT answers the result; LOOP_FLAGS_CLEAR clears a loop's flags. On a silent tile a designated loop's bridge law starts on its grid with the last output; at a period the output computed one period before is applied, and with the band 0 and a usable value the seed waits as the next one; after 5 s the law expires. -/
def Obligations.LoopTuneAndBridge : Prop :=
  ∀ (s : State) (k : BitVec 9),
    let i := k.toNat
    let d := loop s i
    let tuned (x : TuneSt) : State := setLoop s i (fun d => { d with tune := some x })
    (∀ x, d.tune = some x →
      (x.phase = 1 → steady s i x = true → exec (.tuneCheckTimeout k) s = .next (tuned { x with phase := 2, hist := [], crossings := [], peaks := [] })) ∧
      (x.phase = 1 → steady s i x = false → x.accepted + 60000000000 ≤ s.t0 → exec (.tuneCheckTimeout k) s = .next (abortTune s i 0)) ∧
      (x.phase = 2 → excursion s i x = true → exec (.tuneSettleDone k) s = .next (abortTune s i 3)) ∧
      (x.phase = 2 → excursion s i x = false → 3 ≤ x.crossings.length →
        exec (.tuneSettleDone k) s = .next (tuned { x with phase := 3, crossings := x.crossings.drop (x.crossings.length - 1), peaks := [] })) ∧
      (x.phase = 3 → excursion s i x = false → 4 ≤ x.crossings.length → 3 ≤ x.peaks.length →
        let ps := ((diffs x.crossings).take 3).map (fun n => (n : Rat) / 1000000000)
        let am := (x.peaks.take 3).map (fun n => (n : Rat))
        consistent ps = true → consistent am = true → 20 * loopTs s i ≤ (ps.foldl (· + ·) 0 : Rat) / 3 →
        paramRat s pLoopTuneHyst i / 100 * (2 ^ 31 : Nat) < (am.foldl (· + ·) 0 : Rat) / 6 →
        ∃ t, exec (.tuneMeasureDone k) s = .next t ∧ (loop t i).u = x.u0 ∧ (loop t i).tune = some { x with phase := 4 } ∧ (loop t i).result.isSome = true) ∧
      ((x.phase = 1 ∨ x.phase = 2 ∨ x.phase = 3) → x.accepted + param s pLoopTuneTimeout i * 1000000000 ≤ s.t0 → exec (.tuneTimeout k) s = .next (abortTune s i 4))) ∧
    (∀ r : Req, r.target = 0 → fld r.payload 2 2 = 0 →
      let n := fld r.payload 0 2
      n < 512 →
      (Runs s r 0x0310 true allModes 4 true → ∃ t, exec (.loopFlagsClear r) s = .next t ∧ (loop t n).sticky = 0) ∧
      (Runs s r 0x0311 true [.maint] 4 true → (loop s n).present = true → (loop s n).st = 5 → usable (loop s n).pv.q ((loop s n).expired.headD false) = true →
        (∀ e ∈ s.loops, e.1 / 64 = n / 64 → e.2.tune = none) →
        ∃ t x, exec (.loopTune r) s = .next t ∧ (loop t n).st = 7 ∧ (loop t n).tune = some x ∧ x.accepted = s.t0 ∧ x.phase = 1) ∧
      (∀ x, Runs s r 0x0312 false allModes 4 true → (loop s n).result = some x → exec (.loopTuneResult r) s = .next (finish (begun s r 0x0312) r 0x0312 false 0
        (leBytes 4 x.ku.toNat ++ leBytes 4 x.tu.toNat ++ leBytes 4 x.amp.toNat ++ [bv 8 x.rule, 0, 0, 0] ++
          leBytes 4 x.kp.toNat ++ leBytes 4 x.ti.toNat ++ leBytes 4 x.td.toNat)))) ∧
    (d.present = true → flag s pLoopBridge i = true → (node s (bridgeTile s i)).silent = true → d.bridge.running = false → d.bridge.expired = false →
      s.t0 % (param s pLoopBrPeriod i * 1000) = 0 →
      ∃ t, exec (.bridgeLawStart k) s = .next t ∧ (loop t i).st = 8 ∧ (loop t i).bridge.running = true ∧ (loop t i).bridge.u = d.bridge.seedU) ∧
    (d.bridge.running = true → d.bridge.expired = false →
      (s.t0 % (param s pLoopBrPeriod i * 1000) = 0 → feq f32 (param s pLoopBrBand i) 0 = true →
        qAlways (qualOf (tget ((0 : Word), (0x200 : BitVec 16)) (bridgeApply (fieldNow s (bridgeTile s i) s.t0) i).img.field (param s pLoopPvSrc i)).2) = true →
        ∃ t, exec (.bridgePeriod k) s = .next t ∧ (loop t i).bridge.un = some d.bridge.seedU ∧ (loop t i).bridge.u = d.bridge.un.getD d.bridge.u) ∧
      (d.bridge.startAt + 5000000000 ≤ s.t0 →
        ∃ t, exec (.bridgeExpiry k) s = .next t ∧ (loop t i).st = 9 ∧ (loop t i).bridge.expired = true))

/-! ### The loop engine's instructions (R198-R225) -/

/-- While a loop engine runs law code outside a delay slot, and the register fields used are not reserved: each register instruction writes its result into its destination and changes no other register, no accumulator and no memory; the loads of the instruction before land, and the pc goes on. ADD, SUB, ADDI, NEG, ABS and SHL give the exact result, clamped to 32 bits with SV set under S and wrapped without S when it does not fit; MOV, AND, OR, XOR, ASR, LSR, MIN, MAX, MULI, LDI and LDIH give the value of their row; CMP and CMPI set LT and EQ. While a loop engine runs law code outside a delay slot: with no move in the word, MPY, MAC, MSU, MPYL, MACL and MSUL put P, acc + P, acc − P, and the same with P shifted right by 16, into the accumulator under S, and set SV when P was replaced; no register and no memory changes but the landing loads. P is twice the product of the upper (or, unsigned, the lower) half of RA and the lower half of RB, and 0x7FFFFFFF for −1 × −1. MOVE and DMOVE with both moves in mode [p] put the two words read in flight for their registers and change nothing else. -/
def Obligations.LoopAluAndMultiply : Prop :=
  (∀ (s : State) (le : Fin 8) (x : BitVec 25) (rd ra rb : Nat), LeAt s le →
     let e := loopEngine s le.val
     let w := x.toNat
     let b := leLanded e
     let S := w.testBit 24
     let A := e.main.rd ra
     let B := e.main.rd rb
     let put (v : Word) : Res := .next (leTo s le (b.wr rd v))
     let res (z : Int) : Res := .next (leTo s le (leRes b rd S z))
     let cmp (u v : Int) : Res := .next (leTo s le { b with lt := decide (u < v), eq := decide (u = v) })
     let imm := sfld w 11 0
     let n := fldBits w 4 0
     (e.home (fldBits w 17 12) = .ok ra →
       (fldBits w 23 18 = 0 → exec (.leCmpi le x) s = cmp A.toInt imm) ∧
       (fldBits w 23 18 = 0 → fldBits w 5 0 = 0 → e.home (fldBits w 11 6) = .ok rb → exec (.leCmp le x) s = cmp A.toInt B.toInt)) ∧
     (e.home (fldBits w 23 18) = .ok rd →
       exec (.leLdi le x) s = put (BitVec.ofInt 32 (sfld w 17 0)) ∧
       (fldBits w 17 16 = 0 → exec (.leLdih le x) s = put (bv 32 (fldBits w 15 0 * 65536 + (e.main.rd rd).toNat % 65536))) ∧
       (e.home (fldBits w 17 12) = .ok ra →
         exec (.leAddi le x) s = res (A.toInt + imm) ∧
         (fldBits w 11 5 = 0 →
           exec (.leShl le x) s = res (A.toInt * 2 ^ n) ∧
           exec (.leAsr le x) s = put (A.sshiftRight n) ∧ exec (.leLsr le x) s = put (A >>> n)) ∧
         (fldBits w 5 0 = 0 → e.home (fldBits w 11 6) = .ok rb →
           exec (.leMov le x) s = put A ∧
           exec (.leAdd le x) s = res (A.toInt + B.toInt) ∧ exec (.leSub le x) s = res (A.toInt - B.toInt) ∧
           exec (.leAnd le x) s = put (A &&& B) ∧ exec (.leOr le x) s = put (A ||| B) ∧ exec (.leXor le x) s = put (A ^^^ B) ∧
           exec (.leNeg le x) s = res (-A.toInt) ∧ exec (.leAbs le x) s = res A.toInt.natAbs ∧
           exec (.leMin le x) s = put (if A.toInt < B.toInt then A else B) ∧
           exec (.leMax le x) s = put (if A.toInt < B.toInt then B else A) ∧
           exec (.leMuli le x) s = put (BitVec.ofInt 32 ((A.setWidth 16).toInt * (B.setWidth 16).toInt)))))) ∧
  (∀ (s : State) (le : Fin 8) (x : BitVec 28), LeAt s le →
     let e := loopEngine s le.val
     let w := x.toNat
     let b := leLanded e
     let reg (n : Nat) : Nat := if w.testBit 25 then e.wPhys n else n
     (fldBits w 11 10 = 0 → fldBits w 3 2 = 0 →
       let k := fldBits w 26 26
       let S := w.testBit 27
       let acc : Int := (e.main.a[k]?).getD 0
       let ra := e.main.rd (reg (fldBits w 24 21))
       let u : Int := if w.testBit 20 then (ra.toNat % 65536 : Nat) else (ra.extractLsb 31 16).toInt
       let v : Int := ((e.main.rd (reg (fldBits w 19 16))).setWidth 16).toInt
       let repl := decide (u = -32768 ∧ v = -32768)
       let P : Int := if repl then 0x7FFFFFFF else u * v * 2
       let res (z : Int) : Res := .next (leTo s le (let c := leAcc b k S z; { c with sv := c.sv || repl }))
       exec (.leMpy le x) s = res P ∧ exec (.leMac le x) s = res (acc + P) ∧ exec (.leMsu le x) s = res (acc - P) ∧
       exec (.leMpyl le x) s = res (P / 65536) ∧ exec (.leMacl le x) s = res (acc + P / 65536) ∧
       exec (.leMsul le x) s = res (acc - P / 65536)) ∧
     (fldBits w 27 26 = 0 → fldBits w 24 16 = 0 → fldBits w 11 10 = 1 → fldBits w 3 2 = 1 →
       let p1 := (e.main.p[fldBits w 14 12]?).getD 0
       let p2 := (e.main.p[fldBits w 6 4]?).getD 0
       let fly (v1 v2 : Word) : Res := .next (leTo s le { b with loads := [(reg (fldBits w 9 7), v1), (reg (fldBits w 1 0 + 12), v2)] })
       (∀ v1 v2, e.load (fldBits w 15 15) p1 = .ok v1 → e.load 2 p2 = .ok v2 → exec (.leMove le x) s = fly v1 v2) ∧
       (∀ v1 v2, fldBits w 15 15 = 0 → e.load 0 p1 = .ok v1 → e.load 1 p2 = .ok v2 → exec (.leDmove le x) s = fly v1 v2)))

/-- While a loop engine runs law code outside a delay slot, and the register field used is not reserved: each accumulator instruction changes the accumulator it names, or the register it stores into, or the compare flags, with SV and AS set where a result is clamped and AV where it wraps; nothing else changes but the landing loads and the pc. CLR, LDA, ADDA, SUBA, ADDAA, MOVAA, ASHA, ASHR (the shift clamped to −31 to 15), SATA, RNDA and LDG change an accumulator; STA and STG store; CMPA compares. STA, STG, CMPA and the source of MOVAA read the accumulator as it stood before the instruction before. -/
def Obligations.LoopAccumulatorArithmetic : Prop :=
  ∀ (s : State) (le : Fin 8) (x : BitVec 25) (r : Nat), LeAt s le → fldBits x.toNat 16 6 = 0 →
    let e := loopEngine s le.val
    let w := x.toNat
    let b := leLanded e
    let S := w.testBit 24
    let k := fldBits w 23 23
    let acc (i : Nat) : Int := (e.main.a[i]?).getD 0
    let late (i : Nat) : Int := (e.main.aOld[i]?).getD 0
    let put (z : Int) : Res := .next (leTo s le { b with a := b.a.set k z })
    let res (z : Int) : Res := .next (leTo s le (leAcc b k S z))
    let sh (z n : Int) : Int := if 0 ≤ n then z * 2 ^ n.toNat else z / 2 ^ (-n).toNat
    let n := sfld w 5 0
    let m := fldBits w 5 0
    exec (.leClr le x) s = put 0 ∧ exec (.leMovaa le x) s = put (late (1 - k)) ∧
    exec (.leAddaa le x) s = res (acc k + acc (1 - k)) ∧
    (-31 ≤ n → n ≤ 15 → exec (.leAsha le x) s = res (sh (acc k) n)) ∧
    (1 ≤ m → m ≤ 31 → exec (.leRnda le x) s = res ((acc k + 2 ^ (m - 1)) / 2 ^ m)) ∧
    exec (.leSata le x) s = (if -2147483648 ≤ acc k ∧ acc k ≤ 2147483647 then put (acc k)
      else .next (leTo s le { b with a := b.a.set k (if 0 < acc k then 2147483647 else -2147483648), sv := true })) ∧
    (e.home (fldBits w 22 17) = .ok r →
      let A := e.main.rd r
      exec (.leLda le x) s = put A.toInt ∧
      exec (.leAdda le x) s = res (acc k + A.toInt) ∧ exec (.leSuba le x) s = res (acc k - A.toInt) ∧
      exec (.leAshr le x) s = res (sh (acc k) (max (-31) (min 15 (sfld A.toNat 5 0)))) ∧
      exec (.leLdg le x) s = put (BitVec.ofInt 40 ((A.toNat % 256 : Nat) * 2 ^ 32 + acc k % 2 ^ 32)).toInt ∧
      exec (.leSta le x) s = .next (leTo s le (leRes b r S (late k))) ∧
      exec (.leStg le x) s = .next (leTo s le (b.wr r (BitVec.ofInt 32 (late k / 2 ^ 32)))) ∧
      exec (.leCmpa le x) s = .next (leTo s le { b with lt := decide (late k < A.toInt), eq := decide (late k = A.toInt) }))

/-- While a loop engine runs law code outside a delay slot and no field is reserved: LD in mode [p] and LDD put the word read in flight for its register; ST in mode [p] and STD write the register to 4 bytes of X or Y or its lower half to 2 bytes of C at the address, every other byte of that memory and the two other memories reading as before; a load or store outside the running loop's blocks is fault 5. STEPP with linear modification and a positive step adds it to the address register modulo 2^14; WROT moves the window base modulo 64; MOVP to ST changes nothing, and MOVP from an address register reads it into a register; NOP changes nothing. In each case the loads of the instruction before land and the pc goes on. While a loop engine runs law code outside a delay slot and outside a REP body: BR whose condition holds on the flags two instructions back, CALL (with fewer than 4 return addresses held) and RET (with one held) open a delay slot after which the target is taken; BR whose condition fails opens one without a target; CALL pushes the address after its delay slot, RET pops. REP repeats the next LEN instructions N times, N = 0 skipping them. RTI in a handler returns to the main bank, and in law code is fault 2. A taken fast interrupt selects the shadow bank and changes nothing of the main bank. A law that has run CYCLES + 16 cycles is stopped with fault 8; in law code a reserved opcode is fault 1 and a frame opcode fault 2, and with the pc outside the image either is fault 0x0B, as any instruction is. -/
def Obligations.LoopMemoryAndFlow : Prop :=
  (∀ (s : State) (le : Fin 8) (x : BitVec 25) (r : Nat), LeAt s le →
     let e := loopEngine s le.val
     let w := x.toNat
     let b := leLanded e
     let bus := fldBits w 17 16
     let stored (i : Instr) (a : Nat) : Prop :=
       let v := (e.main.rd r).toNat
       ∃ mx my mc, exec i s = .next (leTo s le b (fun d => { d with x := mx, y := my, c := mc })) ∧
         (if bus = 0 then mreads mx (4 * a) 4 = leBytes 4 v ∧ SameBut e.x mx (4 * a) 4 else mx = e.x) ∧
         (if bus = 1 then mreads my (4 * a) 4 = leBytes 4 v ∧ SameBut e.y my (4 * a) 4 else my = e.y) ∧
         (if bus = 2 then mreads mc (2 * a) 2 = leBytes 2 v ∧ SameBut e.c mc (2 * a) 2 else mc = e.c)
     (fldBits w 23 0 = 0 → exec (.leNop le x) s = .next (leTo s le b)) ∧
     (fldBits w 23 6 = 0 → exec (.leWrot le x) s = .next (leTo s le { b with wb := (e.main.wb + fldBits w 5 0) % 64 })) ∧
     (let n := fldBits w 23 21
      let m := ((e.main.m[n]?).getD 0).toNat
      fldBits w 19 0 = 0 → w.testBit 20 = false → fldBits m 31 30 = 0 → m < 32768 →
       exec (.leStepp le x) s = .next (leTo s le { b with p := b.p.set n (((e.main.p[n]?).getD 0 + m) % 16384) })) ∧
     (e.home (fldBits w 17 12) = .ok r → fldBits w 11 0 = 0 →
       (w.testBit 18 = false → fldBits w 20 19 = 3 → exec (.leMovp le x) s = .next (leTo s le b)) ∧
       (w.testBit 18 = true → fldBits w 20 19 = 0 → e.main.movp = none →
         exec (.leMovp le x) s = .next (leTo s le (b.wr r (bv 32 ((e.main.p[fldBits w 23 21]?).getD 0)))))) ∧
     (e.home (fldBits w 23 18) = .ok r → bus ≠ 3 →
       let d := fldBits w 13 0
       let p := (e.main.p[fldBits w 14 12]?).getD 0
       (fldBits w 15 14 = 0 →
         (∀ v, e.load bus d = .ok v → exec (.leLdd le x) s = .next (leTo s le { b with loads := [(r, v)] })) ∧
         (e.addrOk bus d = true → stored (.leStd le x) d) ∧
         (e.addrOk bus d = false →
           exec (.leLdd le x) s = .next (lawFault s le.val 5 e.pc (0x03 * 2 ^ 25 + w)) ∧
           exec (.leStd le x) s = .next (lawFault s le.val 5 e.pc (0x04 * 2 ^ 25 + w)))) ∧
       (w.testBit 15 = false → fldBits w 11 10 = 0 →
         (∀ v, e.load bus p = .ok v → exec (.leLd le x) s = .next (leTo s le { b with loads := [(r, v)] })) ∧
         (e.addrOk bus p = true → stored (.leSt le x) p)))) ∧
  (∀ (s : State) (le : Fin 8) (x : BitVec 25),
     let e := loopEngine s le.val
     let w := x.toNat
     let b := leLanded e
     let goes (f : LoopEng → LoopEng) : Res := .next (leTo s le b f)
     let fault (code word : Nat) : Res := .next (lawFault s le.val code e.pc word)
     (LeAt s le → e.rep = none →
       (∀ c, fldBits w 20 13 = 0 → leCond e.main (fldBits w 23 21) = .ok c →
         exec (.leBr le x) s = goes (fun d => { d with slot := some (if c then some (fldBits w 12 0) else none) })) ∧
       (fldBits w 23 13 = 0 → e.link.length < 4 →
         exec (.leCall le x) s = goes (fun d => { d with link := (e.pc + 2) :: e.link, slot := some (some (fldBits w 12 0)) })) ∧
       (∀ a l, fldBits w 23 0 = 0 → e.link = a :: l → exec (.leRet le x) s = goes (fun d => { d with link := l, slot := some (some a) })) ∧
       (fldBits w 5 0 = 0 → w.testBit 23 = false →
         exec (.leRep le x) s = .next (setLe s le.val (fun d => { d with
           main := leAged d b, pc := d.pc + 1, cycles := d.cycles + 1
           rep := some ⟨fldBits w 22 13 + 1, e.pc + 1, e.pc + fldBits w 12 7 + 1, w.testBit 6⟩ }))) ∧
       (∀ r, fldBits w 5 0 = 0 → w.testBit 23 = true → fldBits w 16 13 = 0 → e.home (fldBits w 22 17) = .ok r → (e.main.rd r).toNat % 65536 = 0 →
         exec (.leRep le x) s = goes (fun d => { d with pc := d.pc + fldBits w 12 7 + 1 })) ∧
       exec (.leRti le x) s = fault 2 (0x34 * 2 ^ 25 + w)) ∧
     (e.shd = true → e.shadow.loads = [] → e.shadow.movp = none →
       exec (.leRti le x) s = .next (setLe s le.val (fun d => { d with shd := false }))) ∧
     (∀ i, e.shd = false → e.slot = none → e.running ≠ none →
       exec (.fastInterrupt le i) s = .next (setLe s le.val (fun d => { d with shd := true, shadow := { d.shadow with loads := [], movp := none } }))) ∧
     (e.inLaw = true → e.ctx.cycles + 16 ≤ e.cycles → exec (.lawBudget le) s = fault 8 (lawWord s e)) ∧
     (∀ word : Word, e.inLaw = true → e.shd = false →
       let op := word.toNat / 2 ^ 25
       let out := e.pc < e.ctx.lo ∨ e.ctx.lo + e.ctx.words ≤ e.pc
       ((op = 0x26 ∨ op = 0x27 ∨ (0x2B ≤ op ∧ op ≤ 0x2F)) → exec (.leIllegalOpcode le word) s = fault (if out then 0x0B else 1) word.toNat) ∧
       (0x34 ≤ op → op ≤ 0x3F → exec (.leIllegalOpcode le word) s = fault (if out then 0x0B else 2) word.toNat)) ∧
     (e.inLaw = true → e.shd = false → e.ctx.lo + e.ctx.words ≤ e.pc → exec (.leNop le x) s = fault 0x0B w))

/-! ### Motion profiles and axes (R226-R254) -/

/-- At a whole multiple of 100 µs, outside a restart stage, an engine in service that has not ticked for this instant runs its sixteen profiles in order, then the coupled profiles by their depth under a master, then sends each profile's segment, publishes its facets and checkpoints its operation. A homing that has lasted HOME_TIMEOUT fails with code 4 and asks for a PROFILE stop; before that nothing changes. The oldest batch for a tile leaves the queue and its stop tail is stored. Segments join the buffer of an unlocked axis, are dropped by a locked one, and replace the buffer and unlock the axis under RESYNC; a batch without segments orders the stop. At a segment boundary the next segment starts if its start and SEQ are as expected; otherwise, or with an empty buffer, the stop tail runs. Every 200 ns the microstep index becomes the nearest integer of the position, and a coasting axis keeps its index. A stop that has run its phases ends at rest. -/
def Obligations.MotionTicksAndTileAxes : Prop :=
  (∀ (s : State),
     (∀ me : Fin 4, s.t0 % 100000 = 0 → s.rst.stage = 0 → (island s (0x28 + me.val)).inService = true → tget 0 s.motion.ticked me.val ≠ s.t0 + 1 →
       let ps := (List.range 16).map (fun k => 16 * me.val + k)
       let s1 : State := { s with motion := { s.motion with ticked := tset s.motion.ticked me.val (s.t0 + 1) } }
       let s2 := ps.foldl (fun u i => pfTick u i s.t0) s1
       let s3 := (List.range 17).foldl (fun u n => (ps.filter (fun i => coupleDepth u 17 i == n)).foldl
         (fun u i => coupleTick u i s.t0 (s.t0 + pfLead u i)) u) s2
       exec (.motionTick me) s = .next (ps.foldl (fun u i =>
         let v := sendSeg u i s.t0 (s.t0 + pfLead u i)
         moveCkpt (pfPoints v i s.t0 (s.t0 + pfLead u i)) i s.t0) s3)) ∧
     (∀ (ax : Fin 32) (h : HomeSt), (prof s (profOf ax.val)).home = some h →
       (h.started + param s pAxisHomeTimeout ax.val * 1000000000 ≤ s.t0 →
         exec (.homeTimeout ax) s = .next (setProf (homeEnd s (profOf ax.val) 4) (profOf ax.val) (fun d => { d with stopReq := some 0, st := 8 }))) ∧
       (s.t0 < h.started + param s pAxisHomeTimeout ax.val * 1000000000 → exec (.homeTimeout ax) s = .next s))) ∧
  (∀ (s : State),
     (∀ (tile : Fin 4) (b : Batch), s.motion.out.find? (fun e => e.1 == tile.val) = some (tile.val, b) →
       let d := axis s b.axis
       (b.segs ≠ [] → d.drv ≠ 5 → ∃ t, exec (.segmentBatchReceive tile) s = .next t ∧
         t.motion.out = s.motion.out.erase (tile.val, b) ∧ (axis t b.axis).stopA = b.stopA ∧ (axis t b.axis).stopJ = b.stopJ ∧
         (b.resync = true → (axis t b.axis).buf = b.segs ∧ (axis t b.axis).locked = false ∧ (axis t b.axis).stop = none ∧ (axis t b.axis).cur = none) ∧
         (b.resync = false → (axis t b.axis).locked = d.locked ∧ (axis t b.axis).buf = if d.locked then d.buf else d.buf ++ b.segs)) ∧
       (b.segs = [] → exec (.segmentBatchReceive tile) s = .next (tileStop
         (setAxis { s with motion := { s.motion with out := s.motion.out.erase (tile.val, b) } } b.axis
           (fun d => { d with stopA := b.stopA, stopJ := b.stopJ, stopHard := false, after := b.after }))
         b.axis b.hard b.after (ratOf b.stopA.toNat) (ratOf b.stopJ.toNat)))) ∧
     (∀ ax : Fin 32,
       let x := ax.val
       let d := axis s x
       (d.locked = false → d.stop = none → d.endT ≤ s.t0 →
         (∀ g r, d.buf = g :: r → g.start = d.endT → g.seq = (d.lastSeq + 1) % 65536 → (g.rest = false ∨ d.atRest = true) →
           ∃ t, exec (.segmentStart ax) s = .next t ∧ (axis t x).cur = some g ∧ (axis t x).buf = r ∧ (axis t x).endT = g.start + 100000 ∧ (axis t x).lastSeq = g.seq) ∧
         (∀ g r, d.buf = g :: r → (g.start ≠ d.endT ∨ g.seq ≠ (d.lastSeq + 1) % 65536) →
           exec (.segmentStart ax) s = .next (note (tailStop s x) Ev.segDiscont (0x60 + x / 8) x 0 [g.seq, d.lastSeq])) ∧
         (d.buf = [] → exec (.segmentStart ax) s = .next (tailStop (setAxis s x (fun d => { d with underrun := true })) x))) ∧
       (s.t0 % 200 = 0 → ∃ t, exec (.microstepUpdate ax) s = .next t ∧
         (axis t x).pos = (if d.drv = 5 then d.pos else nearOf (d.at_ s.t0).1)) ∧
       (s.t0 % 200 ≠ 0 → exec (.microstepUpdate ax) s = .next s) ∧
       (∀ q, d.stop = some q →
         (phasesLen q.phases ≤ ((s.t0 - q.start : Nat) : Rat) / 1000000000 →
           exec (.stopComplete ax) s = .next (axisRest (setAxis s x (fun d => { d with
             stop := none
             pos := nearOf (runPhases q.phases (phasesLen q.phases) q.p q.v q.a).1 })) x q.after)) ∧
         (((s.t0 - q.start : Nat) : Rat) / 1000000000 < phasesLen q.phases → exec (.stopComplete ax) s = .next s))))

/-- An active limit that is not latched latches and is recorded; where motion or a buffered segment goes toward it and its channel is on the axis's tile, the axis stops with LIM_STOP. A latched limit clears only after a microstep away and LIM_DEBOUNCE of inactivity; otherwise nothing changes. LIMIT_CHATTER clears after 1 s without a transition and is recorded. An axis disabled longer than DISABLE_DEADLINE that is not at rest stops HARD with its driver to go off, and the overrun is recorded. -/
def Obligations.LimitsLatchAndDisableDeadline : Prop :=
  ∀ (s : State) (ax : Fin 32),
    let x := ax.val
    let d := axis s x
    (∀ lim : Fin 2,
      let l := limOf d lim.val
      (l.active = true → l.latched = false →
        let sg : Rat := if lim.val = 0 then -1 else 1
        let toward := decide (0 < sg * (d.at_ s.t0).2.1) || d.buf.any (fun g => decide (0 < sg * ratOf g.v0.toNat))
        let here := decide (param s (if lim.val = 0 then pAxisLimNegCh else pAxisLimPosCh) x / 128 = x / 8)
        let s1 := note (setLim s x lim.val (fun l => { l with latched := true, away := false })) Ev.axisLimit (0x60 + x / 8) x 0
          [lim.val, (w32 (nearOf (d.at_ s.t0).1 + d.offset)).toNat, f32OfRat (d.at_ s.t0).2.1]
        ((toward && here) = false → exec (.limitLatch ax lim) s = .next s1 ∧ (limOf (axis s1 x) lim.val).latched = true) ∧
        ((toward && here) = true → exec (.limitLatch ax lim) s = .next (paramStop s1 x (decide (param s pAxisLimStop x = 0)) 0))) ∧
      (l.active = false ∨ l.latched = true → exec (.limitLatch ax lim) s = .next s) ∧
      (l.latched = true → l.away = true → l.active = false → l.since + param s pAxisLimDebounce x * 1000 ≤ s.t0 →
        ∃ t, exec (.limitLatchClear ax lim) s = .next t ∧ (limOf (axis t x) lim.val).latched = false) ∧
      (l.away = false ∨ l.active = true ∨ s.t0 < l.since + param s pAxisLimDebounce x * 1000 → exec (.limitLatchClear ax lim) s = .next s) ∧
      (l.chatter = true → l.since + 1000000000 ≤ s.t0 →
        exec (.limitChatterClear ax lim) s = .next (note (setLim s x lim.val (fun l => { l with chatter := false, trans := [] }))
          Ev.limitChatter (0x60 + x / 8) x 0 [lim.val, 0]))) ∧
    (∀ a, (prof s (profOf x)).disableAt = some a → d.atRest = false → a + param s pAxisDisableDeadline x * 1000000 ≤ s.t0 →
      exec (.axisDisableDeadline ax) s = .next (note (paramStop s x true 1) Ev.axisDisableOverrun (0x60 + x / 8) x 0 [(s.t0 - a) / 1000]))

/-- When blanking is over, the sensed current is kept, a short is marked, and an overshoot in drive is counted. At the target the off time begins through the dead time, or at 100 µs of drive without it, with an open coil or low current counted. Fast decay lasts FAST_FRAC of T_OFF; after T_OFF a phase with a non-zero target passes to drive. After the dead time the next bridge state is driven, blanked after drive and fast decay. In HYSTERESIS a driving phase above its upper threshold passes to fast decay and a decaying one below its lower threshold to drive; at a completed quarter the offset moves by half the mean error, limited to half the width. Sixteen overshoots switch an AUTO axis to HYSTERESIS, and rest switches it back. A coil fault turns the driver off in fault, locks the axis and loses the reference; low current for more than 10 ms in motion loses the reference too. After HOLD_DELAY at rest the current ramps to hold; a ramp's end gives hold, run, or driver off. -/
def Obligations.ChoppersRegulateCoils : Prop :=
  (∀ (s : State) (ax : Fin 32) (b : Fin 2),
     let x := ax.val
     let p := phaseOf s x b
     (∀ i : Int, p.blank = true → (p.st = 1 ∨ p.st = 2) → p.since + param s pAxisTBlank x ≤ s.t0 →
       ∃ t, exec (.chopBlankEnd ax b i) s = .next t ∧ (phaseOf t x b).blank = false ∧ (phaseOf t x b).sensed = i ∧ (phaseOf t x b).st = p.st ∧
         (phaseOf t x b).flt = (if paramRat s pAxisIRun x * 3 / 2 < magA i ∨ iFs s x ≤ magA i then 1 else p.flt) ∧
         (p.st = 1 → (axis s x).chop = 1 → (phaseOf t x b).overN = if targetA s x p + paramRat s pAxisIRun x / 20 < magA i then p.overN + 1 else 0)) ∧
     (∀ i : Int, p.st = 1 → p.blank = false → (axis s x).chop = 1 → targetA s x p ≤ magA i →
       ∃ t, exec (.chopCurrentReached ax b i) s = .next t ∧ (phaseOf t x b).st = 4 ∧ (phaseOf t x b).offAt = s.t0 ∧ (phaseOf t x b).since = s.t0 ∧
         (phaseOf t x b).next = (if param s pAxisFastFrac x = 0 then 3 else 2) ∧ (phaseOf t x b).reachN = p.reachN + 1) ∧
     (∀ i : Int, p.st = 1 → p.blank = false → p.since + 100000 ≤ s.t0 →
       ∃ t, exec (.chopOnMaxTimeout ax b i) s = .next t ∧ (phaseOf t x b).st = 4 ∧ (phaseOf t x b).offAt = s.t0 ∧ (phaseOf t x b).reachN = 0 ∧
         (paramRat s pAxisIRun x / 5 < targetA s x p → magA i < targetA s x p / 10 → (phaseOf t x b).openN = p.openN + 1)) ∧
     (p.st = 2 → (axis s x).chop = 1 → p.offAt + param s pAxisTOff x * param s pAxisFastFrac x / 100 ≤ s.t0 →
       exec (.chopFastDecayEnd ax b) s = .next (setPhase s x b (passTo s 3))) ∧
     (p.st = 3 ∨ p.st = 2 → (axis s x).chop = 1 → p.target ≠ 0 → p.offAt + param s pAxisTOff x ≤ s.t0 →
       exec (.chopOffEnd ax b) s = .next (setPhase s x b (passTo s 1))) ∧
     ((p.st = 3 ∨ p.st = 2) → p.target = 0 → exec (.chopOffEnd ax b) s = .next s) ∧
     (p.st = 4 → p.since + param s pAxisDeadTime x ≤ s.t0 → ∃ t, exec (.chopDeadTimeEnd ax b) s = .next t ∧
       (phaseOf t x b).st = p.next ∧ (phaseOf t x b).since = s.t0 ∧ (phaseOf t x b).blank = decide (p.next = 1 ∨ p.next = 2))) ∧
  (∀ (s : State) (ax : Fin 32),
     let x := ax.val
     let d := axis s x
     (∀ (b : Fin 2) (i : Int), d.chop = 2 →
       let p := phaseOf s x b
       p.blank = false → p.target ≠ 0 →
       let y : Rat := (if p.target < 0 then -(i : Rat) else (i : Rat)) / 1000000
       (p.st = 1 → targetA s x p + p.theta + halfH s x ≤ y → exec (.hystThreshold ax b i) s = .next (setPhase (sense s x b i) x b (passTo s 2))) ∧
       (p.st = 2 → y ≤ targetA s x p + p.theta - halfH s x → exec (.hystThreshold ax b i) s = .next (setPhase (sense s x b i) x b (passTo s 1)))) ∧
     (∀ (b : Fin 2) (m : Int), d.chop = 2 → (phaseOf s x b).quarters ≠ 0 →
       ∃ t, exec (.hystQuarterAdapt ax b m) s = .next t ∧ (phaseOf t x b).quarters = 0 ∧
         (let n := (phaseOf s x b).theta - (m : Rat) / 2000000
          (phaseOf t x b).theta = if halfH s x < n then halfH s x else if n < -halfH s x then -halfH s x else n)) ∧
     (param s pAxisChopMode x = 0 → d.chop = 1 → (16 ≤ d.pa.overN ∨ 16 ≤ d.pb.overN) →
       ∃ t, exec (.chopFallback ax) s = .next t ∧ (axis t x).chop = 2 ∧ (axis t x).pa.overN = 0 ∧ (axis t x).pb.overN = 0) ∧
     (param s pAxisChopMode x = 0 → d.chop = 2 → d.atRest = true → ∃ t, exec (.chopReturn ax) s = .next t ∧ (axis t x).chop = 1) ∧
     ((d.pa.flt ≠ 0 ∨ d.pb.flt ≠ 0) → d.drv ≠ 5 → ∃ t, exec (.coilFault ax) s = .next t ∧ (axis t x).drv = 5 ∧ (axis t x).locked = true ∧
       (axis t x).buf = [] ∧ (axis t x).cur = none ∧ (axis t x).referenced = false ∧ (axis t x).pos = d.pos) ∧
     (∀ l, d.lowSince = some l → d.atRest = false → d.referenced = true → l + 10000000 < s.t0 →
       ∃ t, exec (.iLowTimeout ax) s = .next t ∧ (axis t x).referenced = false) ∧
     (d.drv = 2 → d.atRest = true → d.ramp = none → d.restAt + param s pAxisHoldDelay x * 1000000 ≤ s.t0 →
       ∃ t, exec (.holdDelayExpiry ax) s = .next t ∧ (axis t x).ramp = some (magNow s x, iHold s x, s.t0, param s pAxisHoldRamp x * 1000000)) ∧
     (∀ a b t0 n, d.ramp = some (a, b, t0, n) → t0 + n ≤ s.t0 →
       (d.drv ≠ 4 → ∃ t, exec (.currentRampEnd ax) s = .next t ∧ (axis t x).cur_ = b ∧ (axis t x).ramp = none ∧ (axis t x).drv = if d.atRest then 3 else 2) ∧
       (d.drv = 4 → exec (.currentRampEnd ax) s = .next (driverOff s x) ∧ (axis (driverOff s x) x).drv = 0)))

/-! ### Channels, groups, analog channels, encoders (R269-R309) -/

/-- A pin change of an input is taken as its raw state with its instant; with FILTER 0 it is the filtered state at once, otherwise the filtered state follows after the raw state has held for FILTER. The filtered state counts its rising edges. A change back to full current is recorded. After STEPDOWN_TIME on, the step-down flag is set and recorded. The wire-break flag of an enabled input follows whether the measured current is below 0.25 mA, but not while the group's supply is lost. An output that is on is switched off by overload, latched or waiting for a retry as OVL_RETRY says, and by over-temperature, latched at the eighth shutdown in 10 s; the flag is set, the facet shows the figure and the event is recorded. It returns after RETRY_PERIOD or below 140 °C while its command is 1. A pair is one channel under its even number, and its imbalance flag follows the detection. A group above 1650 mA, or a tile above 12500 mA, sheds the output switched on last; below release shedding ends. -/
def Obligations.ChannelInputsAndProtection : Prop :=
  (∀ (s : State) (c : BitVec 9), isIn s c.toNat = true →
     let i := c.toNat
     let d := chan s i
     (∀ v : Bool, d.raw ≠ v → ∃ t, exec (.inputPinChange c v) s = .next t ∧ (chan t i).raw = v ∧ (chan t i).rawSince = s.t0 ∧
       (chan t i).filt = (if param s pChFilter i = 0 then v else d.filt)) ∧
     (exec (.inputPinChange c d.raw) s = .next s) ∧
     (d.rawSince + param s pChFilter i * 1000 ≤ s.t0 → ∃ t, exec (.filteredStateChange c) s = .next t ∧ (chan t i).filt = d.raw ∧
       (chan t i).edges = if d.raw = true ∧ d.filt = false then d.edges + 1 else d.edges) ∧
     (s.t0 < d.rawSince + param s pChFilter i * 1000 → exec (.filteredStateChange c) s = .next s) ∧
     (d.raw = true → d.flags.testBit 15 = false → param s pChStepdownTime i ≠ 0 → d.rawSince + param s pChStepdownTime i * 1000000 ≤ s.t0 →
       exec (.stepdown c) s = .next (note (chFlag s i 15 true) Ev.chStepdown (0x60 + i / 128) i 0 [1])) ∧
     (∀ ma : Word, flag s pChWbEnable i = true →
       ((grp s (i / 8)).lost = false → exec (.wireBreakTimeout c ma) s = .next
         (chAxes (chFlag (putField s (chPt i 3) ma) i 3 (flt f32 ma.toNat 0x3E800000)) i)) ∧
       ((grp s (i / 8)).lost = true → exec (.wireBreakTimeout c ma) s = .next s))) ∧
  (∀ (s : State) (n : BitVec 9),
     let c := chKey s n.toNat
     let d := chan s c
     (∀ ma : Word, isOut s c = true → d.on = true →
       exec (.overloadTimeout n ma) s = .next (note (chRefresh (chFlag
         (setChan (putField s (chPt c 3) ma) c (fun d => { d with latch := if param s pChOvlRetry c = 0 then 1 else 2, latchAt := s.t0 })) c 0 true) c)
         Ev.chOverload (0x60 + c / 128) c 0 [ma.toNat])) ∧
     (∀ temp : Word, isOut s c = true → d.on = true →
       let ts := (d.thermals ++ [s.t0]).filter (fun t => decide (s.t0 ≤ t + 10000000000))
       exec (.overTemp n temp) s = .next (note (chRefresh (chFlag
         (setChan (putField s (chPt c 5) temp) c (fun d => { d with latch := if 8 ≤ ts.length then 1 else 3, latchAt := s.t0, thermals := ts })) c 1 true) c)
         Ev.chOvertemp (0x60 + c / 128) c 0 [temp.toNat])) ∧
     (∀ temp : Word, isOut s c = true → d.latch = 3 → d.cmd = true →
       exec (.overTempRecover n temp) s = .next (chRefresh (setChan (putField s (chPt c 5) temp) c (fun d => { d with latch := 0 })) c)) ∧
     (d.latch = 2 → d.cmd = true →
       (d.latchAt + param s pChRetryPeriod c * 1000000 ≤ s.t0 → exec (.overloadRetry n) s = .next (chRefresh (setChan s c (fun d => { d with latch := 0 })) c)) ∧
       (s.t0 < d.latchAt + param s pChRetryPeriod c * 1000000 → exec (.overloadRetry n) s = .next s)) ∧
     (∀ on : Bool, param s pChMode c = 4 → ∃ t, exec (.pairImbalance n on) s = .next t ∧ (chan t c).flags.testBit 14 = on ∧ (chan t c).on = d.on) ∧
     (∀ (u : Fin 68) (ma k : Nat),
       let lim := if u.val < 64 then 1650 else 12500
       let rel := if u.val < 64 then 1500 else 12000
       (ma < rel → ∃ t, exec (.groupShed u ma) s = .next t ∧ (grp t u.val).shedding = false ∧ t.io.ch = s.io.ch) ∧
       (lim < ma → ((grp s u.val).shedding = true → (grp s u.val).shedAt + 1000000 ≤ s.t0) →
         shedPick s (fun c => if u.val < 64 then c / 8 == u.val else c / 128 == u.val - 64) = some k →
         exec (.groupShed u ma) s = .next (note (chRefresh (chFlag (setChan
           (setGrp s u.val (fun g => { g with shedding := true, shedAt := s.t0 })) k
           (fun d => { d with latch := if param s pChOvlRetry k = 0 then 1 else 2, latchAt := s.t0 })) k 12 true) k) Ev.chShed (0x60 + k / 128) k 0 [u.val, ma]))))

/-- An output settles SETTLE after the last change of its command. After settle, an open load is flagged when the test of its state finds it; a high pin in the off state is a short to L+, or an external drive when a correlated switching is known; a switch that carries current while off is flagged once and reported to the Ridge; a commanded output with readback 0, no other flag and no element test of its group fails its readback. A pin above L+ is flagged as reverse. Flags clear when their condition for clearing has held. Each supply measurement is summed, and starts or ends the low and high times. After 500 µs low the group is low; below 9.0 V it is lost with its outputs refreshed; 10 ms above 18.0 V end both, with an automatic restore set for the next whole millisecond where the group is set so; at that instant the outputs take their commands. A permit edge is kept with its instant; 1.9 ms without one cut a safety group and open both elements; with the permit back, on a tile not in silent hold, both close. An element test opens one element and returns both at its end, and a failure is reported. -/
def Obligations.ChannelDiagnosisAndGroups : Prop :=
  (∀ (s : State) (n : BitVec 9),
     let c := chKey s n.toNat
     let d := chan s c
     (d.settled = false → d.cmdSince + param s pChSettle c * 1000 ≤ s.t0 →
       exec (.settleExpiry n) s = .next (setChan s c (fun d => { d with settled := true }))) ∧
     (isOut s c = true → d.settled = true → (grp s (c / 8)).cut = false → (grp s (c / 8)).lost = false →
       (∀ ma : Word,
         let hit := if d.on then flt f32 0 (param s pChOpenOnMa c) && flt f32 ma.toNat (param s pChOpenOnMa c) else flag s pChOpenOffTest c
         exec (.openLoadDetect n ma) s = .next (if hit then chFlag (putField s (chPt c 3) ma) c 2 true else putField s (chPt c 3) ma)) ∧
       (d.on = false → standbyPar s c = false → exec (.shortToLplusDetect n) s = .next (chFlag s c (if d.partner = none then 4 else 5) true)) ∧
       (∀ ma : Word, d.on = false →
         (d.flags.testBit 7 = false → exec (.stuckOnDetect n ma) s = .next (report (chFlag (putField s (chPt c 3) ma) c 7 true) 0x0901 (0x60 + c / 128) c)) ∧
         (d.flags.testBit 7 = true → exec (.stuckOnDetect n ma) s = .next s)) ∧
       (d.cmd = true → d.raw = false → (grp s (c / 8)).test = none → chWord s c % 2 ^ 17 = 0 → exec (.readbackFailDetect n) s = .next (chFlag s c 8 true))) ∧
     (isOut s c = true → exec (.reverseDetect n) s = .next (chFlag s c 6 true)) ∧
     (isOut s c = true →
       (∀ k : Fin 16, (k.val = 0 ∨ k.val = 1 ∨ k.val = 12) → d.on = true → d.onAt + 10000000 ≤ s.t0 → exec (.chFlagClear n k) s = .next (chFlag s c k.val false)) ∧
       (∀ k : Fin 16, (k.val = 2 ∨ k.val = 6) → exec (.chFlagClear n k) s = .next (chFlag s c k.val false)) ∧
       (d.raw = false → exec (.chFlagClear n 4) s = .next (chFlag s c 4 false)) ∧
       (d.raw = false → ∃ t, exec (.chFlagClear n 5) s = .next t ∧ (chan t c).partner = none) ∧
       (d.raw = true ∨ d.cmd = false → exec (.chFlagClear n 8) s = .next (chFlag s c 8 false)) ∧
       exec (.chFlagClear n 7) s = .next s)) ∧
  (∀ (s : State) (n : Fin 64),
     let g := n.val
     let d := grp s g
     (∀ mv : Nat, s.t0 % 100000 ≠ 0 → ∃ t, exec (.supplyMeasure n mv) s = .next t ∧ (grp t g).mv = mv ∧ (grp t g).sum = d.sum + mv ∧ (grp t g).cnt = d.cnt + 1 ∧
       (grp t g).lowSince = (if mv < 18000 then some (d.lowSince.getD s.t0) else none)) ∧
     (∀ a, d.lowSince = some a → a + 500000 ≤ s.t0 → d.low = false → d.highSince = none →
       exec (.supplyLow n) s = .next (note (grpRefresh (setGrp s g (fun d => { d with low := true })) g) Ev.supplyLow (0x60 + g / 16) g 0 [d.minMv])) ∧
     (d.lost = false → d.mv < 9000 → g % 16 ≠ 0 → exec (.supplyLost n) s = .next
       (note ((grpChans g).foldl chAxes (grpRefresh (setGrp s g (fun d => { d with lost := true, restoreAt := none, ackWait := false })) g))
         Ev.supplyLost (0x60 + g / 16) g 0 [d.mv])) ∧
     (∀ a, d.okSince = some a → a + 10000000 ≤ s.t0 → d.lost = true → d.hiOkSince = none → param s pChGRestore g = 0 →
       exec (.supplyRestored n) s = .next (note ((grpChans g).foldl chAxes (grpRefresh (setGrp s g (fun d => { d with
         low := false, lost := false, restoreAt := some (wholeMs (s.t0 + 1) 0) })) g)) Ev.supplyRestored (0x60 + g / 16) g 0 [d.minMv])) ∧
     (∀ a, d.restoreAt = some a → a ≤ s.t0 →
       exec (.groupRestore n) s = .next (grpRefresh (setGrp s g (fun d => { d with restoreAt := none, ackWait := false })) g)) ∧
     (exec (.permitEdge n) s = .next (setGrp s g (fun d => { d with permitAt := some s.t0 }))) ∧
     (flag s pSafeGroup g = true → d.cut = false → (∀ a, d.permitAt = some a → a + 1900000 ≤ s.t0) →
       exec (.permitTimeout n) s = .next (note ((grpChans g).foldl chAxes (grpRefresh
         ((grpChans g).foldl (fun s c => setChan s c (fun d => { d with cutWait := true })) (setGrp s g (fun d => { d with cut := true, elemA := false, elemB := false }))) g))
         Ev.groupCut (0x60 + g / 16) g 0 [1])) ∧
     (∀ a, d.cut = true → d.permitAt = some a → s.t0 < a + 1900000 → d.test = none → (tget {} s.nodes (g / 16)).silent = false →
       exec (.cutClear n) s = .next (note ((grpChans g).foldl chAxes (grpRefresh (setGrp s g (fun d => { d with cut := false, elemA := true, elemB := true })) g))
         Ev.groupCut (0x60 + g / 16) g 0 [0])) ∧
     (∀ e : Fin 2, flag s pSafeGroup g = true → d.test = none → ∃ t, exec (.cutElementTest n e) s = .next t ∧ (grp t g).test = some (e.val, s.t0) ∧
       (grp t g).elemA = decide (e.val = 1) ∧ (grp t g).elemB = decide (e.val = 0)) ∧
     (∀ (e a : Nat) (ok : Bool), d.test = some (e, a) →
       let s1 := elemResult (setGrp s g (fun d => { d with test := none, elemA := !d.cut, elemB := !d.cut })) g e ok
       exec (.cutTestEnd n ok) s = .next (if ok then s1 else report s1 0x0804 (0x60 + g / 16) g)))

/-- A pin is off without tile power, under cut, without supply or after protection switched it off, whatever is commanded or forced. Otherwise a force decides it, then the safe action of M10; and in a device that is not a standby, on an aligned tile, CONFIG gives the default state, and any other mode the applied command, or off before the first one. -/
def Obligations.OutputPinsFollowTheirTable : Prop :=
  ∀ (s : State) (c : Nat),
    let d := chan s c
    let g := grp s (c / 8)
    let nd := tget {} s.nodes (c / 128)
    ((nd.powered = false ∨ nd.configured = false ∨ g.cut = true ∨ d.cutWait = true ∨ g.lost = true ∨ g.ackWait = true ∨ g.restoreAt ≠ none ∨ d.latch ≠ 0) →
      pinOn s c = false) ∧
    (nd.powered = true → nd.configured = true → g.cut = false → d.cutWait = false → g.lost = false → g.ackWait = false → g.restoreAt = none → d.latch = 0 →
      (∀ v, forcedVal s (chPt c 1) = some v → pinOn s c = v.getLsbD 0) ∧
      (forcedVal s (chPt c 1) = none →
        (∀ v, d.safe = some v → pinOn s c = v) ∧
        (d.safe = none → d.twinOff = false → s.mode.cur ≠ .standby → nd.silent = false → tileAligned s (c / 128) = true →
          (effMode s = .config → pinOn s c = flag s pChDefaultState c) ∧
          (effMode s ≠ .config → pinOn s c = (d.applied && d.cmd)))))

/-- A conversion of an enabled input of its converter's kind takes counts and quantity, its flags and its facets follow; of an input that is off or of the other kind nothing changes. A sigma-delta conversion in the TC and RTD modes sets OPEN_WIRE with a failed pin check and clears it after two passing ones. Range and wire flags follow after their times; an opened shunt recloses after 1 s and at most 25 mA ends OVERCURRENT. Three bad reference conversions set SELFTEST_FAIL on the converter's inputs, and 1 s of good ones clears it. The self-test of a driven output keeps the readback, times a deviation above 0.5 % of span, and raises SELFTEST_FAIL with a report after 50 ms; it is suspended with the switch open or a flag. The compliance flag of an output follows its timer. An enabled encoder without a line fault counts the step of its mode and direction for a change of one line, and flags a change of both; an accepted index pulse latches the count and disarms; a line fault stops counting, clears 10 ms after it has gone; 100 ms without an edge make the velocity 0. -/
def Obligations.AnalogChannelsAndEncoders : Prop :=
  (∀ (s : State) (n : BitVec 7),
     let a := n.toNat
     let d := ain s a
     let m := param s pAiMode a
     (∀ (k : BitVec 16) (x : Word),
       (aiActive s a = true → aiSar s a = true → exec (.sarConversionEnd n k x) s = .next (aiRefresh (aiConvert s a k.toInt x 32768) a s.t0)) ∧
       (aiActive s a = false ∨ aiSar s a = false → exec (.sarConversionEnd n k x) s = .next s)) ∧
     (∀ (k : BitVec 24) (x : Word), aiActive s a = true → aiSar s a = false →
       let s1 := aiConvert s a k.toInt x 8388608
       (m < 5 → exec (.sigmaDeltaConversionEnd n k x false false) s = .next
         (aiRefresh (setAin s1 a (fun d => { d with okTests := some (d.okTests.getD s.t0) })) a s.t0)) ∧
       (5 ≤ m → exec (.sigmaDeltaConversionEnd n k x true false) s = .next
         (let s2 := aiFlag (setAin s1 a (fun d => { d with passes := 0 })) a 0 true
          aiRefresh (setAin s2 a (fun d => { d with okTests := some (d.okTests.getD s.t0) })) a s.t0))) ∧
     ((m = 4 → heldFor d.bad 0 10000000 s.t0 = true → exec (.aiFlagTimer n 0) s = .next (aiFlag s a 0 true)) ∧
       (heldFor d.ok 2 10000000 s.t0 = true → exec (.aiFlagTimer n 2) s = .next (aiFlag s a 2 false)) ∧
       (heldFor d.ok 3 10000000 s.t0 = true → exec (.aiFlagTimer n 3) s = .next (aiFlag s a 3 false)) ∧
       (heldFor d.bad 4 1000000 s.t0 = true → d.flags.testBit 4 = false →
         exec (.aiFlagTimer n 4) s = .next (aiFlag (setAin s a (fun d => { d with shuntAt := s.t0 })) a 4 true))) ∧
     (∀ ma : Word, d.flags.testBit 4 = true → d.shuntAt + 1000000000 ≤ s.t0 →
       let s1 := setAin s a (fun d => { d with shuntAt := s.t0, bad := tdel d.bad 4 })
       exec (.aiShuntReclose n ma) s = .next (if fle f32 ma.toNat 0x41C80000 then aiFlag s1 a 4 false else s1)) ∧
     (∀ (k : Fin 16) (good : Bool),
       exec (.sarSelftest k good) s = .next ((((List.range 8).map (fun j => 8 * k.val + j)).filter (fun a => aiActive s a && aiSar s a)).foldl
         (fun u a =>
           let u := setAin u a (fun d => { d with fails := if good then 0 else d.fails + 1, okTests := if good then some (d.okTests.getD u.t0) else none })
           if 3 ≤ (ain u a).fails ∧ !(ain u a).flags.testBit 6 then report (aiFlag u a 6 true) 0x0A01 (0x60 + a / 32) a else u) s)) ∧
     (∀ (u : Fin 160) (x : Nat), u.val = a → d.okTests = some x → x + 1000000000 ≤ s.t0 → exec (.selftestClear u) s = .next (aiFlag s a 6 false))) ∧
  (∀ (s : State),
     (∀ (n : Fin 32) (meas : Word),
       let a := n.val
       let d := aout s a
       (∀ q, aoPin s a = .inr q → exec (.aoSelftest n meas) s = .next (setAout s a (fun d => { d with devSince := none }))) ∧
       (∀ v, aoPin s a = .inl v → d.flags.testBit 0 = false → d.flags.testBit 1 = false →
         let e := ratOf meas.toNat - ratOf v.toNat
         let off := decide (aoSpan (param s pAoMode a) / 200 < if e < 0 then -e else e)
         let s1 := setAout (putField s (aoPt a 1) meas (aoConds s a)) a (fun d => { d with
           devSince := if off then some (d.devSince.getD s.t0) else none, okTests := if off then none else some (d.okTests.getD s.t0) })
         exec (.aoSelftest n meas) s = .next (if off = true ∧ d.devSince.getD s.t0 + 50000000 ≤ s.t0 ∧ d.flags.testBit 3 = false
           then report (aoFlag s1 a 3 true) 0x0A01 (0x60 + a / 8) (128 + a) else s1)) ∧
       (∀ on : Bool, param s pAoMode a ≠ 0 →
         exec (.aoFlagTimer n on) s = .next (aoFlag s a (if param s pAoMode a = 3 ∨ param s pAoMode a = 4 then 1 else 0) on))) ∧
     (∀ n : Fin 16, param s pEncMode n.val ≠ 0 →
       let e := n.val
       let d := enc s e
       let m := param s pEncMode e
       (∀ a b : Bool, d.flags.testBit 1 = false → ¬ (a ≠ d.a ∧ b ≠ d.b) → ∃ t, exec (.encLineChange n a b) s = .next t ∧ (enc t e).a = a ∧ (enc t e).b = b ∧
         (enc t e).count = d.count + BitVec.ofInt 32 (if flag s pEncDir e then -encStep m d.a d.b a b else encStep m d.a d.b a b)) ∧
       (∀ a b : Bool, d.flags.testBit 1 = false → a ≠ d.a → b ≠ d.b → ∃ t, exec (.encLineChange n a b) s = .next t ∧ (enc t e).count = d.count ∧
         (enc t e).flags.testBit 0 = true) ∧
       (∀ a b : Bool, d.flags.testBit 1 = true → ∃ t, exec (.encLineChange n a b) s = .next t ∧ (enc t e).count = d.count ∧ (enc t e).a = a ∧ (enc t e).b = b) ∧
       ((flag s pEncZGate e = true → d.a = true ∧ d.b = true) → (param s pEncIndex e = 1 ∨ d.armed = true) →
         ∃ t, exec (.encIndex n) s = .next t ∧ (enc t e).latch = d.count ∧ (enc t e).armed = false ∧ (enc t e).count = d.count) ∧
       (param s pEncInput e = 0 → ∃ t, exec (.encLineFault n true) s = .next t ∧ (enc t e).flags.testBit 1 = true ∧ (enc t e).faultAt = s.t0 ∧ (enc t e).lineBad = true) ∧
       (d.flags.testBit 1 = true → d.lineBad = false → d.faultAt + 10000000 ≤ s.t0 → ∃ t, exec (.lineFaultClear n) s = .next t ∧ (enc t e).flags.testBit 1 = false)) ∧
     (∀ (n : Fin 16) (k : Nat) (z : Int), (enc s n.val).edges.getLast? = some (k, z) → k + 100000000 ≤ s.t0 →
       exec (.encVelocityTimeout n) s = .next (encRefresh s n.val s.t0) ∧ encVel s n.val s.t0 = 0))

/-! ### The Ridge (R489-R505) -/

/-- A group's permit is granted exactly when it is declared, the mode is neither M2 nor M0, the start-up tests of the Ridge and of its tile have passed, no SAFE or RIDGE_STOP reaction is latched, no GROUP reaction covers it, and both elements have passed a test within the last 8 h. -/
def Obligations.PermitsAreGrantedOnlyWhen : Prop :=
  ∀ (s : State) (g : Nat), g < 64 →
    (granted s g = true ↔
      declared s g = true ∧ s.mode.cur ≠ .config ∧ s.mode.cur ≠ .keep ∧ s.ridge.internalOk = true ∧ g / 16 ∈ s.ridge.tilesOk ∧
      (∀ l ∈ s.ridge.latches, l.react ≠ .safe ∧ l.react ≠ .ridgeStop ∧ (l.react = .group → l.groups.getLsbD g = false)) ∧
      (∀ e, e = 2 * g ∨ e = 2 * g + 1 → ∃ t, (elem s e).lastPass = some t ∧ s.t0 ≤ t + 8 * 3600 * 1000000000))

/-- The oldest report leaves the queue and its code and the total are counted. Under LOG nothing is latched. Under GROUP the groups the fault names are latched, and under RIDGE_STOP all groups and the stop. The fault record is taken at the first latching fault after a release with its code, reaction and T0; further ones only raise its count. With no report waiting nothing changes. -/
def Obligations.FaultsReachTheRidge : Prop :=
  ∀ (s : State) (f : FaultRep) (q : List FaultRep),
    (s.faultq = [] → exec .ridgeFaultReport s = .next s) ∧
    (s.faultq = f :: q → faultReact s f ≠ .safe →
      ∃ t, exec .ridgeFaultReport s = .next t ∧ t.faultq = q ∧ t.mode = s.mode ∧
        tget 0 t.ridge.counts f.code = (tget 0 s.ridge.counts f.code + 1) % 2 ^ 32 ∧ t.ridge.total = (s.ridge.total + 1) % 2 ^ 32 ∧
        (faultReact s f = .log → t.ridge.latches = s.ridge.latches ∧ t.ridge.record = s.ridge.record ∧ t.ridge.stopped = s.ridge.stopped) ∧
        (faultReact s f ≠ .log →
          (t.ridge.latches.map (fun l => (l.code, l.react, l.groups)) = s.ridge.latches.map (fun l => (l.code, l.react, l.groups)) ++
            [(f.code, faultReact s f, if faultReact s f = .group then faultGroups s f else allGroups s)]) ∧
          t.ridge.stopped = (s.ridge.stopped || decide (faultReact s f = .ridgeStop)) ∧
          (s.ridge.record.latched = false → t.ridge.record.code = f.code ∧ t.ridge.record.react = (faultReact s f).num ∧ t.ridge.record.t0 = s.t0 ∧
            t.ridge.record.count = 1 ∧ t.ridge.record.prevCode = s.ridge.record.code ∧ t.ridge.record.latched = true) ∧
          (s.ridge.record.latched = true → t.ridge.record.code = s.ridge.record.code ∧ t.ridge.record.count = min (s.ridge.record.count + 1) 65535)))

/-- Outside RIDGE_STOP a frame goes to the tile: sync, one slot per group that says whether its permit is granted, the echo bit, as pulses of 75, 50 and 25 µs. A report equal to the frame clears the count of differing frames; the second differing one in a row is PERMIT_ECHO. An enabled tile without a report for 1 s is PERMIT_ECHO_MISSING, once. A due element of a declared group is tested when no test is near on its tile, or retried after 1 min; one without a pass for 8 h is CUT_TEST_DUE. A low emergency-stop input takes its level and, when no demand stands, is ESTOP_DEMAND; differing inputs are ESTOP_DISCREPANCY once. The release ends the demand, and the discrepancy only when both inputs were low together since. ERRIN works likewise. An unserved watchdog is RIDGE_WATCHDOG, and a configuration copy with another CRC is RIDGE_CONFIG. After a RIDGE_STOP the loss of the Ridge's heartbeat enters SAFE, once. -/
def Obligations.RidgePermitsTestsAndInputs : Prop :=
  (∀ (s : State),
     (∀ (tile : Fin 4) (echo : Bool), s.ridge.stopped = false → ∃ t, exec (.permitFrame tile echo) s = .next t ∧
       (tget {} t.ridge.chans tile).sent = 1 :: ((List.range 16).map (fun k => if granted s (16 * tile.val + k) then 1 else 0) ++ [if echo then 1 else 0]) ∧
       ∃ o ∈ t.outbox, o.kind = Out.permitFrame ∧ o.dst = tile.val ∧
         o.arg = 75 :: ((List.range 16).map (fun k => if granted s (16 * tile.val + k) then 50 else 25) ++ [if echo then 50 else 25])) ∧
     (∀ (tile : Fin 4) (echo : Bool), s.ridge.stopped = true → exec (.permitFrame tile echo) s = .next s) ∧
     (∀ (tile : Fin 4) (l : List Nat),
       let c := tget {} s.ridge.chans tile
       (l = c.sent → ∃ t, exec (.permitReport tile l) s = .next t ∧ (tget {} t.ridge.chans tile).bad = 0 ∧ (tget {} t.ridge.chans tile).lastReport = s.t0) ∧
       (l ≠ c.sent → c.bad = 1 → exec (.permitReport tile l) s = .next (ridgeFault (setRidge s (fun r => { r with
         chans := tset r.chans tile { c with bad := 2, lastReport := s.t0, missing := false } })) ⟨0x0802, 0x60 + tile, tile, 0⟩)) ∧
       (l ≠ c.sent → c.bad = 0 → ∃ t, exec (.permitReport tile l) s = .next t ∧ (tget {} t.ridge.chans tile).bad = 1 ∧ t.ridge.total = s.ridge.total) ∧
       (c.missing = false → c.lastReport + 1000000000 ≤ s.t0 → flag s pTileEnable tile = true → s.ridge.tilesOk.contains tile.val = true →
         exec (.permitEchoMissing tile) s = .next (ridgeFault (setRidge s (fun r => { r with chans := tset r.chans tile { c with missing := true } }))
           ⟨0x0803, 0x60 + tile, tile, 0⟩)) ∧
       (c.missing = true → exec (.permitEchoMissing tile) s = .next s)) ∧
     (∀ (g : Fin 64) (el : Fin 2), declared s g = true →
       (testDue s (2 * g.val + el.val) = true → testBusy s (g.val / 16) = false →
         ((node s (g.val / 16)).silent = false → (grp s g).lost = false → exec (.cutTestSchedule g el) s = .next (send s Out.cutTest (g.val / 16) [g.val, el.val])) ∧
         ((node s (g.val / 16)).silent = true ∨ (grp s g).lost = true → ∃ t, exec (.cutTestSchedule g el) s = .next t ∧
           (elem t (2 * g.val + el.val)).retryAt = some (s.t0 + 60 * 1000000000) ∧ t.outbox = s.outbox)) ∧
       ((elem s (2 * g.val)).due = false → (elem s (2 * g.val + 1)).due = true → ((elem s (2 * g.val)).lastPass.getD 0) + 8 * 3600 * 1000000000 ≤ s.t0 →
         exec (.cutTestDue g) s = .next (ridgeFault (setRidge s (fun r => { r with elems := tmod {} r.elems (2 * g.val) (fun x => { x with due := true }) }))
           ⟨0x0805, 0x60 + g.val / 16, g.val, 0⟩)))) ∧
  (∀ (s : State),
     let e := s.ridge.estop
     (∀ a b : Bool, (a = true ∨ b = true) → e.demand = false →
       exec (.estopDemand a b) s = .next (ridgeFault (setEstop s (fun x => { x with
         aHigh := !a, bHigh := !b, bothLowSeen := x.bothLowSeen || (a && b), demand := true })) ⟨0x0B01, 0x7F, 0, 0⟩)) ∧
     (∀ a b : Bool, e.demand = true → ∃ t, exec (.estopDemand a b) s = .next t ∧ t.ridge.total = s.ridge.total ∧ t.ridge.estop.demand = true ∧
       t.ridge.estop.bothLowSeen = (e.bothLowSeen || (a && b))) ∧
     (∀ a : Bool, (e.discrepancy = false → exec (.estopDiscrepancy a) s = .next (ridgeFault (setEstop s (fun x => { x with
         aHigh := a, bHigh := !a, discrepancy := true, bothLowSeen := false })) ⟨0x0B02, 0x7F, 0, 0⟩)) ∧
       (e.discrepancy = true → ∃ t, exec (.estopDiscrepancy a) s = .next t ∧ t.ridge.total = s.ridge.total)) ∧
     (∃ t, exec .estopRelease s = .next t ∧ t.ridge.estop.demand = false ∧ t.ridge.estop.discrepancy = (e.discrepancy && !e.bothLowSeen)) ∧
     (e.errDemand = false → exec .errinDemand s = .next (ridgeFault (setEstop s (fun x => { x with errHigh := false, errDemand := true })) ⟨0x0B03, 0x7F, 0, 0⟩)) ∧
     (e.errDemand = true → exec .errinDemand s = .next s) ∧
     (∃ t, exec .errinRelease s = .next t ∧ t.ridge.estop.errDemand = false ∧ t.ridge.estop.errHigh = true) ∧
     (∀ w : Fin 2, exec (.ridgeWatchdog w) s = .next (ridgeFault s ⟨0x0D02, 0x7F, w.val, 0⟩)) ∧
     (exec (.ridgeConfigCheck s.ridge.configCrc) s = .next s) ∧
     (∀ c : Word, c ≠ s.ridge.configCrc → exec (.ridgeConfigCheck c) s = .next (ridgeFault s ⟨0x0D01, 0x7F, 0, 0⟩)) ∧
     (s.ridge.stopped = true → s.ridge.hbLost = false → exec .ridgeHeartbeatLoss s = .next (enterSafe (setRidge s (fun r => { r with hbLost := true })))) ∧
     (s.ridge.stopped = false → exec .ridgeHeartbeatLoss s = .next s))

/-- A powered tile that is not silent applies the safe actions to its outputs and stops its axes; a motion engine asks its moving PROFILE axes to stop; each takes its command once. A passed part of the start-up tests is kept, and a failed one is not. SAFE_RESET runs in M10 alone; SAFE_GROUP_RESET is refused with 0x0203 while the cause of a named GROUP reaction holds, and else releases the named groups; SAFE_PROOF_TEST orders the tests of every element that can be tested and answers at once when there is none. -/
def Obligations.SafeActionsAndSafeCommands : Prop :=
  ∀ (s : State),
    (∀ tile : Fin 4, (0x60 + tile.val) ∈ s.ridge.safeCmds → (node s tile).silent = false → (node s tile).powered = true →
      exec (.safeCommandReceive (bv 8 (0x60 + tile.val))) s = .next (
        let s1 := setRidge s (fun r => { r with safeCmds := r.safeCmds.filter (· != 0x60 + tile.val) })
        let s2 := ((outChans s1).filter (fun c => c / 128 == tile.val)).foldl safeChan s1
        let s3 := ((outAos s2).filter (fun a => a / 8 == tile.val)).foldl safeAo s2
        ((List.range 8).map (8 * tile.val + ·)).foldl safeAxis s3)) ∧
    (∀ me : Fin 4, (0x28 + me.val) ∈ s.ridge.safeCmds → ∃ t, exec (.safeCommandReceive (bv 8 (0x28 + me.val))) s = .next t ∧
      t.ridge.safeCmds = s.ridge.safeCmds.filter (· != 0x28 + me.val) ∧
      ∀ k, k < 8 → param s pSafeAxisStop (8 * me.val + k) = 2 → (prof s (16 * me.val + k)).st ≠ 0 → (prof s (16 * me.val + k)).st ≠ 1 →
        (prof t (16 * me.val + k)).stopReq = some 0) ∧
    (∀ i : Byte, i.toNat ∉ s.ridge.safeCmds → exec (.safeCommandReceive i) s = .next s) ∧
    (∀ g : BitVec 64, (∃ t, exec (.ridgeStartupTestEnd 0 true g) s = .next t ∧ t.ridge.internalOk = true) ∧
      (∀ p : Fin 5, exec (.ridgeStartupTestEnd p false g) s = .next s)) ∧
    (∀ r : Req, Runs s r 0x0801 true [.safe] 0 (noTarget r) → exec (.safeReset r) s = .next (safeReset (begun s r 0x0801) r 0x0801)) ∧
    (∀ r : Req, Runs s r 0x0802 true allModes 8 (noTarget r) →
      let b := begun s r 0x0802
      let g := bv 64 (fld r.payload 0 8)
      ((∃ l ∈ s.ridge.latches, l.react = .group ∧ l.groups &&& g ≠ 0 ∧ causeHolds b l = true) → exec (.safeGroupReset r) s = .next (finish b r 0x0802 true 0x0203)) ∧
      ((∀ l ∈ s.ridge.latches, l.react = .group → l.groups &&& g = 0 ∨ causeHolds b l = false) →
        ∃ t, exec (.safeGroupReset r) s = .next t ∧ ∀ l ∈ t.ridge.latches, l.react = .group → l.groups &&& g = 0)) ∧
    (∀ r : Req, Runs s r 0x0803 true [.idle, .maint, .safe] 0 (noTarget r) →
      let ks := ((List.range 64).filter (fun g => declared s g && !(node s (g / 16)).silent && !(grp s g).lost)).flatMap (fun g => [2 * g, 2 * g + 1])
      (ks = [] → exec (.safeProofTest r) s = .next (finish (accepted (begun s r 0x0803) r 0x0803) r 0x0803 true 0)) ∧
      (ks ≠ [] → ∃ t, exec (.safeProofTest r) s = .next t ∧ t.ridge.proof = some (r.mb.val, r.tag.toNat) ∧ t.ridge.proofLeft = ks))

/-! ### Restarts, boot, RESUME, power (R343-R369, R552, R553, R569, R570) -/

/-- With power, a lockstep or clock fault of an island in service is reported to the Ridge under its code and starts its restart: hot for an engine, warm for a core island or the Steward, none for a tile or the Ridge. An engine or core island without a heartbeat for 100 µs does so outside a warm boot. The Steward's watchdog is a warm restart. An engine not in service 1 ms after its trigger is a warm restart. In M0 nothing happens. Outside a boot, unless it is the third of the island within 10 s, a hot trigger latches kind 0 with its cause, island, origin and instant, takes that engine out of service and leaves the mode and every other island as they are. When the engine is back in service it is aligned, the cause of its fault has ended, and the units of its kind are brought back. -/
def Obligations.FaultsAndHotRestarts : Prop :=
  (∀ (s : State),
     (s.mode.cur ≠ .keep → ∀ i : Byte, (island s i.toNat).inService = true →
       (isEngine i.toNat = true → exec (.lockstepMismatch i) s = .next (hotRestart (report s 0x0101 i.toNat) 0x01 i.toNat)) ∧
       (isCore i.toNat = true → exec (.lockstepMismatch i) s = .next (warmRestart (report s 0x0102 i.toNat) 0x12 i.toNat)) ∧
       (i = 0 → exec (.lockstepMismatch i) s = .next (warmRestart (report s 0x0103 0) 0x11 0)) ∧
       (0x60 ≤ i.toNat → i.toNat < 0x64 → exec (.lockstepMismatch i) s = .next (report s 0x0104 i.toNat)) ∧
       (i = 0x7F → exec (.lockstepMismatch i) s = .next (report s 0x0105)) ∧
       (isEngine i.toNat = true → exec (.clockFault i) s = .next (hotRestart (report s 0x0501 i.toNat) 0x01 i.toNat)) ∧
       (i = 0x7F → exec (.clockFault i) s = .next (report s 0x0503)) ∧
       ((s.rst.stage = 0 ∨ s.rst.stage = 3) → (island s i.toNat).lastHb + 100000 ≤ s.t0 →
         (isEngine i.toNat = true → exec (.heartbeatTimeout i) s = .next (hotRestart (report s 0x0201 i.toNat) 0x02 i.toNat)) ∧
         (isCore i.toNat = true → exec (.heartbeatTimeout i) s = .next (warmRestart (report s 0x0202 i.toNat) 0x12 i.toNat)))) ∧
     (s.mode.cur ≠ .keep → exec .stewardWatchdog s = .next (warmRestart s 0x11 0)) ∧
     (s.mode.cur = .keep → exec .stewardWatchdog s = .next s ∧ ∀ i, exec (.lockstepMismatch i) s = .next s ∧ exec (.clockFault i) s = .next s) ∧
     (∀ (i : Byte) (t : Nat), (island s i.toNat).restarting = some t →
       (t + 1000000 ≤ s.t0 → exec (.hotRestartTimeout i) s = .next (warmRestart s 0x13 i.toNat)) ∧
       (s.t0 < t + 1000000 → exec (.hotRestartTimeout i) s = .next s))) ∧
  (∀ (s : State) (isl cause : Nat),
     (s.rst.stage = 0 → (s.rst.hotLog.filter (fun e => e.1 == isl && decide (s.t0 < e.2 + 10000000000))).length < 2 →
       let t := hotRestart s cause isl
       t.rst.kind = 0 ∧ t.rst.cause = cause ∧ t.rst.isl = isl ∧ t.rst.origin = originNow s ∧ t.rst.t0Trigger = s.t0 ∧ t.rst.count = (s.rst.count + 1) % 2 ^ 32 ∧
       t.mode = s.mode ∧ (island t isl).inService = false ∧ (island t isl).restarting = some s.t0 ∧ ∀ j, j ≠ isl → island t j = island s j) ∧
     (∀ (i : Byte) (trig : Nat), (island s i.toNat).restarting = some trig →
       let s1 := causeEnd (setIsland s i.toNat (fun d => { d with inService := true, restarting := none, aligned := true, copySet := true, lastHb := s.t0 }))
         (fun l => decide (l.isl = i.toNat) && [0x0101, 0x0201, 0x0402, 0x0501].contains l.code)
       exec (.engineInService i) s = .next (if i.toNat < 0x20 then ceBack s1 (i.toNat - 0x10) else if i.toNat < 0x28 then leBack s1 (i.toNat - 0x20)
         else if i.toNat < 0x2C then meBack s1 (i.toNat - 0x28) trig else if i.toNat < 0x30 then aeBack s1 (i.toNat - 0x2C) else cvBack s1 (i.toNat - 0x30))) ∧
     (∀ i : Byte, (island s i.toNat).restarting = none → exec (.engineInService i) s = .next s))

/-- The warm boot starts when every powered tile is silent, and ends in M1 at stage 2. A boot without a bank that verifies goes on; with one, a bad header makes it cold with cause 0x33, and VBAT_LOST or an origin in M8 in a keep restart with 0x34 or 0x32; START code runs first, and the event's next coming after it goes on. In RESUME, RECOVERY code runs first likewise; once reconstructed, Tr is the first whole millisecond at least 500 µs ahead. At Tr the restart ends: stage 0, no Tr, and M10 is the target while a SAFE or RIDGE_STOP reaction is latched. -/
def Obligations.WarmBootAndResume : Prop :=
  ∀ (s : State),
    (s.rst.stage = 1 → (∀ n, n < 4 → (node s n).powered = true → (node s n).silent = true) →
      ∃ t, exec .warmBootStart s = .next t ∧ t.mode.cur = .boot ∧ t.mode.pend = none ∧ t.rst.stage = 2 ∧ t.t0 = s.t0 ∧ t.pending = s.pending) ∧
    (s.rst.stage ≠ 1 → exec .warmBootStart s = .next s) ∧
    (∀ (g : Bool) (a b : BitVec 2) (k : Bool), s.rst.stage = 2 → s.mode.pend = none → s.twin.waitFrom = none → s.twin.st ≠ 1 → s.rst.started = false →
      (bankPick s b = none → exec (.bootEnd g a b k) s = .next s) ∧
      (bankPick s b = some s.fw.bank →
        (s.rst.kind ≠ 3 → headerOk s = false → exec (.bootEnd g a b k) s = .next (coldRestart s 0x33 s.rst.isl s.rst.origin s.rst.cause)) ∧
        (s.rst.kind = 2 → headerOk s = true → s.rst.vbatLost = true → exec (.bootEnd g a b k) s = .next (coldRestart s 0x34 s.rst.isl s.rst.origin s.rst.cause)) ∧
        (s.rst.kind = 1 → headerOk s = true → g = false → s.deck.crcBad = false → s.rst.dramLost = false →
          let s1 := loadEngines (journalInspect s)
          let s2 := setRst (askAnchor (tellRange (tellLost (if s1.deck.inUse then planCheck s1 else s1)) (journalInspect s).recd.era.toNat) 5)
            (fun d => { d with started := true })
          let runs := if s2.deck.inUse then startRuns s2 else []
          exec (.bootEnd g a b k) s = .next (if runs.isEmpty then bootRest s2 else natRuns s2 runs)))) ∧
    (∀ (g : Bool) (a b : BitVec 2) (k : Bool), s.rst.stage = 2 → s.mode.pend = none → s.twin.waitFrom = none → s.twin.st ≠ 1 → s.rst.started = true →
      exec (.bootEnd g a b k) s = .next (if natBusy s then s else bootRest s)) ∧
    (s.rst.stage = 3 → s.rst.tr = none → s.rst.recovered = true →
      (natBusy s = true → exec .reconstructionComplete s = .next s) ∧
      (natBusy s = false → ∃ t, exec .reconstructionComplete s = .next t ∧ t.rst.tr = some (wholeMs s.t0 500000) ∧ t.rst.stage = 3)) ∧
    (s.rst.stage = 3 → s.rst.tr = none → s.rst.recovered = false →
      let s1 := setRst (retainRestore s) (fun r => { r with recovered := true })
      exec .reconstructionComplete s = .next (if (recoveryRuns s1).isEmpty then rebuild s1 else natRuns s1 (recoveryRuns s1))) ∧
    (∀ tr, s.rst.stage = 3 → s.rst.tr = some tr → s.t0 < tr → exec .resumeGo s = .next s) ∧
    (∀ tr, s.rst.stage = 3 → s.rst.tr = some tr → tr ≤ s.t0 → ∃ t, exec .resumeGo s = .next t ∧ t.rst.tr = none ∧ t.rst.stage = 0 ∧ t.mode.cur = resumeTarget s) ∧
    ((∃ l ∈ s.ridge.latches, l.react = .safe ∨ l.react = .ridgeStop) → resumeTarget s = .safe)

/-- A full gap buffer is marked once with its instant. An aligned tile with something to replay hands its events to the recorder in order after what waits there, empties its buffer and marks the replay. A replay with an empty buffer is complete and recorded; one not begun or not empty is not. Every faulty Pocket word of a scan is recorded with its keep tick and reported; without one nothing changes. At the swap's instant, outside a restart, the other bank is chosen and a warm restart begins. A Steward of a swapped bank that is not ready 5 s after the trigger boots again, the second time from the other valid bank. -/
def Obligations.ReplayPocketAndFirmware : Prop :=
  (∀ (s : State) (tile : Fin 4),
     let d := node s tile.val
     (d.silent = true → d.gapFull = false → gapCapacity ≤ d.gap.length →
       exec (.gapBufferFull tile) s = .next (setNode s tile.val (fun d => { d with gapFull := true, gapFullAt := s.t0 }))) ∧
     (d.silent = false ∨ d.gapFull = true ∨ d.gap.length < gapCapacity → exec (.gapBufferFull tile) s = .next s) ∧
     (tileAligned s tile.val = true → d.silent = false → (d.gap ≠ [] ∨ d.gapLost ≠ [] ∨ d.gapEv ≠ []) →
       ∃ t, exec (.gapBufferReplay tile) s = .next t ∧ (node t tile.val).gap = [] ∧ (node t tile.val).gapEv = [] ∧ (node t tile.val).replaying = true ∧
         ∃ l, t.evq = s.evq ++ l ++ d.gapEv ∧ (d.replaying = true → l = [])) ∧
     (tileAligned s tile.val = false → exec (.gapBufferReplay tile) s = .next s) ∧
     (d.replaying = true → d.gap = [] → d.gapEv = [] →
       exec (.replayComplete tile) s = .next (note (setNode s tile.val (fun d => { d with replaying := false })) Ev.gapReplay 0x42 tile 0 [0, d.silentSince])) ∧
     (d.replaying = false ∨ d.gap ≠ [] → exec (.replayComplete tile) s = .next s)) ∧
  (∀ (s : State),
     (s.mode.cur ≠ .keep →
       exec (.pocketScan []) s = .next s ∧
       ∀ w : BitVec 12, ∃ t, exec (.pocketScan [w]) s = .next t ∧ t.faultq = s.faultq ++ [⟨0x0C02, 0x50, w.toNat, 0⟩] ∧ (w.toNat, keepTick s) ∈ t.rst.pocketErrs) ∧
     (s.mode.cur = .keep → ∀ l, exec (.pocketScan l) s = .next s) ∧
     (∀ t, s.fw.swapAt = some t →
       (t ≤ s.t0 → s.rst.stage = 0 → exec .firmwareSwapRestart s = .next (warmRestart { s with
         fw := { s.fw with swapAt := none, bank := 1 - s.fw.bank, swapped := true, badBoots := 0 } } 0x14 0xFF)) ∧
       (s.t0 < t → exec .firmwareSwapRestart s = .next s)) ∧
     (s.fw.swapped = true → s.host.ready = false → s.rst.t0Trigger + 5000000000 ≤ s.t0 →
       (s.fw.badBoots = 0 → exec .stewardReadyTimeout s = .next (warmRestart { s with fw := { s.fw with badBoots := 1 } } 0x11 0)) ∧
       (1 ≤ s.fw.badBoots → tfind s.fw.valid (1 - s.fw.bank) ≠ none → exec .stewardReadyTimeout s = .next (warmRestart
         (note { s with fw := { s.fw with bank := 1 - s.fw.bank, swapped := false, badBoots := 0 } } Ev.fwFallback 0x00 0 0 [1 - s.fw.bank]) 0x11 0))) ∧
     (s.fw.swapped = false ∨ s.host.ready = true → exec .stewardReadyTimeout s = .next s))

/-- A power failure with power present abandons a pending transition, empties the journal queue and stops the device at stage 4 with its instant and, complete or not, the flush kept in the restart record. After recovery a warm restart begins; the reset pin is a cold restart unless power is failing. On VBAT the device enters M0 with its Steward not ready; main power's return leaves it for M1 with a keep restart. VBAT thresholds set their flags, a rail fault is reported. A tile without supply is unpowered, unaligned and reported; with supply again it waits for its configuration. -/
def Obligations.PowerFailureAndKeep : Prop :=
  ∀ (s : State),
    (∀ (done : Bool) (n : Nat) (us_ : Half), s.mode.cur ≠ .keep → s.rst.lowAt = none → ∃ t, exec (.powerFailFlush done n us_) s = .next t ∧
      t.rst.stage = 4 ∧ t.rst.lowAt = some s.t0 ∧ t.rst.flushed = done ∧ t.rst.flushUs = (if done then us_.toNat else 0) ∧ t.mode.cur = s.mode.cur ∧ t.mode.pend = none ∧
      t.pocket.queue = []) ∧
    (∀ (done : Bool) (n : Nat) (us_ : Half), s.rst.lowAt ≠ none → exec (.powerFailFlush done n us_) s = .next s) ∧
    (s.mode.cur ≠ .keep → s.rst.lowAt ≠ none → exec .pwrfailRecovered s = .next (warmRestart (setRst s (fun r => { r with
      lowAt := none, stage := if s.mode.cur = .boot then 2 else if s.mode.cur = .resume then 3 else 0 })) 0x15 0xFF)) ∧
    (s.mode.cur ≠ .keep → ∃ t, exec .keepEntry s = .next t ∧ t.mode.cur = .keep ∧ t.rst.stage = 4 ∧ t.host.ready = false) ∧
    (s.mode.cur = .keep → exec .keepEntry s = .next s) ∧
    (∀ (k : BitVec 48) (ok : Bool), s.mode.cur = .keep → ∃ t, exec (.powerReturn k ok) s = .next t ∧ t.mode.cur = .boot ∧ t.rst.kind = 2 ∧
      t.rst.cause = (if s.rst.flushed then 0x20 else 0x21)) ∧
    (s.mode.cur ≠ .keep → s.rst.lowAt = none → exec .resetPin s = .next (coldRestart s 0x31 0xFF (originNow s) 0x31)) ∧
    (s.rst.lowAt ≠ none → exec .resetPin s = .next s) ∧
    (exec (.vbatThreshold false) s = .next (setRst s (fun r => { r with vbatLow := true }))) ∧
    (s.mode.cur = .keep → ∃ t, exec (.vbatThreshold true) s = .next t ∧ t.rst.vbatLost = true) ∧
    (∀ rail : Fin 5, s.mode.cur ≠ .keep → s.rst.lowAt = none → exec (.supplyRailFault rail) s = .next (report s 0x0601 0x7F rail.val)) ∧
    (∀ tile : Fin 4,
      ((node s tile.val).powered = true → s.mode.cur ≠ .keep → ∃ t, exec (.tileSupplyLoss tile) s = .next t ∧ (node t tile.val).powered = false ∧
        (node t tile.val).configured = false ∧ tileAligned t tile.val = false ∧ (⟨0x0602, 0x60 + tile.val, tile.val, 0⟩ : FaultRep) ∈ t.faultq) ∧
      ((node s tile.val).powered = false → exec (.tileSupplyLoss tile) s = .next s ∧ ∃ t, exec (.tilePowerUp tile) s = .next t ∧
        (node t tile.val).powered = true ∧ (node t tile.val).configured = false ∧ (node t tile.val).silent = false))

/-! ### Capture units, trigger bus, Thatch (R370-R410) -/

/-- An enabled unit in a capturing mode that is armed or later: a sample on its grid, not from the future and not before its last, enters the frame or the change stream, or is only counted while a gap lasts. A trigger event of kinds 1 to 8 updates the readiness and, when its condition holds, triggers at its instant. AUTO triggers a unit armed for its timeout. A full capture buffer begins a gap and space ends it, counted and recorded. An open record ends POST_US after its trigger frame: the unit is in holdoff without an open record, and its pool buffers switch for 2 µs and then fill again. A SINGLE unit stops at its record's end instead; any other re-arms at the holdoff's end. A disabled unit's record closes with TRUNCATED at DISABLE_DEADLINE. Nothing happens before its instant. -/
def Obligations.CaptureUnits : Prop :=
  (∀ (s : State) (n : Fin 32),
     let u := n.val
     let m := acqUnit s u
     acqMay s u = true → 2 ≤ m.st →
     (∀ (t : DWord) (vals : List Word), t.toNat ≤ s.t0 → m.lastT ≤ t.toNat → acqSrcs s u ≠ [] → param s pAcqSrcKind u ≠ 3 → vals.length = (acqSrcs s u).length →
       (acqFrame s u = 0 ∨ t.toNat % max 1 (acqTs s u) = 0) →
       let s1 := setAcq s u (fun m => { m with lastT := t.toNat })
       (m.gapN = none → acqFrame s u = 0 →
         exec (.captureSample n t vals) s = .next (acqPoints (acqChangeIn s1 u t.toNat (vals.map (fun v => (v, 0)))) u)) ∧
       (m.gapN = none → acqFrame s u ≠ 0 → exec (.captureSample n t vals) s = .next
         (acqPoints (acqFrameIn s1 u t.toNat ((vals.map (fun v => (v, 0))).map (·.1)) (vals.flatMap (fun v => leBytes 2 v.toNat))) u)) ∧
       (∀ k, m.gapN = some k → exec (.captureSample n t vals) s = .next (setAcq s1 u (fun m => { m with gapN := some (k + 1) })))) ∧
     (∀ (t : DWord) (v : Word), s.t0 < t.toNat → exec (.acqTriggerEvent n t v) s = .next s) ∧
     (∀ (t : DWord) (v : Word), t.toNat ≤ s.t0 → 1 ≤ m.get 1 → m.get 1 < 9 →
       let (w, q) := if trigTile s u m then (v, 0) else ((pgetAt s t.toNat (m.get 2)).value, (pgetAt s t.toNat (m.get 2)).qual)
       let s1 := setAcq s u (fun x => { x with prev := some (w, q), ready := (trigHolds s m u w q).2 })
       exec (.acqTriggerEvent n t v) s = .next (if (trigHolds s m u w q).1 then acqTrigger 32 s1 u t.toNat (m.get 1) 0 else s1)) ∧
     (m.st = 2 → m.get 0 = 2 → m.armedAt + m.get 8 * 1000000 ≤ s.t0 → exec (.acqAutoTimeout n) s = .next (acqTrigger 32 s u (m.armedAt + m.get 8 * 1000000) 0 2)) ∧
     (s.t0 < m.armedAt + m.get 8 * 1000000 → exec (.acqAutoTimeout n) s = .next s) ∧
     (m.gapN = none → ∃ t, exec (.acqGap n true) s = .next t ∧ (acqUnit t u).gapN = some 0) ∧
     (∀ k, m.gapN = some k → ∃ t, exec (.acqGap n false) s = .next t ∧ (acqUnit t u).gapN = none ∧
       (acqUnit t u).gaps = (m.gaps + 1) % 2 ^ 32 ∧ (acqUnit t u).lost = (m.lost + k) % 2 ^ 32)) ∧
  (∀ (s : State) (n : Fin 32),
     let u := n.val
     let m := acqUnit s u
     (∀ r, m.cur = some r →
       let stop := r.tf + param s pAcqPostUs u * 1000
       (stop ≤ s.t0 → m.disableAt = none → acqMay s u = true →
         (m.get 0 ≠ 1 → ∃ t, exec (.acqRecordEnd n) s = .next t ∧ (acqUnit t u).cur = none ∧ (acqUnit t u).filling = false ∧
           (acqUnit t u).switchEnd = stop + 2000 ∧ (acqUnit t u).holdEnd = stop + 2000 + m.get 7 * 1000) ∧
         (m.get 0 = 1 → ∃ t, exec (.acqRecordEnd n) s = .next t ∧ (acqUnit t u).cur = none ∧ (acqUnit t u).st = 1)) ∧
       (s.t0 < stop → exec (.acqRecordEnd n) s = .next s)) ∧
     (m.cur = none → exec (.acqRecordEnd n) s = .next s) ∧
     (m.st = 4 → m.filling = false → m.switchEnd ≤ s.t0 → exec (.acqPoolSwitchEnd n) s = .next
       (setAcq s u (fun x => { x with filling := true, fillFrom := m.switchEnd, pool := [], grp := none, base := m.vals }))) ∧
     (m.st = 4 → m.filling = true → m.holdEnd ≤ s.t0 → acqMay s u = true → m.disableAt = none →
       (m.get 0 ≠ 1 → ∃ t, exec (.acqHoldoffEnd n) s = .next t ∧ (acqUnit t u).st = 2 ∧ (acqUnit t u).armedAt = m.holdEnd ∧ (acqUnit t u).pool = m.pool)) ∧
     (s.t0 < m.holdEnd → exec (.acqHoldoffEnd n) s = .next s) ∧
     (∀ a r, acqMay s u = true → m.st = 3 → m.cur = some r → m.disableAt = some a →
       (a + m.get 11 * 1000000 ≤ s.t0 → exec (.acqDisableDeadline n) s = .next
         (let s1 := setAcq (acqClose s u (a + m.get 11 * 1000000) 4) u (fun m => { m with disableAt := none })
          acqDisable s1 u (stopState s u))) ∧
       (s.t0 < a + m.get 11 * 1000000 → exec (.acqDisableDeadline n) s = .next s)))

/-- A pulse is driven 4,000 ns after its origin, which then triggers this device's units. A received edge that is a device's own or from the future is ignored; a rising edge within 2 µs of the previous one is merged; another is taken with its origin corrected for the line's delay, with an echo due 10,000 ns after it where the line echoes. A due echo is driven. A calibration drives its pulse, ends with the first echo, which answers it with both delays, or without one after 100 µs with 0x0409. ACQ_ARM arms the named units that are stopped and may capture, ACQ_TRIGGER triggers the armed ones at T0 of acceptance and answers with it, ACQ_STOP stops the named units. ACQ_READ copies a closed record to the bulk window: 0x0504 for the one still open, 0x0405 for one not in the ring, 0x0102 for too small a buffer, 0x0509 for a busy one. ACQ_RELEASE drops the records up to and including its own, or answers 0x0405. -/
def Obligations.TriggerLinesAndAcquisition : Prop :=
  (∀ (s : State) (l : Fin 4),
     let n := l.val
     let d := trgLine s n
     (∀ (a : Nat) (r : List Nat), d.calib = none → d.pulses.filter (fun t => decide (t + 4000 ≤ s.t0)) = a :: r →
       exec (.trgPulseDrive l) s = .next (lineFire (drivePulse (setTrgLine s n (fun d => { d with pulses := d.pulses.filter (· != a) })) n (a + 4000)) n a)) ∧
     (∀ mb tag, d.calib = some (mb, tag, none) →
       exec (.trgPulseDrive l) s = .next (setTrgLine (drivePulse s n s.t0) n (fun d => { d with calib := some (mb, tag, some s.t0) }))) ∧
     (∀ (g : DWord),
       let t := g.toNat / 10 * 10
       let origin := t - 4000 - param s pAcqTrgDelay n
       (∀ up, s.t0 < t ∨ (∃ x ∈ d.driven, x ≤ t ∧ t ≤ x + 2000) → exec (.trgEdgeReceive l g up) s = .next s) ∧
       (t ≤ s.t0 → (∀ x ∈ d.driven, t < x ∨ x + 2000 < t) →
         exec (.trgEdgeReceive l g false) s = .next (lineTasks s n false origin) ∧
         (∀ x, d.lastRise = some x → t < x + 2000 →
           exec (.trgEdgeReceive l g true) s = .next (setTrgLine s n (fun d => { d with lastRise := some t, merged := d.merged + 1 }))) ∧
         ((∀ x, d.lastRise = some x → x + 2000 ≤ t) →
           (d.calib = none → exec (.trgEdgeReceive l g true) s = .next (lineFire
             (let s1 := setTrgLine s n (fun d => { d with lastRise := some t })
              if flag s1 pAcqTrgEcho n then setTrgLine s1 n (fun d => { d with echoes := d.echoes ++ [t + 10000] }) else s1) n origin)) ∧
           (∀ mb tag x, d.calib = some (mb, tag, some x) → ∃ u, exec (.trgEdgeReceive l g true) s = .next u ∧ (trgLine u n).calib = none ∧ (trgLine u n).lastRise = some t)))) ∧
     (∀ e r, d.echoes = e :: r →
       (e ≤ s.t0 → exec (.trgEcho l) s = .next (drivePulse (setTrgLine s n (fun d => { d with echoes := r })) n e)) ∧
       (s.t0 < e → exec (.trgEcho l) s = .next s)) ∧
     (∀ mb tag x, d.calib = some (mb, tag, some x) →
       (x + 100000 ≤ s.t0 → exec (.noEcho l) s = .next (finish (setTrgLine s n (fun d => { d with calib := none }))
         { mb := ⟨mb % 8, Nat.mod_lt _ (by decide)⟩, tag := bv 5 tag } 0x0606 true 0x0409)) ∧
       (s.t0 < x + 100000 → exec (.noEcho l) s = .next s)) ∧
     (∀ r : Req, Runs s r 0x0606 true allModes 4 (r.target == 0 && decide (n < 4) && fld r.payload 1 3 == 0) → fld r.payload 0 1 = n → d.calib = none →
       exec (.trgCalibrate r) s = .next (setTrgLine (begun s r 0x0606) n (fun d => { d with calib := some (r.mb.val, r.tag.toNat, none) })))) ∧
  (∀ (s : State) (r : Req),
     let mask := fld r.payload 0 4
     let u := fld r.payload 0 1
     let n := fld r.payload 4 4
     (Runs s r 0x0601 true acqModes 4 (r.target == 0) → exec (.acqArm r) s = .next (finish (eachUnit (begun s r 0x0601) mask
       (fun s u => let s := acqSync s u; if (acqUnit s u).st = 1 ∧ acqMay s u then acqArm s u false else s)) r 0x0601 true 0)) ∧
     (Runs s r 0x0602 true acqModes 4 (r.target == 0) → exec (.acqTrigger r) s = .next (
       let b := eachUnit (begun s r 0x0602) mask (fun s u => let s := acqSync s u; if (acqUnit s u).st = 2 then acqTrigger 32 s u s.t0 0 0x10 else s)
       finish b r 0x0602 true 0 (leBytes 8 b.t0))) ∧
     (Runs s r 0x0603 true allModes 4 (r.target == 0) → exec (.acqStop r) s = .next (finish (eachUnit (begun s r 0x0603) mask
       (fun s u => if (acqUnit s u).st = 0 then s else acqDisable s u 1)) r 0x0603 true 0)) ∧
     (Runs s r 0x0604 false allModes 16 (r.target == 0 && decide (u < 32) && fld r.payload 1 3 == 0 && bulkOk (fld r.payload 8 4) (fld r.payload 12 4)) →
       let b := begun s r 0x0604
       let m := acqUnit s u
       (m.cur ≠ none → n = m.recno → exec (.acqRead r) s = .next (finish b r 0x0604 false 0x0504)) ∧
       (m.cur = none → m.recs.find? (fun x => x.recno == n) = none → exec (.acqRead r) s = .next (finish b r 0x0604 false 0x0405)) ∧
       (∀ x, m.cur = none → m.recs.find? (fun x => x.recno == n) = some x →
         (fld r.payload 12 4 < x.bytes.length → exec (.acqRead r) s = .next (finish b r 0x0604 false 0x0102)) ∧
         (x.bytes.length ≤ fld r.payload 12 4 → bulkBusy b (fld r.payload 8 4) (fld r.payload 12 4) = true → exec (.acqRead r) s = .next (finish b r 0x0604 false 0x0509)) ∧
         (x.bytes.length ≤ fld r.payload 12 4 → bulkBusy b (fld r.payload 8 4) (fld r.payload 12 4) = false →
           exec (.acqRead r) s = .next (finish (bulkPut b (fld r.payload 8 4) x.bytes) r 0x0604 false 0 (leBytes 4 x.bytes.length))))) ∧
     (Runs s r 0x0605 true allModes 8 (r.target == 0 && decide (u < 32) && fld r.payload 1 3 == 0) →
       ((∀ x ∈ (acqUnit s u).recs, x.recno ≠ n) → exec (.acqRelease r) s = .next (finish (begun s r 0x0605) r 0x0605 true 0x0405)) ∧
       (∀ x ∈ (acqUnit s u).recs, x.recno = n → ∃ t, exec (.acqRelease r) s = .next t ∧ (acqUnit t u).recs = (acqUnit s u).recs.filter (fun x => later 32 x.recno n))))

/-- A tile's aggregate is queued when the link has credits and kept, merged, when not. An update of an unrecorded point is dropped; one whose interval is open enters the coarse state; one later than the open interval waits in the queue. At its end an interval is written to the ring and the next one opens with the last value. A tightening without activity for its hold ends. A load window keeps its demand in a list of at most 1,000 windows and starts the next at 0; an overloaded one withdraws the latest tightening first. A second call in the same window changes nothing. A query of an unrecorded point answers 0x0401, of a busy bulk range 0x0509, of a layer without records 0x0405, and of a span the layer reaches back to with its records. -/
def Obligations.ThatchRecordsAndAnswers : Prop :=
  (∀ (s : State) (w : Word),
     let p := w.toNat
     let e := planOf s p
     (∀ (mn mx : Word) (sum : DWord) (k : BitVec 24) (q : BitVec 11) (nan : Bool), tilePoint p = true → recorded s p = true → s.t0 / 10000 / clsLen (effClsAt s p (s.t0 - 1)) ≠ 0 →
       (tfind s.thatch.tileAgg p = none → ∃ t x, exec (.tileAggregateSend w mn mx sum k q nan true) s = .next t ∧ t.thatch.queue = s.thatch.queue ++ [x] ∧
         x.point = p ∧ x.val = mx ∧ x.t = (s.t0 / 10000 / clsLen (effClsAt s p (s.t0 - 1)) - 1) * clsLen (effClsAt s p (s.t0 - 1)) * 10000) ∧
       (∃ t, exec (.tileAggregateSend w mn mx sum k q nan false) s = .next t ∧ t.thatch.queue = s.thatch.queue ∧ (tfind t.thatch.tileAgg p).isSome = true)) ∧
     (s.thatch.queue = [] → exec .thatchUpdate s = .next s) ∧
     (∀ u l, s.thatch.queue = u :: l → u.point = p → recorded s p = false → exec .thatchUpdate s = .next (setThatch s (fun h => { h with queue := l }))) ∧
     (∀ u l o, s.thatch.queue = u :: l → u.point = p → recorded s p = true → tightOf s p = none → e.layers % 2 = 0 → tfind s.thatch.l0 p = some o →
       (o.start ≤ u.t / 10000 → u.t / 10000 < o.start + clsLen o.cls → ∃ t, exec .thatchUpdate s = .next t ∧ t.thatch.queue = l ∧
         tfind t.thatch.l0 p = some (feedIntv (pget s p).ty e o u)) ∧
       (o.start + clsLen o.cls ≤ u.t / 10000 → ∃ t, exec .thatchUpdate s = .next t ∧ t.thatch.queue = u :: l ∧ tfind t.thatch.l0 p = some o)) ∧
     (∀ o, recorded s p = true → tightOf s p = none → e.layers % 2 = 0 → tfind s.thatch.l0 p = some o →
       (o.start + clsLen o.cls ≤ s.t0 / 10000 → ∃ t c, exec (.thatchIntervalClose w) s = .next t ∧
         t.thatch.l0Ring = ringPut s.thatch.l0Ring p e.cls e.l0Depth (closeIntv p o (if e.cls < o.cls then 2 else 0)) ∧
         tfind t.thatch.l0 p = some (openIntv c (o.start + clsLen o.cls) o.last)) ∧
       (s.t0 / 10000 < o.start + clsLen o.cls → ∃ t, exec (.thatchIntervalClose w) s = .next t ∧ tfind t.thatch.l0 p = some o ∧ t.thatch.l0Ring = s.thatch.l0Ring)) ∧
     (recorded s p = false → exec (.thatchIntervalClose w) s = .next s) ∧
     (∀ t, tightOf s p = some t →
       (t.lastAct + param s pThatchTightHold 0 * 1000000 ≤ s.t0 → exec (.thatchTightHoldExpiry w) s = .next (endTight s p)) ∧
       (s.t0 < t.lastAct + param s pThatchTightHold 0 * 1000000 → exec (.thatchTightHoldExpiry w) s = .next s))) ∧
  (∀ (s : State),
     (∀ q c : Bool, s.t0 / 1000000 ≤ s.thatch.windowAt → exec (.thatchLoadWindow q c) s = .next s) ∧
     (∀ q c : Bool, s.thatch.windowAt < s.t0 / 1000000 →
       ∃ t, exec (.thatchLoadWindow q c) s = .next t ∧ t.thatch.windowAt = s.t0 / 1000000 ∧ t.thatch.demand = 0 ∧
         t.thatch.win = (s.thatch.win ++ [s.thatch.demand]).drop (s.thatch.win.length + 1 - 1000)) ∧
     (∀ (q c : Bool) (g : Tight), s.thatch.windowAt < s.t0 / 1000000 → (150000 < s.thatch.demand ∨ q = true ∨ c = true) → s.thatch.stepDue = none →
       s.thatch.tight.getLast? = some g →
       let s1 := setThatch s (fun h => { h with windowAt := s.t0 / 1000000, demand := 0, win := (h.win ++ [s.thatch.demand]).drop (h.win.length + 1 - 1000) })
       let len := clsLen (rangeCls (planOf s g.point)) * 10000
       exec (.thatchLoadWindow q c) s = .next (setThatch (endTight s1 g.point) (fun h => { h with stepDue := some ((s.t0 / len + 1) * len) }))) ∧
     (∀ r : Req,
       let layer := fld r.payload 0 1
       let bo := fld r.payload 24 4
       let bl := fld r.payload 28 4
       let oc := fld r.payload 2 1
       let p := r.target.toNat
       let b := begun s r 0x0610
       Runs s r 0x0610 false allModes 32
         (decide (layer ≤ 4 ∧ fld r.payload 1 1 ≤ 2 ∧ (oc ≤ 5 ∨ oc = 0xFF)) && fld r.payload 3 1 == 0 && (fld r.payload 1 1 != 2 || decide (3 ≤ layer)) && bulkOk bo bl) →
       (recorded s p = false → exec (.thatchQuery r) s = .next (finish b r 0x0610 false 0x0401)) ∧
       (recorded s p = true → bulkBusy b bo bl = true → exec (.thatchQuery r) s = .next (finish b r 0x0610 false 0x0509)) ∧
       (recorded s p = true → bulkBusy b bo bl = false → layer ≤ 2 →
         (layerRecs s p layer = [] → exec (.thatchQuery r) s = .next (finish b r 0x0610 false 0x0405)) ∧
         (∀ x l, layerRecs s p layer = x :: l → fld r.payload 1 1 = 1 → oc = 0xFF →
           (fld r.payload 4 8 < x.start → exec (.thatchQuery r) s = .next (finish b r 0x0610 false 0x0405)) ∧
           (x.start ≤ fld r.payload 4 8 → exec (.thatchQuery r) s = .next (thatchAnswer b r bo bl (fun n => n)
             ((((x :: l).filter (fun y => decide (fld r.payload 4 8 < y.start + clsLen y.cls ∧ y.start ≤ fld r.payload 12 8))).map (markOutage b p)).map
               (fun y => (y.start, leBytes 8 y.start ++ intvBytes (if layer = 1 then lapOf 5 (planOf s p).l1Depth y
                 else if layer = 0 then lapOf (planOf s p).cls (planOf s p).l0Depth y else 0) y)))))))))

/-! ### The recorder, CAN, Ethernet and time (R410-R472) -/

/-- The oldest waiting event leaves the queue. Where it coalesces with an open record no sequence number is used; otherwise, with room in a sound ring, a new record with the next number, its class, source, object and payload enters it. A coalescing window that has passed closes its record. The first uncommitted closed record is committed under its number, to the journal where there is room. A recorder fault is reported, marks the recorder degraded once and drops the committed ring records. -/
def Obligations.RecorderKeepsRecords : Prop :=
  ∀ (s : State),
    (s.evq = [] → exec .eventRecordCreate s = .next s) ∧
    (∀ e q, s.evq = e :: q →
      (∀ y, s.recd.degraded = false → s.recd.ring.find? (coalescesWith s e) = some y → ∃ t, exec .eventRecordCreate s = .next t ∧ t.evq = q ∧
        t.recd.next = s.recd.next ∧ t.recd.ring.map (·.seq) = s.recd.ring.map (·.seq)) ∧
      (s.recd.degraded = false → s.recd.ring.find? (coalescesWith s e) = none → s.recd.ring.length < 4096 → ∃ t, exec .eventRecordCreate s = .next t ∧ t.evq = q ∧
        t.recd.next = s.recd.next + 1 ∧ ∃ x ∈ t.recd.ring, x.seq = s.recd.next ∧ x.era = s.recd.era ∧ x.cls = e.cls ∧ x.src = e.src ∧ x.object = e.object ∧
          x.payload = e.payload ∧ x.born = s.t0) ∧
      (s.recd.degraded = true → Ev.severity e.cls < 4 → ∃ t, exec .eventRecordCreate s = .next t ∧ t.evq = q ∧ t.recd.ring = s.recd.ring ∧ t.recd.next = s.recd.next)) ∧
    (∀ y, s.recd.ring.find? (fun x => x.isOpen && !x.committed && decide (x.born + param s pEvtCoalesceMs (Ev.number x.cls) * 1000000 ≤ s.t0)) = some y →
      exec .coalesceWindowEnd s = .next (setRec s (fun r => { r with ring := r.ring.map (fun x => if x.seq = y.seq then { x with isOpen := false } else x) }))) ∧
    (∀ x, s.recd.ring.find? (fun x => !x.committed) = some x →
      (x.isOpen = false → s.recd.flashFailed = false → ∃ t, exec .recordCommit s = .next t ∧ t.recd.committedSeq = x.seq ∧
        (∀ j, journalAppend s.recd.journal { x with isOpen := false, committed := true } = some j → t.recd.journal = j) ∧
        ∀ y ∈ t.recd.ring, y.seq = x.seq → y.committed = true) ∧
      (x.isOpen = true ∨ s.recd.flashFailed = true → exec .recordCommit s = .next s)) ∧
    (s.recd.journal.length + 2 ≤ 128 → exec .journalSectorReclaim s = .next s) ∧
    (∀ old rest n, s.recd.journal = old :: rest → 127 ≤ s.recd.journal.length →
      let low := s.recd.journal.flatten.foldl (fun a x => min a x.sev) 7
      let keep := old.filter (fun x => decide (low < x.sev) || x.sev == 7)
      keep.foldl (fun (a : Option (List (List EvRec))) x => a.bind (fun j => journalAppend j x)) (some rest) = some n → n.length < 128 →
      exec .journalSectorReclaim s = .next (setRec s (fun r => { r with journal := n, copied := min (r.copied + keep.length) (2 ^ 32 - 1) }))) ∧
    (∀ (c : Fin 4) (a : Word), (s.recd.degraded = true → exec (.recorderFault c a) s = .next s) ∧
      (s.recd.degraded = false → ∃ t, exec (.recorderFault c a) s = .next t ∧ t.recd.degraded = true ∧ t.recd.flashFailed = decide (2 ≤ c.val) ∧
        t.recd.ring = s.recd.ring.filter (fun x => !x.committed) ∧ t.faultq = s.faultq ++ [⟨0x0C01, 0, c.val, a.toNat⟩]))

/-- EVT_READ gives at most the asked number of records of the era from the number on, or 0x0405 below the oldest kept. EVT_STATUS_GET gives the recorder header, EVT_CLASSES_GET the definitions that fit, EVT_ANCHORS_GET the anchors of the era and wrap count or 0x0405. The secret is stored once (0x0705). A challenge needs the secret (0x0703) and no lock (0x0704). EVT_CLEAR needs an unexpired challenge (0x0702) and its HMAC: a right one erases ring, journal and anchors before its CLEAR record, a wrong one is counted. -/
def Obligations.RecorderCommandsReadAndClear : Prop :=
  ∀ (s : State) (r : Req),
    (let n := fld r.payload 8 2
     let b := begun s r 0x0620
     Runs s r 0x0620 false allModes 12 (r.target == 0 && fld r.payload 2 2 == 0 && decide (1 ≤ n ∧ n ≤ 63) && fld r.payload 10 2 == 0) →
     ∀ x l, (recsKept s).filter (fun x => x.era.toNat == fld r.payload 0 2) = x :: l →
       (later 32 x.seq.toNat (fld r.payload 4 4) = true → exec (.evtRead r) s = .next (finish b r 0x0620 false 0x0405)) ∧
       (later 32 x.seq.toNat (fld r.payload 4 4) = false →
         let got := ((x :: l).filter (fun y => y.seq.toNat == fld r.payload 4 4 || later 32 y.seq.toNat (fld r.payload 4 4))).take n
         exec (.evtRead r) s = .next (finish b r 0x0620 false 0 (leBytes 4 got.length ++ got.flatMap evBytes)))) ∧
    (Runs s r 0x0621 false allModes 0 (r.target == 0) → exec (.evtStatusGet r) s = .next (finish (begun s r 0x0621) r 0x0621 false 0 (recHeader s))) ∧
    (let bo := fld r.payload 4 4
     let bl := fld r.payload 8 4
     let b := begun s r 0x0622
     Runs s r 0x0622 false allModes 12 (r.target == 0 && fld r.payload 2 2 == 0 && bulkOk bo bl) →
     (bulkBusy b bo bl = true → exec (.evtClassesGet r) s = .next (finish b r 0x0622 false 0x0509)) ∧
     (bulkBusy b bo bl = false →
       let l := fitting bl (((List.range 1024).drop (fld r.payload 0 2)).filterMap Config.classDef)
       exec (.evtClassesGet r) s = .next (finish (bulkPut b bo l.flatten) r 0x0622 false 0 (leBytes 4 l.length ++ leBytes 4 l.flatten.length)))) ∧
    (let n := fld r.payload 8 2
     let l := s.recd.anchors.filter (fun a => a.era.toNat == fld r.payload 0 2 && a.wraps == fld r.payload 2 2)
     Runs s r 0x0623 false allModes 12 (r.target == 0 && decide (1 ≤ n ∧ n ≤ 126) && fld r.payload 10 2 == 0) →
     (l = [] → exec (.evtAnchorsGet r) s = .next (finish (begun s r 0x0623) r 0x0623 false 0x0405)) ∧
     (l ≠ [] → let got := (l.filter (fun a => decide (fld r.payload 4 4 ≤ a.seq.toNat))).take n
       exec (.evtAnchorsGet r) s = .next (finish (begun s r 0x0623) r 0x0623 false 0 (leBytes 4 got.length ++ got.flatMap anchorBytes)))) ∧
    (Runs s r 0x0624 true [.config, .idle] 32 (r.target == 0) →
      (s.recd.secret ≠ none → exec (.evtSecretSet r) s = .next (finish (begun s r 0x0624) r 0x0624 true 0x0705)) ∧
      (s.recd.secret = none → ∃ t, exec (.evtSecretSet r) s = .next t ∧ t.recd.secret = some (r.payload.take 32))) ∧
    (Runs s r 0x0625 true [.config, .idle, .maint] 0 (r.target == 0) →
      (s.recd.secret = none → exec (.evtClearChallenge r) s = .next (finish (begun s r 0x0625) r 0x0625 true 0x0703)) ∧
      (s.recd.secret ≠ none → s.t0 < s.recd.lockedUntil → exec (.evtClearChallenge r) s = .next (finish (begun s r 0x0625) r 0x0625 true 0x0704)) ∧
      (s.recd.secret ≠ none → s.recd.lockedUntil ≤ s.t0 → ∃ t c, exec (.evtClearChallenge r) s = .next t ∧ t.recd.challenge = some (c, s.t0) ∧ c.length = 16)) ∧
    (Runs s r 0x0626 true [.config, .idle, .maint] 32 (r.target == 0) → ∀ key, s.recd.secret = some key → s.recd.lockedUntil ≤ s.t0 →
      (s.recd.challenge = none → exec (.evtClear r) s = .next (finish (begun s r 0x0626) r 0x0626 true 0x0702)) ∧
      (∀ c a, s.recd.challenge = some (c, a) → s.t0 ≤ a + 60000000000 →
        let good := hmac key (c ++ leBytes 8 Config.serial.toNat ++ leBytes 2 s.recd.era.toNat ++ leBytes 4 s.recd.next.toNat ++ [0x43, 0x4C, 0x45, 0x41, 0x52])
        (good ≠ r.payload.take 32 → ∃ t, exec (.evtClear r) s = .next t ∧ t.recd.challenge = none ∧ t.recd.journal = s.recd.journal) ∧
        (good = r.payload.take 32 → ∃ t x, exec (.evtClear r) s = .next t ∧ t.recd.journal = [] ∧ t.recd.ring = [x] ∧ x.cls = .clear ∧ x.seq = s.recd.next ∧
          t.recd.challenge = none)))

/-- On a live channel that may send, the pending frame with the lowest arbitration key among those pending for 1 µs starts. A sent frame counts, lowers TEC and ends its slot with status 1. A frame of a length the channel knows is counted and taken. A receive error counts 1 or 8. A protocol exception only counts where CAN.PEX is set and is a form error otherwise; its flag ends after 1 s. TXD timeout sets its flag. Bus-off recovery clears both counters. A pending frame not on the bus ends at its deadline. -/
def Obligations.CanFramesAndErrors : Prop :=
  ∀ (s : State) (ch : Fin 8),
    let c := ch.val
    let d := canCh s c
    (CanLive s c → canMaySend s c = true →
      let l := d.slots.filterMap (fun e => match e.2.pend with
        | some f => if f.since + 1000 ≤ s.t0 ∧ f.tt = false then some (e.1, f) else none
        | none => none)
      (l = [] → exec (.canTxStart ch) s = .next s) ∧
      (∀ x r, l = x :: r → ∃ y ∈ l, (∀ z ∈ l, canKey y.2.id ≤ canKey z.2.id) ∧ exec (.canTxStart ch) s = .next (canStart s c y.1 y.2))) ∧
    (∀ (k : Nat) (f : CanFrame) (dur : Half), d.onBus = some k → (canSlot s c k).pend = some f → (canSlot s c k).next = none → canMode s c = 0 →
      ∃ t, exec (.canTxAttemptEnd ch 0 dur) s = .next t ∧ (canCh t c).onBus = none ∧ (canCh t c).tx = (d.tx + 1) % 2 ^ 32 ∧ (canCh t c).tec = d.tec - 1 ∧
        (canSlot t c k).pend = none ∧ (canSlot t c k).sent = ((canSlot s c k).sent + 1) % 2 ^ 32 ∧ (f.ending = none → (canSlot t c k).lastEnd = 1)) ∧
    (∀ dur : Half, ∀ res : Fin 6, d.onBus = none → exec (.canTxAttemptEnd ch res dur) s = .next s) ∧
    (CanLive s c → canMode s c = 0 → ∀ (id : Word) (data : List Byte) (tag : DWord) (dur : Half), tag.toNat ≤ s.t0 → id.getLsbD 30 = false →
      isRef s c id.toNat = false → canFilter s c id.toNat = none →
      ∃ t, exec (.canFrameReceive ch id data tag dur) s = .next t ∧ (canCh t c).rx = (d.rx + 1) % 2 ^ 32 ∧ (canCh t c).unmatched = (d.unmatched + 1) % 2 ^ 32 ∧
        (d.rec_ ≤ 127 → (canCh t c).rec_ = d.rec_ - 1)) ∧
    (CanLive s c → ∀ dom : Bool, exec (.canRxError ch dom) s = .next (canError s c 0 (if dom then 8 else 1))) ∧
    (CanLive s c → ∃ t, exec (.canTxdTimeout ch) s = .next t ∧ (canCh t c).txdTimeout = true) ∧
    (CanLive s c →
      (flag s pCanPex c = true → ∃ t, exec (.canProtocolException ch) s = .next t ∧ (canCh t c).pexs = (d.pexs + 1) % 2 ^ 32 ∧
        (canCh t c).pexUntil = some (s.t0 + 1000000000) ∧ (canCh t c).rec_ = d.rec_) ∧
      (flag s pCanPex c = false → exec (.canProtocolException ch) s = .next (canError s c 0 1))) ∧
    (∀ a, d.pexUntil = some a →
      (a ≤ s.t0 → exec (.pexTimeout ch) s = .next (canPoints (setCan s c (fun d => { d with pexUntil := none })) c)) ∧ (s.t0 < a → exec (.pexTimeout ch) s = .next s)) ∧
    (d.busOff = true → d.recovering = true → ∃ t, exec (.canBusOffRecovery ch) s = .next t ∧ (canCh t c).busOff = false ∧ (canCh t c).tec = 0 ∧ (canCh t c).rec_ = 0) ∧
    (d.busOff = false ∨ d.recovering = false → exec (.canBusOffRecovery ch) s = .next s) ∧
    (∀ (k : Fin 32) (f : CanFrame), (canSlot s c k.val).pend = some f → param s pCanSlotDeadline (c * 32 + k.val) ≠ 0 →
      f.since + param s pCanSlotDeadline (c * 32 + k.val) * 1000 ≤ s.t0 → d.onBus ≠ some k.val → exec (.canSlotDeadline ch k) s = .next (canEnd s c k.val 4))

/-- A master on a live channel sends its reference when it is due, with the next count, and becomes current master. In its window a pending frame starts when the bus is idle and its instant is not past, and else ends. Without a reference for 3 cycles synchronisation is lost. In silent hold a repeated slot enters its last frame again. CAN_SEND enters a frame in the named or the first free slot (0x0505 without one, 0x0208 disabled), CAN_ABORT ends a pending frame, CAN_RECOVER starts the recovery of a channel that is bus-off (else 0x0208). -/
def Obligations.CanTriggeredTimeAndHostFrames : Prop :=
  ∀ (s : State) (ch : Fin 8),
    let c := ch.val
    let d := canCh s c
    (CanLive s c → param s pCanTtRole c = 2 → canMode s c = 0 → d.tec ≤ 127 → d.rec_ ≤ 127 →
      (∀ won a, d.ref = some a → s.t0 < a + canCycle s c → exec (.ttReferenceSend ch won) s = .next s) ∧
      (∀ won a, d.ref = some a → a + canCycle s c ≤ s.t0 → ∃ t, exec (.ttReferenceSend ch won) s = .next t ∧ (canCh t c).tt = 4 ∧ (canCh t c).cycle = (d.cycle + 1) % 64 ∧
        (canCh t c).ref = some s.t0 ∧ ∃ o ∈ t.outbox, o.kind = Out.canFrame ∧ o.dst = c)) ∧
    (CanLive s c → ∀ (k : Fin 32) (f : CanFrame) (idle : Bool) (a : Nat), (canSlot s c k.val).pend = some f → f.tt = true → d.ref = some a →
      (d.cycle + 64 - param s pCanSlotTtBase (c * 32 + k.val) % 64) % 64 % max 1 (param s pCanSlotTtRepeat (c * 32 + k.val)) = 0 →
      let w := a + param s pCanSlotTtOffset (c * 32 + k.val) * canNtu s c
      (s.t0 < w → exec (.ttWindow ch k idle) s = .next s) ∧
      (w ≤ s.t0 → s.t0 ≤ w + canBit s c → idle = true → (d.tt = 3 ∨ d.tt = 4) → d.gap = false → canMaySend s c = true →
        exec (.ttWindow ch k idle) s = .next (canStart s c k.val f)) ∧
      (w ≤ s.t0 → idle = false → d.gap = false → exec (.ttWindow ch k idle) s = .next (canEndLater s c k.val 8))) ∧
    (∀ a, d.ref = some a → d.tt = 3 → param s pCanTtRole c ≠ 0 →
      (a + 3 * canCycle s c ≤ s.t0 → ∃ t, exec (.ttSyncLoss ch) s = .next t ∧ (canCh t c).tt = 1 ∧ (canCh t c).syncLost = true ∧ (canCh t c).ref = some a ∧
        (canCh t c).missedRefs = (d.missedRefs + 3) % 2 ^ 32) ∧
      (s.t0 < a + 3 * canCycle s c → exec (.ttSyncLoss ch) s = .next s)) ∧
    (∀ (k : Fin 32) (id : Nat) (data : List Byte), (canSlot s c k.val).entered = some (id, data) → (node s (c / 2)).silent = true →
      (canStations s c).any (fun x => (station s x).blocks.any (fun b => !b.input && b.slot == k.val && b.txMode == 0)) = true → param s pCanSlotHold (c * 32 + k.val) ≠ 0 →
      let iv := (canSlot s c k.val).applyAt - (canSlot s c k.val).applyPrev
      iv ≠ 0 → (canSlot s c k.val).repAt + iv ≤ s.t0 → s.t0 ≤ (node s (c / 2)).silentSince + 5000000000 →
      exec (.canHoldRepeat ch k) s = .next (canEnter (setCanSlot s c k.val (fun d => { d with repAt := d.repAt + iv })) c k.val id data
        ((canStations s c).find? (fun x => (station s x).blocks.any (fun b => !b.input && b.slot == k.val))) false)) ∧
    (∀ r : Req, fld r.payload 0 1 = c →
      (let k := fld r.payload 1 1
       let n := fld r.payload 2 1
       let id := fld r.payload 4 4
       let b := begun s r 0x0701
       Runs s r 0x0701 true allModes (8 + n) (r.target == 0 && decide (c < 8) && decide (k < 32 ∨ k = 0xFF) && fld r.payload 3 1 == 0 &&
         canLenOk (id / 2 ^ 30 % 2 == 1 && param s pCanFd c == 1) n && (k == 0xFF || !slotTaken s c k)) →
       (CanLive s c → k ≠ 0xFF → exec (.canSend r) s = .next (finish (canEnter b c k id ((r.payload.drop 8).take n) none false) r 0x0701 true 0 (leBytes 1 k ++ [0, 0, 0]))) ∧
       (CanLive s c → k = 0xFF → (List.range 32).find? (fun i => !slotTaken s c i && (canSlot s c i).pend.isNone) = none →
         exec (.canSend r) s = .next (finish b r 0x0701 true 0x0505)) ∧
       (∀ i, CanLive s c → k = 0xFF → (List.range 32).find? (fun i => !slotTaken s c i && (canSlot s c i).pend.isNone) = some i →
         exec (.canSend r) s = .next (finish (canEnter b c i id ((r.payload.drop 8).take n) none false) r 0x0701 true 0 (leBytes 1 i ++ [0, 0, 0]))) ∧
       (flag s pCanEnable c = false → d.on = false → exec (.canSend r) s = .next (finish b r 0x0701 true 0x0208))) ∧
      (let k := fld r.payload 1 1
       let b := begun s r 0x0702
       Runs s r 0x0702 true allModes 4 (r.target == 0 && decide (c < 8 ∧ k < 32) && fld r.payload 2 2 == 0) →
       exec (.canAbort r) s = .next (finish (if (canSlot s c k).pend.isSome then canEndLater b c k 7 else b) r 0x0702 true 0)) ∧
      (Runs s r 0x0703 true allModes 4 (r.target == 0 && decide (c < 8) && fld r.payload 1 3 == 0) → flag s pCanEnable c = true → d.on = true →
        (d.busOff = false → exec (.canRecover r) s = .next (finish (begun s r 0x0703) r 0x0703 true 0x0208)) ∧
        (d.busOff = true → ∃ t, exec (.canRecover r) s = .next t ∧ (canCh t c).recovering = true ∧ (canCh t c).held = false)))

/-- A CSX frame at a live port that is up counts as received, and one with a wrong CRC is rejected. A gate change opens all gates while the cycle has no base; a link change takes speed or discards the queues. Sync, Announce and delay responses reach the domains that follow the port, and a MASTER port sends Sync and Announce at its interval. At its instant a waiting step moves its domain by its offset; a correction re-bases the domain at its period; without measurements for LOSS_TIME it goes to HOLDOVER. TIME_RESTEP with M 0 asks for a step. -/
def Obligations.EthernetAndTimeDomains : Prop :=
  ∀ (s : State),
    (∀ (n : Fin 3) (mac : BitVec 48) (w : List Byte) (b : Block),
      let p := n.val
      let k := stnKey (16 + p) (fld w 2 2 % 1024)
      EthLive s p → (ethPort s p).up = true → (station s k).blocks[fld w 6 1]? = some b → b.input = true → b.mac = mac.toNat → (station s k).present = true →
      fld w 0 1 = 1 → fld w 1 1 = 2 → 1 ≤ fld w 2 2 → fld w 2 2 ≤ 1023 → w.length < 24 + fld w 0x10 2 →
      ∃ t, exec (.csxInputFrame n mac w) s = .next t ∧ (ethPort t p).rx = ((ethPort s p).rx + 1) % 2 ^ 32 ∧ (ethPort t p).rejCrc = ((ethPort s p).rejCrc + 1) % 2 ^ 32 ∧
        station t k = station s k) ∧
    (∀ n : Fin 3, EthLive s n.val → flag s pEthQbv n.val = true → qbvBase s n.val = none →
      exec (.qbvGateChange n) s = .next (ethDrain (ethPoints (setEth s n.val (fun e => { e with gateIdx := 0, gates := bv 8 255, allOpen := true })) n.val) n.val)) ∧
    (∀ (n : Fin 3) (v : Fin 4), EthLive s n.val →
      (∃ t, exec (.ethLinkChange n false v) s = .next t ∧ (ethPort t n.val).up = false ∧ (ethPort t n.val).queues = []) ∧
      (∃ t, exec (.ethLinkChange n true v) s = .next t ∧ (ethPort t n.val).up = decide (v.val ≠ 0) ∧ (ethPort t n.val).speed = v.val)) ∧
    (∀ (n : Fin 3) (m a o rk : DWord) (st : Half) (t1 t2 t3 t4 : DWord), EthLive s n.val → (ethPort s n.val).up = true → a.toNat ≤ s.t0 →
      (exec (.ptpSyncReceive n m a o) s = .next (ethPoints ((ptpDomains s n.val).foldl (fun u d =>
        if (domain u d).master ≠ 0 ∧ (domain u d).master ≠ m.toNat then u else takeMeas u d (a.toNat - param s pEthPhyRxDelay n.val) ((o.toNat + (domain u d).delay : Nat) : Int))
          (setEth s n.val (fun e => { e with rx := (e.rx + 1) % 2 ^ 32 }))) n.val)) ∧
      (∀ d ∈ ptpDomains s n.val, (domain s d).master = 0 → ∃ t, exec (.ptpAnnounceReceive n m rk st) s = .next t ∧ (domain t d).master = m.toNat ∧
        (domain t d).masterPrio = rk.toNat ∧ (domain t d).masterSteps = st.toNat) ∧
      (∀ d ∈ ptpDomains s n.val, ∃ t, exec (.ptpDelayResponse n t1 t2 t3 t4) s = .next t ∧
        (domain t d).delay = (((t2.toNat : Int) - t1.toNat + ((t4.toNat : Int) - t3.toNat)) / 2).toNat)) ∧
    (∀ n : Fin 3, EthLive s n.val → param s pEthPtpRole n.val = 2 → s.mode.cur ≠ .standby → (domain s 1).st = 2 →
      ((ethPort s n.val).syncAt + syncIv s n.val ≤ s.t0 →
        let q := (ethPort s n.val).syncSeq
        exec (.ptpSyncSend n) s = .next (ethEnqueue (ethEnqueue (ethEnqueue (setEth s n.val (fun e => { e with syncAt := s.t0, syncSeq := (q + 1) % 65536 })) n.val 7 0
          (Config.ptpBytes 0 q (t1At s s.t0) 0 0)) n.val 0 0 (Config.ptpBytes 2 q (t1At s s.t0) 0 0)) n.val 0 0 (Config.ptpBytes 1 q (t1At s s.t0) (domain s 1).masterPrio ((domain s 1).masterSteps + 1)))) ∧
      (s.t0 < (ethPort s n.val).syncAt + syncIv s n.val → exec (.ptpSyncSend n) s = .next s)) ∧
    (∀ n : Fin 3,
      let d := n.val + 1
      let m := domain s d
      (m.st = 3 → param s pTimeCorrPeriod d ≠ 0 → s.t0 % (param s pTimeCorrPeriod d * 1000000) = 0 → m.c < s.t0 →
        ∃ t, exec (.timeCorrection n) s = .next t ∧ (domain t d).c = s.t0 ∧ (domain t d).base = m.fine s.t0 ∧ (domain t d).rate = m.rate ∧ (domain t d).st = 3) ∧
      (∀ a o, m.stepAt = some (a, o) →
        (a ≤ s.t0 → ∃ t, exec (.timeStep n) s = .next t ∧ (domain t d).st = 1 ∧ (domain t d).stepAt = none ∧ (domain t d).c = a ∧
          (domain t d).base = m.fine a + o * 4294967296 ∧ (domain t d).steps = (m.steps + 1) % 2 ^ 32) ∧
        (s.t0 < a → exec (.timeStep n) s = .next s)) ∧
      ((m.st = 1 ∨ m.st = 2) → m.lastMeas + param s pTimeLossTime d * 1000000 ≤ s.t0 →
        ∃ t, exec (.timeLossTimeout n) s = .next t ∧ (domain t d).st = 3 ∧ (domain t d).holdSince = s.t0)) ∧
    (∀ r : Req,
      let d := fld r.payload 0 1
      Runs s r 0x0710 true ([.config, .idle, .maint, .test] ++ (if flag s pTimeRestepInRun 0 then [.run, .hold] else [])) 4
        (r.target == 0 && decide (1 ≤ d ∧ d ≤ 3 ∧ fld r.payload 1 1 ≤ 1) && fld r.payload 2 2 == 0) →
      (fld r.payload 1 1 = 0 → ∃ t, exec (.timeRestep r) s = .next t ∧ (domain t d).restep = true) ∧
      (fld r.payload 1 1 = 1 → d ≠ 1 → exec (.timeRestep r) s = .next (finish (begun s r 0x0710) r 0x0710 true 0x0206)))

/-! ### Twins and check values (R474-R487, R509-R519, R576) -/

/-- Every 100 µs a heartbeat goes out on both lanes, outside M0 and not before. A received one is kept with its lane and partner, and a standby that sees a latched reaction enters M10. A forwarded SYS update appears in TWIN; another update, a trigger, a journal transaction reach a standby in M9 and nobody else. A marker more than 100 µs late, a differing CRC, lost traffic or a heavy lane fault make a device in step fall out of it. -/
def Obligations.TwinsHearAndForward : Prop :=
  ∀ (s : State),
    (flag s pTwinEnable 0 = true → s.mode.cur ≠ .keep → s.rst.stage = 0 → (∀ a, s.twin.sentHb = some a → a + 100000 ≤ s.t0) → s.twin.st ≠ 5 →
      ∃ t, exec .seamHeartbeatSend s = .next t ∧ t.twin.sentHb = some s.t0 ∧ ∃ o1 o2, t.outbox = s.outbox ++ [o1, o2] ∧
        o1.kind = Out.seamHeartbeat ∧ o1.dst = 0 ∧ o2.kind = Out.seamHeartbeat ∧ o2.dst = 1 ∧ o1.arg = o2.arg ∧
        o1.arg = [(s.t0 : Int), if standbyRole s.twin.st then 1 else 0, s.mode.cur.num, s.twin.st, topReaction s]) ∧
    (∀ a, s.twin.sentHb = some a → s.t0 < a + 100000 → exec .seamHeartbeatSend s = .next s) ∧
    (∀ (l : Fin 2) (t0 : DWord) (role : Fin 2) (m : Fin 12) (st : Fin 6) (lat same : Bool) (rtt : Word), flag s pTwinEnable 0 = true → s.mode.cur ≠ .keep → s.rst.stage ≠ 4 →
      (s.twin.st = 0 → s.mode.cur = .run → s.rst.stage = 0 → param s pTimeSource 3 ≠ 3 → ∃ t, exec (.seamHeartbeatReceive l t0 role m st lat same rtt) s = .next t ∧
        t.twin.heard = s.twin.heard.set l.val (some s.t0) ∧ t.twin.down = s.twin.down.set l.val false ∧ t.mode = s.mode ∧
        t.twin.partner.mode = m.val ∧ t.twin.partner.st = st.val ∧ t.twin.partner.latched = lat ∧ t.twin.partner.same = same) ∧
      (s.twin.st = 2 → s.mode.cur = .standby → lat = true → ∃ t, exec (.seamHeartbeatReceive l t0 role m st lat same rtt) s = .next t ∧ t.mode.cur = .safe ∧ t.twin.st = 0)) ∧
    (∀ (t p : Nat) (v : Word) (c : BitVec 16),
      (ptRegion p = 0 → (standbyRole s.twin.st = true ∨ s.twin.st = 5) → exec (.seamForwardReceive (.update t p v c)) s = .next (putUpdate s t (ptid 0x13 p) v c)) ∧
      (ptRegion p ≠ 0 → s.mode.cur ≠ .standby → exec (.seamForwardReceive (.update t p v c)) s = .next s) ∧
      (ptRegion p ≠ 0 → ptRegion p ≠ 1 → s.mode.cur = .standby → standbyRole s.twin.st = true → exec (.seamForwardReceive (.update t p v c)) s = .next (putUpdate s t p v c))) ∧
    (s.mode.cur = .standby → standbyRole s.twin.st = true →
      (∀ t : Nat, s.t0 ≤ t + 100000 → exec (.seamForwardReceive (.marker t)) s = .next (setTwin s (fun d => { d with instants := d.instants.filter (fun x => x != t) }))) ∧
      (∀ t : Nat, t + 100000 < s.t0 → exec (.seamForwardReceive (.marker t)) s = .next
        (desync (setTwin s (fun d => { d with instants := d.instants.filter (fun x => x != t) })) 1)) ∧
      exec (.seamForwardReceive .lost) s = .next (desync s 3)) ∧
    (s.twin.st = 2 → s.mode.cur = .standby → s.twin.ours = [] →
      (s.twin.instants = [] → exec .endOfInstantTimeout s = .next s) ∧
      (∀ a ∈ s.twin.instants, a + 100000 < s.t0 → exec .endOfInstantTimeout s = .next (desync s 1))) ∧
    (s.twin.st = 2 → (desync s 1).twin.st = 3) ∧
    (∀ (l : Fin 2) (h : Bool), flag s pTwinEnable 0 = true → s.mode.cur ≠ .keep → s.twin.down[l.val]? = some false → ∃ t, exec (.twinLaneFault l h) s = .next t ∧
      t.twin.down[l.val]? = some true ∧ (h = false → t.twin.st = s.twin.st))

/-- TWIN_PAIR answers 0x020A unless a matching active partner is heard. A snapshot puts a pairing device whose offset is fixed into M9, in step. A standby that hears no heartbeat takes over into the active role unless a Ridge reaction is latched at its partner. A tile of a paired device opens its analog switches 2.8 ms and releases its channels 4.5 ms after its last heartbeat. TWIN_SWAP sets W 2 ms ahead; at W the outgoing opens its analog switches, at W + 0.5 ms the incoming closes its own, at W + 1 ms the outgoing enters M9. A boot that waits in vain goes on. At its instant a proof swap keeps the channels whose outgoing current reached PROOF_MA and sets the next one a period later; 1 ms later the outgoing side is done. At the check a channel commanded at the swap and since with its current on the incoming switch and at most 5 mA on the outgoing one is proven, and another is reported to the Ridge. A standby records a pin that disagrees with the partner's command, once until it agrees. -/
def Obligations.TwinsPairSwapAndTakeOver : Prop :=
  (∀ (s : State),
     (∀ r : Req, Runs s r 0x0720 true [.idle] 0 (r.target == 0) →
       (flag s pTwinEnable 0 = false → exec (.twinPair r) s = .next (finish (pairRefuse (begun s r 0x0720) 1) r 0x0720 true 0x020A)) ∧
       (flag s pTwinEnable 0 = true → pairReason s = 0 → s.twin.st = 0 → dwellOk s = false →
         exec (.twinPair r) s = .next (finish (begun s r 0x0720) r 0x0720 true 0x050C)) ∧
       (flag s pTwinEnable 0 = true → pairReason s = 0 → s.twin.st = 0 → dwellOk s = true → ∃ t, exec (.twinPair r) s = .next t ∧ t.twin.st = 1 ∧ t.twin.reply = some (r.mb.val, r.tag.toNat))) ∧
     (∀ x : Machine.Snap,
       (s.twin.st = 1 → s.twin.delta ≠ none → pairReason s = 0 → ∃ t, exec (.snapshotApplied x) s = .next t ∧ t.mode.cur = .standby ∧ t.twin.st = 2 ∧ t.twin.p0 = some x.p0) ∧
       (s.twin.st ≠ 1 ∨ s.twin.delta = none → exec (.snapshotApplied x) s = .next s)) ∧
     (s.mode.cur = .standby → s.twin.st = 2 → seamSilent s = true →
       (s.twin.partner.latched = true → exec .takeover s = .next s) ∧
       (s.twin.partner.latched = false → ∃ t, exec .takeover s = .next t ∧ t.mode.cur = .run ∧ t.twin.st = 4 ∧ t.twin.tookOver = true)) ∧
     (seamSilent s = false → exec .takeover s = .next s) ∧
     (∀ tile : Fin 4,
       (pairedTile s tile.val = true → (node s tile.val).lastHb + 2800000 ≤ s.t0 →
         exec (.parallelAnalogOpen tile) s = .next (aoSwitch s ((parAos s).filter (fun a => a / 8 == tile.val)) true)) ∧
       (pairedTile s tile.val = true → (node s tile.val).lastHb + 4500000 ≤ s.t0 →
         exec (.parallelChannelRelease tile) s = .next (chSwitch s ((parChans s false).filter (fun c => c / 128 == tile.val)) true)) ∧
       (pairedTile s tile.val = false → exec (.parallelAnalogOpen tile) s = .next s ∧ exec (.parallelChannelRelease tile) s = .next s)) ∧
     (∀ r : Req, Runs s r 0x0721 true [.run] 0 (r.target == 0) →
       (s.twin.st ≠ 5 → exec (.twinSwap r) s = .next (finish (begun s r 0x0721) r 0x0721 true 0x020A)) ∧
       (s.twin.st = 5 → s.twin.partner.st = 2 → s.twin.swap = none → (∀ e ∈ s.motion.ax, e.2.atRest = true) → dwellOk s = true →
         ∃ t, exec (.twinSwap r) s = .next t ∧ t.twin.swap = some (wholeMs s.t0 2000000, true, 0))) ∧
     (∀ (w : Nat), (s.twin.swap = some (w, true, 0) → w ≤ s.t0 → s.twin.st = 5 → ∃ t, exec .twinSwapInstant s = .next t ∧ t.twin.swap = some (w, true, 1) ∧ t.twin.st = 2) ∧
       (s.twin.swap = some (w, true, 0) → s.t0 < w → exec .twinSwapInstant s = .next s) ∧
       (s.twin.swap = some (w, false, 1) → w + 500000 ≤ s.t0 → exec .twinSwapAnalogClose s = .next (aoSwitch (setTwin s (fun d => { d with swap := none })) (parAos s) false)) ∧
       (s.twin.swap = some (w, true, 1) → w + 1000000 ≤ s.t0 → ∃ t, exec .twinSwapRelease s = .next t ∧ t.mode.cur = .standby ∧ t.twin.swap = none)) ∧
     (∀ w, s.twin.waitFrom = some w → s.rst.stage = 2 → w + param s pTwinPairWait 0 * 1000000 ≤ s.t0 → param s pTwinId 0 = 0 → partnerActive s = true →
       exec .pairWaitExpiry s = .next (bootGo (setRst (setTwin s (fun d => { d with waitFrom := none })) (fun r => { r with atLeast := if r.origin = 9 then max r.atLeast 2 else r.atLeast })))) ∧
     (s.twin.waitFrom = none → exec .pairWaitExpiry s = .next s) ∧
     (∀ r : Req, Runs s r 0x0722 false allModes 0 (r.target == 0) → ∃ b, exec (.twinStatusGet r) s = .next (finish (begun s r 0x0722) r 0x0722 false 0 b) ∧ b.length = 28 ∧
       b.head? = some (bv 8 (s.twin.st % 256)))) ∧
  (∀ (s : State),
     (∀ (l : List (BitVec 9 × Word)) (w : Nat), s.twin.nextProof = some w →
       (w ≤ s.t0 → (s.twin.st = 2 ∨ s.twin.st = 5) → ∃ t, exec (.proofSwap l) s = .next t ∧ t.twin.proofAt = w ∧ t.twin.proofStage = 1 ∧
         t.twin.nextProof = some (w + param s pTwinSwapPeriod 0 * 3600 * 1000000000) ∧ t.twin.proofOut = drivesPriv s ∧
         t.twin.proof = ((parChans s true).filter (fun c => privCmd s c)).filter (fun c => decide (ratOf (param s pTwinProofMa 0) ≤ currentOf l c))) ∧
       (s.t0 < w → exec (.proofSwap l) s = .next s)) ∧
     (s.twin.proofStage = 1 → s.twin.proofAt + 1000000 ≤ s.t0 → ∃ t, exec .proofSwapRelease s = .next t ∧ t.twin.proofStage = 2 ∧
       (s.twin.proofOut = true → s.twin.st = 2 → t.twin.standbyDrives = false)) ∧
     (s.twin.proofStage ≠ 1 → exec .proofSwapRelease s = .next s) ∧
     (∀ inc out : List (BitVec 9 × Word), s.twin.proofStage = 2 → s.twin.proofAt + 3000000 ≤ s.t0 → ∃ t, exec (.proofCheck inc out) s = .next t ∧ t.twin.proofStage = 0 ∧
       ∀ c ∈ parChans s true, privCmd s c = true → c ∈ s.twin.proofOn → (currentOf inc c < ratOf (param s pTwinProofMa 0) ∨ 5 < currentOf out c) →
         c ∈ t.twin.proofBad ∧ (⟨0x0902, 0x60 + c / 128, c, 0⟩ : FaultRep) ∈ t.faultq) ∧
     (∀ inc out, s.twin.proofStage ≠ 2 → exec (.proofCheck inc out) s = .next s) ∧
     (∀ (n : BitVec 9) (mv : Nat) (v : Word),
       let c := n.toNat
       s.mode.cur = .standby → flag s pTwinParallel c = true → isOut s c = true → tfind s.twin.cmd (chPt c 1) = some v →
       let bad := if v.getLsbD 0 then decide (mv < 3000) else decide (10000 ≤ mv)
       (bad = true → c ∉ s.twin.mismatch → exec (.twinPinMismatch n mv) s = .next
         (note (setTwin s (fun d => { d with mismatch := d.mismatch ++ [c] })) Ev.twinPinMismatch (0x60 + c / 128) c (chPt c 1) [mv])) ∧
       (bad = true → c ∈ s.twin.mismatch → exec (.twinPinMismatch n mv) s = .next s) ∧
       (bad = false → exec (.twinPinMismatch n mv) s = .next (setTwin s (fun d => { d with mismatch := d.mismatch.filter (· != c) })))))

/-- A free unit in service takes its own first job, else the first one waiting. A job that ends without a fault has the preset's value of its bytes with their folding, its byte count and instants. A scan period's re-check marks the Deck when a staged image is bad. A die's temperature gives its level against Tj max. CV_SCAN refuses a bad descriptor (0x010A), a range beyond its space (0x0406) or full queues (0x0506), and else queues the job under a new ID; CV_RESULT_GET and CV_ABORT answer 0x0405 for an unknown one. -/
def Obligations.CheckValuesAndDieTemperatures : Prop :=
  ∀ (s : State),
    (∀ (u : Fin 4) (j : CvJob) (q : List CvJob), (cvUnit s u.val).running = none → (island s (0x30 + u.val)).inService = true →
      (cvUnit s u.val).queue.filter (·.own) ++ (cvUnit s u.val).queue.filter (fun j => !j.own) = j :: q →
      exec (.cvJobStart u) s = .next (setCv s u.val (fun d => { d with running := some { j with began := s.t0 }, queue := d.queue.filter (fun x => x.id != j.id) }))) ∧
    (∀ (u : Fin 4), (cvUnit s u.val).running ≠ none → exec (.cvJobStart u) s = .next s) ∧
    (∀ (u : Fin 4) (j : CvJob) (l : List Byte) (o : Word), (cvUnit s u.val).running = some j → l.length = j.len → j.began < s.t0 →
      ∃ t x, exec (.cvJobEnd u l 0 o) s = .next t ∧ (cvUnit t u.val).running = none ∧ (cvUnit t u.val).results.getLast? = some x ∧ x.id = j.id ∧ x.status = 0 ∧
        x.value = cvValue j.preset (cvFeed j l) ∧ x.bytes = j.len ∧ x.tStart = j.began ∧ x.tEnd = s.t0) ∧
    (∀ b : Bool, s.mode.cur ≠ .keep → s.cv.scanAt + param s pCvImageScanPeriod 0 * 1000000000 ≤ s.t0 →
      ∃ t, exec (.imageRescan b) s = .next t ∧ t.cv.scanAt = s.t0 ∧ t.deck.crcBad = (s.deck.crcBad || (b && !s.deck.staged.isEmpty))) ∧
    (∀ (d : Fin 5) (w : Word), ∃ t, exec (.dieTempMeasure d w) s = .next t ∧
      tget 0 t.cv.dies d.val = if tjMax d.val * 1000 < w.toInt then 2 else if tjMax d.val * 1000 - 5000 ≤ w.toInt then 1 else 0) ∧
    (∀ r : Req,
      (let j := cvJobOf r.payload
       let b := begun s r 0x0810
       let len (u : Nat) : Nat := (cvUnit s u).queue.length
       Runs s r 0x0810 false allModes 32 (r.target == 0 && fld r.payload 0 4 == 0 && decide (j.space ≤ 2 ∧ j.fold ≤ 2 ∧ 1 ≤ j.len ∧ j.len ≤ 0xFFFFFFFC ∧ j.zLen ≤ 8)) →
       (5 ≤ j.preset → exec (.cvScan r) s = .next (finish b r 0x0810 false 0x010A)) ∧
       (j.preset < 5 → j.fold = 0 → fld r.payload 7 1 = 0 → fld r.payload 0x1E 2 = 0 →
         (cvLimit s j.space < j.start + j.len → exec (.cvScan r) s = .next (finish b r 0x0810 false 0x0406)) ∧
         (j.start + j.len ≤ cvLimit s j.space → (∀ u, u < 4 → 8 ≤ len u) → exec (.cvScan r) s = .next (finish b r 0x0810 false 0x0506)) ∧
         (j.start + j.len ≤ cvLimit s j.space → len 0 < 8 → len 0 ≤ len 1 → len 0 ≤ len 2 → len 0 ≤ len 3 →
           ∃ t, exec (.cvScan r) s = .next t ∧ t.cv.nextId = (s.cv.nextId + 1) % 2 ^ 32 ∧
             (cvUnit t 0).queue = (cvUnit s 0).queue ++ [{ j with id := s.cv.nextId, mb := r.mb.val, tag := r.tag.toNat }]))) ∧
      (let id := fld r.payload 0 4
       Runs s r 0x0811 false allModes 4 (r.target == 0) →
       (∀ x, ((s.cv.units.map (·.2)).flatMap (·.results)).find? (fun x => x.id == id) = some x →
         exec (.cvResultGet r) s = .next (finish (begun s r 0x0811) r 0x0811 false 0 (cvBytes x))) ∧
       (s.cv.units = [] → exec (.cvResultGet r) s = .next (finish (begun s r 0x0811) r 0x0811 false 0x0405))) ∧
      (let id := fld r.payload 0 4
       Runs s r 0x0812 true allModes 4 (r.target == 0) →
       (s.cv.units.find? (fun e => (e.2.queue ++ e.2.running.toList).any (fun j => j.id == id && !j.own)) = none →
         exec (.cvAbort r) s = .next (finish (begun s r 0x0812) r 0x0812 true 0x0405)) ∧
       (∀ e ∈ s.cv.units, (∃ j ∈ e.2.queue, j.id = id ∧ j.own = false) → s.cv.units.find? (fun e => (e.2.queue ++ e.2.running.toList).any (fun j => j.id == id && !j.own)) = some e →
         ∃ t x, exec (.cvAbort r) s = .next t ∧ x ∈ (cvUnit t e.1).results ∧ x.id = id ∧ x.status = 2)))

/-! ### The host window and its mailboxes (R9, R520-R547) -/

/-- Out of M0 KEEP. A CMD_TAIL that goes forward and fills at most 256 units is taken, any other sets ERROR and changes no index; RSP_HEAD likewise within RSP_TAIL. RESET empties both rings and clears ERROR, leaving OPEN, OWNER, CMD_SEQ and the tags. RELEASE ends ownership at once without outstanding tags and else waits. GLB_INT_SET sets causes, GLB_INT_STATUS clears the bits written 1, GLB_INT_ENABLE is stored. A new heartbeat word is kept with its instant. GLB_T0_LO latches the high word; MB_ERR and GLB_LINK_ERR clear when read. A write beyond its space changes nothing; one to a space whose window is down is counted; a word in the rings or the bulk window is stored. -/
def Obligations.HostRegistersAndDoorbells : Prop :=
  ∀ (s : State), s.mode.cur ≠ .keep →
    (∀ (m : Fin 8) (w : Word),
      let x := mbx s m.val
      let c : Half := w.truncate 16
      (fill x.cmdTail x.cmdHead ≤ fill c x.cmdHead → fill c x.cmdHead ≤ 256 →
        exec (.cmdTailWrite m w) s = .next (setMbx s m.val (fun x => { x with cmdTail := c, via := 0 }))) ∧
      (fill c x.cmdHead < fill x.cmdTail x.cmdHead ∨ 256 < fill c x.cmdHead → exec (.cmdTailWrite m w) s = .next (setMbx s m.val (fun x => { x with error := true }))) ∧
      (fill c x.rspHead ≤ fill x.rspTail x.rspHead → ∃ t, exec (.rspHeadWrite m w) s = .next t ∧ (mbx t m.val).rspHead = c ∧ (mbx t m.val).error = x.error) ∧
      (fill x.rspTail x.rspHead < fill c x.rspHead → exec (.rspHeadWrite m w) s = .next (setMbx s m.val (fun x => { x with error := true })))) ∧
    (∀ m : Fin 8,
      let x := mbx s m.val
      (∃ t, exec (.mbCtrlReset m) s = .next t ∧ (mbx t m.val).cmdHead = x.cmdTail ∧ (mbx t m.val).rspHead = x.rspTail ∧ (mbx t m.val).error = false ∧
        (mbx t m.val).isOpen = x.isOpen ∧ (mbx t m.val).owner = x.owner ∧ (mbx t m.val).cmdSeq = x.cmdSeq ∧ (mbx t m.val).tags = x.tags ∧
        (x.blocked = true → t.host.intStatus.getLsbD (8 + m.val) = true)) ∧
      (x.tags = [] → exec (.mbCtrlRelease m) s = .next (setMbx s m.val (fun x => { x with owner := 0, isOpen := false }))) ∧
      (x.tags ≠ [] → exec (.mbCtrlRelease m) s = .next (setMbx s m.val (fun x => { x with relPend := true }))) ∧
      ∃ t, exec (.mbErrRead m) s = .next t ∧ t.host.readData = leBytes 4 (mbErr x) ∧ (mbx t m.val).errCrc = 0 ∧ (mbx t m.val).errSeq = 0 ∧
        (mbx t m.val).errTag = 0 ∧ (mbx t m.val).errOther = 0) ∧
    (∀ w : Word,
      (∃ t, exec (.glbIntSetWrite w) s = .next t ∧ ∀ b, b < 32 → t.host.intStatus.getLsbD b = (s.host.intStatus.getLsbD b || (w.getLsbD b && decide (b < 22)))) ∧
      exec (.registerWrite 0 0x0110 w) s = .next (setHost s (fun h => { h with intStatus := h.intStatus &&& ~~~w })) ∧
      exec (.registerWrite 0 0x0114 w) s = .next (setHost s (fun h => { h with intEnable := w })) ∧
      (w = s.host.hostHb → exec (.glbHostHbWrite w) s = .next s) ∧
      (w ≠ s.host.hostHb → ∃ t, exec (.glbHostHbWrite w) s = .next t ∧ t.host.hostHb = w ∧ t.host.hbChanged = s.t0 ∧ t.host.hostLost = false ∧
        (s.host.hostLost = false → t.evq = s.evq))) ∧
    (∃ t, exec .glbT0LoRead s = .next t ∧ t.host.readData = leBytes 4 (s.t0 % 2 ^ 32) ∧ t.host.t0Hi = bv 32 (s.t0 / 2 ^ 32)) ∧
    (∃ t, exec .glbLinkErrRead s = .next t ∧ t.host.readData = leBytes 4 (s.host.errSpi + s.host.errUdp * 2 ^ 8 + s.host.errWin * 2 ^ 16) ∧
      t.host.errSpi = 0 ∧ t.host.errUdp = 0 ∧ t.host.errWin = 0) ∧
    (∀ (bar : Fin 3) (off : BitVec 24) (w : Word),
      (barSize (2 * bar.val) < off.toNat + 4 → exec (.registerWrite bar off w) s = .next s) ∧
      (off.toNat + 4 ≤ barSize (2 * bar.val) → bar ≠ 0 →
        (s.host.windowDown = true → exec (.registerWrite bar off w) s = .next (setHost s (fun h => { h with errWin := sat8 h.errWin }))) ∧
        (s.host.windowDown = false → ∃ t, exec (.registerWrite bar off w) s = .next t ∧
          mreads (if bar = 1 then t.host.rings else t.host.bulk) off.toNat 4 = leBytes 4 w.toNat)))

/-- While the Steward is ready the first mailbox in turn with a waiting frame and room for a tag is served. A bad header answers 0x010B and sets ERROR; a bad length 0x0102 and ERROR; the first failed step of 3 to 8 answers its status and skips the frame; else the frame's tag becomes outstanding with this instant as acceptance, and CMD_HEAD moves past it. A datagram with a bad header is counted; a duplicate is not executed again; an accepted one is owned by its source and advances CMD_SEQ. An SPI write with the right CRC writes its words, with a wrong one is counted; a read returns the words. -/
def Obligations.FramesAreTakenInOrRefused : Prop :=
  ∀ (s : State),
    (s.host.ready = false ∨ s.rst.stage = 4 → exec .frameTakeIn s = .next s) ∧
    (∀ m, m < 8 → s.host.ready = true → s.rst.stage ≠ 4 →
      let x := mbx s m
      let hd := ringRead s (m * 0x4000) x.cmdHead 32
      let len := fld hd 8 2
      x.error = false → 0 < fill x.cmdTail x.cmdHead → mayTake x = true →
      (∀ k, k < (m + 8 - s.host.turn % 8) % 8 → (mbx s ((s.host.turn + k) % 8)).error = true ∨ fill (mbx s ((s.host.turn + k) % 8)).cmdTail (mbx s ((s.host.turn + k) % 8)).cmdHead = 0) →
      ∃ t, exec .frameTakeIn s = .next t ∧ t.host.turn = (m + 1) % 8 ∧ (mbx t m).blocked = false ∧
        ((fld hd 0 2 ≠ 0x424D ∨ fld hd 2 1 ≠ 1) → (mbx t m).error = true ∧ (mbx t m).tags = x.tags ∧ (mbx t m).cmdHead = x.cmdHead ∧
          ∃ p, (mbx t m).resps = x.resps ++ [p] ∧ p.status = 0x010B ∧ p.flags = 3) ∧
        (fld hd 0 2 = 0x424D → fld hd 2 1 = 1 → (4064 < len ∨ fill x.cmdTail x.cmdHead < units len) → (mbx t m).error = true ∧ (mbx t m).tags = x.tags ∧
          ∃ p, (mbx t m).resps = x.resps ++ [p] ∧ p.status = 0x0102 ∧ p.flags = 3) ∧
        (fld hd 0 2 = 0x424D → fld hd 2 1 = 1 → len ≤ 4064 → units len ≤ fill x.cmdTail x.cmdHead →
          let fr := ringRead s (m * 0x4000) x.cmdHead (32 + len)
          let st := frameStatus s m 1 0 fr
          (mbx t m).cmdHead = x.cmdHead + bv 16 (units len) ∧ (mbx t m).error = false ∧
          (st ≠ 0 → (mbx t m).tags = x.tags ∧ ∃ p, (mbx t m).resps = x.resps ++ [p] ∧ p.status = st ∧ p.flags = 3 ∧ p.tag = fld fr 6 1) ∧
          (st = 0 → (mbx t m).resps = x.resps ∧ (mbx t m).cmdSeq = bv 32 (fld fr 0x10 4 + 1) ∧ ∃ c, (mbx t m).tags = x.tags ++ [c] ∧ c.tag = fld fr 6 1 ∧ c.opcode = fld fr 4 2 ∧
            c.accepted = s.t0 ∧ c.deadlineUs = fld fr 0x14 4 ∧ c.begun = false ∧ c.payload = (fr.drop 32).take (fld fr 8 2)))) ∧
    (∀ (src : BitVec 48) (frag : Bool) (fr : List Byte),
      let m := fld fr 3 1
      let x := mbx s m
      (frag = true ∨ s.host.ready = false ∨ s.rst.stage = 4 ∨ flag s pHostUdpEnable 0 = false → exec (.udpDatagram src frag fr) s = .next s) ∧
      (frag = false → s.host.ready = true → s.rst.stage ≠ 4 → flag s pHostUdpEnable 0 = true →
        ((fr.length < 32 ∨ fld fr 0 2 ≠ 0x424D ∨ fld fr 2 1 ≠ 1) → exec (.udpDatagram src frag fr) s = .next (setHost s (fun h => { h with errUdp := sat8 h.errUdp }))) ∧
        (fld fr 0 2 = 0x424D → fld fr 2 1 = 1 → m < 8 → fld fr 8 2 ≤ 1440 → fr.length = 32 + fld fr 8 2 →
          let dup := x.owner = 2 ∧ x.udpSrc = src.toNat ∧ bv 32 (fld fr 0x10 4 + 1) = x.cmdSeq ∧ bv 32 (fld fr 0x1C 4) = x.lastCrc ∧ (frameCrc fr).toNat = fld fr 0x1C 4
          (dup → ∃ t, exec (.udpDatagram src frag fr) s = .next t ∧ (mbx t m).tags = x.tags ∧ (mbx t m).cmdSeq = x.cmdSeq ∧ (mbx t m).resps = x.resps) ∧
          (¬dup → frameStatus s m 2 src.toNat fr = 0 → ∃ t c, exec (.udpDatagram src frag fr) s = .next t ∧ (mbx t m).owner = 2 ∧ (mbx t m).udpSrc = src.toNat ∧
            (mbx t m).lastUdp = s.t0 ∧ (mbx t m).cmdSeq = bv 32 (fld fr 0x10 4 + 1) ∧ (mbx t m).tags = x.tags ++ [c] ∧ c.tag = fld fr 6 1 ∧ c.transport = 2 ∧ c.src = src.toNat)))) ∧
    (∀ mosi : List Byte,
      let a := fld mosi 1 4
      let sp := a / 2 ^ 28
      let o := a % 2 ^ 24
      let bad := setHost s (fun h => { h with errSpi := sat8 h.errSpi })
      (s.mode.cur = .keep ∨ flag s pHostSpiEnable 0 = false → exec (.spiTransfer mosi) s = .next s) ∧
      (s.mode.cur ≠ .keep → flag s pHostSpiEnable 0 = true →
        (fld mosi 0 1 ≠ 2 → fld mosi 0 1 ≠ 3 → exec (.spiTransfer mosi) s = .next bad) ∧
        (∀ n, n ≠ 0 → n ≤ 1024 → (sp = 0 ∨ sp = 2 ∨ sp = 4) → a / 2 ^ 24 % 16 = 0 → o + 4 * n ≤ barSize sp →
          (fld mosi 0 1 = 2 → mosi.length = 9 + 4 * n →
            ((crc32c (mosi.take (5 + 4 * n))).toNat = fld mosi (5 + 4 * n) 4 → exec (.spiTransfer mosi) s = .next (winWrites s 1 sp n o (mosi.drop 5))) ∧
            ((crc32c (mosi.take (5 + 4 * n))).toNat ≠ fld mosi (5 + 4 * n) 4 → exec (.spiTransfer mosi) s = .next bad)) ∧
          (fld mosi 0 1 = 3 → mosi.length = 9 + (if sp = 4 then 8 else 2) + 4 * n →
            ∃ t, exec (.spiTransfer mosi) s = .next t ∧ t.host.readData = (winReads s sp n o).1))))

/-- The first waiting response of a mailbox goes out under the next response SEQ: over UDP at once, to the ring where it has room; without room RSP_STALL is set. The oldest unread response past its holdoff sets the RSP bit. A command not begun by its deadline completes with 0x0508. The heartbeat counts once at each whole millisecond while the Steward is ready. A host silent for the timeout is recorded lost once. UDP ownership without tags ends after the idle time. -/
def Obligations.ResponsesDeadlinesAndHeartbeats : Prop :=
  ∀ (s : State),
    (∀ m : Fin 8,
      let x := mbx s m.val
      (x.resps = [] ∨ s.host.ready = false → exec (.responseWrite m) s = .next s) ∧
      (∀ p rest, x.resps = p :: rest → s.host.ready = true →
        let fr := respBytes p m.val x.rspSeq.toNat p.flags
        (∀ src, p.udp = some src → ∃ t o, exec (.responseWrite m) s = .next t ∧ (mbx t m.val).resps = rest ∧ (mbx t m.val).rspSeq = x.rspSeq + 1 ∧
          (mbx t m.val).lastStatus = p.status ∧ t.outbox = s.outbox ++ [o] ∧ o.kind = Out.udpFrame ∧ o.dst = src ∧ o.bytes = fr) ∧
        (p.udp = none → 256 < fill x.rspTail x.rspHead + units p.payload.length → exec (.responseWrite m) s = .next (setMbx s m.val (fun x => { x with stall := true }))) ∧
        (p.udp = none → fill x.rspTail x.rspHead + units p.payload.length ≤ 256 → ∃ t, exec (.responseWrite m) s = .next t ∧ (mbx t m.val).resps = rest ∧
          (mbx t m.val).rspSeq = x.rspSeq + 1 ∧ (mbx t m.val).lastStatus = p.status ∧ (mbx t m.val).stall = false ∧
          (mbx t m.val).rspTail = x.rspTail + bv 16 (units p.payload.length) ∧ ringRead t (m.val * 0x4000 + 0x2000) x.rspTail (32 + p.payload.length) = fr)) ∧
      (x.unread = [] → exec (.mbIntHoldoff m) s = .next s) ∧
      (∀ e l, x.unread = e :: l → (s.t0 < e.2 + x.intCfg.toNat / 65536 * us → exec (.mbIntHoldoff m) s = .next s) ∧
        (e.2 + x.intCfg.toNat / 65536 * us ≤ s.t0 → exec (.mbIntHoldoff m) s = .next (irq s m.val))) ∧
      (x.tags.find? (fun t => !t.begun && tooLate s t) = none → exec (.commandDeadline m) s = .next s) ∧
      (∀ c, x.tags.find? (fun t => !t.begun && tooLate s t) = some c → s.host.ready = true →
        exec (.commandDeadline m) s = .next (finish s { mb := m, tag := bv 5 c.tag, target := c.target, payload := c.payload } c.opcode ((opKind c.opcode).getD false) 0x0508)) ∧
      (x.owner = 2 → x.tags = [] → x.lastUdp + param s pHostUdpIdle 0 * sec ≤ s.t0 →
        exec (.udpIdleExpiry m) s = .next (setMbx s m.val (fun x => { x with owner := 0, isOpen := false }))) ∧
      (x.owner ≠ 2 ∨ x.tags ≠ [] ∨ s.t0 < x.lastUdp + param s pHostUdpIdle 0 * sec → exec (.udpIdleExpiry m) s = .next s)) ∧
    (s.host.ready = true → s.t0 % ms = 0 → s.host.beatAt ≠ some s.t0 →
      exec .stewardHeartbeat s = .next (setHost s (fun h => { h with heartbeat := h.heartbeat + 1, beatAt := some s.t0 }))) ∧
    (s.host.ready = false ∨ s.t0 % ms ≠ 0 ∨ s.host.beatAt = some s.t0 → exec .stewardHeartbeat s = .next s) ∧
    (let d := param s pHostHbTimeout 0
     (s.host.ready = true → d ≠ 0 → s.host.hostLost = false → s.host.hbChanged + d * ms ≤ s.t0 → s.host.hbHoldUntil ≤ s.t0 →
       ∃ t, exec .hostHbTimeout s = .next t ∧ t.host.hostLost = true ∧ (param s pHostHbAction 0 ≠ 1 → t.streams = s.streams) ∧
         (param s pHostHbAction 0 = 1 → ∀ k ∈ tkeys s.streams, (stream s k).st = 2 → (stream t k).st = 3)) ∧
     (d = 0 ∨ s.host.hostLost = true ∨ s.t0 < s.host.hbChanged + d * ms ∨ s.t0 < s.host.hbHoldUntil → exec .hostHbTimeout s = .next s))

/-! ### Mailbox commands of the host (R543-R561) -/

/-- DEVICE_INFO answers the device's figures. DEVICE_RESTART answers first and sets the restart for the first whole millisecond at least 1 ms later; its trigger waits for that instant and starts the hot, warm or cold restart asked for. A bulk range that a command holds answers 0x0509; while the share of 10,000 bytes of this 10 µs window is not used up BULK_WRITE stores its bytes and no others, and BULK_READ answers the bytes of its range; where a copy may not start the status is 0x050B. FW_UPDATE needs a staged image of the other bank (0x0108) and no write in progress (0x050D). At its end the first failed check answers its status and leaves the bank as it is; a write that does not read back loses the bank's mark (0x0602); a good one marks it with its version and generation. FW_SWAP is refused during an exchange or a set swap (0x0503), a pending transition (0x0501), before the minimum dwell (0x050C), without a valid other bank (0x0108), and for a version the flash Deck does not name unless forced (0x0103); else M11 pends and the swap is set 2 ms on. -/
def Obligations.DeviceBulkAndFirmwareCommands : Prop :=
  (∀ (s : State) (r : Req),
     (Runs s r 0x0001 false allModes 0 (r.target == 0) → exec (.deviceInfo r) s = .next (finish (begun s r 0x0001) r 0x0001 false 0
       (leBytes 4 s.host.idFw.toNat ++ leBytes 4 0x16480B00 ++ leBytes 8 Config.serial.toNat ++ leBytes 4 s.deck.gen ++ leBytes 2 s.deck.edit ++
         leBytes 1 s.mode.cur.num ++ leBytes 1 s.twin.st ++ leBytes 4 s.host.epoch.toNat ++ leBytes 4 s.rst.count))) ∧
     (let kind := fld r.payload 0 1
      let isl := fld r.payload 1 1
      Runs s r 0x0003 true allModes 4 (r.target == 0 && fld r.payload 2 2 == 0 && ((kind == 0 && isEngine isl) || ((kind == 1 || kind == 3) && isl == 0))) →
      ∃ t, exec (.deviceRestart r) s = .next t ∧ t.host.restartReq = s.host.restartReq ++ [(wholeMs s.t0 ms, kind, isl)] ∧ t.rst = s.rst ∧ t.mode = s.mode) ∧
     (s.host.restartReq = [] ∨ s.mode.cur = .keep → exec .deviceRestartTrigger s = .next s) ∧
     (∀ a kind isl rest, s.host.restartReq = (a, kind, isl) :: rest → s.mode.cur ≠ .keep →
       let u := setHost s (fun h => { h with restartReq := rest })
       (s.t0 < a → exec .deviceRestartTrigger s = .next s) ∧
       (a ≤ s.t0 → kind = 0 → exec .deviceRestartTrigger s = .next (hotRestart u 0x03 isl)) ∧
       (a ≤ s.t0 → kind = 1 → exec .deviceRestartTrigger s = .next (warmRestart u 0x10 0xFF)) ∧
       (a ≤ s.t0 → kind = 3 → exec .deviceRestartTrigger s = .next (coldRestart u 0x30 0xFF (originNow u) 0x30))) ∧
     (let off := fld r.payload 0 4
      let data := r.payload.drop 4
      let b := begun s r 0x0004
      let p := bulkMay b data.length
      Runs s r 0x0004 true allModes 8 (r.target == 0 && bulkOk off data.length && decide (data.length ≤ 1436)) →
      (bulkBusy s off data.length = true → exec (.bulkWrite r) s = .next (finish b r 0x0004 true 0x0509)) ∧
      (bulkBusy s off data.length = false →
        ((if s.host.bulkWin = s.t0 / (10 * us) then s.host.bulkUsed else 0) < 10000 → p.1 = true) ∧
        (p.1 = false → exec (.bulkWrite r) s = .next (finish p.2 r 0x0004 true 0x050B)) ∧
        (p.1 = true → ∃ t, exec (.bulkWrite r) s = .next t ∧ mreads t.host.bulk off data.length = data ∧ SameBut s.host.bulk t.host.bulk off data.length ∧
          t.host.rings = s.host.rings))) ∧
     (let off := fld r.payload 0 4
      let len := fld r.payload 4 4
      let b := begun s r 0x0005
      let p := bulkMay b len
      Runs s r 0x0005 false allModes 8 (r.target == 0 && bulkOk off len && decide (4 ≤ len ∧ len ≤ 1440)) →
      (bulkBusy s off len = true → exec (.bulkRead r) s = .next (finish b r 0x0005 false 0x0509)) ∧
      (bulkBusy s off len = false →
        (p.1 = false → exec (.bulkRead r) s = .next (finish p.2 r 0x0005 false 0x050B)) ∧
        (p.1 = true → exec (.bulkRead r) s = .next (finish p.2 r 0x0005 false 0 (mreads s.host.bulk off len)))))) ∧
  (∀ (s : State),
     (∀ r : Req,
       let fl := fld r.payload 0 1
       (let b := begun s r 0x0210
        Runs s r 0x0210 true [.config, .idle, .run, .hold, .maint] 4 (r.target == 0 && decide (fl ≤ 1) && fld r.payload 1 3 == 0) →
        (tfind s.deck.staged (imgKey 8 (otherBank s)) = none → exec (.fwUpdate r) s = .next (finish b r 0x0210 true 0x0108)) ∧
        (tfind s.deck.staged (imgKey 8 (otherBank s)) ≠ none → s.fw.writing ≠ none → exec (.fwUpdate r) s = .next (finish b r 0x0210 true 0x050D)) ∧
        (tfind s.deck.staged (imgKey 8 (otherBank s)) ≠ none → s.fw.writing = none → ∃ t, exec (.fwUpdate r) s = .next t ∧ t.fw.writing = some (jobOf r 8 (otherBank s) fl) ∧
          t.fw.valid = s.fw.valid)) ∧
       (let b := begun s r 0x0211
        let busy := s.sched.exch.isSome ∨ s.fw.swapAt.isSome
        Runs s r 0x0211 true [.idle, .run, .hold] 4 (r.target == 0 && decide (fl ≤ 1) && fld r.payload 1 3 == 0) →
        (busy → exec (.fwSwap r) s = .next (finish b r 0x0211 true 0x0503)) ∧
        (¬busy → s.mode.pend ≠ none → exec (.fwSwap r) s = .next (finish b r 0x0211 true 0x0501)) ∧
        (¬busy → s.mode.pend = none → dwellOk s = false → exec (.fwSwap r) s = .next (finish b r 0x0211 true 0x050C)) ∧
        (¬busy → s.mode.pend = none → dwellOk s = true →
          (tfind s.fw.valid (otherBank s) = none → exec (.fwSwap r) s = .next (finish b r 0x0211 true 0x0108)) ∧
          (∀ v, tfind s.fw.valid (otherBank s) = some v →
            (v ≠ flashTarget s → fl = 0 → exec (.fwSwap r) s = .next (finish b r 0x0211 true 0x0103)) ∧
            ((v = flashTarget s ∨ fl = 1) → ∃ t, exec (.fwSwap r) s = .next t ∧ t.fw.swapAt = some (wholeMs s.t0 (2 * ms)) ∧ t.fw.bank = s.fw.bank ∧
              t.mode.pend = some ⟨.update, wholeMs s.t0 (500 * us), 4, none⟩ ∧ t.mode.cur = s.mode.cur))))) ∧
     (∀ (sigOk readOk : Bool),
       (s.fw.writing = none → exec (.fwUpdateDone sigOk readOk) s = .next s) ∧
       (∀ j, s.fw.writing = some j →
         let img := stagedImg s (imgKey 8 j.slot)
         let st := fwCheck s j sigOk
         (st ≠ 0 → exec (.fwUpdateDone sigOk readOk) s = .next (finish { s with fw := { s.fw with writing := none } } (jobReq j) 0x0210 true st)) ∧
         (st = 0 → readOk = false → ∃ t, exec (.fwUpdateDone sigOk readOk) s = .next t ∧ tfind t.fw.valid j.slot = none ∧ t.fw.bank = s.fw.bank) ∧
         (st = 0 → readOk = true → ∃ t, exec (.fwUpdateDone sigOk readOk) s = .next t ∧ tfind t.fw.valid j.slot = some (fld img 0x10 4) ∧
           tfind t.fw.gen j.slot = some (hdrGen img) ∧ t.fw.writing = none))))

/-- PARAM_GET of a defined parameter answers the governing value of the scope, the value in effect, and whether a delta stands and a change waits. A SET that fails a check answers its status; one that passes puts the value into the working Deck, counts as unsaved, changes nothing in force at once, and answers the instant of effect; UNSET removes a delta, and without one only records. DESCRIBE answers a kind's name, units, type, change mode, range, default and instances, or a class's kinds. Undefined IDs answer 0x010F. -/
def Obligations.ParametersAreSetAndRead : Prop :=
  ∀ (s : State) (r : Req),
    let sc := fld r.payload 0 1
    let id := r.target.toNat
    (let b := begun s r 0x0101
     Runs s r 0x0101 false allModes 4 (decide (sc ≤ 12) && fld r.payload 1 3 == 0) →
     (∀ d, descOf id = some d → exec (.paramGet r) s = .next (finish b r 0x0101 false 0 (leBytes 8 (govern s sc id).1.toNat ++
       leBytes 8 (peff s (id / 4096) (id % 4096)).toNat ++
       leBytes 4 ((if sc ≠ 0 ∧ (tfind s.params.working (pkey sc id)).isSome then 1 else 0) + (if setWaits s (pkey sc id) then 2 else 0))))) ∧
     (descOf id = none → isFactory id = false → exec (.paramGet r) s = .next (finish b r 0x0101 false 0x010F)) ∧
     (descOf id = none → isFactory id = true → exec (.paramGet r) s = .next (finish b r 0x0101 false 0
       (leBytes 8 (Config.factoryValue (id / 4096) (id % 4096)).toNat ++ leBytes 8 (Config.factoryValue (id / 4096) (id % 4096)).toNat ++ [0, 0, 0, 0])))) ∧
    (let v := fld r.payload 4 8
     let b := begun s r 0x0102
     Runs s r 0x0102 true allModes 12 (fld r.payload 1 3 == 0) →
     (setStatus s sc id v ≠ 0 → exec (.paramSet r) s = .next (finish b r 0x0102 true (setStatus s sc id v))) ∧
     (setStatus s sc id v = 0 →
       let p := doSet b r.mb (via b r 0x0102) r.tag.toNat sc id (bv 64 v) false
       exec (.paramSet r) s = .next (finish p.1 r 0x0102 false 0 (leBytes 8 p.2)) ∧
       ∀ t, exec (.paramSet r) s = .next t → tfind t.params.working (pkey sc id) = some (bv 64 v) ∧ t.params.unsaved = s.params.unsaved + 1 ∧ t.params.force = s.params.force ∧
         ∀ k, k ≠ pkey sc id → tfind t.params.working k = tfind s.params.working k)) ∧
    (let b := begun s r 0x0103
     Runs s r 0x0103 true allModes 4 (decide (1 ≤ sc ∧ sc ≤ 12) && fld r.payload 1 3 == 0) →
     (descOf id = none → exec (.paramUnset r) s = .next (finish b r 0x0103 true (if isFactory id then 0x0106 else 0x010F))) ∧
     (∀ d, descOf id = some d →
       (shingleOk s d sc id = false → exec (.paramUnset r) s = .next (finish b r 0x0103 true 0x0106)) ∧
       (shingleOk s d sc id = true → tfind s.params.working (pkey sc id) = none → ∃ t, exec (.paramUnset r) s = .next t ∧ t.params = s.params) ∧
       (shingleOk s d sc id = true → tfind s.params.working (pkey sc id) ≠ none → ∃ t, exec (.paramUnset r) s = .next t ∧
         tfind t.params.working (pkey sc id) = none ∧ t.params.unsaved = s.params.unsaved + 1 ∧ t.params.force = s.params.force))) ∧
    (let b := begun s r 0x0104
     Runs s r 0x0104 false allModes 0 (id % 4096 == 0) →
     (∀ d, id / 4096 % 4096 ≠ 0 → paramDesc (id / 4096) = some d → exec (.paramDescribe r) s = .next (finish b r 0x0104 false 0
       (asciiBytes 24 d.name ++ asciiBytes 16 d.units ++ leBytes 1 (tyCode d.ty) ++ leBytes 1 (cmCode d.cm) ++ leBytes 2 0 ++
        boundBytes d.ty d.lo ++ boundBytes d.ty d.hi ++ leBytes 8 (pdefault (id / 4096) d.first) ++ leBytes 4 (d.last - d.first + 1)))) ∧
     (id / 4096 % 4096 = 0 → classKinds (id / 4096 / 4096) ≠ [] → exec (.paramDescribe r) s = .next (finish b r 0x0104 false 0
       (leBytes 2 (classKinds (id / 4096 / 4096)).length ++ (classKinds (id / 4096 / 4096)).flatMap (leBytes 2)))) ∧
     (id / 4096 % 4096 = 0 → classKinds (id / 4096 / 4096) = [] → exec (.paramDescribe r) s = .next (finish b r 0x0104 false 0x010F)))

/-- POINT_READ answers T0 and the entries of consecutive populated points as they stand now, or 0x0401 with the first unpopulated one. A write goes to a point without a writer that takes host writes, or to a simulated one; any other answers 0x0404. FORCE and SIMULATE refuse a point they do not cover (0x0404) and a 257th (0x0305); one that is accepted begins at its force instant; UNFORCE and UNSIMULATE end there what is forced, and change nothing otherwise. TASK_TRIGGER hands an enabled EVENT task a trigger at this instant, or answers 0x020B. -/
def Obligations.PointCommands : Prop :=
  ∀ (s : State) (r : Req),
    let p := r.target.toNat
    (let n := fld r.payload 0 2
     let l := (List.range n).map (p + ·)
     let b := begun s r 0x0105
     Runs s r 0x0105 false allModes 4 (decide (1 ≤ n ∧ n ≤ 507) && fld r.payload 2 2 == 0) →
     ((∀ q ∈ l, hostPoint s q = true) → exec (.pointRead r) s = .next (finish b r 0x0105 false 0 (leBytes 8 s.t0 ++ l.flatMap (fun q => leBytes 8 (pgetAt s s.t0 q).entry.toNat)))) ∧
     (∀ q, l.find? (fun q => !hostPoint s q) = some q → exec (.pointRead r) s = .next (finish b r 0x0105 false 0x0401 (leBytes 4 q)))) ∧
    (let b := begun s r 0x0106
     Runs s r 0x0106 true allModes 8 (fld r.payload 4 4 == 0) →
     (hostPoint s p = false → exec (.pointWrite r) s = .next (finish b r 0x0106 true 0x0401)) ∧
     (hostPoint s p = true → hostWritable s p = false → simOf s p = false → exec (.pointWrite r) s = .next (finish b r 0x0106 true 0x0404)) ∧
     (hostPoint s p = true → hostWritable s p = true ∨ simOf s p = true →
       exec (.pointWrite r) s = .next (finish (pointWrite (forward b 4 [0x0106, p, s.t0] r.payload) p (bv 32 (fld r.payload 0 4))) r 0x0106 true 0 (leBytes 8 s.t0)) ∧
       (simOf s p = false → 0x18 ≤ ptRegion p → s.mode.cur ≠ .standby → ∃ t, exec (.pointWrite r) s = .next t ∧
         t.img.pend = s.img.pend ++ [⟨s.t0, p, bv 32 (fld r.payload 0 4), 0⟩]))) ∧
    (let b := begun s r 0x0107
     Runs s r 0x0107 true ([.idle, .maint] ++ (if flag s pSysForceInRun 0 then [.run] else [])) 8 (fld r.payload 4 4 == 0) →
     (hostPoint s p = false → exec (.pointForce r) s = .next (finish b r 0x0107 true 0x0401)) ∧
     (hostPoint s p = true → forceRegion p = false → exec (.pointForce r) s = .next (finish b r 0x0107 true 0x0404)) ∧
     (hostPoint s p = true → forceRegion p = true →
       (256 ≤ ((forcedPoints s false).filter (· != p)).length → exec (.pointForce r) s = .next (finish b r 0x0107 true 0x0305)) ∧
       (((forcedPoints s false).filter (· != p)).length < 256 → ∃ t, exec (.pointForce r) s = .next t ∧
         t.img.forcePend = s.img.forcePend ++ [⟨forceAt s.t0, true, ⟨false, p, bv 32 (fld r.payload 0 4), 0⟩⟩] ∧ t.img.forces = s.img.forces))) ∧
    (let b := begun s r 0x0109
     let src := fld r.payload 0 4
     Runs s r 0x0109 true [.idle, .maint, .test] 8 (src == 0 || (ptRegion src == 0x1E && populated s src)) →
     (hostPoint s p = false → exec (.pointSimulate r) s = .next (finish b r 0x0109 true 0x0401)) ∧
     (hostPoint s p = true → inputPoint s p = false → exec (.pointSimulate r) s = .next (finish b r 0x0109 true 0x0404)) ∧
     (hostPoint s p = true → inputPoint s p = true →
       (256 ≤ ((forcedPoints s true).filter (· != p)).length → exec (.pointSimulate r) s = .next (finish b r 0x0109 true 0x0305)) ∧
       (((forcedPoints s true).filter (· != p)).length < 256 → ∃ t, exec (.pointSimulate r) s = .next t ∧
         t.img.forcePend = s.img.forcePend ++ [⟨forceAt s.t0, true, ⟨true, p, bv 32 (fld r.payload 4 4), src⟩⟩]))) ∧
    (Runs s r 0x0108 true allModes 0 true → hostPoint s p = true → ∃ t, exec (.pointUnforce r) s = .next t ∧ t.img.forces = s.img.forces ∧
      (p ∈ forcedPoints s false → t.img.forcePend = s.img.forcePend ++ [⟨forceAt s.t0, false, ⟨false, p, 0, 0⟩⟩]) ∧
      (p ∉ forcedPoints s false → t.img.forcePend = s.img.forcePend)) ∧
    (Runs s r 0x010A true allModes 0 true → hostPoint s p = true → ∃ t, exec (.pointUnsimulate r) s = .next t ∧ t.img.forces = s.img.forces ∧
      (p ∈ forcedPoints s true → t.img.forcePend = s.img.forcePend ++ [⟨forceAt s.t0, false, ⟨true, p, 0, 0⟩⟩]) ∧
      (p ∉ forcedPoints s true → t.img.forcePend = s.img.forcePend)) ∧
    (let i := fld r.payload 0 2
     let b := begun s r 0x010B
     let may := (task s i).present = true ∧ (task s i).kind = 1 ∧ flag s pTaskEnable i = true
     Runs s r 0x010B true [.idle, .run, .hold, .maint, .safe, .update] 4 (r.target == 0 && decide (i < 1024) && fld r.payload 2 2 == 0) →
     (may → exec (.taskTrigger r) s = .next (finish (takeTrig (forward b 1 [i, s.t0]) i s.t0) r 0x010B true 0 (leBytes 8 s.t0))) ∧
     (¬may → exec (.taskTrigger r) s = .next (finish b r 0x010B true 0x020B)))

/-- A tune result is taken into the loop's gains (0x0405 without one, 0x0105 above the largest gain). An axis command asks the axis's profile, which must be enabled (0x020C; a homing that needs an encoder the axis lacks is 0x0107), and is answered ACCEPTED; a stop is answered when it is taken, and at once where the profile is off. CH_ACK needs the group's supply (0x0204) and sets its restoration for the next whole millisecond 500 µs on where it waits. ENC_ARM arms, ENC_CLEAR clears the quadrature error. -/
def Obligations.LoopAxisAndChannelCommands : Prop :=
  ∀ (s : State) (r : Req),
    (let i := loopArg r
     let b := begun s r 0x0313
     Runs s r 0x0313 true [.idle, .maint] 4 (decide (r.target = 0 ∧ fld r.payload 2 2 = 0 ∧ i < 512)) →
     ((loop s i).result = none → exec (.loopTuneAccept r) s = .next (finish b r 0x0313 true 0x0405)) ∧
     (∀ x, (loop s i).result = some x →
       (flt f32 (param s pLoopKpMax i) x.kp.toNat = true → exec (.loopTuneAccept r) s = .next (finish b r 0x0313 true 0x0105)) ∧
       (flt f32 (param s pLoopKpMax i) x.kp.toNat = false → ∃ t, exec (.loopTuneAccept r) s = .next t ∧
         tfind t.params.working (pkey 0 (pid pLoopKp i)) = some (x.kp.zeroExtend 64) ∧ tfind t.params.working (pkey 0 (pid pLoopTi i)) = some (x.ti.zeroExtend 64) ∧
         tfind t.params.working (pkey 0 (pid pLoopTd i)) = some (x.td.zeroExtend 64)))) ∧
    (let ax := fld r.payload 0 1
     let k := profOf ax
     let who (op : Nat) (m : MaintReq) : MaintReq := { m with mb := r.mb.val, tag := r.tag.toNat, opcode := op }
     (let dur := fld r.payload 8 4
      Runs s r 0x0401 true [.maint] 12 (r.target == 0 && decide (ax < 32 ∧ 1 ≤ dur ∧ dur ≤ 10000) && fld r.payload 1 3 == 0) →
      ((prof s k).enabled = false → exec (.axisJog r) s = .next (finish (begun s r 0x0401) r 0x0401 true 0x020C)) ∧
      ((prof s k).enabled = true → ∃ t, exec (.axisJog r) s = .next t ∧ (prof t k).maint = some (who 0x0401 { req := 3, vel := bv 32 (fld r.payload 4 4), until_ := dur * ms }))) ∧
     (let q := fld r.payload 1 1
      Runs s r 0x0402 true [.maint] 8 (r.target == 0 && decide (ax < 32 ∧ (q = 1 ∨ q = 2)) && fld r.payload 2 2 == 0) →
      ((prof s k).enabled = false → exec (.axisMove r) s = .next (finish (begun s r 0x0402) r 0x0402 true 0x020C)) ∧
      ((prof s k).enabled = true → ∃ t, exec (.axisMove r) s = .next t ∧ (prof t k).maint = some (who 0x0402 { req := q, target := sval32 (fld r.payload 4 4) }))) ∧
     (Runs s r 0x0403 true [.maint] 4 (r.target == 0 && decide (ax < 32) && fld r.payload 1 3 == 0) →
      (homeNoEnc s ax = true → exec (.axisHome r) s = .next (finish (begun s r 0x0403) r 0x0403 true 0x0107)) ∧
      (homeNoEnc s ax = false → (prof s k).enabled = false → exec (.axisHome r) s = .next (finish (begun s r 0x0403) r 0x0403 true 0x020C)) ∧
      (homeNoEnc s ax = false → (prof s k).enabled = true → ∃ t, exec (.axisHome r) s = .next t ∧ (prof t k).maint = some (who 0x0403 { req := 7 }))) ∧
     (let st := fld r.payload 1 1
      Runs s r 0x0404 true [.maint] 4 (r.target == 0 && decide (ax < 32 ∧ st ≤ 2) && fld r.payload 2 2 == 0) →
      ((prof s k).enabled = false → exec (.axisStop r) s = .next (finish (begun s r 0x0404) r 0x0404 true 0)) ∧
      ((prof s k).enabled = true → ∃ t, exec (.axisStop r) s = .next t ∧ (prof t k).maint = some (who 0x0404 { req := 0, stopk := st })))) ∧
    (let g := fld r.payload 0 1
     let b := begun s r 0x0410
     Runs s r 0x0410 true allModes 4 (r.target == 0 && decide (g < 64) && fld r.payload 1 3 == 0) →
     ((grp s g).lost = true → exec (.chAck r) s = .next (finish b r 0x0410 true 0x0204)) ∧
     ((grp s g).lost = false → (grp s g).ackWait = true → ∃ t, exec (.chAck r) s = .next t ∧ (grp t g).restoreAt = some (wholeMs s.t0 (500 * us))) ∧
     ((grp s g).lost = false → (grp s g).ackWait = false → exec (.chAck r) s = .next (finish b r 0x0410 true 0))) ∧
    (let e := fld r.payload 0 1
     (Runs s r 0x0411 true allModes 4 (r.target == 0 && decide (e < 16) && fld r.payload 1 3 == 0) →
       ∃ t, exec (.encArm r) s = .next t ∧ (enc t e).armed = true ∧ (enc t e).flags = (enc s e).flags) ∧
     (Runs s r 0x0412 true allModes 4 (r.target == 0 && decide (e < 16) && fld r.payload 1 3 == 0) →
       ∃ t, exec (.encClear r) s = .next t ∧ (enc t e).flags.testBit 0 = false ∧ (enc t e).armed = (enc s e).armed))

/-- LOAD binds a recipe slot to a stream that is not active (0x0207), where the slot holds a recipe (0x0108) that belongs to the stream or fits its task (0x0107). START needs a loaded, done or aborted stream and admission to step 0, and answers its entry release. PAUSE takes a running stream; CONTINUE a pausing one back to running and a paused one to its boundary step. ABORT ends a stream at once in M7 and M10, and otherwise as its argument asks. OP_RESOLVE takes a parked operation (0x0402, 0x0207). -/
def Obligations.StreamCommands : Prop :=
  ∀ (s : State) (r : Req),
    let k := fld r.payload 0 1
    (let slot := fld r.payload 2 2
     let b := begun s r 0x0501
     let free := (stream s k).st ∈ ([0, 1, 7, 8] : List Nat)
     Runs s r 0x0501 true [.idle, .run, .hold] 4 (r.target == 0 && decide (k < 16) && fld r.payload 1 1 == 0) →
     (¬free → exec (.streamLoad r) s = .next (finish b r 0x0501 true 0x0207)) ∧
     (free → recipeIn s slot = none → exec (.streamLoad r) s = .next (finish b r 0x0501 true 0x0108)) ∧
     (∀ x, free → recipeIn s slot = some x →
       let own := fld (x.bytes.drop 64) 0x31 1
       (own ≠ k → (own ≠ 0xFF ∨ recipeFits s k (x.bytes.drop 64) = false) → exec (.streamLoad r) s = .next (finish b r 0x0501 true 0x0107)) ∧
       ((own = k ∨ (own = 0xFF ∧ recipeFits s k (x.bytes.drop 64) = true)) → ∃ t, exec (.streamLoad r) s = .next t ∧ (stream t k).st = 1 ∧ (stream t k).slot = slot ∧
         (stream t k).recipe = x.bytes.drop 64 ∧ (stream t k).step = 0 ∧ (stream t k).enter = none))) ∧
    (let b := begun s r 0x0502
     let u := streamStart (forward b 4 [0x0502, 0, s.t0] r.payload) k s.t0
     let may := (stream s k).st ∈ ([1, 7, 8] : List Nat) ∧ recipeIn s (stream s k).slot ≠ none
     Runs s r 0x0502 true [.run] 4 (streamArg r 3) →
     (¬may → exec (.streamStart r) s = .next (finish b r 0x0502 true 0x0207)) ∧
     (may → admitStatus u k 0 ≠ 0 → exec (.streamStart r) s = .next (finish b r 0x0502 true (admitStatus u k 0))) ∧
     (may → admitStatus u k 0 = 0 →
       exec (.streamStart r) s = .next (finish u r 0x0502 true 0 (leBytes 8 (nextRel s.t0 (param s pTaskPeriod (streamTask s k)) (param s pTaskPhase (streamTask s k))))) ∧
       (stream u k).st = 2 ∧ (stream u k).enter = some 0 ∧ (stream u k).enterFrom = s.t0 ∧ (stream u k).inAbort = false)) ∧
    (let b := begun s r 0x0503
     Runs s r 0x0503 true [.run, .hold] 4 (streamArg r 3) →
     ((stream s k).st ≠ 2 → exec (.streamPause r) s = .next (finish b r 0x0503 true 0x0207)) ∧
     ((stream s k).st = 2 → ∃ t, exec (.streamPause r) s = .next t ∧ (stream t k).st = 3 ∧ (stream t k).reason = 1)) ∧
    (let b := begun s r 0x0504
     Runs s r 0x0504 true [.run] 4 (streamArg r 3) →
     ((stream s k).st ≠ 3 → (stream s k).st ≠ 4 → exec (.streamContinue r) s = .next (finish b r 0x0504 true 0x0207)) ∧
     ((stream s k).st = 3 → ∃ t, exec (.streamContinue r) s = .next t ∧ (stream t k).st = 2 ∧ (stream t k).reason = 0) ∧
     (∀ n, (stream s k).st = 4 → (stream s k).boundary = some n →
       (admitStatus b k n ≠ 0 → exec (.streamContinue r) s = .next (finish b r 0x0504 true (admitStatus b k n))) ∧
       (admitStatus b k n = 0 → ∃ t, exec (.streamContinue r) s = .next t ∧ (stream t k).enter = some n ∧ (stream t k).enterFrom = s.t0 + 100 * us))) ∧
    (let b := begun s r 0x0505
     let how := fld r.payload 1 1
     let d := stream s k
     Runs s r 0x0505 true [.run, .hold, .maint, .safe] 4 (streamArg r 2 && decide (how ≤ 1)) →
     (d.st ∉ ([2, 3, 4, 5] : List Nat) → exec (.streamAbort r) s = .next (finish b r 0x0505 true 0x0207)) ∧
     (d.st ∈ ([2, 3, 4, 5] : List Nat) →
       exec (.streamAbort r) s = .next (finish (streamAbort (forward b 4 [0x0505, 0, s.t0] r.payload) k how s.t0) r 0x0505 true 0) ∧
       ((s.mode.cur = .run ∨ s.mode.cur = .hold) → how = 1 → ∃ t, exec (.streamAbort r) s = .next t ∧ (stream t k).st = 6 ∧
         (stream t k).abortReq = some 2) ∧
       ((s.mode.cur = .run ∨ s.mode.cur = .hold) → how = 0 → d.st ≠ 4 → ∃ t, exec (.streamAbort r) s = .next t ∧ (stream t k).drain = some s.t0))) ∧
    (let b := begun s r 0x0510
     let h := fld r.payload 0 4
     let a := fld r.payload 4 1
     Runs s r 0x0510 true [.run, .hold] 8 (r.target == 0 && decide (a ≤ 3) && fld r.payload 5 3 == 0) →
     (opOf s h = none → exec (.opResolve r) s = .next (finish b r 0x0510 true 0x0402)) ∧
     (∀ o, opOf s h = some o → (o.st ≠ 2 → exec (.opResolve r) s = .next (finish b r 0x0510 true 0x0207)) ∧
       (o.st = 2 → a ≠ 2 → exec (.opResolve r) s = .next (finish (opResolve (forward b 4 [0x0510, 0, s.t0] r.payload) h a) r 0x0510 true 0))))

/-! ### Modes, images, Decks and firmware (R71-R89, R548-R552) -/

/-- MODE_SET answers 0x0501 while a transition pends or a commit is on its way to M3 (the latter the model's reading, log 43), 0x0201 for a transition a host may not request, 0x050C before the minimum dwell has passed, 0x0108 from M2 without a Deck in use, 0x0202 to IDLE with active streams; an admitted one pends with the next 500 µs instant rounded up to a whole millisecond, the mode unchanged. The present mode is answered OK with nothing changed. MODE_ENTRY before that instant changes nothing; at it, out of STANDBY, the pending mode is entered as of the instant, from M1 with the safe mode in its place where a stop is latched, and the waiting request is answered. -/
def Obligations.ModeRequestsAndEntries : Prop :=
  ∀ (s : State),
    (∀ r : Req,
      let b := begun s r 0x0002
      let cur := s.mode.cur
      let n := fld r.payload 0 1
      Runs s r 0x0002 true [.config, .idle, .run, .hold, .maint, .safe] 4 (r.target == 0 && fld r.payload 1 3 == 0) →
      ((s.mode.pend ≠ none ∨ (cur = .config ∧ s.deck.committing ≠ none)) → exec (.modeSet r) s = .next (finish b r 0x0002 true 0x0501)) ∧
      (s.mode.pend = none → (cur = .config → s.deck.committing = none) →
        (modeOf n = none → exec (.modeSet r) s = .next (finish b r 0x0002 true 0x0201)) ∧
        (∀ m, modeOf n = some m →
          (m = cur → ∃ t, exec (.modeSet r) s = .next t ∧ t.mode = s.mode) ∧
          (m ≠ cur → hostTransition cur m = false → exec (.modeSet r) s = .next (finish b r 0x0002 true 0x0201)) ∧
          (m ≠ cur → hostTransition cur m = true →
            (cur = .safe → exec (.modeSet r) s = .next (safeReset b r 0x0002)) ∧
            (cur ≠ .safe → s.t0 < s.mode.since + param s pModeMinDwell cur.num * ms → exec (.modeSet r) s = .next (finish b r 0x0002 true 0x050C)) ∧
            (cur ≠ .safe → s.mode.since + param s pModeMinDwell cur.num * ms ≤ s.t0 →
              (cur = .config → s.deck.inUse = false → exec (.modeSet r) s = .next (finish b r 0x0002 true 0x0108)) ∧
              ((cur = .run ∨ cur = .hold) → m = .idle → streamsActive s = true → exec (.modeSet r) s = .next (finish b r 0x0002 true 0x0202)) ∧
              ((cur = .config → s.deck.inUse = true) → (m = .idle → streamsActive s = false) → ∃ t, exec (.modeSet r) s = .next t ∧
                t.mode.cur = cur ∧ t.mode.pend = some ⟨m, wholeMs s.t0 (500 * us), 0, none⟩)))))) ∧
    (s.mode.pend = none → exec .modeEntry s = .next s) ∧
    (∀ p, s.mode.pend = some p →
      (s.t0 < p.due → exec .modeEntry s = .next s) ∧
      (p.due ≤ s.t0 →
        (s.mode.cur = .standby → ∃ t, exec .modeEntry s = .next t ∧ t.mode.cur = .standby ∧ t.mode.pend = none) ∧
        (s.mode.cur ≠ .standby →
          let latched := s.ridge.latches.any (fun l => l.react == .safe || l.react == .ridgeStop)
          ∃ t, exec .modeEntry s = .next t ∧ t.mode.cur = (if s.mode.cur = .boot ∧ latched = true then .safe else p.dest) ∧ t.mode.pend = none ∧ t.mode.since = p.due ∧
            t.host.intStatus.getLsbD 16 = true ∧ (s.mode.cur = .boot → t.host.ready = true ∧ t.rst.stage = 0))))

/-- A staged chunk must follow on (0x010E), fit its kind (0x0102) and lie in a free bulk range (0x0509); it then extends the staged bytes. DECK_LOAD and IMAGE_LOAD are ACCEPTED and answered by their validation: a Deck is marked good exactly when no step fails. DECK_COMMIT takes only a good Deck (after the minimum dwell, else 0x050C) and takes the valid mark from the other slot; when its write reads back good the other slot holds the Deck, written last, and from M2 M3 pends (out of M2 no transition, log 43); else 0x0602. DECK_SAVE writes the working Deck with its next edit count. IMAGE_INFO answers the loaded and the kept header. -/
def Obligations.DecksAndImagesLoadCommitAndSave : Prop :=
  ∀ (s : State),
    (∀ r : Req,
      (let kind := fld r.payload 0 1
       let slot := fld r.payload 2 2
       let off := fld r.payload 4 4
       let bo := fld r.payload 8 4
       let bl := fld r.payload 12 4
       let have_ := if off = 0 then [] else stagedImg s (imgKey kind slot)
       let b := begun s r 0x0201
       Runs s r 0x0201 true [.config, .idle, .run, .hold, .maint] 16 (r.target == 0 && fld r.payload 1 1 == 0 && decide (1 ≤ kind ∧ kind ≤ 8) && bulkOk bo bl) →
       (stageBusy s kind slot = true → exec (.imageStage r) s = .next (finish b r 0x0201 true 0x050D)) ∧
       (stageBusy s kind slot = false →
         (off ≠ have_.length → exec (.imageStage r) s = .next (finish b r 0x0201 true 0x010E)) ∧
         (off = have_.length → kindLimit kind < off + bl → exec (.imageStage r) s = .next (finish b r 0x0201 true 0x0102)) ∧
         (off = have_.length → off + bl ≤ kindLimit kind → bulkBusy s bo bl = true → exec (.imageStage r) s = .next (finish b r 0x0201 true 0x0509)) ∧
         (off = have_.length → off + bl ≤ kindLimit kind → bulkBusy s bo bl = false → (if s.host.bulkWin = s.t0 / (10 * us) then s.host.bulkUsed else 0) < 10000 →
           ∃ t, exec (.imageStage r) s = .next t ∧ stagedImg t (imgKey kind slot) = have_ ++ mreads s.host.bulk bo bl ∧ t.host.bulk = s.host.bulk ∧
             (kind ≠ 8 → t.deck.stagedOk = false)))) ∧
      (let b := begun s r 0x0203
       let job := s.deck.validating.isSome ∨ s.deck.committing.isSome
       Runs s r 0x0203 true [.config] 0 (r.target == 0) →
       (job → exec (.deckLoad r) s = .next (finish b r 0x0203 true 0x050D)) ∧
       (¬job → ∃ t, exec (.deckLoad r) s = .next t ∧ t.deck.validating = some (jobOf r 1 0 0) ∧ t.deck.stagedOk = false)) ∧
      (let b := begun s r 0x0204
       Runs s r 0x0204 true [.config] 0 (r.target == 0) →
       (s.deck.stagedOk = false ∨ s.deck.committing.isSome → exec (.deckCommit r) s = .next (finish b r 0x0204 true 0x0108)) ∧
       (s.deck.stagedOk = true → s.deck.committing = none → dwellOk s = false → exec (.deckCommit r) s = .next (finish b r 0x0204 true 0x050C)) ∧
       (s.deck.stagedOk = true → s.deck.committing = none → dwellOk s = true → ∃ t, exec (.deckCommit r) s = .next t ∧ t.deck.committing = some (jobOf r 1 0 0) ∧
         tfind t.deck.flash (otherSlot s) = none)) ∧
      (let b := begun s r 0x0205
       Runs s r 0x0205 true [.idle, .run, .hold, .maint] 0 (r.target == 0) →
       (s.deck.saving.isSome → exec (.deckSave r) s = .next (finish b r 0x0205 true 0x050D)) ∧
       (s.deck.saving = none → ∃ t, exec (.deckSave r) s = .next t ∧ t.deck.saving = some (jobOf r 1 0 0) ∧ tfind t.deck.flash (otherSlot s) = none)) ∧
      (let kind := fld r.payload 0 1
       let fl := fld r.payload 1 1
       let slot := fld r.payload 2 2
       let b := begun s r 0x0202
       let busy := stageBusy s kind slot = true ∨ s.deck.loading.isSome
       Runs s r 0x0202 true [.idle, .run, .hold, .maint] 4 (r.target == 0 && decide (2 ≤ kind ∧ kind ≤ 7) && decide (fl ≤ 1)) →
       (busy → exec (.imageLoad r) s = .next (finish b r 0x0202 true 0x050D)) ∧
       (¬busy → tfind s.deck.staged (imgKey kind slot) = none → exec (.imageLoad r) s = .next (finish b r 0x0202 true 0x0108)) ∧
       (¬busy → tfind s.deck.staged (imgKey kind slot) ≠ none → ∃ t, exec (.imageLoad r) s = .next t ∧ t.deck.loading = some (jobOf r kind slot fl) ∧ t.deck.loaded = s.deck.loaded)) ∧
      (let k := imgKey (fld r.payload 0 1) (fld r.payload 2 2)
       let b := begun s r 0x0206
       Runs s r 0x0206 false allModes 4 (r.target == 0 && fld r.payload 1 1 == 0) →
       (tfind s.deck.loaded k = none → exec (.imageInfo r) s = .next (finish b r 0x0206 false 0x0108)) ∧
       (∀ i, tfind s.deck.loaded k = some i → exec (.imageInfo r) s = .next (finish b r 0x0206 false 0 (hdrBytes i.bytes ++ hdrBytes (tget {} s.deck.kept k).bytes))))) ∧
    (∀ (late : Fin 14) (detail device proof : Word),
      (s.deck.validating = none → exec (.deckValidationEnd late detail device proof) s = .next s) ∧
      (s.deck.validating ≠ none → ∃ t, exec (.deckValidationEnd late detail device proof) s = .next t ∧ t.deck.validating = none ∧
        (t.deck.stagedOk = true ↔ (deckCheck s late.val detail.toNat).1 = 0) ∧ t.deck.loaded = s.deck.loaded ∧ t.params = s.params)) ∧
    (∀ readOk : Bool,
      (∀ j, s.deck.committing = some j → j.kind = 1 →
        (readOk = false → exec (.deckCommitDone readOk) s = .next (finish (setDeck s (fun d => { d with committing := none })) (jobReq j) 0x0204 true 0x0602)) ∧
        (readOk = true → s.mode.cur ≠ .config → ∃ t, exec (.deckCommitDone readOk) s = .next t ∧ t.mode = s.mode ∧ t.deck.committing = none) ∧
        (readOk = true → s.mode.cur = .config → ∃ t f, exec (.deckCommitDone readOk) s = .next t ∧ tfind t.deck.flash (otherSlot s) = some f ∧ f.deck = stagedImg s (imgKey 1 0) ∧
          t.deck.slot = otherSlot s ∧ (∀ e ∈ s.deck.flash, e.2.order < f.order) ∧ t.mode.pend = some ⟨.idle, wholeMs s.t0 (500 * us), 3, none⟩ ∧ t.mode.cur = s.mode.cur)) ∧
      (s.deck.committing = none → exec (.deckCommitDone readOk) s = .next s) ∧
      (∀ j, s.deck.saving = some j →
        (readOk = false → exec (.deckSaveDone readOk) s = .next (finish (setDeck s (fun d => { d with saving := none })) (jobReq j) 0x0205 true 0x0602)) ∧
        (readOk = true → ∃ t f, exec (.deckSaveDone readOk) s = .next t ∧ tfind t.deck.flash (otherSlot s) = some f ∧ f.vals = s.params.working ∧
          t.deck.edit = (s.deck.edit + 1) % 65536 ∧ t.params.saved = s.params.working ∧ t.params.unsaved = 0)) ∧
      (s.deck.saving = none → exec (.deckSaveDone readOk) s = .next s)) ∧
    (∀ late : Fin 14,
      (s.deck.loading = none → exec (.imageValidationEnd late) s = .next s) ∧
      (∀ j, s.deck.loading = some j →
        let k := imgKey j.kind j.slot
        let st := imageCheck s j.kind j.slot j.flags late.val
        (st ≠ 0 → exec (.imageValidationEnd late) s = .next (finish (setDeck s (fun d => { d with loading := none })) (jobReq j) 0x0202 true st)) ∧
        (st = 0 → ∃ t, exec (.imageValidationEnd late) s = .next t ∧ t.deck.loading = none ∧
          (j.kind ≠ 3 → (tget {} t.deck.loaded k).bytes = stagedImg s k) ∧
          (j.kind = 3 → t.deck.loaded = s.deck.loaded) ∧ (j.kind ≠ 2 → t.params = s.params))))

/-! ### The whole machine (R9, R23, R48, R348, R524, R533, R534, R542, R543) -/

/-- For every command and every queue: a step is exec of the front command on the state whose queue is the rest. On an empty queue a step answers the state one T0 period of 10 ns later, and in M0 KEEP, where the device has no T0, the same state. That an empty queue lets a period pass is the model's choice (log 42). -/
def Obligations.StepRunsTheFrontCommand : Prop :=
  (∀ (c : Instr) (s : State) (rest : List Instr), step { s with pending := c :: rest } = exec c { s with pending := rest }) ∧
  (∀ s : State, s.pending = [] → s.mode.cur = .keep → step s = .next s) ∧
  (∀ s : State, s.pending = [] → s.mode.cur ≠ .keep → ∃ t, step s = .next t ∧ t.t0 = s.t0 + 10 ∧ t.pending = [] ∧ t.mode = s.mode ∧ t.params = s.params)

/-- The state after reset is in M1 BOOT of a cold restart with nothing queued; every BAR0 register that R524 gives a fixed reset value reads it; no mailbox is open or owned; the rings and the bulk window are in canonical form and read zero (the zero is the model's choice, log 2). -/
def Obligations.ResetStateIsBootWithTheRegistersAtReset : Prop :=
  State.reset.mode.cur = .boot ∧ State.reset.pending = [] ∧ State.reset.rst.kind = 3 ∧ State.reset.ridge.latches = [] ∧
  (∀ e ∈ ([(0x0000, 0x44594C44), (0x0004, 0x16480B00), (0x0008, 0), (0x000C, 0), (0x0038, 0x16481F4E), (0x003C, 0xFE200808), (0x0100, 0x3001), (0x0104, 0),
      (0x0110, 0), (0x0114, 0), (0x0118, 0), (0x011C, 0), (0x0120, 0), (0x0124, 0)] : List (Nat × Nat)), (bar0Read State.reset e.1).1 = e.2) ∧
  (∀ m, m < 8 → (∀ o ∈ ([0x00, 0x04, 0x08, 0x0C, 0x10, 0x14, 0x18, 0x1C, 0x20, 0x24, 0x2C] : List Nat), (bar0Read State.reset (0x0400 + 64 * m + o)).1 = 0) ∧
    (bar0Read State.reset (0x0400 + 64 * m + 0x28)).1 = 1) ∧
  (∀ n, n < 10 → (bar0Read State.reset (0x1000 + 4 * n)).1 = 0) ∧
  Memory.wf State.reset.host.rings ∧ Memory.wf State.reset.host.bulk ∧ (∀ a, mread State.reset.host.rings a = 0 ∧ mread State.reset.host.bulk a = 0)

/-- For each of the mailbox commands: while it may not begin it changes nothing; past its deadline it completes with 0x0508 and no effect; a change given in M9 STANDBY (but DEVICE_RESTART) completes with 0x0209, or with its payload's own failure first, and one in M6 RESUME with 0x0201 likewise. A completion with any status queues its response frames behind those that wait: all of the command's tag and status, together its payload, each within the transport's limit, the last with FINAL alone and the others with MORE; the tag is no longer outstanding and the ranges it held are free. -/
def Obligations.MailboxCommandsAreCheckedAndAnswered : Prop :=
  (∀ (c : Instr) (s : State) (r : Req) (op : Nat) (isC : Bool), Safety.cmdOf c = some (r, op, isC) →
    (mayBegin s r op = false → exec c s = .next s) ∧
    (mayBegin s r op = true → tooLate s (tagOf s r op) = true → exec c s = .next (finish (begun s r op) r op isC 0x0508)) ∧
    (mayBegin s r op = true → tooLate s (tagOf s r op) = false → isC = true → s.mode.cur = .standby → op ≠ 0x0003 →
      exec c s = .next (finish (begun s r op) r op isC 0x0102) ∨ exec c s = .next (finish (begun s r op) r op isC 0x010E) ∨
      exec c s = .next (finish (begun s r op) r op isC 0x0209)) ∧
    (mayBegin s r op = true → tooLate s (tagOf s r op) = false → isC = true → s.mode.cur = .resume →
      exec c s = .next (finish (begun s r op) r op isC 0x0102) ∨ exec c s = .next (finish (begun s r op) r op isC 0x010E) ∨
      exec c s = .next (finish (begun s r op) r op isC 0x0201))) ∧
  (∀ (s : State) (r : Req) (op : Nat) (isC : Bool) (st : Nat) (pl : List Byte),
    let t := finish s r op isC st pl
    let limit := if (tagOf s r op).transport = 2 then 1440 else 4064
    (∀ x ∈ (mbx t r.mb).tags, x.tag ≠ r.tag.toNat) ∧ (∀ h ∈ t.host.holds, ¬(h.mb = r.mb.val ∧ h.tag = r.tag.toNat)) ∧
    ∃ fs p, (mbx t r.mb).resps = (mbx s r.mb).resps ++ fs ++ [p] ∧ p.flags = 1 ∧ (∀ f ∈ fs, f.flags = 4) ∧ (fs ++ [p]).flatMap (·.payload) = pl ∧
      ∀ f ∈ fs ++ [p], f.tag = r.tag.toNat ∧ f.status = st ∧ f.payload.length ≤ limit)

/-- From every state whose response and command rings and bulk window list their bytes at strictly rising addresses, none of them blank, every step, whichever command it runs, answers a state in which they do. The canonical form is the model's; the memories are R520's. -/
def Obligations.WindowMemoriesStayCanonical : Prop :=
  ∀ (s t : State), Memory.wf s.host.rings → Memory.wf s.host.bulk → step s = .next t → Memory.wf t.host.rings ∧ Memory.wf t.host.bulk

/-- Whatever the state: when a step ends in another mode than it began in, the command it ran is one of those that enter a mode. In particular no host request changes the mode at its acceptance, no field, network, loop, program or recorder command changes it, and the passing of time alone does not. -/
def Obligations.ModeChangesOnlyByTheseCommands : Prop :=
  ∀ (s t : State), step s = .next t → t.mode.cur ≠ s.mode.cur → ∃ c rest, s.pending = c :: rest ∧ Safety.mayChangeMode c = true

/-- The oldest due update becomes visible with the point's UCNT one higher modulo 256, whatever its value and conditions are; an update of another point leaves the point's UCNT. After any list of visible updates a point's UCNT has risen by the number of those of the point modulo 256, so a reader that sees the same UCNT and knows of fewer than 256 updates has missed none. -/
def Obligations.UcntCountsVisibleUpdates : Prop :=
  (∀ (s : State) (u : Upd), dueUpd s = some u → ∃ t, exec .imageUpdateVisible s = .next t ∧ (pget t u.point).ucnt = (pget s u.point).ucnt + 1 ∧
    ∀ p, p ≠ u.point → (pget t p).ucnt = (pget s p).ucnt) ∧
  (∀ (s : State) (p : Nat) (l : List Upd),
    let t := l.foldl showUpd s
    let n := (l.filter (fun u => u.point == p)).length
    (pget t p).ucnt = (pget s p).ucnt + bv 8 n ∧ ((pget t p).ucnt = (pget s p).ucnt → n < 256 → n = 0))

/-- With no other restart in progress: an engine still restarting 1 ms after its trigger, and a hot trigger for an engine with two hot restarts in the 10 s before it, each make a warm restart with cause ESCALATED_HOT (0x13) of that island (in M8 TEST, where every warm trigger is carried out as cold, a cold one); before the millisecond is over nothing happens, and with fewer than two the engine's restart stays hot. The hot trigger is shown by DEVICE_RESTART's and by the function that every hot trigger uses. -/
def Obligations.HotRestartsEscalate : Prop :=
  ∀ (s : State) (isl : Byte), s.rst.stage = 0 → s.mode.cur ≠ .keep →
    (∀ a, (island s isl.toNat).restarting = some a →
      (s.t0 < a + 1000000 → exec (.hotRestartTimeout isl) s = .next s) ∧
      (a + 1000000 ≤ s.t0 → ∃ t, exec (.hotRestartTimeout isl) s = .next t ∧
        (s.mode.cur ≠ .test → t.rst.kind = 1 ∧ t.rst.cause = 0x13 ∧ t.rst.isl = isl.toNat) ∧ (s.mode.cur = .test → t.rst.kind = 3 ∧ t.rst.cause = 0x32))) ∧
    (let recent := (s.rst.hotLog.filter (fun e => e.1 == isl.toNat && decide (s.t0 < e.2 + 10000000000))).length
     (∀ a rest, s.host.restartReq = (a, 0, isl.toNat) :: rest → a ≤ s.t0 →
       exec .deviceRestartTrigger s = .next (hotRestart (setHost s (fun h => { h with restartReq := rest })) 0x03 isl.toNat)) ∧
     (∀ cause,
       (2 ≤ recent → s.mode.cur ≠ .test → (hotRestart s cause isl.toNat).rst.kind = 1 ∧ (hotRestart s cause isl.toNat).rst.cause = 0x13) ∧
       (2 ≤ recent → s.mode.cur = .test → (hotRestart s cause isl.toNat).rst.kind = 3 ∧ (hotRestart s cause isl.toNat).rst.cause = 0x32) ∧
       (recent < 2 → (hotRestart s cause isl.toNat).rst.kind = 0 ∧ (hotRestart s cause isl.toNat).rst.cause = cause ∧
         (island (hotRestart s cause isl.toNat) isl.toNat).restarting = some s.t0)))
end

