-- ==== Sys2Proof/Laws/Tables.lean ====
section
/-! SUPPORT. Tables and byte memory: what a write lets a read see, and that memory keeps its canonical form. -/

namespace Sys2Proof.Laws

open Sys2Proof.Machine

/-! ### Tables -/

/-- A table reads what was written under the key. -/
@[simp] theorem tget_tset_same {α : Type} (d : α) (t : Tbl α) (n : Nat) (v : α) : tget d (tset t n v) n = v := by
  induction t with
  | nil => simp [tset, tget]
  | cons e r ih =>
    obtain ⟨k, w⟩ := e
    simp only [tset]
    split
    · simp [tget]
    · split
      · simp [tget]
      · rename_i h1 h2
        simp only [tget, ih]
        rw [if_neg (fun h => h2 h.symm)]

/-- A write leaves the other keys alone. -/
theorem tget_tset_other {α : Type} (d : α) (t : Tbl α) {n k : Nat} (v : α) (h : k ≠ n) : tget d (tset t n v) k = tget d t k := by
  induction t with
  | nil => simp [tset, tget, h.symm]
  | cons e r ih =>
    obtain ⟨j, w⟩ := e
    simp only [tset]
    split
    · simp [tget, h.symm]
    · split
      · rename_i h1 h2
        simp only [tget]
        rw [if_neg h.symm, if_neg (fun q => h (q.symm.trans h2.symm))]
      · simp only [tget, ih]

/-- Of two writes under one key the later stays. -/
@[simp] theorem tset_tset {α : Type} (t : Tbl α) (n : Nat) (v w : α) : tset (tset t n v) n w = tset t n w := by
  induction t with
  | nil => simp [tset]
  | cons e r ih =>
    obtain ⟨k, u⟩ := e
    simp only [tset]
    split
    · simp [tset]
    · split
      · simp [tset]
      · rename_i h1 h2
        simp only [tset]
        rw [if_neg h1, if_neg h2, ih]

/-- One entry changed reads as the change of what it was. -/
@[simp] theorem tget_tmod_same {α : Type} (d : α) (t : Tbl α) (n : Nat) (f : α → α) : tget d (tmod d t n f) n = f (tget d t n) := by
  simp [tmod]

/-- The other entries are not changed. -/
theorem tget_tmod_other {α : Type} (d : α) (t : Tbl α) {n k : Nat} (f : α → α) (h : k ≠ n) : tget d (tmod d t n f) k = tget d t k := by
  simp [tmod, tget_tset_other d t _ h]

/-! ### Byte memory -/

theorem mread_minsert_same (m : Mem) (n : Nat) (b : Byte) : mread (minsert m n b) n = b := by
  induction m with
  | nil => simp [minsert, mread]
  | cons e r ih =>
    obtain ⟨k, w⟩ := e
    simp only [minsert]
    split
    · simp [mread]
    · split
      · simp [mread]
      · rename_i h1 h2
        simp only [mread, ih]
        rw [if_neg (fun h => h2 h.symm)]

theorem mread_minsert_other (m : Mem) {n a : Nat} (b : Byte) (h : a ≠ n) : mread (minsert m n b) a = mread m a := by
  induction m with
  | nil => simp [minsert, mread, h.symm]
  | cons e r ih =>
    obtain ⟨k, w⟩ := e
    simp only [minsert]
    split
    · simp [mread, h.symm]
    · split
      · rename_i h1 h2
        simp only [mread]
        rw [if_neg h.symm, if_neg (fun q => h (q.symm.trans h2.symm))]
      · simp only [mread, ih]

theorem mread_merase_same (m : Mem) (n : Nat) : mread (merase m n) n = memBlank := by
  induction m with
  | nil => simp [merase, mread]
  | cons e r ih =>
    obtain ⟨k, w⟩ := e
    simp only [merase] at ih ⊢
    by_cases h : k = n
    · simpa [List.filter_cons, h] using ih
    · simpa [List.filter_cons, h, mread] using ih

theorem mread_merase_other (m : Mem) {n a : Nat} (h : a ≠ n) : mread (merase m n) a = mread m a := by
  induction m with
  | nil => simp [merase, mread]
  | cons e r ih =>
    obtain ⟨k, w⟩ := e
    simp only [merase] at ih ⊢
    by_cases hk : k = n
    · have : ¬ k = a := fun q => h (q.symm.trans hk)
      simp [hk, mread, ih, hk ▸ this]
    · simp only [List.filter_cons, bne_iff_ne, ne_eq, hk, not_false_eq_true, if_true, mread, ih]

/-- A read after a write to the same address gives the byte written. -/
@[simp] theorem mread_mwrite_same (m : Mem) (n : Nat) (b : Byte) : mread (mwrite m n b) n = b := by
  unfold mwrite
  split
  · rename_i h; rw [mread_merase_same, h]
  · exact mread_minsert_same m n b

/-- A write leaves every other address alone. -/
theorem mread_mwrite_other (m : Mem) {n a : Nat} (b : Byte) (h : a ≠ n) : mread (mwrite m n b) a = mread m a := by
  unfold mwrite
  split
  · exact mread_merase_other m h
  · exact mread_minsert_other m b h

/-- Bytes written from `n` on leave the addresses outside them alone. -/
theorem mread_mwrites_other (l : List Byte) : ∀ (m : Mem) (n a : Nat), (a < n ∨ n + l.length ≤ a) → mread (mwrites m n l) a = mread m a := by
  induction l with
  | nil => intro m n a _; rfl
  | cons b r ih =>
    intro m n a h
    simp only [List.length_cons] at h
    rw [mwrites, ih _ _ _ (by omega), mread_mwrite_other _ _ (by omega)]

/-- Bytes written from `n` on read back. -/
theorem mread_mwrites_in (l : List Byte) : ∀ (m : Mem) (n i : Nat) (h : i < l.length), mread (mwrites m n l) (n + i) = l[i] := by
  induction l with
  | nil => intro m n i h; simp at h
  | cons b r ih =>
    intro m n i h
    cases i with
    | zero => rw [mwrites, mread_mwrites_other _ _ _ _ (by omega)]; simp
    | succ j =>
      have := ih (mwrite m n b) (n + 1) j (by simpa using h)
      rw [mwrites, show n + (j + 1) = n + 1 + j by omega, this]
      simp

/-- Reading as many bytes as were written gives them. -/
@[simp] theorem mreads_mwrites (m : Mem) (n : Nat) (l : List Byte) : mreads (mwrites m n l) n l.length = l := by
  apply List.ext_getElem
  · simp [mreads]
  · intro i h1 h2
    simp [mreads, mread_mwrites_in l m n i h2]

@[simp] theorem leBytes_length (n v : Nat) : (leBytes n v).length = n := by
  induction n generalizing v with
  | zero => rfl
  | succ k ih => simp [leBytes, ih]

/-! ### The canonical form -/

theorem merase_keys (m : Mem) (n : Nat) : ∀ c ∈ merase m n, c ∈ m := fun _ h => (List.mem_filter.mp h).1

theorem wf_merase {m : Mem} (h : Memory.wf m) (n : Nat) : Memory.wf (merase m n) := by
  refine ⟨?_, fun c hc => h.2 c (merase_keys m n c hc)⟩
  exact h.1.sublist (List.Sublist.map _ (List.filter_sublist))

theorem minsert_keys (m : Mem) (n : Nat) (b : Byte) : ∀ c ∈ minsert m n b, c = (n, b) ∨ c ∈ m := by
  induction m with
  | nil => intro c h; simpa [minsert] using h
  | cons e r ih =>
    obtain ⟨k, w⟩ := e
    intro c h
    simp only [minsert] at h
    split at h
    · simpa using h
    · split at h
      · rcases List.mem_cons.mp h with h | h
        · exact .inl h
        · exact .inr (List.mem_cons_of_mem _ h)
      · rcases List.mem_cons.mp h with h | h
        · exact .inr (h ▸ List.mem_cons_self)
        · rcases ih c h with h | h
          · exact .inl h
          · exact .inr (List.mem_cons_of_mem _ h)

theorem wf_minsert {m : Mem} (h : Memory.wf m) (n : Nat) {b : Byte} (hb : b ≠ memBlank) : Memory.wf (minsert m n b) := by
  refine ⟨?_, fun c hc => ?_⟩
  · have hs := h.1
    clear h
    induction m with
    | nil => simp [minsert]
    | cons e r ih =>
      obtain ⟨k, w⟩ := e
      simp only [List.map_cons, List.pairwise_cons] at hs
      simp only [minsert]
      split
      · rename_i hn
        simp only [List.map_cons, List.pairwise_cons]
        refine ⟨?_, hs⟩
        intro a ha
        rcases List.mem_cons.mp ha with rfl | ha
        · exact hn
        · exact Nat.lt_trans hn (hs.1 a ha)
      · split
        · rename_i hn
          simp only [List.map_cons, List.pairwise_cons]
          exact ⟨fun a ha => hn ▸ hs.1 a ha, hs.2⟩
        · rename_i h1 h2
          simp only [List.map_cons, List.pairwise_cons]
          refine ⟨?_, ih hs.2⟩
          intro a ha
          obtain ⟨c, hc, rfl⟩ := List.mem_map.mp ha
          rcases minsert_keys r n b c hc with rfl | hc
          · show k < n; omega
          · exact hs.1 _ (List.mem_map_of_mem hc)
  · rcases minsert_keys m n b c hc with rfl | hc
    · exact hb
    · exact h.2 c hc

/-- Every write keeps the canonical form. -/
theorem wf_mwrite {m : Mem} (h : Memory.wf m) (n : Nat) (b : Byte) : Memory.wf (mwrite m n b) := by
  unfold mwrite
  split
  · exact wf_merase h n
  · rename_i hb; exact wf_minsert h n hb

/-- So does a write of several bytes. -/
theorem wf_mwrites (l : List Byte) : ∀ {m : Mem}, Memory.wf m → ∀ n, Memory.wf (mwrites m n l) := by
  induction l with
  | nil => intro m h n; exact h
  | cons b r ih => intro m h n; exact ih (wf_mwrite h n b) (n + 1)

/-- Memory that lists nothing is in canonical form. -/
theorem wf_nil : Memory.wf [] := ⟨List.Pairwise.nil, by simp⟩

end Sys2Proof.Laws
end

