-- ==== Sys2Proof/Laws/BitLogic.lean ====
section
/-! SUPPORT. What the shared operations of the bit-logic instructions do where a release runs. -/

namespace Sys2Proof.Laws

open Sys2Proof.Machine Sys2Proof.Safety

/-- One instruction of a running release inside its program: its operation's registers and state, or its fault. -/
theorem blExec_at {s : State} {ce : Fin 16} {r : Release} (h : BlAt s ce r) (op : Nat) (x : BitVec 25)
    (f : Nat → Release → BlRegs → State → Except Nat (BlRegs × State)) :
    blExec ce op x s f = match f ce.val r (blGo s ce) s with
      | .ok (g, t) => blSet t ce g
      | .error k => blFault s ce.val k (engine s ce.val).bl.pc (op * 2 ^ 25 + x.toNat) := by
  obtain ⟨h1, h2, h3⟩ := h
  dsimp only [blExec]
  rw [h1]
  dsimp only
  rw [if_neg (not_not.mpr h2), if_neg (Nat.not_le.mpr h3)]
  rfl

/-- A release with its pc beyond the program faults with code 7. -/
theorem blExec_beyond {s : State} {ce : Fin 16} {r : Release} (h1 : (engine s ce.val).running = some r)
    (h2 : (engine s ce.val).role = 0) (h3 : (prog s (task s r.task).prog).words ≤ (engine s ce.val).bl.pc)
    (op : Nat) (x : BitVec 25) (f : Nat → Release → BlRegs → State → Except Nat (BlRegs × State)) :
    blExec ce op x s f = blFault s ce.val 7 (engine s ce.val).bl.pc (op * 2 ^ 25 + x.toNat) := by
  dsimp only [blExec]
  rw [h1]
  dsimp only
  rw [if_neg (not_not.mpr h2), if_pos h3]

/-- With no release running an instruction does nothing. -/
theorem blExec_none {s : State} {ce : Fin 16} (h : (engine s ce.val).running = none) (op : Nat) (x : BitVec 25)
    (f : Nat → Release → BlRegs → State → Except Nat (BlRegs × State)) : blExec ce op x s f = s := by
  dsimp only [blExec]
  rw [h]

/-- END and ENDC of a running release. -/
theorem endForm_at {s : State} {ce : Fin 16} {r : Release} (h : BlAt s ce r) (op : Nat) {x : BitVec 25} (hx : x = 0) (cond : BlRegs → Bool) :
    endForm ce op x s cond = if cond (engine s ce.val).bl then endAsk s ce.val false else blSet s ce (blGo s ce) := by
  obtain ⟨h1, h2, h3⟩ := h
  dsimp only [endForm]
  rw [h1]
  dsimp only
  rw [if_neg (not_not.mpr h2), if_neg (Nat.not_le.mpr h3), if_neg (not_not.mpr hx)]
  rfl

/-- A store in the data memory and the registers of one engine are one change of it. -/
theorem blSet_dataWrite (s : State) (ce : Fin 16) (g : BlRegs) (a : Nat) (l : List Byte) :
    blSet (dataWrite s ce.val a l) ce g = blMem s ce g (mwrites (engine s ce.val).mem a l) := by
  simp [blSet, dataWrite, blMem, setEngine, tmod, engine]

end Sys2Proof.Laws
end

