-- ==== Sys2Proof/Laws/Command.lean ====
section
/-! SUPPORT. The checks every mailbox command shares. -/

namespace Sys2Proof.Laws

open Sys2Proof.Machine Sys2Proof.Safety

/-- A command that passes the shared checks does its own work on the state in which it has begun. -/
theorem command_runs {s : State} {r : Req} {op : Nat} {isC : Bool} {modes : List Mode} {len : Nat} {ok : Bool}
    (h : Runs s r op isC modes len ok) (run : State → State) : command s r op isC modes len ok run = run (beginCmd s r op) := by
  obtain ⟨h1, h2, h3, h4, h5, h6⟩ := h
  have hm : (beginCmd s r op).mode = s.mode := rfl
  unfold command
  simp only [h1, h2, h4, hm, Bool.not_true, Bool.false_eq_true, if_false, Nat.not_lt.mpr h3]
  cases isC
  · simp [h6]
  · obtain ⟨h7, h8⟩ := h5 rfl
    rcases h7 with h7 | h7 <;> simp [h6, h7, h8]

/-- A command that may not begin yet changes nothing. -/
theorem command_waits {s : State} {r : Req} {op : Nat} (h : mayBegin s r op = false) (isC : Bool) (modes : List Mode) (len : Nat) (ok : Bool)
    (run : State → State) : command s r op isC modes len ok run = s := by
  simp [command, h]

/-- A command past its deadline completes with 0x0508. -/
theorem command_late {s : State} {r : Req} {op : Nat} (h : mayBegin s r op = true) (ht : tooLate s (tagOf s r op) = true) (isC : Bool)
    (modes : List Mode) (len : Nat) (ok : Bool) (run : State → State) :
    command s r op isC modes len ok run = finish (beginCmd s r op) r op isC 0x0508 := by
  simp [command, h, ht]

/-- A payload shorter than the command's is refused with 0x0102. -/
theorem command_short {s : State} {r : Req} {op : Nat} (h : mayBegin s r op = true) (ht : tooLate s (tagOf s r op) = false) (isC : Bool)
    (modes : List Mode) {len : Nat} (hl : r.payload.length < len) (ok : Bool) (run : State → State) :
    command s r op isC modes len ok run = finish (beginCmd s r op) r op isC 0x0102 := by
  simp [command, h, ht, hl]

end Sys2Proof.Laws
end

