-- ==== Sys2Proof/Laws/LoopIsa.lean ====
section
/-! SUPPORT. What the shared operations of the loop engine's instructions do in law code. -/

namespace Sys2Proof.Laws

open Sys2Proof.Machine Sys2Proof.Safety

/-- The engine after effects `l` of an instruction outside a delay slot. -/
def leRun (e : LoopEng) (l : List LeEff) : LoopEng :=
  leNext (leFlow { e with pc := e.pc + 1, cycles := e.cycles + 1 } l) e.pc none

/-- One instruction of law code outside a delay slot that is no control instruction: its effects, or its fault. -/
theorem leExec_at {s : State} {le : Fin 8} (h : LeAt s le) (word : Nat) (f : LoopEng → Except Nat (List LeEff)) :
    leExec le word false s f = match f (loopEngine s le.val) with
      | .error c => lawFault s le.val c (loopEngine s le.val).pc word
      | .ok l => setLe s le.val (fun _ => leRun (loopEngine s le.val) l) := by
  obtain ⟨h1, h2, h3, h4, h5⟩ := h
  dsimp only [leExec]
  simp only [h1, h2, h5, Bool.not_true, Bool.false_and, Bool.not_false, Bool.true_and, Nat.not_lt.mpr h3, Nat.not_le.mpr h4,
    decide_false, Bool.or_false, if_false, Bool.false_eq_true, Option.isSome_none]
  cases f (loopEngine s le.val) <;> simp [leRun, h1, h2, h5]

/-- The same for a control instruction outside a REP body. -/
theorem leExec_control {s : State} {le : Fin 8} (h : LeAt s le) (hr : (loopEngine s le.val).rep = none) (word : Nat)
    (f : LoopEng → Except Nat (List LeEff)) :
    leExec le word true s f = match f (loopEngine s le.val) with
      | .error c => lawFault s le.val c (loopEngine s le.val).pc word
      | .ok l => setLe s le.val (fun _ => leRun (loopEngine s le.val) l) := by
  obtain ⟨h1, h2, h3, h4, h5⟩ := h
  dsimp only [leExec]
  simp only [h1, h2, h5, hr, Bool.not_true, Bool.false_and, Bool.not_false, Bool.true_and, Nat.not_lt.mpr h3, Nat.not_le.mpr h4,
    decide_false, Bool.or_false, if_false, Bool.false_eq_true, Option.isSome_none, Bool.and_false]
  cases f (loopEngine s le.val) <;> simp [leRun, h1, h2, h5, hr]

theorem bank_main {e : LoopEng} (hs : e.shd = false) : e.bank = e.main := by simp [LoopEng.bank, hs]
theorem setBank_main {e : LoopEng} (hs : e.shd = false) (b : LeBank) : e.setBank b = { e with main := b } := by simp [LoopEng.setBank, hs]

/-- The flow of an instruction's effects outside a handler. -/
theorem leFlow_eq {e e1 : LoopEng} {l : List LeEff} (hs : e.shd = false) (h : l.foldl leApply { e with main := leLanded e } = e1)
    (h1 : e1.shd = false) : leFlow e l = { e1 with main := leAged e e1.main } := by
  unfold leFlow
  dsimp only
  rw [bank_main hs, setBank_main hs]
  rw [show (List.foldl (fun b x => b.wr x.1 x.2) { e.main with loads := [], movp := none } e.main.loads) = leLanded e from rfl, h]
  rw [if_neg (by rw [h1, hs]; simp), bank_main h1, setBank_main h1]
  rfl

/-- Effects that leave registers `b` and change the engine by `f`, which keeps its registers and the bank in use. -/
theorem leRun_eq {e : LoopEng} (hs : e.shd = false) (l : List LeEff) (b : LeBank) (f : LoopEng → LoopEng)
    (hf : ∀ d m, f { d with main := m } = { f d with main := m, shd := d.shd })
    (hb : l.foldl leApply { e with main := leLanded e, pc := e.pc + 1, cycles := e.cycles + 1 } =
      f { e with main := b, pc := e.pc + 1, cycles := e.cycles + 1 }) :
    leRun e l = leNext (f { e with main := leAged e b, pc := e.pc + 1, cycles := e.cycles + 1 }) e.pc none := by
  have h := fun m => hf { e with pc := e.pc + 1, cycles := e.cycles + 1 } m
  dsimp only at h
  unfold leRun
  rw [leFlow_eq (e1 := f { e with main := b, pc := e.pc + 1, cycles := e.cycles + 1 }) (by exact hs) hb (by rw [h]; exact hs), h b, h (leAged e b)]
  rfl

/-- The same as a change of the state. -/
theorem setLe_leRun {s : State} {le : Fin 8} (h : LeAt s le) (l : List LeEff) (b : LeBank) (f : LoopEng → LoopEng)
    (hf : ∀ d m, f { d with main := m } = { f d with main := m, shd := d.shd })
    (hb : l.foldl leApply { loopEngine s le.val with main := leLanded (loopEngine s le.val), pc := (loopEngine s le.val).pc + 1, cycles := (loopEngine s le.val).cycles + 1 } =
      f { loopEngine s le.val with main := b, pc := (loopEngine s le.val).pc + 1, cycles := (loopEngine s le.val).cycles + 1 }) :
    setLe s le.val (fun _ => leRun (loopEngine s le.val) l) = leTo s le b f := by
  rw [leRun_eq h.2.1 l b f hf hb]
  rfl

end Sys2Proof.Laws
end

