-- ==== Sys2Proof/Laws/State.lean ====
section
/-! SUPPORT. One lemma per field of State per shared update: what it leaves unchanged. -/

namespace Sys2Proof.Machine

@[simp] theorem setAcq_t0 (s : State) (u : Nat) (f : AcqUnit → AcqUnit) : (setAcq s u f).t0 = s.t0 := rfl
@[simp] theorem setAcq_clock (s : State) (u : Nat) (f : AcqUnit → AcqUnit) : (setAcq s u f).clock = s.clock := rfl
@[simp] theorem setAcq_islands (s : State) (u : Nat) (f : AcqUnit → AcqUnit) : (setAcq s u f).islands = s.islands := rfl
@[simp] theorem setAcq_links (s : State) (u : Nat) (f : AcqUnit → AcqUnit) : (setAcq s u f).links = s.links := rfl
@[simp] theorem setAcq_nodes (s : State) (u : Nat) (f : AcqUnit → AcqUnit) : (setAcq s u f).nodes = s.nodes := rfl
@[simp] theorem setAcq_memErr (s : State) (u : Nat) (f : AcqUnit → AcqUnit) : (setAcq s u f).memErr = s.memErr := rfl
@[simp] theorem setAcq_img (s : State) (u : Nat) (f : AcqUnit → AcqUnit) : (setAcq s u f).img = s.img := rfl
@[simp] theorem setAcq_mode (s : State) (u : Nat) (f : AcqUnit → AcqUnit) : (setAcq s u f).mode = s.mode := rfl
@[simp] theorem setAcq_params (s : State) (u : Nat) (f : AcqUnit → AcqUnit) : (setAcq s u f).params = s.params := rfl
@[simp] theorem setAcq_deck (s : State) (u : Nat) (f : AcqUnit → AcqUnit) : (setAcq s u f).deck = s.deck := rfl
@[simp] theorem setAcq_fw (s : State) (u : Nat) (f : AcqUnit → AcqUnit) : (setAcq s u f).fw = s.fw := rfl
@[simp] theorem setAcq_sched (s : State) (u : Nat) (f : AcqUnit → AcqUnit) : (setAcq s u f).sched = s.sched := rfl
@[simp] theorem setAcq_recd (s : State) (u : Nat) (f : AcqUnit → AcqUnit) : (setAcq s u f).recd = s.recd := rfl
@[simp] theorem setAcq_thatch (s : State) (u : Nat) (f : AcqUnit → AcqUnit) : (setAcq s u f).thatch = s.thatch := rfl
@[simp] theorem setAcq_ridge (s : State) (u : Nat) (f : AcqUnit → AcqUnit) : (setAcq s u f).ridge = s.ridge := rfl
@[simp] theorem setAcq_host (s : State) (u : Nat) (f : AcqUnit → AcqUnit) : (setAcq s u f).host = s.host := rfl
@[simp] theorem setAcq_domains (s : State) (u : Nat) (f : AcqUnit → AcqUnit) : (setAcq s u f).domains = s.domains := rfl
@[simp] theorem setAcq_can (s : State) (u : Nat) (f : AcqUnit → AcqUnit) : (setAcq s u f).can = s.can := rfl
@[simp] theorem setAcq_eth (s : State) (u : Nat) (f : AcqUnit → AcqUnit) : (setAcq s u f).eth = s.eth := rfl
@[simp] theorem setAcq_csx (s : State) (u : Nat) (f : AcqUnit → AcqUnit) : (setAcq s u f).csx = s.csx := rfl
@[simp] theorem setAcq_loops (s : State) (u : Nat) (f : AcqUnit → AcqUnit) : (setAcq s u f).loops = s.loops := rfl
@[simp] theorem setAcq_loopEng (s : State) (u : Nat) (f : AcqUnit → AcqUnit) : (setAcq s u f).loopEng = s.loopEng := rfl
@[simp] theorem setAcq_evq (s : State) (u : Nat) (f : AcqUnit → AcqUnit) : (setAcq s u f).evq = s.evq := rfl
@[simp] theorem setAcq_faultq (s : State) (u : Nat) (f : AcqUnit → AcqUnit) : (setAcq s u f).faultq = s.faultq := rfl
@[simp] theorem setAcq_outbox (s : State) (u : Nat) (f : AcqUnit → AcqUnit) : (setAcq s u f).outbox = s.outbox := rfl
@[simp] theorem setAcq_pocket (s : State) (u : Nat) (f : AcqUnit → AcqUnit) : (setAcq s u f).pocket = s.pocket := rfl
@[simp] theorem setAcq_rst (s : State) (u : Nat) (f : AcqUnit → AcqUnit) : (setAcq s u f).rst = s.rst := rfl
@[simp] theorem setAcq_motion (s : State) (u : Nat) (f : AcqUnit → AcqUnit) : (setAcq s u f).motion = s.motion := rfl
@[simp] theorem setAcq_io (s : State) (u : Nat) (f : AcqUnit → AcqUnit) : (setAcq s u f).io = s.io := rfl
@[simp] theorem setAcq_twin (s : State) (u : Nat) (f : AcqUnit → AcqUnit) : (setAcq s u f).twin = s.twin := rfl
@[simp] theorem setAcq_cv (s : State) (u : Nat) (f : AcqUnit → AcqUnit) : (setAcq s u f).cv = s.cv := rfl
@[simp] theorem setAcq_track (s : State) (u : Nat) (f : AcqUnit → AcqUnit) : (setAcq s u f).track = s.track := rfl
@[simp] theorem setAcq_streams (s : State) (u : Nat) (f : AcqUnit → AcqUnit) : (setAcq s u f).streams = s.streams := rfl
@[simp] theorem setAcq_lines (s : State) (u : Nat) (f : AcqUnit → AcqUnit) : (setAcq s u f).lines = s.lines := rfl
@[simp] theorem setAcq_freeCtr (s : State) (u : Nat) (f : AcqUnit → AcqUnit) : (setAcq s u f).freeCtr = s.freeCtr := rfl
@[simp] theorem setAcq_pending (s : State) (u : Nat) (f : AcqUnit → AcqUnit) : (setAcq s u f).pending = s.pending := rfl
@[simp] theorem setAcq_param (s : State) (u : Nat) (f : AcqUnit → AcqUnit) (pk pi : Nat) : param (setAcq s u f) pk pi = param s pk pi := rfl
@[simp] theorem setAcq_flag (s : State) (u : Nat) (f : AcqUnit → AcqUnit) (pk pi : Nat) : flag (setAcq s u f) pk pi = flag s pk pi := rfl

@[simp] theorem setTrgLine_t0 (s : State) (n : Nat) (f : TrgLine → TrgLine) : (setTrgLine s n f).t0 = s.t0 := rfl
@[simp] theorem setTrgLine_clock (s : State) (n : Nat) (f : TrgLine → TrgLine) : (setTrgLine s n f).clock = s.clock := rfl
@[simp] theorem setTrgLine_islands (s : State) (n : Nat) (f : TrgLine → TrgLine) : (setTrgLine s n f).islands = s.islands := rfl
@[simp] theorem setTrgLine_links (s : State) (n : Nat) (f : TrgLine → TrgLine) : (setTrgLine s n f).links = s.links := rfl
@[simp] theorem setTrgLine_nodes (s : State) (n : Nat) (f : TrgLine → TrgLine) : (setTrgLine s n f).nodes = s.nodes := rfl
@[simp] theorem setTrgLine_memErr (s : State) (n : Nat) (f : TrgLine → TrgLine) : (setTrgLine s n f).memErr = s.memErr := rfl
@[simp] theorem setTrgLine_img (s : State) (n : Nat) (f : TrgLine → TrgLine) : (setTrgLine s n f).img = s.img := rfl
@[simp] theorem setTrgLine_mode (s : State) (n : Nat) (f : TrgLine → TrgLine) : (setTrgLine s n f).mode = s.mode := rfl
@[simp] theorem setTrgLine_params (s : State) (n : Nat) (f : TrgLine → TrgLine) : (setTrgLine s n f).params = s.params := rfl
@[simp] theorem setTrgLine_deck (s : State) (n : Nat) (f : TrgLine → TrgLine) : (setTrgLine s n f).deck = s.deck := rfl
@[simp] theorem setTrgLine_fw (s : State) (n : Nat) (f : TrgLine → TrgLine) : (setTrgLine s n f).fw = s.fw := rfl
@[simp] theorem setTrgLine_sched (s : State) (n : Nat) (f : TrgLine → TrgLine) : (setTrgLine s n f).sched = s.sched := rfl
@[simp] theorem setTrgLine_recd (s : State) (n : Nat) (f : TrgLine → TrgLine) : (setTrgLine s n f).recd = s.recd := rfl
@[simp] theorem setTrgLine_thatch (s : State) (n : Nat) (f : TrgLine → TrgLine) : (setTrgLine s n f).thatch = s.thatch := rfl
@[simp] theorem setTrgLine_ridge (s : State) (n : Nat) (f : TrgLine → TrgLine) : (setTrgLine s n f).ridge = s.ridge := rfl
@[simp] theorem setTrgLine_host (s : State) (n : Nat) (f : TrgLine → TrgLine) : (setTrgLine s n f).host = s.host := rfl
@[simp] theorem setTrgLine_domains (s : State) (n : Nat) (f : TrgLine → TrgLine) : (setTrgLine s n f).domains = s.domains := rfl
@[simp] theorem setTrgLine_can (s : State) (n : Nat) (f : TrgLine → TrgLine) : (setTrgLine s n f).can = s.can := rfl
@[simp] theorem setTrgLine_eth (s : State) (n : Nat) (f : TrgLine → TrgLine) : (setTrgLine s n f).eth = s.eth := rfl
@[simp] theorem setTrgLine_csx (s : State) (n : Nat) (f : TrgLine → TrgLine) : (setTrgLine s n f).csx = s.csx := rfl
@[simp] theorem setTrgLine_loops (s : State) (n : Nat) (f : TrgLine → TrgLine) : (setTrgLine s n f).loops = s.loops := rfl
@[simp] theorem setTrgLine_loopEng (s : State) (n : Nat) (f : TrgLine → TrgLine) : (setTrgLine s n f).loopEng = s.loopEng := rfl
@[simp] theorem setTrgLine_evq (s : State) (n : Nat) (f : TrgLine → TrgLine) : (setTrgLine s n f).evq = s.evq := rfl
@[simp] theorem setTrgLine_faultq (s : State) (n : Nat) (f : TrgLine → TrgLine) : (setTrgLine s n f).faultq = s.faultq := rfl
@[simp] theorem setTrgLine_outbox (s : State) (n : Nat) (f : TrgLine → TrgLine) : (setTrgLine s n f).outbox = s.outbox := rfl
@[simp] theorem setTrgLine_pocket (s : State) (n : Nat) (f : TrgLine → TrgLine) : (setTrgLine s n f).pocket = s.pocket := rfl
@[simp] theorem setTrgLine_rst (s : State) (n : Nat) (f : TrgLine → TrgLine) : (setTrgLine s n f).rst = s.rst := rfl
@[simp] theorem setTrgLine_motion (s : State) (n : Nat) (f : TrgLine → TrgLine) : (setTrgLine s n f).motion = s.motion := rfl
@[simp] theorem setTrgLine_io (s : State) (n : Nat) (f : TrgLine → TrgLine) : (setTrgLine s n f).io = s.io := rfl
@[simp] theorem setTrgLine_twin (s : State) (n : Nat) (f : TrgLine → TrgLine) : (setTrgLine s n f).twin = s.twin := rfl
@[simp] theorem setTrgLine_cv (s : State) (n : Nat) (f : TrgLine → TrgLine) : (setTrgLine s n f).cv = s.cv := rfl
@[simp] theorem setTrgLine_track (s : State) (n : Nat) (f : TrgLine → TrgLine) : (setTrgLine s n f).track = s.track := rfl
@[simp] theorem setTrgLine_streams (s : State) (n : Nat) (f : TrgLine → TrgLine) : (setTrgLine s n f).streams = s.streams := rfl
@[simp] theorem setTrgLine_acq (s : State) (n : Nat) (f : TrgLine → TrgLine) : (setTrgLine s n f).acq = s.acq := rfl
@[simp] theorem setTrgLine_freeCtr (s : State) (n : Nat) (f : TrgLine → TrgLine) : (setTrgLine s n f).freeCtr = s.freeCtr := rfl
@[simp] theorem setTrgLine_pending (s : State) (n : Nat) (f : TrgLine → TrgLine) : (setTrgLine s n f).pending = s.pending := rfl
@[simp] theorem setTrgLine_param (s : State) (n : Nat) (f : TrgLine → TrgLine) (pk pi : Nat) : param (setTrgLine s n f) pk pi = param s pk pi := rfl
@[simp] theorem setTrgLine_flag (s : State) (n : Nat) (f : TrgLine → TrgLine) (pk pi : Nat) : flag (setTrgLine s n f) pk pi = flag s pk pi := rfl

@[simp] theorem setAxis_t0 (s : State) (x : Nat) (f : AxSt → AxSt) : (setAxis s x f).t0 = s.t0 := rfl
@[simp] theorem setAxis_clock (s : State) (x : Nat) (f : AxSt → AxSt) : (setAxis s x f).clock = s.clock := rfl
@[simp] theorem setAxis_islands (s : State) (x : Nat) (f : AxSt → AxSt) : (setAxis s x f).islands = s.islands := rfl
@[simp] theorem setAxis_links (s : State) (x : Nat) (f : AxSt → AxSt) : (setAxis s x f).links = s.links := rfl
@[simp] theorem setAxis_nodes (s : State) (x : Nat) (f : AxSt → AxSt) : (setAxis s x f).nodes = s.nodes := rfl
@[simp] theorem setAxis_memErr (s : State) (x : Nat) (f : AxSt → AxSt) : (setAxis s x f).memErr = s.memErr := rfl
@[simp] theorem setAxis_img (s : State) (x : Nat) (f : AxSt → AxSt) : (setAxis s x f).img = s.img := rfl
@[simp] theorem setAxis_mode (s : State) (x : Nat) (f : AxSt → AxSt) : (setAxis s x f).mode = s.mode := rfl
@[simp] theorem setAxis_params (s : State) (x : Nat) (f : AxSt → AxSt) : (setAxis s x f).params = s.params := rfl
@[simp] theorem setAxis_deck (s : State) (x : Nat) (f : AxSt → AxSt) : (setAxis s x f).deck = s.deck := rfl
@[simp] theorem setAxis_fw (s : State) (x : Nat) (f : AxSt → AxSt) : (setAxis s x f).fw = s.fw := rfl
@[simp] theorem setAxis_sched (s : State) (x : Nat) (f : AxSt → AxSt) : (setAxis s x f).sched = s.sched := rfl
@[simp] theorem setAxis_recd (s : State) (x : Nat) (f : AxSt → AxSt) : (setAxis s x f).recd = s.recd := rfl
@[simp] theorem setAxis_thatch (s : State) (x : Nat) (f : AxSt → AxSt) : (setAxis s x f).thatch = s.thatch := rfl
@[simp] theorem setAxis_ridge (s : State) (x : Nat) (f : AxSt → AxSt) : (setAxis s x f).ridge = s.ridge := rfl
@[simp] theorem setAxis_host (s : State) (x : Nat) (f : AxSt → AxSt) : (setAxis s x f).host = s.host := rfl
@[simp] theorem setAxis_domains (s : State) (x : Nat) (f : AxSt → AxSt) : (setAxis s x f).domains = s.domains := rfl
@[simp] theorem setAxis_can (s : State) (x : Nat) (f : AxSt → AxSt) : (setAxis s x f).can = s.can := rfl
@[simp] theorem setAxis_eth (s : State) (x : Nat) (f : AxSt → AxSt) : (setAxis s x f).eth = s.eth := rfl
@[simp] theorem setAxis_csx (s : State) (x : Nat) (f : AxSt → AxSt) : (setAxis s x f).csx = s.csx := rfl
@[simp] theorem setAxis_loops (s : State) (x : Nat) (f : AxSt → AxSt) : (setAxis s x f).loops = s.loops := rfl
@[simp] theorem setAxis_loopEng (s : State) (x : Nat) (f : AxSt → AxSt) : (setAxis s x f).loopEng = s.loopEng := rfl
@[simp] theorem setAxis_evq (s : State) (x : Nat) (f : AxSt → AxSt) : (setAxis s x f).evq = s.evq := rfl
@[simp] theorem setAxis_faultq (s : State) (x : Nat) (f : AxSt → AxSt) : (setAxis s x f).faultq = s.faultq := rfl
@[simp] theorem setAxis_outbox (s : State) (x : Nat) (f : AxSt → AxSt) : (setAxis s x f).outbox = s.outbox := rfl
@[simp] theorem setAxis_pocket (s : State) (x : Nat) (f : AxSt → AxSt) : (setAxis s x f).pocket = s.pocket := rfl
@[simp] theorem setAxis_rst (s : State) (x : Nat) (f : AxSt → AxSt) : (setAxis s x f).rst = s.rst := rfl
@[simp] theorem setAxis_io (s : State) (x : Nat) (f : AxSt → AxSt) : (setAxis s x f).io = s.io := rfl
@[simp] theorem setAxis_twin (s : State) (x : Nat) (f : AxSt → AxSt) : (setAxis s x f).twin = s.twin := rfl
@[simp] theorem setAxis_cv (s : State) (x : Nat) (f : AxSt → AxSt) : (setAxis s x f).cv = s.cv := rfl
@[simp] theorem setAxis_track (s : State) (x : Nat) (f : AxSt → AxSt) : (setAxis s x f).track = s.track := rfl
@[simp] theorem setAxis_streams (s : State) (x : Nat) (f : AxSt → AxSt) : (setAxis s x f).streams = s.streams := rfl
@[simp] theorem setAxis_acq (s : State) (x : Nat) (f : AxSt → AxSt) : (setAxis s x f).acq = s.acq := rfl
@[simp] theorem setAxis_lines (s : State) (x : Nat) (f : AxSt → AxSt) : (setAxis s x f).lines = s.lines := rfl
@[simp] theorem setAxis_freeCtr (s : State) (x : Nat) (f : AxSt → AxSt) : (setAxis s x f).freeCtr = s.freeCtr := rfl
@[simp] theorem setAxis_pending (s : State) (x : Nat) (f : AxSt → AxSt) : (setAxis s x f).pending = s.pending := rfl
@[simp] theorem setAxis_param (s : State) (x : Nat) (f : AxSt → AxSt) (pk pi : Nat) : param (setAxis s x f) pk pi = param s pk pi := rfl
@[simp] theorem setAxis_flag (s : State) (x : Nat) (f : AxSt → AxSt) (pk pi : Nat) : flag (setAxis s x f) pk pi = flag s pk pi := rfl

@[simp] theorem setProf_t0 (s : State) (i : Nat) (f : PfSt → PfSt) : (setProf s i f).t0 = s.t0 := rfl
@[simp] theorem setProf_clock (s : State) (i : Nat) (f : PfSt → PfSt) : (setProf s i f).clock = s.clock := rfl
@[simp] theorem setProf_islands (s : State) (i : Nat) (f : PfSt → PfSt) : (setProf s i f).islands = s.islands := rfl
@[simp] theorem setProf_links (s : State) (i : Nat) (f : PfSt → PfSt) : (setProf s i f).links = s.links := rfl
@[simp] theorem setProf_nodes (s : State) (i : Nat) (f : PfSt → PfSt) : (setProf s i f).nodes = s.nodes := rfl
@[simp] theorem setProf_memErr (s : State) (i : Nat) (f : PfSt → PfSt) : (setProf s i f).memErr = s.memErr := rfl
@[simp] theorem setProf_img (s : State) (i : Nat) (f : PfSt → PfSt) : (setProf s i f).img = s.img := rfl
@[simp] theorem setProf_mode (s : State) (i : Nat) (f : PfSt → PfSt) : (setProf s i f).mode = s.mode := rfl
@[simp] theorem setProf_params (s : State) (i : Nat) (f : PfSt → PfSt) : (setProf s i f).params = s.params := rfl
@[simp] theorem setProf_deck (s : State) (i : Nat) (f : PfSt → PfSt) : (setProf s i f).deck = s.deck := rfl
@[simp] theorem setProf_fw (s : State) (i : Nat) (f : PfSt → PfSt) : (setProf s i f).fw = s.fw := rfl
@[simp] theorem setProf_sched (s : State) (i : Nat) (f : PfSt → PfSt) : (setProf s i f).sched = s.sched := rfl
@[simp] theorem setProf_recd (s : State) (i : Nat) (f : PfSt → PfSt) : (setProf s i f).recd = s.recd := rfl
@[simp] theorem setProf_thatch (s : State) (i : Nat) (f : PfSt → PfSt) : (setProf s i f).thatch = s.thatch := rfl
@[simp] theorem setProf_ridge (s : State) (i : Nat) (f : PfSt → PfSt) : (setProf s i f).ridge = s.ridge := rfl
@[simp] theorem setProf_host (s : State) (i : Nat) (f : PfSt → PfSt) : (setProf s i f).host = s.host := rfl
@[simp] theorem setProf_domains (s : State) (i : Nat) (f : PfSt → PfSt) : (setProf s i f).domains = s.domains := rfl
@[simp] theorem setProf_can (s : State) (i : Nat) (f : PfSt → PfSt) : (setProf s i f).can = s.can := rfl
@[simp] theorem setProf_eth (s : State) (i : Nat) (f : PfSt → PfSt) : (setProf s i f).eth = s.eth := rfl
@[simp] theorem setProf_csx (s : State) (i : Nat) (f : PfSt → PfSt) : (setProf s i f).csx = s.csx := rfl
@[simp] theorem setProf_loops (s : State) (i : Nat) (f : PfSt → PfSt) : (setProf s i f).loops = s.loops := rfl
@[simp] theorem setProf_loopEng (s : State) (i : Nat) (f : PfSt → PfSt) : (setProf s i f).loopEng = s.loopEng := rfl
@[simp] theorem setProf_evq (s : State) (i : Nat) (f : PfSt → PfSt) : (setProf s i f).evq = s.evq := rfl
@[simp] theorem setProf_faultq (s : State) (i : Nat) (f : PfSt → PfSt) : (setProf s i f).faultq = s.faultq := rfl
@[simp] theorem setProf_outbox (s : State) (i : Nat) (f : PfSt → PfSt) : (setProf s i f).outbox = s.outbox := rfl
@[simp] theorem setProf_pocket (s : State) (i : Nat) (f : PfSt → PfSt) : (setProf s i f).pocket = s.pocket := rfl
@[simp] theorem setProf_rst (s : State) (i : Nat) (f : PfSt → PfSt) : (setProf s i f).rst = s.rst := rfl
@[simp] theorem setProf_io (s : State) (i : Nat) (f : PfSt → PfSt) : (setProf s i f).io = s.io := rfl
@[simp] theorem setProf_twin (s : State) (i : Nat) (f : PfSt → PfSt) : (setProf s i f).twin = s.twin := rfl
@[simp] theorem setProf_cv (s : State) (i : Nat) (f : PfSt → PfSt) : (setProf s i f).cv = s.cv := rfl
@[simp] theorem setProf_track (s : State) (i : Nat) (f : PfSt → PfSt) : (setProf s i f).track = s.track := rfl
@[simp] theorem setProf_streams (s : State) (i : Nat) (f : PfSt → PfSt) : (setProf s i f).streams = s.streams := rfl
@[simp] theorem setProf_acq (s : State) (i : Nat) (f : PfSt → PfSt) : (setProf s i f).acq = s.acq := rfl
@[simp] theorem setProf_lines (s : State) (i : Nat) (f : PfSt → PfSt) : (setProf s i f).lines = s.lines := rfl
@[simp] theorem setProf_freeCtr (s : State) (i : Nat) (f : PfSt → PfSt) : (setProf s i f).freeCtr = s.freeCtr := rfl
@[simp] theorem setProf_pending (s : State) (i : Nat) (f : PfSt → PfSt) : (setProf s i f).pending = s.pending := rfl
@[simp] theorem setProf_param (s : State) (i : Nat) (f : PfSt → PfSt) (pk pi : Nat) : param (setProf s i f) pk pi = param s pk pi := rfl
@[simp] theorem setProf_flag (s : State) (i : Nat) (f : PfSt → PfSt) (pk pi : Nat) : flag (setProf s i f) pk pi = flag s pk pi := rfl

@[simp] theorem putField_t0 (s : State) (p : Nat) (v : Word) (c : BitVec 16) : (putField s p v c).t0 = s.t0 := rfl
@[simp] theorem putField_clock (s : State) (p : Nat) (v : Word) (c : BitVec 16) : (putField s p v c).clock = s.clock := rfl
@[simp] theorem putField_islands (s : State) (p : Nat) (v : Word) (c : BitVec 16) : (putField s p v c).islands = s.islands := rfl
@[simp] theorem putField_links (s : State) (p : Nat) (v : Word) (c : BitVec 16) : (putField s p v c).links = s.links := rfl
@[simp] theorem putField_nodes (s : State) (p : Nat) (v : Word) (c : BitVec 16) : (putField s p v c).nodes = s.nodes := rfl
@[simp] theorem putField_memErr (s : State) (p : Nat) (v : Word) (c : BitVec 16) : (putField s p v c).memErr = s.memErr := rfl
@[simp] theorem putField_mode (s : State) (p : Nat) (v : Word) (c : BitVec 16) : (putField s p v c).mode = s.mode := rfl
@[simp] theorem putField_params (s : State) (p : Nat) (v : Word) (c : BitVec 16) : (putField s p v c).params = s.params := rfl
@[simp] theorem putField_deck (s : State) (p : Nat) (v : Word) (c : BitVec 16) : (putField s p v c).deck = s.deck := rfl
@[simp] theorem putField_fw (s : State) (p : Nat) (v : Word) (c : BitVec 16) : (putField s p v c).fw = s.fw := rfl
@[simp] theorem putField_sched (s : State) (p : Nat) (v : Word) (c : BitVec 16) : (putField s p v c).sched = s.sched := rfl
@[simp] theorem putField_recd (s : State) (p : Nat) (v : Word) (c : BitVec 16) : (putField s p v c).recd = s.recd := rfl
@[simp] theorem putField_thatch (s : State) (p : Nat) (v : Word) (c : BitVec 16) : (putField s p v c).thatch = s.thatch := rfl
@[simp] theorem putField_ridge (s : State) (p : Nat) (v : Word) (c : BitVec 16) : (putField s p v c).ridge = s.ridge := rfl
@[simp] theorem putField_host (s : State) (p : Nat) (v : Word) (c : BitVec 16) : (putField s p v c).host = s.host := rfl
@[simp] theorem putField_domains (s : State) (p : Nat) (v : Word) (c : BitVec 16) : (putField s p v c).domains = s.domains := rfl
@[simp] theorem putField_can (s : State) (p : Nat) (v : Word) (c : BitVec 16) : (putField s p v c).can = s.can := rfl
@[simp] theorem putField_eth (s : State) (p : Nat) (v : Word) (c : BitVec 16) : (putField s p v c).eth = s.eth := rfl
@[simp] theorem putField_csx (s : State) (p : Nat) (v : Word) (c : BitVec 16) : (putField s p v c).csx = s.csx := rfl
@[simp] theorem putField_loops (s : State) (p : Nat) (v : Word) (c : BitVec 16) : (putField s p v c).loops = s.loops := rfl
@[simp] theorem putField_loopEng (s : State) (p : Nat) (v : Word) (c : BitVec 16) : (putField s p v c).loopEng = s.loopEng := rfl
@[simp] theorem putField_evq (s : State) (p : Nat) (v : Word) (c : BitVec 16) : (putField s p v c).evq = s.evq := rfl
@[simp] theorem putField_faultq (s : State) (p : Nat) (v : Word) (c : BitVec 16) : (putField s p v c).faultq = s.faultq := rfl
@[simp] theorem putField_outbox (s : State) (p : Nat) (v : Word) (c : BitVec 16) : (putField s p v c).outbox = s.outbox := rfl
@[simp] theorem putField_pocket (s : State) (p : Nat) (v : Word) (c : BitVec 16) : (putField s p v c).pocket = s.pocket := rfl
@[simp] theorem putField_rst (s : State) (p : Nat) (v : Word) (c : BitVec 16) : (putField s p v c).rst = s.rst := rfl
@[simp] theorem putField_motion (s : State) (p : Nat) (v : Word) (c : BitVec 16) : (putField s p v c).motion = s.motion := rfl
@[simp] theorem putField_io (s : State) (p : Nat) (v : Word) (c : BitVec 16) : (putField s p v c).io = s.io := rfl
@[simp] theorem putField_twin (s : State) (p : Nat) (v : Word) (c : BitVec 16) : (putField s p v c).twin = s.twin := rfl
@[simp] theorem putField_cv (s : State) (p : Nat) (v : Word) (c : BitVec 16) : (putField s p v c).cv = s.cv := rfl
@[simp] theorem putField_track (s : State) (p : Nat) (v : Word) (c : BitVec 16) : (putField s p v c).track = s.track := rfl
@[simp] theorem putField_streams (s : State) (p : Nat) (v : Word) (c : BitVec 16) : (putField s p v c).streams = s.streams := rfl
@[simp] theorem putField_acq (s : State) (p : Nat) (v : Word) (c : BitVec 16) : (putField s p v c).acq = s.acq := rfl
@[simp] theorem putField_lines (s : State) (p : Nat) (v : Word) (c : BitVec 16) : (putField s p v c).lines = s.lines := rfl
@[simp] theorem putField_freeCtr (s : State) (p : Nat) (v : Word) (c : BitVec 16) : (putField s p v c).freeCtr = s.freeCtr := rfl
@[simp] theorem putField_pending (s : State) (p : Nat) (v : Word) (c : BitVec 16) : (putField s p v c).pending = s.pending := rfl
@[simp] theorem putField_param (s : State) (p : Nat) (v : Word) (c : BitVec 16) (pk pi : Nat) : param (putField s p v c) pk pi = param s pk pi := rfl
@[simp] theorem putField_flag (s : State) (p : Nat) (v : Word) (c : BitVec 16) (pk pi : Nat) : flag (putField s p v c) pk pi = flag s pk pi := rfl

@[simp] theorem setChan_t0 (s : State) (c : Nat) (f : ChSt → ChSt) : (setChan s c f).t0 = s.t0 := rfl
@[simp] theorem setChan_clock (s : State) (c : Nat) (f : ChSt → ChSt) : (setChan s c f).clock = s.clock := rfl
@[simp] theorem setChan_islands (s : State) (c : Nat) (f : ChSt → ChSt) : (setChan s c f).islands = s.islands := rfl
@[simp] theorem setChan_links (s : State) (c : Nat) (f : ChSt → ChSt) : (setChan s c f).links = s.links := rfl
@[simp] theorem setChan_nodes (s : State) (c : Nat) (f : ChSt → ChSt) : (setChan s c f).nodes = s.nodes := rfl
@[simp] theorem setChan_memErr (s : State) (c : Nat) (f : ChSt → ChSt) : (setChan s c f).memErr = s.memErr := rfl
@[simp] theorem setChan_img (s : State) (c : Nat) (f : ChSt → ChSt) : (setChan s c f).img = s.img := rfl
@[simp] theorem setChan_mode (s : State) (c : Nat) (f : ChSt → ChSt) : (setChan s c f).mode = s.mode := rfl
@[simp] theorem setChan_params (s : State) (c : Nat) (f : ChSt → ChSt) : (setChan s c f).params = s.params := rfl
@[simp] theorem setChan_deck (s : State) (c : Nat) (f : ChSt → ChSt) : (setChan s c f).deck = s.deck := rfl
@[simp] theorem setChan_fw (s : State) (c : Nat) (f : ChSt → ChSt) : (setChan s c f).fw = s.fw := rfl
@[simp] theorem setChan_sched (s : State) (c : Nat) (f : ChSt → ChSt) : (setChan s c f).sched = s.sched := rfl
@[simp] theorem setChan_recd (s : State) (c : Nat) (f : ChSt → ChSt) : (setChan s c f).recd = s.recd := rfl
@[simp] theorem setChan_thatch (s : State) (c : Nat) (f : ChSt → ChSt) : (setChan s c f).thatch = s.thatch := rfl
@[simp] theorem setChan_ridge (s : State) (c : Nat) (f : ChSt → ChSt) : (setChan s c f).ridge = s.ridge := rfl
@[simp] theorem setChan_host (s : State) (c : Nat) (f : ChSt → ChSt) : (setChan s c f).host = s.host := rfl
@[simp] theorem setChan_domains (s : State) (c : Nat) (f : ChSt → ChSt) : (setChan s c f).domains = s.domains := rfl
@[simp] theorem setChan_can (s : State) (c : Nat) (f : ChSt → ChSt) : (setChan s c f).can = s.can := rfl
@[simp] theorem setChan_eth (s : State) (c : Nat) (f : ChSt → ChSt) : (setChan s c f).eth = s.eth := rfl
@[simp] theorem setChan_csx (s : State) (c : Nat) (f : ChSt → ChSt) : (setChan s c f).csx = s.csx := rfl
@[simp] theorem setChan_loops (s : State) (c : Nat) (f : ChSt → ChSt) : (setChan s c f).loops = s.loops := rfl
@[simp] theorem setChan_loopEng (s : State) (c : Nat) (f : ChSt → ChSt) : (setChan s c f).loopEng = s.loopEng := rfl
@[simp] theorem setChan_evq (s : State) (c : Nat) (f : ChSt → ChSt) : (setChan s c f).evq = s.evq := rfl
@[simp] theorem setChan_faultq (s : State) (c : Nat) (f : ChSt → ChSt) : (setChan s c f).faultq = s.faultq := rfl
@[simp] theorem setChan_outbox (s : State) (c : Nat) (f : ChSt → ChSt) : (setChan s c f).outbox = s.outbox := rfl
@[simp] theorem setChan_pocket (s : State) (c : Nat) (f : ChSt → ChSt) : (setChan s c f).pocket = s.pocket := rfl
@[simp] theorem setChan_rst (s : State) (c : Nat) (f : ChSt → ChSt) : (setChan s c f).rst = s.rst := rfl
@[simp] theorem setChan_motion (s : State) (c : Nat) (f : ChSt → ChSt) : (setChan s c f).motion = s.motion := rfl
@[simp] theorem setChan_twin (s : State) (c : Nat) (f : ChSt → ChSt) : (setChan s c f).twin = s.twin := rfl
@[simp] theorem setChan_cv (s : State) (c : Nat) (f : ChSt → ChSt) : (setChan s c f).cv = s.cv := rfl
@[simp] theorem setChan_track (s : State) (c : Nat) (f : ChSt → ChSt) : (setChan s c f).track = s.track := rfl
@[simp] theorem setChan_streams (s : State) (c : Nat) (f : ChSt → ChSt) : (setChan s c f).streams = s.streams := rfl
@[simp] theorem setChan_acq (s : State) (c : Nat) (f : ChSt → ChSt) : (setChan s c f).acq = s.acq := rfl
@[simp] theorem setChan_lines (s : State) (c : Nat) (f : ChSt → ChSt) : (setChan s c f).lines = s.lines := rfl
@[simp] theorem setChan_freeCtr (s : State) (c : Nat) (f : ChSt → ChSt) : (setChan s c f).freeCtr = s.freeCtr := rfl
@[simp] theorem setChan_pending (s : State) (c : Nat) (f : ChSt → ChSt) : (setChan s c f).pending = s.pending := rfl
@[simp] theorem setChan_param (s : State) (c : Nat) (f : ChSt → ChSt) (pk pi : Nat) : param (setChan s c f) pk pi = param s pk pi := rfl
@[simp] theorem setChan_flag (s : State) (c : Nat) (f : ChSt → ChSt) (pk pi : Nat) : flag (setChan s c f) pk pi = flag s pk pi := rfl

@[simp] theorem setGrp_t0 (s : State) (g : Nat) (f : GrpSt → GrpSt) : (setGrp s g f).t0 = s.t0 := rfl
@[simp] theorem setGrp_clock (s : State) (g : Nat) (f : GrpSt → GrpSt) : (setGrp s g f).clock = s.clock := rfl
@[simp] theorem setGrp_islands (s : State) (g : Nat) (f : GrpSt → GrpSt) : (setGrp s g f).islands = s.islands := rfl
@[simp] theorem setGrp_links (s : State) (g : Nat) (f : GrpSt → GrpSt) : (setGrp s g f).links = s.links := rfl
@[simp] theorem setGrp_nodes (s : State) (g : Nat) (f : GrpSt → GrpSt) : (setGrp s g f).nodes = s.nodes := rfl
@[simp] theorem setGrp_memErr (s : State) (g : Nat) (f : GrpSt → GrpSt) : (setGrp s g f).memErr = s.memErr := rfl
@[simp] theorem setGrp_img (s : State) (g : Nat) (f : GrpSt → GrpSt) : (setGrp s g f).img = s.img := rfl
@[simp] theorem setGrp_mode (s : State) (g : Nat) (f : GrpSt → GrpSt) : (setGrp s g f).mode = s.mode := rfl
@[simp] theorem setGrp_params (s : State) (g : Nat) (f : GrpSt → GrpSt) : (setGrp s g f).params = s.params := rfl
@[simp] theorem setGrp_deck (s : State) (g : Nat) (f : GrpSt → GrpSt) : (setGrp s g f).deck = s.deck := rfl
@[simp] theorem setGrp_fw (s : State) (g : Nat) (f : GrpSt → GrpSt) : (setGrp s g f).fw = s.fw := rfl
@[simp] theorem setGrp_sched (s : State) (g : Nat) (f : GrpSt → GrpSt) : (setGrp s g f).sched = s.sched := rfl
@[simp] theorem setGrp_recd (s : State) (g : Nat) (f : GrpSt → GrpSt) : (setGrp s g f).recd = s.recd := rfl
@[simp] theorem setGrp_thatch (s : State) (g : Nat) (f : GrpSt → GrpSt) : (setGrp s g f).thatch = s.thatch := rfl
@[simp] theorem setGrp_ridge (s : State) (g : Nat) (f : GrpSt → GrpSt) : (setGrp s g f).ridge = s.ridge := rfl
@[simp] theorem setGrp_host (s : State) (g : Nat) (f : GrpSt → GrpSt) : (setGrp s g f).host = s.host := rfl
@[simp] theorem setGrp_domains (s : State) (g : Nat) (f : GrpSt → GrpSt) : (setGrp s g f).domains = s.domains := rfl
@[simp] theorem setGrp_can (s : State) (g : Nat) (f : GrpSt → GrpSt) : (setGrp s g f).can = s.can := rfl
@[simp] theorem setGrp_eth (s : State) (g : Nat) (f : GrpSt → GrpSt) : (setGrp s g f).eth = s.eth := rfl
@[simp] theorem setGrp_csx (s : State) (g : Nat) (f : GrpSt → GrpSt) : (setGrp s g f).csx = s.csx := rfl
@[simp] theorem setGrp_loops (s : State) (g : Nat) (f : GrpSt → GrpSt) : (setGrp s g f).loops = s.loops := rfl
@[simp] theorem setGrp_loopEng (s : State) (g : Nat) (f : GrpSt → GrpSt) : (setGrp s g f).loopEng = s.loopEng := rfl
@[simp] theorem setGrp_evq (s : State) (g : Nat) (f : GrpSt → GrpSt) : (setGrp s g f).evq = s.evq := rfl
@[simp] theorem setGrp_faultq (s : State) (g : Nat) (f : GrpSt → GrpSt) : (setGrp s g f).faultq = s.faultq := rfl
@[simp] theorem setGrp_outbox (s : State) (g : Nat) (f : GrpSt → GrpSt) : (setGrp s g f).outbox = s.outbox := rfl
@[simp] theorem setGrp_pocket (s : State) (g : Nat) (f : GrpSt → GrpSt) : (setGrp s g f).pocket = s.pocket := rfl
@[simp] theorem setGrp_rst (s : State) (g : Nat) (f : GrpSt → GrpSt) : (setGrp s g f).rst = s.rst := rfl
@[simp] theorem setGrp_motion (s : State) (g : Nat) (f : GrpSt → GrpSt) : (setGrp s g f).motion = s.motion := rfl
@[simp] theorem setGrp_twin (s : State) (g : Nat) (f : GrpSt → GrpSt) : (setGrp s g f).twin = s.twin := rfl
@[simp] theorem setGrp_cv (s : State) (g : Nat) (f : GrpSt → GrpSt) : (setGrp s g f).cv = s.cv := rfl
@[simp] theorem setGrp_track (s : State) (g : Nat) (f : GrpSt → GrpSt) : (setGrp s g f).track = s.track := rfl
@[simp] theorem setGrp_streams (s : State) (g : Nat) (f : GrpSt → GrpSt) : (setGrp s g f).streams = s.streams := rfl
@[simp] theorem setGrp_acq (s : State) (g : Nat) (f : GrpSt → GrpSt) : (setGrp s g f).acq = s.acq := rfl
@[simp] theorem setGrp_lines (s : State) (g : Nat) (f : GrpSt → GrpSt) : (setGrp s g f).lines = s.lines := rfl
@[simp] theorem setGrp_freeCtr (s : State) (g : Nat) (f : GrpSt → GrpSt) : (setGrp s g f).freeCtr = s.freeCtr := rfl
@[simp] theorem setGrp_pending (s : State) (g : Nat) (f : GrpSt → GrpSt) : (setGrp s g f).pending = s.pending := rfl
@[simp] theorem setGrp_param (s : State) (g : Nat) (f : GrpSt → GrpSt) (pk pi : Nat) : param (setGrp s g f) pk pi = param s pk pi := rfl
@[simp] theorem setGrp_flag (s : State) (g : Nat) (f : GrpSt → GrpSt) (pk pi : Nat) : flag (setGrp s g f) pk pi = flag s pk pi := rfl

@[simp] theorem setAout_t0 (s : State) (a : Nat) (f : AoSt → AoSt) : (setAout s a f).t0 = s.t0 := rfl
@[simp] theorem setAout_clock (s : State) (a : Nat) (f : AoSt → AoSt) : (setAout s a f).clock = s.clock := rfl
@[simp] theorem setAout_islands (s : State) (a : Nat) (f : AoSt → AoSt) : (setAout s a f).islands = s.islands := rfl
@[simp] theorem setAout_links (s : State) (a : Nat) (f : AoSt → AoSt) : (setAout s a f).links = s.links := rfl
@[simp] theorem setAout_nodes (s : State) (a : Nat) (f : AoSt → AoSt) : (setAout s a f).nodes = s.nodes := rfl
@[simp] theorem setAout_memErr (s : State) (a : Nat) (f : AoSt → AoSt) : (setAout s a f).memErr = s.memErr := rfl
@[simp] theorem setAout_img (s : State) (a : Nat) (f : AoSt → AoSt) : (setAout s a f).img = s.img := rfl
@[simp] theorem setAout_mode (s : State) (a : Nat) (f : AoSt → AoSt) : (setAout s a f).mode = s.mode := rfl
@[simp] theorem setAout_params (s : State) (a : Nat) (f : AoSt → AoSt) : (setAout s a f).params = s.params := rfl
@[simp] theorem setAout_deck (s : State) (a : Nat) (f : AoSt → AoSt) : (setAout s a f).deck = s.deck := rfl
@[simp] theorem setAout_fw (s : State) (a : Nat) (f : AoSt → AoSt) : (setAout s a f).fw = s.fw := rfl
@[simp] theorem setAout_sched (s : State) (a : Nat) (f : AoSt → AoSt) : (setAout s a f).sched = s.sched := rfl
@[simp] theorem setAout_recd (s : State) (a : Nat) (f : AoSt → AoSt) : (setAout s a f).recd = s.recd := rfl
@[simp] theorem setAout_thatch (s : State) (a : Nat) (f : AoSt → AoSt) : (setAout s a f).thatch = s.thatch := rfl
@[simp] theorem setAout_ridge (s : State) (a : Nat) (f : AoSt → AoSt) : (setAout s a f).ridge = s.ridge := rfl
@[simp] theorem setAout_host (s : State) (a : Nat) (f : AoSt → AoSt) : (setAout s a f).host = s.host := rfl
@[simp] theorem setAout_domains (s : State) (a : Nat) (f : AoSt → AoSt) : (setAout s a f).domains = s.domains := rfl
@[simp] theorem setAout_can (s : State) (a : Nat) (f : AoSt → AoSt) : (setAout s a f).can = s.can := rfl
@[simp] theorem setAout_eth (s : State) (a : Nat) (f : AoSt → AoSt) : (setAout s a f).eth = s.eth := rfl
@[simp] theorem setAout_csx (s : State) (a : Nat) (f : AoSt → AoSt) : (setAout s a f).csx = s.csx := rfl
@[simp] theorem setAout_loops (s : State) (a : Nat) (f : AoSt → AoSt) : (setAout s a f).loops = s.loops := rfl
@[simp] theorem setAout_loopEng (s : State) (a : Nat) (f : AoSt → AoSt) : (setAout s a f).loopEng = s.loopEng := rfl
@[simp] theorem setAout_evq (s : State) (a : Nat) (f : AoSt → AoSt) : (setAout s a f).evq = s.evq := rfl
@[simp] theorem setAout_faultq (s : State) (a : Nat) (f : AoSt → AoSt) : (setAout s a f).faultq = s.faultq := rfl
@[simp] theorem setAout_outbox (s : State) (a : Nat) (f : AoSt → AoSt) : (setAout s a f).outbox = s.outbox := rfl
@[simp] theorem setAout_pocket (s : State) (a : Nat) (f : AoSt → AoSt) : (setAout s a f).pocket = s.pocket := rfl
@[simp] theorem setAout_rst (s : State) (a : Nat) (f : AoSt → AoSt) : (setAout s a f).rst = s.rst := rfl
@[simp] theorem setAout_motion (s : State) (a : Nat) (f : AoSt → AoSt) : (setAout s a f).motion = s.motion := rfl
@[simp] theorem setAout_twin (s : State) (a : Nat) (f : AoSt → AoSt) : (setAout s a f).twin = s.twin := rfl
@[simp] theorem setAout_cv (s : State) (a : Nat) (f : AoSt → AoSt) : (setAout s a f).cv = s.cv := rfl
@[simp] theorem setAout_track (s : State) (a : Nat) (f : AoSt → AoSt) : (setAout s a f).track = s.track := rfl
@[simp] theorem setAout_streams (s : State) (a : Nat) (f : AoSt → AoSt) : (setAout s a f).streams = s.streams := rfl
@[simp] theorem setAout_acq (s : State) (a : Nat) (f : AoSt → AoSt) : (setAout s a f).acq = s.acq := rfl
@[simp] theorem setAout_lines (s : State) (a : Nat) (f : AoSt → AoSt) : (setAout s a f).lines = s.lines := rfl
@[simp] theorem setAout_freeCtr (s : State) (a : Nat) (f : AoSt → AoSt) : (setAout s a f).freeCtr = s.freeCtr := rfl
@[simp] theorem setAout_pending (s : State) (a : Nat) (f : AoSt → AoSt) : (setAout s a f).pending = s.pending := rfl
@[simp] theorem setAout_param (s : State) (a : Nat) (f : AoSt → AoSt) (pk pi : Nat) : param (setAout s a f) pk pi = param s pk pi := rfl
@[simp] theorem setAout_flag (s : State) (a : Nat) (f : AoSt → AoSt) (pk pi : Nat) : flag (setAout s a f) pk pi = flag s pk pi := rfl

@[simp] theorem setAin_t0 (s : State) (a : Nat) (f : AiSt → AiSt) : (setAin s a f).t0 = s.t0 := rfl
@[simp] theorem setAin_clock (s : State) (a : Nat) (f : AiSt → AiSt) : (setAin s a f).clock = s.clock := rfl
@[simp] theorem setAin_islands (s : State) (a : Nat) (f : AiSt → AiSt) : (setAin s a f).islands = s.islands := rfl
@[simp] theorem setAin_links (s : State) (a : Nat) (f : AiSt → AiSt) : (setAin s a f).links = s.links := rfl
@[simp] theorem setAin_nodes (s : State) (a : Nat) (f : AiSt → AiSt) : (setAin s a f).nodes = s.nodes := rfl
@[simp] theorem setAin_memErr (s : State) (a : Nat) (f : AiSt → AiSt) : (setAin s a f).memErr = s.memErr := rfl
@[simp] theorem setAin_img (s : State) (a : Nat) (f : AiSt → AiSt) : (setAin s a f).img = s.img := rfl
@[simp] theorem setAin_mode (s : State) (a : Nat) (f : AiSt → AiSt) : (setAin s a f).mode = s.mode := rfl
@[simp] theorem setAin_params (s : State) (a : Nat) (f : AiSt → AiSt) : (setAin s a f).params = s.params := rfl
@[simp] theorem setAin_deck (s : State) (a : Nat) (f : AiSt → AiSt) : (setAin s a f).deck = s.deck := rfl
@[simp] theorem setAin_fw (s : State) (a : Nat) (f : AiSt → AiSt) : (setAin s a f).fw = s.fw := rfl
@[simp] theorem setAin_sched (s : State) (a : Nat) (f : AiSt → AiSt) : (setAin s a f).sched = s.sched := rfl
@[simp] theorem setAin_recd (s : State) (a : Nat) (f : AiSt → AiSt) : (setAin s a f).recd = s.recd := rfl
@[simp] theorem setAin_thatch (s : State) (a : Nat) (f : AiSt → AiSt) : (setAin s a f).thatch = s.thatch := rfl
@[simp] theorem setAin_ridge (s : State) (a : Nat) (f : AiSt → AiSt) : (setAin s a f).ridge = s.ridge := rfl
@[simp] theorem setAin_host (s : State) (a : Nat) (f : AiSt → AiSt) : (setAin s a f).host = s.host := rfl
@[simp] theorem setAin_domains (s : State) (a : Nat) (f : AiSt → AiSt) : (setAin s a f).domains = s.domains := rfl
@[simp] theorem setAin_can (s : State) (a : Nat) (f : AiSt → AiSt) : (setAin s a f).can = s.can := rfl
@[simp] theorem setAin_eth (s : State) (a : Nat) (f : AiSt → AiSt) : (setAin s a f).eth = s.eth := rfl
@[simp] theorem setAin_csx (s : State) (a : Nat) (f : AiSt → AiSt) : (setAin s a f).csx = s.csx := rfl
@[simp] theorem setAin_loops (s : State) (a : Nat) (f : AiSt → AiSt) : (setAin s a f).loops = s.loops := rfl
@[simp] theorem setAin_loopEng (s : State) (a : Nat) (f : AiSt → AiSt) : (setAin s a f).loopEng = s.loopEng := rfl
@[simp] theorem setAin_evq (s : State) (a : Nat) (f : AiSt → AiSt) : (setAin s a f).evq = s.evq := rfl
@[simp] theorem setAin_faultq (s : State) (a : Nat) (f : AiSt → AiSt) : (setAin s a f).faultq = s.faultq := rfl
@[simp] theorem setAin_outbox (s : State) (a : Nat) (f : AiSt → AiSt) : (setAin s a f).outbox = s.outbox := rfl
@[simp] theorem setAin_pocket (s : State) (a : Nat) (f : AiSt → AiSt) : (setAin s a f).pocket = s.pocket := rfl
@[simp] theorem setAin_rst (s : State) (a : Nat) (f : AiSt → AiSt) : (setAin s a f).rst = s.rst := rfl
@[simp] theorem setAin_motion (s : State) (a : Nat) (f : AiSt → AiSt) : (setAin s a f).motion = s.motion := rfl
@[simp] theorem setAin_twin (s : State) (a : Nat) (f : AiSt → AiSt) : (setAin s a f).twin = s.twin := rfl
@[simp] theorem setAin_cv (s : State) (a : Nat) (f : AiSt → AiSt) : (setAin s a f).cv = s.cv := rfl
@[simp] theorem setAin_track (s : State) (a : Nat) (f : AiSt → AiSt) : (setAin s a f).track = s.track := rfl
@[simp] theorem setAin_streams (s : State) (a : Nat) (f : AiSt → AiSt) : (setAin s a f).streams = s.streams := rfl
@[simp] theorem setAin_acq (s : State) (a : Nat) (f : AiSt → AiSt) : (setAin s a f).acq = s.acq := rfl
@[simp] theorem setAin_lines (s : State) (a : Nat) (f : AiSt → AiSt) : (setAin s a f).lines = s.lines := rfl
@[simp] theorem setAin_freeCtr (s : State) (a : Nat) (f : AiSt → AiSt) : (setAin s a f).freeCtr = s.freeCtr := rfl
@[simp] theorem setAin_pending (s : State) (a : Nat) (f : AiSt → AiSt) : (setAin s a f).pending = s.pending := rfl
@[simp] theorem setAin_param (s : State) (a : Nat) (f : AiSt → AiSt) (pk pi : Nat) : param (setAin s a f) pk pi = param s pk pi := rfl
@[simp] theorem setAin_flag (s : State) (a : Nat) (f : AiSt → AiSt) (pk pi : Nat) : flag (setAin s a f) pk pi = flag s pk pi := rfl

@[simp] theorem setEnc_t0 (s : State) (e : Nat) (f : EncSt → EncSt) : (setEnc s e f).t0 = s.t0 := rfl
@[simp] theorem setEnc_clock (s : State) (e : Nat) (f : EncSt → EncSt) : (setEnc s e f).clock = s.clock := rfl
@[simp] theorem setEnc_islands (s : State) (e : Nat) (f : EncSt → EncSt) : (setEnc s e f).islands = s.islands := rfl
@[simp] theorem setEnc_links (s : State) (e : Nat) (f : EncSt → EncSt) : (setEnc s e f).links = s.links := rfl
@[simp] theorem setEnc_nodes (s : State) (e : Nat) (f : EncSt → EncSt) : (setEnc s e f).nodes = s.nodes := rfl
@[simp] theorem setEnc_memErr (s : State) (e : Nat) (f : EncSt → EncSt) : (setEnc s e f).memErr = s.memErr := rfl
@[simp] theorem setEnc_img (s : State) (e : Nat) (f : EncSt → EncSt) : (setEnc s e f).img = s.img := rfl
@[simp] theorem setEnc_mode (s : State) (e : Nat) (f : EncSt → EncSt) : (setEnc s e f).mode = s.mode := rfl
@[simp] theorem setEnc_params (s : State) (e : Nat) (f : EncSt → EncSt) : (setEnc s e f).params = s.params := rfl
@[simp] theorem setEnc_deck (s : State) (e : Nat) (f : EncSt → EncSt) : (setEnc s e f).deck = s.deck := rfl
@[simp] theorem setEnc_fw (s : State) (e : Nat) (f : EncSt → EncSt) : (setEnc s e f).fw = s.fw := rfl
@[simp] theorem setEnc_sched (s : State) (e : Nat) (f : EncSt → EncSt) : (setEnc s e f).sched = s.sched := rfl
@[simp] theorem setEnc_recd (s : State) (e : Nat) (f : EncSt → EncSt) : (setEnc s e f).recd = s.recd := rfl
@[simp] theorem setEnc_thatch (s : State) (e : Nat) (f : EncSt → EncSt) : (setEnc s e f).thatch = s.thatch := rfl
@[simp] theorem setEnc_ridge (s : State) (e : Nat) (f : EncSt → EncSt) : (setEnc s e f).ridge = s.ridge := rfl
@[simp] theorem setEnc_host (s : State) (e : Nat) (f : EncSt → EncSt) : (setEnc s e f).host = s.host := rfl
@[simp] theorem setEnc_domains (s : State) (e : Nat) (f : EncSt → EncSt) : (setEnc s e f).domains = s.domains := rfl
@[simp] theorem setEnc_can (s : State) (e : Nat) (f : EncSt → EncSt) : (setEnc s e f).can = s.can := rfl
@[simp] theorem setEnc_eth (s : State) (e : Nat) (f : EncSt → EncSt) : (setEnc s e f).eth = s.eth := rfl
@[simp] theorem setEnc_csx (s : State) (e : Nat) (f : EncSt → EncSt) : (setEnc s e f).csx = s.csx := rfl
@[simp] theorem setEnc_loops (s : State) (e : Nat) (f : EncSt → EncSt) : (setEnc s e f).loops = s.loops := rfl
@[simp] theorem setEnc_loopEng (s : State) (e : Nat) (f : EncSt → EncSt) : (setEnc s e f).loopEng = s.loopEng := rfl
@[simp] theorem setEnc_evq (s : State) (e : Nat) (f : EncSt → EncSt) : (setEnc s e f).evq = s.evq := rfl
@[simp] theorem setEnc_faultq (s : State) (e : Nat) (f : EncSt → EncSt) : (setEnc s e f).faultq = s.faultq := rfl
@[simp] theorem setEnc_outbox (s : State) (e : Nat) (f : EncSt → EncSt) : (setEnc s e f).outbox = s.outbox := rfl
@[simp] theorem setEnc_pocket (s : State) (e : Nat) (f : EncSt → EncSt) : (setEnc s e f).pocket = s.pocket := rfl
@[simp] theorem setEnc_rst (s : State) (e : Nat) (f : EncSt → EncSt) : (setEnc s e f).rst = s.rst := rfl
@[simp] theorem setEnc_motion (s : State) (e : Nat) (f : EncSt → EncSt) : (setEnc s e f).motion = s.motion := rfl
@[simp] theorem setEnc_twin (s : State) (e : Nat) (f : EncSt → EncSt) : (setEnc s e f).twin = s.twin := rfl
@[simp] theorem setEnc_cv (s : State) (e : Nat) (f : EncSt → EncSt) : (setEnc s e f).cv = s.cv := rfl
@[simp] theorem setEnc_track (s : State) (e : Nat) (f : EncSt → EncSt) : (setEnc s e f).track = s.track := rfl
@[simp] theorem setEnc_streams (s : State) (e : Nat) (f : EncSt → EncSt) : (setEnc s e f).streams = s.streams := rfl
@[simp] theorem setEnc_acq (s : State) (e : Nat) (f : EncSt → EncSt) : (setEnc s e f).acq = s.acq := rfl
@[simp] theorem setEnc_lines (s : State) (e : Nat) (f : EncSt → EncSt) : (setEnc s e f).lines = s.lines := rfl
@[simp] theorem setEnc_freeCtr (s : State) (e : Nat) (f : EncSt → EncSt) : (setEnc s e f).freeCtr = s.freeCtr := rfl
@[simp] theorem setEnc_pending (s : State) (e : Nat) (f : EncSt → EncSt) : (setEnc s e f).pending = s.pending := rfl
@[simp] theorem setEnc_param (s : State) (e : Nat) (f : EncSt → EncSt) (pk pi : Nat) : param (setEnc s e f) pk pi = param s pk pi := rfl
@[simp] theorem setEnc_flag (s : State) (e : Nat) (f : EncSt → EncSt) (pk pi : Nat) : flag (setEnc s e f) pk pi = flag s pk pi := rfl

@[simp] theorem setCv_t0 (s : State) (u : Nat) (f : CvUnit → CvUnit) : (setCv s u f).t0 = s.t0 := rfl
@[simp] theorem setCv_clock (s : State) (u : Nat) (f : CvUnit → CvUnit) : (setCv s u f).clock = s.clock := rfl
@[simp] theorem setCv_islands (s : State) (u : Nat) (f : CvUnit → CvUnit) : (setCv s u f).islands = s.islands := rfl
@[simp] theorem setCv_links (s : State) (u : Nat) (f : CvUnit → CvUnit) : (setCv s u f).links = s.links := rfl
@[simp] theorem setCv_nodes (s : State) (u : Nat) (f : CvUnit → CvUnit) : (setCv s u f).nodes = s.nodes := rfl
@[simp] theorem setCv_memErr (s : State) (u : Nat) (f : CvUnit → CvUnit) : (setCv s u f).memErr = s.memErr := rfl
@[simp] theorem setCv_img (s : State) (u : Nat) (f : CvUnit → CvUnit) : (setCv s u f).img = s.img := rfl
@[simp] theorem setCv_mode (s : State) (u : Nat) (f : CvUnit → CvUnit) : (setCv s u f).mode = s.mode := rfl
@[simp] theorem setCv_params (s : State) (u : Nat) (f : CvUnit → CvUnit) : (setCv s u f).params = s.params := rfl
@[simp] theorem setCv_deck (s : State) (u : Nat) (f : CvUnit → CvUnit) : (setCv s u f).deck = s.deck := rfl
@[simp] theorem setCv_fw (s : State) (u : Nat) (f : CvUnit → CvUnit) : (setCv s u f).fw = s.fw := rfl
@[simp] theorem setCv_sched (s : State) (u : Nat) (f : CvUnit → CvUnit) : (setCv s u f).sched = s.sched := rfl
@[simp] theorem setCv_recd (s : State) (u : Nat) (f : CvUnit → CvUnit) : (setCv s u f).recd = s.recd := rfl
@[simp] theorem setCv_thatch (s : State) (u : Nat) (f : CvUnit → CvUnit) : (setCv s u f).thatch = s.thatch := rfl
@[simp] theorem setCv_ridge (s : State) (u : Nat) (f : CvUnit → CvUnit) : (setCv s u f).ridge = s.ridge := rfl
@[simp] theorem setCv_host (s : State) (u : Nat) (f : CvUnit → CvUnit) : (setCv s u f).host = s.host := rfl
@[simp] theorem setCv_domains (s : State) (u : Nat) (f : CvUnit → CvUnit) : (setCv s u f).domains = s.domains := rfl
@[simp] theorem setCv_can (s : State) (u : Nat) (f : CvUnit → CvUnit) : (setCv s u f).can = s.can := rfl
@[simp] theorem setCv_eth (s : State) (u : Nat) (f : CvUnit → CvUnit) : (setCv s u f).eth = s.eth := rfl
@[simp] theorem setCv_csx (s : State) (u : Nat) (f : CvUnit → CvUnit) : (setCv s u f).csx = s.csx := rfl
@[simp] theorem setCv_loops (s : State) (u : Nat) (f : CvUnit → CvUnit) : (setCv s u f).loops = s.loops := rfl
@[simp] theorem setCv_loopEng (s : State) (u : Nat) (f : CvUnit → CvUnit) : (setCv s u f).loopEng = s.loopEng := rfl
@[simp] theorem setCv_evq (s : State) (u : Nat) (f : CvUnit → CvUnit) : (setCv s u f).evq = s.evq := rfl
@[simp] theorem setCv_faultq (s : State) (u : Nat) (f : CvUnit → CvUnit) : (setCv s u f).faultq = s.faultq := rfl
@[simp] theorem setCv_outbox (s : State) (u : Nat) (f : CvUnit → CvUnit) : (setCv s u f).outbox = s.outbox := rfl
@[simp] theorem setCv_pocket (s : State) (u : Nat) (f : CvUnit → CvUnit) : (setCv s u f).pocket = s.pocket := rfl
@[simp] theorem setCv_rst (s : State) (u : Nat) (f : CvUnit → CvUnit) : (setCv s u f).rst = s.rst := rfl
@[simp] theorem setCv_motion (s : State) (u : Nat) (f : CvUnit → CvUnit) : (setCv s u f).motion = s.motion := rfl
@[simp] theorem setCv_io (s : State) (u : Nat) (f : CvUnit → CvUnit) : (setCv s u f).io = s.io := rfl
@[simp] theorem setCv_twin (s : State) (u : Nat) (f : CvUnit → CvUnit) : (setCv s u f).twin = s.twin := rfl
@[simp] theorem setCv_track (s : State) (u : Nat) (f : CvUnit → CvUnit) : (setCv s u f).track = s.track := rfl
@[simp] theorem setCv_streams (s : State) (u : Nat) (f : CvUnit → CvUnit) : (setCv s u f).streams = s.streams := rfl
@[simp] theorem setCv_acq (s : State) (u : Nat) (f : CvUnit → CvUnit) : (setCv s u f).acq = s.acq := rfl
@[simp] theorem setCv_lines (s : State) (u : Nat) (f : CvUnit → CvUnit) : (setCv s u f).lines = s.lines := rfl
@[simp] theorem setCv_freeCtr (s : State) (u : Nat) (f : CvUnit → CvUnit) : (setCv s u f).freeCtr = s.freeCtr := rfl
@[simp] theorem setCv_pending (s : State) (u : Nat) (f : CvUnit → CvUnit) : (setCv s u f).pending = s.pending := rfl
@[simp] theorem setCv_param (s : State) (u : Nat) (f : CvUnit → CvUnit) (pk pi : Nat) : param (setCv s u f) pk pi = param s pk pi := rfl
@[simp] theorem setCv_flag (s : State) (u : Nat) (f : CvUnit → CvUnit) (pk pi : Nat) : flag (setCv s u f) pk pi = flag s pk pi := rfl

@[simp] theorem setDeck_t0 (s : State) (f : DeckSt → DeckSt) : (setDeck s f).t0 = s.t0 := rfl
@[simp] theorem setDeck_clock (s : State) (f : DeckSt → DeckSt) : (setDeck s f).clock = s.clock := rfl
@[simp] theorem setDeck_islands (s : State) (f : DeckSt → DeckSt) : (setDeck s f).islands = s.islands := rfl
@[simp] theorem setDeck_links (s : State) (f : DeckSt → DeckSt) : (setDeck s f).links = s.links := rfl
@[simp] theorem setDeck_nodes (s : State) (f : DeckSt → DeckSt) : (setDeck s f).nodes = s.nodes := rfl
@[simp] theorem setDeck_memErr (s : State) (f : DeckSt → DeckSt) : (setDeck s f).memErr = s.memErr := rfl
@[simp] theorem setDeck_img (s : State) (f : DeckSt → DeckSt) : (setDeck s f).img = s.img := rfl
@[simp] theorem setDeck_mode (s : State) (f : DeckSt → DeckSt) : (setDeck s f).mode = s.mode := rfl
@[simp] theorem setDeck_params (s : State) (f : DeckSt → DeckSt) : (setDeck s f).params = s.params := rfl
@[simp] theorem setDeck_fw (s : State) (f : DeckSt → DeckSt) : (setDeck s f).fw = s.fw := rfl
@[simp] theorem setDeck_sched (s : State) (f : DeckSt → DeckSt) : (setDeck s f).sched = s.sched := rfl
@[simp] theorem setDeck_recd (s : State) (f : DeckSt → DeckSt) : (setDeck s f).recd = s.recd := rfl
@[simp] theorem setDeck_thatch (s : State) (f : DeckSt → DeckSt) : (setDeck s f).thatch = s.thatch := rfl
@[simp] theorem setDeck_ridge (s : State) (f : DeckSt → DeckSt) : (setDeck s f).ridge = s.ridge := rfl
@[simp] theorem setDeck_host (s : State) (f : DeckSt → DeckSt) : (setDeck s f).host = s.host := rfl
@[simp] theorem setDeck_domains (s : State) (f : DeckSt → DeckSt) : (setDeck s f).domains = s.domains := rfl
@[simp] theorem setDeck_can (s : State) (f : DeckSt → DeckSt) : (setDeck s f).can = s.can := rfl
@[simp] theorem setDeck_eth (s : State) (f : DeckSt → DeckSt) : (setDeck s f).eth = s.eth := rfl
@[simp] theorem setDeck_csx (s : State) (f : DeckSt → DeckSt) : (setDeck s f).csx = s.csx := rfl
@[simp] theorem setDeck_loops (s : State) (f : DeckSt → DeckSt) : (setDeck s f).loops = s.loops := rfl
@[simp] theorem setDeck_loopEng (s : State) (f : DeckSt → DeckSt) : (setDeck s f).loopEng = s.loopEng := rfl
@[simp] theorem setDeck_evq (s : State) (f : DeckSt → DeckSt) : (setDeck s f).evq = s.evq := rfl
@[simp] theorem setDeck_faultq (s : State) (f : DeckSt → DeckSt) : (setDeck s f).faultq = s.faultq := rfl
@[simp] theorem setDeck_outbox (s : State) (f : DeckSt → DeckSt) : (setDeck s f).outbox = s.outbox := rfl
@[simp] theorem setDeck_pocket (s : State) (f : DeckSt → DeckSt) : (setDeck s f).pocket = s.pocket := rfl
@[simp] theorem setDeck_rst (s : State) (f : DeckSt → DeckSt) : (setDeck s f).rst = s.rst := rfl
@[simp] theorem setDeck_motion (s : State) (f : DeckSt → DeckSt) : (setDeck s f).motion = s.motion := rfl
@[simp] theorem setDeck_io (s : State) (f : DeckSt → DeckSt) : (setDeck s f).io = s.io := rfl
@[simp] theorem setDeck_twin (s : State) (f : DeckSt → DeckSt) : (setDeck s f).twin = s.twin := rfl
@[simp] theorem setDeck_cv (s : State) (f : DeckSt → DeckSt) : (setDeck s f).cv = s.cv := rfl
@[simp] theorem setDeck_track (s : State) (f : DeckSt → DeckSt) : (setDeck s f).track = s.track := rfl
@[simp] theorem setDeck_streams (s : State) (f : DeckSt → DeckSt) : (setDeck s f).streams = s.streams := rfl
@[simp] theorem setDeck_acq (s : State) (f : DeckSt → DeckSt) : (setDeck s f).acq = s.acq := rfl
@[simp] theorem setDeck_lines (s : State) (f : DeckSt → DeckSt) : (setDeck s f).lines = s.lines := rfl
@[simp] theorem setDeck_freeCtr (s : State) (f : DeckSt → DeckSt) : (setDeck s f).freeCtr = s.freeCtr := rfl
@[simp] theorem setDeck_pending (s : State) (f : DeckSt → DeckSt) : (setDeck s f).pending = s.pending := rfl
@[simp] theorem setDeck_param (s : State) (f : DeckSt → DeckSt) (pk pi : Nat) : param (setDeck s f) pk pi = param s pk pi := rfl
@[simp] theorem setDeck_flag (s : State) (f : DeckSt → DeckSt) (pk pi : Nat) : flag (setDeck s f) pk pi = flag s pk pi := rfl

@[simp] theorem setHost_t0 (s : State) (f : HostSt → HostSt) : (setHost s f).t0 = s.t0 := rfl
@[simp] theorem setHost_clock (s : State) (f : HostSt → HostSt) : (setHost s f).clock = s.clock := rfl
@[simp] theorem setHost_islands (s : State) (f : HostSt → HostSt) : (setHost s f).islands = s.islands := rfl
@[simp] theorem setHost_links (s : State) (f : HostSt → HostSt) : (setHost s f).links = s.links := rfl
@[simp] theorem setHost_nodes (s : State) (f : HostSt → HostSt) : (setHost s f).nodes = s.nodes := rfl
@[simp] theorem setHost_memErr (s : State) (f : HostSt → HostSt) : (setHost s f).memErr = s.memErr := rfl
@[simp] theorem setHost_img (s : State) (f : HostSt → HostSt) : (setHost s f).img = s.img := rfl
@[simp] theorem setHost_mode (s : State) (f : HostSt → HostSt) : (setHost s f).mode = s.mode := rfl
@[simp] theorem setHost_params (s : State) (f : HostSt → HostSt) : (setHost s f).params = s.params := rfl
@[simp] theorem setHost_deck (s : State) (f : HostSt → HostSt) : (setHost s f).deck = s.deck := rfl
@[simp] theorem setHost_fw (s : State) (f : HostSt → HostSt) : (setHost s f).fw = s.fw := rfl
@[simp] theorem setHost_sched (s : State) (f : HostSt → HostSt) : (setHost s f).sched = s.sched := rfl
@[simp] theorem setHost_recd (s : State) (f : HostSt → HostSt) : (setHost s f).recd = s.recd := rfl
@[simp] theorem setHost_thatch (s : State) (f : HostSt → HostSt) : (setHost s f).thatch = s.thatch := rfl
@[simp] theorem setHost_ridge (s : State) (f : HostSt → HostSt) : (setHost s f).ridge = s.ridge := rfl
@[simp] theorem setHost_domains (s : State) (f : HostSt → HostSt) : (setHost s f).domains = s.domains := rfl
@[simp] theorem setHost_can (s : State) (f : HostSt → HostSt) : (setHost s f).can = s.can := rfl
@[simp] theorem setHost_eth (s : State) (f : HostSt → HostSt) : (setHost s f).eth = s.eth := rfl
@[simp] theorem setHost_csx (s : State) (f : HostSt → HostSt) : (setHost s f).csx = s.csx := rfl
@[simp] theorem setHost_loops (s : State) (f : HostSt → HostSt) : (setHost s f).loops = s.loops := rfl
@[simp] theorem setHost_loopEng (s : State) (f : HostSt → HostSt) : (setHost s f).loopEng = s.loopEng := rfl
@[simp] theorem setHost_evq (s : State) (f : HostSt → HostSt) : (setHost s f).evq = s.evq := rfl
@[simp] theorem setHost_faultq (s : State) (f : HostSt → HostSt) : (setHost s f).faultq = s.faultq := rfl
@[simp] theorem setHost_outbox (s : State) (f : HostSt → HostSt) : (setHost s f).outbox = s.outbox := rfl
@[simp] theorem setHost_pocket (s : State) (f : HostSt → HostSt) : (setHost s f).pocket = s.pocket := rfl
@[simp] theorem setHost_rst (s : State) (f : HostSt → HostSt) : (setHost s f).rst = s.rst := rfl
@[simp] theorem setHost_motion (s : State) (f : HostSt → HostSt) : (setHost s f).motion = s.motion := rfl
@[simp] theorem setHost_io (s : State) (f : HostSt → HostSt) : (setHost s f).io = s.io := rfl
@[simp] theorem setHost_twin (s : State) (f : HostSt → HostSt) : (setHost s f).twin = s.twin := rfl
@[simp] theorem setHost_cv (s : State) (f : HostSt → HostSt) : (setHost s f).cv = s.cv := rfl
@[simp] theorem setHost_track (s : State) (f : HostSt → HostSt) : (setHost s f).track = s.track := rfl
@[simp] theorem setHost_streams (s : State) (f : HostSt → HostSt) : (setHost s f).streams = s.streams := rfl
@[simp] theorem setHost_acq (s : State) (f : HostSt → HostSt) : (setHost s f).acq = s.acq := rfl
@[simp] theorem setHost_lines (s : State) (f : HostSt → HostSt) : (setHost s f).lines = s.lines := rfl
@[simp] theorem setHost_freeCtr (s : State) (f : HostSt → HostSt) : (setHost s f).freeCtr = s.freeCtr := rfl
@[simp] theorem setHost_pending (s : State) (f : HostSt → HostSt) : (setHost s f).pending = s.pending := rfl
@[simp] theorem setHost_param (s : State) (f : HostSt → HostSt) (pk pi : Nat) : param (setHost s f) pk pi = param s pk pi := rfl
@[simp] theorem setHost_flag (s : State) (f : HostSt → HostSt) (pk pi : Nat) : flag (setHost s f) pk pi = flag s pk pi := rfl

@[simp] theorem setLink_t0 (s : State) (k : Nat) (f : LinkSt → LinkSt) : (setLink s k f).t0 = s.t0 := rfl
@[simp] theorem setLink_clock (s : State) (k : Nat) (f : LinkSt → LinkSt) : (setLink s k f).clock = s.clock := rfl
@[simp] theorem setLink_islands (s : State) (k : Nat) (f : LinkSt → LinkSt) : (setLink s k f).islands = s.islands := rfl
@[simp] theorem setLink_nodes (s : State) (k : Nat) (f : LinkSt → LinkSt) : (setLink s k f).nodes = s.nodes := rfl
@[simp] theorem setLink_memErr (s : State) (k : Nat) (f : LinkSt → LinkSt) : (setLink s k f).memErr = s.memErr := rfl
@[simp] theorem setLink_img (s : State) (k : Nat) (f : LinkSt → LinkSt) : (setLink s k f).img = s.img := rfl
@[simp] theorem setLink_mode (s : State) (k : Nat) (f : LinkSt → LinkSt) : (setLink s k f).mode = s.mode := rfl
@[simp] theorem setLink_params (s : State) (k : Nat) (f : LinkSt → LinkSt) : (setLink s k f).params = s.params := rfl
@[simp] theorem setLink_deck (s : State) (k : Nat) (f : LinkSt → LinkSt) : (setLink s k f).deck = s.deck := rfl
@[simp] theorem setLink_fw (s : State) (k : Nat) (f : LinkSt → LinkSt) : (setLink s k f).fw = s.fw := rfl
@[simp] theorem setLink_sched (s : State) (k : Nat) (f : LinkSt → LinkSt) : (setLink s k f).sched = s.sched := rfl
@[simp] theorem setLink_recd (s : State) (k : Nat) (f : LinkSt → LinkSt) : (setLink s k f).recd = s.recd := rfl
@[simp] theorem setLink_thatch (s : State) (k : Nat) (f : LinkSt → LinkSt) : (setLink s k f).thatch = s.thatch := rfl
@[simp] theorem setLink_ridge (s : State) (k : Nat) (f : LinkSt → LinkSt) : (setLink s k f).ridge = s.ridge := rfl
@[simp] theorem setLink_host (s : State) (k : Nat) (f : LinkSt → LinkSt) : (setLink s k f).host = s.host := rfl
@[simp] theorem setLink_domains (s : State) (k : Nat) (f : LinkSt → LinkSt) : (setLink s k f).domains = s.domains := rfl
@[simp] theorem setLink_can (s : State) (k : Nat) (f : LinkSt → LinkSt) : (setLink s k f).can = s.can := rfl
@[simp] theorem setLink_eth (s : State) (k : Nat) (f : LinkSt → LinkSt) : (setLink s k f).eth = s.eth := rfl
@[simp] theorem setLink_csx (s : State) (k : Nat) (f : LinkSt → LinkSt) : (setLink s k f).csx = s.csx := rfl
@[simp] theorem setLink_loops (s : State) (k : Nat) (f : LinkSt → LinkSt) : (setLink s k f).loops = s.loops := rfl
@[simp] theorem setLink_loopEng (s : State) (k : Nat) (f : LinkSt → LinkSt) : (setLink s k f).loopEng = s.loopEng := rfl
@[simp] theorem setLink_evq (s : State) (k : Nat) (f : LinkSt → LinkSt) : (setLink s k f).evq = s.evq := rfl
@[simp] theorem setLink_faultq (s : State) (k : Nat) (f : LinkSt → LinkSt) : (setLink s k f).faultq = s.faultq := rfl
@[simp] theorem setLink_outbox (s : State) (k : Nat) (f : LinkSt → LinkSt) : (setLink s k f).outbox = s.outbox := rfl
@[simp] theorem setLink_pocket (s : State) (k : Nat) (f : LinkSt → LinkSt) : (setLink s k f).pocket = s.pocket := rfl
@[simp] theorem setLink_rst (s : State) (k : Nat) (f : LinkSt → LinkSt) : (setLink s k f).rst = s.rst := rfl
@[simp] theorem setLink_motion (s : State) (k : Nat) (f : LinkSt → LinkSt) : (setLink s k f).motion = s.motion := rfl
@[simp] theorem setLink_io (s : State) (k : Nat) (f : LinkSt → LinkSt) : (setLink s k f).io = s.io := rfl
@[simp] theorem setLink_twin (s : State) (k : Nat) (f : LinkSt → LinkSt) : (setLink s k f).twin = s.twin := rfl
@[simp] theorem setLink_cv (s : State) (k : Nat) (f : LinkSt → LinkSt) : (setLink s k f).cv = s.cv := rfl
@[simp] theorem setLink_track (s : State) (k : Nat) (f : LinkSt → LinkSt) : (setLink s k f).track = s.track := rfl
@[simp] theorem setLink_streams (s : State) (k : Nat) (f : LinkSt → LinkSt) : (setLink s k f).streams = s.streams := rfl
@[simp] theorem setLink_acq (s : State) (k : Nat) (f : LinkSt → LinkSt) : (setLink s k f).acq = s.acq := rfl
@[simp] theorem setLink_lines (s : State) (k : Nat) (f : LinkSt → LinkSt) : (setLink s k f).lines = s.lines := rfl
@[simp] theorem setLink_freeCtr (s : State) (k : Nat) (f : LinkSt → LinkSt) : (setLink s k f).freeCtr = s.freeCtr := rfl
@[simp] theorem setLink_pending (s : State) (k : Nat) (f : LinkSt → LinkSt) : (setLink s k f).pending = s.pending := rfl
@[simp] theorem setLink_param (s : State) (k : Nat) (f : LinkSt → LinkSt) (pk pi : Nat) : param (setLink s k f) pk pi = param s pk pi := rfl
@[simp] theorem setLink_flag (s : State) (k : Nat) (f : LinkSt → LinkSt) (pk pi : Nat) : flag (setLink s k f) pk pi = flag s pk pi := rfl

@[simp] theorem setLe_t0 (s : State) (le : Nat) (f : LoopEng → LoopEng) : (setLe s le f).t0 = s.t0 := rfl
@[simp] theorem setLe_clock (s : State) (le : Nat) (f : LoopEng → LoopEng) : (setLe s le f).clock = s.clock := rfl
@[simp] theorem setLe_islands (s : State) (le : Nat) (f : LoopEng → LoopEng) : (setLe s le f).islands = s.islands := rfl
@[simp] theorem setLe_links (s : State) (le : Nat) (f : LoopEng → LoopEng) : (setLe s le f).links = s.links := rfl
@[simp] theorem setLe_nodes (s : State) (le : Nat) (f : LoopEng → LoopEng) : (setLe s le f).nodes = s.nodes := rfl
@[simp] theorem setLe_memErr (s : State) (le : Nat) (f : LoopEng → LoopEng) : (setLe s le f).memErr = s.memErr := rfl
@[simp] theorem setLe_img (s : State) (le : Nat) (f : LoopEng → LoopEng) : (setLe s le f).img = s.img := rfl
@[simp] theorem setLe_mode (s : State) (le : Nat) (f : LoopEng → LoopEng) : (setLe s le f).mode = s.mode := rfl
@[simp] theorem setLe_params (s : State) (le : Nat) (f : LoopEng → LoopEng) : (setLe s le f).params = s.params := rfl
@[simp] theorem setLe_deck (s : State) (le : Nat) (f : LoopEng → LoopEng) : (setLe s le f).deck = s.deck := rfl
@[simp] theorem setLe_fw (s : State) (le : Nat) (f : LoopEng → LoopEng) : (setLe s le f).fw = s.fw := rfl
@[simp] theorem setLe_sched (s : State) (le : Nat) (f : LoopEng → LoopEng) : (setLe s le f).sched = s.sched := rfl
@[simp] theorem setLe_recd (s : State) (le : Nat) (f : LoopEng → LoopEng) : (setLe s le f).recd = s.recd := rfl
@[simp] theorem setLe_thatch (s : State) (le : Nat) (f : LoopEng → LoopEng) : (setLe s le f).thatch = s.thatch := rfl
@[simp] theorem setLe_ridge (s : State) (le : Nat) (f : LoopEng → LoopEng) : (setLe s le f).ridge = s.ridge := rfl
@[simp] theorem setLe_host (s : State) (le : Nat) (f : LoopEng → LoopEng) : (setLe s le f).host = s.host := rfl
@[simp] theorem setLe_domains (s : State) (le : Nat) (f : LoopEng → LoopEng) : (setLe s le f).domains = s.domains := rfl
@[simp] theorem setLe_can (s : State) (le : Nat) (f : LoopEng → LoopEng) : (setLe s le f).can = s.can := rfl
@[simp] theorem setLe_eth (s : State) (le : Nat) (f : LoopEng → LoopEng) : (setLe s le f).eth = s.eth := rfl
@[simp] theorem setLe_csx (s : State) (le : Nat) (f : LoopEng → LoopEng) : (setLe s le f).csx = s.csx := rfl
@[simp] theorem setLe_loops (s : State) (le : Nat) (f : LoopEng → LoopEng) : (setLe s le f).loops = s.loops := rfl
@[simp] theorem setLe_evq (s : State) (le : Nat) (f : LoopEng → LoopEng) : (setLe s le f).evq = s.evq := rfl
@[simp] theorem setLe_faultq (s : State) (le : Nat) (f : LoopEng → LoopEng) : (setLe s le f).faultq = s.faultq := rfl
@[simp] theorem setLe_outbox (s : State) (le : Nat) (f : LoopEng → LoopEng) : (setLe s le f).outbox = s.outbox := rfl
@[simp] theorem setLe_pocket (s : State) (le : Nat) (f : LoopEng → LoopEng) : (setLe s le f).pocket = s.pocket := rfl
@[simp] theorem setLe_rst (s : State) (le : Nat) (f : LoopEng → LoopEng) : (setLe s le f).rst = s.rst := rfl
@[simp] theorem setLe_motion (s : State) (le : Nat) (f : LoopEng → LoopEng) : (setLe s le f).motion = s.motion := rfl
@[simp] theorem setLe_io (s : State) (le : Nat) (f : LoopEng → LoopEng) : (setLe s le f).io = s.io := rfl
@[simp] theorem setLe_twin (s : State) (le : Nat) (f : LoopEng → LoopEng) : (setLe s le f).twin = s.twin := rfl
@[simp] theorem setLe_cv (s : State) (le : Nat) (f : LoopEng → LoopEng) : (setLe s le f).cv = s.cv := rfl
@[simp] theorem setLe_track (s : State) (le : Nat) (f : LoopEng → LoopEng) : (setLe s le f).track = s.track := rfl
@[simp] theorem setLe_streams (s : State) (le : Nat) (f : LoopEng → LoopEng) : (setLe s le f).streams = s.streams := rfl
@[simp] theorem setLe_acq (s : State) (le : Nat) (f : LoopEng → LoopEng) : (setLe s le f).acq = s.acq := rfl
@[simp] theorem setLe_lines (s : State) (le : Nat) (f : LoopEng → LoopEng) : (setLe s le f).lines = s.lines := rfl
@[simp] theorem setLe_freeCtr (s : State) (le : Nat) (f : LoopEng → LoopEng) : (setLe s le f).freeCtr = s.freeCtr := rfl
@[simp] theorem setLe_pending (s : State) (le : Nat) (f : LoopEng → LoopEng) : (setLe s le f).pending = s.pending := rfl
@[simp] theorem setLe_param (s : State) (le : Nat) (f : LoopEng → LoopEng) (pk pi : Nat) : param (setLe s le f) pk pi = param s pk pi := rfl
@[simp] theorem setLe_flag (s : State) (le : Nat) (f : LoopEng → LoopEng) (pk pi : Nat) : flag (setLe s le f) pk pi = flag s pk pi := rfl

@[simp] theorem setLoop_t0 (s : State) (i : Nat) (f : LoopSt → LoopSt) : (setLoop s i f).t0 = s.t0 := rfl
@[simp] theorem setLoop_clock (s : State) (i : Nat) (f : LoopSt → LoopSt) : (setLoop s i f).clock = s.clock := rfl
@[simp] theorem setLoop_islands (s : State) (i : Nat) (f : LoopSt → LoopSt) : (setLoop s i f).islands = s.islands := rfl
@[simp] theorem setLoop_links (s : State) (i : Nat) (f : LoopSt → LoopSt) : (setLoop s i f).links = s.links := rfl
@[simp] theorem setLoop_nodes (s : State) (i : Nat) (f : LoopSt → LoopSt) : (setLoop s i f).nodes = s.nodes := rfl
@[simp] theorem setLoop_memErr (s : State) (i : Nat) (f : LoopSt → LoopSt) : (setLoop s i f).memErr = s.memErr := rfl
@[simp] theorem setLoop_img (s : State) (i : Nat) (f : LoopSt → LoopSt) : (setLoop s i f).img = s.img := rfl
@[simp] theorem setLoop_mode (s : State) (i : Nat) (f : LoopSt → LoopSt) : (setLoop s i f).mode = s.mode := rfl
@[simp] theorem setLoop_params (s : State) (i : Nat) (f : LoopSt → LoopSt) : (setLoop s i f).params = s.params := rfl
@[simp] theorem setLoop_deck (s : State) (i : Nat) (f : LoopSt → LoopSt) : (setLoop s i f).deck = s.deck := rfl
@[simp] theorem setLoop_fw (s : State) (i : Nat) (f : LoopSt → LoopSt) : (setLoop s i f).fw = s.fw := rfl
@[simp] theorem setLoop_sched (s : State) (i : Nat) (f : LoopSt → LoopSt) : (setLoop s i f).sched = s.sched := rfl
@[simp] theorem setLoop_recd (s : State) (i : Nat) (f : LoopSt → LoopSt) : (setLoop s i f).recd = s.recd := rfl
@[simp] theorem setLoop_thatch (s : State) (i : Nat) (f : LoopSt → LoopSt) : (setLoop s i f).thatch = s.thatch := rfl
@[simp] theorem setLoop_ridge (s : State) (i : Nat) (f : LoopSt → LoopSt) : (setLoop s i f).ridge = s.ridge := rfl
@[simp] theorem setLoop_host (s : State) (i : Nat) (f : LoopSt → LoopSt) : (setLoop s i f).host = s.host := rfl
@[simp] theorem setLoop_domains (s : State) (i : Nat) (f : LoopSt → LoopSt) : (setLoop s i f).domains = s.domains := rfl
@[simp] theorem setLoop_can (s : State) (i : Nat) (f : LoopSt → LoopSt) : (setLoop s i f).can = s.can := rfl
@[simp] theorem setLoop_eth (s : State) (i : Nat) (f : LoopSt → LoopSt) : (setLoop s i f).eth = s.eth := rfl
@[simp] theorem setLoop_csx (s : State) (i : Nat) (f : LoopSt → LoopSt) : (setLoop s i f).csx = s.csx := rfl
@[simp] theorem setLoop_loopEng (s : State) (i : Nat) (f : LoopSt → LoopSt) : (setLoop s i f).loopEng = s.loopEng := rfl
@[simp] theorem setLoop_evq (s : State) (i : Nat) (f : LoopSt → LoopSt) : (setLoop s i f).evq = s.evq := rfl
@[simp] theorem setLoop_faultq (s : State) (i : Nat) (f : LoopSt → LoopSt) : (setLoop s i f).faultq = s.faultq := rfl
@[simp] theorem setLoop_outbox (s : State) (i : Nat) (f : LoopSt → LoopSt) : (setLoop s i f).outbox = s.outbox := rfl
@[simp] theorem setLoop_pocket (s : State) (i : Nat) (f : LoopSt → LoopSt) : (setLoop s i f).pocket = s.pocket := rfl
@[simp] theorem setLoop_rst (s : State) (i : Nat) (f : LoopSt → LoopSt) : (setLoop s i f).rst = s.rst := rfl
@[simp] theorem setLoop_motion (s : State) (i : Nat) (f : LoopSt → LoopSt) : (setLoop s i f).motion = s.motion := rfl
@[simp] theorem setLoop_io (s : State) (i : Nat) (f : LoopSt → LoopSt) : (setLoop s i f).io = s.io := rfl
@[simp] theorem setLoop_twin (s : State) (i : Nat) (f : LoopSt → LoopSt) : (setLoop s i f).twin = s.twin := rfl
@[simp] theorem setLoop_cv (s : State) (i : Nat) (f : LoopSt → LoopSt) : (setLoop s i f).cv = s.cv := rfl
@[simp] theorem setLoop_track (s : State) (i : Nat) (f : LoopSt → LoopSt) : (setLoop s i f).track = s.track := rfl
@[simp] theorem setLoop_streams (s : State) (i : Nat) (f : LoopSt → LoopSt) : (setLoop s i f).streams = s.streams := rfl
@[simp] theorem setLoop_acq (s : State) (i : Nat) (f : LoopSt → LoopSt) : (setLoop s i f).acq = s.acq := rfl
@[simp] theorem setLoop_lines (s : State) (i : Nat) (f : LoopSt → LoopSt) : (setLoop s i f).lines = s.lines := rfl
@[simp] theorem setLoop_freeCtr (s : State) (i : Nat) (f : LoopSt → LoopSt) : (setLoop s i f).freeCtr = s.freeCtr := rfl
@[simp] theorem setLoop_pending (s : State) (i : Nat) (f : LoopSt → LoopSt) : (setLoop s i f).pending = s.pending := rfl
@[simp] theorem setLoop_param (s : State) (i : Nat) (f : LoopSt → LoopSt) (pk pi : Nat) : param (setLoop s i f) pk pi = param s pk pi := rfl
@[simp] theorem setLoop_flag (s : State) (i : Nat) (f : LoopSt → LoopSt) (pk pi : Nat) : flag (setLoop s i f) pk pi = flag s pk pi := rfl

@[simp] theorem setRidge_t0 (s : State) (f : RidgeSt → RidgeSt) : (setRidge s f).t0 = s.t0 := rfl
@[simp] theorem setRidge_clock (s : State) (f : RidgeSt → RidgeSt) : (setRidge s f).clock = s.clock := rfl
@[simp] theorem setRidge_islands (s : State) (f : RidgeSt → RidgeSt) : (setRidge s f).islands = s.islands := rfl
@[simp] theorem setRidge_links (s : State) (f : RidgeSt → RidgeSt) : (setRidge s f).links = s.links := rfl
@[simp] theorem setRidge_nodes (s : State) (f : RidgeSt → RidgeSt) : (setRidge s f).nodes = s.nodes := rfl
@[simp] theorem setRidge_memErr (s : State) (f : RidgeSt → RidgeSt) : (setRidge s f).memErr = s.memErr := rfl
@[simp] theorem setRidge_img (s : State) (f : RidgeSt → RidgeSt) : (setRidge s f).img = s.img := rfl
@[simp] theorem setRidge_mode (s : State) (f : RidgeSt → RidgeSt) : (setRidge s f).mode = s.mode := rfl
@[simp] theorem setRidge_params (s : State) (f : RidgeSt → RidgeSt) : (setRidge s f).params = s.params := rfl
@[simp] theorem setRidge_deck (s : State) (f : RidgeSt → RidgeSt) : (setRidge s f).deck = s.deck := rfl
@[simp] theorem setRidge_fw (s : State) (f : RidgeSt → RidgeSt) : (setRidge s f).fw = s.fw := rfl
@[simp] theorem setRidge_sched (s : State) (f : RidgeSt → RidgeSt) : (setRidge s f).sched = s.sched := rfl
@[simp] theorem setRidge_recd (s : State) (f : RidgeSt → RidgeSt) : (setRidge s f).recd = s.recd := rfl
@[simp] theorem setRidge_thatch (s : State) (f : RidgeSt → RidgeSt) : (setRidge s f).thatch = s.thatch := rfl
@[simp] theorem setRidge_host (s : State) (f : RidgeSt → RidgeSt) : (setRidge s f).host = s.host := rfl
@[simp] theorem setRidge_domains (s : State) (f : RidgeSt → RidgeSt) : (setRidge s f).domains = s.domains := rfl
@[simp] theorem setRidge_can (s : State) (f : RidgeSt → RidgeSt) : (setRidge s f).can = s.can := rfl
@[simp] theorem setRidge_eth (s : State) (f : RidgeSt → RidgeSt) : (setRidge s f).eth = s.eth := rfl
@[simp] theorem setRidge_csx (s : State) (f : RidgeSt → RidgeSt) : (setRidge s f).csx = s.csx := rfl
@[simp] theorem setRidge_loops (s : State) (f : RidgeSt → RidgeSt) : (setRidge s f).loops = s.loops := rfl
@[simp] theorem setRidge_loopEng (s : State) (f : RidgeSt → RidgeSt) : (setRidge s f).loopEng = s.loopEng := rfl
@[simp] theorem setRidge_evq (s : State) (f : RidgeSt → RidgeSt) : (setRidge s f).evq = s.evq := rfl
@[simp] theorem setRidge_faultq (s : State) (f : RidgeSt → RidgeSt) : (setRidge s f).faultq = s.faultq := rfl
@[simp] theorem setRidge_outbox (s : State) (f : RidgeSt → RidgeSt) : (setRidge s f).outbox = s.outbox := rfl
@[simp] theorem setRidge_pocket (s : State) (f : RidgeSt → RidgeSt) : (setRidge s f).pocket = s.pocket := rfl
@[simp] theorem setRidge_rst (s : State) (f : RidgeSt → RidgeSt) : (setRidge s f).rst = s.rst := rfl
@[simp] theorem setRidge_motion (s : State) (f : RidgeSt → RidgeSt) : (setRidge s f).motion = s.motion := rfl
@[simp] theorem setRidge_io (s : State) (f : RidgeSt → RidgeSt) : (setRidge s f).io = s.io := rfl
@[simp] theorem setRidge_twin (s : State) (f : RidgeSt → RidgeSt) : (setRidge s f).twin = s.twin := rfl
@[simp] theorem setRidge_cv (s : State) (f : RidgeSt → RidgeSt) : (setRidge s f).cv = s.cv := rfl
@[simp] theorem setRidge_track (s : State) (f : RidgeSt → RidgeSt) : (setRidge s f).track = s.track := rfl
@[simp] theorem setRidge_streams (s : State) (f : RidgeSt → RidgeSt) : (setRidge s f).streams = s.streams := rfl
@[simp] theorem setRidge_acq (s : State) (f : RidgeSt → RidgeSt) : (setRidge s f).acq = s.acq := rfl
@[simp] theorem setRidge_lines (s : State) (f : RidgeSt → RidgeSt) : (setRidge s f).lines = s.lines := rfl
@[simp] theorem setRidge_freeCtr (s : State) (f : RidgeSt → RidgeSt) : (setRidge s f).freeCtr = s.freeCtr := rfl
@[simp] theorem setRidge_pending (s : State) (f : RidgeSt → RidgeSt) : (setRidge s f).pending = s.pending := rfl
@[simp] theorem setRidge_param (s : State) (f : RidgeSt → RidgeSt) (pk pi : Nat) : param (setRidge s f) pk pi = param s pk pi := rfl
@[simp] theorem setRidge_flag (s : State) (f : RidgeSt → RidgeSt) (pk pi : Nat) : flag (setRidge s f) pk pi = flag s pk pi := rfl

@[simp] theorem setStation_t0 (s : State) (k : Nat) (f : Station → Station) : (setStation s k f).t0 = s.t0 := rfl
@[simp] theorem setStation_clock (s : State) (k : Nat) (f : Station → Station) : (setStation s k f).clock = s.clock := rfl
@[simp] theorem setStation_islands (s : State) (k : Nat) (f : Station → Station) : (setStation s k f).islands = s.islands := rfl
@[simp] theorem setStation_links (s : State) (k : Nat) (f : Station → Station) : (setStation s k f).links = s.links := rfl
@[simp] theorem setStation_nodes (s : State) (k : Nat) (f : Station → Station) : (setStation s k f).nodes = s.nodes := rfl
@[simp] theorem setStation_memErr (s : State) (k : Nat) (f : Station → Station) : (setStation s k f).memErr = s.memErr := rfl
@[simp] theorem setStation_mode (s : State) (k : Nat) (f : Station → Station) : (setStation s k f).mode = s.mode := rfl
@[simp] theorem setStation_params (s : State) (k : Nat) (f : Station → Station) : (setStation s k f).params = s.params := rfl
@[simp] theorem setStation_deck (s : State) (k : Nat) (f : Station → Station) : (setStation s k f).deck = s.deck := rfl
@[simp] theorem setStation_fw (s : State) (k : Nat) (f : Station → Station) : (setStation s k f).fw = s.fw := rfl
@[simp] theorem setStation_sched (s : State) (k : Nat) (f : Station → Station) : (setStation s k f).sched = s.sched := rfl
@[simp] theorem setStation_recd (s : State) (k : Nat) (f : Station → Station) : (setStation s k f).recd = s.recd := rfl
@[simp] theorem setStation_thatch (s : State) (k : Nat) (f : Station → Station) : (setStation s k f).thatch = s.thatch := rfl
@[simp] theorem setStation_ridge (s : State) (k : Nat) (f : Station → Station) : (setStation s k f).ridge = s.ridge := rfl
@[simp] theorem setStation_host (s : State) (k : Nat) (f : Station → Station) : (setStation s k f).host = s.host := rfl
@[simp] theorem setStation_domains (s : State) (k : Nat) (f : Station → Station) : (setStation s k f).domains = s.domains := rfl
@[simp] theorem setStation_can (s : State) (k : Nat) (f : Station → Station) : (setStation s k f).can = s.can := rfl
@[simp] theorem setStation_eth (s : State) (k : Nat) (f : Station → Station) : (setStation s k f).eth = s.eth := rfl
@[simp] theorem setStation_csx (s : State) (k : Nat) (f : Station → Station) : (setStation s k f).csx = s.csx := rfl
@[simp] theorem setStation_loops (s : State) (k : Nat) (f : Station → Station) : (setStation s k f).loops = s.loops := rfl
@[simp] theorem setStation_loopEng (s : State) (k : Nat) (f : Station → Station) : (setStation s k f).loopEng = s.loopEng := rfl
@[simp] theorem setStation_evq (s : State) (k : Nat) (f : Station → Station) : (setStation s k f).evq = s.evq := rfl
@[simp] theorem setStation_faultq (s : State) (k : Nat) (f : Station → Station) : (setStation s k f).faultq = s.faultq := rfl
@[simp] theorem setStation_outbox (s : State) (k : Nat) (f : Station → Station) : (setStation s k f).outbox = s.outbox := rfl
@[simp] theorem setStation_pocket (s : State) (k : Nat) (f : Station → Station) : (setStation s k f).pocket = s.pocket := rfl
@[simp] theorem setStation_rst (s : State) (k : Nat) (f : Station → Station) : (setStation s k f).rst = s.rst := rfl
@[simp] theorem setStation_motion (s : State) (k : Nat) (f : Station → Station) : (setStation s k f).motion = s.motion := rfl
@[simp] theorem setStation_io (s : State) (k : Nat) (f : Station → Station) : (setStation s k f).io = s.io := rfl
@[simp] theorem setStation_twin (s : State) (k : Nat) (f : Station → Station) : (setStation s k f).twin = s.twin := rfl
@[simp] theorem setStation_cv (s : State) (k : Nat) (f : Station → Station) : (setStation s k f).cv = s.cv := rfl
@[simp] theorem setStation_track (s : State) (k : Nat) (f : Station → Station) : (setStation s k f).track = s.track := rfl
@[simp] theorem setStation_streams (s : State) (k : Nat) (f : Station → Station) : (setStation s k f).streams = s.streams := rfl
@[simp] theorem setStation_acq (s : State) (k : Nat) (f : Station → Station) : (setStation s k f).acq = s.acq := rfl
@[simp] theorem setStation_lines (s : State) (k : Nat) (f : Station → Station) : (setStation s k f).lines = s.lines := rfl
@[simp] theorem setStation_freeCtr (s : State) (k : Nat) (f : Station → Station) : (setStation s k f).freeCtr = s.freeCtr := rfl
@[simp] theorem setStation_pending (s : State) (k : Nat) (f : Station → Station) : (setStation s k f).pending = s.pending := rfl
@[simp] theorem setStation_param (s : State) (k : Nat) (f : Station → Station) (pk pi : Nat) : param (setStation s k f) pk pi = param s pk pi := rfl
@[simp] theorem setStation_flag (s : State) (k : Nat) (f : Station → Station) (pk pi : Nat) : flag (setStation s k f) pk pi = flag s pk pi := rfl

@[simp] theorem setCan_t0 (s : State) (c : Nat) (f : CanSt → CanSt) : (setCan s c f).t0 = s.t0 := rfl
@[simp] theorem setCan_clock (s : State) (c : Nat) (f : CanSt → CanSt) : (setCan s c f).clock = s.clock := rfl
@[simp] theorem setCan_islands (s : State) (c : Nat) (f : CanSt → CanSt) : (setCan s c f).islands = s.islands := rfl
@[simp] theorem setCan_links (s : State) (c : Nat) (f : CanSt → CanSt) : (setCan s c f).links = s.links := rfl
@[simp] theorem setCan_nodes (s : State) (c : Nat) (f : CanSt → CanSt) : (setCan s c f).nodes = s.nodes := rfl
@[simp] theorem setCan_memErr (s : State) (c : Nat) (f : CanSt → CanSt) : (setCan s c f).memErr = s.memErr := rfl
@[simp] theorem setCan_img (s : State) (c : Nat) (f : CanSt → CanSt) : (setCan s c f).img = s.img := rfl
@[simp] theorem setCan_mode (s : State) (c : Nat) (f : CanSt → CanSt) : (setCan s c f).mode = s.mode := rfl
@[simp] theorem setCan_params (s : State) (c : Nat) (f : CanSt → CanSt) : (setCan s c f).params = s.params := rfl
@[simp] theorem setCan_deck (s : State) (c : Nat) (f : CanSt → CanSt) : (setCan s c f).deck = s.deck := rfl
@[simp] theorem setCan_fw (s : State) (c : Nat) (f : CanSt → CanSt) : (setCan s c f).fw = s.fw := rfl
@[simp] theorem setCan_sched (s : State) (c : Nat) (f : CanSt → CanSt) : (setCan s c f).sched = s.sched := rfl
@[simp] theorem setCan_recd (s : State) (c : Nat) (f : CanSt → CanSt) : (setCan s c f).recd = s.recd := rfl
@[simp] theorem setCan_thatch (s : State) (c : Nat) (f : CanSt → CanSt) : (setCan s c f).thatch = s.thatch := rfl
@[simp] theorem setCan_ridge (s : State) (c : Nat) (f : CanSt → CanSt) : (setCan s c f).ridge = s.ridge := rfl
@[simp] theorem setCan_host (s : State) (c : Nat) (f : CanSt → CanSt) : (setCan s c f).host = s.host := rfl
@[simp] theorem setCan_domains (s : State) (c : Nat) (f : CanSt → CanSt) : (setCan s c f).domains = s.domains := rfl
@[simp] theorem setCan_eth (s : State) (c : Nat) (f : CanSt → CanSt) : (setCan s c f).eth = s.eth := rfl
@[simp] theorem setCan_csx (s : State) (c : Nat) (f : CanSt → CanSt) : (setCan s c f).csx = s.csx := rfl
@[simp] theorem setCan_loops (s : State) (c : Nat) (f : CanSt → CanSt) : (setCan s c f).loops = s.loops := rfl
@[simp] theorem setCan_loopEng (s : State) (c : Nat) (f : CanSt → CanSt) : (setCan s c f).loopEng = s.loopEng := rfl
@[simp] theorem setCan_evq (s : State) (c : Nat) (f : CanSt → CanSt) : (setCan s c f).evq = s.evq := rfl
@[simp] theorem setCan_faultq (s : State) (c : Nat) (f : CanSt → CanSt) : (setCan s c f).faultq = s.faultq := rfl
@[simp] theorem setCan_outbox (s : State) (c : Nat) (f : CanSt → CanSt) : (setCan s c f).outbox = s.outbox := rfl
@[simp] theorem setCan_pocket (s : State) (c : Nat) (f : CanSt → CanSt) : (setCan s c f).pocket = s.pocket := rfl
@[simp] theorem setCan_rst (s : State) (c : Nat) (f : CanSt → CanSt) : (setCan s c f).rst = s.rst := rfl
@[simp] theorem setCan_motion (s : State) (c : Nat) (f : CanSt → CanSt) : (setCan s c f).motion = s.motion := rfl
@[simp] theorem setCan_io (s : State) (c : Nat) (f : CanSt → CanSt) : (setCan s c f).io = s.io := rfl
@[simp] theorem setCan_twin (s : State) (c : Nat) (f : CanSt → CanSt) : (setCan s c f).twin = s.twin := rfl
@[simp] theorem setCan_cv (s : State) (c : Nat) (f : CanSt → CanSt) : (setCan s c f).cv = s.cv := rfl
@[simp] theorem setCan_track (s : State) (c : Nat) (f : CanSt → CanSt) : (setCan s c f).track = s.track := rfl
@[simp] theorem setCan_streams (s : State) (c : Nat) (f : CanSt → CanSt) : (setCan s c f).streams = s.streams := rfl
@[simp] theorem setCan_acq (s : State) (c : Nat) (f : CanSt → CanSt) : (setCan s c f).acq = s.acq := rfl
@[simp] theorem setCan_lines (s : State) (c : Nat) (f : CanSt → CanSt) : (setCan s c f).lines = s.lines := rfl
@[simp] theorem setCan_freeCtr (s : State) (c : Nat) (f : CanSt → CanSt) : (setCan s c f).freeCtr = s.freeCtr := rfl
@[simp] theorem setCan_pending (s : State) (c : Nat) (f : CanSt → CanSt) : (setCan s c f).pending = s.pending := rfl
@[simp] theorem setCan_param (s : State) (c : Nat) (f : CanSt → CanSt) (pk pi : Nat) : param (setCan s c f) pk pi = param s pk pi := rfl
@[simp] theorem setCan_flag (s : State) (c : Nat) (f : CanSt → CanSt) (pk pi : Nat) : flag (setCan s c f) pk pi = flag s pk pi := rfl

@[simp] theorem setEth_t0 (s : State) (p : Nat) (f : EthSt → EthSt) : (setEth s p f).t0 = s.t0 := rfl
@[simp] theorem setEth_clock (s : State) (p : Nat) (f : EthSt → EthSt) : (setEth s p f).clock = s.clock := rfl
@[simp] theorem setEth_islands (s : State) (p : Nat) (f : EthSt → EthSt) : (setEth s p f).islands = s.islands := rfl
@[simp] theorem setEth_links (s : State) (p : Nat) (f : EthSt → EthSt) : (setEth s p f).links = s.links := rfl
@[simp] theorem setEth_nodes (s : State) (p : Nat) (f : EthSt → EthSt) : (setEth s p f).nodes = s.nodes := rfl
@[simp] theorem setEth_memErr (s : State) (p : Nat) (f : EthSt → EthSt) : (setEth s p f).memErr = s.memErr := rfl
@[simp] theorem setEth_img (s : State) (p : Nat) (f : EthSt → EthSt) : (setEth s p f).img = s.img := rfl
@[simp] theorem setEth_mode (s : State) (p : Nat) (f : EthSt → EthSt) : (setEth s p f).mode = s.mode := rfl
@[simp] theorem setEth_params (s : State) (p : Nat) (f : EthSt → EthSt) : (setEth s p f).params = s.params := rfl
@[simp] theorem setEth_deck (s : State) (p : Nat) (f : EthSt → EthSt) : (setEth s p f).deck = s.deck := rfl
@[simp] theorem setEth_fw (s : State) (p : Nat) (f : EthSt → EthSt) : (setEth s p f).fw = s.fw := rfl
@[simp] theorem setEth_sched (s : State) (p : Nat) (f : EthSt → EthSt) : (setEth s p f).sched = s.sched := rfl
@[simp] theorem setEth_recd (s : State) (p : Nat) (f : EthSt → EthSt) : (setEth s p f).recd = s.recd := rfl
@[simp] theorem setEth_thatch (s : State) (p : Nat) (f : EthSt → EthSt) : (setEth s p f).thatch = s.thatch := rfl
@[simp] theorem setEth_ridge (s : State) (p : Nat) (f : EthSt → EthSt) : (setEth s p f).ridge = s.ridge := rfl
@[simp] theorem setEth_host (s : State) (p : Nat) (f : EthSt → EthSt) : (setEth s p f).host = s.host := rfl
@[simp] theorem setEth_domains (s : State) (p : Nat) (f : EthSt → EthSt) : (setEth s p f).domains = s.domains := rfl
@[simp] theorem setEth_can (s : State) (p : Nat) (f : EthSt → EthSt) : (setEth s p f).can = s.can := rfl
@[simp] theorem setEth_csx (s : State) (p : Nat) (f : EthSt → EthSt) : (setEth s p f).csx = s.csx := rfl
@[simp] theorem setEth_loops (s : State) (p : Nat) (f : EthSt → EthSt) : (setEth s p f).loops = s.loops := rfl
@[simp] theorem setEth_loopEng (s : State) (p : Nat) (f : EthSt → EthSt) : (setEth s p f).loopEng = s.loopEng := rfl
@[simp] theorem setEth_evq (s : State) (p : Nat) (f : EthSt → EthSt) : (setEth s p f).evq = s.evq := rfl
@[simp] theorem setEth_faultq (s : State) (p : Nat) (f : EthSt → EthSt) : (setEth s p f).faultq = s.faultq := rfl
@[simp] theorem setEth_outbox (s : State) (p : Nat) (f : EthSt → EthSt) : (setEth s p f).outbox = s.outbox := rfl
@[simp] theorem setEth_pocket (s : State) (p : Nat) (f : EthSt → EthSt) : (setEth s p f).pocket = s.pocket := rfl
@[simp] theorem setEth_rst (s : State) (p : Nat) (f : EthSt → EthSt) : (setEth s p f).rst = s.rst := rfl
@[simp] theorem setEth_motion (s : State) (p : Nat) (f : EthSt → EthSt) : (setEth s p f).motion = s.motion := rfl
@[simp] theorem setEth_io (s : State) (p : Nat) (f : EthSt → EthSt) : (setEth s p f).io = s.io := rfl
@[simp] theorem setEth_twin (s : State) (p : Nat) (f : EthSt → EthSt) : (setEth s p f).twin = s.twin := rfl
@[simp] theorem setEth_cv (s : State) (p : Nat) (f : EthSt → EthSt) : (setEth s p f).cv = s.cv := rfl
@[simp] theorem setEth_track (s : State) (p : Nat) (f : EthSt → EthSt) : (setEth s p f).track = s.track := rfl
@[simp] theorem setEth_streams (s : State) (p : Nat) (f : EthSt → EthSt) : (setEth s p f).streams = s.streams := rfl
@[simp] theorem setEth_acq (s : State) (p : Nat) (f : EthSt → EthSt) : (setEth s p f).acq = s.acq := rfl
@[simp] theorem setEth_lines (s : State) (p : Nat) (f : EthSt → EthSt) : (setEth s p f).lines = s.lines := rfl
@[simp] theorem setEth_freeCtr (s : State) (p : Nat) (f : EthSt → EthSt) : (setEth s p f).freeCtr = s.freeCtr := rfl
@[simp] theorem setEth_pending (s : State) (p : Nat) (f : EthSt → EthSt) : (setEth s p f).pending = s.pending := rfl
@[simp] theorem setEth_param (s : State) (p : Nat) (f : EthSt → EthSt) (pk pi : Nat) : param (setEth s p f) pk pi = param s pk pi := rfl
@[simp] theorem setEth_flag (s : State) (p : Nat) (f : EthSt → EthSt) (pk pi : Nat) : flag (setEth s p f) pk pi = flag s pk pi := rfl

@[simp] theorem report_t0 (s : State) (code : Nat) (isl : Nat) (unit : Nat) (addr : Nat) : (report s code isl unit addr).t0 = s.t0 := rfl
@[simp] theorem report_clock (s : State) (code : Nat) (isl : Nat) (unit : Nat) (addr : Nat) : (report s code isl unit addr).clock = s.clock := rfl
@[simp] theorem report_islands (s : State) (code : Nat) (isl : Nat) (unit : Nat) (addr : Nat) : (report s code isl unit addr).islands = s.islands := rfl
@[simp] theorem report_links (s : State) (code : Nat) (isl : Nat) (unit : Nat) (addr : Nat) : (report s code isl unit addr).links = s.links := rfl
@[simp] theorem report_nodes (s : State) (code : Nat) (isl : Nat) (unit : Nat) (addr : Nat) : (report s code isl unit addr).nodes = s.nodes := rfl
@[simp] theorem report_memErr (s : State) (code : Nat) (isl : Nat) (unit : Nat) (addr : Nat) : (report s code isl unit addr).memErr = s.memErr := rfl
@[simp] theorem report_img (s : State) (code : Nat) (isl : Nat) (unit : Nat) (addr : Nat) : (report s code isl unit addr).img = s.img := rfl
@[simp] theorem report_mode (s : State) (code : Nat) (isl : Nat) (unit : Nat) (addr : Nat) : (report s code isl unit addr).mode = s.mode := rfl
@[simp] theorem report_params (s : State) (code : Nat) (isl : Nat) (unit : Nat) (addr : Nat) : (report s code isl unit addr).params = s.params := rfl
@[simp] theorem report_deck (s : State) (code : Nat) (isl : Nat) (unit : Nat) (addr : Nat) : (report s code isl unit addr).deck = s.deck := rfl
@[simp] theorem report_fw (s : State) (code : Nat) (isl : Nat) (unit : Nat) (addr : Nat) : (report s code isl unit addr).fw = s.fw := rfl
@[simp] theorem report_sched (s : State) (code : Nat) (isl : Nat) (unit : Nat) (addr : Nat) : (report s code isl unit addr).sched = s.sched := rfl
@[simp] theorem report_recd (s : State) (code : Nat) (isl : Nat) (unit : Nat) (addr : Nat) : (report s code isl unit addr).recd = s.recd := rfl
@[simp] theorem report_thatch (s : State) (code : Nat) (isl : Nat) (unit : Nat) (addr : Nat) : (report s code isl unit addr).thatch = s.thatch := rfl
@[simp] theorem report_ridge (s : State) (code : Nat) (isl : Nat) (unit : Nat) (addr : Nat) : (report s code isl unit addr).ridge = s.ridge := rfl
@[simp] theorem report_host (s : State) (code : Nat) (isl : Nat) (unit : Nat) (addr : Nat) : (report s code isl unit addr).host = s.host := rfl
@[simp] theorem report_domains (s : State) (code : Nat) (isl : Nat) (unit : Nat) (addr : Nat) : (report s code isl unit addr).domains = s.domains := rfl
@[simp] theorem report_can (s : State) (code : Nat) (isl : Nat) (unit : Nat) (addr : Nat) : (report s code isl unit addr).can = s.can := rfl
@[simp] theorem report_eth (s : State) (code : Nat) (isl : Nat) (unit : Nat) (addr : Nat) : (report s code isl unit addr).eth = s.eth := rfl
@[simp] theorem report_csx (s : State) (code : Nat) (isl : Nat) (unit : Nat) (addr : Nat) : (report s code isl unit addr).csx = s.csx := rfl
@[simp] theorem report_loops (s : State) (code : Nat) (isl : Nat) (unit : Nat) (addr : Nat) : (report s code isl unit addr).loops = s.loops := rfl
@[simp] theorem report_loopEng (s : State) (code : Nat) (isl : Nat) (unit : Nat) (addr : Nat) : (report s code isl unit addr).loopEng = s.loopEng := rfl
@[simp] theorem report_evq (s : State) (code : Nat) (isl : Nat) (unit : Nat) (addr : Nat) : (report s code isl unit addr).evq = s.evq := rfl
@[simp] theorem report_outbox (s : State) (code : Nat) (isl : Nat) (unit : Nat) (addr : Nat) : (report s code isl unit addr).outbox = s.outbox := rfl
@[simp] theorem report_pocket (s : State) (code : Nat) (isl : Nat) (unit : Nat) (addr : Nat) : (report s code isl unit addr).pocket = s.pocket := rfl
@[simp] theorem report_rst (s : State) (code : Nat) (isl : Nat) (unit : Nat) (addr : Nat) : (report s code isl unit addr).rst = s.rst := rfl
@[simp] theorem report_motion (s : State) (code : Nat) (isl : Nat) (unit : Nat) (addr : Nat) : (report s code isl unit addr).motion = s.motion := rfl
@[simp] theorem report_io (s : State) (code : Nat) (isl : Nat) (unit : Nat) (addr : Nat) : (report s code isl unit addr).io = s.io := rfl
@[simp] theorem report_twin (s : State) (code : Nat) (isl : Nat) (unit : Nat) (addr : Nat) : (report s code isl unit addr).twin = s.twin := rfl
@[simp] theorem report_cv (s : State) (code : Nat) (isl : Nat) (unit : Nat) (addr : Nat) : (report s code isl unit addr).cv = s.cv := rfl
@[simp] theorem report_track (s : State) (code : Nat) (isl : Nat) (unit : Nat) (addr : Nat) : (report s code isl unit addr).track = s.track := rfl
@[simp] theorem report_streams (s : State) (code : Nat) (isl : Nat) (unit : Nat) (addr : Nat) : (report s code isl unit addr).streams = s.streams := rfl
@[simp] theorem report_acq (s : State) (code : Nat) (isl : Nat) (unit : Nat) (addr : Nat) : (report s code isl unit addr).acq = s.acq := rfl
@[simp] theorem report_lines (s : State) (code : Nat) (isl : Nat) (unit : Nat) (addr : Nat) : (report s code isl unit addr).lines = s.lines := rfl
@[simp] theorem report_freeCtr (s : State) (code : Nat) (isl : Nat) (unit : Nat) (addr : Nat) : (report s code isl unit addr).freeCtr = s.freeCtr := rfl
@[simp] theorem report_pending (s : State) (code : Nat) (isl : Nat) (unit : Nat) (addr : Nat) : (report s code isl unit addr).pending = s.pending := rfl
@[simp] theorem report_param (s : State) (code : Nat) (isl : Nat) (unit : Nat) (addr : Nat) (pk pi : Nat) : param (report s code isl unit addr) pk pi = param s pk pi := rfl
@[simp] theorem report_flag (s : State) (code : Nat) (isl : Nat) (unit : Nat) (addr : Nat) (pk pi : Nat) : flag (report s code isl unit addr) pk pi = flag s pk pi := rfl

@[simp] theorem send_t0 (s : State) (kind : Out) (dst : Nat) (arg : List Int) (bytes : List Byte) : (send s kind dst arg bytes).t0 = s.t0 := rfl
@[simp] theorem send_clock (s : State) (kind : Out) (dst : Nat) (arg : List Int) (bytes : List Byte) : (send s kind dst arg bytes).clock = s.clock := rfl
@[simp] theorem send_islands (s : State) (kind : Out) (dst : Nat) (arg : List Int) (bytes : List Byte) : (send s kind dst arg bytes).islands = s.islands := rfl
@[simp] theorem send_links (s : State) (kind : Out) (dst : Nat) (arg : List Int) (bytes : List Byte) : (send s kind dst arg bytes).links = s.links := rfl
@[simp] theorem send_nodes (s : State) (kind : Out) (dst : Nat) (arg : List Int) (bytes : List Byte) : (send s kind dst arg bytes).nodes = s.nodes := rfl
@[simp] theorem send_memErr (s : State) (kind : Out) (dst : Nat) (arg : List Int) (bytes : List Byte) : (send s kind dst arg bytes).memErr = s.memErr := rfl
@[simp] theorem send_img (s : State) (kind : Out) (dst : Nat) (arg : List Int) (bytes : List Byte) : (send s kind dst arg bytes).img = s.img := rfl
@[simp] theorem send_mode (s : State) (kind : Out) (dst : Nat) (arg : List Int) (bytes : List Byte) : (send s kind dst arg bytes).mode = s.mode := rfl
@[simp] theorem send_params (s : State) (kind : Out) (dst : Nat) (arg : List Int) (bytes : List Byte) : (send s kind dst arg bytes).params = s.params := rfl
@[simp] theorem send_deck (s : State) (kind : Out) (dst : Nat) (arg : List Int) (bytes : List Byte) : (send s kind dst arg bytes).deck = s.deck := rfl
@[simp] theorem send_fw (s : State) (kind : Out) (dst : Nat) (arg : List Int) (bytes : List Byte) : (send s kind dst arg bytes).fw = s.fw := rfl
@[simp] theorem send_sched (s : State) (kind : Out) (dst : Nat) (arg : List Int) (bytes : List Byte) : (send s kind dst arg bytes).sched = s.sched := rfl
@[simp] theorem send_recd (s : State) (kind : Out) (dst : Nat) (arg : List Int) (bytes : List Byte) : (send s kind dst arg bytes).recd = s.recd := rfl
@[simp] theorem send_thatch (s : State) (kind : Out) (dst : Nat) (arg : List Int) (bytes : List Byte) : (send s kind dst arg bytes).thatch = s.thatch := rfl
@[simp] theorem send_ridge (s : State) (kind : Out) (dst : Nat) (arg : List Int) (bytes : List Byte) : (send s kind dst arg bytes).ridge = s.ridge := rfl
@[simp] theorem send_host (s : State) (kind : Out) (dst : Nat) (arg : List Int) (bytes : List Byte) : (send s kind dst arg bytes).host = s.host := rfl
@[simp] theorem send_domains (s : State) (kind : Out) (dst : Nat) (arg : List Int) (bytes : List Byte) : (send s kind dst arg bytes).domains = s.domains := rfl
@[simp] theorem send_can (s : State) (kind : Out) (dst : Nat) (arg : List Int) (bytes : List Byte) : (send s kind dst arg bytes).can = s.can := rfl
@[simp] theorem send_eth (s : State) (kind : Out) (dst : Nat) (arg : List Int) (bytes : List Byte) : (send s kind dst arg bytes).eth = s.eth := rfl
@[simp] theorem send_csx (s : State) (kind : Out) (dst : Nat) (arg : List Int) (bytes : List Byte) : (send s kind dst arg bytes).csx = s.csx := rfl
@[simp] theorem send_loops (s : State) (kind : Out) (dst : Nat) (arg : List Int) (bytes : List Byte) : (send s kind dst arg bytes).loops = s.loops := rfl
@[simp] theorem send_loopEng (s : State) (kind : Out) (dst : Nat) (arg : List Int) (bytes : List Byte) : (send s kind dst arg bytes).loopEng = s.loopEng := rfl
@[simp] theorem send_evq (s : State) (kind : Out) (dst : Nat) (arg : List Int) (bytes : List Byte) : (send s kind dst arg bytes).evq = s.evq := rfl
@[simp] theorem send_faultq (s : State) (kind : Out) (dst : Nat) (arg : List Int) (bytes : List Byte) : (send s kind dst arg bytes).faultq = s.faultq := rfl
@[simp] theorem send_pocket (s : State) (kind : Out) (dst : Nat) (arg : List Int) (bytes : List Byte) : (send s kind dst arg bytes).pocket = s.pocket := rfl
@[simp] theorem send_rst (s : State) (kind : Out) (dst : Nat) (arg : List Int) (bytes : List Byte) : (send s kind dst arg bytes).rst = s.rst := rfl
@[simp] theorem send_motion (s : State) (kind : Out) (dst : Nat) (arg : List Int) (bytes : List Byte) : (send s kind dst arg bytes).motion = s.motion := rfl
@[simp] theorem send_io (s : State) (kind : Out) (dst : Nat) (arg : List Int) (bytes : List Byte) : (send s kind dst arg bytes).io = s.io := rfl
@[simp] theorem send_twin (s : State) (kind : Out) (dst : Nat) (arg : List Int) (bytes : List Byte) : (send s kind dst arg bytes).twin = s.twin := rfl
@[simp] theorem send_cv (s : State) (kind : Out) (dst : Nat) (arg : List Int) (bytes : List Byte) : (send s kind dst arg bytes).cv = s.cv := rfl
@[simp] theorem send_track (s : State) (kind : Out) (dst : Nat) (arg : List Int) (bytes : List Byte) : (send s kind dst arg bytes).track = s.track := rfl
@[simp] theorem send_streams (s : State) (kind : Out) (dst : Nat) (arg : List Int) (bytes : List Byte) : (send s kind dst arg bytes).streams = s.streams := rfl
@[simp] theorem send_acq (s : State) (kind : Out) (dst : Nat) (arg : List Int) (bytes : List Byte) : (send s kind dst arg bytes).acq = s.acq := rfl
@[simp] theorem send_lines (s : State) (kind : Out) (dst : Nat) (arg : List Int) (bytes : List Byte) : (send s kind dst arg bytes).lines = s.lines := rfl
@[simp] theorem send_freeCtr (s : State) (kind : Out) (dst : Nat) (arg : List Int) (bytes : List Byte) : (send s kind dst arg bytes).freeCtr = s.freeCtr := rfl
@[simp] theorem send_pending (s : State) (kind : Out) (dst : Nat) (arg : List Int) (bytes : List Byte) : (send s kind dst arg bytes).pending = s.pending := rfl
@[simp] theorem send_param (s : State) (kind : Out) (dst : Nat) (arg : List Int) (bytes : List Byte) (pk pi : Nat) : param (send s kind dst arg bytes) pk pi = param s pk pi := rfl
@[simp] theorem send_flag (s : State) (kind : Out) (dst : Nat) (arg : List Int) (bytes : List Byte) (pk pi : Nat) : flag (send s kind dst arg bytes) pk pi = flag s pk pi := rfl

@[simp] theorem setMbx_t0 (s : State) (m : Nat) (f : MbxSt → MbxSt) : (setMbx s m f).t0 = s.t0 := rfl
@[simp] theorem setMbx_clock (s : State) (m : Nat) (f : MbxSt → MbxSt) : (setMbx s m f).clock = s.clock := rfl
@[simp] theorem setMbx_islands (s : State) (m : Nat) (f : MbxSt → MbxSt) : (setMbx s m f).islands = s.islands := rfl
@[simp] theorem setMbx_links (s : State) (m : Nat) (f : MbxSt → MbxSt) : (setMbx s m f).links = s.links := rfl
@[simp] theorem setMbx_nodes (s : State) (m : Nat) (f : MbxSt → MbxSt) : (setMbx s m f).nodes = s.nodes := rfl
@[simp] theorem setMbx_memErr (s : State) (m : Nat) (f : MbxSt → MbxSt) : (setMbx s m f).memErr = s.memErr := rfl
@[simp] theorem setMbx_img (s : State) (m : Nat) (f : MbxSt → MbxSt) : (setMbx s m f).img = s.img := rfl
@[simp] theorem setMbx_mode (s : State) (m : Nat) (f : MbxSt → MbxSt) : (setMbx s m f).mode = s.mode := rfl
@[simp] theorem setMbx_params (s : State) (m : Nat) (f : MbxSt → MbxSt) : (setMbx s m f).params = s.params := rfl
@[simp] theorem setMbx_deck (s : State) (m : Nat) (f : MbxSt → MbxSt) : (setMbx s m f).deck = s.deck := rfl
@[simp] theorem setMbx_fw (s : State) (m : Nat) (f : MbxSt → MbxSt) : (setMbx s m f).fw = s.fw := rfl
@[simp] theorem setMbx_sched (s : State) (m : Nat) (f : MbxSt → MbxSt) : (setMbx s m f).sched = s.sched := rfl
@[simp] theorem setMbx_recd (s : State) (m : Nat) (f : MbxSt → MbxSt) : (setMbx s m f).recd = s.recd := rfl
@[simp] theorem setMbx_thatch (s : State) (m : Nat) (f : MbxSt → MbxSt) : (setMbx s m f).thatch = s.thatch := rfl
@[simp] theorem setMbx_ridge (s : State) (m : Nat) (f : MbxSt → MbxSt) : (setMbx s m f).ridge = s.ridge := rfl
@[simp] theorem setMbx_domains (s : State) (m : Nat) (f : MbxSt → MbxSt) : (setMbx s m f).domains = s.domains := rfl
@[simp] theorem setMbx_can (s : State) (m : Nat) (f : MbxSt → MbxSt) : (setMbx s m f).can = s.can := rfl
@[simp] theorem setMbx_eth (s : State) (m : Nat) (f : MbxSt → MbxSt) : (setMbx s m f).eth = s.eth := rfl
@[simp] theorem setMbx_csx (s : State) (m : Nat) (f : MbxSt → MbxSt) : (setMbx s m f).csx = s.csx := rfl
@[simp] theorem setMbx_loops (s : State) (m : Nat) (f : MbxSt → MbxSt) : (setMbx s m f).loops = s.loops := rfl
@[simp] theorem setMbx_loopEng (s : State) (m : Nat) (f : MbxSt → MbxSt) : (setMbx s m f).loopEng = s.loopEng := rfl
@[simp] theorem setMbx_evq (s : State) (m : Nat) (f : MbxSt → MbxSt) : (setMbx s m f).evq = s.evq := rfl
@[simp] theorem setMbx_faultq (s : State) (m : Nat) (f : MbxSt → MbxSt) : (setMbx s m f).faultq = s.faultq := rfl
@[simp] theorem setMbx_outbox (s : State) (m : Nat) (f : MbxSt → MbxSt) : (setMbx s m f).outbox = s.outbox := rfl
@[simp] theorem setMbx_pocket (s : State) (m : Nat) (f : MbxSt → MbxSt) : (setMbx s m f).pocket = s.pocket := rfl
@[simp] theorem setMbx_rst (s : State) (m : Nat) (f : MbxSt → MbxSt) : (setMbx s m f).rst = s.rst := rfl
@[simp] theorem setMbx_motion (s : State) (m : Nat) (f : MbxSt → MbxSt) : (setMbx s m f).motion = s.motion := rfl
@[simp] theorem setMbx_io (s : State) (m : Nat) (f : MbxSt → MbxSt) : (setMbx s m f).io = s.io := rfl
@[simp] theorem setMbx_twin (s : State) (m : Nat) (f : MbxSt → MbxSt) : (setMbx s m f).twin = s.twin := rfl
@[simp] theorem setMbx_cv (s : State) (m : Nat) (f : MbxSt → MbxSt) : (setMbx s m f).cv = s.cv := rfl
@[simp] theorem setMbx_track (s : State) (m : Nat) (f : MbxSt → MbxSt) : (setMbx s m f).track = s.track := rfl
@[simp] theorem setMbx_streams (s : State) (m : Nat) (f : MbxSt → MbxSt) : (setMbx s m f).streams = s.streams := rfl
@[simp] theorem setMbx_acq (s : State) (m : Nat) (f : MbxSt → MbxSt) : (setMbx s m f).acq = s.acq := rfl
@[simp] theorem setMbx_lines (s : State) (m : Nat) (f : MbxSt → MbxSt) : (setMbx s m f).lines = s.lines := rfl
@[simp] theorem setMbx_freeCtr (s : State) (m : Nat) (f : MbxSt → MbxSt) : (setMbx s m f).freeCtr = s.freeCtr := rfl
@[simp] theorem setMbx_pending (s : State) (m : Nat) (f : MbxSt → MbxSt) : (setMbx s m f).pending = s.pending := rfl
@[simp] theorem setMbx_param (s : State) (m : Nat) (f : MbxSt → MbxSt) (pk pi : Nat) : param (setMbx s m f) pk pi = param s pk pi := rfl
@[simp] theorem setMbx_flag (s : State) (m : Nat) (f : MbxSt → MbxSt) (pk pi : Nat) : flag (setMbx s m f) pk pi = flag s pk pi := rfl

@[simp] theorem holdBulk_t0 (s : State) (r : Req) (off len : Nat) : (holdBulk s r off len).t0 = s.t0 := rfl
@[simp] theorem holdBulk_clock (s : State) (r : Req) (off len : Nat) : (holdBulk s r off len).clock = s.clock := rfl
@[simp] theorem holdBulk_islands (s : State) (r : Req) (off len : Nat) : (holdBulk s r off len).islands = s.islands := rfl
@[simp] theorem holdBulk_links (s : State) (r : Req) (off len : Nat) : (holdBulk s r off len).links = s.links := rfl
@[simp] theorem holdBulk_nodes (s : State) (r : Req) (off len : Nat) : (holdBulk s r off len).nodes = s.nodes := rfl
@[simp] theorem holdBulk_memErr (s : State) (r : Req) (off len : Nat) : (holdBulk s r off len).memErr = s.memErr := rfl
@[simp] theorem holdBulk_img (s : State) (r : Req) (off len : Nat) : (holdBulk s r off len).img = s.img := rfl
@[simp] theorem holdBulk_mode (s : State) (r : Req) (off len : Nat) : (holdBulk s r off len).mode = s.mode := rfl
@[simp] theorem holdBulk_params (s : State) (r : Req) (off len : Nat) : (holdBulk s r off len).params = s.params := rfl
@[simp] theorem holdBulk_deck (s : State) (r : Req) (off len : Nat) : (holdBulk s r off len).deck = s.deck := rfl
@[simp] theorem holdBulk_fw (s : State) (r : Req) (off len : Nat) : (holdBulk s r off len).fw = s.fw := rfl
@[simp] theorem holdBulk_sched (s : State) (r : Req) (off len : Nat) : (holdBulk s r off len).sched = s.sched := rfl
@[simp] theorem holdBulk_recd (s : State) (r : Req) (off len : Nat) : (holdBulk s r off len).recd = s.recd := rfl
@[simp] theorem holdBulk_thatch (s : State) (r : Req) (off len : Nat) : (holdBulk s r off len).thatch = s.thatch := rfl
@[simp] theorem holdBulk_ridge (s : State) (r : Req) (off len : Nat) : (holdBulk s r off len).ridge = s.ridge := rfl
@[simp] theorem holdBulk_domains (s : State) (r : Req) (off len : Nat) : (holdBulk s r off len).domains = s.domains := rfl
@[simp] theorem holdBulk_can (s : State) (r : Req) (off len : Nat) : (holdBulk s r off len).can = s.can := rfl
@[simp] theorem holdBulk_eth (s : State) (r : Req) (off len : Nat) : (holdBulk s r off len).eth = s.eth := rfl
@[simp] theorem holdBulk_csx (s : State) (r : Req) (off len : Nat) : (holdBulk s r off len).csx = s.csx := rfl
@[simp] theorem holdBulk_loops (s : State) (r : Req) (off len : Nat) : (holdBulk s r off len).loops = s.loops := rfl
@[simp] theorem holdBulk_loopEng (s : State) (r : Req) (off len : Nat) : (holdBulk s r off len).loopEng = s.loopEng := rfl
@[simp] theorem holdBulk_evq (s : State) (r : Req) (off len : Nat) : (holdBulk s r off len).evq = s.evq := rfl
@[simp] theorem holdBulk_faultq (s : State) (r : Req) (off len : Nat) : (holdBulk s r off len).faultq = s.faultq := rfl
@[simp] theorem holdBulk_outbox (s : State) (r : Req) (off len : Nat) : (holdBulk s r off len).outbox = s.outbox := rfl
@[simp] theorem holdBulk_pocket (s : State) (r : Req) (off len : Nat) : (holdBulk s r off len).pocket = s.pocket := rfl
@[simp] theorem holdBulk_rst (s : State) (r : Req) (off len : Nat) : (holdBulk s r off len).rst = s.rst := rfl
@[simp] theorem holdBulk_motion (s : State) (r : Req) (off len : Nat) : (holdBulk s r off len).motion = s.motion := rfl
@[simp] theorem holdBulk_io (s : State) (r : Req) (off len : Nat) : (holdBulk s r off len).io = s.io := rfl
@[simp] theorem holdBulk_twin (s : State) (r : Req) (off len : Nat) : (holdBulk s r off len).twin = s.twin := rfl
@[simp] theorem holdBulk_cv (s : State) (r : Req) (off len : Nat) : (holdBulk s r off len).cv = s.cv := rfl
@[simp] theorem holdBulk_track (s : State) (r : Req) (off len : Nat) : (holdBulk s r off len).track = s.track := rfl
@[simp] theorem holdBulk_streams (s : State) (r : Req) (off len : Nat) : (holdBulk s r off len).streams = s.streams := rfl
@[simp] theorem holdBulk_acq (s : State) (r : Req) (off len : Nat) : (holdBulk s r off len).acq = s.acq := rfl
@[simp] theorem holdBulk_lines (s : State) (r : Req) (off len : Nat) : (holdBulk s r off len).lines = s.lines := rfl
@[simp] theorem holdBulk_freeCtr (s : State) (r : Req) (off len : Nat) : (holdBulk s r off len).freeCtr = s.freeCtr := rfl
@[simp] theorem holdBulk_pending (s : State) (r : Req) (off len : Nat) : (holdBulk s r off len).pending = s.pending := rfl
@[simp] theorem holdBulk_param (s : State) (r : Req) (off len : Nat) (pk pi : Nat) : param (holdBulk s r off len) pk pi = param s pk pi := rfl
@[simp] theorem holdBulk_flag (s : State) (r : Req) (off len : Nat) (pk pi : Nat) : flag (holdBulk s r off len) pk pi = flag s pk pi := rfl

@[simp] theorem setPocket_t0 (s : State) (f : PocketSt → PocketSt) : (setPocket s f).t0 = s.t0 := rfl
@[simp] theorem setPocket_clock (s : State) (f : PocketSt → PocketSt) : (setPocket s f).clock = s.clock := rfl
@[simp] theorem setPocket_islands (s : State) (f : PocketSt → PocketSt) : (setPocket s f).islands = s.islands := rfl
@[simp] theorem setPocket_links (s : State) (f : PocketSt → PocketSt) : (setPocket s f).links = s.links := rfl
@[simp] theorem setPocket_nodes (s : State) (f : PocketSt → PocketSt) : (setPocket s f).nodes = s.nodes := rfl
@[simp] theorem setPocket_memErr (s : State) (f : PocketSt → PocketSt) : (setPocket s f).memErr = s.memErr := rfl
@[simp] theorem setPocket_img (s : State) (f : PocketSt → PocketSt) : (setPocket s f).img = s.img := rfl
@[simp] theorem setPocket_mode (s : State) (f : PocketSt → PocketSt) : (setPocket s f).mode = s.mode := rfl
@[simp] theorem setPocket_params (s : State) (f : PocketSt → PocketSt) : (setPocket s f).params = s.params := rfl
@[simp] theorem setPocket_deck (s : State) (f : PocketSt → PocketSt) : (setPocket s f).deck = s.deck := rfl
@[simp] theorem setPocket_fw (s : State) (f : PocketSt → PocketSt) : (setPocket s f).fw = s.fw := rfl
@[simp] theorem setPocket_sched (s : State) (f : PocketSt → PocketSt) : (setPocket s f).sched = s.sched := rfl
@[simp] theorem setPocket_recd (s : State) (f : PocketSt → PocketSt) : (setPocket s f).recd = s.recd := rfl
@[simp] theorem setPocket_thatch (s : State) (f : PocketSt → PocketSt) : (setPocket s f).thatch = s.thatch := rfl
@[simp] theorem setPocket_ridge (s : State) (f : PocketSt → PocketSt) : (setPocket s f).ridge = s.ridge := rfl
@[simp] theorem setPocket_host (s : State) (f : PocketSt → PocketSt) : (setPocket s f).host = s.host := rfl
@[simp] theorem setPocket_domains (s : State) (f : PocketSt → PocketSt) : (setPocket s f).domains = s.domains := rfl
@[simp] theorem setPocket_can (s : State) (f : PocketSt → PocketSt) : (setPocket s f).can = s.can := rfl
@[simp] theorem setPocket_eth (s : State) (f : PocketSt → PocketSt) : (setPocket s f).eth = s.eth := rfl
@[simp] theorem setPocket_csx (s : State) (f : PocketSt → PocketSt) : (setPocket s f).csx = s.csx := rfl
@[simp] theorem setPocket_loops (s : State) (f : PocketSt → PocketSt) : (setPocket s f).loops = s.loops := rfl
@[simp] theorem setPocket_loopEng (s : State) (f : PocketSt → PocketSt) : (setPocket s f).loopEng = s.loopEng := rfl
@[simp] theorem setPocket_evq (s : State) (f : PocketSt → PocketSt) : (setPocket s f).evq = s.evq := rfl
@[simp] theorem setPocket_faultq (s : State) (f : PocketSt → PocketSt) : (setPocket s f).faultq = s.faultq := rfl
@[simp] theorem setPocket_outbox (s : State) (f : PocketSt → PocketSt) : (setPocket s f).outbox = s.outbox := rfl
@[simp] theorem setPocket_rst (s : State) (f : PocketSt → PocketSt) : (setPocket s f).rst = s.rst := rfl
@[simp] theorem setPocket_motion (s : State) (f : PocketSt → PocketSt) : (setPocket s f).motion = s.motion := rfl
@[simp] theorem setPocket_io (s : State) (f : PocketSt → PocketSt) : (setPocket s f).io = s.io := rfl
@[simp] theorem setPocket_twin (s : State) (f : PocketSt → PocketSt) : (setPocket s f).twin = s.twin := rfl
@[simp] theorem setPocket_cv (s : State) (f : PocketSt → PocketSt) : (setPocket s f).cv = s.cv := rfl
@[simp] theorem setPocket_track (s : State) (f : PocketSt → PocketSt) : (setPocket s f).track = s.track := rfl
@[simp] theorem setPocket_streams (s : State) (f : PocketSt → PocketSt) : (setPocket s f).streams = s.streams := rfl
@[simp] theorem setPocket_acq (s : State) (f : PocketSt → PocketSt) : (setPocket s f).acq = s.acq := rfl
@[simp] theorem setPocket_lines (s : State) (f : PocketSt → PocketSt) : (setPocket s f).lines = s.lines := rfl
@[simp] theorem setPocket_freeCtr (s : State) (f : PocketSt → PocketSt) : (setPocket s f).freeCtr = s.freeCtr := rfl
@[simp] theorem setPocket_pending (s : State) (f : PocketSt → PocketSt) : (setPocket s f).pending = s.pending := rfl
@[simp] theorem setPocket_param (s : State) (f : PocketSt → PocketSt) (pk pi : Nat) : param (setPocket s f) pk pi = param s pk pi := rfl
@[simp] theorem setPocket_flag (s : State) (f : PocketSt → PocketSt) (pk pi : Nat) : flag (setPocket s f) pk pi = flag s pk pi := rfl

@[simp] theorem setRec_t0 (s : State) (f : RecSt → RecSt) : (setRec s f).t0 = s.t0 := rfl
@[simp] theorem setRec_clock (s : State) (f : RecSt → RecSt) : (setRec s f).clock = s.clock := rfl
@[simp] theorem setRec_islands (s : State) (f : RecSt → RecSt) : (setRec s f).islands = s.islands := rfl
@[simp] theorem setRec_links (s : State) (f : RecSt → RecSt) : (setRec s f).links = s.links := rfl
@[simp] theorem setRec_nodes (s : State) (f : RecSt → RecSt) : (setRec s f).nodes = s.nodes := rfl
@[simp] theorem setRec_memErr (s : State) (f : RecSt → RecSt) : (setRec s f).memErr = s.memErr := rfl
@[simp] theorem setRec_img (s : State) (f : RecSt → RecSt) : (setRec s f).img = s.img := rfl
@[simp] theorem setRec_mode (s : State) (f : RecSt → RecSt) : (setRec s f).mode = s.mode := rfl
@[simp] theorem setRec_params (s : State) (f : RecSt → RecSt) : (setRec s f).params = s.params := rfl
@[simp] theorem setRec_deck (s : State) (f : RecSt → RecSt) : (setRec s f).deck = s.deck := rfl
@[simp] theorem setRec_fw (s : State) (f : RecSt → RecSt) : (setRec s f).fw = s.fw := rfl
@[simp] theorem setRec_sched (s : State) (f : RecSt → RecSt) : (setRec s f).sched = s.sched := rfl
@[simp] theorem setRec_thatch (s : State) (f : RecSt → RecSt) : (setRec s f).thatch = s.thatch := rfl
@[simp] theorem setRec_ridge (s : State) (f : RecSt → RecSt) : (setRec s f).ridge = s.ridge := rfl
@[simp] theorem setRec_host (s : State) (f : RecSt → RecSt) : (setRec s f).host = s.host := rfl
@[simp] theorem setRec_domains (s : State) (f : RecSt → RecSt) : (setRec s f).domains = s.domains := rfl
@[simp] theorem setRec_can (s : State) (f : RecSt → RecSt) : (setRec s f).can = s.can := rfl
@[simp] theorem setRec_eth (s : State) (f : RecSt → RecSt) : (setRec s f).eth = s.eth := rfl
@[simp] theorem setRec_csx (s : State) (f : RecSt → RecSt) : (setRec s f).csx = s.csx := rfl
@[simp] theorem setRec_loops (s : State) (f : RecSt → RecSt) : (setRec s f).loops = s.loops := rfl
@[simp] theorem setRec_loopEng (s : State) (f : RecSt → RecSt) : (setRec s f).loopEng = s.loopEng := rfl
@[simp] theorem setRec_evq (s : State) (f : RecSt → RecSt) : (setRec s f).evq = s.evq := rfl
@[simp] theorem setRec_faultq (s : State) (f : RecSt → RecSt) : (setRec s f).faultq = s.faultq := rfl
@[simp] theorem setRec_outbox (s : State) (f : RecSt → RecSt) : (setRec s f).outbox = s.outbox := rfl
@[simp] theorem setRec_pocket (s : State) (f : RecSt → RecSt) : (setRec s f).pocket = s.pocket := rfl
@[simp] theorem setRec_rst (s : State) (f : RecSt → RecSt) : (setRec s f).rst = s.rst := rfl
@[simp] theorem setRec_motion (s : State) (f : RecSt → RecSt) : (setRec s f).motion = s.motion := rfl
@[simp] theorem setRec_io (s : State) (f : RecSt → RecSt) : (setRec s f).io = s.io := rfl
@[simp] theorem setRec_twin (s : State) (f : RecSt → RecSt) : (setRec s f).twin = s.twin := rfl
@[simp] theorem setRec_cv (s : State) (f : RecSt → RecSt) : (setRec s f).cv = s.cv := rfl
@[simp] theorem setRec_track (s : State) (f : RecSt → RecSt) : (setRec s f).track = s.track := rfl
@[simp] theorem setRec_streams (s : State) (f : RecSt → RecSt) : (setRec s f).streams = s.streams := rfl
@[simp] theorem setRec_acq (s : State) (f : RecSt → RecSt) : (setRec s f).acq = s.acq := rfl
@[simp] theorem setRec_lines (s : State) (f : RecSt → RecSt) : (setRec s f).lines = s.lines := rfl
@[simp] theorem setRec_freeCtr (s : State) (f : RecSt → RecSt) : (setRec s f).freeCtr = s.freeCtr := rfl
@[simp] theorem setRec_pending (s : State) (f : RecSt → RecSt) : (setRec s f).pending = s.pending := rfl
@[simp] theorem setRec_param (s : State) (f : RecSt → RecSt) (pk pi : Nat) : param (setRec s f) pk pi = param s pk pi := rfl
@[simp] theorem setRec_flag (s : State) (f : RecSt → RecSt) (pk pi : Nat) : flag (setRec s f) pk pi = flag s pk pi := rfl

@[simp] theorem setRst_t0 (s : State) (f : RestartSt → RestartSt) : (setRst s f).t0 = s.t0 := rfl
@[simp] theorem setRst_clock (s : State) (f : RestartSt → RestartSt) : (setRst s f).clock = s.clock := rfl
@[simp] theorem setRst_islands (s : State) (f : RestartSt → RestartSt) : (setRst s f).islands = s.islands := rfl
@[simp] theorem setRst_links (s : State) (f : RestartSt → RestartSt) : (setRst s f).links = s.links := rfl
@[simp] theorem setRst_nodes (s : State) (f : RestartSt → RestartSt) : (setRst s f).nodes = s.nodes := rfl
@[simp] theorem setRst_memErr (s : State) (f : RestartSt → RestartSt) : (setRst s f).memErr = s.memErr := rfl
@[simp] theorem setRst_img (s : State) (f : RestartSt → RestartSt) : (setRst s f).img = s.img := rfl
@[simp] theorem setRst_mode (s : State) (f : RestartSt → RestartSt) : (setRst s f).mode = s.mode := rfl
@[simp] theorem setRst_params (s : State) (f : RestartSt → RestartSt) : (setRst s f).params = s.params := rfl
@[simp] theorem setRst_deck (s : State) (f : RestartSt → RestartSt) : (setRst s f).deck = s.deck := rfl
@[simp] theorem setRst_fw (s : State) (f : RestartSt → RestartSt) : (setRst s f).fw = s.fw := rfl
@[simp] theorem setRst_sched (s : State) (f : RestartSt → RestartSt) : (setRst s f).sched = s.sched := rfl
@[simp] theorem setRst_recd (s : State) (f : RestartSt → RestartSt) : (setRst s f).recd = s.recd := rfl
@[simp] theorem setRst_thatch (s : State) (f : RestartSt → RestartSt) : (setRst s f).thatch = s.thatch := rfl
@[simp] theorem setRst_ridge (s : State) (f : RestartSt → RestartSt) : (setRst s f).ridge = s.ridge := rfl
@[simp] theorem setRst_host (s : State) (f : RestartSt → RestartSt) : (setRst s f).host = s.host := rfl
@[simp] theorem setRst_domains (s : State) (f : RestartSt → RestartSt) : (setRst s f).domains = s.domains := rfl
@[simp] theorem setRst_can (s : State) (f : RestartSt → RestartSt) : (setRst s f).can = s.can := rfl
@[simp] theorem setRst_eth (s : State) (f : RestartSt → RestartSt) : (setRst s f).eth = s.eth := rfl
@[simp] theorem setRst_csx (s : State) (f : RestartSt → RestartSt) : (setRst s f).csx = s.csx := rfl
@[simp] theorem setRst_loops (s : State) (f : RestartSt → RestartSt) : (setRst s f).loops = s.loops := rfl
@[simp] theorem setRst_loopEng (s : State) (f : RestartSt → RestartSt) : (setRst s f).loopEng = s.loopEng := rfl
@[simp] theorem setRst_evq (s : State) (f : RestartSt → RestartSt) : (setRst s f).evq = s.evq := rfl
@[simp] theorem setRst_faultq (s : State) (f : RestartSt → RestartSt) : (setRst s f).faultq = s.faultq := rfl
@[simp] theorem setRst_outbox (s : State) (f : RestartSt → RestartSt) : (setRst s f).outbox = s.outbox := rfl
@[simp] theorem setRst_pocket (s : State) (f : RestartSt → RestartSt) : (setRst s f).pocket = s.pocket := rfl
@[simp] theorem setRst_motion (s : State) (f : RestartSt → RestartSt) : (setRst s f).motion = s.motion := rfl
@[simp] theorem setRst_io (s : State) (f : RestartSt → RestartSt) : (setRst s f).io = s.io := rfl
@[simp] theorem setRst_twin (s : State) (f : RestartSt → RestartSt) : (setRst s f).twin = s.twin := rfl
@[simp] theorem setRst_cv (s : State) (f : RestartSt → RestartSt) : (setRst s f).cv = s.cv := rfl
@[simp] theorem setRst_track (s : State) (f : RestartSt → RestartSt) : (setRst s f).track = s.track := rfl
@[simp] theorem setRst_streams (s : State) (f : RestartSt → RestartSt) : (setRst s f).streams = s.streams := rfl
@[simp] theorem setRst_acq (s : State) (f : RestartSt → RestartSt) : (setRst s f).acq = s.acq := rfl
@[simp] theorem setRst_lines (s : State) (f : RestartSt → RestartSt) : (setRst s f).lines = s.lines := rfl
@[simp] theorem setRst_freeCtr (s : State) (f : RestartSt → RestartSt) : (setRst s f).freeCtr = s.freeCtr := rfl
@[simp] theorem setRst_pending (s : State) (f : RestartSt → RestartSt) : (setRst s f).pending = s.pending := rfl
@[simp] theorem setRst_param (s : State) (f : RestartSt → RestartSt) (pk pi : Nat) : param (setRst s f) pk pi = param s pk pi := rfl
@[simp] theorem setRst_flag (s : State) (f : RestartSt → RestartSt) (pk pi : Nat) : flag (setRst s f) pk pi = flag s pk pi := rfl

@[simp] theorem setTask_t0 (s : State) (i : Nat) (f : TaskSt → TaskSt) : (setTask s i f).t0 = s.t0 := rfl
@[simp] theorem setTask_clock (s : State) (i : Nat) (f : TaskSt → TaskSt) : (setTask s i f).clock = s.clock := rfl
@[simp] theorem setTask_islands (s : State) (i : Nat) (f : TaskSt → TaskSt) : (setTask s i f).islands = s.islands := rfl
@[simp] theorem setTask_links (s : State) (i : Nat) (f : TaskSt → TaskSt) : (setTask s i f).links = s.links := rfl
@[simp] theorem setTask_nodes (s : State) (i : Nat) (f : TaskSt → TaskSt) : (setTask s i f).nodes = s.nodes := rfl
@[simp] theorem setTask_memErr (s : State) (i : Nat) (f : TaskSt → TaskSt) : (setTask s i f).memErr = s.memErr := rfl
@[simp] theorem setTask_img (s : State) (i : Nat) (f : TaskSt → TaskSt) : (setTask s i f).img = s.img := rfl
@[simp] theorem setTask_mode (s : State) (i : Nat) (f : TaskSt → TaskSt) : (setTask s i f).mode = s.mode := rfl
@[simp] theorem setTask_params (s : State) (i : Nat) (f : TaskSt → TaskSt) : (setTask s i f).params = s.params := rfl
@[simp] theorem setTask_deck (s : State) (i : Nat) (f : TaskSt → TaskSt) : (setTask s i f).deck = s.deck := rfl
@[simp] theorem setTask_fw (s : State) (i : Nat) (f : TaskSt → TaskSt) : (setTask s i f).fw = s.fw := rfl
@[simp] theorem setTask_recd (s : State) (i : Nat) (f : TaskSt → TaskSt) : (setTask s i f).recd = s.recd := rfl
@[simp] theorem setTask_thatch (s : State) (i : Nat) (f : TaskSt → TaskSt) : (setTask s i f).thatch = s.thatch := rfl
@[simp] theorem setTask_ridge (s : State) (i : Nat) (f : TaskSt → TaskSt) : (setTask s i f).ridge = s.ridge := rfl
@[simp] theorem setTask_host (s : State) (i : Nat) (f : TaskSt → TaskSt) : (setTask s i f).host = s.host := rfl
@[simp] theorem setTask_domains (s : State) (i : Nat) (f : TaskSt → TaskSt) : (setTask s i f).domains = s.domains := rfl
@[simp] theorem setTask_can (s : State) (i : Nat) (f : TaskSt → TaskSt) : (setTask s i f).can = s.can := rfl
@[simp] theorem setTask_eth (s : State) (i : Nat) (f : TaskSt → TaskSt) : (setTask s i f).eth = s.eth := rfl
@[simp] theorem setTask_csx (s : State) (i : Nat) (f : TaskSt → TaskSt) : (setTask s i f).csx = s.csx := rfl
@[simp] theorem setTask_loops (s : State) (i : Nat) (f : TaskSt → TaskSt) : (setTask s i f).loops = s.loops := rfl
@[simp] theorem setTask_loopEng (s : State) (i : Nat) (f : TaskSt → TaskSt) : (setTask s i f).loopEng = s.loopEng := rfl
@[simp] theorem setTask_evq (s : State) (i : Nat) (f : TaskSt → TaskSt) : (setTask s i f).evq = s.evq := rfl
@[simp] theorem setTask_faultq (s : State) (i : Nat) (f : TaskSt → TaskSt) : (setTask s i f).faultq = s.faultq := rfl
@[simp] theorem setTask_outbox (s : State) (i : Nat) (f : TaskSt → TaskSt) : (setTask s i f).outbox = s.outbox := rfl
@[simp] theorem setTask_pocket (s : State) (i : Nat) (f : TaskSt → TaskSt) : (setTask s i f).pocket = s.pocket := rfl
@[simp] theorem setTask_rst (s : State) (i : Nat) (f : TaskSt → TaskSt) : (setTask s i f).rst = s.rst := rfl
@[simp] theorem setTask_motion (s : State) (i : Nat) (f : TaskSt → TaskSt) : (setTask s i f).motion = s.motion := rfl
@[simp] theorem setTask_io (s : State) (i : Nat) (f : TaskSt → TaskSt) : (setTask s i f).io = s.io := rfl
@[simp] theorem setTask_twin (s : State) (i : Nat) (f : TaskSt → TaskSt) : (setTask s i f).twin = s.twin := rfl
@[simp] theorem setTask_cv (s : State) (i : Nat) (f : TaskSt → TaskSt) : (setTask s i f).cv = s.cv := rfl
@[simp] theorem setTask_track (s : State) (i : Nat) (f : TaskSt → TaskSt) : (setTask s i f).track = s.track := rfl
@[simp] theorem setTask_streams (s : State) (i : Nat) (f : TaskSt → TaskSt) : (setTask s i f).streams = s.streams := rfl
@[simp] theorem setTask_acq (s : State) (i : Nat) (f : TaskSt → TaskSt) : (setTask s i f).acq = s.acq := rfl
@[simp] theorem setTask_lines (s : State) (i : Nat) (f : TaskSt → TaskSt) : (setTask s i f).lines = s.lines := rfl
@[simp] theorem setTask_freeCtr (s : State) (i : Nat) (f : TaskSt → TaskSt) : (setTask s i f).freeCtr = s.freeCtr := rfl
@[simp] theorem setTask_pending (s : State) (i : Nat) (f : TaskSt → TaskSt) : (setTask s i f).pending = s.pending := rfl
@[simp] theorem setTask_param (s : State) (i : Nat) (f : TaskSt → TaskSt) (pk pi : Nat) : param (setTask s i f) pk pi = param s pk pi := rfl
@[simp] theorem setTask_flag (s : State) (i : Nat) (f : TaskSt → TaskSt) (pk pi : Nat) : flag (setTask s i f) pk pi = flag s pk pi := rfl

@[simp] theorem setEngine_t0 (s : State) (c : Nat) (f : EngineSt → EngineSt) : (setEngine s c f).t0 = s.t0 := rfl
@[simp] theorem setEngine_clock (s : State) (c : Nat) (f : EngineSt → EngineSt) : (setEngine s c f).clock = s.clock := rfl
@[simp] theorem setEngine_islands (s : State) (c : Nat) (f : EngineSt → EngineSt) : (setEngine s c f).islands = s.islands := rfl
@[simp] theorem setEngine_links (s : State) (c : Nat) (f : EngineSt → EngineSt) : (setEngine s c f).links = s.links := rfl
@[simp] theorem setEngine_nodes (s : State) (c : Nat) (f : EngineSt → EngineSt) : (setEngine s c f).nodes = s.nodes := rfl
@[simp] theorem setEngine_memErr (s : State) (c : Nat) (f : EngineSt → EngineSt) : (setEngine s c f).memErr = s.memErr := rfl
@[simp] theorem setEngine_img (s : State) (c : Nat) (f : EngineSt → EngineSt) : (setEngine s c f).img = s.img := rfl
@[simp] theorem setEngine_mode (s : State) (c : Nat) (f : EngineSt → EngineSt) : (setEngine s c f).mode = s.mode := rfl
@[simp] theorem setEngine_params (s : State) (c : Nat) (f : EngineSt → EngineSt) : (setEngine s c f).params = s.params := rfl
@[simp] theorem setEngine_deck (s : State) (c : Nat) (f : EngineSt → EngineSt) : (setEngine s c f).deck = s.deck := rfl
@[simp] theorem setEngine_fw (s : State) (c : Nat) (f : EngineSt → EngineSt) : (setEngine s c f).fw = s.fw := rfl
@[simp] theorem setEngine_recd (s : State) (c : Nat) (f : EngineSt → EngineSt) : (setEngine s c f).recd = s.recd := rfl
@[simp] theorem setEngine_thatch (s : State) (c : Nat) (f : EngineSt → EngineSt) : (setEngine s c f).thatch = s.thatch := rfl
@[simp] theorem setEngine_ridge (s : State) (c : Nat) (f : EngineSt → EngineSt) : (setEngine s c f).ridge = s.ridge := rfl
@[simp] theorem setEngine_host (s : State) (c : Nat) (f : EngineSt → EngineSt) : (setEngine s c f).host = s.host := rfl
@[simp] theorem setEngine_domains (s : State) (c : Nat) (f : EngineSt → EngineSt) : (setEngine s c f).domains = s.domains := rfl
@[simp] theorem setEngine_can (s : State) (c : Nat) (f : EngineSt → EngineSt) : (setEngine s c f).can = s.can := rfl
@[simp] theorem setEngine_eth (s : State) (c : Nat) (f : EngineSt → EngineSt) : (setEngine s c f).eth = s.eth := rfl
@[simp] theorem setEngine_csx (s : State) (c : Nat) (f : EngineSt → EngineSt) : (setEngine s c f).csx = s.csx := rfl
@[simp] theorem setEngine_loops (s : State) (c : Nat) (f : EngineSt → EngineSt) : (setEngine s c f).loops = s.loops := rfl
@[simp] theorem setEngine_loopEng (s : State) (c : Nat) (f : EngineSt → EngineSt) : (setEngine s c f).loopEng = s.loopEng := rfl
@[simp] theorem setEngine_evq (s : State) (c : Nat) (f : EngineSt → EngineSt) : (setEngine s c f).evq = s.evq := rfl
@[simp] theorem setEngine_faultq (s : State) (c : Nat) (f : EngineSt → EngineSt) : (setEngine s c f).faultq = s.faultq := rfl
@[simp] theorem setEngine_outbox (s : State) (c : Nat) (f : EngineSt → EngineSt) : (setEngine s c f).outbox = s.outbox := rfl
@[simp] theorem setEngine_pocket (s : State) (c : Nat) (f : EngineSt → EngineSt) : (setEngine s c f).pocket = s.pocket := rfl
@[simp] theorem setEngine_rst (s : State) (c : Nat) (f : EngineSt → EngineSt) : (setEngine s c f).rst = s.rst := rfl
@[simp] theorem setEngine_motion (s : State) (c : Nat) (f : EngineSt → EngineSt) : (setEngine s c f).motion = s.motion := rfl
@[simp] theorem setEngine_io (s : State) (c : Nat) (f : EngineSt → EngineSt) : (setEngine s c f).io = s.io := rfl
@[simp] theorem setEngine_twin (s : State) (c : Nat) (f : EngineSt → EngineSt) : (setEngine s c f).twin = s.twin := rfl
@[simp] theorem setEngine_cv (s : State) (c : Nat) (f : EngineSt → EngineSt) : (setEngine s c f).cv = s.cv := rfl
@[simp] theorem setEngine_track (s : State) (c : Nat) (f : EngineSt → EngineSt) : (setEngine s c f).track = s.track := rfl
@[simp] theorem setEngine_streams (s : State) (c : Nat) (f : EngineSt → EngineSt) : (setEngine s c f).streams = s.streams := rfl
@[simp] theorem setEngine_acq (s : State) (c : Nat) (f : EngineSt → EngineSt) : (setEngine s c f).acq = s.acq := rfl
@[simp] theorem setEngine_lines (s : State) (c : Nat) (f : EngineSt → EngineSt) : (setEngine s c f).lines = s.lines := rfl
@[simp] theorem setEngine_freeCtr (s : State) (c : Nat) (f : EngineSt → EngineSt) : (setEngine s c f).freeCtr = s.freeCtr := rfl
@[simp] theorem setEngine_pending (s : State) (c : Nat) (f : EngineSt → EngineSt) : (setEngine s c f).pending = s.pending := rfl
@[simp] theorem setEngine_param (s : State) (c : Nat) (f : EngineSt → EngineSt) (pk pi : Nat) : param (setEngine s c f) pk pi = param s pk pi := rfl
@[simp] theorem setEngine_flag (s : State) (c : Nat) (f : EngineSt → EngineSt) (pk pi : Nat) : flag (setEngine s c f) pk pi = flag s pk pi := rfl

@[simp] theorem setTrack_t0 (s : State) (f : TrackSt → TrackSt) : (setTrack s f).t0 = s.t0 := rfl
@[simp] theorem setTrack_clock (s : State) (f : TrackSt → TrackSt) : (setTrack s f).clock = s.clock := rfl
@[simp] theorem setTrack_islands (s : State) (f : TrackSt → TrackSt) : (setTrack s f).islands = s.islands := rfl
@[simp] theorem setTrack_links (s : State) (f : TrackSt → TrackSt) : (setTrack s f).links = s.links := rfl
@[simp] theorem setTrack_nodes (s : State) (f : TrackSt → TrackSt) : (setTrack s f).nodes = s.nodes := rfl
@[simp] theorem setTrack_memErr (s : State) (f : TrackSt → TrackSt) : (setTrack s f).memErr = s.memErr := rfl
@[simp] theorem setTrack_img (s : State) (f : TrackSt → TrackSt) : (setTrack s f).img = s.img := rfl
@[simp] theorem setTrack_mode (s : State) (f : TrackSt → TrackSt) : (setTrack s f).mode = s.mode := rfl
@[simp] theorem setTrack_params (s : State) (f : TrackSt → TrackSt) : (setTrack s f).params = s.params := rfl
@[simp] theorem setTrack_deck (s : State) (f : TrackSt → TrackSt) : (setTrack s f).deck = s.deck := rfl
@[simp] theorem setTrack_fw (s : State) (f : TrackSt → TrackSt) : (setTrack s f).fw = s.fw := rfl
@[simp] theorem setTrack_sched (s : State) (f : TrackSt → TrackSt) : (setTrack s f).sched = s.sched := rfl
@[simp] theorem setTrack_recd (s : State) (f : TrackSt → TrackSt) : (setTrack s f).recd = s.recd := rfl
@[simp] theorem setTrack_thatch (s : State) (f : TrackSt → TrackSt) : (setTrack s f).thatch = s.thatch := rfl
@[simp] theorem setTrack_ridge (s : State) (f : TrackSt → TrackSt) : (setTrack s f).ridge = s.ridge := rfl
@[simp] theorem setTrack_host (s : State) (f : TrackSt → TrackSt) : (setTrack s f).host = s.host := rfl
@[simp] theorem setTrack_domains (s : State) (f : TrackSt → TrackSt) : (setTrack s f).domains = s.domains := rfl
@[simp] theorem setTrack_can (s : State) (f : TrackSt → TrackSt) : (setTrack s f).can = s.can := rfl
@[simp] theorem setTrack_eth (s : State) (f : TrackSt → TrackSt) : (setTrack s f).eth = s.eth := rfl
@[simp] theorem setTrack_csx (s : State) (f : TrackSt → TrackSt) : (setTrack s f).csx = s.csx := rfl
@[simp] theorem setTrack_loops (s : State) (f : TrackSt → TrackSt) : (setTrack s f).loops = s.loops := rfl
@[simp] theorem setTrack_loopEng (s : State) (f : TrackSt → TrackSt) : (setTrack s f).loopEng = s.loopEng := rfl
@[simp] theorem setTrack_evq (s : State) (f : TrackSt → TrackSt) : (setTrack s f).evq = s.evq := rfl
@[simp] theorem setTrack_faultq (s : State) (f : TrackSt → TrackSt) : (setTrack s f).faultq = s.faultq := rfl
@[simp] theorem setTrack_outbox (s : State) (f : TrackSt → TrackSt) : (setTrack s f).outbox = s.outbox := rfl
@[simp] theorem setTrack_pocket (s : State) (f : TrackSt → TrackSt) : (setTrack s f).pocket = s.pocket := rfl
@[simp] theorem setTrack_rst (s : State) (f : TrackSt → TrackSt) : (setTrack s f).rst = s.rst := rfl
@[simp] theorem setTrack_motion (s : State) (f : TrackSt → TrackSt) : (setTrack s f).motion = s.motion := rfl
@[simp] theorem setTrack_io (s : State) (f : TrackSt → TrackSt) : (setTrack s f).io = s.io := rfl
@[simp] theorem setTrack_twin (s : State) (f : TrackSt → TrackSt) : (setTrack s f).twin = s.twin := rfl
@[simp] theorem setTrack_cv (s : State) (f : TrackSt → TrackSt) : (setTrack s f).cv = s.cv := rfl
@[simp] theorem setTrack_streams (s : State) (f : TrackSt → TrackSt) : (setTrack s f).streams = s.streams := rfl
@[simp] theorem setTrack_acq (s : State) (f : TrackSt → TrackSt) : (setTrack s f).acq = s.acq := rfl
@[simp] theorem setTrack_lines (s : State) (f : TrackSt → TrackSt) : (setTrack s f).lines = s.lines := rfl
@[simp] theorem setTrack_freeCtr (s : State) (f : TrackSt → TrackSt) : (setTrack s f).freeCtr = s.freeCtr := rfl
@[simp] theorem setTrack_pending (s : State) (f : TrackSt → TrackSt) : (setTrack s f).pending = s.pending := rfl
@[simp] theorem setTrack_param (s : State) (f : TrackSt → TrackSt) (pk pi : Nat) : param (setTrack s f) pk pi = param s pk pi := rfl
@[simp] theorem setTrack_flag (s : State) (f : TrackSt → TrackSt) (pk pi : Nat) : flag (setTrack s f) pk pi = flag s pk pi := rfl

@[simp] theorem setStream_t0 (s : State) (k : Nat) (f : StreamSt → StreamSt) : (setStream s k f).t0 = s.t0 := rfl
@[simp] theorem setStream_clock (s : State) (k : Nat) (f : StreamSt → StreamSt) : (setStream s k f).clock = s.clock := rfl
@[simp] theorem setStream_islands (s : State) (k : Nat) (f : StreamSt → StreamSt) : (setStream s k f).islands = s.islands := rfl
@[simp] theorem setStream_links (s : State) (k : Nat) (f : StreamSt → StreamSt) : (setStream s k f).links = s.links := rfl
@[simp] theorem setStream_nodes (s : State) (k : Nat) (f : StreamSt → StreamSt) : (setStream s k f).nodes = s.nodes := rfl
@[simp] theorem setStream_memErr (s : State) (k : Nat) (f : StreamSt → StreamSt) : (setStream s k f).memErr = s.memErr := rfl
@[simp] theorem setStream_img (s : State) (k : Nat) (f : StreamSt → StreamSt) : (setStream s k f).img = s.img := rfl
@[simp] theorem setStream_mode (s : State) (k : Nat) (f : StreamSt → StreamSt) : (setStream s k f).mode = s.mode := rfl
@[simp] theorem setStream_params (s : State) (k : Nat) (f : StreamSt → StreamSt) : (setStream s k f).params = s.params := rfl
@[simp] theorem setStream_deck (s : State) (k : Nat) (f : StreamSt → StreamSt) : (setStream s k f).deck = s.deck := rfl
@[simp] theorem setStream_fw (s : State) (k : Nat) (f : StreamSt → StreamSt) : (setStream s k f).fw = s.fw := rfl
@[simp] theorem setStream_sched (s : State) (k : Nat) (f : StreamSt → StreamSt) : (setStream s k f).sched = s.sched := rfl
@[simp] theorem setStream_recd (s : State) (k : Nat) (f : StreamSt → StreamSt) : (setStream s k f).recd = s.recd := rfl
@[simp] theorem setStream_thatch (s : State) (k : Nat) (f : StreamSt → StreamSt) : (setStream s k f).thatch = s.thatch := rfl
@[simp] theorem setStream_ridge (s : State) (k : Nat) (f : StreamSt → StreamSt) : (setStream s k f).ridge = s.ridge := rfl
@[simp] theorem setStream_host (s : State) (k : Nat) (f : StreamSt → StreamSt) : (setStream s k f).host = s.host := rfl
@[simp] theorem setStream_domains (s : State) (k : Nat) (f : StreamSt → StreamSt) : (setStream s k f).domains = s.domains := rfl
@[simp] theorem setStream_can (s : State) (k : Nat) (f : StreamSt → StreamSt) : (setStream s k f).can = s.can := rfl
@[simp] theorem setStream_eth (s : State) (k : Nat) (f : StreamSt → StreamSt) : (setStream s k f).eth = s.eth := rfl
@[simp] theorem setStream_csx (s : State) (k : Nat) (f : StreamSt → StreamSt) : (setStream s k f).csx = s.csx := rfl
@[simp] theorem setStream_loops (s : State) (k : Nat) (f : StreamSt → StreamSt) : (setStream s k f).loops = s.loops := rfl
@[simp] theorem setStream_loopEng (s : State) (k : Nat) (f : StreamSt → StreamSt) : (setStream s k f).loopEng = s.loopEng := rfl
@[simp] theorem setStream_evq (s : State) (k : Nat) (f : StreamSt → StreamSt) : (setStream s k f).evq = s.evq := rfl
@[simp] theorem setStream_faultq (s : State) (k : Nat) (f : StreamSt → StreamSt) : (setStream s k f).faultq = s.faultq := rfl
@[simp] theorem setStream_outbox (s : State) (k : Nat) (f : StreamSt → StreamSt) : (setStream s k f).outbox = s.outbox := rfl
@[simp] theorem setStream_pocket (s : State) (k : Nat) (f : StreamSt → StreamSt) : (setStream s k f).pocket = s.pocket := rfl
@[simp] theorem setStream_rst (s : State) (k : Nat) (f : StreamSt → StreamSt) : (setStream s k f).rst = s.rst := rfl
@[simp] theorem setStream_motion (s : State) (k : Nat) (f : StreamSt → StreamSt) : (setStream s k f).motion = s.motion := rfl
@[simp] theorem setStream_io (s : State) (k : Nat) (f : StreamSt → StreamSt) : (setStream s k f).io = s.io := rfl
@[simp] theorem setStream_twin (s : State) (k : Nat) (f : StreamSt → StreamSt) : (setStream s k f).twin = s.twin := rfl
@[simp] theorem setStream_cv (s : State) (k : Nat) (f : StreamSt → StreamSt) : (setStream s k f).cv = s.cv := rfl
@[simp] theorem setStream_track (s : State) (k : Nat) (f : StreamSt → StreamSt) : (setStream s k f).track = s.track := rfl
@[simp] theorem setStream_acq (s : State) (k : Nat) (f : StreamSt → StreamSt) : (setStream s k f).acq = s.acq := rfl
@[simp] theorem setStream_lines (s : State) (k : Nat) (f : StreamSt → StreamSt) : (setStream s k f).lines = s.lines := rfl
@[simp] theorem setStream_freeCtr (s : State) (k : Nat) (f : StreamSt → StreamSt) : (setStream s k f).freeCtr = s.freeCtr := rfl
@[simp] theorem setStream_pending (s : State) (k : Nat) (f : StreamSt → StreamSt) : (setStream s k f).pending = s.pending := rfl
@[simp] theorem setStream_param (s : State) (k : Nat) (f : StreamSt → StreamSt) (pk pi : Nat) : param (setStream s k f) pk pi = param s pk pi := rfl
@[simp] theorem setStream_flag (s : State) (k : Nat) (f : StreamSt → StreamSt) (pk pi : Nat) : flag (setStream s k f) pk pi = flag s pk pi := rfl

@[simp] theorem setThatch_t0 (s : State) (f : ThatchSt → ThatchSt) : (setThatch s f).t0 = s.t0 := rfl
@[simp] theorem setThatch_clock (s : State) (f : ThatchSt → ThatchSt) : (setThatch s f).clock = s.clock := rfl
@[simp] theorem setThatch_islands (s : State) (f : ThatchSt → ThatchSt) : (setThatch s f).islands = s.islands := rfl
@[simp] theorem setThatch_links (s : State) (f : ThatchSt → ThatchSt) : (setThatch s f).links = s.links := rfl
@[simp] theorem setThatch_nodes (s : State) (f : ThatchSt → ThatchSt) : (setThatch s f).nodes = s.nodes := rfl
@[simp] theorem setThatch_memErr (s : State) (f : ThatchSt → ThatchSt) : (setThatch s f).memErr = s.memErr := rfl
@[simp] theorem setThatch_img (s : State) (f : ThatchSt → ThatchSt) : (setThatch s f).img = s.img := rfl
@[simp] theorem setThatch_mode (s : State) (f : ThatchSt → ThatchSt) : (setThatch s f).mode = s.mode := rfl
@[simp] theorem setThatch_params (s : State) (f : ThatchSt → ThatchSt) : (setThatch s f).params = s.params := rfl
@[simp] theorem setThatch_deck (s : State) (f : ThatchSt → ThatchSt) : (setThatch s f).deck = s.deck := rfl
@[simp] theorem setThatch_fw (s : State) (f : ThatchSt → ThatchSt) : (setThatch s f).fw = s.fw := rfl
@[simp] theorem setThatch_sched (s : State) (f : ThatchSt → ThatchSt) : (setThatch s f).sched = s.sched := rfl
@[simp] theorem setThatch_recd (s : State) (f : ThatchSt → ThatchSt) : (setThatch s f).recd = s.recd := rfl
@[simp] theorem setThatch_ridge (s : State) (f : ThatchSt → ThatchSt) : (setThatch s f).ridge = s.ridge := rfl
@[simp] theorem setThatch_host (s : State) (f : ThatchSt → ThatchSt) : (setThatch s f).host = s.host := rfl
@[simp] theorem setThatch_domains (s : State) (f : ThatchSt → ThatchSt) : (setThatch s f).domains = s.domains := rfl
@[simp] theorem setThatch_can (s : State) (f : ThatchSt → ThatchSt) : (setThatch s f).can = s.can := rfl
@[simp] theorem setThatch_eth (s : State) (f : ThatchSt → ThatchSt) : (setThatch s f).eth = s.eth := rfl
@[simp] theorem setThatch_csx (s : State) (f : ThatchSt → ThatchSt) : (setThatch s f).csx = s.csx := rfl
@[simp] theorem setThatch_loops (s : State) (f : ThatchSt → ThatchSt) : (setThatch s f).loops = s.loops := rfl
@[simp] theorem setThatch_loopEng (s : State) (f : ThatchSt → ThatchSt) : (setThatch s f).loopEng = s.loopEng := rfl
@[simp] theorem setThatch_evq (s : State) (f : ThatchSt → ThatchSt) : (setThatch s f).evq = s.evq := rfl
@[simp] theorem setThatch_faultq (s : State) (f : ThatchSt → ThatchSt) : (setThatch s f).faultq = s.faultq := rfl
@[simp] theorem setThatch_outbox (s : State) (f : ThatchSt → ThatchSt) : (setThatch s f).outbox = s.outbox := rfl
@[simp] theorem setThatch_pocket (s : State) (f : ThatchSt → ThatchSt) : (setThatch s f).pocket = s.pocket := rfl
@[simp] theorem setThatch_rst (s : State) (f : ThatchSt → ThatchSt) : (setThatch s f).rst = s.rst := rfl
@[simp] theorem setThatch_motion (s : State) (f : ThatchSt → ThatchSt) : (setThatch s f).motion = s.motion := rfl
@[simp] theorem setThatch_io (s : State) (f : ThatchSt → ThatchSt) : (setThatch s f).io = s.io := rfl
@[simp] theorem setThatch_twin (s : State) (f : ThatchSt → ThatchSt) : (setThatch s f).twin = s.twin := rfl
@[simp] theorem setThatch_cv (s : State) (f : ThatchSt → ThatchSt) : (setThatch s f).cv = s.cv := rfl
@[simp] theorem setThatch_track (s : State) (f : ThatchSt → ThatchSt) : (setThatch s f).track = s.track := rfl
@[simp] theorem setThatch_streams (s : State) (f : ThatchSt → ThatchSt) : (setThatch s f).streams = s.streams := rfl
@[simp] theorem setThatch_acq (s : State) (f : ThatchSt → ThatchSt) : (setThatch s f).acq = s.acq := rfl
@[simp] theorem setThatch_lines (s : State) (f : ThatchSt → ThatchSt) : (setThatch s f).lines = s.lines := rfl
@[simp] theorem setThatch_freeCtr (s : State) (f : ThatchSt → ThatchSt) : (setThatch s f).freeCtr = s.freeCtr := rfl
@[simp] theorem setThatch_pending (s : State) (f : ThatchSt → ThatchSt) : (setThatch s f).pending = s.pending := rfl
@[simp] theorem setThatch_param (s : State) (f : ThatchSt → ThatchSt) (pk pi : Nat) : param (setThatch s f) pk pi = param s pk pi := rfl
@[simp] theorem setThatch_flag (s : State) (f : ThatchSt → ThatchSt) (pk pi : Nat) : flag (setThatch s f) pk pi = flag s pk pi := rfl

@[simp] theorem setNode_t0 (s : State) (n : Nat) (f : NodeSt → NodeSt) : (setNode s n f).t0 = s.t0 := rfl
@[simp] theorem setNode_clock (s : State) (n : Nat) (f : NodeSt → NodeSt) : (setNode s n f).clock = s.clock := rfl
@[simp] theorem setNode_islands (s : State) (n : Nat) (f : NodeSt → NodeSt) : (setNode s n f).islands = s.islands := rfl
@[simp] theorem setNode_links (s : State) (n : Nat) (f : NodeSt → NodeSt) : (setNode s n f).links = s.links := rfl
@[simp] theorem setNode_memErr (s : State) (n : Nat) (f : NodeSt → NodeSt) : (setNode s n f).memErr = s.memErr := rfl
@[simp] theorem setNode_img (s : State) (n : Nat) (f : NodeSt → NodeSt) : (setNode s n f).img = s.img := rfl
@[simp] theorem setNode_mode (s : State) (n : Nat) (f : NodeSt → NodeSt) : (setNode s n f).mode = s.mode := rfl
@[simp] theorem setNode_params (s : State) (n : Nat) (f : NodeSt → NodeSt) : (setNode s n f).params = s.params := rfl
@[simp] theorem setNode_deck (s : State) (n : Nat) (f : NodeSt → NodeSt) : (setNode s n f).deck = s.deck := rfl
@[simp] theorem setNode_fw (s : State) (n : Nat) (f : NodeSt → NodeSt) : (setNode s n f).fw = s.fw := rfl
@[simp] theorem setNode_sched (s : State) (n : Nat) (f : NodeSt → NodeSt) : (setNode s n f).sched = s.sched := rfl
@[simp] theorem setNode_recd (s : State) (n : Nat) (f : NodeSt → NodeSt) : (setNode s n f).recd = s.recd := rfl
@[simp] theorem setNode_thatch (s : State) (n : Nat) (f : NodeSt → NodeSt) : (setNode s n f).thatch = s.thatch := rfl
@[simp] theorem setNode_ridge (s : State) (n : Nat) (f : NodeSt → NodeSt) : (setNode s n f).ridge = s.ridge := rfl
@[simp] theorem setNode_host (s : State) (n : Nat) (f : NodeSt → NodeSt) : (setNode s n f).host = s.host := rfl
@[simp] theorem setNode_domains (s : State) (n : Nat) (f : NodeSt → NodeSt) : (setNode s n f).domains = s.domains := rfl
@[simp] theorem setNode_can (s : State) (n : Nat) (f : NodeSt → NodeSt) : (setNode s n f).can = s.can := rfl
@[simp] theorem setNode_eth (s : State) (n : Nat) (f : NodeSt → NodeSt) : (setNode s n f).eth = s.eth := rfl
@[simp] theorem setNode_csx (s : State) (n : Nat) (f : NodeSt → NodeSt) : (setNode s n f).csx = s.csx := rfl
@[simp] theorem setNode_loops (s : State) (n : Nat) (f : NodeSt → NodeSt) : (setNode s n f).loops = s.loops := rfl
@[simp] theorem setNode_loopEng (s : State) (n : Nat) (f : NodeSt → NodeSt) : (setNode s n f).loopEng = s.loopEng := rfl
@[simp] theorem setNode_evq (s : State) (n : Nat) (f : NodeSt → NodeSt) : (setNode s n f).evq = s.evq := rfl
@[simp] theorem setNode_faultq (s : State) (n : Nat) (f : NodeSt → NodeSt) : (setNode s n f).faultq = s.faultq := rfl
@[simp] theorem setNode_outbox (s : State) (n : Nat) (f : NodeSt → NodeSt) : (setNode s n f).outbox = s.outbox := rfl
@[simp] theorem setNode_pocket (s : State) (n : Nat) (f : NodeSt → NodeSt) : (setNode s n f).pocket = s.pocket := rfl
@[simp] theorem setNode_rst (s : State) (n : Nat) (f : NodeSt → NodeSt) : (setNode s n f).rst = s.rst := rfl
@[simp] theorem setNode_motion (s : State) (n : Nat) (f : NodeSt → NodeSt) : (setNode s n f).motion = s.motion := rfl
@[simp] theorem setNode_io (s : State) (n : Nat) (f : NodeSt → NodeSt) : (setNode s n f).io = s.io := rfl
@[simp] theorem setNode_twin (s : State) (n : Nat) (f : NodeSt → NodeSt) : (setNode s n f).twin = s.twin := rfl
@[simp] theorem setNode_cv (s : State) (n : Nat) (f : NodeSt → NodeSt) : (setNode s n f).cv = s.cv := rfl
@[simp] theorem setNode_track (s : State) (n : Nat) (f : NodeSt → NodeSt) : (setNode s n f).track = s.track := rfl
@[simp] theorem setNode_streams (s : State) (n : Nat) (f : NodeSt → NodeSt) : (setNode s n f).streams = s.streams := rfl
@[simp] theorem setNode_acq (s : State) (n : Nat) (f : NodeSt → NodeSt) : (setNode s n f).acq = s.acq := rfl
@[simp] theorem setNode_lines (s : State) (n : Nat) (f : NodeSt → NodeSt) : (setNode s n f).lines = s.lines := rfl
@[simp] theorem setNode_freeCtr (s : State) (n : Nat) (f : NodeSt → NodeSt) : (setNode s n f).freeCtr = s.freeCtr := rfl
@[simp] theorem setNode_pending (s : State) (n : Nat) (f : NodeSt → NodeSt) : (setNode s n f).pending = s.pending := rfl
@[simp] theorem setNode_param (s : State) (n : Nat) (f : NodeSt → NodeSt) (pk pi : Nat) : param (setNode s n f) pk pi = param s pk pi := rfl
@[simp] theorem setNode_flag (s : State) (n : Nat) (f : NodeSt → NodeSt) (pk pi : Nat) : flag (setNode s n f) pk pi = flag s pk pi := rfl

@[simp] theorem setIsland_t0 (s : State) (i : Nat) (f : IslandSt → IslandSt) : (setIsland s i f).t0 = s.t0 := rfl
@[simp] theorem setIsland_clock (s : State) (i : Nat) (f : IslandSt → IslandSt) : (setIsland s i f).clock = s.clock := rfl
@[simp] theorem setIsland_links (s : State) (i : Nat) (f : IslandSt → IslandSt) : (setIsland s i f).links = s.links := rfl
@[simp] theorem setIsland_nodes (s : State) (i : Nat) (f : IslandSt → IslandSt) : (setIsland s i f).nodes = s.nodes := rfl
@[simp] theorem setIsland_memErr (s : State) (i : Nat) (f : IslandSt → IslandSt) : (setIsland s i f).memErr = s.memErr := rfl
@[simp] theorem setIsland_img (s : State) (i : Nat) (f : IslandSt → IslandSt) : (setIsland s i f).img = s.img := rfl
@[simp] theorem setIsland_mode (s : State) (i : Nat) (f : IslandSt → IslandSt) : (setIsland s i f).mode = s.mode := rfl
@[simp] theorem setIsland_params (s : State) (i : Nat) (f : IslandSt → IslandSt) : (setIsland s i f).params = s.params := rfl
@[simp] theorem setIsland_deck (s : State) (i : Nat) (f : IslandSt → IslandSt) : (setIsland s i f).deck = s.deck := rfl
@[simp] theorem setIsland_fw (s : State) (i : Nat) (f : IslandSt → IslandSt) : (setIsland s i f).fw = s.fw := rfl
@[simp] theorem setIsland_sched (s : State) (i : Nat) (f : IslandSt → IslandSt) : (setIsland s i f).sched = s.sched := rfl
@[simp] theorem setIsland_recd (s : State) (i : Nat) (f : IslandSt → IslandSt) : (setIsland s i f).recd = s.recd := rfl
@[simp] theorem setIsland_thatch (s : State) (i : Nat) (f : IslandSt → IslandSt) : (setIsland s i f).thatch = s.thatch := rfl
@[simp] theorem setIsland_ridge (s : State) (i : Nat) (f : IslandSt → IslandSt) : (setIsland s i f).ridge = s.ridge := rfl
@[simp] theorem setIsland_host (s : State) (i : Nat) (f : IslandSt → IslandSt) : (setIsland s i f).host = s.host := rfl
@[simp] theorem setIsland_domains (s : State) (i : Nat) (f : IslandSt → IslandSt) : (setIsland s i f).domains = s.domains := rfl
@[simp] theorem setIsland_can (s : State) (i : Nat) (f : IslandSt → IslandSt) : (setIsland s i f).can = s.can := rfl
@[simp] theorem setIsland_eth (s : State) (i : Nat) (f : IslandSt → IslandSt) : (setIsland s i f).eth = s.eth := rfl
@[simp] theorem setIsland_csx (s : State) (i : Nat) (f : IslandSt → IslandSt) : (setIsland s i f).csx = s.csx := rfl
@[simp] theorem setIsland_loops (s : State) (i : Nat) (f : IslandSt → IslandSt) : (setIsland s i f).loops = s.loops := rfl
@[simp] theorem setIsland_loopEng (s : State) (i : Nat) (f : IslandSt → IslandSt) : (setIsland s i f).loopEng = s.loopEng := rfl
@[simp] theorem setIsland_evq (s : State) (i : Nat) (f : IslandSt → IslandSt) : (setIsland s i f).evq = s.evq := rfl
@[simp] theorem setIsland_faultq (s : State) (i : Nat) (f : IslandSt → IslandSt) : (setIsland s i f).faultq = s.faultq := rfl
@[simp] theorem setIsland_outbox (s : State) (i : Nat) (f : IslandSt → IslandSt) : (setIsland s i f).outbox = s.outbox := rfl
@[simp] theorem setIsland_pocket (s : State) (i : Nat) (f : IslandSt → IslandSt) : (setIsland s i f).pocket = s.pocket := rfl
@[simp] theorem setIsland_rst (s : State) (i : Nat) (f : IslandSt → IslandSt) : (setIsland s i f).rst = s.rst := rfl
@[simp] theorem setIsland_motion (s : State) (i : Nat) (f : IslandSt → IslandSt) : (setIsland s i f).motion = s.motion := rfl
@[simp] theorem setIsland_io (s : State) (i : Nat) (f : IslandSt → IslandSt) : (setIsland s i f).io = s.io := rfl
@[simp] theorem setIsland_twin (s : State) (i : Nat) (f : IslandSt → IslandSt) : (setIsland s i f).twin = s.twin := rfl
@[simp] theorem setIsland_cv (s : State) (i : Nat) (f : IslandSt → IslandSt) : (setIsland s i f).cv = s.cv := rfl
@[simp] theorem setIsland_track (s : State) (i : Nat) (f : IslandSt → IslandSt) : (setIsland s i f).track = s.track := rfl
@[simp] theorem setIsland_streams (s : State) (i : Nat) (f : IslandSt → IslandSt) : (setIsland s i f).streams = s.streams := rfl
@[simp] theorem setIsland_acq (s : State) (i : Nat) (f : IslandSt → IslandSt) : (setIsland s i f).acq = s.acq := rfl
@[simp] theorem setIsland_lines (s : State) (i : Nat) (f : IslandSt → IslandSt) : (setIsland s i f).lines = s.lines := rfl
@[simp] theorem setIsland_freeCtr (s : State) (i : Nat) (f : IslandSt → IslandSt) : (setIsland s i f).freeCtr = s.freeCtr := rfl
@[simp] theorem setIsland_pending (s : State) (i : Nat) (f : IslandSt → IslandSt) : (setIsland s i f).pending = s.pending := rfl
@[simp] theorem setIsland_param (s : State) (i : Nat) (f : IslandSt → IslandSt) (pk pi : Nat) : param (setIsland s i f) pk pi = param s pk pi := rfl
@[simp] theorem setIsland_flag (s : State) (i : Nat) (f : IslandSt → IslandSt) (pk pi : Nat) : flag (setIsland s i f) pk pi = flag s pk pi := rfl

@[simp] theorem setDomain_t0 (s : State) (d : Nat) (f : DomainSt → DomainSt) : (setDomain s d f).t0 = s.t0 := rfl
@[simp] theorem setDomain_clock (s : State) (d : Nat) (f : DomainSt → DomainSt) : (setDomain s d f).clock = s.clock := rfl
@[simp] theorem setDomain_islands (s : State) (d : Nat) (f : DomainSt → DomainSt) : (setDomain s d f).islands = s.islands := rfl
@[simp] theorem setDomain_links (s : State) (d : Nat) (f : DomainSt → DomainSt) : (setDomain s d f).links = s.links := rfl
@[simp] theorem setDomain_nodes (s : State) (d : Nat) (f : DomainSt → DomainSt) : (setDomain s d f).nodes = s.nodes := rfl
@[simp] theorem setDomain_memErr (s : State) (d : Nat) (f : DomainSt → DomainSt) : (setDomain s d f).memErr = s.memErr := rfl
@[simp] theorem setDomain_img (s : State) (d : Nat) (f : DomainSt → DomainSt) : (setDomain s d f).img = s.img := rfl
@[simp] theorem setDomain_mode (s : State) (d : Nat) (f : DomainSt → DomainSt) : (setDomain s d f).mode = s.mode := rfl
@[simp] theorem setDomain_params (s : State) (d : Nat) (f : DomainSt → DomainSt) : (setDomain s d f).params = s.params := rfl
@[simp] theorem setDomain_deck (s : State) (d : Nat) (f : DomainSt → DomainSt) : (setDomain s d f).deck = s.deck := rfl
@[simp] theorem setDomain_fw (s : State) (d : Nat) (f : DomainSt → DomainSt) : (setDomain s d f).fw = s.fw := rfl
@[simp] theorem setDomain_sched (s : State) (d : Nat) (f : DomainSt → DomainSt) : (setDomain s d f).sched = s.sched := rfl
@[simp] theorem setDomain_recd (s : State) (d : Nat) (f : DomainSt → DomainSt) : (setDomain s d f).recd = s.recd := rfl
@[simp] theorem setDomain_thatch (s : State) (d : Nat) (f : DomainSt → DomainSt) : (setDomain s d f).thatch = s.thatch := rfl
@[simp] theorem setDomain_ridge (s : State) (d : Nat) (f : DomainSt → DomainSt) : (setDomain s d f).ridge = s.ridge := rfl
@[simp] theorem setDomain_host (s : State) (d : Nat) (f : DomainSt → DomainSt) : (setDomain s d f).host = s.host := rfl
@[simp] theorem setDomain_can (s : State) (d : Nat) (f : DomainSt → DomainSt) : (setDomain s d f).can = s.can := rfl
@[simp] theorem setDomain_eth (s : State) (d : Nat) (f : DomainSt → DomainSt) : (setDomain s d f).eth = s.eth := rfl
@[simp] theorem setDomain_csx (s : State) (d : Nat) (f : DomainSt → DomainSt) : (setDomain s d f).csx = s.csx := rfl
@[simp] theorem setDomain_loops (s : State) (d : Nat) (f : DomainSt → DomainSt) : (setDomain s d f).loops = s.loops := rfl
@[simp] theorem setDomain_loopEng (s : State) (d : Nat) (f : DomainSt → DomainSt) : (setDomain s d f).loopEng = s.loopEng := rfl
@[simp] theorem setDomain_evq (s : State) (d : Nat) (f : DomainSt → DomainSt) : (setDomain s d f).evq = s.evq := rfl
@[simp] theorem setDomain_faultq (s : State) (d : Nat) (f : DomainSt → DomainSt) : (setDomain s d f).faultq = s.faultq := rfl
@[simp] theorem setDomain_outbox (s : State) (d : Nat) (f : DomainSt → DomainSt) : (setDomain s d f).outbox = s.outbox := rfl
@[simp] theorem setDomain_pocket (s : State) (d : Nat) (f : DomainSt → DomainSt) : (setDomain s d f).pocket = s.pocket := rfl
@[simp] theorem setDomain_rst (s : State) (d : Nat) (f : DomainSt → DomainSt) : (setDomain s d f).rst = s.rst := rfl
@[simp] theorem setDomain_motion (s : State) (d : Nat) (f : DomainSt → DomainSt) : (setDomain s d f).motion = s.motion := rfl
@[simp] theorem setDomain_io (s : State) (d : Nat) (f : DomainSt → DomainSt) : (setDomain s d f).io = s.io := rfl
@[simp] theorem setDomain_twin (s : State) (d : Nat) (f : DomainSt → DomainSt) : (setDomain s d f).twin = s.twin := rfl
@[simp] theorem setDomain_cv (s : State) (d : Nat) (f : DomainSt → DomainSt) : (setDomain s d f).cv = s.cv := rfl
@[simp] theorem setDomain_track (s : State) (d : Nat) (f : DomainSt → DomainSt) : (setDomain s d f).track = s.track := rfl
@[simp] theorem setDomain_streams (s : State) (d : Nat) (f : DomainSt → DomainSt) : (setDomain s d f).streams = s.streams := rfl
@[simp] theorem setDomain_acq (s : State) (d : Nat) (f : DomainSt → DomainSt) : (setDomain s d f).acq = s.acq := rfl
@[simp] theorem setDomain_lines (s : State) (d : Nat) (f : DomainSt → DomainSt) : (setDomain s d f).lines = s.lines := rfl
@[simp] theorem setDomain_freeCtr (s : State) (d : Nat) (f : DomainSt → DomainSt) : (setDomain s d f).freeCtr = s.freeCtr := rfl
@[simp] theorem setDomain_pending (s : State) (d : Nat) (f : DomainSt → DomainSt) : (setDomain s d f).pending = s.pending := rfl
@[simp] theorem setDomain_param (s : State) (d : Nat) (f : DomainSt → DomainSt) (pk pi : Nat) : param (setDomain s d f) pk pi = param s pk pi := rfl
@[simp] theorem setDomain_flag (s : State) (d : Nat) (f : DomainSt → DomainSt) (pk pi : Nat) : flag (setDomain s d f) pk pi = flag s pk pi := rfl

@[simp] theorem setTwin_t0 (s : State) (f : TwinSt → TwinSt) : (setTwin s f).t0 = s.t0 := rfl
@[simp] theorem setTwin_clock (s : State) (f : TwinSt → TwinSt) : (setTwin s f).clock = s.clock := rfl
@[simp] theorem setTwin_islands (s : State) (f : TwinSt → TwinSt) : (setTwin s f).islands = s.islands := rfl
@[simp] theorem setTwin_links (s : State) (f : TwinSt → TwinSt) : (setTwin s f).links = s.links := rfl
@[simp] theorem setTwin_nodes (s : State) (f : TwinSt → TwinSt) : (setTwin s f).nodes = s.nodes := rfl
@[simp] theorem setTwin_memErr (s : State) (f : TwinSt → TwinSt) : (setTwin s f).memErr = s.memErr := rfl
@[simp] theorem setTwin_img (s : State) (f : TwinSt → TwinSt) : (setTwin s f).img = s.img := rfl
@[simp] theorem setTwin_mode (s : State) (f : TwinSt → TwinSt) : (setTwin s f).mode = s.mode := rfl
@[simp] theorem setTwin_params (s : State) (f : TwinSt → TwinSt) : (setTwin s f).params = s.params := rfl
@[simp] theorem setTwin_deck (s : State) (f : TwinSt → TwinSt) : (setTwin s f).deck = s.deck := rfl
@[simp] theorem setTwin_fw (s : State) (f : TwinSt → TwinSt) : (setTwin s f).fw = s.fw := rfl
@[simp] theorem setTwin_sched (s : State) (f : TwinSt → TwinSt) : (setTwin s f).sched = s.sched := rfl
@[simp] theorem setTwin_recd (s : State) (f : TwinSt → TwinSt) : (setTwin s f).recd = s.recd := rfl
@[simp] theorem setTwin_thatch (s : State) (f : TwinSt → TwinSt) : (setTwin s f).thatch = s.thatch := rfl
@[simp] theorem setTwin_ridge (s : State) (f : TwinSt → TwinSt) : (setTwin s f).ridge = s.ridge := rfl
@[simp] theorem setTwin_host (s : State) (f : TwinSt → TwinSt) : (setTwin s f).host = s.host := rfl
@[simp] theorem setTwin_domains (s : State) (f : TwinSt → TwinSt) : (setTwin s f).domains = s.domains := rfl
@[simp] theorem setTwin_can (s : State) (f : TwinSt → TwinSt) : (setTwin s f).can = s.can := rfl
@[simp] theorem setTwin_eth (s : State) (f : TwinSt → TwinSt) : (setTwin s f).eth = s.eth := rfl
@[simp] theorem setTwin_csx (s : State) (f : TwinSt → TwinSt) : (setTwin s f).csx = s.csx := rfl
@[simp] theorem setTwin_loops (s : State) (f : TwinSt → TwinSt) : (setTwin s f).loops = s.loops := rfl
@[simp] theorem setTwin_loopEng (s : State) (f : TwinSt → TwinSt) : (setTwin s f).loopEng = s.loopEng := rfl
@[simp] theorem setTwin_evq (s : State) (f : TwinSt → TwinSt) : (setTwin s f).evq = s.evq := rfl
@[simp] theorem setTwin_faultq (s : State) (f : TwinSt → TwinSt) : (setTwin s f).faultq = s.faultq := rfl
@[simp] theorem setTwin_outbox (s : State) (f : TwinSt → TwinSt) : (setTwin s f).outbox = s.outbox := rfl
@[simp] theorem setTwin_pocket (s : State) (f : TwinSt → TwinSt) : (setTwin s f).pocket = s.pocket := rfl
@[simp] theorem setTwin_rst (s : State) (f : TwinSt → TwinSt) : (setTwin s f).rst = s.rst := rfl
@[simp] theorem setTwin_motion (s : State) (f : TwinSt → TwinSt) : (setTwin s f).motion = s.motion := rfl
@[simp] theorem setTwin_io (s : State) (f : TwinSt → TwinSt) : (setTwin s f).io = s.io := rfl
@[simp] theorem setTwin_cv (s : State) (f : TwinSt → TwinSt) : (setTwin s f).cv = s.cv := rfl
@[simp] theorem setTwin_track (s : State) (f : TwinSt → TwinSt) : (setTwin s f).track = s.track := rfl
@[simp] theorem setTwin_streams (s : State) (f : TwinSt → TwinSt) : (setTwin s f).streams = s.streams := rfl
@[simp] theorem setTwin_acq (s : State) (f : TwinSt → TwinSt) : (setTwin s f).acq = s.acq := rfl
@[simp] theorem setTwin_lines (s : State) (f : TwinSt → TwinSt) : (setTwin s f).lines = s.lines := rfl
@[simp] theorem setTwin_freeCtr (s : State) (f : TwinSt → TwinSt) : (setTwin s f).freeCtr = s.freeCtr := rfl
@[simp] theorem setTwin_pending (s : State) (f : TwinSt → TwinSt) : (setTwin s f).pending = s.pending := rfl
@[simp] theorem setTwin_param (s : State) (f : TwinSt → TwinSt) (pk pi : Nat) : param (setTwin s f) pk pi = param s pk pi := rfl
@[simp] theorem setTwin_flag (s : State) (f : TwinSt → TwinSt) (pk pi : Nat) : flag (setTwin s f) pk pi = flag s pk pi := rfl

@[simp] theorem note_t0 (s : State) (e : Ev) (i u o : Nat) (l : List Nat) : (note s e i u o l).t0 = s.t0 := by unfold note; split <;> rfl
@[simp] theorem note_clock (s : State) (e : Ev) (i u o : Nat) (l : List Nat) : (note s e i u o l).clock = s.clock := by unfold note; split <;> rfl
@[simp] theorem note_islands (s : State) (e : Ev) (i u o : Nat) (l : List Nat) : (note s e i u o l).islands = s.islands := by unfold note; split <;> rfl
@[simp] theorem note_links (s : State) (e : Ev) (i u o : Nat) (l : List Nat) : (note s e i u o l).links = s.links := by unfold note; split <;> rfl
@[simp] theorem note_memErr (s : State) (e : Ev) (i u o : Nat) (l : List Nat) : (note s e i u o l).memErr = s.memErr := by unfold note; split <;> rfl
@[simp] theorem note_img (s : State) (e : Ev) (i u o : Nat) (l : List Nat) : (note s e i u o l).img = s.img := by unfold note; split <;> rfl
@[simp] theorem note_mode (s : State) (e : Ev) (i u o : Nat) (l : List Nat) : (note s e i u o l).mode = s.mode := by unfold note; split <;> rfl
@[simp] theorem note_params (s : State) (e : Ev) (i u o : Nat) (l : List Nat) : (note s e i u o l).params = s.params := by unfold note; split <;> rfl
@[simp] theorem note_deck (s : State) (e : Ev) (i u o : Nat) (l : List Nat) : (note s e i u o l).deck = s.deck := by unfold note; split <;> rfl
@[simp] theorem note_fw (s : State) (e : Ev) (i u o : Nat) (l : List Nat) : (note s e i u o l).fw = s.fw := by unfold note; split <;> rfl
@[simp] theorem note_sched (s : State) (e : Ev) (i u o : Nat) (l : List Nat) : (note s e i u o l).sched = s.sched := by unfold note; split <;> rfl
@[simp] theorem note_recd (s : State) (e : Ev) (i u o : Nat) (l : List Nat) : (note s e i u o l).recd = s.recd := by unfold note; split <;> rfl
@[simp] theorem note_thatch (s : State) (e : Ev) (i u o : Nat) (l : List Nat) : (note s e i u o l).thatch = s.thatch := by unfold note; split <;> rfl
@[simp] theorem note_ridge (s : State) (e : Ev) (i u o : Nat) (l : List Nat) : (note s e i u o l).ridge = s.ridge := by unfold note; split <;> rfl
@[simp] theorem note_host (s : State) (e : Ev) (i u o : Nat) (l : List Nat) : (note s e i u o l).host = s.host := by unfold note; split <;> rfl
@[simp] theorem note_domains (s : State) (e : Ev) (i u o : Nat) (l : List Nat) : (note s e i u o l).domains = s.domains := by unfold note; split <;> rfl
@[simp] theorem note_can (s : State) (e : Ev) (i u o : Nat) (l : List Nat) : (note s e i u o l).can = s.can := by unfold note; split <;> rfl
@[simp] theorem note_eth (s : State) (e : Ev) (i u o : Nat) (l : List Nat) : (note s e i u o l).eth = s.eth := by unfold note; split <;> rfl
@[simp] theorem note_csx (s : State) (e : Ev) (i u o : Nat) (l : List Nat) : (note s e i u o l).csx = s.csx := by unfold note; split <;> rfl
@[simp] theorem note_loops (s : State) (e : Ev) (i u o : Nat) (l : List Nat) : (note s e i u o l).loops = s.loops := by unfold note; split <;> rfl
@[simp] theorem note_loopEng (s : State) (e : Ev) (i u o : Nat) (l : List Nat) : (note s e i u o l).loopEng = s.loopEng := by unfold note; split <;> rfl
@[simp] theorem note_faultq (s : State) (e : Ev) (i u o : Nat) (l : List Nat) : (note s e i u o l).faultq = s.faultq := by unfold note; split <;> rfl
@[simp] theorem note_outbox (s : State) (e : Ev) (i u o : Nat) (l : List Nat) : (note s e i u o l).outbox = s.outbox := by unfold note; split <;> rfl
@[simp] theorem note_pocket (s : State) (e : Ev) (i u o : Nat) (l : List Nat) : (note s e i u o l).pocket = s.pocket := by unfold note; split <;> rfl
@[simp] theorem note_rst (s : State) (e : Ev) (i u o : Nat) (l : List Nat) : (note s e i u o l).rst = s.rst := by unfold note; split <;> rfl
@[simp] theorem note_motion (s : State) (e : Ev) (i u o : Nat) (l : List Nat) : (note s e i u o l).motion = s.motion := by unfold note; split <;> rfl
@[simp] theorem note_io (s : State) (e : Ev) (i u o : Nat) (l : List Nat) : (note s e i u o l).io = s.io := by unfold note; split <;> rfl
@[simp] theorem note_twin (s : State) (e : Ev) (i u o : Nat) (l : List Nat) : (note s e i u o l).twin = s.twin := by unfold note; split <;> rfl
@[simp] theorem note_cv (s : State) (e : Ev) (i u o : Nat) (l : List Nat) : (note s e i u o l).cv = s.cv := by unfold note; split <;> rfl
@[simp] theorem note_track (s : State) (e : Ev) (i u o : Nat) (l : List Nat) : (note s e i u o l).track = s.track := by unfold note; split <;> rfl
@[simp] theorem note_streams (s : State) (e : Ev) (i u o : Nat) (l : List Nat) : (note s e i u o l).streams = s.streams := by unfold note; split <;> rfl
@[simp] theorem note_acq (s : State) (e : Ev) (i u o : Nat) (l : List Nat) : (note s e i u o l).acq = s.acq := by unfold note; split <;> rfl
@[simp] theorem note_lines (s : State) (e : Ev) (i u o : Nat) (l : List Nat) : (note s e i u o l).lines = s.lines := by unfold note; split <;> rfl
@[simp] theorem note_freeCtr (s : State) (e : Ev) (i u o : Nat) (l : List Nat) : (note s e i u o l).freeCtr = s.freeCtr := by unfold note; split <;> rfl
@[simp] theorem note_pending (s : State) (e : Ev) (i u o : Nat) (l : List Nat) : (note s e i u o l).pending = s.pending := by unfold note; split <;> rfl
@[simp] theorem note_param (s : State) (e : Ev) (i u o : Nat) (l : List Nat) (pk pi : Nat) : param (note s e i u o l) pk pi = param s pk pi := by simp [param, peff, pbase, inForce]
@[simp] theorem note_flag (s : State) (e : Ev) (i u o : Nat) (l : List Nat) (pk pi : Nat) : flag (note s e i u o l) pk pi = flag s pk pi := by simp [flag]

@[simp] theorem fresh_t0 (s : State) : ((fresh s).2).t0 = s.t0 := rfl
@[simp] theorem fresh_clock (s : State) : ((fresh s).2).clock = s.clock := rfl
@[simp] theorem fresh_islands (s : State) : ((fresh s).2).islands = s.islands := rfl
@[simp] theorem fresh_links (s : State) : ((fresh s).2).links = s.links := rfl
@[simp] theorem fresh_nodes (s : State) : ((fresh s).2).nodes = s.nodes := rfl
@[simp] theorem fresh_memErr (s : State) : ((fresh s).2).memErr = s.memErr := rfl
@[simp] theorem fresh_img (s : State) : ((fresh s).2).img = s.img := rfl
@[simp] theorem fresh_mode (s : State) : ((fresh s).2).mode = s.mode := rfl
@[simp] theorem fresh_params (s : State) : ((fresh s).2).params = s.params := rfl
@[simp] theorem fresh_deck (s : State) : ((fresh s).2).deck = s.deck := rfl
@[simp] theorem fresh_fw (s : State) : ((fresh s).2).fw = s.fw := rfl
@[simp] theorem fresh_sched (s : State) : ((fresh s).2).sched = s.sched := rfl
@[simp] theorem fresh_recd (s : State) : ((fresh s).2).recd = s.recd := rfl
@[simp] theorem fresh_thatch (s : State) : ((fresh s).2).thatch = s.thatch := rfl
@[simp] theorem fresh_ridge (s : State) : ((fresh s).2).ridge = s.ridge := rfl
@[simp] theorem fresh_host (s : State) : ((fresh s).2).host = s.host := rfl
@[simp] theorem fresh_domains (s : State) : ((fresh s).2).domains = s.domains := rfl
@[simp] theorem fresh_can (s : State) : ((fresh s).2).can = s.can := rfl
@[simp] theorem fresh_eth (s : State) : ((fresh s).2).eth = s.eth := rfl
@[simp] theorem fresh_csx (s : State) : ((fresh s).2).csx = s.csx := rfl
@[simp] theorem fresh_loops (s : State) : ((fresh s).2).loops = s.loops := rfl
@[simp] theorem fresh_loopEng (s : State) : ((fresh s).2).loopEng = s.loopEng := rfl
@[simp] theorem fresh_evq (s : State) : ((fresh s).2).evq = s.evq := rfl
@[simp] theorem fresh_faultq (s : State) : ((fresh s).2).faultq = s.faultq := rfl
@[simp] theorem fresh_outbox (s : State) : ((fresh s).2).outbox = s.outbox := rfl
@[simp] theorem fresh_pocket (s : State) : ((fresh s).2).pocket = s.pocket := rfl
@[simp] theorem fresh_rst (s : State) : ((fresh s).2).rst = s.rst := rfl
@[simp] theorem fresh_motion (s : State) : ((fresh s).2).motion = s.motion := rfl
@[simp] theorem fresh_io (s : State) : ((fresh s).2).io = s.io := rfl
@[simp] theorem fresh_twin (s : State) : ((fresh s).2).twin = s.twin := rfl
@[simp] theorem fresh_cv (s : State) : ((fresh s).2).cv = s.cv := rfl
@[simp] theorem fresh_track (s : State) : ((fresh s).2).track = s.track := rfl
@[simp] theorem fresh_streams (s : State) : ((fresh s).2).streams = s.streams := rfl
@[simp] theorem fresh_acq (s : State) : ((fresh s).2).acq = s.acq := rfl
@[simp] theorem fresh_lines (s : State) : ((fresh s).2).lines = s.lines := rfl
@[simp] theorem fresh_pending (s : State) : ((fresh s).2).pending = s.pending := rfl
@[simp] theorem fresh_param (s : State) (pk pi : Nat) : param ((fresh s).2) pk pi = param s pk pi := rfl
@[simp] theorem fresh_flag (s : State) (pk pi : Nat) : flag ((fresh s).2) pk pi = flag s pk pi := by simp [flag]

@[simp] theorem forward_t0 (s : State) (k : Nat) (a : List Nat) (b : List Byte) : (forward s k a b).t0 = s.t0 := by unfold forward send; split <;> rfl
@[simp] theorem forward_clock (s : State) (k : Nat) (a : List Nat) (b : List Byte) : (forward s k a b).clock = s.clock := by unfold forward send; split <;> rfl
@[simp] theorem forward_islands (s : State) (k : Nat) (a : List Nat) (b : List Byte) : (forward s k a b).islands = s.islands := by unfold forward send; split <;> rfl
@[simp] theorem forward_links (s : State) (k : Nat) (a : List Nat) (b : List Byte) : (forward s k a b).links = s.links := by unfold forward send; split <;> rfl
@[simp] theorem forward_nodes (s : State) (k : Nat) (a : List Nat) (b : List Byte) : (forward s k a b).nodes = s.nodes := by unfold forward send; split <;> rfl
@[simp] theorem forward_memErr (s : State) (k : Nat) (a : List Nat) (b : List Byte) : (forward s k a b).memErr = s.memErr := by unfold forward send; split <;> rfl
@[simp] theorem forward_img (s : State) (k : Nat) (a : List Nat) (b : List Byte) : (forward s k a b).img = s.img := by unfold forward send; split <;> rfl
@[simp] theorem forward_mode (s : State) (k : Nat) (a : List Nat) (b : List Byte) : (forward s k a b).mode = s.mode := by unfold forward send; split <;> rfl
@[simp] theorem forward_params (s : State) (k : Nat) (a : List Nat) (b : List Byte) : (forward s k a b).params = s.params := by unfold forward send; split <;> rfl
@[simp] theorem forward_deck (s : State) (k : Nat) (a : List Nat) (b : List Byte) : (forward s k a b).deck = s.deck := by unfold forward send; split <;> rfl
@[simp] theorem forward_fw (s : State) (k : Nat) (a : List Nat) (b : List Byte) : (forward s k a b).fw = s.fw := by unfold forward send; split <;> rfl
@[simp] theorem forward_sched (s : State) (k : Nat) (a : List Nat) (b : List Byte) : (forward s k a b).sched = s.sched := by unfold forward send; split <;> rfl
@[simp] theorem forward_recd (s : State) (k : Nat) (a : List Nat) (b : List Byte) : (forward s k a b).recd = s.recd := by unfold forward send; split <;> rfl
@[simp] theorem forward_thatch (s : State) (k : Nat) (a : List Nat) (b : List Byte) : (forward s k a b).thatch = s.thatch := by unfold forward send; split <;> rfl
@[simp] theorem forward_ridge (s : State) (k : Nat) (a : List Nat) (b : List Byte) : (forward s k a b).ridge = s.ridge := by unfold forward send; split <;> rfl
@[simp] theorem forward_host (s : State) (k : Nat) (a : List Nat) (b : List Byte) : (forward s k a b).host = s.host := by unfold forward send; split <;> rfl
@[simp] theorem forward_domains (s : State) (k : Nat) (a : List Nat) (b : List Byte) : (forward s k a b).domains = s.domains := by unfold forward send; split <;> rfl
@[simp] theorem forward_can (s : State) (k : Nat) (a : List Nat) (b : List Byte) : (forward s k a b).can = s.can := by unfold forward send; split <;> rfl
@[simp] theorem forward_eth (s : State) (k : Nat) (a : List Nat) (b : List Byte) : (forward s k a b).eth = s.eth := by unfold forward send; split <;> rfl
@[simp] theorem forward_csx (s : State) (k : Nat) (a : List Nat) (b : List Byte) : (forward s k a b).csx = s.csx := by unfold forward send; split <;> rfl
@[simp] theorem forward_loops (s : State) (k : Nat) (a : List Nat) (b : List Byte) : (forward s k a b).loops = s.loops := by unfold forward send; split <;> rfl
@[simp] theorem forward_loopEng (s : State) (k : Nat) (a : List Nat) (b : List Byte) : (forward s k a b).loopEng = s.loopEng := by unfold forward send; split <;> rfl
@[simp] theorem forward_evq (s : State) (k : Nat) (a : List Nat) (b : List Byte) : (forward s k a b).evq = s.evq := by unfold forward send; split <;> rfl
@[simp] theorem forward_faultq (s : State) (k : Nat) (a : List Nat) (b : List Byte) : (forward s k a b).faultq = s.faultq := by unfold forward send; split <;> rfl
@[simp] theorem forward_pocket (s : State) (k : Nat) (a : List Nat) (b : List Byte) : (forward s k a b).pocket = s.pocket := by unfold forward send; split <;> rfl
@[simp] theorem forward_rst (s : State) (k : Nat) (a : List Nat) (b : List Byte) : (forward s k a b).rst = s.rst := by unfold forward send; split <;> rfl
@[simp] theorem forward_motion (s : State) (k : Nat) (a : List Nat) (b : List Byte) : (forward s k a b).motion = s.motion := by unfold forward send; split <;> rfl
@[simp] theorem forward_io (s : State) (k : Nat) (a : List Nat) (b : List Byte) : (forward s k a b).io = s.io := by unfold forward send; split <;> rfl
@[simp] theorem forward_twin (s : State) (k : Nat) (a : List Nat) (b : List Byte) : (forward s k a b).twin = s.twin := by unfold forward send; split <;> rfl
@[simp] theorem forward_cv (s : State) (k : Nat) (a : List Nat) (b : List Byte) : (forward s k a b).cv = s.cv := by unfold forward send; split <;> rfl
@[simp] theorem forward_track (s : State) (k : Nat) (a : List Nat) (b : List Byte) : (forward s k a b).track = s.track := by unfold forward send; split <;> rfl
@[simp] theorem forward_streams (s : State) (k : Nat) (a : List Nat) (b : List Byte) : (forward s k a b).streams = s.streams := by unfold forward send; split <;> rfl
@[simp] theorem forward_acq (s : State) (k : Nat) (a : List Nat) (b : List Byte) : (forward s k a b).acq = s.acq := by unfold forward send; split <;> rfl
@[simp] theorem forward_lines (s : State) (k : Nat) (a : List Nat) (b : List Byte) : (forward s k a b).lines = s.lines := by unfold forward send; split <;> rfl
@[simp] theorem forward_freeCtr (s : State) (k : Nat) (a : List Nat) (b : List Byte) : (forward s k a b).freeCtr = s.freeCtr := by unfold forward send; split <;> rfl
@[simp] theorem forward_pending (s : State) (k : Nat) (a : List Nat) (b : List Byte) : (forward s k a b).pending = s.pending := by unfold forward send; split <;> rfl
@[simp] theorem forward_param (s : State) (k : Nat) (a : List Nat) (b : List Byte) (pk pi : Nat) : param (forward s k a b) pk pi = param s pk pi := by simp [param, peff, pbase, inForce]
@[simp] theorem forward_flag (s : State) (k : Nat) (a : List Nat) (b : List Byte) (pk pi : Nat) : flag (forward s k a b) pk pi = flag s pk pi := by simp [flag]

@[simp] theorem putUpdate_t0 (s : State) (t p : Nat) (v : Word) (c : BitVec 16) : (putUpdate s t p v c).t0 = s.t0 := by unfold putUpdate; split <;> rfl
@[simp] theorem putUpdate_clock (s : State) (t p : Nat) (v : Word) (c : BitVec 16) : (putUpdate s t p v c).clock = s.clock := by unfold putUpdate; split <;> rfl
@[simp] theorem putUpdate_islands (s : State) (t p : Nat) (v : Word) (c : BitVec 16) : (putUpdate s t p v c).islands = s.islands := by unfold putUpdate; split <;> rfl
@[simp] theorem putUpdate_links (s : State) (t p : Nat) (v : Word) (c : BitVec 16) : (putUpdate s t p v c).links = s.links := by unfold putUpdate; split <;> rfl
@[simp] theorem putUpdate_nodes (s : State) (t p : Nat) (v : Word) (c : BitVec 16) : (putUpdate s t p v c).nodes = s.nodes := by unfold putUpdate; split <;> rfl
@[simp] theorem putUpdate_memErr (s : State) (t p : Nat) (v : Word) (c : BitVec 16) : (putUpdate s t p v c).memErr = s.memErr := by unfold putUpdate; split <;> rfl
@[simp] theorem putUpdate_mode (s : State) (t p : Nat) (v : Word) (c : BitVec 16) : (putUpdate s t p v c).mode = s.mode := by unfold putUpdate; split <;> rfl
@[simp] theorem putUpdate_params (s : State) (t p : Nat) (v : Word) (c : BitVec 16) : (putUpdate s t p v c).params = s.params := by unfold putUpdate; split <;> rfl
@[simp] theorem putUpdate_deck (s : State) (t p : Nat) (v : Word) (c : BitVec 16) : (putUpdate s t p v c).deck = s.deck := by unfold putUpdate; split <;> rfl
@[simp] theorem putUpdate_fw (s : State) (t p : Nat) (v : Word) (c : BitVec 16) : (putUpdate s t p v c).fw = s.fw := by unfold putUpdate; split <;> rfl
@[simp] theorem putUpdate_sched (s : State) (t p : Nat) (v : Word) (c : BitVec 16) : (putUpdate s t p v c).sched = s.sched := by unfold putUpdate; split <;> rfl
@[simp] theorem putUpdate_recd (s : State) (t p : Nat) (v : Word) (c : BitVec 16) : (putUpdate s t p v c).recd = s.recd := by unfold putUpdate; split <;> rfl
@[simp] theorem putUpdate_thatch (s : State) (t p : Nat) (v : Word) (c : BitVec 16) : (putUpdate s t p v c).thatch = s.thatch := by unfold putUpdate; split <;> rfl
@[simp] theorem putUpdate_ridge (s : State) (t p : Nat) (v : Word) (c : BitVec 16) : (putUpdate s t p v c).ridge = s.ridge := by unfold putUpdate; split <;> rfl
@[simp] theorem putUpdate_host (s : State) (t p : Nat) (v : Word) (c : BitVec 16) : (putUpdate s t p v c).host = s.host := by unfold putUpdate; split <;> rfl
@[simp] theorem putUpdate_domains (s : State) (t p : Nat) (v : Word) (c : BitVec 16) : (putUpdate s t p v c).domains = s.domains := by unfold putUpdate; split <;> rfl
@[simp] theorem putUpdate_can (s : State) (t p : Nat) (v : Word) (c : BitVec 16) : (putUpdate s t p v c).can = s.can := by unfold putUpdate; split <;> rfl
@[simp] theorem putUpdate_eth (s : State) (t p : Nat) (v : Word) (c : BitVec 16) : (putUpdate s t p v c).eth = s.eth := by unfold putUpdate; split <;> rfl
@[simp] theorem putUpdate_csx (s : State) (t p : Nat) (v : Word) (c : BitVec 16) : (putUpdate s t p v c).csx = s.csx := by unfold putUpdate; split <;> rfl
@[simp] theorem putUpdate_loops (s : State) (t p : Nat) (v : Word) (c : BitVec 16) : (putUpdate s t p v c).loops = s.loops := by unfold putUpdate; split <;> rfl
@[simp] theorem putUpdate_loopEng (s : State) (t p : Nat) (v : Word) (c : BitVec 16) : (putUpdate s t p v c).loopEng = s.loopEng := by unfold putUpdate; split <;> rfl
@[simp] theorem putUpdate_evq (s : State) (t p : Nat) (v : Word) (c : BitVec 16) : (putUpdate s t p v c).evq = s.evq := by unfold putUpdate; split <;> rfl
@[simp] theorem putUpdate_faultq (s : State) (t p : Nat) (v : Word) (c : BitVec 16) : (putUpdate s t p v c).faultq = s.faultq := by unfold putUpdate; split <;> rfl
@[simp] theorem putUpdate_outbox (s : State) (t p : Nat) (v : Word) (c : BitVec 16) : (putUpdate s t p v c).outbox = s.outbox := by unfold putUpdate; split <;> rfl
@[simp] theorem putUpdate_pocket (s : State) (t p : Nat) (v : Word) (c : BitVec 16) : (putUpdate s t p v c).pocket = s.pocket := by unfold putUpdate; split <;> rfl
@[simp] theorem putUpdate_rst (s : State) (t p : Nat) (v : Word) (c : BitVec 16) : (putUpdate s t p v c).rst = s.rst := by unfold putUpdate; split <;> rfl
@[simp] theorem putUpdate_motion (s : State) (t p : Nat) (v : Word) (c : BitVec 16) : (putUpdate s t p v c).motion = s.motion := by unfold putUpdate; split <;> rfl
@[simp] theorem putUpdate_io (s : State) (t p : Nat) (v : Word) (c : BitVec 16) : (putUpdate s t p v c).io = s.io := by unfold putUpdate; split <;> rfl
@[simp] theorem putUpdate_twin (s : State) (t p : Nat) (v : Word) (c : BitVec 16) : (putUpdate s t p v c).twin = s.twin := by unfold putUpdate; split <;> rfl
@[simp] theorem putUpdate_cv (s : State) (t p : Nat) (v : Word) (c : BitVec 16) : (putUpdate s t p v c).cv = s.cv := by unfold putUpdate; split <;> rfl
@[simp] theorem putUpdate_track (s : State) (t p : Nat) (v : Word) (c : BitVec 16) : (putUpdate s t p v c).track = s.track := by unfold putUpdate; split <;> rfl
@[simp] theorem putUpdate_streams (s : State) (t p : Nat) (v : Word) (c : BitVec 16) : (putUpdate s t p v c).streams = s.streams := by unfold putUpdate; split <;> rfl
@[simp] theorem putUpdate_acq (s : State) (t p : Nat) (v : Word) (c : BitVec 16) : (putUpdate s t p v c).acq = s.acq := by unfold putUpdate; split <;> rfl
@[simp] theorem putUpdate_lines (s : State) (t p : Nat) (v : Word) (c : BitVec 16) : (putUpdate s t p v c).lines = s.lines := by unfold putUpdate; split <;> rfl
@[simp] theorem putUpdate_freeCtr (s : State) (t p : Nat) (v : Word) (c : BitVec 16) : (putUpdate s t p v c).freeCtr = s.freeCtr := by unfold putUpdate; split <;> rfl
@[simp] theorem putUpdate_pending (s : State) (t p : Nat) (v : Word) (c : BitVec 16) : (putUpdate s t p v c).pending = s.pending := by unfold putUpdate; split <;> rfl
@[simp] theorem putUpdate_param (s : State) (t p : Nat) (v : Word) (c : BitVec 16) (pk pi : Nat) : param (putUpdate s t p v c) pk pi = param s pk pi := by simp [param, peff, pbase, inForce]
@[simp] theorem putUpdate_flag (s : State) (t p : Nat) (v : Word) (c : BitVec 16) (pk pi : Nat) : flag (putUpdate s t p v c) pk pi = flag s pk pi := by simp [flag]

@[simp] theorem update_t0 (s : State) (t p : Nat) (v : Word) (c : BitVec 16) : (update s t p v c).t0 = s.t0 := by unfold update; split <;> (try split) <;> simp
@[simp] theorem update_clock (s : State) (t p : Nat) (v : Word) (c : BitVec 16) : (update s t p v c).clock = s.clock := by unfold update; split <;> (try split) <;> simp
@[simp] theorem update_islands (s : State) (t p : Nat) (v : Word) (c : BitVec 16) : (update s t p v c).islands = s.islands := by unfold update; split <;> (try split) <;> simp
@[simp] theorem update_links (s : State) (t p : Nat) (v : Word) (c : BitVec 16) : (update s t p v c).links = s.links := by unfold update; split <;> (try split) <;> simp
@[simp] theorem update_nodes (s : State) (t p : Nat) (v : Word) (c : BitVec 16) : (update s t p v c).nodes = s.nodes := by unfold update; split <;> (try split) <;> simp
@[simp] theorem update_memErr (s : State) (t p : Nat) (v : Word) (c : BitVec 16) : (update s t p v c).memErr = s.memErr := by unfold update; split <;> (try split) <;> simp
@[simp] theorem update_mode (s : State) (t p : Nat) (v : Word) (c : BitVec 16) : (update s t p v c).mode = s.mode := by unfold update; split <;> (try split) <;> simp
@[simp] theorem update_params (s : State) (t p : Nat) (v : Word) (c : BitVec 16) : (update s t p v c).params = s.params := by unfold update; split <;> (try split) <;> simp
@[simp] theorem update_deck (s : State) (t p : Nat) (v : Word) (c : BitVec 16) : (update s t p v c).deck = s.deck := by unfold update; split <;> (try split) <;> simp
@[simp] theorem update_fw (s : State) (t p : Nat) (v : Word) (c : BitVec 16) : (update s t p v c).fw = s.fw := by unfold update; split <;> (try split) <;> simp
@[simp] theorem update_sched (s : State) (t p : Nat) (v : Word) (c : BitVec 16) : (update s t p v c).sched = s.sched := by unfold update; split <;> (try split) <;> simp
@[simp] theorem update_recd (s : State) (t p : Nat) (v : Word) (c : BitVec 16) : (update s t p v c).recd = s.recd := by unfold update; split <;> (try split) <;> simp
@[simp] theorem update_thatch (s : State) (t p : Nat) (v : Word) (c : BitVec 16) : (update s t p v c).thatch = s.thatch := by unfold update; split <;> (try split) <;> simp
@[simp] theorem update_ridge (s : State) (t p : Nat) (v : Word) (c : BitVec 16) : (update s t p v c).ridge = s.ridge := by unfold update; split <;> (try split) <;> simp
@[simp] theorem update_host (s : State) (t p : Nat) (v : Word) (c : BitVec 16) : (update s t p v c).host = s.host := by unfold update; split <;> (try split) <;> simp
@[simp] theorem update_domains (s : State) (t p : Nat) (v : Word) (c : BitVec 16) : (update s t p v c).domains = s.domains := by unfold update; split <;> (try split) <;> simp
@[simp] theorem update_can (s : State) (t p : Nat) (v : Word) (c : BitVec 16) : (update s t p v c).can = s.can := by unfold update; split <;> (try split) <;> simp
@[simp] theorem update_eth (s : State) (t p : Nat) (v : Word) (c : BitVec 16) : (update s t p v c).eth = s.eth := by unfold update; split <;> (try split) <;> simp
@[simp] theorem update_csx (s : State) (t p : Nat) (v : Word) (c : BitVec 16) : (update s t p v c).csx = s.csx := by unfold update; split <;> (try split) <;> simp
@[simp] theorem update_loops (s : State) (t p : Nat) (v : Word) (c : BitVec 16) : (update s t p v c).loops = s.loops := by unfold update; split <;> (try split) <;> simp
@[simp] theorem update_loopEng (s : State) (t p : Nat) (v : Word) (c : BitVec 16) : (update s t p v c).loopEng = s.loopEng := by unfold update; split <;> (try split) <;> simp
@[simp] theorem update_evq (s : State) (t p : Nat) (v : Word) (c : BitVec 16) : (update s t p v c).evq = s.evq := by unfold update; split <;> (try split) <;> simp
@[simp] theorem update_faultq (s : State) (t p : Nat) (v : Word) (c : BitVec 16) : (update s t p v c).faultq = s.faultq := by unfold update; split <;> (try split) <;> simp
@[simp] theorem update_pocket (s : State) (t p : Nat) (v : Word) (c : BitVec 16) : (update s t p v c).pocket = s.pocket := by unfold update; split <;> (try split) <;> simp
@[simp] theorem update_rst (s : State) (t p : Nat) (v : Word) (c : BitVec 16) : (update s t p v c).rst = s.rst := by unfold update; split <;> (try split) <;> simp
@[simp] theorem update_motion (s : State) (t p : Nat) (v : Word) (c : BitVec 16) : (update s t p v c).motion = s.motion := by unfold update; split <;> (try split) <;> simp
@[simp] theorem update_io (s : State) (t p : Nat) (v : Word) (c : BitVec 16) : (update s t p v c).io = s.io := by unfold update; split <;> (try split) <;> simp
@[simp] theorem update_twin (s : State) (t p : Nat) (v : Word) (c : BitVec 16) : (update s t p v c).twin = s.twin := by unfold update; split <;> (try split) <;> simp
@[simp] theorem update_cv (s : State) (t p : Nat) (v : Word) (c : BitVec 16) : (update s t p v c).cv = s.cv := by unfold update; split <;> (try split) <;> simp
@[simp] theorem update_track (s : State) (t p : Nat) (v : Word) (c : BitVec 16) : (update s t p v c).track = s.track := by unfold update; split <;> (try split) <;> simp
@[simp] theorem update_streams (s : State) (t p : Nat) (v : Word) (c : BitVec 16) : (update s t p v c).streams = s.streams := by unfold update; split <;> (try split) <;> simp
@[simp] theorem update_acq (s : State) (t p : Nat) (v : Word) (c : BitVec 16) : (update s t p v c).acq = s.acq := by unfold update; split <;> (try split) <;> simp
@[simp] theorem update_lines (s : State) (t p : Nat) (v : Word) (c : BitVec 16) : (update s t p v c).lines = s.lines := by unfold update; split <;> (try split) <;> simp
@[simp] theorem update_freeCtr (s : State) (t p : Nat) (v : Word) (c : BitVec 16) : (update s t p v c).freeCtr = s.freeCtr := by unfold update; split <;> (try split) <;> simp
@[simp] theorem update_pending (s : State) (t p : Nat) (v : Word) (c : BitVec 16) : (update s t p v c).pending = s.pending := by unfold update; split <;> (try split) <;> simp
@[simp] theorem update_param (s : State) (t p : Nat) (v : Word) (c : BitVec 16) (pk pi : Nat) : param (update s t p v c) pk pi = param s pk pi := by simp [param, peff, pbase, inForce]
@[simp] theorem update_flag (s : State) (t p : Nat) (v : Word) (c : BitVec 16) (pk pi : Nat) : flag (update s t p v c) pk pi = flag s pk pi := by simp [flag]

@[simp] theorem sysPoint_t0 (s : State) (i v : Nat) : (sysPoint s i v).t0 = s.t0 := by simp [sysPoint]
@[simp] theorem sysPoint_clock (s : State) (i v : Nat) : (sysPoint s i v).clock = s.clock := by simp [sysPoint]
@[simp] theorem sysPoint_islands (s : State) (i v : Nat) : (sysPoint s i v).islands = s.islands := by simp [sysPoint]
@[simp] theorem sysPoint_links (s : State) (i v : Nat) : (sysPoint s i v).links = s.links := by simp [sysPoint]
@[simp] theorem sysPoint_nodes (s : State) (i v : Nat) : (sysPoint s i v).nodes = s.nodes := by simp [sysPoint]
@[simp] theorem sysPoint_memErr (s : State) (i v : Nat) : (sysPoint s i v).memErr = s.memErr := by simp [sysPoint]
@[simp] theorem sysPoint_mode (s : State) (i v : Nat) : (sysPoint s i v).mode = s.mode := by simp [sysPoint]
@[simp] theorem sysPoint_params (s : State) (i v : Nat) : (sysPoint s i v).params = s.params := by simp [sysPoint]
@[simp] theorem sysPoint_deck (s : State) (i v : Nat) : (sysPoint s i v).deck = s.deck := by simp [sysPoint]
@[simp] theorem sysPoint_fw (s : State) (i v : Nat) : (sysPoint s i v).fw = s.fw := by simp [sysPoint]
@[simp] theorem sysPoint_sched (s : State) (i v : Nat) : (sysPoint s i v).sched = s.sched := by simp [sysPoint]
@[simp] theorem sysPoint_recd (s : State) (i v : Nat) : (sysPoint s i v).recd = s.recd := by simp [sysPoint]
@[simp] theorem sysPoint_thatch (s : State) (i v : Nat) : (sysPoint s i v).thatch = s.thatch := by simp [sysPoint]
@[simp] theorem sysPoint_ridge (s : State) (i v : Nat) : (sysPoint s i v).ridge = s.ridge := by simp [sysPoint]
@[simp] theorem sysPoint_host (s : State) (i v : Nat) : (sysPoint s i v).host = s.host := by simp [sysPoint]
@[simp] theorem sysPoint_domains (s : State) (i v : Nat) : (sysPoint s i v).domains = s.domains := by simp [sysPoint]
@[simp] theorem sysPoint_can (s : State) (i v : Nat) : (sysPoint s i v).can = s.can := by simp [sysPoint]
@[simp] theorem sysPoint_eth (s : State) (i v : Nat) : (sysPoint s i v).eth = s.eth := by simp [sysPoint]
@[simp] theorem sysPoint_csx (s : State) (i v : Nat) : (sysPoint s i v).csx = s.csx := by simp [sysPoint]
@[simp] theorem sysPoint_loops (s : State) (i v : Nat) : (sysPoint s i v).loops = s.loops := by simp [sysPoint]
@[simp] theorem sysPoint_loopEng (s : State) (i v : Nat) : (sysPoint s i v).loopEng = s.loopEng := by simp [sysPoint]
@[simp] theorem sysPoint_evq (s : State) (i v : Nat) : (sysPoint s i v).evq = s.evq := by simp [sysPoint]
@[simp] theorem sysPoint_faultq (s : State) (i v : Nat) : (sysPoint s i v).faultq = s.faultq := by simp [sysPoint]
@[simp] theorem sysPoint_pocket (s : State) (i v : Nat) : (sysPoint s i v).pocket = s.pocket := by simp [sysPoint]
@[simp] theorem sysPoint_rst (s : State) (i v : Nat) : (sysPoint s i v).rst = s.rst := by simp [sysPoint]
@[simp] theorem sysPoint_motion (s : State) (i v : Nat) : (sysPoint s i v).motion = s.motion := by simp [sysPoint]
@[simp] theorem sysPoint_io (s : State) (i v : Nat) : (sysPoint s i v).io = s.io := by simp [sysPoint]
@[simp] theorem sysPoint_twin (s : State) (i v : Nat) : (sysPoint s i v).twin = s.twin := by simp [sysPoint]
@[simp] theorem sysPoint_cv (s : State) (i v : Nat) : (sysPoint s i v).cv = s.cv := by simp [sysPoint]
@[simp] theorem sysPoint_track (s : State) (i v : Nat) : (sysPoint s i v).track = s.track := by simp [sysPoint]
@[simp] theorem sysPoint_streams (s : State) (i v : Nat) : (sysPoint s i v).streams = s.streams := by simp [sysPoint]
@[simp] theorem sysPoint_acq (s : State) (i v : Nat) : (sysPoint s i v).acq = s.acq := by simp [sysPoint]
@[simp] theorem sysPoint_lines (s : State) (i v : Nat) : (sysPoint s i v).lines = s.lines := by simp [sysPoint]
@[simp] theorem sysPoint_freeCtr (s : State) (i v : Nat) : (sysPoint s i v).freeCtr = s.freeCtr := by simp [sysPoint]
@[simp] theorem sysPoint_pending (s : State) (i v : Nat) : (sysPoint s i v).pending = s.pending := by simp [sysPoint]
@[simp] theorem sysPoint_param (s : State) (i v : Nat) (pk pi : Nat) : param (sysPoint s i v) pk pi = param s pk pi := by simp [param, peff, pbase, inForce]
@[simp] theorem sysPoint_flag (s : State) (i v : Nat) (pk pi : Nat) : flag (sysPoint s i v) pk pi = flag s pk pi := by simp [flag]

@[simp] theorem irq_t0 (s : State) (b : Nat) : (irq s b).t0 = s.t0 := by simp only [irq]; split <;> rfl
@[simp] theorem irq_clock (s : State) (b : Nat) : (irq s b).clock = s.clock := by simp only [irq]; split <;> rfl
@[simp] theorem irq_islands (s : State) (b : Nat) : (irq s b).islands = s.islands := by simp only [irq]; split <;> rfl
@[simp] theorem irq_links (s : State) (b : Nat) : (irq s b).links = s.links := by simp only [irq]; split <;> rfl
@[simp] theorem irq_nodes (s : State) (b : Nat) : (irq s b).nodes = s.nodes := by simp only [irq]; split <;> rfl
@[simp] theorem irq_memErr (s : State) (b : Nat) : (irq s b).memErr = s.memErr := by simp only [irq]; split <;> rfl
@[simp] theorem irq_img (s : State) (b : Nat) : (irq s b).img = s.img := by simp only [irq]; split <;> rfl
@[simp] theorem irq_mode (s : State) (b : Nat) : (irq s b).mode = s.mode := by simp only [irq]; split <;> rfl
@[simp] theorem irq_params (s : State) (b : Nat) : (irq s b).params = s.params := by simp only [irq]; split <;> rfl
@[simp] theorem irq_deck (s : State) (b : Nat) : (irq s b).deck = s.deck := by simp only [irq]; split <;> rfl
@[simp] theorem irq_fw (s : State) (b : Nat) : (irq s b).fw = s.fw := by simp only [irq]; split <;> rfl
@[simp] theorem irq_sched (s : State) (b : Nat) : (irq s b).sched = s.sched := by simp only [irq]; split <;> rfl
@[simp] theorem irq_recd (s : State) (b : Nat) : (irq s b).recd = s.recd := by simp only [irq]; split <;> rfl
@[simp] theorem irq_thatch (s : State) (b : Nat) : (irq s b).thatch = s.thatch := by simp only [irq]; split <;> rfl
@[simp] theorem irq_ridge (s : State) (b : Nat) : (irq s b).ridge = s.ridge := by simp only [irq]; split <;> rfl
@[simp] theorem irq_domains (s : State) (b : Nat) : (irq s b).domains = s.domains := by simp only [irq]; split <;> rfl
@[simp] theorem irq_can (s : State) (b : Nat) : (irq s b).can = s.can := by simp only [irq]; split <;> rfl
@[simp] theorem irq_eth (s : State) (b : Nat) : (irq s b).eth = s.eth := by simp only [irq]; split <;> rfl
@[simp] theorem irq_csx (s : State) (b : Nat) : (irq s b).csx = s.csx := by simp only [irq]; split <;> rfl
@[simp] theorem irq_loops (s : State) (b : Nat) : (irq s b).loops = s.loops := by simp only [irq]; split <;> rfl
@[simp] theorem irq_loopEng (s : State) (b : Nat) : (irq s b).loopEng = s.loopEng := by simp only [irq]; split <;> rfl
@[simp] theorem irq_evq (s : State) (b : Nat) : (irq s b).evq = s.evq := by simp only [irq]; split <;> rfl
@[simp] theorem irq_faultq (s : State) (b : Nat) : (irq s b).faultq = s.faultq := by simp only [irq]; split <;> rfl
@[simp] theorem irq_pocket (s : State) (b : Nat) : (irq s b).pocket = s.pocket := by simp only [irq]; split <;> rfl
@[simp] theorem irq_rst (s : State) (b : Nat) : (irq s b).rst = s.rst := by simp only [irq]; split <;> rfl
@[simp] theorem irq_motion (s : State) (b : Nat) : (irq s b).motion = s.motion := by simp only [irq]; split <;> rfl
@[simp] theorem irq_io (s : State) (b : Nat) : (irq s b).io = s.io := by simp only [irq]; split <;> rfl
@[simp] theorem irq_twin (s : State) (b : Nat) : (irq s b).twin = s.twin := by simp only [irq]; split <;> rfl
@[simp] theorem irq_cv (s : State) (b : Nat) : (irq s b).cv = s.cv := by simp only [irq]; split <;> rfl
@[simp] theorem irq_track (s : State) (b : Nat) : (irq s b).track = s.track := by simp only [irq]; split <;> rfl
@[simp] theorem irq_streams (s : State) (b : Nat) : (irq s b).streams = s.streams := by simp only [irq]; split <;> rfl
@[simp] theorem irq_acq (s : State) (b : Nat) : (irq s b).acq = s.acq := by simp only [irq]; split <;> rfl
@[simp] theorem irq_lines (s : State) (b : Nat) : (irq s b).lines = s.lines := by simp only [irq]; split <;> rfl
@[simp] theorem irq_freeCtr (s : State) (b : Nat) : (irq s b).freeCtr = s.freeCtr := by simp only [irq]; split <;> rfl
@[simp] theorem irq_pending (s : State) (b : Nat) : (irq s b).pending = s.pending := by simp only [irq]; split <;> rfl
@[simp] theorem irq_param (s : State) (b : Nat) (pk pi : Nat) : param (irq s b) pk pi = param s pk pi := by simp [param, peff, pbase, inForce]
@[simp] theorem irq_flag (s : State) (b : Nat) (pk pi : Nat) : flag (irq s b) pk pi = flag s pk pi := by simp [flag]

@[simp] theorem respond_t0 (s : State) (r : Req) (o st fl : Nat) (p : List Byte) : (respond s r o st fl p).t0 = s.t0 := by simp only [respond]; split <;> rfl
@[simp] theorem respond_clock (s : State) (r : Req) (o st fl : Nat) (p : List Byte) : (respond s r o st fl p).clock = s.clock := by simp only [respond]; split <;> rfl
@[simp] theorem respond_islands (s : State) (r : Req) (o st fl : Nat) (p : List Byte) : (respond s r o st fl p).islands = s.islands := by simp only [respond]; split <;> rfl
@[simp] theorem respond_links (s : State) (r : Req) (o st fl : Nat) (p : List Byte) : (respond s r o st fl p).links = s.links := by simp only [respond]; split <;> rfl
@[simp] theorem respond_nodes (s : State) (r : Req) (o st fl : Nat) (p : List Byte) : (respond s r o st fl p).nodes = s.nodes := by simp only [respond]; split <;> rfl
@[simp] theorem respond_memErr (s : State) (r : Req) (o st fl : Nat) (p : List Byte) : (respond s r o st fl p).memErr = s.memErr := by simp only [respond]; split <;> rfl
@[simp] theorem respond_img (s : State) (r : Req) (o st fl : Nat) (p : List Byte) : (respond s r o st fl p).img = s.img := by simp only [respond]; split <;> rfl
@[simp] theorem respond_mode (s : State) (r : Req) (o st fl : Nat) (p : List Byte) : (respond s r o st fl p).mode = s.mode := by simp only [respond]; split <;> rfl
@[simp] theorem respond_params (s : State) (r : Req) (o st fl : Nat) (p : List Byte) : (respond s r o st fl p).params = s.params := by simp only [respond]; split <;> rfl
@[simp] theorem respond_deck (s : State) (r : Req) (o st fl : Nat) (p : List Byte) : (respond s r o st fl p).deck = s.deck := by simp only [respond]; split <;> rfl
@[simp] theorem respond_fw (s : State) (r : Req) (o st fl : Nat) (p : List Byte) : (respond s r o st fl p).fw = s.fw := by simp only [respond]; split <;> rfl
@[simp] theorem respond_sched (s : State) (r : Req) (o st fl : Nat) (p : List Byte) : (respond s r o st fl p).sched = s.sched := by simp only [respond]; split <;> rfl
@[simp] theorem respond_recd (s : State) (r : Req) (o st fl : Nat) (p : List Byte) : (respond s r o st fl p).recd = s.recd := by simp only [respond]; split <;> rfl
@[simp] theorem respond_thatch (s : State) (r : Req) (o st fl : Nat) (p : List Byte) : (respond s r o st fl p).thatch = s.thatch := by simp only [respond]; split <;> rfl
@[simp] theorem respond_ridge (s : State) (r : Req) (o st fl : Nat) (p : List Byte) : (respond s r o st fl p).ridge = s.ridge := by simp only [respond]; split <;> rfl
@[simp] theorem respond_domains (s : State) (r : Req) (o st fl : Nat) (p : List Byte) : (respond s r o st fl p).domains = s.domains := by simp only [respond]; split <;> rfl
@[simp] theorem respond_can (s : State) (r : Req) (o st fl : Nat) (p : List Byte) : (respond s r o st fl p).can = s.can := by simp only [respond]; split <;> rfl
@[simp] theorem respond_eth (s : State) (r : Req) (o st fl : Nat) (p : List Byte) : (respond s r o st fl p).eth = s.eth := by simp only [respond]; split <;> rfl
@[simp] theorem respond_csx (s : State) (r : Req) (o st fl : Nat) (p : List Byte) : (respond s r o st fl p).csx = s.csx := by simp only [respond]; split <;> rfl
@[simp] theorem respond_loops (s : State) (r : Req) (o st fl : Nat) (p : List Byte) : (respond s r o st fl p).loops = s.loops := by simp only [respond]; split <;> rfl
@[simp] theorem respond_loopEng (s : State) (r : Req) (o st fl : Nat) (p : List Byte) : (respond s r o st fl p).loopEng = s.loopEng := by simp only [respond]; split <;> rfl
@[simp] theorem respond_evq (s : State) (r : Req) (o st fl : Nat) (p : List Byte) : (respond s r o st fl p).evq = s.evq := by simp only [respond]; split <;> rfl
@[simp] theorem respond_faultq (s : State) (r : Req) (o st fl : Nat) (p : List Byte) : (respond s r o st fl p).faultq = s.faultq := by simp only [respond]; split <;> rfl
@[simp] theorem respond_outbox (s : State) (r : Req) (o st fl : Nat) (p : List Byte) : (respond s r o st fl p).outbox = s.outbox := by simp only [respond]; split <;> rfl
@[simp] theorem respond_pocket (s : State) (r : Req) (o st fl : Nat) (p : List Byte) : (respond s r o st fl p).pocket = s.pocket := by simp only [respond]; split <;> rfl
@[simp] theorem respond_rst (s : State) (r : Req) (o st fl : Nat) (p : List Byte) : (respond s r o st fl p).rst = s.rst := by simp only [respond]; split <;> rfl
@[simp] theorem respond_motion (s : State) (r : Req) (o st fl : Nat) (p : List Byte) : (respond s r o st fl p).motion = s.motion := by simp only [respond]; split <;> rfl
@[simp] theorem respond_io (s : State) (r : Req) (o st fl : Nat) (p : List Byte) : (respond s r o st fl p).io = s.io := by simp only [respond]; split <;> rfl
@[simp] theorem respond_twin (s : State) (r : Req) (o st fl : Nat) (p : List Byte) : (respond s r o st fl p).twin = s.twin := by simp only [respond]; split <;> rfl
@[simp] theorem respond_cv (s : State) (r : Req) (o st fl : Nat) (p : List Byte) : (respond s r o st fl p).cv = s.cv := by simp only [respond]; split <;> rfl
@[simp] theorem respond_track (s : State) (r : Req) (o st fl : Nat) (p : List Byte) : (respond s r o st fl p).track = s.track := by simp only [respond]; split <;> rfl
@[simp] theorem respond_streams (s : State) (r : Req) (o st fl : Nat) (p : List Byte) : (respond s r o st fl p).streams = s.streams := by simp only [respond]; split <;> rfl
@[simp] theorem respond_acq (s : State) (r : Req) (o st fl : Nat) (p : List Byte) : (respond s r o st fl p).acq = s.acq := by simp only [respond]; split <;> rfl
@[simp] theorem respond_lines (s : State) (r : Req) (o st fl : Nat) (p : List Byte) : (respond s r o st fl p).lines = s.lines := by simp only [respond]; split <;> rfl
@[simp] theorem respond_freeCtr (s : State) (r : Req) (o st fl : Nat) (p : List Byte) : (respond s r o st fl p).freeCtr = s.freeCtr := by simp only [respond]; split <;> rfl
@[simp] theorem respond_pending (s : State) (r : Req) (o st fl : Nat) (p : List Byte) : (respond s r o st fl p).pending = s.pending := by simp only [respond]; split <;> rfl
@[simp] theorem respond_param (s : State) (r : Req) (o st fl : Nat) (p : List Byte) (pk pi : Nat) : param (respond s r o st fl p) pk pi = param s pk pi := by simp [param, peff, pbase, inForce]
@[simp] theorem respond_flag (s : State) (r : Req) (o st fl : Nat) (p : List Byte) (pk pi : Nat) : flag (respond s r o st fl p) pk pi = flag s pk pi := by simp [flag]

@[simp] theorem accepted_t0 (s : State) (r : Req) (o : Nat) (p : List Byte) : (accepted s r o p).t0 = s.t0 := by simp [accepted]
@[simp] theorem accepted_clock (s : State) (r : Req) (o : Nat) (p : List Byte) : (accepted s r o p).clock = s.clock := by simp [accepted]
@[simp] theorem accepted_islands (s : State) (r : Req) (o : Nat) (p : List Byte) : (accepted s r o p).islands = s.islands := by simp [accepted]
@[simp] theorem accepted_links (s : State) (r : Req) (o : Nat) (p : List Byte) : (accepted s r o p).links = s.links := by simp [accepted]
@[simp] theorem accepted_nodes (s : State) (r : Req) (o : Nat) (p : List Byte) : (accepted s r o p).nodes = s.nodes := by simp [accepted]
@[simp] theorem accepted_memErr (s : State) (r : Req) (o : Nat) (p : List Byte) : (accepted s r o p).memErr = s.memErr := by simp [accepted]
@[simp] theorem accepted_img (s : State) (r : Req) (o : Nat) (p : List Byte) : (accepted s r o p).img = s.img := by simp [accepted]
@[simp] theorem accepted_mode (s : State) (r : Req) (o : Nat) (p : List Byte) : (accepted s r o p).mode = s.mode := by simp [accepted]
@[simp] theorem accepted_params (s : State) (r : Req) (o : Nat) (p : List Byte) : (accepted s r o p).params = s.params := by simp [accepted]
@[simp] theorem accepted_deck (s : State) (r : Req) (o : Nat) (p : List Byte) : (accepted s r o p).deck = s.deck := by simp [accepted]
@[simp] theorem accepted_fw (s : State) (r : Req) (o : Nat) (p : List Byte) : (accepted s r o p).fw = s.fw := by simp [accepted]
@[simp] theorem accepted_sched (s : State) (r : Req) (o : Nat) (p : List Byte) : (accepted s r o p).sched = s.sched := by simp [accepted]
@[simp] theorem accepted_recd (s : State) (r : Req) (o : Nat) (p : List Byte) : (accepted s r o p).recd = s.recd := by simp [accepted]
@[simp] theorem accepted_thatch (s : State) (r : Req) (o : Nat) (p : List Byte) : (accepted s r o p).thatch = s.thatch := by simp [accepted]
@[simp] theorem accepted_ridge (s : State) (r : Req) (o : Nat) (p : List Byte) : (accepted s r o p).ridge = s.ridge := by simp [accepted]
@[simp] theorem accepted_domains (s : State) (r : Req) (o : Nat) (p : List Byte) : (accepted s r o p).domains = s.domains := by simp [accepted]
@[simp] theorem accepted_can (s : State) (r : Req) (o : Nat) (p : List Byte) : (accepted s r o p).can = s.can := by simp [accepted]
@[simp] theorem accepted_eth (s : State) (r : Req) (o : Nat) (p : List Byte) : (accepted s r o p).eth = s.eth := by simp [accepted]
@[simp] theorem accepted_csx (s : State) (r : Req) (o : Nat) (p : List Byte) : (accepted s r o p).csx = s.csx := by simp [accepted]
@[simp] theorem accepted_loops (s : State) (r : Req) (o : Nat) (p : List Byte) : (accepted s r o p).loops = s.loops := by simp [accepted]
@[simp] theorem accepted_loopEng (s : State) (r : Req) (o : Nat) (p : List Byte) : (accepted s r o p).loopEng = s.loopEng := by simp [accepted]
@[simp] theorem accepted_evq (s : State) (r : Req) (o : Nat) (p : List Byte) : (accepted s r o p).evq = s.evq := by simp [accepted]
@[simp] theorem accepted_faultq (s : State) (r : Req) (o : Nat) (p : List Byte) : (accepted s r o p).faultq = s.faultq := by simp [accepted]
@[simp] theorem accepted_outbox (s : State) (r : Req) (o : Nat) (p : List Byte) : (accepted s r o p).outbox = s.outbox := by simp [accepted]
@[simp] theorem accepted_pocket (s : State) (r : Req) (o : Nat) (p : List Byte) : (accepted s r o p).pocket = s.pocket := by simp [accepted]
@[simp] theorem accepted_rst (s : State) (r : Req) (o : Nat) (p : List Byte) : (accepted s r o p).rst = s.rst := by simp [accepted]
@[simp] theorem accepted_motion (s : State) (r : Req) (o : Nat) (p : List Byte) : (accepted s r o p).motion = s.motion := by simp [accepted]
@[simp] theorem accepted_io (s : State) (r : Req) (o : Nat) (p : List Byte) : (accepted s r o p).io = s.io := by simp [accepted]
@[simp] theorem accepted_twin (s : State) (r : Req) (o : Nat) (p : List Byte) : (accepted s r o p).twin = s.twin := by simp [accepted]
@[simp] theorem accepted_cv (s : State) (r : Req) (o : Nat) (p : List Byte) : (accepted s r o p).cv = s.cv := by simp [accepted]
@[simp] theorem accepted_track (s : State) (r : Req) (o : Nat) (p : List Byte) : (accepted s r o p).track = s.track := by simp [accepted]
@[simp] theorem accepted_streams (s : State) (r : Req) (o : Nat) (p : List Byte) : (accepted s r o p).streams = s.streams := by simp [accepted]
@[simp] theorem accepted_acq (s : State) (r : Req) (o : Nat) (p : List Byte) : (accepted s r o p).acq = s.acq := by simp [accepted]
@[simp] theorem accepted_lines (s : State) (r : Req) (o : Nat) (p : List Byte) : (accepted s r o p).lines = s.lines := by simp [accepted]
@[simp] theorem accepted_freeCtr (s : State) (r : Req) (o : Nat) (p : List Byte) : (accepted s r o p).freeCtr = s.freeCtr := by simp [accepted]
@[simp] theorem accepted_pending (s : State) (r : Req) (o : Nat) (p : List Byte) : (accepted s r o p).pending = s.pending := by simp [accepted]
@[simp] theorem accepted_param (s : State) (r : Req) (o : Nat) (p : List Byte) (pk pi : Nat) : param (accepted s r o p) pk pi = param s pk pi := by simp [param, peff, pbase, inForce]
@[simp] theorem accepted_flag (s : State) (r : Req) (o : Nat) (p : List Byte) (pk pi : Nat) : flag (accepted s r o p) pk pi = flag s pk pi := by simp [flag]

@[simp] theorem hostAction_t0 (s : State) (r : Req) (o st : Nat) : (hostAction s r o st).t0 = s.t0 := by unfold hostAction; simp only []; split <;> simp
@[simp] theorem hostAction_clock (s : State) (r : Req) (o st : Nat) : (hostAction s r o st).clock = s.clock := by unfold hostAction; simp only []; split <;> simp
@[simp] theorem hostAction_islands (s : State) (r : Req) (o st : Nat) : (hostAction s r o st).islands = s.islands := by unfold hostAction; simp only []; split <;> simp
@[simp] theorem hostAction_links (s : State) (r : Req) (o st : Nat) : (hostAction s r o st).links = s.links := by unfold hostAction; simp only []; split <;> simp
@[simp] theorem hostAction_memErr (s : State) (r : Req) (o st : Nat) : (hostAction s r o st).memErr = s.memErr := by unfold hostAction; simp only []; split <;> simp
@[simp] theorem hostAction_img (s : State) (r : Req) (o st : Nat) : (hostAction s r o st).img = s.img := by unfold hostAction; simp only []; split <;> simp
@[simp] theorem hostAction_mode (s : State) (r : Req) (o st : Nat) : (hostAction s r o st).mode = s.mode := by unfold hostAction; simp only []; split <;> simp
@[simp] theorem hostAction_params (s : State) (r : Req) (o st : Nat) : (hostAction s r o st).params = s.params := by unfold hostAction; simp only []; split <;> simp
@[simp] theorem hostAction_deck (s : State) (r : Req) (o st : Nat) : (hostAction s r o st).deck = s.deck := by unfold hostAction; simp only []; split <;> simp
@[simp] theorem hostAction_fw (s : State) (r : Req) (o st : Nat) : (hostAction s r o st).fw = s.fw := by unfold hostAction; simp only []; split <;> simp
@[simp] theorem hostAction_sched (s : State) (r : Req) (o st : Nat) : (hostAction s r o st).sched = s.sched := by unfold hostAction; simp only []; split <;> simp
@[simp] theorem hostAction_recd (s : State) (r : Req) (o st : Nat) : (hostAction s r o st).recd = s.recd := by unfold hostAction; simp only []; split <;> simp
@[simp] theorem hostAction_thatch (s : State) (r : Req) (o st : Nat) : (hostAction s r o st).thatch = s.thatch := by unfold hostAction; simp only []; split <;> simp
@[simp] theorem hostAction_ridge (s : State) (r : Req) (o st : Nat) : (hostAction s r o st).ridge = s.ridge := by unfold hostAction; simp only []; split <;> simp
@[simp] theorem hostAction_host (s : State) (r : Req) (o st : Nat) : (hostAction s r o st).host = s.host := by unfold hostAction; simp only []; split <;> simp
@[simp] theorem hostAction_domains (s : State) (r : Req) (o st : Nat) : (hostAction s r o st).domains = s.domains := by unfold hostAction; simp only []; split <;> simp
@[simp] theorem hostAction_can (s : State) (r : Req) (o st : Nat) : (hostAction s r o st).can = s.can := by unfold hostAction; simp only []; split <;> simp
@[simp] theorem hostAction_eth (s : State) (r : Req) (o st : Nat) : (hostAction s r o st).eth = s.eth := by unfold hostAction; simp only []; split <;> simp
@[simp] theorem hostAction_csx (s : State) (r : Req) (o st : Nat) : (hostAction s r o st).csx = s.csx := by unfold hostAction; simp only []; split <;> simp
@[simp] theorem hostAction_loops (s : State) (r : Req) (o st : Nat) : (hostAction s r o st).loops = s.loops := by unfold hostAction; simp only []; split <;> simp
@[simp] theorem hostAction_loopEng (s : State) (r : Req) (o st : Nat) : (hostAction s r o st).loopEng = s.loopEng := by unfold hostAction; simp only []; split <;> simp
@[simp] theorem hostAction_faultq (s : State) (r : Req) (o st : Nat) : (hostAction s r o st).faultq = s.faultq := by unfold hostAction; simp only []; split <;> simp
@[simp] theorem hostAction_outbox (s : State) (r : Req) (o st : Nat) : (hostAction s r o st).outbox = s.outbox := by unfold hostAction; simp only []; split <;> simp
@[simp] theorem hostAction_pocket (s : State) (r : Req) (o st : Nat) : (hostAction s r o st).pocket = s.pocket := by unfold hostAction; simp only []; split <;> simp
@[simp] theorem hostAction_rst (s : State) (r : Req) (o st : Nat) : (hostAction s r o st).rst = s.rst := by unfold hostAction; simp only []; split <;> simp
@[simp] theorem hostAction_motion (s : State) (r : Req) (o st : Nat) : (hostAction s r o st).motion = s.motion := by unfold hostAction; simp only []; split <;> simp
@[simp] theorem hostAction_io (s : State) (r : Req) (o st : Nat) : (hostAction s r o st).io = s.io := by unfold hostAction; simp only []; split <;> simp
@[simp] theorem hostAction_twin (s : State) (r : Req) (o st : Nat) : (hostAction s r o st).twin = s.twin := by unfold hostAction; simp only []; split <;> simp
@[simp] theorem hostAction_cv (s : State) (r : Req) (o st : Nat) : (hostAction s r o st).cv = s.cv := by unfold hostAction; simp only []; split <;> simp
@[simp] theorem hostAction_track (s : State) (r : Req) (o st : Nat) : (hostAction s r o st).track = s.track := by unfold hostAction; simp only []; split <;> simp
@[simp] theorem hostAction_streams (s : State) (r : Req) (o st : Nat) : (hostAction s r o st).streams = s.streams := by unfold hostAction; simp only []; split <;> simp
@[simp] theorem hostAction_acq (s : State) (r : Req) (o st : Nat) : (hostAction s r o st).acq = s.acq := by unfold hostAction; simp only []; split <;> simp
@[simp] theorem hostAction_lines (s : State) (r : Req) (o st : Nat) : (hostAction s r o st).lines = s.lines := by unfold hostAction; simp only []; split <;> simp
@[simp] theorem hostAction_pending (s : State) (r : Req) (o st : Nat) : (hostAction s r o st).pending = s.pending := by unfold hostAction; simp only []; split <;> simp
@[simp] theorem hostAction_param (s : State) (r : Req) (o st : Nat) (pk pi : Nat) : param (hostAction s r o st) pk pi = param s pk pi := by simp [param, peff, pbase, inForce]
@[simp] theorem hostAction_flag (s : State) (r : Req) (o st : Nat) (pk pi : Nat) : flag (hostAction s r o st) pk pi = flag s pk pi := by simp [flag]

@[simp] theorem modeRefused_t0 (s : State) (r : Req) (o st : Nat) : (modeRefused s r o st).t0 = s.t0 := by unfold modeRefused; split <;> (try split) <;> (try split) <;> simp
@[simp] theorem modeRefused_clock (s : State) (r : Req) (o st : Nat) : (modeRefused s r o st).clock = s.clock := by unfold modeRefused; split <;> (try split) <;> (try split) <;> simp
@[simp] theorem modeRefused_islands (s : State) (r : Req) (o st : Nat) : (modeRefused s r o st).islands = s.islands := by unfold modeRefused; split <;> (try split) <;> (try split) <;> simp
@[simp] theorem modeRefused_links (s : State) (r : Req) (o st : Nat) : (modeRefused s r o st).links = s.links := by unfold modeRefused; split <;> (try split) <;> (try split) <;> simp
@[simp] theorem modeRefused_memErr (s : State) (r : Req) (o st : Nat) : (modeRefused s r o st).memErr = s.memErr := by unfold modeRefused; split <;> (try split) <;> (try split) <;> simp
@[simp] theorem modeRefused_img (s : State) (r : Req) (o st : Nat) : (modeRefused s r o st).img = s.img := by unfold modeRefused; split <;> (try split) <;> (try split) <;> simp
@[simp] theorem modeRefused_mode (s : State) (r : Req) (o st : Nat) : (modeRefused s r o st).mode = s.mode := by unfold modeRefused; split <;> (try split) <;> (try split) <;> simp
@[simp] theorem modeRefused_params (s : State) (r : Req) (o st : Nat) : (modeRefused s r o st).params = s.params := by unfold modeRefused; split <;> (try split) <;> (try split) <;> simp
@[simp] theorem modeRefused_deck (s : State) (r : Req) (o st : Nat) : (modeRefused s r o st).deck = s.deck := by unfold modeRefused; split <;> (try split) <;> (try split) <;> simp
@[simp] theorem modeRefused_fw (s : State) (r : Req) (o st : Nat) : (modeRefused s r o st).fw = s.fw := by unfold modeRefused; split <;> (try split) <;> (try split) <;> simp
@[simp] theorem modeRefused_sched (s : State) (r : Req) (o st : Nat) : (modeRefused s r o st).sched = s.sched := by unfold modeRefused; split <;> (try split) <;> (try split) <;> simp
@[simp] theorem modeRefused_recd (s : State) (r : Req) (o st : Nat) : (modeRefused s r o st).recd = s.recd := by unfold modeRefused; split <;> (try split) <;> (try split) <;> simp
@[simp] theorem modeRefused_thatch (s : State) (r : Req) (o st : Nat) : (modeRefused s r o st).thatch = s.thatch := by unfold modeRefused; split <;> (try split) <;> (try split) <;> simp
@[simp] theorem modeRefused_ridge (s : State) (r : Req) (o st : Nat) : (modeRefused s r o st).ridge = s.ridge := by unfold modeRefused; split <;> (try split) <;> (try split) <;> simp
@[simp] theorem modeRefused_host (s : State) (r : Req) (o st : Nat) : (modeRefused s r o st).host = s.host := by unfold modeRefused; split <;> (try split) <;> (try split) <;> simp
@[simp] theorem modeRefused_domains (s : State) (r : Req) (o st : Nat) : (modeRefused s r o st).domains = s.domains := by unfold modeRefused; split <;> (try split) <;> (try split) <;> simp
@[simp] theorem modeRefused_can (s : State) (r : Req) (o st : Nat) : (modeRefused s r o st).can = s.can := by unfold modeRefused; split <;> (try split) <;> (try split) <;> simp
@[simp] theorem modeRefused_eth (s : State) (r : Req) (o st : Nat) : (modeRefused s r o st).eth = s.eth := by unfold modeRefused; split <;> (try split) <;> (try split) <;> simp
@[simp] theorem modeRefused_csx (s : State) (r : Req) (o st : Nat) : (modeRefused s r o st).csx = s.csx := by unfold modeRefused; split <;> (try split) <;> (try split) <;> simp
@[simp] theorem modeRefused_loops (s : State) (r : Req) (o st : Nat) : (modeRefused s r o st).loops = s.loops := by unfold modeRefused; split <;> (try split) <;> (try split) <;> simp
@[simp] theorem modeRefused_loopEng (s : State) (r : Req) (o st : Nat) : (modeRefused s r o st).loopEng = s.loopEng := by unfold modeRefused; split <;> (try split) <;> (try split) <;> simp
@[simp] theorem modeRefused_faultq (s : State) (r : Req) (o st : Nat) : (modeRefused s r o st).faultq = s.faultq := by unfold modeRefused; split <;> (try split) <;> (try split) <;> simp
@[simp] theorem modeRefused_outbox (s : State) (r : Req) (o st : Nat) : (modeRefused s r o st).outbox = s.outbox := by unfold modeRefused; split <;> (try split) <;> (try split) <;> simp
@[simp] theorem modeRefused_pocket (s : State) (r : Req) (o st : Nat) : (modeRefused s r o st).pocket = s.pocket := by unfold modeRefused; split <;> (try split) <;> (try split) <;> simp
@[simp] theorem modeRefused_rst (s : State) (r : Req) (o st : Nat) : (modeRefused s r o st).rst = s.rst := by unfold modeRefused; split <;> (try split) <;> (try split) <;> simp
@[simp] theorem modeRefused_motion (s : State) (r : Req) (o st : Nat) : (modeRefused s r o st).motion = s.motion := by unfold modeRefused; split <;> (try split) <;> (try split) <;> simp
@[simp] theorem modeRefused_io (s : State) (r : Req) (o st : Nat) : (modeRefused s r o st).io = s.io := by unfold modeRefused; split <;> (try split) <;> (try split) <;> simp
@[simp] theorem modeRefused_twin (s : State) (r : Req) (o st : Nat) : (modeRefused s r o st).twin = s.twin := by unfold modeRefused; split <;> (try split) <;> (try split) <;> simp
@[simp] theorem modeRefused_cv (s : State) (r : Req) (o st : Nat) : (modeRefused s r o st).cv = s.cv := by unfold modeRefused; split <;> (try split) <;> (try split) <;> simp
@[simp] theorem modeRefused_track (s : State) (r : Req) (o st : Nat) : (modeRefused s r o st).track = s.track := by unfold modeRefused; split <;> (try split) <;> (try split) <;> simp
@[simp] theorem modeRefused_streams (s : State) (r : Req) (o st : Nat) : (modeRefused s r o st).streams = s.streams := by unfold modeRefused; split <;> (try split) <;> (try split) <;> simp
@[simp] theorem modeRefused_acq (s : State) (r : Req) (o st : Nat) : (modeRefused s r o st).acq = s.acq := by unfold modeRefused; split <;> (try split) <;> (try split) <;> simp
@[simp] theorem modeRefused_lines (s : State) (r : Req) (o st : Nat) : (modeRefused s r o st).lines = s.lines := by unfold modeRefused; split <;> (try split) <;> (try split) <;> simp
@[simp] theorem modeRefused_freeCtr (s : State) (r : Req) (o st : Nat) : (modeRefused s r o st).freeCtr = s.freeCtr := by unfold modeRefused; split <;> (try split) <;> (try split) <;> simp
@[simp] theorem modeRefused_pending (s : State) (r : Req) (o st : Nat) : (modeRefused s r o st).pending = s.pending := by unfold modeRefused; split <;> (try split) <;> (try split) <;> simp
@[simp] theorem modeRefused_param (s : State) (r : Req) (o st : Nat) (pk pi : Nat) : param (modeRefused s r o st) pk pi = param s pk pi := by simp [param, peff, pbase, inForce]
@[simp] theorem modeRefused_flag (s : State) (r : Req) (o st : Nat) (pk pi : Nat) : flag (modeRefused s r o st) pk pi = flag s pk pi := by simp [flag]

@[simp] theorem finish_t0 (s : State) (r : Req) (o : Nat) (c : Bool) (st : Nat) (p : List Byte) : (finish s r o c st p).t0 = s.t0 := by unfold finish; cases c <;> simp
@[simp] theorem finish_clock (s : State) (r : Req) (o : Nat) (c : Bool) (st : Nat) (p : List Byte) : (finish s r o c st p).clock = s.clock := by unfold finish; cases c <;> simp
@[simp] theorem finish_islands (s : State) (r : Req) (o : Nat) (c : Bool) (st : Nat) (p : List Byte) : (finish s r o c st p).islands = s.islands := by unfold finish; cases c <;> simp
@[simp] theorem finish_links (s : State) (r : Req) (o : Nat) (c : Bool) (st : Nat) (p : List Byte) : (finish s r o c st p).links = s.links := by unfold finish; cases c <;> simp
@[simp] theorem finish_memErr (s : State) (r : Req) (o : Nat) (c : Bool) (st : Nat) (p : List Byte) : (finish s r o c st p).memErr = s.memErr := by unfold finish; cases c <;> simp
@[simp] theorem finish_img (s : State) (r : Req) (o : Nat) (c : Bool) (st : Nat) (p : List Byte) : (finish s r o c st p).img = s.img := by unfold finish; cases c <;> simp
@[simp] theorem finish_mode (s : State) (r : Req) (o : Nat) (c : Bool) (st : Nat) (p : List Byte) : (finish s r o c st p).mode = s.mode := by unfold finish; cases c <;> simp
@[simp] theorem finish_params (s : State) (r : Req) (o : Nat) (c : Bool) (st : Nat) (p : List Byte) : (finish s r o c st p).params = s.params := by unfold finish; cases c <;> simp
@[simp] theorem finish_deck (s : State) (r : Req) (o : Nat) (c : Bool) (st : Nat) (p : List Byte) : (finish s r o c st p).deck = s.deck := by unfold finish; cases c <;> simp
@[simp] theorem finish_fw (s : State) (r : Req) (o : Nat) (c : Bool) (st : Nat) (p : List Byte) : (finish s r o c st p).fw = s.fw := by unfold finish; cases c <;> simp
@[simp] theorem finish_sched (s : State) (r : Req) (o : Nat) (c : Bool) (st : Nat) (p : List Byte) : (finish s r o c st p).sched = s.sched := by unfold finish; cases c <;> simp
@[simp] theorem finish_recd (s : State) (r : Req) (o : Nat) (c : Bool) (st : Nat) (p : List Byte) : (finish s r o c st p).recd = s.recd := by unfold finish; cases c <;> simp
@[simp] theorem finish_thatch (s : State) (r : Req) (o : Nat) (c : Bool) (st : Nat) (p : List Byte) : (finish s r o c st p).thatch = s.thatch := by unfold finish; cases c <;> simp
@[simp] theorem finish_ridge (s : State) (r : Req) (o : Nat) (c : Bool) (st : Nat) (p : List Byte) : (finish s r o c st p).ridge = s.ridge := by unfold finish; cases c <;> simp
@[simp] theorem finish_domains (s : State) (r : Req) (o : Nat) (c : Bool) (st : Nat) (p : List Byte) : (finish s r o c st p).domains = s.domains := by unfold finish; cases c <;> simp
@[simp] theorem finish_can (s : State) (r : Req) (o : Nat) (c : Bool) (st : Nat) (p : List Byte) : (finish s r o c st p).can = s.can := by unfold finish; cases c <;> simp
@[simp] theorem finish_eth (s : State) (r : Req) (o : Nat) (c : Bool) (st : Nat) (p : List Byte) : (finish s r o c st p).eth = s.eth := by unfold finish; cases c <;> simp
@[simp] theorem finish_csx (s : State) (r : Req) (o : Nat) (c : Bool) (st : Nat) (p : List Byte) : (finish s r o c st p).csx = s.csx := by unfold finish; cases c <;> simp
@[simp] theorem finish_loops (s : State) (r : Req) (o : Nat) (c : Bool) (st : Nat) (p : List Byte) : (finish s r o c st p).loops = s.loops := by unfold finish; cases c <;> simp
@[simp] theorem finish_loopEng (s : State) (r : Req) (o : Nat) (c : Bool) (st : Nat) (p : List Byte) : (finish s r o c st p).loopEng = s.loopEng := by unfold finish; cases c <;> simp
@[simp] theorem finish_faultq (s : State) (r : Req) (o : Nat) (c : Bool) (st : Nat) (p : List Byte) : (finish s r o c st p).faultq = s.faultq := by unfold finish; cases c <;> simp
@[simp] theorem finish_outbox (s : State) (r : Req) (o : Nat) (c : Bool) (st : Nat) (p : List Byte) : (finish s r o c st p).outbox = s.outbox := by unfold finish; cases c <;> simp
@[simp] theorem finish_pocket (s : State) (r : Req) (o : Nat) (c : Bool) (st : Nat) (p : List Byte) : (finish s r o c st p).pocket = s.pocket := by unfold finish; cases c <;> simp
@[simp] theorem finish_rst (s : State) (r : Req) (o : Nat) (c : Bool) (st : Nat) (p : List Byte) : (finish s r o c st p).rst = s.rst := by unfold finish; cases c <;> simp
@[simp] theorem finish_motion (s : State) (r : Req) (o : Nat) (c : Bool) (st : Nat) (p : List Byte) : (finish s r o c st p).motion = s.motion := by unfold finish; cases c <;> simp
@[simp] theorem finish_io (s : State) (r : Req) (o : Nat) (c : Bool) (st : Nat) (p : List Byte) : (finish s r o c st p).io = s.io := by unfold finish; cases c <;> simp
@[simp] theorem finish_twin (s : State) (r : Req) (o : Nat) (c : Bool) (st : Nat) (p : List Byte) : (finish s r o c st p).twin = s.twin := by unfold finish; cases c <;> simp
@[simp] theorem finish_cv (s : State) (r : Req) (o : Nat) (c : Bool) (st : Nat) (p : List Byte) : (finish s r o c st p).cv = s.cv := by unfold finish; cases c <;> simp
@[simp] theorem finish_track (s : State) (r : Req) (o : Nat) (c : Bool) (st : Nat) (p : List Byte) : (finish s r o c st p).track = s.track := by unfold finish; cases c <;> simp
@[simp] theorem finish_streams (s : State) (r : Req) (o : Nat) (c : Bool) (st : Nat) (p : List Byte) : (finish s r o c st p).streams = s.streams := by unfold finish; cases c <;> simp
@[simp] theorem finish_acq (s : State) (r : Req) (o : Nat) (c : Bool) (st : Nat) (p : List Byte) : (finish s r o c st p).acq = s.acq := by unfold finish; cases c <;> simp
@[simp] theorem finish_lines (s : State) (r : Req) (o : Nat) (c : Bool) (st : Nat) (p : List Byte) : (finish s r o c st p).lines = s.lines := by unfold finish; cases c <;> simp
@[simp] theorem finish_pending (s : State) (r : Req) (o : Nat) (c : Bool) (st : Nat) (p : List Byte) : (finish s r o c st p).pending = s.pending := by unfold finish; cases c <;> simp
@[simp] theorem finish_param (s : State) (r : Req) (o : Nat) (c : Bool) (st : Nat) (p : List Byte) (pk pi : Nat) : param (finish s r o c st p) pk pi = param s pk pi := by simp [param, peff, pbase, inForce]
@[simp] theorem finish_flag (s : State) (r : Req) (o : Nat) (c : Bool) (st : Nat) (p : List Byte) (pk pi : Nat) : flag (finish s r o c st p) pk pi = flag s pk pi := by simp [flag]

@[simp] theorem updates_t0 (s : State) (t : Nat) (l : List (Nat × Word × BitVec 16)) : (updates s t l).t0 = s.t0 := by induction l generalizing s with | nil => rfl | cons a l ih => exact (ih _).trans (by simp)
@[simp] theorem updates_clock (s : State) (t : Nat) (l : List (Nat × Word × BitVec 16)) : (updates s t l).clock = s.clock := by induction l generalizing s with | nil => rfl | cons a l ih => exact (ih _).trans (by simp)
@[simp] theorem updates_islands (s : State) (t : Nat) (l : List (Nat × Word × BitVec 16)) : (updates s t l).islands = s.islands := by induction l generalizing s with | nil => rfl | cons a l ih => exact (ih _).trans (by simp)
@[simp] theorem updates_links (s : State) (t : Nat) (l : List (Nat × Word × BitVec 16)) : (updates s t l).links = s.links := by induction l generalizing s with | nil => rfl | cons a l ih => exact (ih _).trans (by simp)
@[simp] theorem updates_nodes (s : State) (t : Nat) (l : List (Nat × Word × BitVec 16)) : (updates s t l).nodes = s.nodes := by induction l generalizing s with | nil => rfl | cons a l ih => exact (ih _).trans (by simp)
@[simp] theorem updates_memErr (s : State) (t : Nat) (l : List (Nat × Word × BitVec 16)) : (updates s t l).memErr = s.memErr := by induction l generalizing s with | nil => rfl | cons a l ih => exact (ih _).trans (by simp)
@[simp] theorem updates_mode (s : State) (t : Nat) (l : List (Nat × Word × BitVec 16)) : (updates s t l).mode = s.mode := by induction l generalizing s with | nil => rfl | cons a l ih => exact (ih _).trans (by simp)
@[simp] theorem updates_params (s : State) (t : Nat) (l : List (Nat × Word × BitVec 16)) : (updates s t l).params = s.params := by induction l generalizing s with | nil => rfl | cons a l ih => exact (ih _).trans (by simp)
@[simp] theorem updates_deck (s : State) (t : Nat) (l : List (Nat × Word × BitVec 16)) : (updates s t l).deck = s.deck := by induction l generalizing s with | nil => rfl | cons a l ih => exact (ih _).trans (by simp)
@[simp] theorem updates_fw (s : State) (t : Nat) (l : List (Nat × Word × BitVec 16)) : (updates s t l).fw = s.fw := by induction l generalizing s with | nil => rfl | cons a l ih => exact (ih _).trans (by simp)
@[simp] theorem updates_sched (s : State) (t : Nat) (l : List (Nat × Word × BitVec 16)) : (updates s t l).sched = s.sched := by induction l generalizing s with | nil => rfl | cons a l ih => exact (ih _).trans (by simp)
@[simp] theorem updates_recd (s : State) (t : Nat) (l : List (Nat × Word × BitVec 16)) : (updates s t l).recd = s.recd := by induction l generalizing s with | nil => rfl | cons a l ih => exact (ih _).trans (by simp)
@[simp] theorem updates_thatch (s : State) (t : Nat) (l : List (Nat × Word × BitVec 16)) : (updates s t l).thatch = s.thatch := by induction l generalizing s with | nil => rfl | cons a l ih => exact (ih _).trans (by simp)
@[simp] theorem updates_ridge (s : State) (t : Nat) (l : List (Nat × Word × BitVec 16)) : (updates s t l).ridge = s.ridge := by induction l generalizing s with | nil => rfl | cons a l ih => exact (ih _).trans (by simp)
@[simp] theorem updates_host (s : State) (t : Nat) (l : List (Nat × Word × BitVec 16)) : (updates s t l).host = s.host := by induction l generalizing s with | nil => rfl | cons a l ih => exact (ih _).trans (by simp)
@[simp] theorem updates_domains (s : State) (t : Nat) (l : List (Nat × Word × BitVec 16)) : (updates s t l).domains = s.domains := by induction l generalizing s with | nil => rfl | cons a l ih => exact (ih _).trans (by simp)
@[simp] theorem updates_can (s : State) (t : Nat) (l : List (Nat × Word × BitVec 16)) : (updates s t l).can = s.can := by induction l generalizing s with | nil => rfl | cons a l ih => exact (ih _).trans (by simp)
@[simp] theorem updates_eth (s : State) (t : Nat) (l : List (Nat × Word × BitVec 16)) : (updates s t l).eth = s.eth := by induction l generalizing s with | nil => rfl | cons a l ih => exact (ih _).trans (by simp)
@[simp] theorem updates_csx (s : State) (t : Nat) (l : List (Nat × Word × BitVec 16)) : (updates s t l).csx = s.csx := by induction l generalizing s with | nil => rfl | cons a l ih => exact (ih _).trans (by simp)
@[simp] theorem updates_loops (s : State) (t : Nat) (l : List (Nat × Word × BitVec 16)) : (updates s t l).loops = s.loops := by induction l generalizing s with | nil => rfl | cons a l ih => exact (ih _).trans (by simp)
@[simp] theorem updates_loopEng (s : State) (t : Nat) (l : List (Nat × Word × BitVec 16)) : (updates s t l).loopEng = s.loopEng := by induction l generalizing s with | nil => rfl | cons a l ih => exact (ih _).trans (by simp)
@[simp] theorem updates_evq (s : State) (t : Nat) (l : List (Nat × Word × BitVec 16)) : (updates s t l).evq = s.evq := by induction l generalizing s with | nil => rfl | cons a l ih => exact (ih _).trans (by simp)
@[simp] theorem updates_faultq (s : State) (t : Nat) (l : List (Nat × Word × BitVec 16)) : (updates s t l).faultq = s.faultq := by induction l generalizing s with | nil => rfl | cons a l ih => exact (ih _).trans (by simp)
@[simp] theorem updates_pocket (s : State) (t : Nat) (l : List (Nat × Word × BitVec 16)) : (updates s t l).pocket = s.pocket := by induction l generalizing s with | nil => rfl | cons a l ih => exact (ih _).trans (by simp)
@[simp] theorem updates_rst (s : State) (t : Nat) (l : List (Nat × Word × BitVec 16)) : (updates s t l).rst = s.rst := by induction l generalizing s with | nil => rfl | cons a l ih => exact (ih _).trans (by simp)
@[simp] theorem updates_motion (s : State) (t : Nat) (l : List (Nat × Word × BitVec 16)) : (updates s t l).motion = s.motion := by induction l generalizing s with | nil => rfl | cons a l ih => exact (ih _).trans (by simp)
@[simp] theorem updates_io (s : State) (t : Nat) (l : List (Nat × Word × BitVec 16)) : (updates s t l).io = s.io := by induction l generalizing s with | nil => rfl | cons a l ih => exact (ih _).trans (by simp)
@[simp] theorem updates_twin (s : State) (t : Nat) (l : List (Nat × Word × BitVec 16)) : (updates s t l).twin = s.twin := by induction l generalizing s with | nil => rfl | cons a l ih => exact (ih _).trans (by simp)
@[simp] theorem updates_cv (s : State) (t : Nat) (l : List (Nat × Word × BitVec 16)) : (updates s t l).cv = s.cv := by induction l generalizing s with | nil => rfl | cons a l ih => exact (ih _).trans (by simp)
@[simp] theorem updates_track (s : State) (t : Nat) (l : List (Nat × Word × BitVec 16)) : (updates s t l).track = s.track := by induction l generalizing s with | nil => rfl | cons a l ih => exact (ih _).trans (by simp)
@[simp] theorem updates_streams (s : State) (t : Nat) (l : List (Nat × Word × BitVec 16)) : (updates s t l).streams = s.streams := by induction l generalizing s with | nil => rfl | cons a l ih => exact (ih _).trans (by simp)
@[simp] theorem updates_acq (s : State) (t : Nat) (l : List (Nat × Word × BitVec 16)) : (updates s t l).acq = s.acq := by induction l generalizing s with | nil => rfl | cons a l ih => exact (ih _).trans (by simp)
@[simp] theorem updates_lines (s : State) (t : Nat) (l : List (Nat × Word × BitVec 16)) : (updates s t l).lines = s.lines := by induction l generalizing s with | nil => rfl | cons a l ih => exact (ih _).trans (by simp)
@[simp] theorem updates_freeCtr (s : State) (t : Nat) (l : List (Nat × Word × BitVec 16)) : (updates s t l).freeCtr = s.freeCtr := by induction l generalizing s with | nil => rfl | cons a l ih => exact (ih _).trans (by simp)
@[simp] theorem updates_pending (s : State) (t : Nat) (l : List (Nat × Word × BitVec 16)) : (updates s t l).pending = s.pending := by induction l generalizing s with | nil => rfl | cons a l ih => exact (ih _).trans (by simp)
@[simp] theorem updates_param (s : State) (t : Nat) (l : List (Nat × Word × BitVec 16)) (pk pi : Nat) : param (updates s t l) pk pi = param s pk pi := by simp [param, peff, pbase, inForce]
@[simp] theorem updates_flag (s : State) (t : Nat) (l : List (Nat × Word × BitVec 16)) (pk pi : Nat) : flag (updates s t l) pk pi = flag s pk pi := by simp [flag]

@[simp] theorem axFacets_t0 (s : State) (x : Nat) : (axFacets s x).t0 = s.t0 := by simp [axFacets]
@[simp] theorem axFacets_clock (s : State) (x : Nat) : (axFacets s x).clock = s.clock := by simp [axFacets]
@[simp] theorem axFacets_islands (s : State) (x : Nat) : (axFacets s x).islands = s.islands := by simp [axFacets]
@[simp] theorem axFacets_links (s : State) (x : Nat) : (axFacets s x).links = s.links := by simp [axFacets]
@[simp] theorem axFacets_nodes (s : State) (x : Nat) : (axFacets s x).nodes = s.nodes := by simp [axFacets]
@[simp] theorem axFacets_memErr (s : State) (x : Nat) : (axFacets s x).memErr = s.memErr := by simp [axFacets]
@[simp] theorem axFacets_mode (s : State) (x : Nat) : (axFacets s x).mode = s.mode := by simp [axFacets]
@[simp] theorem axFacets_params (s : State) (x : Nat) : (axFacets s x).params = s.params := by simp [axFacets]
@[simp] theorem axFacets_deck (s : State) (x : Nat) : (axFacets s x).deck = s.deck := by simp [axFacets]
@[simp] theorem axFacets_fw (s : State) (x : Nat) : (axFacets s x).fw = s.fw := by simp [axFacets]
@[simp] theorem axFacets_sched (s : State) (x : Nat) : (axFacets s x).sched = s.sched := by simp [axFacets]
@[simp] theorem axFacets_recd (s : State) (x : Nat) : (axFacets s x).recd = s.recd := by simp [axFacets]
@[simp] theorem axFacets_thatch (s : State) (x : Nat) : (axFacets s x).thatch = s.thatch := by simp [axFacets]
@[simp] theorem axFacets_ridge (s : State) (x : Nat) : (axFacets s x).ridge = s.ridge := by simp [axFacets]
@[simp] theorem axFacets_host (s : State) (x : Nat) : (axFacets s x).host = s.host := by simp [axFacets]
@[simp] theorem axFacets_domains (s : State) (x : Nat) : (axFacets s x).domains = s.domains := by simp [axFacets]
@[simp] theorem axFacets_can (s : State) (x : Nat) : (axFacets s x).can = s.can := by simp [axFacets]
@[simp] theorem axFacets_eth (s : State) (x : Nat) : (axFacets s x).eth = s.eth := by simp [axFacets]
@[simp] theorem axFacets_csx (s : State) (x : Nat) : (axFacets s x).csx = s.csx := by simp [axFacets]
@[simp] theorem axFacets_loops (s : State) (x : Nat) : (axFacets s x).loops = s.loops := by simp [axFacets]
@[simp] theorem axFacets_loopEng (s : State) (x : Nat) : (axFacets s x).loopEng = s.loopEng := by simp [axFacets]
@[simp] theorem axFacets_evq (s : State) (x : Nat) : (axFacets s x).evq = s.evq := by simp [axFacets]
@[simp] theorem axFacets_faultq (s : State) (x : Nat) : (axFacets s x).faultq = s.faultq := by simp [axFacets]
@[simp] theorem axFacets_outbox (s : State) (x : Nat) : (axFacets s x).outbox = s.outbox := by simp [axFacets]
@[simp] theorem axFacets_pocket (s : State) (x : Nat) : (axFacets s x).pocket = s.pocket := by simp [axFacets]
@[simp] theorem axFacets_rst (s : State) (x : Nat) : (axFacets s x).rst = s.rst := by simp [axFacets]
@[simp] theorem axFacets_motion (s : State) (x : Nat) : (axFacets s x).motion = s.motion := by simp [axFacets]
@[simp] theorem axFacets_io (s : State) (x : Nat) : (axFacets s x).io = s.io := by simp [axFacets]
@[simp] theorem axFacets_twin (s : State) (x : Nat) : (axFacets s x).twin = s.twin := by simp [axFacets]
@[simp] theorem axFacets_cv (s : State) (x : Nat) : (axFacets s x).cv = s.cv := by simp [axFacets]
@[simp] theorem axFacets_track (s : State) (x : Nat) : (axFacets s x).track = s.track := by simp [axFacets]
@[simp] theorem axFacets_streams (s : State) (x : Nat) : (axFacets s x).streams = s.streams := by simp [axFacets]
@[simp] theorem axFacets_acq (s : State) (x : Nat) : (axFacets s x).acq = s.acq := by simp [axFacets]
@[simp] theorem axFacets_lines (s : State) (x : Nat) : (axFacets s x).lines = s.lines := by simp [axFacets]
@[simp] theorem axFacets_freeCtr (s : State) (x : Nat) : (axFacets s x).freeCtr = s.freeCtr := by simp [axFacets]
@[simp] theorem axFacets_pending (s : State) (x : Nat) : (axFacets s x).pending = s.pending := by simp [axFacets]
@[simp] theorem axFacets_param (s : State) (x : Nat) (pk pi : Nat) : param (axFacets s x) pk pi = param s pk pi := by simp [param, peff, pbase, inForce]
@[simp] theorem axFacets_flag (s : State) (x : Nat) (pk pi : Nat) : flag (axFacets s x) pk pi = flag s pk pi := by simp [flag]

@[simp] theorem modAxis_t0 (s : State) (x : Nat) (f : AxSt → AxSt) : (modAxis s x f).t0 = s.t0 := by simp [modAxis]
@[simp] theorem modAxis_clock (s : State) (x : Nat) (f : AxSt → AxSt) : (modAxis s x f).clock = s.clock := by simp [modAxis]
@[simp] theorem modAxis_islands (s : State) (x : Nat) (f : AxSt → AxSt) : (modAxis s x f).islands = s.islands := by simp [modAxis]
@[simp] theorem modAxis_links (s : State) (x : Nat) (f : AxSt → AxSt) : (modAxis s x f).links = s.links := by simp [modAxis]
@[simp] theorem modAxis_nodes (s : State) (x : Nat) (f : AxSt → AxSt) : (modAxis s x f).nodes = s.nodes := by simp [modAxis]
@[simp] theorem modAxis_memErr (s : State) (x : Nat) (f : AxSt → AxSt) : (modAxis s x f).memErr = s.memErr := by simp [modAxis]
@[simp] theorem modAxis_mode (s : State) (x : Nat) (f : AxSt → AxSt) : (modAxis s x f).mode = s.mode := by simp [modAxis]
@[simp] theorem modAxis_params (s : State) (x : Nat) (f : AxSt → AxSt) : (modAxis s x f).params = s.params := by simp [modAxis]
@[simp] theorem modAxis_deck (s : State) (x : Nat) (f : AxSt → AxSt) : (modAxis s x f).deck = s.deck := by simp [modAxis]
@[simp] theorem modAxis_fw (s : State) (x : Nat) (f : AxSt → AxSt) : (modAxis s x f).fw = s.fw := by simp [modAxis]
@[simp] theorem modAxis_sched (s : State) (x : Nat) (f : AxSt → AxSt) : (modAxis s x f).sched = s.sched := by simp [modAxis]
@[simp] theorem modAxis_recd (s : State) (x : Nat) (f : AxSt → AxSt) : (modAxis s x f).recd = s.recd := by simp [modAxis]
@[simp] theorem modAxis_thatch (s : State) (x : Nat) (f : AxSt → AxSt) : (modAxis s x f).thatch = s.thatch := by simp [modAxis]
@[simp] theorem modAxis_ridge (s : State) (x : Nat) (f : AxSt → AxSt) : (modAxis s x f).ridge = s.ridge := by simp [modAxis]
@[simp] theorem modAxis_host (s : State) (x : Nat) (f : AxSt → AxSt) : (modAxis s x f).host = s.host := by simp [modAxis]
@[simp] theorem modAxis_domains (s : State) (x : Nat) (f : AxSt → AxSt) : (modAxis s x f).domains = s.domains := by simp [modAxis]
@[simp] theorem modAxis_can (s : State) (x : Nat) (f : AxSt → AxSt) : (modAxis s x f).can = s.can := by simp [modAxis]
@[simp] theorem modAxis_eth (s : State) (x : Nat) (f : AxSt → AxSt) : (modAxis s x f).eth = s.eth := by simp [modAxis]
@[simp] theorem modAxis_csx (s : State) (x : Nat) (f : AxSt → AxSt) : (modAxis s x f).csx = s.csx := by simp [modAxis]
@[simp] theorem modAxis_loops (s : State) (x : Nat) (f : AxSt → AxSt) : (modAxis s x f).loops = s.loops := by simp [modAxis]
@[simp] theorem modAxis_loopEng (s : State) (x : Nat) (f : AxSt → AxSt) : (modAxis s x f).loopEng = s.loopEng := by simp [modAxis]
@[simp] theorem modAxis_evq (s : State) (x : Nat) (f : AxSt → AxSt) : (modAxis s x f).evq = s.evq := by simp [modAxis]
@[simp] theorem modAxis_faultq (s : State) (x : Nat) (f : AxSt → AxSt) : (modAxis s x f).faultq = s.faultq := by simp [modAxis]
@[simp] theorem modAxis_outbox (s : State) (x : Nat) (f : AxSt → AxSt) : (modAxis s x f).outbox = s.outbox := by simp [modAxis]
@[simp] theorem modAxis_pocket (s : State) (x : Nat) (f : AxSt → AxSt) : (modAxis s x f).pocket = s.pocket := by simp [modAxis]
@[simp] theorem modAxis_rst (s : State) (x : Nat) (f : AxSt → AxSt) : (modAxis s x f).rst = s.rst := by simp [modAxis]
@[simp] theorem modAxis_io (s : State) (x : Nat) (f : AxSt → AxSt) : (modAxis s x f).io = s.io := by simp [modAxis]
@[simp] theorem modAxis_twin (s : State) (x : Nat) (f : AxSt → AxSt) : (modAxis s x f).twin = s.twin := by simp [modAxis]
@[simp] theorem modAxis_cv (s : State) (x : Nat) (f : AxSt → AxSt) : (modAxis s x f).cv = s.cv := by simp [modAxis]
@[simp] theorem modAxis_track (s : State) (x : Nat) (f : AxSt → AxSt) : (modAxis s x f).track = s.track := by simp [modAxis]
@[simp] theorem modAxis_streams (s : State) (x : Nat) (f : AxSt → AxSt) : (modAxis s x f).streams = s.streams := by simp [modAxis]
@[simp] theorem modAxis_acq (s : State) (x : Nat) (f : AxSt → AxSt) : (modAxis s x f).acq = s.acq := by simp [modAxis]
@[simp] theorem modAxis_lines (s : State) (x : Nat) (f : AxSt → AxSt) : (modAxis s x f).lines = s.lines := by simp [modAxis]
@[simp] theorem modAxis_freeCtr (s : State) (x : Nat) (f : AxSt → AxSt) : (modAxis s x f).freeCtr = s.freeCtr := by simp [modAxis]
@[simp] theorem modAxis_pending (s : State) (x : Nat) (f : AxSt → AxSt) : (modAxis s x f).pending = s.pending := by simp [modAxis]
@[simp] theorem modAxis_param (s : State) (x : Nat) (f : AxSt → AxSt) (pk pi : Nat) : param (modAxis s x f) pk pi = param s pk pi := by simp [param, peff, pbase, inForce]
@[simp] theorem modAxis_flag (s : State) (x : Nat) (f : AxSt → AxSt) (pk pi : Nat) : flag (modAxis s x f) pk pi = flag s pk pi := by simp [flag]

@[simp] theorem beginCmd_t0 (s : State) (r : Req) (o : Nat) : (beginCmd s r o).t0 = s.t0 := rfl
@[simp] theorem beginCmd_clock (s : State) (r : Req) (o : Nat) : (beginCmd s r o).clock = s.clock := rfl
@[simp] theorem beginCmd_islands (s : State) (r : Req) (o : Nat) : (beginCmd s r o).islands = s.islands := rfl
@[simp] theorem beginCmd_links (s : State) (r : Req) (o : Nat) : (beginCmd s r o).links = s.links := rfl
@[simp] theorem beginCmd_nodes (s : State) (r : Req) (o : Nat) : (beginCmd s r o).nodes = s.nodes := rfl
@[simp] theorem beginCmd_memErr (s : State) (r : Req) (o : Nat) : (beginCmd s r o).memErr = s.memErr := rfl
@[simp] theorem beginCmd_img (s : State) (r : Req) (o : Nat) : (beginCmd s r o).img = s.img := rfl
@[simp] theorem beginCmd_mode (s : State) (r : Req) (o : Nat) : (beginCmd s r o).mode = s.mode := rfl
@[simp] theorem beginCmd_params (s : State) (r : Req) (o : Nat) : (beginCmd s r o).params = s.params := rfl
@[simp] theorem beginCmd_deck (s : State) (r : Req) (o : Nat) : (beginCmd s r o).deck = s.deck := rfl
@[simp] theorem beginCmd_fw (s : State) (r : Req) (o : Nat) : (beginCmd s r o).fw = s.fw := rfl
@[simp] theorem beginCmd_sched (s : State) (r : Req) (o : Nat) : (beginCmd s r o).sched = s.sched := rfl
@[simp] theorem beginCmd_recd (s : State) (r : Req) (o : Nat) : (beginCmd s r o).recd = s.recd := rfl
@[simp] theorem beginCmd_thatch (s : State) (r : Req) (o : Nat) : (beginCmd s r o).thatch = s.thatch := rfl
@[simp] theorem beginCmd_ridge (s : State) (r : Req) (o : Nat) : (beginCmd s r o).ridge = s.ridge := rfl
@[simp] theorem beginCmd_domains (s : State) (r : Req) (o : Nat) : (beginCmd s r o).domains = s.domains := rfl
@[simp] theorem beginCmd_can (s : State) (r : Req) (o : Nat) : (beginCmd s r o).can = s.can := rfl
@[simp] theorem beginCmd_eth (s : State) (r : Req) (o : Nat) : (beginCmd s r o).eth = s.eth := rfl
@[simp] theorem beginCmd_csx (s : State) (r : Req) (o : Nat) : (beginCmd s r o).csx = s.csx := rfl
@[simp] theorem beginCmd_loops (s : State) (r : Req) (o : Nat) : (beginCmd s r o).loops = s.loops := rfl
@[simp] theorem beginCmd_loopEng (s : State) (r : Req) (o : Nat) : (beginCmd s r o).loopEng = s.loopEng := rfl
@[simp] theorem beginCmd_evq (s : State) (r : Req) (o : Nat) : (beginCmd s r o).evq = s.evq := rfl
@[simp] theorem beginCmd_faultq (s : State) (r : Req) (o : Nat) : (beginCmd s r o).faultq = s.faultq := rfl
@[simp] theorem beginCmd_outbox (s : State) (r : Req) (o : Nat) : (beginCmd s r o).outbox = s.outbox := rfl
@[simp] theorem beginCmd_pocket (s : State) (r : Req) (o : Nat) : (beginCmd s r o).pocket = s.pocket := rfl
@[simp] theorem beginCmd_rst (s : State) (r : Req) (o : Nat) : (beginCmd s r o).rst = s.rst := rfl
@[simp] theorem beginCmd_motion (s : State) (r : Req) (o : Nat) : (beginCmd s r o).motion = s.motion := rfl
@[simp] theorem beginCmd_io (s : State) (r : Req) (o : Nat) : (beginCmd s r o).io = s.io := rfl
@[simp] theorem beginCmd_twin (s : State) (r : Req) (o : Nat) : (beginCmd s r o).twin = s.twin := rfl
@[simp] theorem beginCmd_cv (s : State) (r : Req) (o : Nat) : (beginCmd s r o).cv = s.cv := rfl
@[simp] theorem beginCmd_track (s : State) (r : Req) (o : Nat) : (beginCmd s r o).track = s.track := rfl
@[simp] theorem beginCmd_streams (s : State) (r : Req) (o : Nat) : (beginCmd s r o).streams = s.streams := rfl
@[simp] theorem beginCmd_acq (s : State) (r : Req) (o : Nat) : (beginCmd s r o).acq = s.acq := rfl
@[simp] theorem beginCmd_lines (s : State) (r : Req) (o : Nat) : (beginCmd s r o).lines = s.lines := rfl
@[simp] theorem beginCmd_freeCtr (s : State) (r : Req) (o : Nat) : (beginCmd s r o).freeCtr = s.freeCtr := rfl
@[simp] theorem beginCmd_pending (s : State) (r : Req) (o : Nat) : (beginCmd s r o).pending = s.pending := rfl
@[simp] theorem beginCmd_param (s : State) (r : Req) (o : Nat) (pk pi : Nat) : param (beginCmd s r o) pk pi = param s pk pi := rfl
@[simp] theorem beginCmd_flag (s : State) (r : Req) (o : Nat) (pk pi : Nat) : flag (beginCmd s r o) pk pi = flag s pk pi := by simp [flag]

end Sys2Proof.Machine
end

