-- ==== Sys2Proof/Tests/Slice0.lean ====
section
/-! SUPPORT. Small tests: ill-formed terms that WellFormed refuses, values the spec's text gives, and for each statement concrete states that meet its hypotheses. -/

namespace Sys2Proof.Tests

open Sys2Proof Sys2Proof.Machine Sys2Proof.Safety

set_option Elab.async false

/-! ### Helpers -/

/-- The state after reset in a mode with the Steward ready, at T0 = 1 s. -/
def up (m : Mode) : State := { State.reset with t0 := 1000000000, mode := { cur := m }, rst := { stage := 0 }, host := { ready := true } }
/-- The same with some parameters in force: (code, instance, value). -/
def upP (m : Mode) (l : List (Nat × Nat × Nat)) : State := { up m with params := { force := l.map (fun e => (pid e.1 e.2.1, bv 64 e.2.2)) } }
/-- A request in mailbox 0 with tag 1 and target 0. -/
def rq (p : List Byte) (target : Word := 0) : Req := { mb := 0, tag := 1, target := target, payload := p }
/-- The state that an outcome holds, or the state after reset. -/
def nx (r : Res) : State := match r with | .next t => t | _ => State.reset

/-! ### WellFormed refuses -/

theorem wf_packet_short : (Instr.packetReceive 0x10 true (List.replicate 11 0)).wf = false := by decide +kernel
theorem wf_packet_least : (Instr.packetReceive 0x10 true (List.replicate 12 0)).wf = true := by decide +kernel
theorem wf_packet_long : (Instr.packetReceive 0x10 true (List.replicate 269 0)).wf = false := by decide +kernel
theorem wf_placement_fifteen : (Instr.placementWindow (List.replicate 15 0)).wf = false := by decide +kernel
theorem wf_permit_report_seventeen : (Instr.permitReport 0 (List.replicate 17 default)).wf = false := by decide +kernel
theorem wf_pocket_scan_twice : (Instr.pocketScan [4, 4]).wf = false := by decide +kernel
theorem wf_can_frame_65 : (Instr.canFrameReceive 0 0 (List.replicate 65 0) 0 0).wf = false := by decide +kernel
theorem wf_spi_empty : (Instr.spiTransfer []).wf = false := by decide +kernel
theorem wf_udp_long : (Instr.udpDatagram 0 false (List.replicate 1473 0)).wf = false := by decide +kernel
theorem wf_aggregate_without_update : (Instr.tileAggregateSend 0 0 0 0 0 0 false true).wf = false := by decide +kernel
theorem wf_proof_swap_twice : (Instr.proofSwap [(3, 10), (3, 10)]).wf = false := by decide +kernel
theorem wf_proof_check_twice : (Instr.proofCheck [] [(2, 10), (2, 10)]).wf = false := by decide +kernel
theorem wf_capture_nine : (Instr.captureSample 0 0 (List.replicate 9 0)).wf = false := by decide +kernel
theorem wf_csx_long : (Instr.csxInputFrame 0 0 (List.replicate 1501 0)).wf = false := by decide +kernel
theorem wf_request_long : (Instr.paramSet (rq (List.replicate 4065 0))).wf = false := by decide +kernel
theorem wf_station_block_long : (Instr.stationInputBlock 0 0 0 (List.replicate 8193 0) 0).wf = false := by decide +kernel
theorem wf_forwarded_command_long : (Instr.seamForwardReceive (.command 0x0106 0 0 (List.replicate 4065 0))).wf = false := by decide +kernel

/-! ### Lining, time, strobes (O1, O2) -/

/-- A packet of class 2 with SEQ 0 and no payload as R16 lays it out. -/
def pkt : List Byte := let b : List Byte := [0, 0, 0, 0, 0, 0x40, 0, 0]; b ++ leBytes 4 (crc32c b).toNat

theorem wit_lining :
    (packetOf pkt).map (fun p => (p.cls, p.seq)) = some (2, (linkSt (up .run) (linkKey 0x10 true 2)).rxSeq) ∧
    (packetOf pkt).any (fun p => p.seq != (linkSt { up .run with links := [(linkKey 0x10 true 2, { rxSeq := 1 })] } (linkKey 0x10 true 2)).rxSeq) = true ∧
    packetOf (pkt.take 11) = none := by decide +kernel

/-- A tile that is powered and linked, and one that has been without a heartbeat for exactly 200 µs. -/
def sNode : State := { up .run with nodes := [(0, { powered := true, linked := true, lastHb := 999800000 })] }

theorem wit_time_alignment :
    ((node sNode 0).powered = true ∧ (node sNode 0).linked = true ∧ (node sNode 0).lastHb + 200000 ≤ sNode.t0 ∧ (node sNode 0).silent = false) ∧
    (island sNode 0x10).copySet = false ∧
    (let s : State := { sNode with islands := [(0x10, { copySet := true, good := 7 })] }
     (0x10 : Byte).toNat < 0x60 ∧ (island s 0x10).copySet = true ∧ (-20 : Int).natAbs ≤ 20 ∧ 7 ≤ (island s 0x10).good) ∧
    1000 * (if 25000 ≤ 25025 then 25025 - 25000 else 25000 - 25025) ≤ 25000 ∧
    (25000 < 1000 * (if 25000 ≤ 25026 then 25026 - 25000 else 0) ∧ ({ sNode with clock := { crossBad := 2 } } : State).clock.crossBad = 2) ∧
    (sNode.clock.refclk = true ∧ (domain { sNode with domains := [(1, { st := 2 })] } 1).st = 2) := by decide +kernel

/-- An aligned tile 0 with a sample strobe due now and an apply strobe of set 5 due now. -/
def sStrobe (l : List Strobe) (o : List (Nat × Strobe)) : State :=
  { up .run with islands := [(0x60, { aligned := true })], nodes := [(0, { strobes := l })], sched := { strobesOut := o, setsOut := [(0, { id := 5 })] } }

theorem wit_strobes :
    (let s := sStrobe [] [(0, { due := 1000000000, set := none })]
     s.sched.strobesOut.find? (fun e => e.1 == 0) = some (0, { due := 1000000000, set := none }) ∧ (island s (nodeIsland 0)).aligned = true ∧
       s.t0 ≤ 1000000000 ∧ (node s 0).strobes.length < 256) ∧
    (let s := sStrobe [] [(0, { due := 999999999, set := none })]
     s.sched.strobesOut.find? (fun e => e.1 == 0) = some (0, { due := 999999999, set := none }) ∧ 999999999 < s.t0) ∧
    dueStrobe (sStrobe [{ due := 1000000000, set := none }] []) 0 true = some { due := 1000000000, set := none } ∧
    (let s := sStrobe [{ due := 1000000000, set := some 5 }] []
     dueStrobe s 0 false = some { due := 1000000000, set := some 5 } ∧ dueStrobe s 0 true = none) ∧
    ((sStrobe [] []).sched.setsOut.find? (fun e => e.1 == 0)).isSome = true := by decide +kernel

/-! ### The process image (O3, O4) -/

/-- An update of SYS point 5 due now, with and without a force on it. -/
def sUpd (f : List Force) : State := { up .run with img := { pend := [⟨1000000000, ptid 0 5, 7, 0⟩], forces := f } }

theorem wit_image :
    dueUpd (sUpd []) = some ⟨1000000000, ptid 0 5, 7, 0⟩ ∧ forceOf (sUpd []) (ptid 0 5) = none ∧
    forceOf (sUpd [⟨false, ptid 0 5, 3, 0⟩]) (ptid 0 5) = some ⟨false, ptid 0 5, 3, 0⟩ := by decide +kernel

/-- A station on the first CAN region with one input block, and a release that waits for its window. -/
def sStn (st : StnState) : State :=
  { up .run with
    img := { stations := [(stnKey 8 3, { st := st, lastBlock := 0, silentNs := 1000000000, lostNs := 1000000000, blocks := [{ input := true, first := 0x100, count := 2 }] })]
             derived := [(1, { op := .sum, args := [], periodUs := 1000, phaseUs := 0 })] }
    sched := { engines := [(0, { queue := [{ task := 2, due := 1000000000 }] })] } }

theorem wit_windows_stations :
    (let s := sStn .online
     ((engine s 0).queue.take 2).find? (fun r => !r.copied) = some { task := 2, due := 1000000000 } ∧
     (station s (stnKey 8 3)).blocks[0]?.map (·.input) = some true ∧
     ((station s (stnKey 8 3)).st = .online ∧ (station s (stnKey 8 3)).lastBlock + (station s (stnKey 8 3)).silentNs ≤ s.t0) ∧
     ((station s (stnKey 8 3)).lostNs ≠ 0 ∧ (station s (stnKey 8 3)).lastBlock + (station s (stnKey 8 3)).lostNs ≤ s.t0)) ∧
    (let s : State := { sStn .silent with t0 := 2000000000, params := { force := [(pid pTaskWindowWait 2, 100)] } }
     1000000000 + param s pTaskWindowWait 2 * 1000 ≤ s.t0) ∧
    (let s := sStn .online
     (tfind s.img.derived 1).isSome = true ∧ s.mode.cur ≠ .keep ∧ s.mode.cur ≠ .boot ∧ s.t0 % 1000 = 0 ∧ ((s.t0 / 1000 : Int) - 0) % 1000 = 0) := by decide +kernel

/-! ### The scheduler and bit logic (O5-O10) -/

/-- Task 2 of program 0 on engine 0: CYCLIC, enabled, period 1 ms, with a release that is queued (`b` none) or runs. -/
def sTask (b : Option Nat) (d : TaskSt) : State :=
  { upP .run [(pTaskEnable, 2, 1), (pTaskPeriod, 2, 1000)] with
    sched := { tasks := [(2, { d with present := true })], trigs := [(2, 999999000)], move := some ⟨0, 1, 0⟩
               engines := [(0, if b.isSome then { running := some { task := 2, due := 999020000, began := b, setId := some 9 } } else { queue := [{ task := 2, due := 999020000 }] })] } }

theorem wit_scheduler_releases :
    (let s := up .run
     s.mode.cur ≠ .keep ∧ s.mode.cur ≠ .boot ∧ s.t0 + 10000 ≤ 1000020000 ∧ 1000020000 ≤ s.t0 + 20000 ∧ strobeInstant (upP .run [(pTaskEnable, 2, 1), (pTaskPeriod, 2, 1000)]) 1000020000 = false) ∧
    (let s := sTask none {}
     (task s 2).present = true ∧ (task s 2).stopped = false ∧ (task s 2).kind ≠ 1 ∧ flag s pTaskEnable 2 = true ∧ programsRun s 2 = true ∧ s.t0 % 1000 = 0 ∧
       isRelease (s.t0 / 1000) (param s pTaskPeriod 2) (param s pTaskPhase 2) = true ∧ s.sched.trigs = [(2, 999999000)] ∧ (engine s 0).running = none) ∧
    (let s := sTask none { lastRel := some 999000000, heldTrig := true, kind := 1 }
     (task s 2).lastRel = some 999000000 ∧ (task s 2).heldTrig = true ∧ 999000000 + periodNs s 2 ≤ s.t0) := by decide +kernel

theorem wit_scheduler_deadlines :
    (let s := sTask none {}
     (relOf s 2).any (fun r => decide (r.due + periodNs s 2 ≤ s.t0 + 20000) && !r.overrun && r.began.isNone) = true) ∧
    (let s := sTask (some 999030000) {}
     (relOf s 2).any (fun r => decide (r.due + periodNs s 2 ≤ s.t0 + 20000) && !r.overrun && r.began.isSome && r.setId == some 9 && !r.strobed) = true) ∧
    flag (up .run) pSysPlaceAdapt 0 = true ∧ flag (upP .run [(pSysPlaceAdapt, 0, 0)]) pSysPlaceAdapt 0 = false ∧
    (let s : State := { up .run with sched := { move := some ⟨0, 1, 0⟩, tasks := [] } }
     s.sched.move = some ⟨0, 1, 0⟩ ∧ s.sched.exch.any (fun x => x.slot == 0) = false ∧ 0 + 1000000000 ≤ s.t0) := by decide +kernel

/-- A release of task 2 that runs in the bit-logic role on engine 0, with registers and data memory. -/
def bl (g : BlRegs) (m : Mem := []) : State :=
  { upP .run [] with sched := { tasks := [(2, { present := true })], engines := [(0, { running := some { task := 2, due := 1000000 }, bl := g, mem := m })] } }

/-- The operand LOCAL bit 3 of byte 4, and the point MEM:0x18_00000. -/
def xLoc : BitVec 25 := bv 25 (ptid 0x1F 0 + 35)

theorem wit_bit_logic :
    BlAt (bl {}) 0 { task := 2, due := 1000000 } ∧ localBad xLoc false = false ∧ isLocalPt xLoc = true ∧
    isLocalPt (bv 25 (ptid 0x18 0)) = false ∧ localBad (bv 25 (ptid 0x18 0)) true = false ∧ isMem (bv 25 (ptid 0x18 0)) = true ∧
    (blGo (bl { la := true }) 0).la = true ∧ (blGo (bl { nest := List.replicate 15 (true, 1) }) 0).nest.length < 16 ∧
    (blGo (bl { nest := [(true, 1)] }) 0).nest = [(true, 1)] ∧ (bv 25 127).toNat < 128 := by decide +kernel

theorem wit_bit_logic_words :
    localBad (bv 25 (ptid 0x1F 0 + 32)) true = false ∧
    localBit (bv 25 (ptid 0x1F 0 + 32)) / 8 + 4 * (blGo (bl { wb := 0x3FFE }) 0).wb.toNat = 0xFFFC ∧
    0xFFFC < localBit (bv 25 (ptid 0x1F 0 + 32)) / 8 + 4 * (blGo (bl { wb := 0x3FFF }) 0).wb.toNat ∧
    wordOf (bl {} [(4, 7)]) 0 { task := 2, due := 1000000 } (bv 25 (ptid 0x1F 0 + 32)) = 7 ∧
    wordOf (bl {}) 0 { task := 2, due := 1000000 } (bv 25 (ptid 0x1F 0 + 32)) = 0 ∧
    fisNan f32 0x7FC00000 = true ∧ ftrunc f32 0x3FC00000 = some 1 ∧ outOf32 1 = false ∧ fisNan f32 0x3FC00000 = false := by decide +kernel

theorem wit_bit_logic_flow :
    (blGo (bl { calls := [5] }) 0).calls = [5] ∧ (0x7FFF : BitVec 25).toNat < 2 ^ 15 ∧
    (0x7FFF : BitVec 25).toNat < (prog (bl {}) (task (bl {}) 2).prog).words ∧ (blGo (bl { calls := List.replicate 7 1 }) 0).calls.length < 8 := by decide +kernel

theorem wit_bit_logic_blocks :
    (let s := bl { la := true } [(64, 1), (65, 9)]
     let m := (engine s 0).mem
     (16 : BitVec 25).toNat < 2 ^ 16 ∧ instAddr 16 = 64 ∧ (mread m 64).toNat % 128 = 1 ∧ (blGo s 0).la = true ∧ (mread m 65).getLsbD 6 = false ∧
       (mread m 65).getLsbD 0 = true ∧ (mread m 65).getLsbD 3 = true ∧ leVal (mreads m 68 4) ≤ leVal (mreads m 72 4) + 0 ∧ instKind (mread m 64) = some 0 ∧ instField 16 = 0) ∧
    (mread (engine (bl { nest := [(true, 0)] } [(16, 0x10)]) 0).mem 16).toNat = 0x10 ∧ (mread (engine (bl {} [(16, 0x20)]) 0).mem 16).toNat = 0x20 ∧
    (mread (engine (bl {} [(16, 0x12)]) 0).mem 16).toNat = 0x12 ∧ 3 ≤ (blGo (bl { nest := [(true, 0), (true, 0), (true, 0)] }) 0).nest.length := by decide +kernel

theorem wit_bit_logic_faults :
    (prog (bl {}) 0).words ≤ (engine (bl { pc := 32768 }) 0).bl.pc ∧ (engine (bl { nest := List.replicate 16 (true, 0) }) 0).bl.nest.length = 16 ∧
    (engine (bl { calls := List.replicate 8 0 }) 0).bl.calls.length = 8 ∧ (mread (engine (bl {}) 0).mem (instAddr 16)).toNat ≠ 0x20 ∧
    (2 ^ 15 ≤ (0x8000 : BitVec 25).toNat) ∧ 32 ≤ (32 : BitVec 25).toNat ∧ localBad (bv 25 (ptid 0x1F 0 + 33)) true = true ∧
    localBad (bv 25 (ptid 0x1F 0 + 2 ^ 19)) false = true := by decide +kernel

/-- ADD of R123 wraps and sets OV; DIV truncates towards zero with the remainder's sign of the dividend. -/
theorem test_bl_add_wraps : (engine (nx (exec (.blAddi 0 1) (bl { wa := 0x7FFFFFFF }))) 0).bl.wa = 0x80000000 ∧
    (engine (nx (exec (.blAddi 0 1) (bl { wa := 0x7FFFFFFF }))) 0).bl.ov = true := by decide +kernel
theorem test_bl_div_truncates : (let b := (engine (nx (exec (.blDiv 0 (bv 25 (ptid 0x1F 0 + 32))) (bl { wa := 0xFFFFFFF9 } [(4, 2)]))) 0).bl
    (b.wa, b.wb)) = (0xFFFFFFFD, 0xFFFFFFFF) := by decide +kernel

/-! ### Native code, streams, the exchange, loops (O11-O17) -/

/-- Engine 3 in a native role at T0 = 1 s. -/
def nat (role : Nat) (r : Option Release := none) : State := { up .test with sched := { engines := [(3, { role := role, roleSince := 998000000, running := r })] } }

theorem wit_native :
    (engine (nat 1) 3).role ≠ 0 ∧ (engine (nat 1) 3).role ≠ 2 ∧ (engine (nat 1) 3).role = 1 ∧ (engine (nat 1) 3).roleSince + 2000000 ≤ (nat 1).t0 ∧
    (engine (nat 1 (some { task := 2, due := 0 })) 3).running = some { task := 2, due := 0 } ∧ (engine (nat 1) 3).running = none ∧
    (engine (nat 3) 3).role = 3 ∧ 1000009 * 1000 < (nat 3).t0 + 10000 ∧ strobeRefused (nat 3) 0xF (1000010 * 1000) = false := by decide +kernel

/-- A transaction of one entry at Pocket address 0x900. -/
def txn : JTxn := { entries := [(0x900, [1, 2])] }

theorem wit_pocket_and_streams :
    (let s : State := { up .run with pocket := { queue := [txn] } }
     s.pocket.active = none ∧ s.pocket.queue = [txn]) ∧
    (let s : State := { up .run with pocket := { active := some txn } }
     s.pocket.active = some txn) ∧
    (let s : State := { upP .run [(pCeRetainPeriod, 0, 10)] with sched := { staging := [(4, {})], engines := [(0, { preempted := some { task := 2, due := 0 } })], tasks := [(2, { prog := 5 })] } }
     tfind s.sched.staging 4 = some {} ∧ s.t0 % (param s pCeRetainPeriod 0 * 1000000) = 0 ∧ (task s 2).prog ≠ 4) ∧
    (let s : State := { upP .run [(pStreamDrainDeadline, 1, 10)] with streams := [(1, { drain := some 990000000 })] }
     (stream s 1).drain = some 990000000 ∧ 990000000 + param s pStreamDrainDeadline 1 * 1000000 ≤ s.t0) ∧
    (let s : State := { up .run with streams := [(1, { handle := 256 })], track := { slots := [(7, { st := 1, kind := 6, parent := 256, data := [0, 999999999, 0] })] } }
     childrenOf s (stream s 1).handle = [(7, { st := 1, kind := 6, parent := 256, data := [0, 999999999, 0] })] ∧
       999999999 + fld ((recBlocks (stream s 1).recipe 1 0).headD ⟨0, 0, 0, []⟩).b 12 4 * 1000 < s.t0) := by decide +kernel

/-- A state in M11 with an exchange of slot 0, whose program has no task, or with slot 0's image kept. -/
def exch (x : ExchSt) : State := { up .update with sched := { exch := some x, reports := [(0, { slot := 0 })] }, deck := { kept := [(imgKey 3 0, {})], staged := [(imgKey 3 0, [1])] } }

theorem wit_exchange :
    (let s : State := { exch { slot := 0, mb := 0, tag := 1 } with mode := { cur := .idle }, sched := { reports := [(0, { slot := 0 })] } }
     Runs s (rq [0, 0, 0, 0]) 0x0301 true [.idle, .run, .hold] 4 (noTarget (rq [0, 0, 0, 0]) && fld (rq [0, 0, 0, 0]).payload 2 2 == 0) ∧ s.sched.exch = none ∧ s.fw.swapAt = none ∧ s.mode.pend = none ∧
       tfind s.deck.kept (imgKey 3 0) = some {} ∧ tfind s.deck.staged (imgKey 3 0) = some [1] ∧ tfind s.sched.reports 0 = some { slot := 0 } ∧
       Runs s (rq [0, 0, 0, 0]) 0x0303 false allModes 4 true) ∧
    (let s := exch { slot := 0, mb := 0, tag := 1, entry := 0 }
     s.mode.cur = .update ∧ s.twin.exchAt = none ∧ 0 + 10 * (progTasks s 0).foldl (fun a i => max a (periodNs s i)) 0 < s.t0 + swapNs {}) ∧
    (let s : State := { exch { slot := 0, mb := 0, tag := 1, entry := 0 } with
       params := { force := [(pid pTaskEnable 2, 1), (pid pTaskPeriod 2, 1000), (pid pTaskPhase 2, 30)] }, t0 := 1000000000
       sched := { tasks := [(2, { present := true, prog := 0 })] } }
     quietNow s { slot := 0, mb := 0, tag := 1, entry := 0 } = some 1000030000) ∧
    wholeMs 999000000 500000 ≤ (exch { slot := 0, mb := 0, tag := 1, ended := some 999000000 }).t0 := by decide +kernel

/-- Loop 3, present and enabled with a period of 1 ms. -/
def sLoop (d : LoopSt) : State :=
  { upP .run [(pLoopEnable, 3, 1), (pLoopPeriod, 3, 1000), (pLoopInputWait, 3, 100), (pLoopHeldTime, 3, 5)] with loops := [(3, { d with present := true })], islands := [(0x20, {})] }

theorem wit_loop_release :
    (let s := sLoop {}
     (loop s 3).present = true ∧ s.rst.stage = 0 ∧ s.t0 % 1000 = 0 ∧ isRelease (s.t0 / 1000) (param s pLoopPeriod 3) (param s pLoopPhase 3) = true ∧ loopRuns s 3 ≠ 0) ∧
    loopRuns { sLoop {} with mode := { cur := .config } } 3 = 0 ∧
    (let s := sLoop { rel := some 1000000000 }
     (loopEngine s 0).running = none ∧ (island s 0x20).inService = true ∧ readyLoop s 0 = some 3 ∧ param s pLoopLaw 3 ≠ 6) ∧
    (let s := sLoop { rel := some 999010000 }
     (loop s 3).rel = some 999010000 ∧ (loop s 3).begun = false ∧ 999010000 + param s pLoopInputWait 3 * 1000 ≤ s.t0 ∧ 999010000 + loopNs s 3 ≤ s.t0 + 10000 ∧ (loop s 3).overrun = false) ∧
    (let s := sLoop { held := [some 995000000, none, none, none] }
     ((loop s 3).held[0]?).getD none = some 995000000 ∧ 995000000 + param s pLoopHeldTime 3 * 1000000 ≤ s.t0) ∧
    (let s : State := { sLoop { overrun := true } with loopEng := [(0, { running := some 3 })] }
     (loopEngine s 0).running = some 3 ∧ (loopEngine s 0).inLaw = false ∧ (loop s 3).overrun = true ∧ (loop s 3).bridge.running = false) := by decide +kernel

/-- Loop 3 tuning, with limits of 50 % and 25 %, a PV span of 1 and a period of 1 ms. -/
def sTune (x : TuneSt) : State :=
  { upP .maint [(pLoopEnable, 3, 1), (pLoopPeriod, 3, 1000), (pLoopPvHi, 3, 0x3F800000), (pLoopTuneLimit, 3, 0x42480000), (pLoopTuneHyst, 3, 0x41C80000), (pLoopTuneTimeout, 3, 1)] with
    t0 := 100000000000, loops := [(3, { present := true, st := 5, pv := { q := 0 }, tune := some x })] }

theorem wit_loop_tune :
    steady (sTune {}) 3 {} = true ∧ steady (sTune { hist := [(100000000000, 0), (100000000000, 2000000000)] }) 3 { hist := [(100000000000, 0), (100000000000, 2000000000)] } = false ∧
    0 + 60000000000 ≤ (sTune {}).t0 ∧ excursion (sTune { phase := 2, r0 := 2000000000 }) 3 { phase := 2, r0 := 2000000000 } = true ∧ excursion (sTune {}) 3 {} = false ∧
    (let x : TuneSt := { phase := 3, crossings := [0, 1000000000, 2000000000, 3000000000], peaks := [2000000000, 2000000000, 2000000000] }
     consistent (((diffs x.crossings).take 3).map (fun n => (n : Rat) / 1000000000)) = true ∧ consistent ((x.peaks.take 3).map (fun n => (n : Rat))) = true ∧
       20 * loopTs (sTune x) 3 ≤ ((1 : Rat) + 1 + 1) / 3 ∧ paramRat (sTune x) pLoopTuneHyst 3 / 100 * (2 ^ 31 : Nat) < (2000000000 * 3 : Rat) / 6) ∧
    0 + param (sTune {}) pLoopTuneTimeout 3 * 1000000000 ≤ (sTune {}).t0 := by decide +kernel

theorem wit_loop_commands :
    (let s : State := { sTune {} with loops := [(3, { present := true, st := 5, pv := { q := 0 } })] }
     Runs s (rq [3, 0, 0, 0]) 0x0311 true [.maint] 4 true ∧ (loop s 3).present = true ∧ (loop s 3).st = 5 ∧ usable (loop s 3).pv.q ((loop s 3).expired.headD false) = true ∧
       (∀ e ∈ s.loops, e.1 / 64 = 3 / 64 → e.2.tune = none)) ∧
    Runs (up .run) (rq [3, 0, 0, 0]) 0x0310 true allModes 4 true ∧
    (let s : State := { up .run with loops := [(3, { result := some ⟨1, 1, 1, 0, 1, 1, 1⟩ })] }
     Runs s (rq [3, 0, 0, 0]) 0x0312 false allModes 4 true ∧ (loop s 3).result.isSome = true) ∧
    (let s : State := { upP .run [(pLoopBridge, 3, 1), (pLoopBrPeriod, 3, 1000), (pLoopOutDst, 3, ptid 3 0)] with loops := [(3, { present := true })], nodes := [(0, { silent := true })] }
     (loop s 3).present = true ∧ flag s pLoopBridge 3 = true ∧ (node s (bridgeTile s 3)).silent = true ∧ s.t0 % (param s pLoopBrPeriod 3 * 1000) = 0) ∧
    (let s : State := { upP .run [(pLoopBrPeriod, 3, 1000), (pLoopPvSrc, 3, ptid 2 0)] with
       loops := [(3, { present := true, bridge := { running := true } })], img := { field := [(ptid 2 0, (0, 0))] }, t0 := 5000000000 }
     (loop s 3).bridge.running = true ∧ feq f32 (param s pLoopBrBand 3) 0 = true ∧ qAlways (qualOf (tget ((0 : Word), (0x200 : BitVec 16)) s.img.field (param s pLoopPvSrc 3)).2) = true ∧
       0 + 5000000000 ≤ s.t0) := by decide +kernel

/-! ### The loop engine (O15-O17) -/

/-- A loop engine in law code of 64 words, with blocks of 64 words. -/
def le (e : LoopEng := {}) : State :=
  { up .run with loopEng := [(0, { e with running := some 0, inLaw := true, ctx := { lo := 0, words := 64, cycles := 100, xb := 0, xn := 64, yb := 0, yn := 64, cb := 0, cn := 64 } })] }
/-- The engine of that state. -/
def lee (e : LoopEng := {}) : LoopEng := loopEngine (le e) 0

theorem wit_loop_engine : LeAt (le {}) 0 ∧
    (let w : Nat := 3 * 2 ^ 18 + 4 * 2 ^ 12 + 5 * 2 ^ 6
     (lee {}).home (fldBits w 17 12) = .ok 4 ∧ (lee {}).home (fldBits w 23 18) = .ok 3 ∧ (lee {}).home (fldBits w 11 6) = .ok 5 ∧ fldBits w 5 0 = 0) ∧
    (fldBits (4 * 2 ^ 12) 23 18 = 0 ∧ fldBits (3 * 2 ^ 18) 17 16 = 0 ∧ fldBits 31 11 5 = 0) := by decide +kernel

theorem wit_loop_accumulators :
    (lee {}).home (fldBits (3 * 2 ^ 17) 22 17) = .ok 3 ∧ fldBits (3 * 2 ^ 17) 16 6 = 0 ∧ -31 ≤ sfld 33 5 0 ∧ sfld 15 5 0 ≤ 15 ∧ 1 ≤ fldBits 1 5 0 ∧ fldBits 31 5 0 ≤ 31 := by decide +kernel

theorem wit_loop_moves :
    fldBits 0 11 10 = 0 ∧ fldBits 0 3 2 = 0 ∧ (let w : Nat := 2 ^ 10 + 2 ^ 2
      fldBits w 27 26 = 0 ∧ fldBits w 24 16 = 0 ∧ fldBits w 11 10 = 1 ∧ fldBits w 3 2 = 1 ∧ fldBits w 15 15 = 0 ∧
      (lee {}).load 0 0 = .ok 0 ∧ (lee {}).load 2 63 = .ok 0 ∧ (lee {}).load 1 63 = .ok 0) := by decide +kernel

theorem wit_loop_memory :
    (lee {}).addrOk 0 63 = true ∧ (lee {}).addrOk 2 64 = false ∧ (lee {}).home 4 = .ok 4 ∧ (lee {}).main.movp = none ∧ fldBits (3 * 2 ^ 16) 17 16 = 3 ∧
    (let w : Nat := 2 ^ 18 + 4 * 2 ^ 12
     w.testBit 18 = true ∧ fldBits w 20 19 = 0 ∧ fldBits w 11 0 = 0) := by decide +kernel

theorem wit_loop_flow :
    leCond (lee {}).main 0 = .ok true ∧ (lee { link := [1, 2, 3] }).link.length < 4 ∧ (lee {}).rep = none ∧ (lee { shd := true }).shadow.loads = [] ∧
    (lee {}).running ≠ none ∧ (lee {}).slot = none ∧ (lee {}).ctx.cycles + 16 ≤ (lee { cycles := 116 }).cycles ∧ (lee {}).ctx.lo + (lee {}).ctx.words ≤ (lee { pc := 64 }).pc ∧
    (let w : Nat := 2 ^ 23 + 3 * 2 ^ 17
     fldBits w 5 0 = 0 ∧ w.testBit 23 = true ∧ fldBits w 16 13 = 0 ∧ (lee {}).home (fldBits w 22 17) = .ok 3 ∧ ((lee {}).main.rd 3).toNat % 65536 = 0) := by decide +kernel

/-- ADD under S clamps to the largest value and sets SV (R210). -/
theorem test_le_add_clamps : (let b := (loopEngine (nx (exec (.leAddi 0 (bv 25 (2 ^ 24 + 3 * 2 ^ 18 + 4 * 2 ^ 12 + 1))) (le { main := { d := (List.replicate 16 0).set 4 0x7FFFFFFF } }))) 0).main
    (b.rd 3, b.sv)) = (0x7FFFFFFF, true) := by decide +kernel
/-- −1 × −1 in Q15 gives 0x7FFFFFFF (R212). -/
theorem test_le_mpy_replaces : (let b := (loopEngine (nx (exec (.leMpy 0 (bv 28 (3 * 2 ^ 21 + 4 * 2 ^ 16))) (le { main := { d := ((List.replicate 16 0).set 3 0x80000000).set 4 0x8000 } }))) 0).main
    (b.a, b.sv)) = ([0x7FFFFFFF, 0], true) := by decide +kernel

/-! ### Motion (O18-O20) -/

/-- Axis 0 on tile 0 with profile 0 and some parameters. -/
def mo (d : AxSt) (p : PfSt := {}) (l : List (Nat × Nat × Nat) := []) : State := { upP .run l with motion := { ax := [(0, d)], pf := [(0, p)] } }
/-- A segment that starts now with SEQ 1. -/
def seg1 : Seg := { start := 1000000000, p0 := 0, v0 := 0, a0 := 0, j := 0, seq := 1 }

theorem wit_motion_ticks :
    (let s := mo {} { home := some { method := 1, started := 970000000 } } [(pAxisHomeTimeout, 0, 30)]
     s.t0 % 100000 = 0 ∧ s.rst.stage = 0 ∧ (island s 0x28).inService = true ∧ tget 0 s.motion.ticked 0 ≠ s.t0 + 1 ∧ (prof s (profOf 0)).home.isSome = true ∧
       s.t0 < 970000000 + param s pAxisHomeTimeout 0 * 1000000000) ∧
    (let s : State := { mo {} { home := some { method := 1, started := 0 } } [(pAxisHomeTimeout, 0, 1)] with t0 := 1000000000 }
     0 + param s pAxisHomeTimeout 0 * 1000000000 ≤ s.t0) := by decide +kernel

theorem wit_tile_axes :
    (let s : State := { mo {} with motion := { out := [(0, { axis := 0, segs := [seg1] })] } }
     s.motion.out.find? (fun e => e.1 == 0) = some (0, { axis := 0, segs := [seg1] }) ∧ (axis s 0).drv ≠ 5) ∧
    (let s := mo { locked := false, endT := 1000000000, buf := [seg1] }
     (axis s 0).locked = false ∧ (axis s 0).stop = none ∧ (axis s 0).endT ≤ s.t0 ∧ (axis s 0).buf = [seg1] ∧ seg1.start = (axis s 0).endT ∧
       seg1.seq = ((axis s 0).lastSeq + 1) % 65536 ∧ seg1.rest = false ∧ s.t0 % 200 = 0) ∧
    seg1.seq ≠ ((axis (mo { locked := false, endT := 1000000000, lastSeq := 65535, buf := [seg1] }) 0).lastSeq + 1) % 65536 ∧
    (mo { locked := false }).t0 % 200 = 0 ∧ ({ mo {} with t0 := 199 } : State).t0 % 200 ≠ 0 ∧
    (let q : StopRun := { start := 0, p := 0, v := 0, a := 0, sg := 1, phases := [(1, 0, 0)], hard := false, after := 0 }
     (axis (mo { stop := some q }) 0).stop = some q ∧ phasesLen q.phases ≤ (((mo {}).t0 - q.start : Nat) : Rat) / 1000000000) := by decide +kernel

theorem wit_limits :
    ((limOf (axis (mo { neg := { active := true } }) 0) 0).active = true ∧ (limOf (axis (mo { neg := { active := true } }) 0) 0).latched = false) ∧
    (let s := mo { neg := { latched := true, away := true, since := 0 } } {} [(pAxisLimDebounce, 0, 1)]
     (limOf (axis s 0) 0).latched = true ∧ (limOf (axis s 0) 0).away = true ∧ (limOf (axis s 0) 0).active = false ∧ 0 + param s pAxisLimDebounce 0 * 1000 ≤ s.t0) ∧
    ((limOf (axis (mo { plus := { chatter := true, since := 0 } }) 0) 1).chatter = true ∧ 0 + 1000000000 ≤ (mo {}).t0) ∧
    (let s := mo { atRest := false } { disableAt := some 990000000 } [(pAxisDisableDeadline, 0, 10)]
     (prof s (profOf 0)).disableAt = some 990000000 ∧ (axis s 0).atRest = false ∧ 990000000 + param s pAxisDisableDeadline 0 * 1000000 ≤ s.t0) := by decide +kernel

/-- Axis 0 with phase A as given, a run current of 1 A and the chopper times of the table. -/
def ph (p : PhaseSt) (d : AxSt := {}) : State := mo { d with pa := p } {} [(pAxisIRun, 0, 0x3F800000), (pAxisTBlank, 0, 1000), (pAxisTOff, 0, 20000), (pAxisDeadTime, 0, 100), (pAxisFastFrac, 0, 50)]

theorem wit_choppers :
    ((phaseOf (ph { blank := true, st := 1, since := 999999000 }) 0 0).blank = true ∧ 999999000 + param (ph {}) pAxisTBlank 0 ≤ (ph {}).t0) ∧
    ((phaseOf (ph { st := 1 }) 0 0).st = 1 ∧ (phaseOf (ph { st := 1 }) 0 0).blank = false ∧ (axis (ph { st := 1 }) 0).chop = 1 ∧ targetA (ph { st := 1 }) 0 { st := 1 } ≤ magA 2000000) ∧
    999900000 + 100000 ≤ (ph {}).t0 ∧
    ((phaseOf (ph { st := 2, offAt := 0 }) 0 0).st = 2 ∧ 0 + param (ph {}) pAxisTOff 0 * param (ph {}) pAxisFastFrac 0 / 100 ≤ (ph {}).t0) ∧
    ((phaseOf (ph { st := 3, target := 5 }) 0 0).target ≠ 0 ∧ 0 + param (ph {}) pAxisTOff 0 ≤ (ph {}).t0 ∧ (phaseOf (ph { st := 3 }) 0 0).target = 0) ∧
    ((phaseOf (ph { st := 4, since := 999999900 }) 0 0).st = 4 ∧ 999999900 + param (ph {}) pAxisDeadTime 0 ≤ (ph {}).t0) := by decide +kernel

theorem wit_hysteresis_and_currents :
    (let s := ph { st := 1, target := 1 } { chop := 2 }
     (axis s 0).chop = 2 ∧ (phaseOf s 0 0).blank = false ∧ (phaseOf s 0 0).target ≠ 0 ∧ targetA s 0 { st := 1, target := 1 } + 0 + halfH s 0 ≤ (100000000 : Int) / 1000000) ∧
    (phaseOf (ph { quarters := 1 } { chop := 2 }) 0 0).quarters ≠ 0 ∧ param (ph {}) pAxisChopMode 0 = 0 ∧ 16 ≤ (axis (ph { overN := 16 }) 0).pa.overN ∧
    (axis (ph {} { chop := 2 }) 0).atRest = true ∧ (axis (ph { flt := 1 }) 0).pa.flt ≠ 0 ∧ (axis (ph {}) 0).drv ≠ 5 ∧
    (let s := mo { lowSince := some 989999999, atRest := false, referenced := true }
     989999999 + 10000000 < s.t0 ∧ (axis s 0).lowSince = some 989999999) ∧
    (let s := mo { drv := 2, restAt := 900000000 } {} [(pAxisHoldDelay, 0, 100)]
     (axis s 0).drv = 2 ∧ (axis s 0).atRest = true ∧ (axis s 0).ramp = none ∧ 900000000 + param s pAxisHoldDelay 0 * 1000000 ≤ s.t0) ∧
    (let s := mo { drv := 4, ramp := some (1, 0, 0, 1000000000) }
     (axis s 0).ramp = some (1, 0, 0, 1000000000) ∧ 0 + 1000000000 ≤ s.t0 ∧ (axis s 0).drv = 4) := by decide +kernel

/-! ### Channels, groups, analog channels, encoders (O21-O24) -/

/-- Channel 0 and its group with parameters. -/
def ch (l : List (Nat × Nat × Nat)) (d : ChSt := {}) (g : GrpSt := {}) : State := { upP .run l with io := { ch := [(0, d)], grp := [(0, g)] } }
/-- Channel 0 as an output that is on and settled. -/
def co (d : ChSt := {}) (g : GrpSt := {}) (l : List (Nat × Nat × Nat) := []) : State := ch ((pChMode, 0, 3) :: l) { d with settled := true } g

theorem wit_input_channels :
    (let s := ch [(pChMode, 0, 1), (pChFilter, 0, 1000), (pChStepdownTime, 0, 10), (pChWbEnable, 0, 1)] { raw := true, rawSince := 990000000 }
     isIn s 0 = true ∧ (chan s 0).raw ≠ false ∧ 990000000 + param s pChFilter 0 * 1000 ≤ s.t0 ∧ (chan s 0).flags.testBit 15 = false ∧ param s pChStepdownTime 0 ≠ 0 ∧
       990000000 + param s pChStepdownTime 0 * 1000000 ≤ s.t0 ∧ flag s pChWbEnable 0 = true ∧ (grp s 0).lost = false) ∧
    (ch [(pChMode, 0, 1), (pChFilter, 0, 1000)] { rawSince := 999999999 }).t0 < 999999999 + param (ch [(pChMode, 0, 1), (pChFilter, 0, 1000)]) pChFilter 0 * 1000 := by decide +kernel

theorem wit_output_protection :
    (isOut (co { on := true }) 0 = true ∧ chKey (co {}) 0 = 0 ∧ (chan (co { on := true }) 0).on = true) ∧
    ((chan (co { latch := 3, cmd := true }) 0).latch = 3 ∧ (chan (co { latch := 2, cmd := true }) 0).latch = 2 ∧ (chan (co { latch := 2, cmd := true }) 0).cmd = true) ∧
    (let s := co { latch := 2, cmd := true, latchAt := 990000000 } {} [(pChRetryPeriod, 0, 10)]
     990000000 + param s pChRetryPeriod 0 * 1000000 ≤ s.t0) ∧
    param (ch [(pChMode, 0, 4)]) pChMode 0 = 4 ∧ (1651 > 1650 ∧ shedPick (co { on := true, onAt := 5 }) (fun c => c / 8 == 0) = some 0) := by decide +kernel

theorem wit_output_diagnosis :
    (let s := ch [(pChMode, 0, 3), (pChSettle, 0, 100)] { cmdSince := 999900000 }
     (chan s 0).settled = false ∧ 999900000 + param s pChSettle 0 * 1000 ≤ s.t0) ∧
    (isOut (co {}) 0 = true ∧ (chan (co {}) 0).settled = true ∧ (grp (co {}) 0).cut = false ∧ (grp (co {}) 0).lost = false ∧ (chan (co {}) 0).on = false ∧
      (chan (co {}) 0).flags.testBit 7 = false ∧ (chan (co { flags := 128 }) 0).flags.testBit 7 = true) ∧
    ((chan (co { cmd := true }) 0).cmd = true ∧ (chan (co { cmd := true }) 0).raw = false ∧ chWord (co { cmd := true }) 0 % 2 ^ 17 = 0) ∧
    ((chan (co { on := true, onAt := 990000000 }) 0).on = true ∧ 990000000 + 10000000 ≤ (co {}).t0) := by decide +kernel

theorem wit_groups :
    (let s : State := { ch [] {} { lowSince := some 999499999, mv := 8999 } with t0 := 1000000001 }
     s.t0 % 100000 ≠ 0 ∧ (grp s 0).lowSince = some 999499999 ∧ 999499999 + 500000 ≤ s.t0 ∧ (grp s 0).low = false ∧ (grp s 0).highSince = none) ∧
    (let s : State := { up .run with io := { grp := [(1, { mv := 8999 })] } }
     (grp s 1).lost = false ∧ (grp s 1).mv < 9000 ∧ 1 % 16 ≠ 0) ∧
    (let s := ch [] {} { okSince := some 990000000, lost := true, restoreAt := some 1000000000 }
     (grp s 0).okSince = some 990000000 ∧ 990000000 + 10000000 ≤ s.t0 ∧ (grp s 0).lost = true ∧ (grp s 0).hiOkSince = none ∧ param s pChGRestore 0 = 0 ∧ (grp s 0).restoreAt = some 1000000000) ∧
    (let s := ch [(pSafeGroup, 0, 1)] {} { permitAt := some 998100000 }
     flag s pSafeGroup 0 = true ∧ (grp s 0).cut = false ∧ 998100000 + 1900000 ≤ s.t0 ∧ (grp s 0).test = none) ∧
    ((grp (ch [] {} { cut := true, permitAt := some 999000000 }) 0).cut = true ∧ (ch []).t0 < 999000000 + 1900000) ∧
    (grp (ch [] {} { test := some (1, 0) }) 0).test = some (1, 0) := by decide +kernel

theorem wit_output_table :
    (let s : State := { co { applied := true } with nodes := [(0, {})], islands := [(0x60, { aligned := true })] }
     (node s 0).powered = true ∧ (node s 0).configured = true ∧ (grp s 0).cut = false ∧ (chan s 0).cutWait = false ∧ (grp s 0).restoreAt = none ∧ (chan s 0).latch = 0 ∧
       forcedVal s (chPt 0 1) = none ∧ (chan s 0).safe = none ∧ s.mode.cur ≠ .standby ∧ tileAligned s 0 = true ∧ effMode s ≠ .config) ∧
    (let s : State := { co {} with img := { forces := [⟨false, chPt 0 1, 1, 0⟩] } }
     forcedVal s (chPt 0 1) = some 1) ∧
    (chan (co { safe := some true }) 0).safe = some true ∧ effMode (up .config) = .config ∧ (grp (co {} { cut := true }) 0).cut = true := by decide +kernel

/-- Analog input 0 in a mode with a converter. -/
def ai (m cv : Nat) (d : AiSt := {}) : State := { upP .run [(pAiMode, 0, m), (pAiConv, 0, cv)] with io := { ai := [(0, d)] } }

theorem wit_analog_inputs :
    (param (ai 1 0) pAiMode 0 ≠ 0 ∧ param (ai 1 0) pAiConv 0 ≠ 1 ∧ param (ai 0 0) pAiMode 0 = 0 ∧ param (ai 4 1) pAiMode 0 < 5 ∧ param (ai 4 1) pAiConv 0 ≠ 0 ∧ 5 ≤ param (ai 5 1) pAiMode 0) ∧
    heldFor (ain (ai 4 0 { bad := [(0, 990000000)] }) 0).bad 0 10000000 1000000000 = true ∧
    heldFor (ain (ai 4 0 { ok := [(2, 990000000)] }) 0).ok 2 10000000 1000000000 = true ∧
    (heldFor (ain (ai 4 0 { bad := [(4, 999000000)] }) 0).bad 4 1000000 1000000000 = true ∧ (ain (ai 4 0) 0).flags.testBit 4 = false) ∧
    ((ain (ai 4 0 { flags := 16, shuntAt := 0 }) 0).flags.testBit 4 = true ∧ 0 + 1000000000 ≤ (ai 4 0).t0) ∧ (ain (ai 4 0 { okTests := some 0 }) 0).okTests = some 0 := by decide +kernel

theorem wit_analog_outputs_encoders :
    (let s : State := { upP .run [(pAoMode, 0, 1)] with io := { ao := [(0, {})] } }
     param s pAoMode 0 ≠ 0 ∧ (aout s 0).flags.testBit 0 = false ∧ (match aoPin s 0 with | .inr _ => true | .inl _ => false) = true) ∧
    (let s : State := { upP .run [(pAoMode, 0, 1)] with io := { ao := [(0, { applied := true, hzWait := false })] }, islands := [(0x60, { aligned := true })] }
     (match aoPin s 0 with | .inl v => v == 0 | .inr _ => false) = true) ∧
    (let s : State := { upP .run [(pEncMode, 0, 3), (pEncIndex, 0, 1), (pEncInput, 0, 0)] with io := { enc := [(0, { edges := [(900000000, 1)] })] } }
     param s pEncMode 0 ≠ 0 ∧ param s pEncMode 0 ≤ 3 ∧ (enc s 0).flags.testBit 1 = false ∧ ¬((true ≠ (enc s 0).a) ∧ (false ≠ (enc s 0).b)) ∧ true ≠ (enc s 0).a ∧ true ≠ (enc s 0).b ∧
       flag s pEncZGate 0 = false ∧ param s pEncIndex 0 = 1 ∧ param s pEncInput 0 = 0 ∧ (enc s 0).edges.getLast? = some (900000000, 1) ∧ 900000000 + 100000000 ≤ s.t0) ∧
    (let s : State := { upP .run [(pEncMode, 0, 3)] with io := { enc := [(0, { flags := 2, faultAt := 990000000 })] } }
     (enc s 0).flags.testBit 1 = true ∧ (enc s 0).lineBad = false ∧ 990000000 + 10000000 ≤ s.t0) := by decide +kernel

/-- A quadrature change of both lines counts nothing and sets QUAD_ERR (R308). -/
theorem test_enc_both_lines : (let s : State := { upP .run [(pEncMode, 0, 3)] with io := { enc := [(0, {})] } }
    let e := enc (nx (exec (.encLineChange 0 true true) s)) 0
    (e.count, e.flags.testBit 0)) = (0, true) := by decide +kernel

/-! ### The Ridge (O25-O28) -/

/-- The state with the Ridge as given. -/
def rdg (r : RidgeSt) (m : Mode := .run) : State := { up m with ridge := r }
/-- Group 0 of tile 0 declared as a safety group in the Ridge's configuration. -/
def rdgP (r : RidgeSt) (m : Mode := .run) (l : List (Nat × Nat × Nat) := []) : State :=
  rdg { r with config := ((pSafeGroup, 0, 1) :: l).map (fun e => (pid e.1 e.2.1, bv 64 e.2.2)) } m

theorem wit_permits :
    granted (rdgP { internalOk := true, tilesOk := [0], elems := [(0, { lastPass := some 0 }), (1, { lastPass := some 0 })] }) 0 = true := by decide +kernel

theorem wit_fault_reports :
    (let s : State := { rdg {} with faultq := [⟨0x0802, 0x60, 0, 0⟩] }
     s.faultq = [⟨0x0802, 0x60, 0, 0⟩] ∧ faultReact s ⟨0x0802, 0x60, 0, 0⟩ = .group ∧ s.ridge.record.latched = false) ∧
    faultReact (rdg {}) ⟨0x0501, 0x10, 0, 0⟩ = .log ∧
    faultReact (rdg {}) ⟨0x0D01, 0x7F, 0, 0⟩ ≠ .log ∧ (rdg {}).faultq = [] ∧
    (rdg { record := { latched := true } }).ridge.record.latched = true := by decide +kernel

theorem wit_permit_frames :
    (rdg {}).ridge.stopped = false ∧ (rdg { stopped := true }).ridge.stopped = true ∧
    (let c := tget {} (rdg { chans := [(0, { sent := [1], bad := 1 })] }).ridge.chans 0
     [1] = c.sent ∧ [0] ≠ c.sent ∧ c.bad = 1 ∧ c.missing = false) ∧
    ((tget {} (rdg {}).ridge.chans 0).bad = 0 ∧ [0] ≠ (tget {} (rdg {}).ridge.chans 0).sent) ∧
    (let s : State := { upP .run [(pTileEnable, 0, 1)] with ridge := { chans := [(0, { lastReport := 0 })], tilesOk := [0] } }
     s.ridge.tilesOk.contains 0 = true ∧ (tget {} s.ridge.chans 0).missing = false ∧ (tget {} s.ridge.chans 0).lastReport + 1000000000 ≤ s.t0 ∧ flag s pTileEnable 0 = true) ∧
    (tget {} (rdg { chans := [(0, { missing := true })] }).ridge.chans 0).missing = true := by decide +kernel

theorem wit_element_tests :
    (let s := rdgP {}
     declared s 0 = true ∧ testDue s 0 = true ∧ testBusy s 0 = false ∧ (node s 0).silent = false ∧ (grp s 0).lost = false) ∧
    (let s : State := { rdgP {} with nodes := [(0, { silent := true })] }
     testDue s 1 = true ∧ testBusy s 0 = false ∧ (node s 0).silent = true) ∧
    (let s : State := { rdgP { elems := [(1, { due := true })] } with t0 := 8 * 3600 * 1000000000 }
     (elem s 0).due = false ∧ (elem s 1).due = true ∧ ((elem s 0).lastPass.getD 0) + 8 * 3600 * 1000000000 ≤ s.t0) := by decide +kernel

theorem wit_stop_inputs :
    (rdg {}).ridge.estop.demand = false ∧ (rdg { estop := { demand := true } }).ridge.estop.demand = true ∧
    (rdg {}).ridge.estop.discrepancy = false ∧ (rdg { estop := { discrepancy := true } }).ridge.estop.discrepancy = true ∧
    (rdg {}).ridge.estop.errDemand = false ∧ (rdg { estop := { errDemand := true } }).ridge.estop.errDemand = true ∧
    ((5 : Word) ≠ (rdg {}).ridge.configCrc) ∧ ((rdg { stopped := true }).ridge.stopped = true ∧ (rdg { stopped := true }).ridge.hbLost = false) ∧
    (rdg {}).ridge.stopped = false := by decide +kernel

theorem wit_safe_commands :
    (let s : State := { rdg { safeCmds := [0x60] } with nodes := [(0, { powered := true })] }
     (0x60 + (0 : Fin 4).val) ∈ s.ridge.safeCmds ∧ (node s 0).silent = false ∧ (node s 0).powered = true) ∧
    (let s : State := { upP .run [(pSafeAxisStop, 0, 2)] with ridge := { safeCmds := [0x28] }, motion := { pf := [(0, { st := 2 })] } }
     (0x28 + (0 : Fin 4).val) ∈ s.ridge.safeCmds ∧ param s pSafeAxisStop 0 = 2 ∧ (prof s 0).st ≠ 0 ∧ (prof s 0).st ≠ 1) ∧
    (0x10 : Byte).toNat ∉ (rdg {}).ridge.safeCmds ∧
    Runs (up .safe) (rq []) 0x0801 true [.safe] 0 (noTarget (rq [])) := by decide +kernel

theorem wit_safe_resets :
    (let r := rq (leBytes 8 1)
     let s := rdgP { latches := [{ code := 0x0203, react := .group, groups := 1, isl := 0x60 }] }
     Runs s r 0x0802 true allModes 8 (noTarget r) ∧
     (∀ l ∈ s.ridge.latches, l.react = .group → l.groups &&& bv 64 (fld r.payload 0 8) = 0 ∨ causeHolds (begun s r 0x0802) l = false)) ∧
    (let r := rq (leBytes 8 1)
     let s : State := { rdgP { latches := [{ code := 0x0203, react := .group, groups := 1, isl := 0x60 }] } with nodes := [(0, { silent := true })] }
     Runs s r 0x0802 true allModes 8 (noTarget r) ∧
     (∃ l ∈ s.ridge.latches, l.react = .group ∧ l.groups &&& bv 64 (fld r.payload 0 8) ≠ 0 ∧ causeHolds (begun s r 0x0802) l = true)) ∧
    Runs (rdgP {} .idle) (rq []) 0x0803 true [.idle, .maint, .safe] 0 (noTarget (rq [])) ∧
    ((List.range 64).filter (fun g => declared (rdgP {} .idle) g && !(node (rdgP {} .idle) (g / 16)).silent && !(grp (rdgP {} .idle) g).lost)).flatMap (fun g => [2 * g, 2 * g + 1]) ≠ [] ∧
    ((List.range 64).filter (fun g => declared (rdg {} .idle) g && !(node (rdg {} .idle) (g / 16)).silent && !(grp (rdg {} .idle) g).lost)).flatMap (fun g => [2 * g, 2 * g + 1]) = [] := by decide +kernel

/-- An emergency-stop demand latches a SAFE reaction under 0x0B01 (R495). -/
theorem test_estop_latches : (nx (exec (.estopDemand true false) (rdg {}))).ridge.record.code = 0x0B01 := by decide +kernel
/-- A group whose tile's tests have not passed gets no permit (R493). -/
theorem test_permit_untested : granted (rdgP { internalOk := true }) 0 = false := by decide +kernel

/-! ### Restarts, boot, RESUME, power (O29-O34) -/

/-- The state with the restart's state as given. -/
def rs (r : RestartSt) (m : Mode := .run) : State := { up m with rst := r }
/-- The state with one island as given. -/
def isl (i : Nat) (d : IslandSt) (m : Mode := .run) : State := { up m with islands := [(i, d)] }

theorem wit_fault_restarts :
    (let s := up .run
     s.mode.cur ≠ .keep ∧ (island s 0x10).inService = true ∧ isEngine 0x10 = true ∧ (island s 0).inService = true ∧ (island s 0x60).inService = true ∧
       (island s 0x7F).inService = true ∧ s.rst.stage = 0 ∧ (island s 0x10).lastHb + 100000 ≤ s.t0) ∧
    (isCore 0x40 = true ∧ (island (up .run) 0x40).inService = true) ∧ (up .keep).mode.cur = .keep ∧
    ((island (isl 0x10 { restarting := some 999000000 }) 0x10).restarting = some 999000000 ∧ 999000000 + 1000000 ≤ (up .run).t0) ∧
    ((island (isl 0x10 { restarting := some 999000001 }) 0x10).restarting = some 999000001 ∧ (up .run).t0 < 999000001 + 1000000) := by decide +kernel

theorem wit_hot_restart :
    ((rs { stage := 0, hotLog := [(0x10, 0)] }).rst.stage = 0 ∧
      ((rs { stage := 0, hotLog := [(0x10, 0)] }).rst.hotLog.filter (fun e => e.1 == 0x10 && decide (1000000000 < e.2 + 10000000000))).length < 2) ∧
    (island (isl 0x10 { restarting := some 0 }) 0x10).restarting = some 0 ∧ (island (up .run) 0x10).restarting = none := by decide +kernel

/-- A Pocket whose header verifies. -/
def sound : Mem :=
  let m := mwrites (mwrites [] 0 (leBytes 4 0x544B4350)) 4 (leBytes 2 1)
  mwrites m 0xFC (pocketCrc m)
/-- A boot at its end with a Pocket that verifies. -/
def bootEndS (r : RestartSt) : State := { rs { r with stage := 2 } .boot with pocket := { mem := sound } }

set_option maxRecDepth 100000 in
theorem wit_warm_boot :
    (let s : State := { rs { stage := 1 } with nodes := [(0, { silent := true }), (1, { silent := true }), (2, { silent := true }), (3, { powered := false })] }
     s.rst.stage = 1 ∧ ∀ n, n < 4 → (node s n).powered = true → (node s n).silent = true) ∧
    (up .run).rst.stage ≠ 1 ∧
    (let s := bootEndS { kind := 1 }
     s.rst.stage = 2 ∧ s.mode.pend = none ∧ s.twin.waitFrom = none ∧ s.twin.st ≠ 1 ∧ s.rst.started = false ∧ bankPick s 3 = none ∧ bankPick s 0 = some s.fw.bank ∧ s.rst.kind = 1 ∧ headerOk s = true ∧
       s.deck.crcBad = false ∧ s.rst.dramLost = false) ∧
    (let s := bootEndS { kind := 2, vbatLost := true }
     s.rst.kind = 2 ∧ headerOk s = true ∧ s.rst.vbatLost = true ∧ bankPick s 0 = some s.fw.bank) ∧
    (let s := rs { stage := 2, kind := 1 } .boot
     s.rst.kind ≠ 3 ∧ headerOk s = false ∧ bankPick s 0 = some s.fw.bank) ∧
    (let s := bootEndS { started := true }
     s.rst.stage = 2 ∧ s.mode.pend = none ∧ s.twin.waitFrom = none ∧ s.twin.st ≠ 1 ∧ s.rst.started = true) := by decide +kernel

theorem wit_resume :
    ((rs { stage := 3 } .resume).rst.stage = 3 ∧ (rs { stage := 3 } .resume).rst.tr = none ∧ (rs { stage := 3 } .resume).rst.recovered = false) ∧
    (let s := rs { stage := 3, recovered := true } .resume
     s.rst.stage = 3 ∧ s.rst.tr = none ∧ s.rst.recovered = true ∧ natBusy s = false ∧ natBusy { s with sched := { engines := [(3, { role := 2 })] } } = true) ∧
    ((rs { stage := 3, tr := some 1000000000 } .resume).rst.tr = some 1000000000 ∧ 1000000000 ≤ (up .resume).t0) ∧
    (up .resume).t0 < 1000000001 ∧
    (∃ l ∈ (rdg { latches := [{ code := 0x0B01, react := .safe }] }).ridge.latches, l.react = .safe ∨ l.react = .ridgeStop) := by decide +kernel

theorem wit_gap_replay :
    ((node { up .run with nodes := [(0, { silent := false, gapEv := [] })] } 0).silent = false ∧ tileAligned (up .run) 0 = false) ∧
    (let s : State := { isl 0x60 { aligned := true } with nodes := [(0, { gap := [(0, 0, 0, 0)] })] }
     tileAligned s 0 = true ∧ (node s 0).silent = false ∧ (node s 0).gap ≠ []) ∧
    (let s : State := { up .run with nodes := [(0, { replaying := true })] }
     (node s 0).replaying = true ∧ (node s 0).gap = [] ∧ (node s 0).gapEv = []) ∧
    (node (up .run) 0).replaying = false := by decide +kernel

/-- The gap buffer is full at its capacity. -/
theorem wit_gap_full :
    let s : State := { up .run with nodes := [(0, { silent := true, gap := List.replicate gapCapacity (0, 0, 0, 0) })] }
    (node s 0).silent = true ∧ (node s 0).gapFull = false ∧ gapCapacity ≤ (node s 0).gap.length := by
  refine ⟨rfl, rfl, ?_⟩
  show gapCapacity ≤ (List.replicate gapCapacity _).length
  rw [List.length_replicate]

theorem wit_power :
    (up .run).mode.cur ≠ .keep ∧ (up .run).rst.lowAt = none ∧ (rs { stage := 4, lowAt := some 0 }).rst.lowAt ≠ none ∧ (rs { stage := 4, lowAt := some 0 }).mode.cur ≠ .keep ∧
    (up .keep).mode.cur = .keep ∧ (node (up .run) 0).powered = true ∧ (node { up .run with nodes := [(0, { powered := false })] } 0).powered = false := by decide +kernel

theorem wit_pocket_firmware :
    (let s : State := { up .run with fw := { swapAt := some 1000000000 } }
     s.fw.swapAt = some 1000000000 ∧ 1000000000 ≤ s.t0 ∧ s.rst.stage = 0) ∧
    (let s : State := { up .run with fw := { swapAt := some 1000000001 } }
     s.fw.swapAt = some 1000000001 ∧ s.t0 < 1000000001) ∧
    (let s : State := { up .boot with t0 := 5000000000, fw := { swapped := true }, host := {} }
     s.fw.swapped = true ∧ s.host.ready = false ∧ s.rst.t0Trigger + 5000000000 ≤ s.t0 ∧ s.fw.badBoots = 0) ∧
    (let s : State := { up .boot with t0 := 5000000000, fw := { swapped := true, badBoots := 1, bank := 1 }, host := {} }
     1 ≤ s.fw.badBoots ∧ tfind s.fw.valid (1 - s.fw.bank) ≠ none) ∧
    (up .run).fw.swapped = false := by decide +kernel

/-- The reset pin begins a cold restart with cause 0x31 (R343). -/
theorem test_reset_pin : (nx (exec .resetPin (up .run))).rst.cause = 0x31 := by decide +kernel
/-- A Steward watchdog is a warm restart with cause 0x11 (R343). -/
theorem test_watchdog : (let r := (nx (exec .stewardWatchdog (up .run))).rst; (r.kind, r.cause)) = (1, 0x11) := by decide +kernel
set_option maxRecDepth 100000 in
/-- Main power that returns after a complete flush is cause 0x20 (R343). -/
theorem test_power_return : (let t := nx (exec (.powerReturn 0 true) (rs { stage := 4, flushed := true } .keep)); (t.mode.cur, t.rst.cause)) = (.boot, 0x20) := by decide +kernel

/-! ### Capture units, trigger lines, Thatch (O35-O40) -/

/-- Capture unit 0, enabled, with further parameters. -/
def aq (d : AcqUnit) (l : List (Nat × Nat × Nat) := []) (m : Mode := .run) : State := { upP m ((pAcqEnable, 0, 1) :: l) with acq := [(0, d)] }
/-- Trigger line 0. -/
def tl (d : TrgLine) (l : List (Nat × Nat × Nat) := []) : State := { upP .run l with lines := [(0, d)] }

theorem wit_capture :
    (let s := aq { st := 2 } [(pAcqSrcKind, 0, 2), (pAcqSrc0, 0, ptid 0 5), (pAcqPointInterval, 0, 100), (pAcqDecim, 0, 1)]
     acqMay s 0 = true ∧ 2 ≤ (acqUnit s 0).st ∧ (1000000000 : DWord).toNat ≤ s.t0 ∧ (acqUnit s 0).lastT ≤ (1000000000 : DWord).toNat ∧ acqSrcs s 0 ≠ [] ∧ param s pAcqSrcKind 0 ≠ 3 ∧
       [(7 : Word)].length = (acqSrcs s 0).length ∧ (1000000000 : DWord).toNat % max 1 (acqTs s 0) = 0 ∧ (acqUnit s 0).gapN = none ∧ acqFrame s 0 ≠ 0) ∧
    acqFrame (aq { st := 2 } [(pAcqFormat, 0, 2)]) 0 = 0 ∧ (acqUnit (aq { st := 2, gapN := some 4 }) 0).gapN = some 4 ∧
    (let m := acqUnit (aq { st := 2, cfg := [2, 8, 0, 0, 0, 0, 0, 0, 10], armedAt := 990000000 }) 0
     1 ≤ m.get 1 ∧ m.get 1 < 9 ∧ m.st = 2 ∧ m.get 0 = 2 ∧ m.armedAt + m.get 8 * 1000000 ≤ 1000000000) ∧
    (aq { st := 2 }).t0 < (acqUnit (aq { st := 2, armedAt := 1000000001 }) 0).armedAt + (acqUnit (aq { st := 2 }) 0).get 8 * 1000000 := by decide +kernel

theorem wit_records :
    (let s := aq { st := 3, cur := some { t := 0, tf := 999000000, first := 0 } } [(pAcqPostUs, 0, 1000)]
     (acqUnit s 0).cur = some { t := 0, tf := 999000000, first := 0 } ∧ 999000000 + param s pAcqPostUs 0 * 1000 ≤ s.t0 ∧ (acqUnit s 0).disableAt = none ∧ acqMay s 0 = true ∧
       (acqUnit s 0).get 0 ≠ 1 ∧ (acqUnit (aq { st := 3, cfg := [1], cur := some { t := 0, tf := 999000000, first := 0 } } [(pAcqPostUs, 0, 1000)]) 0).get 0 = 1) ∧
    (aq {}).t0 < 999000001 + param (aq {} [(pAcqPostUs, 0, 1000)]) pAcqPostUs 0 * 1000 ∧ (acqUnit (aq {}) 0).cur = none ∧
    (let m := acqUnit (aq { st := 4, switchEnd := 1000000000 }) 0
     m.st = 4 ∧ m.filling = false ∧ m.switchEnd ≤ 1000000000) ∧
    (let m := acqUnit (aq { st := 4, filling := true, holdEnd := 1000000000, cfg := [1] }) 0
     m.st = 4 ∧ m.filling = true ∧ m.holdEnd ≤ 1000000000 ∧ m.disableAt = none ∧ m.get 0 = 1) ∧ ((acqUnit (aq { st := 4, filling := true }) 0).get 0 ≠ 1 ∧ acqMay (aq { st := 4, filling := true }) 0 = true) ∧
    (aq {}).t0 < (acqUnit (aq { holdEnd := 1000000001 }) 0).holdEnd ∧
    (let s := aq { st := 3, cur := some { t := 0, tf := 0, first := 0 }, disableAt := some 990000000, cfg := [0, 0, 0, 0, 0, 0, 0, 0, 0, 0, 0, 10] }
     acqMay s 0 = true ∧ (acqUnit s 0).st = 3 ∧ (acqUnit s 0).disableAt = some 990000000 ∧ 990000000 + (acqUnit s 0).get 11 * 1000000 ≤ s.t0) := by decide +kernel

theorem wit_trigger_lines :
    (let s := tl { pulses := [999996000, 999996001] }
     (trgLine s 0).calib = none ∧ (trgLine s 0).pulses.filter (fun t => decide (t + 4000 ≤ s.t0)) = [999996000]) ∧
    (trgLine (tl { calib := some (0, 1, none) }) 0).calib = some (0, 1, none) ∧
    ((tl {}).t0 < (1000000010 : DWord).toNat / 10 * 10) ∧
    (∃ x ∈ (trgLine (tl { driven := [999998000] }) 0).driven, x ≤ 1000000000 ∧ 1000000000 ≤ x + 2000) ∧
    ((1000000000 : DWord).toNat / 10 * 10 ≤ (tl {}).t0 ∧ ∀ x ∈ (trgLine (tl { driven := [999997999] }) 0).driven, 1000000000 < x ∨ x + 2000 < 1000000000) ∧
    ((trgLine (tl { lastRise := some 999998001 }) 0).lastRise = some 999998001 ∧ 1000000000 < 999998001 + 2000) ∧
    (∀ x, (trgLine (tl {}) 0).lastRise = some x → x + 2000 ≤ 1000000000) ∧
    ((trgLine (tl { echoes := [1000000000] }) 0).echoes = [1000000000] ∧ 1000000000 ≤ (tl {}).t0) ∧ ((tl {}).t0 < 1000000001) ∧
    ((trgLine (tl { calib := some (0, 1, some 999900000) }) 0).calib = some (0, 1, some 999900000) ∧ 999900000 + 100000 ≤ (tl {}).t0) ∧ (tl {}).t0 < 999900001 + 100000 ∧
    (let r := rq (leBytes 4 0)
     Runs (tl {}) r 0x0606 true allModes 4 (r.target == 0 && decide (0 < 4) && fld r.payload 1 3 == 0) ∧ fld r.payload 0 1 = 0) := by
  refine ⟨by decide +kernel, by decide +kernel, by decide +kernel, by decide +kernel, by decide +kernel, by decide +kernel, ?_, by decide +kernel⟩
  intro x h; cases h

theorem wit_acq_commands :
    (let r := rq (leBytes 4 1)
     Runs (aq {}) r 0x0601 true acqModes 4 (r.target == 0) ∧ Runs (aq {}) r 0x0602 true acqModes 4 (r.target == 0) ∧ Runs (aq {}) r 0x0603 true allModes 4 (r.target == 0)) ∧
    (let r := rq (leBytes 4 0 ++ leBytes 4 3 ++ leBytes 4 0 ++ leBytes 4 4)
     let s := aq { recs := [⟨3, [1, 2, 3, 4]⟩] }
     Runs s r 0x0604 false allModes 16 (r.target == 0 && decide (fld r.payload 0 1 < 32) && fld r.payload 1 3 == 0 && bulkOk (fld r.payload 8 4) (fld r.payload 12 4)) ∧
     (acqUnit s 0).cur = none ∧ (acqUnit s 0).recs.find? (fun x => x.recno == fld r.payload 4 4) = some ⟨3, [1, 2, 3, 4]⟩ ∧ 4 ≤ fld r.payload 12 4 ∧
     bulkBusy (begun s r 0x0604) 0 4 = false) := by decide +kernel

theorem wit_acq_commands_refused :
    (let s : State := { aq {} with host := { holds := [⟨0, 4, 1, 0⟩] } }
     bulkBusy s 0 4 = true) ∧
    (let r := rq (leBytes 4 0 ++ leBytes 4 3 ++ leBytes 4 0 ++ leBytes 4 4)
     (acqUnit (aq {}) 0).recs.find? (fun x => x.recno == 3) = none ∧
     (acqUnit (aq { cur := some { t := 0, tf := 0, first := 0 }, recno := 3 }) 0).cur ≠ none ∧ fld r.payload 4 4 = (acqUnit (aq { recno := 3 }) 0).recno) ∧
    (fld (leBytes 4 0 ++ leBytes 4 3 ++ leBytes 4 0 ++ leBytes 4 0) 12 4 < [(1 : Byte)].length) ∧
    (let r := rq (leBytes 4 0 ++ leBytes 4 3)
     Runs (aq {}) r 0x0605 true allModes 8 (r.target == 0 && decide (fld r.payload 0 1 < 32) && fld r.payload 1 3 == 0) ∧
     (∀ x ∈ (acqUnit (aq {}) 0).recs, x.recno ≠ 3) ∧ ∃ x ∈ (acqUnit (aq { recs := [⟨3, []⟩] }) 0).recs, x.recno = fld r.payload 4 4) := by decide +kernel

/-- Thatch over one SYS point, or another, with an interval of class 0 open at `n`. -/
def th (p : Nat) (n : Nat) (h : ThatchSt := {}) : State :=
  { up .run with img := { points := [(p, { ty := 2 })] }, thatch := { h with plan := [{ layers := 0 }], l0 := [(p, { start := n })] } }
/-- An update of a point at an instant. -/
def tu (p t : Nat) : ThUpd := { point := p, t := t, val := 5 }

theorem wit_thatch :
    (let s := th (ptid 1 5) 100000
     tilePoint (ptid 1 5) = true ∧ recorded s (ptid 1 5) = true ∧ s.t0 / 10000 / clsLen (effClsAt s (ptid 1 5) (s.t0 - 1)) ≠ 0 ∧ tfind s.thatch.tileAgg (ptid 1 5) = none) ∧
    (th 5 0).thatch.queue = [] ∧
    (let s := th 5 99999 { queue := [tu 5 999990000] }
     s.thatch.queue = [tu 5 999990000] ∧ recorded s 5 = true ∧ tightOf s 5 = none ∧ (planOf s 5).layers % 2 = 0 ∧ tfind s.thatch.l0 5 = some { start := 99999 } ∧
       99999 ≤ 999990000 / 10000 ∧ 999990000 / 10000 < 99999 + clsLen 0 ∧ 99999 + clsLen 0 ≤ 1000000000 / 10000) ∧
    recorded (th 5 0) (ptid 0x1F 5) = false ∧ 99999 + clsLen 0 ≤ (tu 5 1000000000).t / 10000 ∧ (th 5 100000).t0 / 10000 < 100000 + clsLen 0 ∧
    (let s : State := { th 5 0 { tight := [{ point := 5, cls := 0, lastAct := 0 }] } with params := { force := [(pid pThatchTightHold 0, 1000)] } }
     tightOf s 5 = some { point := 5, cls := 0, lastAct := 0 } ∧ 0 + param s pThatchTightHold 0 * 1000000 ≤ s.t0) ∧
    (let s : State := { th 5 0 { tight := [{ point := 5, cls := 0, lastAct := 1 }] } with params := { force := [(pid pThatchTightHold 0, 1000)] } }
     s.t0 < 1 + param s pThatchTightHold 0 * 1000000) := by decide +kernel

theorem wit_thatch_load_query :
    ((th 5 0 { windowAt := 1000 }).t0 / 1000000 ≤ (th 5 0 { windowAt := 1000 }).thatch.windowAt) ∧
    (let s := th 5 0 { windowAt := 999, demand := 150001, tight := [{ point := 5, cls := 0, lastAct := 0 }] }
     s.thatch.windowAt < s.t0 / 1000000 ∧ 150000 < s.thatch.demand ∧ s.thatch.stepDue = none ∧ s.thatch.tight.getLast? = some { point := 5, cls := 0, lastAct := 0 }) ∧
    (let r := rq ([0, 1, 0xFF, 0] ++ leBytes 8 7 ++ leBytes 8 9 ++ leBytes 4 0 ++ leBytes 4 0 ++ leBytes 4 64) 5
     let s := th 5 0 { l0Ring := [(5 * 2 ^ 32, { start := 7 })] }
     Runs s r 0x0610 false allModes 32 (decide (fld r.payload 0 1 ≤ 4 ∧ fld r.payload 1 1 ≤ 2 ∧ (fld r.payload 2 1 ≤ 5 ∨ fld r.payload 2 1 = 0xFF)) && fld r.payload 3 1 == 0 &&
       (fld r.payload 1 1 != 2 || decide (3 ≤ fld r.payload 0 1)) && bulkOk (fld r.payload 24 4) (fld r.payload 28 4)) ∧
     recorded s 5 = true ∧ bulkBusy (begun s r 0x0610) 0 64 = false ∧ (layerRecs s 5 0).map (·.start) = [7, 0] ∧ 7 ≤ fld r.payload 4 8 ∧ fld r.payload 1 1 = 1) ∧
    recorded (th 5 0) (ptid 0x1F 5) = false ∧ layerRecs (th 6 0) 5 0 = [] ∧ fld (leBytes 4 0 ++ leBytes 8 6) 4 8 < ({ start := 7 } : IntvSt).start := by decide +kernel

/-- A rising edge within 2 µs of the previous one is counted as merged (R390). -/
theorem test_edge_merged : (trgLine (nx (exec (.trgEdgeReceive 0 1000000000 true) (tl { lastRise := some 999999000 }))) 0).merged = 1 := by decide +kernel

/-! ### The recorder, CAN, Ethernet and time (O41-O45) -/

/-- The state with the recorder and the waiting events as given. -/
def rc (r : RecSt) (q : List Event := []) (m : Mode := .run) : State := { up m with recd := r, evq := q }
/-- A record of class CLEAR with number 7 of instant 0. -/
def rec7 : EvRec := { seq := 7, era := 0, cls := .clear, sev := 2 }

theorem wit_recorder :
    (rc {}).evq = [] ∧ (rc {} [⟨.modeChange, 0, 0, [], false⟩]).evq = [⟨.modeChange, 0, 0, [], false⟩] ∧ (rc {}).recd.degraded = false ∧
    (rc {}).recd.ring.find? (coalescesWith (rc {}) ⟨.modeChange, 0, 0, [], false⟩) = none ∧ (rc {}).recd.ring.length < 4096 ∧ (rc { degraded := true }).recd.degraded = true ∧
    (rc { ring := [rec7] }).recd.ring.find? (fun x => x.isOpen && !x.committed && decide (x.born + param (rc {}) pEvtCoalesceMs (Ev.number x.cls) * 1000000 ≤ 1000000000)) = some rec7 ∧
    ((rc { ring := [{ rec7 with isOpen := false }] }).recd.ring.find? (fun x => !x.committed) = some { rec7 with isOpen := false } ∧ (rc {}).recd.flashFailed = false) ∧
    (rc { ring := [rec7] }).recd.ring.find? (fun x => !x.committed) = some rec7 ∧ (rc {}).recd.journal.length + 2 ≤ 128 := by decide +kernel

theorem wit_reclaim :
    let s := rc { journal := List.replicate 127 [rec7] }
    s.recd.journal = [rec7] :: List.replicate 126 [rec7] ∧ 127 ≤ s.recd.journal.length ∧ s.recd.journal.flatten.foldl (fun a x => min a x.sev) 7 = 2 ∧
    [rec7].filter (fun x => decide (2 < x.sev) || x.sev == 7) = [] ∧ (List.replicate 126 [rec7]).length < 128 := by decide +kernel

theorem wit_recorder_commands :
    (let r := rq (leBytes 2 0 ++ leBytes 2 0 ++ leBytes 4 7 ++ leBytes 2 1 ++ leBytes 2 0)
     let s := rc { journal := [[rec7]] }
     Runs s r 0x0620 false allModes 12 (r.target == 0 && fld r.payload 2 2 == 0 && decide (1 ≤ fld r.payload 8 2 ∧ fld r.payload 8 2 ≤ 63) && fld r.payload 10 2 == 0) ∧
     (recsKept s).filter (fun x => x.era.toNat == fld r.payload 0 2) = [rec7] ∧ later 32 rec7.seq.toNat (fld r.payload 4 4) = false ∧ later 32 rec7.seq.toNat 6 = true ∧
     Runs s r 0x0623 false allModes 12 (r.target == 0 && decide (1 ≤ fld r.payload 8 2 ∧ fld r.payload 8 2 ≤ 126) && fld r.payload 10 2 == 0) ∧
     s.recd.anchors.filter (fun a => a.era.toNat == fld r.payload 0 2 && a.wraps == fld r.payload 2 2) = []) := by decide +kernel

theorem wit_recorder_reads :
    Runs (rc {}) (rq []) 0x0621 false allModes 0 ((rq []).target == 0) ∧
    (let r := rq (leBytes 2 0 ++ leBytes 2 0 ++ leBytes 4 0 ++ leBytes 4 64)
     Runs (rc {}) r 0x0622 false allModes 12 (r.target == 0 && fld r.payload 2 2 == 0 && bulkOk (fld r.payload 4 4) (fld r.payload 8 4)) ∧ bulkBusy (begun (rc {}) r 0x0622) 0 64 = false) ∧
    (rc { anchors := [{ era := 0, wraps := 0, seq := 0, t0 := 0, t1 := 0, reason := 1 }] }).recd.anchors.filter (fun a => a.era.toNat == 0 && a.wraps == 0) ≠ [] := by decide +kernel

theorem wit_recorder_clear :
    (let r := rq (List.replicate 32 1)
     Runs (rc {} [] .idle) r 0x0624 true [.config, .idle] 32 (r.target == 0) ∧ (rc {}).recd.secret = none ∧ (rc { secret := some [] }).recd.secret ≠ none) ∧
    Runs (rc {} [] .idle) (rq []) 0x0625 true [.config, .idle, .maint] 0 ((rq []).target == 0) ∧ (rc {}).t0 < (rc { lockedUntil := 1000000001 }).recd.lockedUntil ∧
    (let r := rq (List.replicate 32 1)
     let s := rc { secret := some [1], challenge := some (List.replicate 16 0, 0) } [] .maint
     Runs s r 0x0626 true [.config, .idle, .maint] 32 (r.target == 0) ∧ s.recd.secret = some [1] ∧ s.recd.lockedUntil ≤ s.t0 ∧
       s.recd.challenge = some (List.replicate 16 0, 0) ∧ s.t0 ≤ 0 + 60000000000) ∧ (rc { secret := some [1] }).recd.challenge = none := by decide +kernel

/-- Channel 0 of CAN, enabled and on. -/
def cn (d : CanSt := {}) (l : List (Nat × Nat × Nat) := []) : State := { upP .run ((pCanEnable, 0, 1) :: l) with can := [(0, { d with on := true })] }
/-- A frame that has been pending for 1 µs. -/
def cf (tt : Bool := false) : CanFrame := { id := 5, data := [1], since := 999999000, tt := tt }

theorem wit_can_frames :
    (let s := cn { slots := [(3, { pend := some (cf) })] }
     CanLive s 0 ∧ canMaySend s 0 = true ∧ ((canCh s 0).slots.filterMap (fun e => match e.2.pend with
        | some f => if f.since + 1000 ≤ s.t0 ∧ f.tt = false then some (e.1, f) else none
        | none => none)) = [(3, cf)]) ∧
    (let s := cn { onBus := some 3, slots := [(3, { pend := some (cf) })] }
     (canCh s 0).onBus = some 3 ∧ (canSlot s 0 3).pend = some (cf) ∧ (canSlot s 0 3).next = none ∧ canMode s 0 = 0) ∧
    (canCh (cn) 0).onBus = none ∧ (isRef (cn) 0 5 = false ∧ canFilter (cn) 0 5 = none ∧ (5 : Word).getLsbD 30 = false) ∧
    flag (cn {} [(pCanPex, 0, 1)]) pCanPex 0 = true ∧ flag (cn {} [(pCanPex, 0, 0)]) pCanPex 0 = false ∧
    ((canCh (cn { pexUntil := some 1000000000 }) 0).pexUntil = some 1000000000 ∧ 1000000000 ≤ (cn).t0) ∧ (cn).t0 < 1000000001 ∧
    ((canCh (cn { busOff := true, recovering := true }) 0).busOff = true ∧ (canCh (cn { busOff := true, recovering := true }) 0).recovering = true) ∧ (canCh (cn) 0).busOff = false ∧
    (let s := cn { slots := [(3, { pend := some (cf) })] } [(pCanSlotDeadline, 3, 1)]
     param s pCanSlotDeadline (0 * 32 + 3) ≠ 0 ∧ (cf).since + param s pCanSlotDeadline (0 * 32 + 3) * 1000 ≤ s.t0 ∧ (canCh s 0).onBus ≠ some 3) := by decide +kernel

theorem wit_ttcan :
    (let s := cn { ref := some 0 } [(pCanTtRole, 0, 2)]
     CanLive s 0 ∧ param s pCanTtRole 0 = 2 ∧ canMode s 0 = 0 ∧ (canCh s 0).tec ≤ 127 ∧ (canCh s 0).rec_ ≤ 127 ∧ (canCh s 0).ref = some 0 ∧ 0 + canCycle s 0 ≤ s.t0 ∧ 0 + 3 * canCycle s 0 ≤ s.t0) ∧
    (cn {} [(pCanTtRole, 0, 2), (pCanTtCycle, 0, 1000), (pCanTtNtu, 0, 1000)]).t0 < 999999000 + canCycle (cn {} [(pCanTtRole, 0, 2), (pCanTtCycle, 0, 1000), (pCanTtNtu, 0, 1000)]) 0 ∧
    (let s := cn { ref := some 1000000000, tt := 3, slots := [(3, { pend := some (cf true) })] } [(pCanSlotTtRepeat, 3, 1)]
     (canSlot s 0 3).pend = some (cf true) ∧ (cf true).tt = true ∧ ((canCh s 0).cycle + 64 - param s pCanSlotTtBase (0 * 32 + 3) % 64) % 64 % max 1 (param s pCanSlotTtRepeat (0 * 32 + 3)) = 0 ∧
       1000000000 + param s pCanSlotTtOffset (0 * 32 + 3) * canNtu s 0 ≤ s.t0 ∧ s.t0 ≤ 1000000000 + param s pCanSlotTtOffset (0 * 32 + 3) * canNtu s 0 + canBit s 0 ∧
       (canCh s 0).tt = 3 ∧ (canCh s 0).gap = false ∧ canMaySend s 0 = true) ∧
    (let s := cn { ref := some 999999999, tt := 3 } [(pCanTtRole, 0, 1), (pCanTtCycle, 0, 1000), (pCanTtNtu, 0, 1000)]
     param s pCanTtRole 0 ≠ 0 ∧ (canCh s 0).tt = 3 ∧ s.t0 < 999999999 + 3 * canCycle s 0) := by decide +kernel

theorem wit_can_hold_repeat :
    let s : State := { cn { slots := [(3, { entered := some (5, [1]), applyPrev := 0, applyAt := 1000000, repAt := 0 })] } [(pCanSlotHold, 3, 1)] with
      nodes := [(0, { silent := true, silentSince := 0 })], img := { stations := [(stnKey 8 1, { present := true, blocks := [{ input := false, slot := 3 }] })] } }
    (canSlot s 0 3).entered = some (5, [1]) ∧ (node s (0 / 2)).silent = true ∧ (canStations s 0).any (fun x => (station s x).blocks.any (fun b => !b.input && b.slot == 3 && b.txMode == 0)) = true ∧
    param s pCanSlotHold (0 * 32 + 3) ≠ 0 ∧ (canSlot s 0 3).applyAt - (canSlot s 0 3).applyPrev ≠ 0 ∧
    (canSlot s 0 3).repAt + ((canSlot s 0 3).applyAt - (canSlot s 0 3).applyPrev) ≤ s.t0 ∧ s.t0 ≤ (node s (0 / 2)).silentSince + 5000000000 := by decide +kernel

theorem wit_can_commands :
    (let r := rq ([0, 3, 1, 0] ++ leBytes 4 5 ++ [9])
     Runs (cn) r 0x0701 true allModes (8 + fld r.payload 2 1) (r.target == 0 && decide (0 < 8) && decide (fld r.payload 1 1 < 32 ∨ fld r.payload 1 1 = 0xFF) && fld r.payload 3 1 == 0 &&
         canLenOk (fld r.payload 4 4 / 2 ^ 30 % 2 == 1 && param (cn) pCanFd 0 == 1) (fld r.payload 2 1) && (fld r.payload 1 1 == 0xFF || !slotTaken (cn) 0 (fld r.payload 1 1))) ∧
       CanLive (cn) 0 ∧ fld r.payload 0 1 = 0 ∧ fld r.payload 1 1 ≠ 0xFF) ∧
    (let s := cn { slots := (List.range 32).map (fun k => (k, { pend := some (cf) })) }
     (List.range 32).find? (fun i => !slotTaken s 0 i && (canSlot s 0 i).pend.isNone) = none) ∧
    (flag (up .run) pCanEnable 0 = false ∧ (canCh (up .run) 0).on = false) ∧
    Runs (cn) (rq [0, 3, 0, 0]) 0x0702 true allModes 4 ((rq [0, 3, 0, 0]).target == 0 && decide (0 < 8 ∧ 3 < 32) && fld (rq [0, 3, 0, 0]).payload 2 2 == 0) ∧
    (let r := rq [0, 0, 0, 0]
     Runs (cn) r 0x0703 true allModes 4 (r.target == 0 && decide (0 < 8) && fld r.payload 1 3 == 0) ∧ (canCh (cn) 0).busOff = false ∧ (canCh (cn { busOff := true }) 0).busOff = true) := by decide +kernel

/-- Port 0 of Ethernet, enabled, on and up. -/
def en (d : EthSt := {}) (l : List (Nat × Nat × Nat) := []) (doms : Tbl DomainSt := []) : State :=
  { upP .run ((pEthEnable, 0, 1) :: l) with eth := [(0, { d with on := true, up := true })], domains := doms }

theorem wit_ethernet :
    (let w : List Byte := [1, 2, 3, 0, 0, 0, 0, 0, 0, 0, 0, 0, 0, 0, 0, 0, 0, 0]
     let b : Block := { input := true, mac := 9 }
     let s : State := { en with img := { stations := [(stnKey 16 3, { present := true, blocks := [b] })] } }
     EthLive s 0 ∧ (ethPort s 0).up = true ∧ (station s (stnKey (16 + 0) (fld w 2 2 % 1024))).blocks[fld w 6 1]? = some b ∧ b.mac = (9 : BitVec 48).toNat ∧
       (station s (stnKey (16 + 0) (fld w 2 2 % 1024))).present = true ∧ fld w 0 1 = 1 ∧ fld w 1 1 = 2 ∧ 1 ≤ fld w 2 2 ∧ fld w 2 2 ≤ 1023 ∧ w.length < 24 + fld w 0x10 2) ∧
    (let s := en {} [(pEthQbv, 0, 1), (pEthQbvBase, 0, 1)]
     flag s pEthQbv 0 = true ∧ qbvBase s 0 = none) ∧
    (let s := en {} [(pTimeSource, 1, 1), (pTimeSourcePort, 1, 0), (pEthPtpRole, 0, 1)]
     1 ∈ ptpDomains s 0 ∧ (domain s 1).master = 0 ∧ (5 : DWord).toNat ≤ s.t0) ∧
    (let s := en {} [(pEthPtpRole, 0, 2)] [(1, { st := 2 })]
     param s pEthPtpRole 0 = 2 ∧ s.mode.cur ≠ .standby ∧ (domain s 1).st = 2 ∧ (ethPort s 0).syncAt + syncIv s 0 ≤ s.t0 ∧ s.t0 < (ethPort (en { syncAt := 1000000000 }) 0).syncAt + syncIv s 0) := by decide +kernel

theorem wit_time :
    (let s := en {} [(pTimeCorrPeriod, 1, 1000)] [(1, { st := 3, c := 0 })]
     (domain s 1).st = 3 ∧ param s pTimeCorrPeriod 1 ≠ 0 ∧ s.t0 % (param s pTimeCorrPeriod 1 * 1000000) = 0 ∧ (domain s 1).c < s.t0) ∧
    ((domain (en {} [] [(1, { stepAt := some (1000000000, 5) })]) 1).stepAt = some (1000000000, 5) ∧ 1000000000 ≤ (en).t0) ∧
    (let s := en {} [(pTimeLossTime, 1, 1000)] [(1, { st := 2, lastMeas := 0 })]
     (domain s 1).st = 2 ∧ (domain s 1).lastMeas + param s pTimeLossTime 1 * 1000000 ≤ s.t0) ∧
    (let r := rq [2, 1, 0, 0]
     let s := up .idle
     Runs s r 0x0710 true ([.config, .idle, .maint, .test] ++ (if flag s pTimeRestepInRun 0 then [.run, .hold] else [])) 4
        (r.target == 0 && decide (1 ≤ fld r.payload 0 1 ∧ fld r.payload 0 1 ≤ 3 ∧ fld r.payload 1 1 ≤ 1) && fld r.payload 2 2 == 0) ∧ fld r.payload 1 1 = 1 ∧ fld r.payload 0 1 ≠ 1) ∧
    fld (rq [1, 0, 0, 0]).payload 1 1 = 0 := by decide +kernel

/-- A dominant receive error counts 8 in REC (R440). -/
theorem test_can_rx_error : (canCh (nx (exec (.canRxError 0 true) (cn))) 0).rec_ = 8 := by decide +kernel
/-- A new record takes the next sequence number (R413). -/
theorem test_recorder_number : ((nx (exec .eventRecordCreate (rc { next := 9 } [⟨.modeChange, 0, 0, [], false⟩]))).recd.ring.map (·.seq)) = [9] := by decide +kernel

/-! ### Twins and check values (O46-O49) -/

/-- A device with Twin operation enabled. -/
def tw (d : TwinSt := {}) (m : Mode := .run) (l : List (Nat × Nat × Nat) := []) : State := { upP m ((pTwinEnable, 0, 1) :: l) with twin := d }

theorem wit_twin_seam :
    (flag (tw) pTwinEnable 0 = true ∧ (tw).mode.cur ≠ .keep ∧ (tw).rst.stage = 0 ∧ (∀ a, (tw).twin.sentHb = some a → a + 100000 ≤ (tw).t0) ∧ (tw).twin.st ≠ 5) ∧
    ((tw { sentHb := some 999900001 }).twin.sentHb = some 999900001 ∧ (tw).t0 < 999900001 + 100000) ∧
    ((tw).twin.st = 0 ∧ (tw).mode.cur = .run ∧ param (tw) pTimeSource 3 ≠ 3) ∧
    ((tw { st := 2 } .standby).twin.st = 2 ∧ (tw { st := 2 } .standby).mode.cur = .standby) ∧
    (ptRegion 5 = 0 ∧ standbyRole (tw { st := 2 }).twin.st = true) ∧ (ptRegion (ptid 2 5) ≠ 0 ∧ ptRegion (ptid 2 5) ≠ 1) ∧
    ((tw).t0 ≤ 999900000 + 100000 ∧ 999899999 + 100000 < (tw).t0) ∧
    ((tw { st := 2, instants := [999899999] } .standby).twin.ours = [] ∧ 999899999 ∈ (tw { st := 2, instants := [999899999] } .standby).twin.instants) ∧
    (tw).twin.instants = [] ∧ (tw).twin.down[0]? = some false := by
  refine ⟨⟨by decide +kernel, by decide +kernel, by decide +kernel, ?_, by decide +kernel⟩, by decide +kernel⟩
  intro a h; cases h

/-- Twin state with an active partner that matches and was heard 1 ms ago. -/
def tp (st : Nat) : TwinSt := { st := st, heard := [some 999000000, none], partner := { role := 0, st := 4, same := true } }

theorem wit_twin_pairing :
    (Runs (up .idle) (rq []) 0x0720 true [.idle] 0 ((rq []).target == 0) ∧ flag (up .idle) pTwinEnable 0 = false) ∧
    (Runs (tw (tp 0) .idle) (rq []) 0x0720 true [.idle] 0 ((rq []).target == 0) ∧ pairReason (tw (tp 0) .idle) = 0 ∧ (tw (tp 0) .idle).twin.st = 0) ∧
    ((tw { tp 1 with delta := some 0 } .idle).twin.st = 1 ∧ (tw { tp 1 with delta := some 0 } .idle).twin.delta ≠ none ∧ pairReason (tw { tp 1 with delta := some 0 } .idle) = 0) ∧
    (tw).twin.delta = none ∧
    (let s := tw { tp 2 with heard := [some 0, none] } .standby
     s.mode.cur = .standby ∧ s.twin.st = 2 ∧ seamSilent s = true ∧ s.twin.partner.latched = false) ∧
    (let s := tw { st := 2, partner := { latched := true } } .standby
     seamSilent s = true ∧ s.twin.partner.latched = true) ∧ seamSilent (tw { tp 2 with heard := [some 1000000000, none] } .standby) = false ∧
    (let s : State := { tw { st := 5 } with nodes := [(0, { silent := true, lastHb := 995500000 })] }
     pairedTile s 0 = true ∧ (node s 0).lastHb + 2800000 ≤ s.t0 ∧ (node s 0).lastHb + 4500000 ≤ s.t0) ∧ pairedTile (tw) 0 = false := by decide +kernel

theorem wit_twin_swap :
    (Runs (tw) (rq []) 0x0721 true [.run] 0 ((rq []).target == 0) ∧ (tw).twin.st ≠ 5) ∧
    (let s := tw { st := 5, partner := { st := 2 } }
     Runs s (rq []) 0x0721 true [.run] 0 ((rq []).target == 0) ∧ s.twin.st = 5 ∧ s.twin.partner.st = 2 ∧ s.twin.swap = none ∧ ∀ e ∈ s.motion.ax, e.2.atRest = true) := by decide +kernel

theorem wit_twin_swap_instants :
    ((tw { st := 5, swap := some (1000000000, true, 0) }).twin.swap = some (1000000000, true, 0) ∧ 1000000000 ≤ (tw).t0 ∧ (tw).t0 < 1000000001) ∧
    ((tw { swap := some (999500000, false, 1) }).twin.swap = some (999500000, false, 1) ∧ 999500000 + 500000 ≤ (tw).t0) ∧
    ((tw { swap := some (999000000, true, 1) }).twin.swap = some (999000000, true, 1) ∧ 999000000 + 1000000 ≤ (tw).t0) ∧
    (let s : State := { tw { tp 0 with waitFrom := some 0 } .boot [(pTwinPairWait, 0, 1000)] with rst := { stage := 2 } }
     s.twin.waitFrom = some 0 ∧ s.rst.stage = 2 ∧ 0 + param s pTwinPairWait 0 * 1000000 ≤ s.t0 ∧ param s pTwinId 0 = 0 ∧ partnerActive s = true) ∧
    Runs (tw) (rq []) 0x0722 false allModes 0 ((rq []).target == 0) := by decide +kernel

theorem wit_proof_swaps :
    ((tw { st := 2, nextProof := some 1000000000 }).twin.nextProof = some 1000000000 ∧ 1000000000 ≤ (tw).t0 ∧ (tw).t0 < 1000000001) ∧
    ((tw { proofStage := 1, proofAt := 999000000 }).twin.proofStage = 1 ∧ 999000000 + 1000000 ≤ (tw).t0) ∧ (tw).twin.proofStage ≠ 1 ∧ (tw).twin.proofStage ≠ 2 ∧
    ((tw { proofStage := 2, proofAt := 997000000 }).twin.proofStage = 2 ∧ 997000000 + 3000000 ≤ (tw).t0 ∧ (5 : Rat) < currentOf [(0, 0x40C00000)] 0) ∧
    (let s := tw { cmd := [(chPt 0 1, 1)] } .standby [(pTwinParallel, 0, 1), (pChMode, 0, 3)]
     s.mode.cur = .standby ∧ flag s pTwinParallel 0 = true ∧ isOut s 0 = true ∧ tfind s.twin.cmd (chPt 0 1) = some 1 ∧ (2999 : Nat) < 3000 ∧ 0 ∉ s.twin.mismatch) ∧
    0 ∈ (tw { mismatch := [0] }).twin.mismatch := by decide +kernel

/-- Check-value unit 0. -/
def cu (d : CvUnit) : State := { up .run with cv := { units := [(0, d)] } }
/-- The payload of CV_SCAN for 4 bytes of DRAM under a preset. -/
def scan (preset : Byte) (start : Nat) : Req :=
  rq ([0, 0, 0, 0, 0, preset, 0, 0] ++ leBytes 8 start ++ leBytes 4 4 ++ leBytes 4 0 ++ leBytes 4 0 ++ [0, 0, 0, 0])

theorem wit_check_values :
    (let s := cu { queue := [{ id := 1, len := 4 }] }
     (cvUnit s 0).running = none ∧ (island s (0x30 + 0)).inService = true ∧
       (cvUnit s 0).queue.filter (·.own) ++ (cvUnit s 0).queue.filter (fun j => !j.own) = [{ id := 1, len := 4 }]) ∧
    (let s := cu { running := some { id := 1, len := 1 } }
     (cvUnit s 0).running = some { id := 1, len := 1 } ∧ [(7 : Byte)].length = 1 ∧ 0 < s.t0) ∧
    ((up .run).mode.cur ≠ .keep ∧ (let s : State := { upP .run [(pCvImageScanPeriod, 0, 1)] with cv := {} }; s.cv.scanAt + param s pCvImageScanPeriod 0 * 1000000000 ≤ s.t0)) ∧
    (let r := scan 0 0
     let j := cvJobOf r.payload
     Runs (up .run) r 0x0810 false allModes 32 (r.target == 0 && fld r.payload 0 4 == 0 && decide (j.space ≤ 2 ∧ j.fold ≤ 2 ∧ 1 ≤ j.len ∧ j.len ≤ 0xFFFFFFFC ∧ j.zLen ≤ 8)) ∧
       j.preset < 5 ∧ j.fold = 0 ∧ fld r.payload 7 1 = 0 ∧ fld r.payload 0x1E 2 = 0 ∧ j.start + j.len ≤ cvLimit (up .run) j.space ∧ (cvUnit (up .run) 0).queue.length < 8) ∧
    5 ≤ (cvJobOf (scan 5 0).payload).preset ∧
    (let j := cvJobOf (scan 0 (2 ^ 40)).payload
     cvLimit (up .run) j.space < j.start + j.len) ∧
    (let s : State := { up .run with cv := { units := (List.range 4).map (fun u => (u, { queue := List.replicate 8 { id := 1 } })) } }
     ∀ u, u < 4 → 8 ≤ (cvUnit s u).queue.length) := by decide +kernel

theorem wit_check_value_results :
    (let r := rq (leBytes 4 3)
     let s := cu { results := [{ id := 3 }], queue := [{ id := 3 }] }
     Runs s r 0x0811 false allModes 4 (r.target == 0) ∧ ((s.cv.units.map (·.2)).flatMap (·.results)).find? (fun x => x.id == fld r.payload 0 4) = some { id := 3 } ∧
       Runs s r 0x0812 true allModes 4 (r.target == 0) ∧ (∃ e ∈ s.cv.units, ∃ j ∈ e.2.queue, j.id = fld r.payload 0 4 ∧ j.own = false) ∧
       s.cv.units.find? (fun e => (e.2.queue ++ e.2.running.toList).any (fun j => j.id == fld r.payload 0 4 && !j.own)) = some (0, { results := [{ id := 3 }], queue := [{ id := 3 }] })) ∧
    (up .run).cv.units = [] ∧ (up .run).cv.units.find? (fun e => (e.2.queue ++ e.2.running.toList).any (fun j => j.id == 3 && !j.own)) = none := by decide +kernel

/-- CRC-32C of the nine ASCII digits 1 to 9 is 0xE3069283, the check value of the polynomial that R16 names. -/
theorem test_crc32c : crc32c [0x31, 0x32, 0x33, 0x34, 0x35, 0x36, 0x37, 0x38, 0x39] = 0xE3069283 := by decide +kernel

/-! ### The host window and its mailboxes (O50-O52) -/

/-- The state with mailbox 0 as given. -/
def mbS (x : MbxSt) (h : HostSt := {}) (l : List (Nat × Nat × Nat) := []) : State := { upP .run l with host := { h with ready := true, mbx := [(0, x)] } }

theorem wit_host_registers :
    (let x := mbx (mbS { cmdTail := 5, rspTail := 3 }) 0
     (fill x.cmdTail x.cmdHead ≤ fill 256 x.cmdHead ∧ fill 256 x.cmdHead ≤ 256) ∧ 256 < fill 257 x.cmdHead ∧ fill 4 x.cmdHead < fill x.cmdTail x.cmdHead ∧
     fill 3 x.rspHead ≤ fill x.rspTail x.rspHead ∧ fill x.rspTail x.rspHead < fill 4 x.rspHead) ∧
    (mbx (mbS { blocked := true }) 0).blocked = true ∧ (mbx (mbS {}) 0).tags = [] ∧ (mbx (mbS { tags := [{ tag := 1, opcode := 1 }] }) 0).tags ≠ [] ∧
    ((0 : Word) = (mbS {}).host.hostHb ∧ (1 : Word) ≠ (mbS {}).host.hostHb ∧ (mbS {}).host.hostLost = false) ∧
    (barSize (2 * 0) < (barSize 0 - 3) + 4 ∧ (0 : Nat) + 4 ≤ barSize (2 * 1) ∧ (1 : Fin 3) ≠ 0 ∧ (mbS {}).host.windowDown = false ∧ (mbS {} { windowDown := true }).host.windowDown = true) := by decide +kernel

/-- A frame with header fields as R531 lays them out: mailbox 0, opcode 0x0001, tag 2, OPEN, SEQ 0. -/
def frame (magic ver len : Nat) : List Byte :=
  let f : List Byte := leBytes 2 magic ++ leBytes 1 ver ++ [0, 1, 0, 2, 1] ++ leBytes 2 len ++ List.replicate 22 0
  f.take 28 ++ leBytes 4 (frameCrc f).toNat
/-- Mailbox 0 with one waiting unit that holds a frame. -/
def frS (f : List Byte) : State := mbS { cmdTail := 1 } { rings := mwrites [] 0 f }

theorem wit_frame_status :
    (let s := frS (frame 0x424D 1 0)
     let hd := ringRead s 0 (mbx s 0).cmdHead 32
     (mbx s 0).error = false ∧ 0 < fill (mbx s 0).cmdTail (mbx s 0).cmdHead ∧ mayTake (mbx s 0) = true ∧ fld hd 0 2 = 0x424D ∧ fld hd 2 1 = 1 ∧ fld hd 8 2 ≤ 4064 ∧
       units (fld hd 8 2) ≤ fill (mbx s 0).cmdTail (mbx s 0).cmdHead ∧ frameStatus s 0 1 0 (ringRead s 0 (mbx s 0).cmdHead 32) = 0) ∧
    (mbS {}).host.turn % 8 = 0 := by decide +kernel

theorem wit_frame_refused :
    fld (ringRead (frS (frame 0x424C 1 0)) 0 0 32) 0 2 ≠ 0x424D ∧ fld (ringRead (frS (frame 0x424D 2 0)) 0 0 32) 2 1 ≠ 1 ∧
    1 < units (fld (ringRead (frS (frame 0x424D 1 1)) 0 0 32) 8 2) ∧ frameStatus (mbS { owner := 2 }) 0 1 0 (frame 0x424D 1 0) ≠ 0 ∧
    (up .keep).mode.cur = .keep ∧ (State.reset).host.ready = false := by decide +kernel

theorem wit_datagrams :
    (flag (mbS {} {} [(pHostUdpEnable, 0, 1)]) pHostUdpEnable 0 = true ∧ (mbS {}).host.ready = true ∧ (mbS {}).rst.stage ≠ 4) ∧ ([] : List Byte).length < 32 ∧
    (let f := frame 0x424D 1 0
     fld f 0 2 = 0x424D ∧ fld f 2 1 = 1 ∧ fld f 3 1 < 8 ∧ fld f 8 2 ≤ 1440 ∧ f.length = 32 + fld f 8 2 ∧ frameStatus (mbS {}) 0 2 7 f = 0 ∧ (mbx (mbS {}) 0).owner ≠ 2 ∧
       bv 32 (fld f 0x10 4 + 1) = (mbx (mbS { owner := 2, udpSrc := 7, cmdSeq := 1, lastCrc := bv 32 (fld f 0x1C 4) }) 0).cmdSeq ∧ (frameCrc f).toNat = fld f 0x1C 4) := by decide +kernel

/-- An SPI write of one word to GLB_INT_ENABLE, and a read of it (R521). -/
def spiW : List Byte := let b : List Byte := [2, 0x14, 1, 0, 0, 5, 0, 0, 0]; b ++ leBytes 4 (crc32c b).toNat

theorem wit_spi :
    flag (mbS {} {} [(pHostSpiEnable, 0, 1)]) pHostSpiEnable 0 = true ∧ fld [(9 : Byte)] 0 1 ≠ 2 ∧ fld [(9 : Byte)] 0 1 ≠ 3 ∧
    (fld spiW 0 1 = 2 ∧ spiW.length = 9 + 4 * 1 ∧ (crc32c (spiW.take (5 + 4 * 1))).toNat = fld spiW (5 + 4 * 1) 4 ∧ fld spiW 1 4 / 2 ^ 28 = 0 ∧ fld spiW 1 4 / 2 ^ 24 % 16 = 0 ∧
      fld spiW 1 4 % 2 ^ 24 + 4 * 1 ≤ barSize 0) ∧
    (crc32c ((spiW.take 12 ++ [(0 : Byte)]).take (5 + 4 * 1))).toNat ≠ fld (spiW.take 9 ++ List.replicate 4 (0 : Byte)) (5 + 4 * 1) 4 ∧
    (let l : List Byte := [3, 0x14, 1, 0, 0] ++ List.replicate 10 0
     fld l 0 1 = 3 ∧ l.length = 9 + 2 + 4 * 1) := by decide +kernel

/-- A response without payload. -/
def rsp (u : Option Nat) : Resp := { tag := 1, opcode := 1, target := 0, status := 0, flags := 3, udp := u }

theorem wit_responses :
    ((mbx (mbS { resps := [rsp none] }) 0).resps = [rsp none] ∧ (rsp none).udp = none ∧ fill (mbx (mbS { resps := [rsp none] }) 0).rspTail 0 + units (rsp none).payload.length ≤ 256 ∧
      256 < fill (mbx (mbS { rspTail := 256 }) 0).rspTail 0 + units (rsp none).payload.length) ∧ (rsp (some 7)).udp = some 7 ∧ (mbx (mbS {}) 0).resps = [] ∧ (mbx (mbS {}) 0).unread = [] ∧
    (let s := mbS { unread := [(1, 999999000)], intCfg := 0x00010001 }
     (mbx s 0).unread = [(1, 999999000)] ∧ 999999000 + (mbx s 0).intCfg.toNat / 65536 * us ≤ s.t0 ∧ s.t0 < 999999001 + (mbx s 0).intCfg.toNat / 65536 * us) ∧
    (let c : CmdTag := { tag := 1, opcode := 1, accepted := 999998999, deadlineUs := 1 }
     (mbx (mbS { tags := [c] }) 0).tags.find? (fun t => !t.begun && tooLate (mbS {}) t) = some c) ∧
    (mbx (mbS {}) 0).tags.find? (fun t => !t.begun && tooLate (mbS {}) t) = none ∧
    (let s := mbS { owner := 2 } {} [(pHostUdpIdle, 0, 1)]
     (mbx s 0).owner = 2 ∧ (mbx s 0).tags = [] ∧ (mbx s 0).lastUdp + param s pHostUdpIdle 0 * sec ≤ s.t0) ∧ (mbx (mbS {}) 0).owner ≠ 2 := by decide +kernel

theorem wit_heartbeats :
    ((mbS {}).host.ready = true ∧ (mbS {}).t0 % ms = 0 ∧ (mbS {}).host.beatAt ≠ some (mbS {}).t0) ∧
    (let s := mbS {} {} [(pHostHbTimeout, 0, 1000), (pHostHbAction, 0, 1)]
     param s pHostHbTimeout 0 ≠ 0 ∧ s.host.hostLost = false ∧ s.host.hbChanged + param s pHostHbTimeout 0 * ms ≤ s.t0 ∧ s.host.hbHoldUntil ≤ s.t0 ∧ param s pHostHbAction 0 = 1) ∧
    (mbS {} { hostLost := true }).host.hostLost = true ∧ param (mbS {} {} [(pHostHbAction, 0, 0)]) pHostHbAction 0 ≠ 1 := by decide +kernel

/-- An SPI write stores its word in the register (R521). -/
theorem test_spi_write : (nx (exec (.spiTransfer spiW) (mbS {} {} [(pHostSpiEnable, 0, 1)]))).host.intEnable = 5 := by decide +kernel
/-- A frame that is taken in leaves its tag outstanding and moves CMD_HEAD by its units (R528, R533). -/
theorem test_frame_taken : (let x := mbx (nx (exec .frameTakeIn (frS (frame 0x424D 1 0)))) 0; (x.tags.map (·.tag), x.cmdHead)) = ([2], 1) := by decide +kernel

/-! ### Mailbox commands of the host (O53-O57) -/

theorem wit_device_commands :
    Runs (up .run) (rq []) 0x0001 false allModes 0 ((rq []).target == 0) ∧
    (let r := rq [1, 0, 0, 0]
     Runs (up .run) r 0x0003 true allModes 4 (r.target == 0 && fld r.payload 2 2 == 0 && ((fld r.payload 0 1 == 0 && isEngine (fld r.payload 1 1)) ||
       ((fld r.payload 0 1 == 1 || fld r.payload 0 1 == 3) && fld r.payload 1 1 == 0)))) ∧
    (up .run).host.restartReq = [] ∧ (mbS {} { restartReq := [(1000000000, 0, 0x10)] }).host.restartReq = [(1000000000, 0, 0x10)] ∧ 1000000000 ≤ (up .run).t0 ∧ (up .run).t0 < 1000000001 := by decide +kernel

theorem wit_bulk_commands :
    (let r := rq (leBytes 4 8 ++ [1, 2, 3, 4])
     Runs (up .run) r 0x0004 true allModes 8 (r.target == 0 && bulkOk (fld r.payload 0 4) (r.payload.drop 4).length && decide ((r.payload.drop 4).length ≤ 1436)) ∧
       bulkBusy (up .run) 8 4 = false ∧ (bulkMay (begun (up .run) r 0x0004) 4).1 = true ∧
       (if (up .run).host.bulkWin = (up .run).t0 / (10 * us) then (up .run).host.bulkUsed else 0) < 10000) ∧
    bulkBusy (mbS {} { holds := [⟨8, 4, 1, 0⟩] }) 8 4 = true ∧
    (let r := rq (leBytes 4 8 ++ leBytes 4 4)
     Runs (up .run) r 0x0005 false allModes 8 (r.target == 0 && bulkOk (fld r.payload 0 4) (fld r.payload 4 4) && decide (4 ≤ fld r.payload 4 4 ∧ fld r.payload 4 4 ≤ 1440)) ∧
       (bulkMay (begun (up .run) r 0x0005) 4).1 = true) := by decide +kernel

/-- The ID of HOST.HB_TIMEOUT. -/
def idHb : Nat := pid pHostHbTimeout 0

theorem wit_parameters_read :
    (let r := rq [0, 0, 0, 0] (bv 32 idHb)
     Runs (up .run) r 0x0101 false allModes 4 (decide (fld r.payload 0 1 ≤ 12) && fld r.payload 1 3 == 0)) ∧ (descOf idHb).isSome = true ∧ descOf 0 = none ∧ isFactory 0 = false ∧
    (let r := rq [] (bv 32 idHb)
     Runs (up .run) r 0x0104 false allModes 0 (idHb % 4096 == 0)) ∧ idHb / 4096 % 4096 ≠ 0 ∧ (paramDesc (idHb / 4096)).isSome = true ∧ classKinds (idHb / 4096 / 4096) ≠ [] := by decide +kernel

theorem wit_parameters_changed :
    (let r := rq (leBytes 4 0 ++ leBytes 8 1000) (bv 32 idHb)
     Runs (up .run) r 0x0102 true allModes 12 (fld r.payload 1 3 == 0) ∧ setStatus (up .run) 0 idHb 1000 = 0) ∧
    setStatus (up .run) 0 0 1000 = 0x010F ∧
    (let r := rq (leBytes 4 4) (bv 32 idHb)
     Runs (up .run) r 0x0103 true allModes 4 (decide (1 ≤ fld r.payload 0 1 ∧ fld r.payload 0 1 ≤ 12) && fld r.payload 1 3 == 0)) ∧
    (descOf idHb).any (fun d => shingleOk (up .run) d 4 idHb) = true ∧ tfind (up .run).params.working (pkey 4 idHb) = none ∧
    tfind { up .run with params := { working := [(pkey 4 idHb, 5)] } }.params.working (pkey 4 idHb) ≠ none ∧
    (descOf idHb).any (fun d => !shingleOk (up .run) d 1 idHb) = true := by decide +kernel

/-- General point 3 of region 0x18, typed, with forces. -/
def gp (f : List Force := []) (m : Mode := .maint) : State := { up m with img := { points := [(ptid 0x18 3, { ty := 2 }), (ptid 1 0, { ty := 1 })], forces := f } }

theorem wit_point_reads_writes :
    (let r := rq (leBytes 2 1 ++ leBytes 2 0) (bv 32 (ptid 0x18 3))
     Runs (gp) r 0x0105 false allModes 4 (decide (1 ≤ fld r.payload 0 2 ∧ fld r.payload 0 2 ≤ 507) && fld r.payload 2 2 == 0) ∧ hostPoint (gp) (ptid 0x18 3) = true) ∧
    ((List.range 2).map (ptid 0x18 3 + ·)).find? (fun q => !hostPoint (gp) q) = some (ptid 0x18 4) ∧
    (let r := rq (leBytes 8 5) (bv 32 (ptid 0x18 3))
     Runs (gp) r 0x0106 true allModes 8 (fld r.payload 4 4 == 0) ∧ hostWritable (gp) (ptid 0x18 3) = true ∧ simOf (gp) (ptid 0x18 3) = false ∧ 0x18 ≤ ptRegion (ptid 0x18 3)) ∧
    (hostPoint (gp) (ptid 1 0) = true ∧ hostWritable (gp) (ptid 1 0) = false ∧ simOf (gp) (ptid 1 0) = false) ∧ simOf (gp [⟨true, ptid 1 0, 1, 0⟩]) (ptid 1 0) = true ∧ hostPoint (gp) (ptid 0x18 4) = false := by decide +kernel

theorem wit_point_forces :
    (let r := rq (leBytes 8 5) (bv 32 (ptid 0x18 3))
     Runs (gp) r 0x0107 true ([.idle, .maint] ++ (if flag (gp) pSysForceInRun 0 then [.run] else [])) 8 (fld r.payload 4 4 == 0) ∧ forceRegion (ptid 0x18 3) = true ∧
       ((forcedPoints (gp) false).filter (· != ptid 0x18 3)).length < 256 ∧ Runs (gp) r 0x0108 true allModes 0 true ∧ ptid 0x18 3 ∉ forcedPoints (gp) false ∧
       ptid 0x18 3 ∈ forcedPoints (gp [⟨false, ptid 0x18 3, 1, 0⟩]) false) := by decide +kernel

theorem wit_point_simulations :
    (let r := rq (leBytes 8 0) (bv 32 (ptid 1 0))
     Runs (gp) r 0x0109 true [.idle, .maint, .test] 8 (fld r.payload 0 4 == 0 || (ptRegion (fld r.payload 0 4) == 0x1E && populated (gp) (fld r.payload 0 4))) ∧ inputPoint (gp) (ptid 1 0) = true ∧
       ((forcedPoints (gp) true).filter (· != ptid 1 0)).length < 256 ∧ Runs (gp) r 0x010A true allModes 0 true ∧ inputPoint (gp) (ptid 0x18 3) = false) ∧
    ptid 1 0 ∈ forcedPoints (gp [⟨true, ptid 1 0, 1, 0⟩]) true ∧ forceRegion (ptid 0x1E 0) = false := by decide +kernel

set_option maxRecDepth 100000 in
theorem wit_point_forces_full :
    256 ≤ ((forcedPoints (gp ((List.range 256).map (fun k => ⟨false, ptid 0x18 (k + 4), 1, 0⟩))) false).filter (· != ptid 0x18 3)).length := by decide +kernel

theorem wit_task_trigger :
    let r := rq [7, 0, 0, 0]
    let s : State := { upP .run [(pTaskEnable, 7, 1)] with sched := { tasks := [(7, { present := true, kind := 1 })] } }
    Runs s r 0x010B true [.idle, .run, .hold, .maint, .safe, .update] 4 (r.target == 0 && decide (fld r.payload 0 2 < 1024) && fld r.payload 2 2 == 0) ∧ (task s 7).present = true ∧ (task s 7).kind = 1 ∧
      flag s pTaskEnable 7 = true ∧ (task (up .run) 7).present = false := by decide +kernel

/-- A tune result. -/
def tr (kp : Word) : TuneRes := { ku := 0, tu := 0, amp := 0, rule := 0, kp := kp, ti := 0, td := 0 }

theorem wit_loop_axis_commands :
    (let r := rq [0, 0, 0, 0]
     let s : State := { upP .maint [(pLoopKpMax, 0, 0x3F800000)] with loops := [(0, { result := some (tr 0x3F800000) }), (1, { result := some (tr 0x40000000) })] }
     Runs s r 0x0313 true [.idle, .maint] 4 (decide (r.target = 0 ∧ fld r.payload 2 2 = 0 ∧ loopArg r < 512)) ∧ (loop s 0).result = some (tr 0x3F800000) ∧
       flt f32 (param s pLoopKpMax 0) 0x3F800000 = false ∧ flt f32 (param s pLoopKpMax 0) 0x40000000 = true ∧ (loop s 2).result = none) := by decide +kernel

theorem wit_axis_commands :
    (let s : State := { up .maint with motion := { pf := [(0, { enabled := true })] } }
     let j := rq ([0, 0, 0, 0] ++ leBytes 4 0 ++ leBytes 4 5)
     Runs s j 0x0401 true [.maint] 12 (j.target == 0 && decide (fld j.payload 0 1 < 32 ∧ 1 ≤ fld j.payload 8 4 ∧ fld j.payload 8 4 ≤ 10000) && fld j.payload 1 3 == 0) ∧
     (let m := rq ([0, 1, 0, 0] ++ leBytes 4 9)
      Runs s m 0x0402 true [.maint] 8 (m.target == 0 && decide (fld m.payload 0 1 < 32 ∧ (fld m.payload 1 1 = 1 ∨ fld m.payload 1 1 = 2)) && fld m.payload 2 2 == 0)) ∧
     (let h := rq [0, 0, 0, 0]
      Runs s h 0x0403 true [.maint] 4 (h.target == 0 && decide (fld h.payload 0 1 < 32) && fld h.payload 1 3 == 0) ∧
      Runs s h 0x0404 true [.maint] 4 (h.target == 0 && decide (fld h.payload 0 1 < 32 ∧ fld h.payload 1 1 ≤ 2) && fld h.payload 2 2 == 0)) ∧
     (prof s (profOf 0)).enabled = true ∧ (prof (up .maint) (profOf 0)).enabled = false) := by decide +kernel

theorem wit_channel_commands :
    (let r := rq [3, 0, 0, 0]
     Runs (up .run) r 0x0410 true allModes 4 (r.target == 0 && decide (fld r.payload 0 1 < 64) && fld r.payload 1 3 == 0) ∧ (grp (up .run) 3).lost = false ∧ (grp (up .run) 3).ackWait = false ∧
       Runs (up .run) r 0x0411 true allModes 4 (r.target == 0 && decide (fld r.payload 0 1 < 16) && fld r.payload 1 3 == 0) ∧
       Runs (up .run) r 0x0412 true allModes 4 (r.target == 0 && decide (fld r.payload 0 1 < 16) && fld r.payload 1 3 == 0)) ∧
    (let s : State := { up .run with io := { grp := [(3, { lost := true }), (4, { ackWait := true })] } }
     (grp s 3).lost = true ∧ (grp s 4).lost = false ∧ (grp s 4).ackWait = true) := by decide +kernel

/-- Stream 0. -/
def st0 (d : StreamSt) (m : Mode := .run) : State := { upP m [(pStreamTask, 0, 5)] with streams := [(0, d)], deck := { loaded := [(imgKey 5 0, { bytes := List.replicate 200 0 })] } }

theorem wit_streams_load_start :
    (let r := rq [0, 0, 0, 0]
     Runs (st0 {}) r 0x0501 true [.idle, .run, .hold] 4 (r.target == 0 && decide (fld r.payload 0 1 < 16) && fld r.payload 1 1 == 0) ∧ (stream (st0 {}) 0).st ∈ ([0, 1, 7, 8] : List Nat) ∧
       recipeIn (st0 {}) 0 = some { bytes := List.replicate 200 0 } ∧ fld ((List.replicate 200 (0 : Byte)).drop 64) 0x31 1 = 0) ∧
    (stream (st0 { st := 2 }) 0).st ∉ ([0, 1, 7, 8] : List Nat) ∧ recipeIn (st0 {}) 1 = none ∧
    (let r := rq [1, 0, 0, 0]
     fld r.payload 0 1 ≠ fld ((List.replicate 200 (0 : Byte)).drop 64) 0x31 1) ∧
    (let r := rq [0, 0, 0, 0]
     let s := st0 { st := 1, recipe := List.replicate 136 0 }
     Runs s r 0x0502 true [.run] 4 (streamArg r 3) ∧ (stream s 0).st ∈ ([1, 7, 8] : List Nat) ∧ recipeIn s (stream s 0).slot ≠ none) ∧ (stream (st0 {}) 0).st ∉ ([1, 7, 8] : List Nat) := by decide +kernel

theorem wit_streams_run :
    (let r := rq [0, 0, 0, 0]
     Runs (st0 { st := 2 }) r 0x0503 true [.run, .hold] 4 (streamArg r 3) ∧ (stream (st0 { st := 2 }) 0).st = 2 ∧ (stream (st0 {}) 0).st ≠ 2 ∧
       Runs (st0 { st := 3 }) r 0x0504 true [.run] 4 (streamArg r 3) ∧ (stream (st0 { st := 3 }) 0).st = 3 ∧ (stream (st0 { st := 4, boundary := some 1 }) 0).st = 4 ∧
       (stream (st0 { st := 4, boundary := some 1 }) 0).boundary = some 1 ∧ (stream (st0 {}) 0).st ≠ 3 ∧ (stream (st0 {}) 0).st ≠ 4 ∧
       Runs (st0 { st := 2 }) r 0x0505 true [.run, .hold, .maint, .safe] 4 (streamArg r 2 && decide (fld r.payload 1 1 ≤ 1)) ∧ (stream (st0 { st := 2 }) 0).st ∈ ([2, 3, 4, 5] : List Nat) ∧
       (st0 { st := 2 }).mode.cur = .run ∧ (stream (st0 { st := 2 }) 0).inAbort = false ∧ fld r.payload 1 1 = 0 ∧ fld [(0 : Byte), 1] 1 1 = 1 ∧ (stream (st0 {}) 0).st ∉ ([2, 3, 4, 5] : List Nat)) := by decide +kernel

theorem wit_op_resolve :
    (let r := rq (leBytes 4 256 ++ [1, 0, 0, 0])
     let s : State := { up .run with track := { slots := [(0, { gen := 1, st := 2 })] } }
     Runs s r 0x0510 true [.run, .hold] 8 (r.target == 0 && decide (fld r.payload 4 1 ≤ 3) && fld r.payload 5 3 == 0) ∧ (opOf s 256).any (fun o => o.st == 2) = true ∧ fld r.payload 4 1 ≠ 2 ∧
       opOf s 512 = none ∧ (opOf { s with track := { slots := [(0, { gen := 1, st := 1 })] } } 256).any (fun o => o.st != 2) = true) := by decide +kernel

/-- Both sides of admission occur: a stream with a step is admitted, and with no slot free it is not (R330). -/
theorem wit_stream_admission :
    admitStatus (st0 { st := 1, recipe := List.replicate 136 0 }) 0 0 = 0 ∧
    admitStatus { st0 { st := 1, recipe := List.replicate 136 0 } with track := { free := [] } } 0 0 ≠ 0 := by decide +kernel

/-- BULK_WRITE stores its bytes in order (R546). -/
theorem test_bulk_write : mreads (nx (exec (.bulkWrite (rq (leBytes 4 8 ++ [1, 2, 3, 4]))) (up .run))).host.bulk 8 4 = [1, 2, 3, 4] := by decide +kernel
/-- STREAM_PAUSE of a stream that does not run answers 0x0207 (R546). -/
theorem test_stream_pause : ((mbx (nx (exec (.streamPause (rq [0, 0, 0, 0])) (st0 {}))) 0).resps.map (·.status)) = [0x0207] := by decide +kernel

/-! ### Modes, images, Decks and firmware (O58-O60 and the machine) -/

/-- A device in a mode with a Deck in use, the minimum dwell passed. -/
def md (m : Mode) (d : DeckSt := {}) (p : Option ModePend := none) : State := { up m with mode := { cur := m, pend := p }, deck := { d with inUse := true } }

theorem wit_mode_set :
    (let r := rq [4, 0, 0, 0]
     let s := md .idle
     Runs s r 0x0002 true [.config, .idle, .run, .hold, .maint, .safe] 4 (r.target == 0 && fld r.payload 1 3 == 0) ∧ s.mode.pend = none ∧ modeOf (fld r.payload 0 1) = some .run ∧
       hostTransition .idle .run = true ∧ s.mode.since + param s pModeMinDwell Mode.idle.num * ms ≤ s.t0) ∧
    hostTransition .idle .hold = false ∧ modeOf 12 = none ∧
    (let s : State := { upP .idle [(pModeMinDwell, Mode.idle.num, 10)] with mode := { cur := .idle, since := 990000001 } }
     s.t0 < s.mode.since + param s pModeMinDwell Mode.idle.num * ms) ∧
    (md .config { committing := some {} }).deck.committing ≠ none ∧ (hostTransition .safe .idle = true ∧ hostTransition .config .idle = true ∧ (up .config).deck.inUse = false) ∧
    streamsActive (st0 { st := 2 }) = true ∧ streamsActive (md .run) = false := by decide +kernel

theorem wit_mode_entry :
    (md .idle).mode.pend = none ∧ ((md .idle {} (some ⟨.run, 1000000000, 0, none⟩)).mode.pend = some ⟨.run, 1000000000, 0, none⟩ ∧ 1000000000 ≤ (md .idle).t0) ∧
    (md .idle).t0 < 1000000001 ∧ (md .standby {} (some ⟨.run, 1000000000, 0, none⟩)).mode.cur = .standby := by decide +kernel

/-- A cause image of 64 bytes that verifies: kind 4, generation 1, for firmware 4.2. The two CRCs, each of which covers the other's field or lies under it, were solved from R78 and R79. -/
def img4 : List Byte :=
  [68, 76, 73, 77, 1, 0, 4, 0, 64, 0, 0, 0, 1, 0, 0, 0, 2, 0, 4, 0, 0, 0, 0, 0, 0, 0, 0, 0, 64, 0, 0, 0, 0, 0, 0, 0, 0, 0, 0, 0, 0, 0, 0, 0, 0, 0, 0, 0,
   0, 0, 0, 0, 0, 0, 0, 0, 125, 239, 243, 13, 135, 162, 171, 230]
/-- A firmware image for bank 1 that verifies likewise, of version 5.0 and generation 1. -/
def img8 : List Byte :=
  [68, 76, 73, 77, 1, 0, 8, 1, 64, 0, 0, 0, 1, 0, 0, 0, 0, 0, 5, 0, 0, 0, 0, 0, 1, 0, 0, 0, 192, 0, 0, 0, 0, 0, 0, 0, 0, 0, 0, 0, 0, 0, 0, 0, 0, 0, 0, 0,
   0, 0, 0, 0, 0, 0, 0, 0, 125, 239, 243, 13, 109, 192, 97, 237]

theorem wit_stage :
    (let r := rq ([4, 0, 0, 0] ++ leBytes 4 0 ++ leBytes 4 0 ++ leBytes 4 8)
     let s := md .idle
     Runs s r 0x0201 true [.config, .idle, .run, .hold, .maint] 16 (r.target == 0 && fld r.payload 1 1 == 0 && decide (1 ≤ fld r.payload 0 1 ∧ fld r.payload 0 1 ≤ 8) &&
       bulkOk (fld r.payload 8 4) (fld r.payload 12 4)) ∧ stageBusy s 4 0 = false ∧ fld r.payload 4 4 = ([] : List Byte).length ∧ 0 + 8 ≤ kindLimit 4 ∧ bulkBusy s 0 8 = false ∧
       (if s.host.bulkWin = s.t0 / (10 * us) then s.host.bulkUsed else 0) < 10000) ∧
    stageBusy (md .idle { loading := some { kind := 4, slot := 0 } }) 4 0 = true ∧ kindLimit 4 < 0 + (kindLimit 4 + 4) := by decide +kernel

theorem wit_deck_load_commit_save :
    (Runs (md .config) (rq []) 0x0203 true [.config] 0 ((rq []).target == 0) ∧ (md .config).deck.validating.isSome = false ∧ (md .config { validating := some {} }).deck.validating.isSome = true) ∧
    (Runs (md .config { stagedOk := true }) (rq []) 0x0204 true [.config] 0 ((rq []).target == 0) ∧ (md .config { stagedOk := true }).deck.stagedOk = true ∧
      (md .config { stagedOk := true }).deck.committing = none ∧ (md .config).deck.stagedOk = false) ∧
    (Runs (md .idle) (rq []) 0x0205 true [.idle, .run, .hold, .maint] 0 ((rq []).target == 0) ∧ (md .idle).deck.saving = none ∧ (md .idle { saving := some {} }).deck.saving.isSome = true) := by decide +kernel

theorem wit_deck_jobs :
    ((md .config { validating := some {} }).deck.validating ≠ none ∧ (md .config).deck.validating = none) ∧
    ((md .config { committing := some { kind := 1 } }).deck.committing = some { kind := 1 } ∧ (md .config).mode.cur = .config ∧ (md .idle).mode.cur ≠ .config) ∧
    (md .idle { saving := some {} }).deck.saving = some {} ∧ (md .idle).deck.saving = none ∧ (md .idle).deck.loading = none := by decide +kernel

theorem wit_image_load :
    (let r := rq [4, 0, 0, 0]
     let s := md .idle { staged := [(imgKey 4 0, img4)], loaded := [(imgKey 4 1, {})] }
     Runs s r 0x0202 true [.idle, .run, .hold, .maint] 4 (r.target == 0 && decide (2 ≤ fld r.payload 0 1 ∧ fld r.payload 0 1 ≤ 7) && decide (fld r.payload 1 1 ≤ 1)) ∧ stageBusy s 4 0 = false ∧
       s.deck.loading.isSome = false ∧ tfind s.deck.staged (imgKey 4 0) ≠ none ∧ tfind s.deck.staged (imgKey 4 1) = none ∧
       Runs s r 0x0206 false allModes 4 (r.target == 0 && fld r.payload 1 1 == 0) ∧ tfind s.deck.loaded (imgKey 4 0) = none ∧ tfind s.deck.loaded (imgKey 4 1) = some {}) := by decide +kernel

set_option maxRecDepth 100000 in
/-- An image that passes and one whose header CRC is wrong. -/
theorem wit_image_checks :
    imageCheck (md .idle { staged := [(imgKey 4 0, img4)], loading := some { kind := 4 } }) 4 0 0 0 = 0 ∧
    imageCheck (md .idle { staged := [(imgKey 4 0, 1 :: img4.drop 1)], loading := some { kind := 4 } }) 4 0 0 0 = 0x0601 := by decide +kernel

theorem wit_firmware :
    (let r := rq [0, 0, 0, 0]
     let s := md .idle { staged := [(imgKey 8 1, img8)] }
     Runs s r 0x0210 true [.config, .idle, .run, .hold, .maint] 4 (r.target == 0 && decide (fld r.payload 0 1 ≤ 1) && fld r.payload 1 3 == 0) ∧ tfind s.deck.staged (imgKey 8 (otherBank s)) ≠ none ∧
       s.fw.writing = none ∧ tfind (md .idle).deck.staged (imgKey 8 (otherBank s)) = none ∧ ({ s with fw := { writing := some {} } } : State).fw.writing ≠ none) ∧
    (let r := rq [1, 0, 0, 0]
     let s : State := { md .idle with fw := { valid := [(0, 0x00040002), (1, 0x00050000)] } }
     Runs s r 0x0211 true [.idle, .run, .hold] 4 (r.target == 0 && decide (fld r.payload 0 1 ≤ 1) && fld r.payload 1 3 == 0) ∧ s.sched.exch.isSome = false ∧ s.fw.swapAt.isSome = false ∧
       s.mode.pend = none ∧ tfind s.fw.valid (otherBank s) = some 0x00050000 ∧ fld r.payload 0 1 = 1 ∧ 0x00050000 ≠ flashTarget s ∧ tfind (md .idle).fw.valid (otherBank s) = none) := by decide +kernel

set_option maxRecDepth 100000 in
/-- A firmware image that passes with its signature, and without. -/
theorem wit_firmware_checks :
    (let s : State := { md .idle { staged := [(imgKey 8 1, img8)] } with fw := { writing := some { kind := 8, slot := 1, flags := 1 } } }
     fwCheck s { kind := 8, slot := 1, flags := 1 } true = 0 ∧ fwCheck s { kind := 8, slot := 1, flags := 1 } false = 0x0706) := by decide +kernel

/-! ### The whole machine -/

theorem wit_step : (up .run).pending = [] ∧ (up .keep).mode.cur = .keep ∧ (up .run).mode.cur ≠ .keep := by decide +kernel

theorem wit_mailbox_checks :
    Safety.cmdOf (.modeSet (rq [4, 0, 0, 0])) = some (rq [4, 0, 0, 0], 0x0002, true) ∧ mayBegin State.reset (rq [4, 0, 0, 0]) 0x0002 = false ∧
    mayBegin (up .standby) (rq [4, 0, 0, 0]) 0x0002 = true ∧ tooLate (up .standby) (tagOf (up .standby) (rq [4, 0, 0, 0]) 0x0002) = false ∧ (up .resume).mode.cur = .resume ∧
    (let s := mbS { tags := [{ tag := 1, opcode := 2, accepted := 0, deadlineUs := 1, payload := [4, 0, 0, 0] }] }
     mayBegin s (rq [4, 0, 0, 0]) 0x0002 = true ∧ tooLate s (tagOf s (rq [4, 0, 0, 0]) 0x0002) = true) := by decide +kernel

/-- A step from a state whose memories are canonical and not empty answers a next state. -/
theorem wit_window_memories :
    let s : State := { frS (frame 0x424D 1 0) with pending := [.frameTakeIn] }
    Memory.wf s.host.rings ∧ Memory.wf s.host.bulk ∧ (match step s with | .next _ => true | _ => false) = true := by decide +kernel

/-- A step that ends in another mode. -/
theorem wit_mode_changes :
    (match step { md .idle {} (some ⟨.run, 1000000000, 0, none⟩) with pending := [.modeEntry] } with | .next t => t.mode.cur == .run | _ => false) = true ∧
    (md .idle).mode.cur = .idle := by decide +kernel

theorem wit_hot_restarts :
    (rs { stage := 0 }).rst.stage = 0 ∧ (isl 0x10 { restarting := some 999000000 }).mode.cur ≠ .keep ∧ (island (isl 0x10 { restarting := some 999000000 }) 0x10).restarting = some 999000000 ∧
    2 ≤ ((rs { stage := 0, hotLog := [(0x10, 0), (0x10, 1)] }).rst.hotLog.filter (fun e => e.1 == 0x10 && decide (1000000000 < e.2 + 10000000000))).length ∧
    (mbS {} { restartReq := [(1000000000, 0, 0x10)] }).host.restartReq = [(1000000000, 0, 0x10)] ∧ (up .test).mode.cur = .test := by decide +kernel

/-- The mode entered is the pending one (R72). -/
theorem test_mode_entry : (nx (exec .modeEntry (md .idle {} (some ⟨.run, 1000000000, 0, none⟩)))).mode.cur = .run := by decide +kernel
/-- The worked example of R544's header offsets: a mode request that is admitted pends for the whole millisecond at least 500 µs ahead. -/
theorem test_mode_set : (nx (exec (.modeSet (rq [4, 0, 0, 0])) (md .idle))).mode.pend = some ⟨.run, 1001000000, 0, none⟩ := by decide +kernel
/-- A block of this device has no encoding: no word decodes (the opcode table gives no bits). -/
theorem test_no_words : decodeTableWord 32 0 = none := by decide +kernel

/-! ### Further states for the clauses above (O1-O24) -/

theorem wit_derived_value :
    (let s := sStn .online
     (tfind s.img.derived 1).isSome = true ∧ ((derVal .sum [] (pget s (ptid 0x1E 1)).ty).2 = false ∨ fisFin f32 (derVal .sum [] (pget s (ptid 0x1E 1)).ty).1 = true)) := by decide +kernel

/-- Task 2 with phase 15 µs: a CYCLIC release falls 15 µs ahead of T0 = 1 s. -/
theorem wit_sample_strobe_send :
    (let s : State := { upP .run [(pTaskEnable, 2, 1), (pTaskPeriod, 2, 1000), (pTaskPhase, 2, 15)] with sched := { tasks := [(2, { present := true })] } }
     s.mode.cur ≠ .keep ∧ s.mode.cur ≠ .boot ∧ s.t0 + 10000 ≤ 1000015000 ∧ 1000015000 ≤ s.t0 + 20000 ∧ strobeInstant s 1000015000 = true) ∧
    (let s := sTask none {}
     s.sched.trigs = [(2, 999999000)] ∧ 999999000 ≤ s.t0 ∧ s.mode.cur ≠ .standby) := by decide +kernel

theorem wit_loop_begun :
    (let s := sLoop { rel := some 999000000, begun := true }
     (loop s 3).present = true ∧ s.rst.stage = 0 ∧ s.t0 % 1000 = 0 ∧ isRelease (s.t0 / 1000) (param s pLoopPeriod 3) (param s pLoopPhase 3) = true ∧
       (loop s 3).begun = true ∧ loopRuns s 3 ≠ 0) ∧
    (let s := sLoop { rel := some 999010000, begun := true }
     (loop s 3).rel = some 999010000 ∧ 999010000 + loopNs s 3 ≤ s.t0 + 10000 ∧ (loop s 3).overrun = false ∧ (loop s 3).begun = true) ∧
    (let s : State := { upP .run [(pLoopBridge, 3, 1), (pLoopBrPeriod, 3, 1000), (pLoopOutDst, 3, ptid 3 0)] with loops := [(3, { present := true })], nodes := [(0, { silent := true })] }
     (loop s 3).bridge.running = false ∧ (loop s 3).bridge.expired = false) ∧
    (let s : State := { upP .run [(pLoopBrPeriod, 3, 1000), (pLoopPvSrc, 3, ptid 2 0)] with
       loops := [(3, { present := true, bridge := { running := true } })], img := { field := [(ptid 2 0, (0, 0))] } }
     (loop s 3).bridge.running = true ∧ (loop s 3).bridge.expired = false ∧ s.t0 % (param s pLoopBrPeriod 3 * 1000) = 0 ∧ feq f32 (param s pLoopBrBand 3) 0 = true ∧
       qAlways (qualOf (tget ((0 : Word), (0x200 : BitVec 16)) (bridgeApply (fieldNow s (bridgeTile s 3) s.t0) 3).img.field (param s pLoopPvSrc 3)).2) = true) := by decide +kernel

theorem wit_loop_words :
    ((lee {}).inLaw = true ∧ (lee {}).shd = false ∧ (0x4C000000 : Word).toNat / 2 ^ 25 = 0x26 ∧ 0x34 ≤ (0x68000000 : Word).toNat / 2 ^ 25) ∧
    (fldBits 0 19 0 = 0 ∧ (0 : Nat).testBit 20 = false ∧ fldBits (((lee {}).main.m[0]?).getD 0).toNat 31 30 = 0 ∧ (((lee {}).main.m[0]?).getD 0).toNat < 32768) ∧
    (let w : Nat := 3 * 2 ^ 19
     w.testBit 18 = false ∧ fldBits w 20 19 = 3 ∧ fldBits w 11 0 = 0) ∧
    leCond (lee {}).main 1 = .ok false ∧ (lee { link := [9] }).link = [9] := by decide +kernel

theorem wit_stop_and_limits :
    (let q : StopRun := { start := 1000000000, p := 0, v := 0, a := 0, sg := 1, phases := [(1, 0, 0)], hard := false, after := 0 }
     (axis (mo { stop := some q }) 0).stop = some q ∧ (((mo {}).t0 - q.start : Nat) : Rat) / 1000000000 < phasesLen q.phases) ∧
    (let s : State := { mo {} with motion := { out := [(0, { axis := 0, segs := [] })] } }
     s.motion.out.find? (fun e => e.1 == 0) = some (0, { axis := 0, segs := [] })) ∧
    (let s := mo { neg := { active := true } }
     ((axis s 0).at_ s.t0).2.1 = 0 ∧ (axis s 0).buf = []) ∧
    (let s := mo { neg := { active := true }, buf := [{ seg1 with v0 := 0xBF800000 }] } {} [(pAxisLimNegCh, 0, 5)]
     (limOf (axis s 0) 0).active = true ∧ (limOf (axis s 0) 0).latched = false ∧ (axis s 0).buf.any (fun g => decide (0 < (-1 : Rat) * ratOf g.v0.toNat)) = true ∧ param s pAxisLimNegCh 0 / 128 = 0 / 8) := by decide +kernel

theorem wit_chopper_more :
    (let s := ph { st := 2, target := 1 } { chop := 2 }
     (phaseOf s 0 0).blank = false ∧ (phaseOf s 0 0).target ≠ 0 ∧ (phaseOf s 0 0).st = 2 ∧ ((-100000000 : Int) : Rat) / 1000000 ≤ targetA s 0 { st := 2, target := 1 } + 0 - halfH s 0) ∧
    (let p : PhaseSt := { st := 1, since := 999900000 }
     (phaseOf (ph p) 0 0).st = 1 ∧ (phaseOf (ph p) 0 0).blank = false ∧ 999900000 + 100000 ≤ (ph p).t0) ∧
    (let s := mo { drv := 2, ramp := some (1, 0, 0, 1000000000) }
     (axis s 0).ramp = some (1, 0, 0, 1000000000) ∧ (axis s 0).drv ≠ 4) := by decide +kernel

theorem wit_channels_more :
    standbyPar (co {}) 0 = false ∧ (grp (co { cmd := true }) 0).test = none ∧
    ((grp (ch [] {} { cut := true, permitAt := some 999000000 }) 0).test = none ∧ (tget {} (ch [] {} { cut := true, permitAt := some 999000000 }).nodes 0).silent = false) ∧
    (let s : State := { co { applied := true, cmd := true } with nodes := [(0, {})], islands := [(0x60, { aligned := true })] }
     (chan s 0).twinOff = false ∧ (node s 0).silent = false ∧ (grp s 0).lost = false ∧ (grp s 0).ackWait = false) ∧
    (aiActive (ai 1 0) 0 = true ∧ aiSar (ai 1 0) 0 = true ∧ aiActive (ai 0 0) 0 = false ∧ aiSar (ai 4 1) 0 = false ∧ aiActive (ai 4 1) 0 = true ∧ aiActive (ai 5 1) 0 = true ∧ aiSar (ai 5 1) 0 = false) ∧
    (let s : State := { upP .run [(pEncMode, 0, 3)] with io := { enc := [(0, { flags := 2 })] } }
     param s pEncMode 0 ≠ 0 ∧ (enc s 0).flags.testBit 1 = true) ∧
    (let s := ch [(pChMode, 0, 3)] { partner := some 1 }
     isOut s 0 = true ∧ (chan s 0).raw = false) := by decide +kernel

/-! ### Further states for the clauses above (O12-O60) -/

/-- A program image of 64 bytes that verifies as `img4` does: kind 3. -/
def img3 : List Byte :=
  [68, 76, 73, 77, 1, 0, 3, 0, 64, 0, 0, 0, 1, 0, 0, 0, 2, 0, 4, 0, 0, 0, 0, 0, 0, 0, 0, 0, 64, 0, 0, 0, 0, 0, 0, 0, 0, 0, 0, 0, 0, 0, 0, 0, 0, 0, 0, 0,
   0, 0, 0, 0, 0, 0, 0, 0, 125, 239, 243, 13, 216, 163, 43, 210]

set_option maxRecDepth 100000 in
/-- PROG_EXCHANGE of an image that passes R81's checks; what its payload holds is open, and an empty program passes R149's. -/
theorem wit_exchange_checks :
    let r := rq [0, 0, 0, 0]
    let s : State := md .idle { staged := [(imgKey 3 0, img3)] }
    Runs s r 0x0301 true [.idle, .run, .hold] 4 (noTarget r && fld r.payload 2 2 == 0) ∧ s.sched.exch = none ∧ s.fw.swapAt = none ∧ s.mode.pend = none ∧ dwellOk s = true ∧
    tfind s.deck.staged (imgKey 3 (fld r.payload 0 2)) = some img3 ∧ imageCheck (begun s r 0x0301) 3 0 0 0 = 0 ∧ exchCheck (begun s r 0x0301) 0 { gen := hdrGen img3 } = 0 ∧
    exchCheck (begun s r 0x0301) 0 { gen := 1, tasks := [(5, 0, 0)] } = 0x0107 := by decide +kernel

/-- A mode entered 9.999999 ms ago with a minimum dwell of 10 ms. -/
def young (m : Mode) (l : List (Nat × Nat × Nat) := []) : State := { upP m ((pModeMinDwell, m.num, 10) :: l) with mode := { cur := m, since := 990000001 }, deck := { inUse := true } }

theorem wit_dwell :
    dwellOk (young .idle) = false ∧ dwellOk (md .idle) = true ∧ dwellOk (md .config { stagedOk := true }) = true ∧
    (let s : State := { young .config with deck := { inUse := true, stagedOk := true } }
     Runs s (rq []) 0x0204 true [.config] 0 ((rq []).target == 0) ∧ s.deck.stagedOk = true ∧ s.deck.committing = none ∧ dwellOk s = false) ∧
    (let r := rq [0, 0, 0, 0]
     Runs (young .idle) r 0x0211 true [.idle, .run, .hold] 4 (r.target == 0 && decide (fld r.payload 0 1 ≤ 1) && fld r.payload 1 3 == 0) ∧ (young .idle).sched.exch = none ∧
       (young .idle).fw.swapAt = none ∧ (young .idle).mode.pend = none) ∧
    (let s : State := { young .idle [(pTwinEnable, 0, 1)] with twin := tp 0 }
     Runs s (rq []) 0x0720 true [.idle] 0 ((rq []).target == 0) ∧ flag s pTwinEnable 0 = true ∧ pairReason s = 0 ∧ s.twin.st = 0 ∧ dwellOk s = false) ∧
    dwellOk (tw (tp 0) .idle) = true ∧ dwellOk (tw { st := 5, partner := { st := 2 } }) = true := by decide +kernel

theorem wit_proof_check :
    let s : State := { tw { proofStage := 2, proofAt := 997000000, proofOn := [0] } .run [(pTwinParallel, 0, 1), (pTwinPrivileged, 0, 1), (pChMode, 0, 3), (pTwinProofMa, 0, 0x41200000)] with
      io := { ch := [(0, { cmd := true })] } }
    s.twin.proofStage = 2 ∧ s.twin.proofAt + 3000000 ≤ s.t0 ∧ 0 ∈ parChans s true ∧ privCmd s 0 = true ∧ 0 ∈ s.twin.proofOn ∧
    currentOf [] 0 < ratOf (param s pTwinProofMa 0) ∧ ¬(5 < currentOf [] 0) ∧ (5 : Rat) < currentOf [(0, 0x40C00000)] 0 := by decide +kernel

theorem wit_axis_home :
    homeNoEnc (upP .maint [(pAxisHomeMethod, 0, 5), (pAxisEnc, 0, 16)]) 0 = true ∧ homeNoEnc (upP .maint [(pAxisHomeMethod, 0, 5), (pAxisEnc, 0, 15)]) 0 = false ∧
    homeNoEnc (upP .maint [(pAxisHomeMethod, 0, 4), (pAxisEnc, 0, 16)]) 0 = false := by decide +kernel

theorem wit_mode_set_more :
    (let r := rq [3, 0, 0, 0]
     let s : State := { st0 { st := 2 } .run with deck := { inUse := true } }
     Runs s r 0x0002 true [.config, .idle, .run, .hold, .maint, .safe] 4 (r.target == 0 && fld r.payload 1 3 == 0) ∧ s.mode.pend = none ∧ modeOf (fld r.payload 0 1) = some .idle ∧
       hostTransition .run .idle = true ∧ s.mode.since + param s pModeMinDwell Mode.run.num * ms ≤ s.t0 ∧ streamsActive s = true) ∧
    (let r := rq [3, 0, 0, 0]
     let s := up .safe
     Runs s r 0x0002 true [.config, .idle, .run, .hold, .maint, .safe] 4 (r.target == 0 && fld r.payload 1 3 == 0) ∧ s.mode.pend = none ∧ hostTransition .safe .idle = true) := by decide +kernel

theorem wit_can_free_slot :
    let s := cn { slots := (List.range 32).map (fun k => (k, { pend := some (cf) })) }
    let r := rq ([0, 0xFF, 1, 0] ++ leBytes 4 5 ++ [9])
    Runs s r 0x0701 true allModes (8 + fld r.payload 2 1) (r.target == 0 && decide (0 < 8) && decide (fld r.payload 1 1 < 32 ∨ fld r.payload 1 1 = 0xFF) && fld r.payload 3 1 == 0 &&
         canLenOk (fld r.payload 4 4 / 2 ^ 30 % 2 == 1 && param s pCanFd 0 == 1) (fld r.payload 2 1) && (fld r.payload 1 1 == 0xFF || !slotTaken s 0 (fld r.payload 1 1))) ∧
    CanLive s 0 ∧ fld r.payload 1 1 = 0xFF ∧ (List.range 32).find? (fun i => !slotTaken (cn) 0 i && (canSlot (cn) 0 i).pend.isNone) = some 0 := by decide +kernel

end Sys2Proof.Tests
end

section
/-! The host window's registers: one rule per state operation, then what each register access does (R9, R524-R540). -/

namespace Sys2Proof.Proofs

open Sys2Proof.Machine Sys2Proof.Laws

/-! ### Rules of the host window's state operations -/

@[simp] theorem setHost_host (s : State) (f : HostSt → HostSt) : (setHost s f).host = f s.host := rfl

@[simp] theorem mbx_setMbx_same (s : State) (m : Nat) (f : MbxSt → MbxSt) : mbx (setMbx s m f) m = f (mbx s m) :=
  tget_tmod_same _ s.host.mbx m f

/-- Changes that agree on the mailbox as it stands are the same change. -/
theorem setMbx_congr {s : State} {m : Nat} {f g : MbxSt → MbxSt} (h : f (mbx s m) = g (mbx s m)) : setMbx s m f = setMbx s m g := by
  unfold mbx at h
  simp only [setMbx, tmod, h]

@[simp] theorem mbx_irq (s : State) (b m : Nat) : mbx (irq s b) m = mbx s m := by
  simp only [irq]
  split <;> rfl

theorem irq_intStatus (s : State) (b : Nat) : (irq s b).host.intStatus = s.host.intStatus ||| bv 32 (2 ^ b) := by
  simp only [irq]
  split <;> rfl

/-- Setting a cause sets its bit alone. -/
theorem getLsbD_irq_intStatus (s : State) (b : Nat) {k : Nat} (hk : k < 32) :
    (irq s b).host.intStatus.getLsbD k = (s.host.intStatus.getLsbD k || decide (b = k)) := by
  rw [irq_intStatus, BitVec.getLsbD_or, BitVec.getLsbD_ofNat, Nat.testBit_two_pow]
  simp [hk]

/-- Setting the causes of a list that a word names sets those bits alone. -/
theorem getLsbD_foldl_irq_intStatus (w : Word) {k : Nat} (hk : k < 32) (l : List Nat) : ∀ s : State,
    (l.foldl (fun s b => if w.getLsbD b then irq s b else s) s).host.intStatus.getLsbD k =
      (s.host.intStatus.getLsbD k || (w.getLsbD k && decide (k ∈ l))) := by
  induction l with
  | nil => simp
  | cons b l ih =>
    intro s
    rw [List.foldl_cons, ih]
    by_cases hb : b = k
    · subst hb
      cases h : w.getLsbD b <;> simp [getLsbD_irq_intStatus s b hk]
    · have hstep : (if w.getLsbD b then irq s b else s).host.intStatus.getLsbD k = s.host.intStatus.getLsbD k := by
        split <;> simp [getLsbD_irq_intStatus s b hk, hb]
      simp [hstep, Ne.symm hb]

/-- GLB_INT_SET reaches the 22 causes that exist (R538). -/
theorem getLsbD_intSet_intStatus (s : State) (w : Word) {k : Nat} (hk : k < 32) :
    (intSet s w).host.intStatus.getLsbD k = (s.host.intStatus.getLsbD k || (w.getLsbD k && decide (k < 22))) := by
  simpa [intSet] using getLsbD_foldl_irq_intStatus w hk (List.range 22) s

@[simp] theorem returnRead_readData (r : Nat × State) : (returnRead r).host.readData = leBytes 4 r.1 := rfl

@[simp] theorem mbx_returnRead (r : Nat × State) (m : Nat) : mbx (returnRead r) m = mbx r.2 m := rfl

@[simp] theorem bulkCount_bulk (s : State) (n : Nat) : (bulkCount s n).host.bulk = s.host.bulk := rfl

/-- A value written in `k` bytes reads back in `k` bytes. -/
theorem mreads_mwrites_leBytes (m : Mem) (o k v : Nat) : mreads (mwrites m o (leBytes k v)) o k = leBytes k v := by
  simpa using mreads_mwrites m o (leBytes k v)

/-! ### Out of M0 KEEP each access is its register's own operation -/

section Awake

variable {s : State} (hk : s.mode.cur ≠ .keep)
include hk

theorem exec_cmdTailWrite (m : Fin 8) (w : Word) : exec (.cmdTailWrite m w) s = .next (cmdTailWrite s m.val 0 (w.truncate 16)) := if_neg hk

theorem exec_rspHeadWrite (m : Fin 8) (w : Word) : exec (.rspHeadWrite m w) s = .next (rspHeadWrite s m.val (w.truncate 16)) := if_neg hk

theorem exec_mbCtrlReset (m : Fin 8) : exec (.mbCtrlReset m) s = .next (mbReset s m.val) := if_neg hk

theorem exec_mbCtrlRelease (m : Fin 8) : exec (.mbCtrlRelease m) s = .next (mbRelease s m.val) := if_neg hk

theorem exec_mbErrRead (m : Fin 8) : exec (.mbErrRead m) s = .next (returnRead (readMbErr s m.val)) := if_neg hk

theorem exec_glbIntSetWrite (w : Word) : exec (.glbIntSetWrite w) s = .next (intSet s w) := if_neg hk

theorem exec_glbHostHbWrite (w : Word) : exec (.glbHostHbWrite w) s = .next (hostHbWrite s w) := if_neg hk

theorem exec_glbT0LoRead : exec .glbT0LoRead s = .next (returnRead (readT0Lo s)) := if_neg hk

theorem exec_glbLinkErrRead : exec .glbLinkErrRead s = .next (returnRead (readLinkErr s)) := if_neg hk

/-- A write inside its space is the window's write of one word. -/
theorem exec_registerWrite_inside {bar : Fin 3} {off : BitVec 24} (ho : off.toNat + 4 ≤ barSize (2 * bar.val)) (w : Word) :
    exec (.registerWrite bar off w) s = .next (winWrite s 0 (2 * bar.val) off.toNat w) := by
  refine if_neg ?_
  rintro (h | h)
  · exact hk h
  · exact absurd ho (Nat.not_le.mpr h)

end Awake

theorem exec_registerWrite_beyond {bar : Fin 3} {off : BitVec 24} (ho : barSize (2 * bar.val) < off.toNat + 4) (w : Word) (s : State) :
    exec (.registerWrite bar off w) s = .next s := if_pos (.inr ho)

/-! ### Doorbells (R528, R529) -/

theorem cmdTailWrite_taken {s : State} {m : Nat} {w : Half} (via : Nat) (hf : fill (mbx s m).cmdTail (mbx s m).cmdHead ≤ fill w (mbx s m).cmdHead)
    (hr : fill w (mbx s m).cmdHead ≤ 256) : cmdTailWrite s m via w = setMbx s m (fun x => { x with cmdTail := w, via := via }) :=
  setMbx_congr (if_pos ⟨hf, hr⟩)

theorem cmdTailWrite_refused {s : State} {m : Nat} {w : Half} (via : Nat)
    (h : fill w (mbx s m).cmdHead < fill (mbx s m).cmdTail (mbx s m).cmdHead ∨ 256 < fill w (mbx s m).cmdHead) :
    cmdTailWrite s m via w = setMbx s m (fun x => { x with error := true }) :=
  setMbx_congr (if_neg (by omega))

theorem mbx_rspHeadWrite_taken {s : State} {m : Nat} {w : Half} (h : fill w (mbx s m).rspHead ≤ fill (mbx s m).rspTail (mbx s m).rspHead) :
    (mbx (rspHeadWrite s m w) m).rspHead = w ∧ (mbx (rspHeadWrite s m w) m).error = (mbx s m).error := by
  simp [rspHeadWrite, h]

theorem rspHeadWrite_refused {s : State} {m : Nat} {w : Half} (h : fill (mbx s m).rspTail (mbx s m).rspHead < fill w (mbx s m).rspHead) :
    rspHeadWrite s m w = setMbx s m (fun x => { x with error := true }) :=
  setMbx_congr (if_neg (Nat.not_le.mpr h))

/-! ### Mailbox control (R532, R535) -/

/-- A mailbox after its RESET: both rings empty, nothing in the way; ownership, SEQ and tags as they were. -/
def resetMbx (x : MbxSt) : MbxSt :=
  { x with cmdHead := x.cmdTail, rspHead := x.rspTail, unread := [], error := false, blocked := false, stall := false }

theorem mbReset_eq (s : State) (m : Nat) :
    mbReset s m = if (mbx s m).blocked then irq (setMbx s m resetMbx) (8 + m) else setMbx s m resetMbx := rfl

@[simp] theorem mbx_mbReset (s : State) (m : Nat) : mbx (mbReset s m) m = resetMbx (mbx s m) := by
  rw [mbReset_eq]
  split <;> simp

/-- RESET of a blocked mailbox sets its CMD_SPACE cause (R538). -/
theorem mbReset_sets_cmdSpace {s : State} {m : Nat} (hm : m < 8) (hb : (mbx s m).blocked = true) :
    (mbReset s m).host.intStatus.getLsbD (8 + m) = true := by
  rw [mbReset_eq, if_pos hb, getLsbD_irq_intStatus _ _ (by omega)]
  simp

theorem mbRelease_of_no_tags {s : State} {m : Nat} (h : (mbx s m).tags = []) :
    mbRelease s m = setMbx s m (fun x => { x with owner := 0, isOpen := false }) :=
  setMbx_congr (if_pos (by simp [h]))

theorem mbRelease_of_tags {s : State} {m : Nat} (h : (mbx s m).tags ≠ []) : mbRelease s m = setMbx s m (fun x => { x with relPend := true }) :=
  setMbx_congr (if_neg (by simp [h]))

/-! ### The host heartbeat word (R539) -/

theorem hostHbWrite_same (s : State) : hostHbWrite s s.host.hostHb = s := if_pos rfl

theorem hostHbWrite_new_host {s : State} {w : Word} (h : w ≠ s.host.hostHb) :
    (hostHbWrite s w).host = { s.host with hostHb := w, hbChanged := s.t0, hostLost := false } := by
  unfold hostHbWrite
  rw [if_neg h]
  dsimp only
  split
  · rw [note_host]; rfl
  · rfl

/-- A new word from a host that was not lost is no event. -/
theorem hostHbWrite_evq_of_present {s : State} (h : s.host.hostLost = false) (w : Word) : (hostHbWrite s w).evq = s.evq := by
  unfold hostHbWrite
  split
  · rfl
  · simp [h]

/-! ### The spaces behind the control die (R540) -/

theorem winWrite_windowDown {s : State} {sp : Nat} (hsp : sp ≠ 0) (h : s.host.windowDown = true) (via o : Nat) (w : Word) :
    winWrite s via sp o w = setHost s (fun h => { h with errWin := sat8 h.errWin }) := by
  unfold winWrite
  rw [if_neg hsp, if_pos h]

theorem winWrite_rings_reads_back {s : State} (h : s.host.windowDown = false) (via o : Nat) (w : Word) :
    mreads (winWrite s via 2 o w).host.rings o 4 = leBytes 4 w.toNat := by
  simp [winWrite, h, mreads_mwrites_leBytes]

theorem winWrite_bulk_reads_back {s : State} (h : s.host.windowDown = false) (via o : Nat) (w : Word) :
    mreads (winWrite s via 4 o w).host.bulk o 4 = leBytes 4 w.toNat := by
  simp [winWrite, h, mreads_mwrites_leBytes]

/-- Settles O44: out of M0 KEEP every access is its register's operation, and each clause is the law of that operation. -/
theorem hostRegistersAndDoorbells : Obligations.HostRegistersAndDoorbells := by
  unfold Obligations.HostRegistersAndDoorbells
  intro s hk
  refine ⟨fun m w => ⟨?cmdTailTaken, ?cmdTailRefused, ?rspHeadTaken, ?rspHeadRefused⟩,
    fun m => ⟨?reset, ?releaseAtOnce, ?releaseWaits, ?mbErr⟩,
    fun w => ⟨?intSet, ?intStatus, ?intEnable, ?sameHeartbeat, ?newHeartbeat⟩,
    ?t0Lo, ?linkErr, fun bar off w => ⟨?beyondSpace, ?controlDieSpaces⟩⟩
  case cmdTailTaken =>
    intro hf hr
    rw [exec_cmdTailWrite hk, cmdTailWrite_taken 0 hf hr]
  case cmdTailRefused =>
    intro h
    rw [exec_cmdTailWrite hk, cmdTailWrite_refused 0 h]
  case rspHeadTaken =>
    exact fun h => ⟨_, exec_rspHeadWrite hk m w, mbx_rspHeadWrite_taken h⟩
  case rspHeadRefused =>
    intro h
    rw [exec_rspHeadWrite hk, rspHeadWrite_refused h]
  case reset =>
    refine ⟨_, exec_mbCtrlReset hk m, ?_⟩
    rw [mbx_mbReset]
    exact ⟨rfl, rfl, rfl, rfl, rfl, rfl, rfl, mbReset_sets_cmdSpace m.isLt⟩
  case releaseAtOnce =>
    intro h
    rw [exec_mbCtrlRelease hk, mbRelease_of_no_tags h]
  case releaseWaits =>
    intro h
    rw [exec_mbCtrlRelease hk, mbRelease_of_tags h]
  case mbErr =>
    exact ⟨_, exec_mbErrRead hk m, by simp [readMbErr]⟩
  case intSet =>
    exact ⟨_, exec_glbIntSetWrite hk w, fun b hb => getLsbD_intSet_intStatus s w hb⟩
  case intStatus =>
    exact exec_registerWrite_inside hk (by decide) w
  case intEnable =>
    exact exec_registerWrite_inside hk (by decide) w
  case sameHeartbeat =>
    rintro rfl
    rw [exec_glbHostHbWrite hk, hostHbWrite_same]
  case newHeartbeat =>
    intro hw
    refine ⟨_, exec_glbHostHbWrite hk w, ?_⟩
    rw [hostHbWrite_new_host hw]
    exact ⟨rfl, rfl, rfl, fun h => hostHbWrite_evq_of_present h w⟩
  case t0Lo =>
    exact ⟨_, exec_glbT0LoRead hk, rfl, rfl⟩
  case linkErr =>
    exact ⟨_, exec_glbLinkErrRead hk, rfl, rfl, rfl, rfl⟩
  case beyondSpace =>
    exact fun ho => exec_registerWrite_beyond ho w s
  case controlDieSpaces =>
    intro ho hbar
    rw [exec_registerWrite_inside hk ho]
    refine ⟨fun hd => ?_, fun hd => ⟨_, rfl, ?_⟩⟩
    · rw [winWrite_windowDown (by omega) hd]
    · split
      · subst bar
        exact winWrite_rings_reads_back hd 0 _ w
      · have h4 : 2 * bar.val = 4 := by omega
        rw [h4]
        exact winWrite_bulk_reads_back hd 0 _ w

end Sys2Proof.Proofs
end

section
/-! Steps of the whole machine (R23, R531): which parts of the state a period of T0 leaves alone. -/

namespace Sys2Proof.Proofs

open Sys2Proof.Machine Sys2Proof.Laws

/-- A quantity that each step of a fold keeps is kept by the fold. -/
theorem foldl_keeps {α β γ : Type} (g : α → γ) {f : α → β → α} (h : ∀ a b, g (f a b) = g a) (l : List β) (a : α) : g (l.foldl f a) = g a := by
  induction l generalizing a with
  | nil => rfl
  | cons b l ih => rw [List.foldl_cons, ih, h]

/-- `t` has the T0, the queue, the mode and the parameters of `s`. -/
structure SameRun (s t : State) : Prop where
  t0 : t.t0 = s.t0
  pending : t.pending = s.pending
  mode : t.mode = s.mode
  params : t.params = s.params

theorem SameRun.refl (s : State) : SameRun s s := ⟨rfl, rfl, rfl, rfl⟩

theorem SameRun.trans {s t u : State} (h : SameRun s t) (k : SameRun t u) : SameRun s u :=
  ⟨k.t0.trans h.t0, k.pending.trans h.pending, k.mode.trans h.mode, k.params.trans h.params⟩

theorem SameRun.foldl {β : Type} {f : State → β → State} (h : ∀ s b, SameRun s (f s b)) (l : List β) (s : State) : SameRun s (l.foldl f s) :=
  ⟨foldl_keeps State.t0 (fun a b => (h a b).t0) l s, foldl_keeps State.pending (fun a b => (h a b).pending) l s,
    foldl_keeps State.mode (fun a b => (h a b).mode) l s, foldl_keeps State.params (fun a b => (h a b).params) l s⟩

theorem sameRun_update (s : State) (t p : Nat) (v : Word) (c : BitVec 16) : SameRun s (update s t p v c) :=
  ⟨update_t0 .., update_pending .., update_mode .., update_params ..⟩

theorem sameRun_updates (s : State) (t : Nat) (l : List (Nat × Word × BitVec 16)) : SameRun s (updates s t l) :=
  ⟨updates_t0 .., updates_pending .., updates_mode .., updates_params ..⟩

/-- A port that sends what may start changes its queues, its points and the outbox. -/
theorem sameRun_ethDrain (s : State) (p : Nat) : SameRun s (ethDrain s p) := by
  have hsent : ∀ (s : State) (q : Nat) (x : Nat × Nat × List Byte), SameRun s
      (if mayStart s p q x.2.2 then send (setEth s p (fun e => { e with queues := e.queues.erase x, tx := (e.tx + 1) % 2 ^ 32 })) Out.ethFrame p [q] x.2.2 else s) := by
    intro s q x
    split
    · exact ⟨rfl, rfl, rfl, rfl⟩
    · exact .refl s
  have hqueues := SameRun.foldl (fun s q => SameRun.foldl (fun s x => hsent s q x) ((ethPort s p).queues.filter (fun x => x.1 == q)) s)
    [7, 6, 5, 4, 3, 2, 1, 0] s
  unfold ethDrain
  split
  · exact .refl s
  · split
    · exact .refl s
    · dsimp only
      split
      · exact .refl s
      · exact hqueues.trans (sameRun_updates ..)

theorem sameRun_drainPorts (s : State) : SameRun s (drainPorts s) := SameRun.foldl sameRun_ethDrain [0, 1, 2] s

theorem sameRun_stewardBeat (s : State) : SameRun s (stewardBeat s) := by
  unfold stewardBeat
  split
  · exact ⟨rfl, rfl, rfl, rfl⟩
  · exact .refl s

theorem sameRun_t0Facet (s : State) : SameRun s (t0Facet s) := sameRun_update ..

theorem sameRun_timeFacets (s : State) : SameRun s (timeFacets s) := sameRun_updates ..

theorem sameRun_atMilli (s : State) : SameRun s (atMilli s) := by
  have hbeat : ∀ u : State, SameRun s u → SameRun s (stewardBeat (timeFacets u)) :=
    fun u h => (h.trans (sameRun_timeFacets u)).trans (sameRun_stewardBeat _)
  have hfacet : ∀ v : Word, SameRun s (if (pget s (ptid 0x1C 0)).value = v then s else t0Facet s) := by
    intro v
    split
    · exact .refl s
    · exact sameRun_t0Facet s
  unfold atMilli
  split
  · exact hbeat _ (hfacet _)
  · exact .refl s

theorem step_of_empty {s : State} (h : s.pending = []) : step s = .next (tick s) := by
  unfold step
  rw [h]

theorem tick_in_keep {s : State} (h : s.mode.cur = .keep) : tick s = s := if_pos h

/-- With power a period advances T0 by its 10 ns and keeps the queue, the mode and the parameters. -/
theorem sameRun_tick {s : State} (h : s.mode.cur ≠ .keep) : SameRun { s with t0 := s.t0 + 10 } (tick s) := by
  rw [tick, if_neg h]
  exact (sameRun_atMilli _).trans (sameRun_drainPorts _)

/-- Settles O54: a step is by definition its front command's; an empty queue leaves the step to `tick`, whose parts each keep the queue, the mode and the parameters. -/
theorem stepRunsTheFrontCommand : Obligations.StepRunsTheFrontCommand := by
  unfold Obligations.StepRunsTheFrontCommand
  refine ⟨fun c s rest => rfl, fun s he hk => ?_, fun s he hk => ?_⟩
  · rw [step_of_empty he, tick_in_keep hk]
  · obtain ⟨ht, hp, hm, hv⟩ := sameRun_tick hk
    exact ⟨tick s, step_of_empty he, ht, hp.trans he, hm, hv⟩

end Sys2Proof.Proofs
end

section
/-! The links of the Lining (R16, R18, R19): what a negative acknowledge sends. -/

namespace Sys2Proof.Proofs

open Sys2Proof.Machine Sys2Proof.Laws

/-- Sending one message for each packet of a list adds as many messages. -/
theorem length_outbox_foldl_send_packet (dst : Nat) (cls : Int) (l : List Packet) (s : State) :
    (l.foldl (fun s p => send s Out.packet dst [cls, p.seq.toNat] p.payload) s).outbox.length = s.outbox.length + l.length := by
  induction l generalizing s with
  | nil => rfl
  | cons p l ih =>
    rw [List.foldl_cons, ih]
    simp only [send, List.length_append, List.length_cons, List.length_nil]
    omega

/-- An active twin that is paired forwards each update over the Seam before its image takes it (R477). -/
theorem outbox_update_of_paired {s : State} (hm : s.mode.cur ≠ .standby) (hp : s.twin.st = 5) (t p : Nat) (v : Word) (c : BitVec 16) :
    (update s t p v c).outbox = s.outbox ++ [⟨.seamForward, 0, [t, p, v.toNat, c.toNat].map Int.ofNat, []⟩] := by
  simp [update, hm, forward, hp, send]

/-- In an active twin that is paired a negative acknowledge sends one message more than the packets: the forwarded update of the retransmissions' SYS point (R41, R477). -/
theorem length_outbox_negativeAcknowledge_of_paired {s t : State} (hm : s.mode.cur ≠ .standby) (hp : s.twin.st = 5) {link : Byte} {up : Bool} {cls : Fin 7}
    (h : exec (.negativeAcknowledge link up cls) s = .next t) :
    t.outbox.length = s.outbox.length + 1 + (linkSt s (linkKey link up cls)).unacked.length := by
  obtain rfl := Host.Outcome.next.inj h
  rw [length_outbox_foldl_send_packet, retransPoint, sysPoint, outbox_update_of_paired]
  · split <;> simp
  · split <;> simpa using hm
  · split <;> simpa using hp

/-- Refutes O1: a negative acknowledge does not always send the packets alone. The retransmissions that R41 counts are a SYS point, and a paired
active twin forwards its update over the Seam (R477), so that its outbox holds one message more than the statement says. -/
theorem not_liningPacketsAndCredits : ¬ Obligations.LiningPacketsAndCredits := by
  unfold Obligations.LiningPacketsAndCredits
  intro h
  let lost : Packet := { dest := 0x40, src := 0x10, cls := 0, ty := 0, seq := 0, arg := 0, payload := [] }
  let paired : State :=
    { State.reset with mode := { cur := .run }, twin := { st := 5 }, links := [(linkKey 0x10 true 0, { unacked := [lost] })] }
  obtain ⟨-, -, hnak, -⟩ := h paired 0x10 true
  obtain ⟨t, hexec, hout, -⟩ := hnak 0
  have hlen := length_outbox_negativeAcknowledge_of_paired (s := paired) (by decide) rfl hexec
  rw [hout, List.length_append, List.length_map] at hlen
  omega

end Sys2Proof.Proofs
end

section
/-! Faults and the restarts they start (R15, R343-R348, R497). -/

namespace Sys2Proof.Proofs

open Sys2Proof.Machine Sys2Proof.Laws

/-! ### Islands -/

@[simp] theorem island_setIsland_same (s : State) (i : Nat) (f : IslandSt → IslandSt) : island (setIsland s i f) i = f (island s i) :=
  tget_tmod_same _ s.islands i f

theorem island_setIsland_other (s : State) {i j : Nat} (f : IslandSt → IslandSt) (h : j ≠ i) : island (setIsland s i f) j = island s j :=
  tget_tmod_other _ s.islands f h

theorem island_of_islands {s t : State} (h : t.islands = s.islands) (i : Nat) : island t i = island s i := by
  rw [island, h, island]

/-- The core islands are none of the engines and not the Steward. -/
theorem isEngine_of_isCore {i : Nat} (h : isCore i = true) : isEngine i = false ∧ i ≠ 0 := by
  simp only [isCore, List.contains_cons, List.contains_nil, Bool.or_false, Bool.or_eq_true, beq_iff_eq] at h
  rcases h with rfl | rfl | rfl | rfl | rfl <;> decide

/-! ### Which code and which restart an island's fault has (R343, R497) -/

theorem lockstepCode_of_engine {i : Nat} (h : isEngine i = true) : lockstepCode i = some 0x0101 := if_pos h

theorem lockstepCode_of_core {i : Nat} (h : isCore i = true) : lockstepCode i = some 0x0102 := by
  simp [lockstepCode, h, isEngine_of_isCore h]

theorem faultRestart_of_engine {i : Nat} (h : isEngine i = true) (s : State) (cause : Nat) : faultRestart s i cause = hotRestart s cause i := if_pos h

theorem faultRestart_of_core {i : Nat} (h : isCore i = true) (s : State) (cause : Nat) : faultRestart s i cause = warmRestart s 0x12 i := by
  simp [faultRestart, h, isEngine_of_isCore h]

theorem faultRestart_steward (s : State) (cause : Nat) : faultRestart s 0 cause = warmRestart s 0x11 0 := rfl

/-- R343 starts no restart for a tile's controller. -/
theorem lockstepCode_faultRestart_of_tile {i : Nat} (h : 0x60 ≤ i) (h' : i < 0x64) (s : State) (cause : Nat) :
    lockstepCode i = some 0x0104 ∧ faultRestart s i cause = s := by
  obtain rfl | rfl | rfl | rfl : i = 0x60 ∨ i = 0x61 ∨ i = 0x62 ∨ i = 0x63 := by omega
  all_goals exact ⟨rfl, rfl⟩

/-! ### The fault commands with power -/

section Powered

variable {s : State} {i : Byte} (hk : s.mode.cur ≠ .keep) (hs : (island s i.toNat).inService = true)
include hk

theorem alive_of_powered : alive s = true := by simpa [alive] using hk

theorem exec_stewardWatchdog : exec .stewardWatchdog s = .next (warmRestart s 0x11 0) := if_pos (alive_of_powered hk)

include hs

theorem exec_lockstepMismatch {c : Nat} (hc : lockstepCode i.toNat = some c) :
    exec (.lockstepMismatch i) s = .next (faultRestart (report s c i.toNat) i.toNat 0x01) := by
  show execLockstepMismatch i s = _
  simp [execLockstepMismatch, hc, alive_of_powered hk, hs]

theorem exec_clockFault_engine (he : isEngine i.toNat = true) :
    exec (.clockFault i) s = .next (faultRestart (report s 0x0501 i.toNat) i.toNat 0x01) := by
  have hne : i.toNat ≠ 0x7F := by rintro h; rw [h] at he; exact absurd he (by decide)
  show execClockFault i s = _
  simp [execClockFault, alive_of_powered hk, hs, hne, lockstepCode_of_engine he]

variable (hb : s.rst.stage = 0 ∨ s.rst.stage = 3) (hl : (island s i.toNat).lastHb + 100000 ≤ s.t0)
include hb hl

/-- 100 µs without a heartbeat outside the boot's stages that load the islands. -/
theorem exec_heartbeatTimeout :
    exec (.heartbeatTimeout i) s = if isEngine i.toNat then .next (faultRestart (report s 0x0201 i.toNat) i.toNat 0x02)
      else if isCore i.toNat then .next (faultRestart (report s 0x0202 i.toNat) i.toNat 0x12) else .next s := by
  refine if_neg ?_
  have hlate : ¬ s.t0 < (island s i.toNat).lastHb + 100 * us := Nat.not_lt.mpr hl
  rcases hb with hb | hb <;> simp [alive_of_powered hk, hs, hlate, hb]

end Powered

theorem exec_clockFault_ridge {s : State} (hk : s.mode.cur ≠ .keep) (hs : (island s 0x7F).inService = true) :
    exec (.clockFault 0x7F) s = .next (report s 0x0503) := by
  show execClockFault 0x7F s = _
  simp [execClockFault, alive_of_powered hk, hs]

/-! ### Without power, and once an engine is held in reset -/

section Keep

variable {s : State} (hk : s.mode.cur = .keep)
include hk

theorem alive_of_keep : alive s = false := by simp [alive, hk]

theorem exec_stewardWatchdog_keep : exec .stewardWatchdog s = .next s := by
  show execStewardWatchdog s = _
  simp [execStewardWatchdog, alive_of_keep hk]

theorem exec_lockstepMismatch_keep (i : Byte) : exec (.lockstepMismatch i) s = .next s := by
  show execLockstepMismatch i s = _
  simp only [execLockstepMismatch, alive_of_keep hk]
  split <;> rfl

theorem exec_clockFault_keep (i : Byte) : exec (.clockFault i) s = .next s := by
  show execClockFault i s = _
  simp [execClockFault, alive_of_keep hk]

end Keep

theorem exec_hotRestartTimeout {s : State} {i : Byte} {t : Nat} (h : (island s i.toNat).restarting = some t) :
    exec (.hotRestartTimeout i) s = if s.t0 < t + 1000000 then .next s else .next (warmRestart s 0x13 i.toNat) := by
  show execHotRestartTimeout i s = _
  simp only [execHotRestartTimeout, h]
  rfl

/-! ### The record of a restart (R344) -/

/-- Writing the record, and header fields where the header is sound, changes the Pocket alone. -/
theorem pocketHeader_setPocket_frame (sound : Bool) (s : State) (f : PocketSt → PocketSt) (l : List (Nat × List Byte)) :
    ∃ p, (if sound then pocketHeader (setPocket s f) l else setPocket s f) = { s with pocket := p } := by
  cases sound
  · exact ⟨_, rfl⟩
  · exact ⟨_, rfl⟩

theorem putCause_frame (s : State) : ∃ p, putCause s = { s with pocket := p } := by
  unfold putCause
  exact pocketHeader_setPocket_frame _ s _ _

@[simp] theorem putCause_rst (s : State) : (putCause s).rst = s.rst := by
  obtain ⟨p, h⟩ := putCause_frame s
  rw [h]

@[simp] theorem putCause_t0 (s : State) : (putCause s).t0 = s.t0 := by
  obtain ⟨p, h⟩ := putCause_frame s
  rw [h]

@[simp] theorem putCause_mode (s : State) : (putCause s).mode = s.mode := by
  obtain ⟨p, h⟩ := putCause_frame s
  rw [h]

@[simp] theorem putCause_islands (s : State) : (putCause s).islands = s.islands := by
  obtain ⟨p, h⟩ := putCause_frame s
  rw [h]

@[simp] theorem latchRestart_t0 (s : State) (kind cause isl origin : Nat) : (latchRestart s kind cause isl origin).t0 = s.t0 := by
  simp [latchRestart]

@[simp] theorem latchRestart_mode (s : State) (kind cause isl origin : Nat) : (latchRestart s kind cause isl origin).mode = s.mode := by
  simp [latchRestart]

@[simp] theorem latchRestart_islands (s : State) (kind cause isl origin : Nat) : (latchRestart s kind cause isl origin).islands = s.islands := by
  simp [latchRestart]

/-- What the record of a hot restart holds. -/
theorem latchRestart_hot_rst (s : State) (cause isl origin : Nat) :
    let r := (latchRestart s 0 cause isl origin).rst
    r.kind = 0 ∧ r.cause = cause ∧ r.isl = isl ∧ r.origin = origin ∧ r.t0Trigger = s.t0 ∧ r.count = (s.rst.count + 1) % 2 ^ 32 := by
  simp [latchRestart, setRst]

@[simp] theorem tellRestart_rst (s : State) (trigger : Nat) : (tellRestart s trigger).rst = s.rst := by
  simp only [tellRestart]
  split <;> simp

@[simp] theorem tellRestart_t0 (s : State) (trigger : Nat) : (tellRestart s trigger).t0 = s.t0 := by
  simp only [tellRestart]
  split <;> simp

@[simp] theorem tellRestart_mode (s : State) (trigger : Nat) : (tellRestart s trigger).mode = s.mode := by
  simp only [tellRestart]
  split <;> simp

@[simp] theorem tellRestart_islands (s : State) (trigger : Nat) : (tellRestart s trigger).islands = s.islands := by
  simp only [tellRestart]
  split <;> simp

/-! ### A hot restart (R346, R348) -/

/-- The hot trigger has been latched, told and logged, and its island is held in reset; its engine still has to drop what it was running. -/
def hotHeld (s : State) (cause isl : Nat) : State :=
  let s := tellRestart (latchRestart s 0 cause isl (originNow s)) cause
  let s := setRst s (fun r => { r with hotLog := r.hotLog ++ [(isl, s.t0)] })
  setIsland s isl (fun d => { d with inService := false, restarting := some s.t0, aligned := false, copySet := false, good := 0 })

section HotRestart

variable {s : State} {isl : Nat} (h0 : s.rst.stage = 0)
  (hf : (s.rst.hotLog.filter (fun e => e.1 == isl && decide (s.t0 < e.2 + 10000000000))).length < 2)
include h0 hf

/-- Outside a boot and below the third within 10 s, what a hot trigger does beyond `hotHeld` is in the links, the scheduler and the loops. -/
theorem hotRestart_frame (cause : Nat) :
    (hotRestart s cause isl).rst = (hotHeld s cause isl).rst ∧ (hotRestart s cause isl).mode = (hotHeld s cause isl).mode ∧
      (hotRestart s cause isl).islands = (hotHeld s cause isl).islands := by
  have hfew : ¬ 2 ≤ (s.rst.hotLog.filter (fun e => e.1 == isl && decide (s.t0 < e.2 + 10 * sec))).length := Nat.not_le.mpr hf
  unfold hotRestart hotHeld
  rw [if_neg (not_not.mpr h0), if_neg hfew]
  dsimp only
  generalize tellRestart (latchRestart s 0 cause isl (originNow s)) cause = told
  split
  · exact ⟨rfl, rfl, rfl⟩
  · split <;> exact ⟨rfl, rfl, rfl⟩

theorem hotRestart_rst (cause : Nat) :
    let r := (hotRestart s cause isl).rst
    r.kind = 0 ∧ r.cause = cause ∧ r.isl = isl ∧ r.origin = originNow s ∧ r.t0Trigger = s.t0 ∧ r.count = (s.rst.count + 1) % 2 ^ 32 := by
  rw [(hotRestart_frame h0 hf cause).1]
  simpa [hotHeld, setRst] using latchRestart_hot_rst s cause isl (originNow s)

theorem hotRestart_mode (cause : Nat) : (hotRestart s cause isl).mode = s.mode := by
  rw [(hotRestart_frame h0 hf cause).2.1]
  simp [hotHeld, setRst]

theorem island_hotRestart_same (cause : Nat) :
    (island (hotRestart s cause isl) isl).inService = false ∧ (island (hotRestart s cause isl) isl).restarting = some s.t0 := by
  rw [island_of_islands (hotRestart_frame h0 hf cause).2.2]
  simp [hotHeld, setRst]

theorem island_hotRestart_other (cause : Nat) {j : Nat} (hj : j ≠ isl) : island (hotRestart s cause isl) j = island s j := by
  rw [island_of_islands (hotRestart_frame h0 hf cause).2.2, hotHeld, island_setIsland_other _ _ hj]
  exact island_of_islands (by simp) j

end HotRestart

/-! ### The statement -/

theorem exec_engineInService_idle {s : State} {i : Byte} (h : (island s i.toNat).restarting = none) : exec (.engineInService i) s = .next s := by
  show execEngineInService i s = _
  simp only [execEngineInService, h]

/-- An engine back in service is aligned, its fault's cause has ended, and its kind's units are brought back (R346, R347, R498). -/
theorem exec_engineInService_back {s : State} {i : Byte} {trig : Nat} (h : (island s i.toNat).restarting = some trig) :
    let s1 := causeEnd (setIsland s i.toNat (fun d => { d with inService := true, restarting := none, aligned := true, copySet := true, lastHb := s.t0 }))
      (fun l => decide (l.isl = i.toNat) && [0x0101, 0x0201, 0x0402, 0x0501].contains l.code)
    exec (.engineInService i) s = .next (if i.toNat < 0x20 then ceBack s1 (i.toNat - 0x10) else if i.toNat < 0x28 then leBack s1 (i.toNat - 0x20)
      else if i.toNat < 0x2C then meBack s1 (i.toNat - 0x28) trig else if i.toNat < 0x30 then aeBack s1 (i.toNat - 0x2C) else cvBack s1 (i.toNat - 0x30)) := by
  show execEngineInService i s = _
  simp only [execEngineInService, h, apply_ite Host.Outcome.next]

/-- Settles O29: each fault command is its code's report followed by the restart that `faultRestart` names for the island, and a hot restart is known by its frame. -/
theorem faultsAndHotRestarts : Obligations.FaultsAndHotRestarts := by
  unfold Obligations.FaultsAndHotRestarts
  refine ⟨fun s => ⟨fun hk i hs => ⟨?engine, ?core, ?steward, ?tile, ?ridge, ?clockEngine, ?clockRidge, ?heartbeat⟩, exec_stewardWatchdog,
    fun hk => ⟨exec_stewardWatchdog_keep hk, fun i => ⟨exec_lockstepMismatch_keep hk i, exec_clockFault_keep hk i⟩⟩, ?timeout⟩,
    fun s isl cause => ⟨?hot, fun i trig => exec_engineInService_back, fun i => exec_engineInService_idle⟩⟩
  case engine =>
    intro he
    rw [exec_lockstepMismatch hk hs (lockstepCode_of_engine he), faultRestart_of_engine he]
  case core =>
    intro hc
    rw [exec_lockstepMismatch hk hs (lockstepCode_of_core hc), faultRestart_of_core hc]
  case steward =>
    rintro rfl
    exact (exec_lockstepMismatch hk hs rfl).trans (congrArg Host.Outcome.next (faultRestart_steward _ _))
  case tile =>
    intro hlo hhi
    obtain ⟨hcode, hnone⟩ := lockstepCode_faultRestart_of_tile hlo hhi (report s 0x0104 i.toNat) 0x01
    rw [exec_lockstepMismatch hk hs hcode, hnone]
  case ridge =>
    rintro rfl
    exact exec_lockstepMismatch hk hs rfl
  case clockEngine =>
    intro he
    rw [exec_clockFault_engine hk hs he, faultRestart_of_engine he]
  case clockRidge =>
    rintro rfl
    exact exec_clockFault_ridge hk hs
  case heartbeat =>
    intro hb hl
    refine ⟨fun he => ?_, fun hc => ?_⟩
    · rw [exec_heartbeatTimeout hk hs hb hl, if_pos he, faultRestart_of_engine he]
    · rw [exec_heartbeatTimeout hk hs hb hl, if_neg (by simp [isEngine_of_isCore hc]), if_pos hc, faultRestart_of_core hc]
  case timeout =>
    intro i t ht
    rw [exec_hotRestartTimeout ht]
    exact ⟨fun hdue => if_neg (Nat.not_lt.mpr hdue), fun hearly => if_pos hearly⟩
  case hot =>
    intro h0 hf
    obtain ⟨hkind, hcause, hisl, horigin, htrigger, hcount⟩ := hotRestart_rst h0 hf cause
    obtain ⟨hout, hrestarting⟩ := island_hotRestart_same h0 hf cause
    exact ⟨hkind, hcause, hisl, horigin, htrigger, hcount, hotRestart_mode h0 hf cause, hout, hrestarting, fun j => island_hotRestart_other h0 hf cause⟩

end Sys2Proof.Proofs
end

section
/-! T0 alignment, heartbeats and the clock's source (R22-R27), strobes at their nodes (R28-R31), scrubs (R36, R37). -/

namespace Sys2Proof.Proofs

open Sys2Proof.Machine Sys2Proof.Laws

/-! ### Rules of the records -/

@[simp] theorem node_setNode_same (s : State) (n : Nat) (f : NodeSt → NodeSt) : node (setNode s n f) n = f (node s n) :=
  tget_tmod_same _ s.nodes n f

theorem node_setNode_other (s : State) {n k : Nat} (f : NodeSt → NodeSt) (h : k ≠ n) : node (setNode s n f) k = node s k :=
  tget_tmod_other _ s.nodes f h

@[simp] theorem domain_setDomain_same (s : State) (d : Nat) (f : DomainSt → DomainSt) : domain (setDomain s d f) d = f (domain s d) :=
  tget_tmod_same _ s.domains d f

theorem domain_setDomain_other (s : State) {d k : Nat} (f : DomainSt → DomainSt) (h : k ≠ d) : domain (setDomain s d f) k = domain s k :=
  tget_tmod_other _ s.domains f h

/-! ### Heartbeats (R22) -/

/-- A tile as a heartbeat at `a` leaves it. -/
def heardAt (a : Nat) (d : NodeSt) : NodeSt := if d.powered && d.linked then { d with lastHb := a } else d

theorem heardAt_heardAt (a : Nat) (d : NodeSt) : heardAt a (heardAt a d) = heardAt a d := by
  unfold heardAt
  split <;> simp [*]

/-- A tile that is powered and linked hears the control die. -/
def tileHears (s : State) (n : Nat) : State :=
  if (node s n).powered && (node s n).linked then setNode s n (fun d => { d with lastHb := s.t0 }) else s

theorem tileHears_t0 (s : State) (n : Nat) : (tileHears s n).t0 = s.t0 := by
  unfold tileHears
  split <;> rfl

theorem node_tileHears (s : State) (n k : Nat) : node (tileHears s n) k = if k = n then heardAt s.t0 (node s k) else node s k := by
  unfold tileHears heardAt
  by_cases hk : k = n
  · subst hk
    split <;> simp
  · split <;> simp [hk, node_setNode_other]

/-- A heartbeat that goes to a list of tiles reaches each of them and no other. -/
theorem node_foldl_tileHears (k : Nat) (l : List Nat) (s : State) :
    node (l.foldl tileHears s) k = if k ∈ l then heardAt s.t0 (node s k) else node s k := by
  induction l generalizing s with
  | nil => rfl
  | cons n l ih =>
    rw [List.foldl_cons, ih, node_tileHears, tileHears_t0]
    by_cases hn : k = n <;> by_cases hl : k ∈ l <;> simp [hn, hl, heardAt_heardAt]

theorem foldl_tileHears_t0 (l : List Nat) (s : State) : (l.foldl tileHears s).t0 = s.t0 := foldl_keeps State.t0 tileHears_t0 l s

/-- The Ridge hears an island in service. -/
def islandHeard (s : State) (i : Nat) : State :=
  if (island s i).inService then setIsland s i (fun d => { d with lastHb := s.t0 }) else s

theorem foldl_islandHeard_nodes (l : List Nat) (s : State) : (l.foldl islandHeard s).nodes = s.nodes := by
  refine foldl_keeps State.nodes (fun s i => ?_) l s
  unfold islandHeard
  split <;> rfl

theorem foldl_islandHeard_t0 (l : List Nat) (s : State) : (l.foldl islandHeard s).t0 = s.t0 := by
  refine foldl_keeps State.t0 (fun s i => ?_) l s
  unfold islandHeard
  split <;> rfl

/-- A heartbeat reaches each powered and linked tile at the present T0, which it leaves as it is. -/
theorem exec_heartbeatSend (s : State) : ∃ t, exec .heartbeatSend s = .next t ∧ t.t0 = s.t0 ∧
    ∀ n, n < 4 → (node s n).powered = true → (node s n).linked = true → (node t n).lastHb = s.t0 := by
  have ht0 := foldl_islandHeard_t0 islandIds s
  refine ⟨[0, 1, 2, 3].foldl tileHears (islandIds.foldl islandHeard s), rfl, (foldl_tileHears_t0 _ _).trans ht0, fun n hn hp hl => ?_⟩
  have hmem : n ∈ [0, 1, 2, 3] := by simp; omega
  have hnode : node (islandIds.foldl islandHeard s) n = node s n := by rw [node, foldl_islandHeard_nodes, node]
  rw [node_foldl_tileHears, if_pos hmem, hnode, ht0, heardAt, hp, hl]
  rfl

/-- 200 µs without a heartbeat make a powered tile silent (R22, R355). -/
theorem exec_silentHold {s : State} {n : Fin 4} (hl : (node s n).lastHb + 200000 ≤ s.t0) (hs : (node s n).silent = false) (hp : (node s n).powered = true) :
    exec (.silentHold n) s = .next (report (setNode s n (fun d => { d with
      silent := true, silentSince := s.t0, gap := [], gapFull := false, gapLost := [], gapFullAt := 0, gapEv := [], replaying := false })) 0x0203 (0x60 + n) n) := by
  have hlate : ¬ s.t0 < (node s n).lastHb + 200 * us := Nat.not_lt.mpr hl
  refine if_neg ?_
  simp [hlate, hs, hp]

/-! ### T0 alignment and the cross-check (R24-R26) -/

theorem exec_t0AlignExchange_first {s : State} {i : Byte} (h : (island s i.toNat).copySet = false) (o : Int) :
    exec (.t0AlignExchange i o) s = .next (setIsland s i.toNat (fun d => { d with copySet := true, offset := 0, ratePpm := 0, good := 0, aligned := false, bad200 := 0 })) := by
  refine if_pos ?_
  simp [h]

/-- A later exchange within 20 ns of an island that is no tile corrects the rate and counts; the eighth in a row aligns. -/
theorem exec_t0AlignExchange_good {s : State} {i : Byte} {o : Int} (hi : i.toNat < 0x60) (hc : (island s i.toNat).copySet = true) (ho : o.natAbs ≤ 20) :
    exec (.t0AlignExchange i o) s = .next (setIsland (fresh s).2 i.toNat (fun d => { d with
      offset := o, ratePpm := ratePick (fresh s).1, good := (island s i.toNat).good + 1
      aligned := d.aligned || decide (8 ≤ (island s i.toNat).good + 1), bad200 := 0 })) := by
  have hfar : ¬ 20 < o.natAbs := Nat.not_lt.mpr ho
  have hbad : ¬ 200 < o.natAbs := by omega
  have htile : ¬ 0x60 ≤ i.toNat := Nat.not_le.mpr hi
  show execT0AlignExchange i o s = _
  simp [execT0AlignExchange, hc, ho, hfar, hbad, htile]

section CrossCheck

variable {s : State} {a b : Nat}

theorem exec_t0CrossCheck_within (h : 1000 * (if b ≤ a then a - b else b - a) ≤ b) :
    exec (.t0CrossCheck a b) s = .next { s with clock := { s.clock with crossBad := 0 } } := by
  show execT0CrossCheck a b s = _
  simp only [execT0CrossCheck, ge_iff_le]
  generalize (if b ≤ a then a - b else b - a) = off at h ⊢
  have hoff : ¬ b < off * 1000 := by omega
  simp [hoff]

theorem exec_t0CrossCheck_third (h : b < 1000 * (if b ≤ a then a - b else b - a)) (h2 : s.clock.crossBad = 2) :
    exec (.t0CrossCheck a b) s = .next (report { s with clock := { s.clock with crossBad := 0 } } 0x0702 0x7F) := by
  show execT0CrossCheck a b s = _
  simp only [execT0CrossCheck, ge_iff_le]
  generalize (if b ≤ a then a - b else b - a) = off at h ⊢
  have hoff : b < off * 1000 := by omega
  simp [hoff, h2]

end CrossCheck

/-! ### The loss and return of REFCLK (R27, R468) -/

/-- A domain as a loss of REFCLK at `a` leaves it: in holdover if it followed a source. -/
def heldAt (a : Nat) (m : DomainSt) : DomainSt := if m.st = 1 ∨ m.st = 2 then { m.toHoldover a with byRefclk := true } else m

theorem heldAt_st {m : DomainSt} (h : m.st = 1 ∨ m.st = 2) (a : Nat) : (heldAt a m).st = 3 := by
  simp [heldAt, DomainSt.toHoldover, h]

theorem heldAt_heldAt (a : Nat) (m : DomainSt) : heldAt a (heldAt a m) = heldAt a m := by
  by_cases h : m.st = 1 ∨ m.st = 2
  · rw [heldAt, if_neg (by simp [heldAt_st h])]
  · simp [heldAt, h]

/-- A domain that follows a source goes to holdover, which is recorded and shown. -/
def domainHeld (s : State) (d : Nat) : State :=
  let old := (domain s d).st
  if old = 1 ∨ old = 2 then timePoints (noteHold (setDomain s d (fun m => { m.toHoldover s.t0 with byRefclk := true })) d old) d else s

/-- `t` has the T0, the clock's source and the reported faults of `s`. -/
structure SameClock (s t : State) : Prop where
  t0 : t.t0 = s.t0
  clock : t.clock = s.clock
  faultq : t.faultq = s.faultq

theorem sameClock_noteHold (s : State) (d old : Nat) : SameClock s (noteHold s d old) := by
  unfold noteHold
  dsimp only
  split
  · exact ⟨rfl, rfl, rfl⟩
  · exact ⟨note_t0 .., note_clock .., note_faultq ..⟩

theorem sameClock_timePoints (s : State) (d : Nat) : SameClock s (timePoints s d) := ⟨updates_t0 .., updates_clock .., updates_faultq ..⟩

theorem sameClock_domainHeld (s : State) (d : Nat) : SameClock s (domainHeld s d) := by
  unfold domainHeld
  dsimp only
  split
  · obtain ⟨ht, hc, hf⟩ := sameClock_noteHold (setDomain s d (fun m => { m.toHoldover s.t0 with byRefclk := true })) d (domain s d).st
    obtain ⟨ht', hc', hf'⟩ := sameClock_timePoints (noteHold (setDomain s d (fun m => { m.toHoldover s.t0 with byRefclk := true })) d (domain s d).st) d
    exact ⟨ht'.trans ht, hc'.trans hc, hf'.trans hf⟩
  · exact ⟨rfl, rfl, rfl⟩

theorem noteHold_domains (s : State) (d old : Nat) : (noteHold s d old).domains = s.domains := by
  unfold noteHold
  dsimp only
  split
  · rfl
  · exact note_domains ..

theorem timePoints_domains (s : State) (d : Nat) : (timePoints s d).domains = s.domains := updates_domains ..

theorem domain_domainHeld (s : State) (d k : Nat) : domain (domainHeld s d) k = if k = d then heldAt s.t0 (domain s k) else domain s k := by
  have hshown : ∀ (u : State) (old : Nat), domain (timePoints (noteHold u d old) d) k = domain u k :=
    fun u old => by rw [domain, timePoints_domains, noteHold_domains, domain]
  unfold domainHeld heldAt
  dsimp only
  by_cases hk : k = d
  · subst hk
    split
    · rw [hshown]; simp
    · simp
  · split <;> simp [hk, hshown, domain_setDomain_other]

theorem domain_foldl_domainHeld (k : Nat) (l : List Nat) (s : State) :
    domain (l.foldl domainHeld s) k = if k ∈ l then heldAt s.t0 (domain s k) else domain s k := by
  induction l generalizing s with
  | nil => rfl
  | cons d l ih =>
    rw [List.foldl_cons, ih, domain_domainHeld, (sameClock_domainHeld s d).t0]
    by_cases hd : k = d <;> by_cases hl : k ∈ l <;> simp [hd, hl, heldAt_heldAt]

theorem sameClock_foldl_domainHeld (l : List Nat) (s : State) : SameClock s (l.foldl domainHeld s) :=
  ⟨foldl_keeps State.t0 (fun s d => (sameClock_domainHeld s d).t0) l s, foldl_keeps State.clock (fun s d => (sameClock_domainHeld s d).clock) l s,
    foldl_keeps State.faultq (fun s d => (sameClock_domainHeld s d).faultq) l s⟩

theorem sameClock_t0Facet (s : State) : SameClock s (t0Facet s) := ⟨update_t0 .., update_clock .., update_faultq ..⟩

/-- The loss of REFCLK in use is reported, T0 goes on, and the domains that follow a source hold over. -/
theorem exec_refclkLost {s : State} (h : s.clock.refclk = true) : ∃ t, exec .refclkLost s = .next t ∧ t.clock.refclk = false ∧ t.t0 = s.t0 ∧
    t.faultq = s.faultq ++ [⟨0x0502, 0x7F, 0, 0⟩] ∧ ∀ d, d = 1 ∨ d = 2 ∨ d = 3 → ((domain s d).st = 1 ∨ (domain s d).st = 2) → (domain t d).st = 3 := by
  let lost : State := { s with clock := { s.clock with refclk := false, refGoodNs := 0 } }
  let held : State := [1, 2, 3].foldl domainHeld (t0Facet lost)
  have hexec : exec .refclkLost s = .next (report (note held Ev.refclkLost 0x7F 0 0 [held.t0]) 0x0502) := if_neg (by simp [h])
  obtain ⟨ht, hc, hf⟩ := sameClock_foldl_domainHeld [1, 2, 3] (t0Facet lost)
  obtain ⟨ht', hc', hf'⟩ := sameClock_t0Facet lost
  refine ⟨_, hexec, ?_, ?_, ?_, fun d hd hst => ?_⟩
  · rw [report_clock, note_clock, hc, hc']
  · rw [report_t0, note_t0, ht, ht']
  · show (note held Ev.refclkLost 0x7F 0 0 [held.t0]).faultq ++ _ = _
    rw [note_faultq, hf, hf']
  · have hmem : d ∈ [1, 2, 3] := by simp [hd]
    have hdom : domain (t0Facet lost) d = domain s d := by rw [domain, t0Facet, update_domains, domain]
    rw [domain, report_domains, note_domains, ← domain, domain_foldl_domainHeld, if_pos hmem, hdom]
    exact heldAt_st hst _

theorem exec_refclkReturn (s : State) : ∃ t, exec .refclkReturn s = .next t ∧ t.clock.refclk = true ∧ t.t0 = s.t0 := by
  refine ⟨_, rfl, ?_, ?_⟩
  · rw [(sameClock_t0Facet _).clock]
  · rw [(sameClock_t0Facet _).t0]

/-! ### Strobes at an aligned node (R28-R31) -/

section Strobes

variable {s : State} {n : Fin 7} (ha : (island s (nodeIsland n)).aligned = true)
include ha

/-- A strobe event whose instant has not passed is stored. -/
theorem exec_strobeEventReceive_stored {e : Nat × Strobe} (he : s.sched.strobesOut.find? (fun e => e.1 == n.val) = some e) (hd : s.t0 ≤ e.2.due)
    (hroom : (node s n).strobes.length < 256) :
    let s1 := { s with sched := { s.sched with strobesOut := s.sched.strobesOut.erase e } }
    let s2 := setNode s1 n (fun d => { d with strobes := d.strobes ++ [e.2] })
    exec (.strobeEventReceive n) s = .next { s2 with sched := { s2.sched with pendMax := max s2.sched.pendMax (node s2 n).strobes.length } } := by
  show execStrobeEventReceive n s = _
  unfold execStrobeEventReceive
  dsimp only
  rw [he]
  dsimp only
  rw [if_neg (by simpa [island] using ha), if_neg (Nat.not_lt.mpr hd), if_neg (by simpa [node] using hroom)]

/-- A sample strobe event whose instant has passed runs at once and is counted. -/
theorem exec_strobeEventReceive_late {e : Nat × Strobe} (he : s.sched.strobesOut.find? (fun e => e.1 == n.val) = some e) (hd : e.2.due < s.t0)
    (hset : e.2.set = none) :
    let s1 := { s with sched := { s.sched with strobesOut := s.sched.strobesOut.erase e } }
    let s2 := setIsland s1 (nodeIsland n) (fun d => { d with late := (d.late + 1) % 2 ^ 32 })
    exec (.strobeEventReceive n) s = .next (doSample (sysPoint s2 (0x1000 + nodeIsland n * 16 + 15) (island s2 (nodeIsland n)).late) n s.t0 true) := by
  show execStrobeEventReceive n s = _
  unfold execStrobeEventReceive
  dsimp only
  rw [he]
  dsimp only
  rw [if_neg (by simpa [island] using ha), if_pos hd, hset]
  simp only [lateStrobe, sysPoint_t0, setIsland_t0]

theorem exec_sampleStrobe {e : Strobe} (he : dueStrobe s n true = some e) :
    exec (.sampleStrobe n) s =
      .next (doSample (setNode s n (fun d => { d with strobes := d.strobes.filter (fun x => !(x.set.isNone && x.due == e.due)) })) n e.due false) := by
  show execSampleStrobe n s = _
  simp [execSampleStrobe, ha, he]

theorem exec_applyStrobe {e : Strobe} {k : Nat} (he : dueStrobe s n false = some e) (hk : e.set = some k) (hs : dueStrobe s n true = none) :
    exec (.applyStrobe n) s = .next (doApply (setNode s n (fun d => { d with strobes := d.strobes.erase e })) n e.due k) := by
  show execApplyStrobe n s = _
  simp [execApplyStrobe, ha, he, hk, hs]

end Strobes

theorem exec_outputSetReceive {s : State} {n : Fin 7} {e : Nat × OutSet} (he : s.sched.setsOut.find? (fun e => e.1 == n.val) = some e) :
    exec (.outputSetReceive n) s = .next (takeSet { s with sched := { s.sched with setsOut := s.sched.setsOut.erase e } } n e.2) := by
  show execOutputSetReceive n s = _
  simp only [execOutputSetReceive, he]

/-- Settles O2: the rules of heartbeats, alignment and the clock's source, then those of the strobes; a scrub is its own definition by the number of errors. -/
theorem timeAlignmentStrobesAndScrubs : Obligations.TimeAlignmentStrobesAndScrubs := by
  unfold Obligations.TimeAlignmentStrobesAndScrubs
  refine ⟨fun s => ⟨exec_heartbeatSend s, fun n => exec_silentHold, fun i o h => exec_t0AlignExchange_first h o, ?aligned,
      fun a b => ⟨exec_t0CrossCheck_within, exec_t0CrossCheck_third⟩, exec_refclkLost, exec_refclkReturn s⟩,
    fun s => ⟨fun n e he ha => ⟨exec_strobeEventReceive_stored ha he, exec_strobeEventReceive_late ha he⟩, fun n e ha => exec_sampleStrobe ha,
      fun n e k ha => exec_applyStrobe ha, fun n e => exec_outputSetReceive, fun a => ⟨rfl, rfl, rfl⟩, fun a => ⟨rfl, rfl, rfl⟩⟩⟩
  case aligned =>
    intro i o hi hc ho
    refine ⟨_, exec_t0AlignExchange_good hi hc ho, ?_, fun h7 => ?_, ?_, rfl⟩
    · simp
    · simp [h7]
    · simp

end Sys2Proof.Proofs
end

section
/-! Device, bulk window and firmware commands (R37, R537, R546-R552). -/

namespace Sys2Proof.Proofs

open Sys2Proof.Machine Sys2Proof.Laws Sys2Proof.Safety

/-! ### What a response leaves of the host's state (R533) -/

/-- A response changes the mailbox's registers and, with FINAL, the ranges that its command held. -/
theorem respond_host_frame (s : State) (r : Req) (op st fl : Nat) (p : List Byte) :
    ∃ x h, (respond s r op st fl p).host = { s.host with mbx := x, holds := h } := by
  unfold respond
  dsimp only
  split <;> exact ⟨_, _, rfl⟩

theorem finish_host_frame (s : State) (r : Req) (op : Nat) (isC : Bool) (st : Nat) (p : List Byte) :
    ∃ x h, (finish s r op isC st p).host = { s.host with mbx := x, holds := h } := by
  cases isC
  · exact respond_host_frame s r op st 1 p
  · obtain ⟨x, h, hr⟩ := respond_host_frame (hostAction (modeRefused s r op st) r op st) r op st 1 p
    refine ⟨x, h, ?_⟩
    rw [hostAction_host, modeRefused_host] at hr
    exact hr

@[simp] theorem finish_restartReq (s : State) (r : Req) (op : Nat) (isC : Bool) (st : Nat) (p : List Byte) :
    (finish s r op isC st p).host.restartReq = s.host.restartReq := by
  obtain ⟨x, h, hr⟩ := finish_host_frame s r op isC st p
  rw [hr]

@[simp] theorem finish_bulk (s : State) (r : Req) (op : Nat) (isC : Bool) (st : Nat) (p : List Byte) :
    (finish s r op isC st p).host.bulk = s.host.bulk := by
  obtain ⟨x, h, hr⟩ := finish_host_frame s r op isC st p
  rw [hr]

@[simp] theorem finish_rings (s : State) (r : Req) (op : Nat) (isC : Bool) (st : Nat) (p : List Byte) :
    (finish s r op isC st p).host.rings = s.host.rings := by
  obtain ⟨x, h, hr⟩ := finish_host_frame s r op isC st p
  rw [hr]

/-! ### The copy of the bulk window (R38, R537) -/

/-- Onset and end of the throttling are recorded (R40). -/
def throttleTold (ok : Bool) (s : State) : State :=
  let t := { s with host := { s.host with throttled := !ok } }
  if s.host.throttled = !ok then t else note t Ev.bulkThrottle 0x48 0 0 [if ok then 0 else 1]

theorem throttleTold_host (ok : Bool) (s : State) : (throttleTold ok s).host = { s.host with throttled := !ok } := by
  unfold throttleTold
  dsimp only
  split
  · rfl
  · exact note_host ..

/-- What `bulkMay` does once it is known whether the copy may start: a copy that starts is counted. -/
def bulkTold (ok : Bool) (s : State) (n : Nat) : State := if ok then bulkCount (throttleTold ok s) n else throttleTold ok s

theorem bulkTold_memories (ok : Bool) (s : State) (n : Nat) : (bulkTold ok s n).host.bulk = s.host.bulk ∧ (bulkTold ok s n).host.rings = s.host.rings := by
  unfold bulkTold
  split <;> simp [bulkCount, throttleTold_host]

/-- Whether a copy may start: below the share of this 10 µs window always, beyond it by a free value. -/
def bulkGrant (s : State) : Bool × State :=
  if (if s.host.bulkWin = s.t0 / (10 * us) then s.host.bulkUsed else 0) < 10000 then (true, s) else ((fresh s).1.getLsbD 0, (fresh s).2)

theorem bulkGrant_host (s : State) : (bulkGrant s).2.host = s.host := by
  unfold bulkGrant
  generalize (if s.host.bulkWin = s.t0 / (10 * us) then s.host.bulkUsed else 0) = used
  split <;> rfl

theorem bulkMay_eq (s : State) (n : Nat) : bulkMay s n = ((bulkGrant s).1, bulkTold (bulkGrant s).1 (bulkGrant s).2 n) := rfl

theorem bulkMay_of_share {s : State} (h : (if s.host.bulkWin = s.t0 / (10 * us) then s.host.bulkUsed else 0) < 10000) (n : Nat) : (bulkMay s n).1 = true := by
  rw [bulkMay_eq, bulkGrant, if_pos h]

/-- Counting and recording a copy leaves the window's memories. -/
theorem bulkMay_memories (s : State) (n : Nat) : (bulkMay s n).2.host.bulk = s.host.bulk ∧ (bulkMay s n).2.host.rings = s.host.rings := by
  rw [bulkMay_eq, ← bulkGrant_host s]
  exact bulkTold_memories ..

/-- Bytes written read back, and no other byte changes. -/
theorem sameBut_mwrites (m : Mem) (a : Nat) (l : List Byte) : SameBut m (mwrites m a l) a l.length :=
  fun b h => mread_mwrites_other l m a b h

/-! ### Device commands (R546, R547) -/

section Commands

variable {s : State} {r : Req}

theorem exec_deviceInfo (h : Runs s r 0x0001 false allModes 0 (r.target == 0)) :
    exec (.deviceInfo r) s = .next (finish (begun s r 0x0001) r 0x0001 false 0
      (leBytes 4 s.host.idFw.toNat ++ leBytes 4 0x16480B00 ++ leBytes 8 Config.serial.toNat ++ leBytes 4 s.deck.gen ++ leBytes 2 s.deck.edit ++
        leBytes 1 s.mode.cur.num ++ leBytes 1 s.twin.st ++ leBytes 4 s.host.epoch.toNat ++ leBytes 4 s.rst.count)) :=
  congrArg Host.Outcome.next (command_runs h _)

/-- DEVICE_RESTART answers, with the restart set for the first whole millisecond at least 1 ms later. -/
theorem exec_deviceRestart
    (h : Runs s r 0x0003 true allModes 4 (r.target == 0 && fld r.payload 2 2 == 0 &&
      ((fld r.payload 0 1 == 0 && isEngine (fld r.payload 1 1)) || ((fld r.payload 0 1 == 1 || fld r.payload 0 1 == 3) && fld r.payload 1 1 == 0)))) :
    exec (.deviceRestart r) s = .next (finish (setHost (begun s r 0x0003) (fun d => { d with
      restartReq := d.restartReq ++ [(wholeMs s.t0 ms, fld r.payload 0 1, fld r.payload 1 1)] })) r 0x0003 true 0) :=
  congrArg Host.Outcome.next (command_runs h _)

/-! ### The bulk window's commands (R537, R546) -/

section BulkWrite

variable (h : Runs s r 0x0004 true allModes 8 (r.target == 0 && bulkOk (fld r.payload 0 4) (r.payload.drop 4).length && decide ((r.payload.drop 4).length ≤ 1436)))
include h

theorem exec_bulkWrite :
    exec (.bulkWrite r) s = .next (
      if bulkBusy (begun s r 0x0004) (fld r.payload 0 4) (r.payload.drop 4).length then finish (begun s r 0x0004) r 0x0004 true 0x0509
      else
        let p := bulkMay (begun s r 0x0004) (r.payload.drop 4).length
        if !p.1 then finish p.2 r 0x0004 true 0x050B
        else finish (setHost p.2 (fun d => { d with bulk := mwrites d.bulk (fld r.payload 0 4) (r.payload.drop 4) })) r 0x0004 true 0) :=
  congrArg Host.Outcome.next (command_runs h _)

theorem exec_bulkWrite_busy (hb : bulkBusy s (fld r.payload 0 4) (r.payload.drop 4).length = true) :
    exec (.bulkWrite r) s = .next (finish (begun s r 0x0004) r 0x0004 true 0x0509) := by
  rw [exec_bulkWrite h]
  exact congrArg Host.Outcome.next (if_pos hb)

variable (hb : bulkBusy s (fld r.payload 0 4) (r.payload.drop 4).length = false)
include hb

theorem exec_bulkWrite_free :
    exec (.bulkWrite r) s = .next (
      let p := bulkMay (begun s r 0x0004) (r.payload.drop 4).length
      if !p.1 then finish p.2 r 0x0004 true 0x050B
      else finish (setHost p.2 (fun d => { d with bulk := mwrites d.bulk (fld r.payload 0 4) (r.payload.drop 4) })) r 0x0004 true 0) := by
  rw [exec_bulkWrite h]
  exact congrArg Host.Outcome.next (if_neg (Bool.eq_false_iff.mp hb))

theorem exec_bulkWrite_held (hp : (bulkMay (begun s r 0x0004) (r.payload.drop 4).length).1 = false) :
    exec (.bulkWrite r) s = .next (finish (bulkMay (begun s r 0x0004) (r.payload.drop 4).length).2 r 0x0004 true 0x050B) := by
  rw [exec_bulkWrite_free h hb]
  exact congrArg Host.Outcome.next (if_pos (by simpa using hp))

/-- A write that may start stores its bytes in the bulk window and changes no other byte of the window's memories. -/
theorem exec_bulkWrite_stores (hp : (bulkMay (begun s r 0x0004) (r.payload.drop 4).length).1 = true) :
    ∃ t, exec (.bulkWrite r) s = .next t ∧ t.host.bulk = mwrites s.host.bulk (fld r.payload 0 4) (r.payload.drop 4) ∧ t.host.rings = s.host.rings := by
  obtain ⟨hbulk, hrings⟩ := bulkMay_memories (begun s r 0x0004) (r.payload.drop 4).length
  refine ⟨_, (exec_bulkWrite_free h hb).trans (congrArg Host.Outcome.next (if_neg (by simpa using hp))), ?_, ?_⟩
  · rw [finish_bulk, setHost_host, hbulk]
    rfl
  · rw [finish_rings, setHost_host, hrings]
    rfl

end BulkWrite

section BulkRead

variable (h : Runs s r 0x0005 false allModes 8 (r.target == 0 && bulkOk (fld r.payload 0 4) (fld r.payload 4 4) &&
  decide (4 ≤ fld r.payload 4 4 ∧ fld r.payload 4 4 ≤ 1440)))
include h

theorem exec_bulkRead :
    exec (.bulkRead r) s = .next (
      if bulkBusy (begun s r 0x0005) (fld r.payload 0 4) (fld r.payload 4 4) then finish (begun s r 0x0005) r 0x0005 false 0x0509
      else
        let p := bulkMay (begun s r 0x0005) (fld r.payload 4 4)
        if !p.1 then finish p.2 r 0x0005 false 0x050B
        else finish p.2 r 0x0005 false 0 (mreads p.2.host.bulk (fld r.payload 0 4) (fld r.payload 4 4))) :=
  congrArg Host.Outcome.next (command_runs h _)

theorem exec_bulkRead_busy (hb : bulkBusy s (fld r.payload 0 4) (fld r.payload 4 4) = true) :
    exec (.bulkRead r) s = .next (finish (begun s r 0x0005) r 0x0005 false 0x0509) := by
  rw [exec_bulkRead h]
  exact congrArg Host.Outcome.next (if_pos hb)

/-- A read of a free range answers the range's bytes, or that the copy may not start. -/
theorem exec_bulkRead_free (hb : bulkBusy s (fld r.payload 0 4) (fld r.payload 4 4) = false) :
    let p := bulkMay (begun s r 0x0005) (fld r.payload 4 4)
    (p.1 = false → exec (.bulkRead r) s = .next (finish p.2 r 0x0005 false 0x050B)) ∧
    (p.1 = true → exec (.bulkRead r) s = .next (finish p.2 r 0x0005 false 0 (mreads s.host.bulk (fld r.payload 0 4) (fld r.payload 4 4)))) := by
  obtain ⟨hbulk, -⟩ := bulkMay_memories (begun s r 0x0005) (fld r.payload 4 4)
  have hfree := (exec_bulkRead h).trans (congrArg Host.Outcome.next (if_neg (Bool.eq_false_iff.mp hb)))
  refine ⟨fun hp => ?_, fun hp => ?_⟩
  · exact hfree.trans (congrArg Host.Outcome.next (if_pos (by simpa using hp)))
  · refine hfree.trans (congrArg Host.Outcome.next ((if_neg (by simpa using hp)).trans ?_))
    rw [hbulk]
    rfl

end BulkRead

/-! ### Firmware (R551, R552) -/

section FwUpdate

variable (h : Runs s r 0x0210 true [.config, .idle, .run, .hold, .maint] 4 (r.target == 0 && decide (fld r.payload 0 1 ≤ 1) && fld r.payload 1 3 == 0))
include h

theorem exec_fwUpdate_unstaged (hu : tfind s.deck.staged (imgKey 8 (otherBank s)) = none) :
    exec (.fwUpdate r) s = .next (finish (begun s r 0x0210) r 0x0210 true 0x0108) := by
  refine congrArg Host.Outcome.next ((command_runs h _).trans ?_)
  rw [show tfind (beginCmd s r 0x0210).deck.staged (imgKey 8 (otherBank (beginCmd s r 0x0210))) = none from hu]

theorem exec_fwUpdate_staged (hu : tfind s.deck.staged (imgKey 8 (otherBank s)) ≠ none) :
    exec (.fwUpdate r) s = .next (
      let b := begun s r 0x0210
      if s.fw.writing.isSome then finish b r 0x0210 true 0x050D
      else accepted { b with fw := { b.fw with writing := some (jobOf r 8 (otherBank s) (fld r.payload 0 1)) } } r 0x0210) := by
  obtain ⟨img, himg⟩ := Option.ne_none_iff_exists'.mp hu
  refine congrArg Host.Outcome.next ((command_runs h _).trans ?_)
  rw [show tfind (beginCmd s r 0x0210).deck.staged (imgKey 8 (otherBank (beginCmd s r 0x0210))) = some img from himg]
  rfl

end FwUpdate

section FwSwap

variable (h : Runs s r 0x0211 true [.idle, .run, .hold] 4 (r.target == 0 && decide (fld r.payload 0 1 ≤ 1) && fld r.payload 1 3 == 0))
include h

theorem exec_fwSwap_busy (hx : s.sched.exch.isSome ∨ s.fw.swapAt.isSome) :
    exec (.fwSwap r) s = .next (finish (begun s r 0x0211) r 0x0211 true 0x0503) :=
  congrArg Host.Outcome.next ((command_runs h _).trans (if_pos hx))

variable (hx : ¬ (s.sched.exch.isSome ∨ s.fw.swapAt.isSome))
include hx

theorem exec_fwSwap_pending (hp : s.mode.pend ≠ none) : exec (.fwSwap r) s = .next (finish (begun s r 0x0211) r 0x0211 true 0x0501) :=
  congrArg Host.Outcome.next ((command_runs h _).trans ((if_neg hx).trans (if_pos (Option.isSome_iff_ne_none.mpr hp))))

variable (hp : s.mode.pend = none)
include hp

theorem exec_fwSwap_early (hd : dwellOk s = false) : exec (.fwSwap r) s = .next (finish (begun s r 0x0211) r 0x0211 true 0x050C) := by
  have hnone : ¬ s.mode.pend.isSome = true := by simp [hp]
  have hearly : (!dwellOk s) = true := by simp [hd]
  exact congrArg Host.Outcome.next ((command_runs h _).trans ((if_neg hx).trans ((if_neg hnone).trans (if_pos hearly))))

variable (hd : dwellOk s = true)
include hd

/-- Past the checks of what is under way the other bank's mark decides. -/
theorem exec_fwSwap_bank :
    exec (.fwSwap r) s = .next (
      let b := begun s r 0x0211
      match tfind s.fw.valid (otherBank s) with
      | none => finish b r 0x0211 true 0x0108
      | some v =>
        if v ≠ flashTarget s ∧ fld r.payload 0 1 % 2 = 0 then finish b r 0x0211 true 0x0103
        else finish (pendMode { b with fw := { b.fw with swapAt := some (wholeMs s.t0 (2 * ms)) } } .update 4).1 r 0x0211 true 0) := by
  have hnone : ¬ s.mode.pend.isSome = true := by simp [hp]
  have hlong : ¬ (!dwellOk s) = true := by simp [hd]
  exact congrArg Host.Outcome.next ((command_runs h _).trans ((if_neg hx).trans ((if_neg hnone).trans (if_neg hlong))))

theorem exec_fwSwap_unmarked (hv : tfind s.fw.valid (otherBank s) = none) :
    exec (.fwSwap r) s = .next (finish (begun s r 0x0211) r 0x0211 true 0x0108) := by
  rw [exec_fwSwap_bank h hx hp hd, hv]

variable {v : Nat} (hv : tfind s.fw.valid (otherBank s) = some v)
include hv

theorem exec_fwSwap_unnamed (hne : v ≠ flashTarget s) (hfl : fld r.payload 0 1 = 0) :
    exec (.fwSwap r) s = .next (finish (begun s r 0x0211) r 0x0211 true 0x0103) := by
  rw [exec_fwSwap_bank h hx hp hd, hv]
  exact congrArg Host.Outcome.next (if_pos ⟨hne, by rw [hfl]⟩)

/-- A swap to the version that the flash Deck names, or a forced one: M11 pends and the swap is set. -/
theorem exec_fwSwap_set (hok : v = flashTarget s ∨ fld r.payload 0 1 = 1) :
    ∃ t, exec (.fwSwap r) s = .next t ∧ t.fw.swapAt = some (wholeMs s.t0 (2 * ms)) ∧ t.fw.bank = s.fw.bank ∧
      t.mode.pend = some ⟨.update, wholeMs s.t0 (500 * us), 4, none⟩ ∧ t.mode.cur = s.mode.cur := by
  have hnamed : ¬ (v ≠ flashTarget s ∧ fld r.payload 0 1 % 2 = 0) := by omega
  have hexec := exec_fwSwap_bank h hx hp hd
  rw [hv] at hexec
  refine ⟨_, hexec.trans (congrArg Host.Outcome.next (if_neg hnamed)), ?_⟩
  simp [pendMode]

end FwSwap

end Commands

theorem exec_deviceRestartTrigger_none {s : State} (h : s.host.restartReq = [] ∨ s.mode.cur = .keep) : exec .deviceRestartTrigger s = .next s := by
  show execDeviceRestartTrigger s = _
  unfold execDeviceRestartTrigger
  cases hreq : s.host.restartReq with
  | nil => rfl
  | cons e rest =>
    have hk : s.mode.cur = .keep := h.resolve_left (by simp [hreq])
    exact if_pos (.inr hk)

theorem exec_deviceRestartTrigger_waits {s : State} {e : Nat × Nat × Nat} {rest : List (Nat × Nat × Nat)} (h : s.host.restartReq = e :: rest) (ht : s.t0 < e.1) :
    exec .deviceRestartTrigger s = .next s := by
  show execDeviceRestartTrigger s = _
  unfold execDeviceRestartTrigger
  rw [h]
  exact if_pos (.inl ht)

/-- At its instant the request is taken off the list and its kind's restart begins. -/
theorem exec_deviceRestartTrigger_due {s : State} {a kind isl : Nat} {rest : List (Nat × Nat × Nat)} (h : s.host.restartReq = (a, kind, isl) :: rest)
    (hk : s.mode.cur ≠ .keep) (ht : a ≤ s.t0) :
    let u := setHost s (fun d => { d with restartReq := rest })
    (kind = 0 → exec .deviceRestartTrigger s = .next (hotRestart u 0x03 isl)) ∧
    (kind = 1 → exec .deviceRestartTrigger s = .next (warmRestart u 0x10 0xFF)) ∧
    (kind = 3 → exec .deviceRestartTrigger s = .next (coldRestart u 0x30 0xFF (originNow u) 0x30)) := by
  have hdue : ¬ (s.t0 < a ∨ s.mode.cur = .keep) := not_or.mpr ⟨Nat.not_lt.mpr ht, hk⟩
  refine ⟨?_, ?_, ?_⟩
  all_goals
    rintro rfl
    show execDeviceRestartTrigger s = _
    unfold execDeviceRestartTrigger
    rw [h]
    exact if_neg hdue

/-! ### The end of FW_UPDATE (R551) -/

theorem tfind_tdel_same {α : Type} (t : Tbl α) (n : Nat) : tfind (tdel t n) n = none := by
  simp [tfind, tdel]

theorem tfind_tset_same {α : Type} (t : Tbl α) (n : Nat) (v : α) : tfind (tset t n v) n = some v := by
  induction t with
  | nil => simp [tset, tfind]
  | cons e t ih =>
    simp only [tset]
    split
    · simp [tfind]
    · split
      · simp [tfind]
      · next hne =>
        rw [tfind, List.find?_cons_of_neg (by simpa using Ne.symm hne)]
        exact ih

theorem exec_fwUpdateDone_idle {s : State} (h : s.fw.writing = none) (sigOk readOk : Bool) : exec (.fwUpdateDone sigOk readOk) s = .next s := by
  show execFwUpdateDone sigOk readOk s = _
  unfold execFwUpdateDone
  rw [h]

section FwUpdateDone

variable {s : State} {j : BgJob} (h : s.fw.writing = some j) {sigOk readOk : Bool}
include h

theorem exec_fwUpdateDone_refused (hst : fwCheck s j sigOk ≠ 0) :
    exec (.fwUpdateDone sigOk readOk) s = .next (finish { s with fw := { s.fw with writing := none } } (jobReq j) 0x0210 true (fwCheck s j sigOk)) := by
  show execFwUpdateDone sigOk readOk s = _
  unfold execFwUpdateDone
  rw [h]
  exact if_pos hst

variable (hst : fwCheck s j sigOk = 0)
include hst

theorem exec_fwUpdateDone_unread (hr : readOk = false) :
    ∃ t, exec (.fwUpdateDone sigOk readOk) s = .next t ∧ tfind t.fw.valid j.slot = none ∧ t.fw.bank = s.fw.bank := by
  have hexec : exec (.fwUpdateDone sigOk readOk) s =
      .next (finish { s with fw := { s.fw with writing := none, valid := tdel s.fw.valid j.slot } } (jobReq j) 0x0210 true 0x0602) := by
    show execFwUpdateDone sigOk readOk s = _
    unfold execFwUpdateDone
    rw [h]
    exact (if_neg (not_not.mpr hst)).trans (if_pos (by simp [hr]))
  refine ⟨_, hexec, ?_⟩
  simp [tfind_tdel_same]

theorem exec_fwUpdateDone_marked (hr : readOk = true) :
    ∃ t, exec (.fwUpdateDone sigOk readOk) s = .next t ∧ tfind t.fw.valid j.slot = some (fld (stagedImg s (imgKey 8 j.slot)) 0x10 4) ∧
      tfind t.fw.gen j.slot = some (hdrGen (stagedImg s (imgKey 8 j.slot))) ∧ t.fw.writing = none := by
  let img := stagedImg s (imgKey 8 j.slot)
  have hexec : exec (.fwUpdateDone sigOk readOk) s = .next (finish
      { s with fw := { s.fw with writing := none, valid := tset s.fw.valid j.slot (fld img 0x10 4), gen := tset s.fw.gen j.slot (hdrGen img) } }
      (jobReq j) 0x0210 true 0 (leBytes 1 j.slot ++ [0, 0, 0])) := by
    show execFwUpdateDone sigOk readOk s = _
    unfold execFwUpdateDone
    rw [h]
    exact (if_neg (not_not.mpr hst)).trans (if_neg (by simp [hr]))
  refine ⟨_, hexec, ?_⟩
  simp [tfind_tset_same, img]

end FwUpdateDone

/-! ### The statement -/

/-- Settles O47: each command's outcome is the branch of its checks that the hypotheses choose; what a response leaves of the window, the firmware and the mode is its frame. -/
theorem deviceBulkAndFirmwareCommands : Obligations.DeviceBulkAndFirmwareCommands := by
  unfold Obligations.DeviceBulkAndFirmwareCommands
  refine ⟨fun s r => ⟨exec_deviceInfo, ?restart, exec_deviceRestartTrigger_none, ?trigger, ?write, ?read⟩,
    fun s => ⟨fun r => ⟨?update, ?swap⟩, fun sigOk readOk => ⟨fun hw => exec_fwUpdateDone_idle hw sigOk readOk,
      fun j hw => ⟨exec_fwUpdateDone_refused hw, exec_fwUpdateDone_unread hw, exec_fwUpdateDone_marked hw⟩⟩⟩⟩
  case restart =>
    intro kind isl h
    refine ⟨_, exec_deviceRestart h, ?_, ?_, ?_⟩
    · rw [finish_restartReq]
      rfl
    · rw [finish_rst]
      rfl
    · rw [finish_mode]
      rfl
  case trigger =>
    intro a kind isl rest h hk u
    refine ⟨exec_deviceRestartTrigger_waits h, fun ha => ?_, fun ha => ?_, fun ha => ?_⟩
    all_goals obtain ⟨hhot, hwarm, hcold⟩ := exec_deviceRestartTrigger_due h hk ha
    · exact hhot
    · exact hwarm
    · exact hcold
  case write =>
    intro off data b p h
    refine ⟨exec_bulkWrite_busy h, fun hb => ⟨fun hshare => bulkMay_of_share (s := b) hshare _, exec_bulkWrite_held h hb, fun hp => ?_⟩⟩
    obtain ⟨t, hexec, hbulk, hrings⟩ := exec_bulkWrite_stores h hb hp
    refine ⟨t, hexec, ?_, ?_, hrings⟩
    · rw [hbulk]
      exact mreads_mwrites ..
    · rw [hbulk]
      exact sameBut_mwrites _ _ _
  case read =>
    intro off len b p h
    exact ⟨exec_bulkRead_busy h, exec_bulkRead_free h⟩
  case update =>
    intro b h
    refine ⟨exec_fwUpdate_unstaged h, fun hu hw => ?_, fun hu hw => ⟨_, (exec_fwUpdate_staged h hu).trans (congrArg Host.Outcome.next (if_neg (by simp [hw]))), ?_, ?_⟩⟩
    · exact (exec_fwUpdate_staged h hu).trans (congrArg Host.Outcome.next (if_pos (Option.isSome_iff_ne_none.mpr hw)))
    · rw [accepted_fw]
    · rw [accepted_fw]
      rfl
  case swap =>
    intro b busy h
    exact ⟨exec_fwSwap_busy h, exec_fwSwap_pending h, exec_fwSwap_early h, fun hx hp hd =>
      ⟨exec_fwSwap_unmarked h hx hp hd, fun v hv => ⟨exec_fwSwap_unnamed h hx hp hd hv, exec_fwSwap_set h hx hp hd hv⟩⟩⟩

end Sys2Proof.Proofs
end

section
/-! Updates of the process image (R45-R51, R62): what one visible update shows, and how UCNT counts them. -/

namespace Sys2Proof.Proofs

open Sys2Proof.Machine Sys2Proof.Laws

/-! ### A point after an update -/

@[simp] theorem showOn_ucnt (s : State) (t : Nat) (pt : Point) (p : Nat) (v : Word) (c : BitVec 16) : (showOn s t pt p v c).ucnt = pt.ucnt + 1 := by
  unfold showOn
  split <;> rfl

@[simp] theorem showOn_ivl (s : State) (t : Nat) (pt : Point) (p : Nat) (v : Word) (c : BitVec 16) : (showOn s t pt p v c).ivl = bv 16 (t / 10000) := by
  unfold showOn
  split <;> rfl

@[simp] theorem showOn_source (s : State) (t : Nat) (pt : Point) (p : Nat) (v : Word) (c : BitVec 16) : (showOn s t pt p v c).source = v := by
  unfold showOn
  split <;> rfl

theorem showOn_of_unforced {s : State} {p : Nat} (h : forceOf s p = none) (t : Nat) (pt : Point) (v : Word) (c : BitVec 16) :
    (showOn s t pt p v c).value = v ∧ (showOn s t pt p v c).conds = c := by
  unfold showOn
  rw [h]
  exact ⟨rfl, rfl⟩

theorem showOn_of_forced {s : State} {p : Nat} {f : Force} (h : forceOf s p = some f) (t : Nat) (pt : Point) (v : Word) (c : BitVec 16) :
    (showOn s t pt p v c).value = forceVal s f ∧ (showOn s t pt p v c).conds = c ||| condOf (if f.sim then 8 else 7) := by
  unfold showOn
  rw [h]
  exact ⟨rfl, rfl⟩

/-! ### The update becomes visible (R48, R51) -/

theorem points_showUpd_same (s : State) (u : Upd) :
    tget {} (showUpd s u).img.points u.point = showOn s u.due (pget s u.point) u.point u.value u.conds := tget_tset_same ..

theorem points_showUpd_other (s : State) {u : Upd} {p : Nat} (h : p ≠ u.point) : tget {} (showUpd s u).img.points p = tget {} s.img.points p :=
  tget_tset_other _ _ _ h

/-- The state without one waiting update; what points show and which forces hold is by definition that of `s`. -/
def unpend (s : State) (u : Upd) : State := { s with img := { s.img with pend := s.img.pend.erase u } }

theorem exec_imageUpdateVisible {s : State} {u : Upd} (h : dueUpd s = some u) : exec .imageUpdateVisible s = .next (showUpd (unpend s u) u) := by
  show execImageUpdateVisible s = _
  unfold execImageUpdateVisible
  rw [h]
  rfl

/-- Settles O3: the earliest due update leaves the pending list and the point shows it as `showOn` says, with or without a force. -/
theorem imageUpdatesBecomeVisible : Obligations.ImageUpdatesBecomeVisible := by
  unfold Obligations.ImageUpdatesBecomeVisible
  intro s u h
  refine ⟨_, exec_imageUpdateVisible h, ?_, fun p hp => points_showUpd_other (unpend s u) hp⟩
  intro old new
  have hnew : new = showOn (unpend s u) u.due old u.point u.value u.conds := points_showUpd_same (unpend s u) u
  rw [hnew]
  exact ⟨rfl, showOn_ucnt .., showOn_ivl .., showOn_source .., fun hf => showOn_of_unforced (s := unpend s u) hf .., fun f hf => showOn_of_forced (s := unpend s u) hf ..⟩

/-! ### UCNT (R48) -/

theorem pget_ucnt (s : State) (p : Nat) : (pget s p).ucnt = (tget {} s.img.points p).ucnt := by
  unfold pget
  dsimp only
  split <;> rfl

theorem ucnt_showUpd_same (s : State) (u : Upd) : (pget (showUpd s u) u.point).ucnt = (pget s u.point).ucnt + 1 := by
  rw [pget_ucnt, points_showUpd_same, showOn_ucnt]

theorem ucnt_showUpd_other (s : State) {u : Upd} {p : Nat} (h : p ≠ u.point) : (pget (showUpd s u) p).ucnt = (pget s p).ucnt := by
  rw [pget_ucnt, pget_ucnt, points_showUpd_other s h]

/-- Over a list of visible updates UCNT rises by the number of those of its point. -/
theorem ucnt_foldl_showUpd (p : Nat) (l : List Upd) (s : State) :
    (pget (l.foldl showUpd s) p).ucnt = (pget s p).ucnt + bv 8 (l.filter (fun u => u.point == p)).length := by
  induction l generalizing s with
  | nil => simp
  | cons u l ih =>
    rw [List.foldl_cons, ih]
    by_cases hu : u.point = p
    · subst hu
      rw [ucnt_showUpd_same, List.filter_cons_of_pos (by simp), List.length_cons, BitVec.add_assoc, Nat.add_comm _ 1]
      exact congrArg _ (BitVec.ofNat_add 1 _).symm
    · rw [ucnt_showUpd_other s (Ne.symm hu), List.filter_cons_of_neg (by simp [hu])]

/-- A count below 256 that leaves a byte unchanged is 0. -/
theorem eq_zero_of_add_bv8_eq {x : Byte} {n : Nat} (h : x + bv 8 n = x) (hn : n < 256) : n = 0 := by
  have h0 : bv 8 n = 0#8 := add_eq_left.mp h
  have : n % 256 = 0 := congrArg BitVec.toNat h0
  omega

/-- Settles O59: one visible update counts one for its own point and none for another, and a list of them is counted by induction. -/
theorem ucntCountsVisibleUpdates : Obligations.UcntCountsVisibleUpdates := by
  unfold Obligations.UcntCountsVisibleUpdates
  refine ⟨fun s u h => ⟨_, exec_imageUpdateVisible h, ucnt_showUpd_same (unpend s u) u, fun p hp => ucnt_showUpd_other (unpend s u) hp⟩, fun s p l => ?_⟩
  intro t n
  have hcount : (pget t p).ucnt = (pget s p).ucnt + bv 8 n := ucnt_foldl_showUpd p l s
  exact ⟨hcount, fun hsame hn => eq_zero_of_add_bv8_eq (hcount.symm.trans hsame) hn⟩

end Sys2Proof.Proofs
end

section
/-! What decides an output pin (R62, R68, R290, R500). -/

namespace Sys2Proof.Proofs

open Sys2Proof.Machine Sys2Proof.Laws

/-- None of rows 1 to 5 of R290 applies, which hold a pin off whatever is forced or commanded. -/
structure PinFree (s : State) (c : Nat) : Prop where
  powered : (tget {} s.nodes (c / 128)).powered = true
  configured : (tget {} s.nodes (c / 128)).configured = true
  uncut : (grp s (c / 8)).cut = false
  cutOver : (chan s c).cutWait = false
  supplied : (grp s (c / 8)).lost = false
  acknowledged : (grp s (c / 8)).ackWait = false
  restored : (grp s (c / 8)).restoreAt = none
  unlatched : (chan s c).latch = 0

/-- The pin of an output that rows 1 to 5 leave free: the force, the safe action, then configuration and command. -/
def pinDriven (s : State) (c : Nat) : Bool :=
  match forcedVal s (chPt c 1) with
  | some v => v.getLsbD 0
  | none =>
    match (chan s c).safe with
    | some v => v
    | none =>
    if (chan s c).twinOff then false
    else if s.mode.cur = .standby then
      (if flag s pTwinParallel c then flag s pTwinPrivileged c && (s.twin.standbyDrives || s.twin.proofBad.contains c) && (chan s c).cmd else flag s pChDefaultState c)
    else if (tget {} s.nodes (c / 128)).silent then (chan s c).cmd
    else if !tileAligned s (c / 128) then false
    else if effMode s ≠ .config ∧ !(chan s c).applied then false
    else if effMode s = .config then flag s pChDefaultState c
    else (chan s c).cmd

/-- Only a pin that rows 1 to 5 leave free can be on. -/
theorem pinFree_of_pinOn {s : State} {c : Nat} (h : pinOn s c = true) : PinFree s c := by
  unfold pinOn at h
  dsimp only at h
  split at h
  next => cases h
  next hpower =>
    split at h
    next => cases h
    next hcut =>
      split at h
      next => cases h
      next hsupply =>
        split at h
        next => cases h
        next hlatch =>
          simp only [Bool.not_eq_true, Bool.or_eq_false_iff, Bool.not_eq_false', Option.isSome_eq_false_iff, Option.isNone_iff_eq_none, not_not] at hpower hcut hsupply hlatch
          obtain ⟨⟨hlost, hack⟩, hrestore⟩ := hsupply
          exact ⟨hpower.1, hpower.2, hcut.1, hcut.2, hlost, hack, hrestore, hlatch⟩

theorem pinOn_of_free {s : State} {c : Nat} (h : PinFree s c) : pinOn s c = pinDriven s c := by
  unfold pinOn
  exact (if_neg (by simp [h.powered, h.configured])).trans <| (if_neg (by simp [h.uncut, h.cutOver])).trans <|
    (if_neg (by simp [h.supplied, h.acknowledged, h.restored])).trans (if_neg (not_not.mpr h.unlatched))

theorem pinDriven_of_forced {s : State} {c : Nat} {v : Word} (h : forcedVal s (chPt c 1) = some v) : pinDriven s c = v.getLsbD 0 := by
  unfold pinDriven
  rw [h]

section Unforced

variable {s : State} {c : Nat} (hf : forcedVal s (chPt c 1) = none)
include hf

theorem pinDriven_of_safe {v : Bool} (h : (chan s c).safe = some v) : pinDriven s c = v := by
  unfold pinDriven
  rw [hf, h]

/-- Outside M9 an aligned tile that is neither silent nor given up to the twin follows CONFIG's default or the applied command. -/
theorem pinDriven_of_commanded (hs : (chan s c).safe = none) (ht : (chan s c).twinOff = false) (hm : s.mode.cur ≠ .standby)
    (hq : (tget {} s.nodes (c / 128)).silent = false) (ha : tileAligned s (c / 128) = true) :
    pinDriven s c = if effMode s = .config then flag s pChDefaultState c else (chan s c).applied && (chan s c).cmd := by
  unfold pinDriven
  rw [hf, hs]
  by_cases hc : effMode s = .config
  · simp [ht, hm, hq, ha, hc]
  · cases (chan s c).applied <;> simp [ht, hm, hq, ha, hc]

end Unforced

/-- Settles O23: rows 1 to 5 by what a pin that is on implies, the rows below them by their order in `pinDriven`. -/
theorem outputPinsFollowTheirTable : Obligations.OutputPinsFollowTheirTable := by
  unfold Obligations.OutputPinsFollowTheirTable
  intro s c d g nd
  refine ⟨fun hoff => Bool.eq_false_iff.mpr fun hon => ?_, fun hp hc hcut hwait hlost hack hrest hlatch => ?_⟩
  · obtain ⟨hp, hc, hcut, hwait, hlost, hack, hrest, hlatch⟩ := pinFree_of_pinOn hon
    simp [d, g, nd, hp, hc, hcut, hwait, hlost, hack, hrest, hlatch] at hoff
  · rw [pinOn_of_free ⟨hp, hc, hcut, hwait, hlost, hack, hrest, hlatch⟩]
    refine ⟨fun v hv => pinDriven_of_forced hv, fun hf => ⟨fun v hv => pinDriven_of_safe hf hv, fun hs ht hm hq ha => ?_⟩⟩
    have hrow := pinDriven_of_commanded hf hs ht hm hq ha
    exact ⟨fun hcfg => hrow.trans (if_pos hcfg), fun hcfg => hrow.trans (if_neg hcfg)⟩

end Sys2Proof.Proofs
end

section
/-! Input windows, stations and DERIVED points (R52-R58, R65, R66). -/

namespace Sys2Proof.Proofs

open Sys2Proof.Machine Sys2Proof.Laws

/-! ### What an update leaves of the image: all but the updates that wait (R51) -/

theorem populated_forward (s : State) (k : Nat) (a : List Nat) (b : List Byte) (p : Nat) : populated (forward s k a b) p = populated s p := by
  unfold forward
  split <;> rfl

theorem putUpdate_img_frame (s : State) (t p : Nat) (v : Word) (c : BitVec 16) : ∃ l, (putUpdate s t p v c).img = { s.img with pend := l } := by
  unfold putUpdate
  split <;> exact ⟨_, rfl⟩

theorem update_img_frame (s : State) (t p : Nat) (v : Word) (c : BitVec 16) : ∃ l, (update s t p v c).img = { s.img with pend := l } := by
  unfold update
  split
  · split
    · exact putUpdate_img_frame (send s Out.seamForward 0 [t, p, v.toNat, c.toNat]) t p v c
    · exact ⟨_, rfl⟩
  · have h := putUpdate_img_frame (forward s 0 [t, p, v.toNat, c.toNat]) t p v c
    rwa [forward_img] at h

@[simp] theorem update_stations (s : State) (t p : Nat) (v : Word) (c : BitVec 16) : (update s t p v c).img.stations = s.img.stations := by
  obtain ⟨l, h⟩ := update_img_frame s t p v c
  rw [h]

@[simp] theorem updates_stations (s : State) (t : Nat) (l : List (Nat × Word × BitVec 16)) : (updates s t l).img.stations = s.img.stations :=
  foldl_keeps (fun s => s.img.stations) (fun s e => update_stations s t e.1 e.2.1 e.2.2) l s

/-- Out of M9 a populated point's update waits behind those that wait already. -/
theorem pend_update {s : State} (hm : s.mode.cur ≠ .standby) {p : Nat} (hp : populated s p = true) (t : Nat) (v : Word) (c : BitVec 16) :
    (update s t p v c).img.pend = s.img.pend ++ [⟨t, p, v, c⟩] := by
  unfold update putUpdate
  rw [if_neg hm, if_pos ((populated_forward ..).trans hp), forward_img]

/-! ### Input windows (R52, R54, R55) -/

section Windows

variable {s : State} {ce : Fin 16} {r : Release} (h : ((engine s ce).queue.take 2).find? (fun r => !r.copied) = some r)
include h

theorem exec_windowCopyComplete :
    exec (.windowCopyComplete ce) s = .next (dispatch (setEngine s ce (fun e => { e with
      queue := e.queue.map (fun x => if x.task = r.task then { x with copied := true } else x), snap := tset e.snap r.task (windowAt s r.task r.due) })) ce) := by
  show execWindowCopyComplete ce s = _
  unfold execWindowCopyComplete
  dsimp only
  rw [h]

theorem exec_windowWaitExpiry (hw : r.due + param s pTaskWindowWait r.task * 1000 ≤ s.t0) :
    exec (.windowWaitExpiry ce) s = .next (note (setEngine s ce (fun e => { e with
      queue := e.queue.map (fun x => if x.task = r.task then { x with windowLate := true } else x) })) .windowLate 0x42 r.task 0 [r.due]) := by
  show execWindowWaitExpiry ce s = _
  unfold execWindowWaitExpiry
  dsimp only
  rw [h]
  exact if_neg (Nat.not_lt.mpr hw)

end Windows

/-! ### Stations (R57, R58) -/

@[simp] theorem station_setStation_same (s : State) (k : Nat) (f : Station → Station) : station (setStation s k f) k = f (station s k) := tget_tmod_same ..

theorem station_of_stations {s t : State} (h : t.img.stations = s.img.stations) (k : Nat) : station t k = station s k := by
  unfold station
  rw [h]

@[simp] theorem station_note (s : State) (e : Ev) (i u o : Nat) (l : List Nat) (k : Nat) : station (note s e i u o l) k = station s k :=
  station_of_stations (congrArg ImageSt.stations (note_img ..)) k

@[simp] theorem canSlotPoints_stations (s : State) (c k : Nat) : (canSlotPoints s c k).img.stations = s.img.stations := updates_stations ..

theorem canEnd_stations (s : State) (c k st : Nat) : (canEnd s c k st).img.stations = s.img.stations := by
  unfold canEnd
  split
  · rfl
  · exact canSlotPoints_stations ..

theorem canEndLater_stations (s : State) (c k st : Nat) : (canEndLater s c k st).img.stations = s.img.stations := by
  unfold canEndLater
  split
  · rfl
  · exact canEnd_stations ..

theorem netLost_stations (s : State) (k : Nat) : (netLost s k).img.stations = s.img.stations := by
  unfold netLost
  dsimp only
  split
  · exact foldl_keeps (fun s => s.img.stations) (fun s i => canEndLater_stations s _ i 6) _ s
  · rfl

/-- Updates of a station's points, whatever their values are, leave the stations. -/
theorem foldl_update_stations {α : Type} (g : State → α → Nat × Word × BitVec 16) (l : List α) (s : State) :
    (l.foldl (fun s e => update s s.t0 (g s e).1 (g s e).2.1 (g s e).2.2) s).img.stations = s.img.stations :=
  foldl_keeps (fun s => s.img.stations) (fun s e => update_stations s s.t0 (g s e).1 (g s e).2.1 (g s e).2.2) l s

theorem station_goLost_st (s : State) (k : Nat) : (station (goLost s k) k).st = .lost := by
  unfold goLost
  dsimp only
  rw [station_note, station_of_stations (foldl_update_stations (fun s (e : Nat × Block × Nat) => (e.1, (pget s e.1).source, condOf 2)) _ _),
    station_of_stations (netLost_stations ..),
    station_of_stations (foldl_update_stations (fun s (e : Nat × Block × Nat) => (e.1, substVal s e, condOf 2)) _ _), station_setStation_same]

theorem img_ite_note (p : Prop) [Decidable p] (s : State) (e : Ev) (i u o : Nat) (l : List Nat) : (if p then s else note s e i u o l).img = s.img := by
  split
  · rfl
  · exact note_img ..

/-- A station's state after one of its input blocks. -/
def heardState : StnState → StnState
  | .silent => .online
  | .lost => .returning
  | st => st

theorem heardState_eq (st : StnState) : heardState st = if st = .silent then .online else if st = .lost then .returning else st := by
  cases st <;> rfl

/-- An input block has arrived and its values wait for the sample strobe. -/
def blockHeard (s : State) (k blk : Nat) (new : List (Nat × Nat × Word × BitVec 16)) : State :=
  let d := station s k
  let seen := if d.st = .lost then [blk] else if d.seen.contains blk then d.seen else d.seen ++ [blk]
  let t := setStation s k (fun d => { d with st := heardState (station s k).st, lastBlock := s.t0, seen := seen })
  { t with img := { t.img with arrived := t.img.arrived ++ new } }

theorem station_blockHeard (s : State) (k blk : Nat) (new : List (Nat × Nat × Word × BitVec 16)) :
    (station (blockHeard s k blk new) k).st = heardState (station s k).st ∧ (station (blockHeard s k blk new) k).lastBlock = s.t0 := by
  simp only [station, blockHeard, setStation, tget_tmod_same, and_self]

section Stations

variable {s : State} {g : Fin 11} {stn : BitVec 10}

section InputBlock

variable {blk : BitVec 6} {b : Block} (hb : (station s (stnKey (8 + g.val) stn.toNat)).blocks[blk.toNat]? = some b) (hi : b.input = true)
  (vals : List Word) (c : BitVec 16)
include hb hi

theorem exec_stationInputBlock :
    let k := stnKey (8 + g.val) stn.toNat
    let st := heardState (station s k).st
    let t := blockHeard s k blk.toNat ((vals.take b.count).mapIdx (fun i v => (stnNode k, b.first + i, v, c)))
    exec (.stationInputBlock g stn blk vals c) s = .next (if st = (station s k).st then t else
      note t .stationState (nodeIsland (stnNode k)) k 0 [if st = .online then 1 else 2, 0, s.t0]) := by
  show execStationInputBlock g stn blk vals c s = _
  unfold execStationInputBlock netRegion
  dsimp only
  rw [hb]
  exact if_neg (by simp [hi])

/-- A block that arrives: a SILENT station is ONLINE, a LOST one RETURNING, and the values wait for the next sample strobe. -/
theorem stationInputBlock_heard :
    let k := stnKey (8 + g.val) stn.toNat
    let d := station s k
    ∃ t, exec (.stationInputBlock g stn blk vals c) s = .next t ∧
      (station t k).st = (if d.st = .silent then .online else if d.st = .lost then .returning else d.st) ∧ (station t k).lastBlock = s.t0 ∧
      t.img.arrived = s.img.arrived ++ (vals.take b.count).mapIdx (fun i v => (stnNode k, b.first + i, v, c)) := by
  refine ⟨_, exec_stationInputBlock hb hi vals c, ?_⟩
  rw [station_of_stations (congrArg ImageSt.stations (img_ite_note ..)), img_ite_note, ← heardState_eq]
  obtain ⟨hst, hlast⟩ := station_blockHeard s (stnKey (8 + g.val) stn.toNat) blk.toNat
    ((vals.take b.count).mapIdx (fun i v => (stnNode (stnKey (8 + g.val) stn.toNat), b.first + i, v, c)))
  exact ⟨hst, hlast, rfl⟩

end InputBlock

theorem exec_stationSilent (ho : (station s (stnKey (8 + g.val) stn.toNat)).st = .online)
    (ht : (station s (stnKey (8 + g.val) stn.toNat)).lastBlock + (station s (stnKey (8 + g.val) stn.toNat)).silentNs ≤ s.t0) :
    ∃ t, exec (.stationSilent g stn) s = .next t ∧ (station t (stnKey (8 + g.val) stn.toNat)).st = .silent := by
  refine ⟨_, if_neg (not_or.mpr ⟨not_not.mpr ho, Nat.not_lt.mpr ht⟩), ?_⟩
  rw [station_note, station_of_stations (foldl_update_stations (fun s (e : Nat × Block × Nat) => (e.1, (pget s e.1).source, condOf 1)) _ _)]
  exact congrArg Station.st (station_setStation_same ..)

theorem exec_stationLost (hl : (station s (stnKey (8 + g.val) stn.toNat)).st ≠ .lost) (h0 : (station s (stnKey (8 + g.val) stn.toNat)).lostNs ≠ 0)
    (ht : (station s (stnKey (8 + g.val) stn.toNat)).lastBlock + (station s (stnKey (8 + g.val) stn.toNat)).lostNs ≤ s.t0) :
    ∃ t, exec (.stationLost g stn) s = .next t ∧ (station t (stnKey (8 + g.val) stn.toNat)).st = .lost :=
  ⟨_, if_neg (by simp [netRegion, hl, h0, ht]), station_goLost_st ..⟩

end Stations

/-! ### DERIVED points (R65, R66) -/

theorem exec_derivedRelease {s : State} {n : Half} {d : Derived} (hd : tfind s.img.derived n.toNat = some d) (hk : s.mode.cur ≠ .keep) (hb : s.mode.cur ≠ .boot)
    (hp : d.periodUs ≠ 0) (hus : s.t0 % 1000 = 0) (hph : ((s.t0 / 1000 : Int) - d.phaseUs) % d.periodUs = 0) :
    let l := d.args.map (pgetAt s s.t0)
    let v := derVal d.op l (pget s (ptid 0x1E n.toNat)).ty
    (v.2 = false ∨ fisFin f32 v.1 = true) →
      exec (.derivedRelease n) s = .next (update s (s.t0 + d.periodUs * 1000) (ptid 0x1E n.toNat) (bv 32 v.1) (derConds d.op l)) := by
  intro l v hv
  show execDerivedRelease n s = _
  unfold execDerivedRelease
  rw [hd]
  refine (if_neg ?_).trans (if_neg ?_)
  · simp only [us, Nat.cast_ofNat, hk, hb, hp, hus, hph, ne_eq, not_true_eq_false, or_self, not_false_eq_true]
  · have : (v.2 && !fisFin f32 v.1) = false := by
      rcases hv with hv | hv <;> simp [hv]
    exact Bool.eq_false_iff.mp this

/-- Settles O4: each command's rule above; at a force instant the due begins and ends are taken in their order, as the model's fold says. -/
theorem windowsStationsForcesDerived : Obligations.WindowsStationsForcesDerived := by
  unfold Obligations.WindowsStationsForcesDerived
  intro s
  exact ⟨fun ce r h => ⟨exec_windowCopyComplete h, exec_windowWaitExpiry h⟩,
    fun g stn => ⟨fun blk vals c b hb hi => stationInputBlock_heard hb hi vals c, exec_stationSilent, exec_stationLost⟩, rfl,
    fun n d hd hk hb hp hus hph => exec_derivedRelease hd hk hb hp hus hph⟩

end Sys2Proof.Proofs
end

section
/-! The point commands and TASK_TRIGGER (R52, R60-R64, R96, R546, R579). -/

namespace Sys2Proof.Proofs

open Sys2Proof.Machine Sys2Proof.Laws Sys2Proof.Safety

/-! ### What a forwarded command leaves of the points (R475, R477) -/

theorem forcedPoints_forward (s : State) (k : Nat) (a : List Nat) (b : List Byte) (sim : Bool) : forcedPoints (forward s k a b) sim = forcedPoints s sim := by
  unfold forcedPoints
  rw [forward_img]

theorem simOf_forward (s : State) (k : Nat) (a : List Nat) (b : List Byte) (p : Nat) : simOf (forward s k a b) p = simOf s p := by
  unfold simOf
  rw [forward_img]

/-! ### POINT_READ (R52, R60) -/

section Read

variable {s : State} {r : Req} (h : Runs s r 0x0105 false allModes 4 (decide (1 ≤ fld r.payload 0 2 ∧ fld r.payload 0 2 ≤ 507) && fld r.payload 2 2 == 0))
include h

theorem exec_pointRead_populated (hl : ∀ q ∈ (List.range (fld r.payload 0 2)).map (r.target.toNat + ·), hostPoint s q = true) :
    exec (.pointRead r) s = .next (finish (begun s r 0x0105) r 0x0105 false 0
      (leBytes 8 s.t0 ++ ((List.range (fld r.payload 0 2)).map (r.target.toNat + ·)).flatMap (fun q => leBytes 8 (pgetAt s s.t0 q).entry.toNat))) := by
  have hnone : ((List.range (fld r.payload 0 2)).map (r.target.toNat + ·)).find? (fun q => !hostPoint (begun s r 0x0105) q) = none :=
    List.find?_eq_none.mpr fun q hq => by
      have : hostPoint (begun s r 0x0105) q = true := hl q hq
      simp [this]
  refine congrArg Host.Outcome.next ((command_runs h _).trans ?_)
  dsimp only
  rw [hnone]
  rfl

theorem exec_pointRead_unpopulated {q : Nat} (hq : ((List.range (fld r.payload 0 2)).map (r.target.toNat + ·)).find? (fun q => !hostPoint s q) = some q) :
    exec (.pointRead r) s = .next (finish (begun s r 0x0105) r 0x0105 false 0x0401 (leBytes 4 q)) := by
  have hsome : ((List.range (fld r.payload 0 2)).map (r.target.toNat + ·)).find? (fun q => !hostPoint (begun s r 0x0105) q) = some q := hq
  refine congrArg Host.Outcome.next ((command_runs h _).trans ?_)
  dsimp only
  rw [hsome]

end Read

/-! ### POINT_WRITE (R51, R61) -/

/-- A host write to a memory variable that is not simulated is an update at its acceptance (R51). -/
theorem pend_pointWrite_of_memory {s : State} {p : Nat} (hs : simOf s p = false) (hr : 0x18 ≤ ptRegion p) (hm : s.mode.cur ≠ .standby) (hp : populated s p = true) (v : Word) :
    (pointWrite s p v).img.pend = s.img.pend ++ [⟨s.t0, p, v, 0⟩] := by
  unfold pointWrite
  rw [if_neg (Bool.eq_false_iff.mp hs), if_pos hr, pend_update hm hp]

theorem populated_of_hostPoint {s : State} {p : Nat} (h : hostPoint s p = true) : populated s p = true := (Bool.and_eq_true_iff.mp h).2

section Write

variable {s : State} {r : Req} (h : Runs s r 0x0106 true allModes 8 (fld r.payload 4 4 == 0))
include h

theorem exec_pointWrite_unpopulated (hp : hostPoint s r.target.toNat = false) : exec (.pointWrite r) s = .next (finish (begun s r 0x0106) r 0x0106 true 0x0401) :=
  congrArg Host.Outcome.next ((command_runs h _).trans (if_pos (congrArg Bool.not hp)))

variable (hp : hostPoint s r.target.toNat = true)
include hp

theorem exec_pointWrite_populated :
    exec (.pointWrite r) s = .next (if !hostWritable s r.target.toNat && !simOf s r.target.toNat then finish (begun s r 0x0106) r 0x0106 true 0x0404
      else finish (pointWrite (forward (begun s r 0x0106) 4 [0x0106, r.target.toNat, s.t0] r.payload) r.target.toNat (bv 32 (fld r.payload 0 4))) r 0x0106 true 0 (leBytes 8 s.t0)) :=
  congrArg Host.Outcome.next ((command_runs h _).trans (if_neg (Bool.eq_false_iff.mp (congrArg Bool.not hp))))

theorem exec_pointWrite_refused (hw : hostWritable s r.target.toNat = false) (hs : simOf s r.target.toNat = false) :
    exec (.pointWrite r) s = .next (finish (begun s r 0x0106) r 0x0106 true 0x0404) :=
  (exec_pointWrite_populated h hp).trans (congrArg Host.Outcome.next (if_pos (by simp [hw, hs])))

theorem exec_pointWrite_taken (hw : hostWritable s r.target.toNat = true ∨ simOf s r.target.toNat = true) :
    exec (.pointWrite r) s = .next (finish (pointWrite (forward (begun s r 0x0106) 4 [0x0106, r.target.toNat, s.t0] r.payload) r.target.toNat
      (bv 32 (fld r.payload 0 4))) r 0x0106 true 0 (leBytes 8 s.t0)) :=
  (exec_pointWrite_populated h hp).trans (congrArg Host.Outcome.next (if_neg (by rcases hw with hw | hw <;> simp [hw])))

/-- A write that a memory variable takes waits behind the updates of the image, due at its acceptance. -/
theorem exec_pointWrite_memory (hw : hostWritable s r.target.toNat = true ∨ simOf s r.target.toNat = true) (hs : simOf s r.target.toNat = false)
    (hr : 0x18 ≤ ptRegion r.target.toNat) (hm : s.mode.cur ≠ .standby) :
    ∃ t, exec (.pointWrite r) s = .next t ∧ t.img.pend = s.img.pend ++ [⟨s.t0, r.target.toNat, bv 32 (fld r.payload 0 4), 0⟩] := by
  have hpend := pend_pointWrite_of_memory (s := forward (begun s r 0x0106) 4 [0x0106, r.target.toNat, s.t0] r.payload) ((simOf_forward ..).trans hs) hr
    (by rwa [forward_mode]) ((populated_forward ..).trans (populated_of_hostPoint hp)) (bv 32 (fld r.payload 0 4))
  rw [forward_img, forward_t0] at hpend
  exact ⟨_, exec_pointWrite_taken h hp hw, (congrArg ImageSt.pend (finish_img ..)).trans hpend⟩

end Write

/-! ### POINT_FORCE and POINT_SIMULATE (R62, R63, R579) -/

/-- What both do once they have begun: `covered` tells whether the point is one that the command covers, `f` is the force or simulation that begins. -/
def forceBegins (s : State) (r : Req) (op : Nat) (covered : Bool) (f : Force) : State :=
  if !hostPoint s f.point then finish s r op true 0x0401
  else if !covered then finish s r op true 0x0404
  else if 256 ≤ ((forcedPoints s f.sim).filter (· != f.point)).length then finish s r op true 0x0305
  else finish (forceReq (forward s 4 [op, f.point, s.t0] r.payload) s.t0 true f) r op true 0

section ForceBegins

variable {s : State} {f : Force} {covered : Bool} (r : Req) (op : Nat)

theorem forceBegins_unpopulated (hp : hostPoint s f.point = false) : forceBegins s r op covered f = finish s r op true 0x0401 := if_pos (congrArg Bool.not hp)

variable (hp : hostPoint s f.point = true)
include hp

theorem forceBegins_uncovered (hc : covered = false) : forceBegins s r op covered f = finish s r op true 0x0404 := by
  unfold forceBegins
  rw [if_neg (by simp [hp]), if_pos (by simp [hc])]

variable (hc : covered = true)
include hc

theorem forceBegins_full (hn : 256 ≤ ((forcedPoints s f.sim).filter (· != f.point)).length) : forceBegins s r op covered f = finish s r op true 0x0305 := by
  unfold forceBegins
  rw [if_neg (by simp [hp]), if_neg (by simp [hc]), if_pos hn]

theorem forceBegins_img (hn : ((forcedPoints s f.sim).filter (· != f.point)).length < 256) :
    (forceBegins s r op covered f).img = { s.img with forcePend := s.img.forcePend ++ [⟨forceAt s.t0, true, f⟩] } := by
  unfold forceBegins
  rw [if_neg (by simp [hp]), if_neg (by simp [hc]), if_neg (Nat.not_le.mpr hn), finish_img]
  simp only [forceReq, forward_img]

end ForceBegins

theorem exec_pointForce {s : State} {r : Req}
    (h : Runs s r 0x0107 true ([.idle, .maint] ++ (if flag s pSysForceInRun 0 then [.run] else [])) 8 (fld r.payload 4 4 == 0)) :
    exec (.pointForce r) s = .next (forceBegins (begun s r 0x0107) r 0x0107 (forceRegion r.target.toNat) ⟨false, r.target.toNat, bv 32 (fld r.payload 0 4), 0⟩) :=
  congrArg Host.Outcome.next (command_runs h _)

theorem exec_pointSimulate {s : State} {r : Req} (h : Runs s r 0x0109 true [.idle, .maint, .test] 8
      (fld r.payload 0 4 == 0 || (ptRegion (fld r.payload 0 4) == 0x1E && populated s (fld r.payload 0 4)))) :
    exec (.pointSimulate r) s = .next (forceBegins (begun s r 0x0109) r 0x0109 (inputPoint s r.target.toNat)
      ⟨true, r.target.toNat, bv 32 (fld r.payload 4 4), fld r.payload 0 4⟩) :=
  congrArg Host.Outcome.next (command_runs h _)

/-! ### POINT_UNFORCE and POINT_UNSIMULATE (R64, R579) -/

theorem unforce_img_of_mem {s : State} {p : Nat} {sim : Bool} (h : p ∈ forcedPoints s sim) (a : Nat) :
    (unforce s a p sim).img = { s.img with forcePend := s.img.forcePend ++ [⟨forceAt a, false, ⟨sim, p, 0, 0⟩⟩] } := by
  unfold unforce
  rw [if_pos (List.contains_iff_mem.mpr h)]
  rfl

theorem unforce_of_notMem {s : State} {p : Nat} {sim : Bool} (h : p ∉ forcedPoints s sim) (a : Nat) : unforce s a p sim = s :=
  if_neg (mt List.contains_iff_mem.mp h)

theorem exec_pointUnforce {s : State} {r : Req} (h : Runs s r 0x0108 true allModes 0 true) (hp : hostPoint s r.target.toNat = true) :
    exec (.pointUnforce r) s = .next (finish (unforce (forward (begun s r 0x0108) 4 [0x0108, r.target.toNat, s.t0]) s.t0 r.target.toNat false) r 0x0108 true 0) :=
  congrArg Host.Outcome.next ((command_runs h _).trans (if_neg (Bool.eq_false_iff.mp (congrArg Bool.not hp))))

theorem exec_pointUnsimulate {s : State} {r : Req} (h : Runs s r 0x010A true allModes 0 true) (hp : hostPoint s r.target.toNat = true) :
    exec (.pointUnsimulate r) s = .next (finish (unforce (forward (begun s r 0x010A) 4 [0x010A, r.target.toNat, s.t0]) s.t0 r.target.toNat true) r 0x010A true 0) :=
  congrArg Host.Outcome.next ((command_runs h _).trans (if_neg (Bool.eq_false_iff.mp (congrArg Bool.not hp))))

/-- The image after either of them: an end waits for what is forced, and nothing changes otherwise. -/
theorem img_unforced (s : State) (r : Req) (op p : Nat) (sim : Bool) :
    let t := finish (unforce (forward (begun s r op) 4 [op, p, s.t0]) s.t0 p sim) r op true 0
    t.img.forces = s.img.forces ∧
      (p ∈ forcedPoints s sim → t.img.forcePend = s.img.forcePend ++ [⟨forceAt s.t0, false, ⟨sim, p, 0, 0⟩⟩]) ∧
      (p ∉ forcedPoints s sim → t.img.forcePend = s.img.forcePend) := by
  have hsame : forcedPoints (forward (begun s r op) 4 [op, p, s.t0]) sim = forcedPoints s sim := forcedPoints_forward ..
  intro t
  have himg : t.img = (unforce (forward (begun s r op) 4 [op, p, s.t0]) s.t0 p sim).img := finish_img ..
  rw [himg]
  by_cases hp : p ∈ forcedPoints s sim
  · rw [unforce_img_of_mem (hsame ▸ hp), forward_img]
    exact ⟨rfl, fun _ => rfl, absurd hp⟩
  · rw [unforce_of_notMem (hsame ▸ hp), forward_img]
    exact ⟨rfl, fun h => absurd h hp, fun _ => rfl⟩

/-! ### TASK_TRIGGER (R96) -/

section Trigger

variable {s : State} {r : Req} (h : Runs s r 0x010B true [.idle, .run, .hold, .maint, .safe, .update] 4
  (r.target == 0 && decide (fld r.payload 0 2 < 1024) && fld r.payload 2 2 == 0))
include h

theorem exec_taskTrigger_taken
    (hm : (task s (fld r.payload 0 2)).present = true ∧ (task s (fld r.payload 0 2)).kind = 1 ∧ flag s pTaskEnable (fld r.payload 0 2) = true) :
    exec (.taskTrigger r) s = .next (finish (takeTrig (forward (begun s r 0x010B) 1 [fld r.payload 0 2, s.t0]) (fld r.payload 0 2) s.t0) r 0x010B true 0 (leBytes 8 s.t0)) := by
  refine congrArg Host.Outcome.next ((command_runs h _).trans (if_neg ?_))
  have hb : task (begun s r 0x010B) (fld r.payload 0 2) = task s (fld r.payload 0 2) := rfl
  simp [hb, hm]

theorem exec_taskTrigger_refused
    (hm : ¬((task s (fld r.payload 0 2)).present = true ∧ (task s (fld r.payload 0 2)).kind = 1 ∧ flag s pTaskEnable (fld r.payload 0 2) = true)) :
    exec (.taskTrigger r) s = .next (finish (begun s r 0x010B) r 0x010B true 0x020B) := by
  refine congrArg Host.Outcome.next ((command_runs h _).trans (if_pos ?_))
  have hb : task (begun s r 0x010B) (fld r.payload 0 2) = task s (fld r.payload 0 2) := rfl
  rw [hb, beginCmd_flag]
  simpa [imp_iff_not_or] using hm

end Trigger

/-! ### The statement -/

/-- Settles O49: each command's outcome is the branch of its checks that the hypotheses choose; FORCE and SIMULATE share one, as do their ends. -/
theorem pointCommands : Obligations.PointCommands := by
  unfold Obligations.PointCommands
  intro s r p
  refine ⟨?read, ?write, ?force, ?simulate, ?unforce, ?unsimulate, ?trigger⟩
  case read =>
    intro n l b h
    exact ⟨exec_pointRead_populated h, fun q => exec_pointRead_unpopulated h⟩
  case write =>
    intro b h
    exact ⟨exec_pointWrite_unpopulated h, exec_pointWrite_refused h, fun hp hw => ⟨exec_pointWrite_taken h hp hw, exec_pointWrite_memory h hp hw⟩⟩
  case force =>
    intro b h
    rw [exec_pointForce h]
    refine ⟨fun hp => congrArg _ (forceBegins_unpopulated r _ hp), fun hp hc => congrArg _ (forceBegins_uncovered r _ hp hc), fun hp hc =>
      ⟨fun hn => congrArg _ (forceBegins_full r _ hp hc hn), fun hn => ⟨_, rfl, ?_⟩⟩⟩
    rw [forceBegins_img r _ hp hc hn]
    exact ⟨rfl, rfl⟩
  case simulate =>
    intro b src h
    rw [exec_pointSimulate h]
    refine ⟨fun hp => congrArg _ (forceBegins_unpopulated r _ hp), fun hp hc => congrArg _ (forceBegins_uncovered r _ hp hc), fun hp hc =>
      ⟨fun hn => congrArg _ (forceBegins_full r _ hp hc hn), fun hn => ⟨_, rfl, ?_⟩⟩⟩
    rw [forceBegins_img r _ hp hc hn]
    rfl
  case unforce =>
    intro h hp
    exact ⟨_, exec_pointUnforce h hp, img_unforced ..⟩
  case unsimulate =>
    intro h hp
    exact ⟨_, exec_pointUnsimulate h hp, img_unforced ..⟩
  case trigger =>
    intro i b may h
    exact ⟨exec_taskTrigger_taken h, exec_taskTrigger_refused h⟩

end Sys2Proof.Proofs
end

section
/-! What changes the mode (R71-R73, R361, R362). Of the operations only `enterMode` gives the device another mode: the rule of every other one says that it leaves
the mode, and the rule of a command says that its outcome is in the mode in which it began. They stand in the order of the model's files. -/

namespace Sys2Proof.Proofs

open Sys2Proof.Machine Sys2Proof.Laws Sys2Proof.Safety

/-! ### Branches, folds and outcomes -/

@[simp] theorem mode_ite (c : Prop) [Decidable c] (a b : State) : (if c then a else b).mode = if c then a.mode else b.mode := apply_ite ..

@[simp] theorem cur_ite (c : Prop) [Decidable c] (a b : ModeSt) : (if c then a else b).cur = if c then a.cur else b.cur := apply_ite ..

@[simp] theorem fst_mode_ite {β : Type} (c : Prop) [Decidable c] (a b : State × β) : (if c then a else b).1.mode = if c then a.1.mode else b.1.mode := by
  split <;> rfl

@[simp] theorem snd_mode_ite {β : Type} (c : Prop) [Decidable c] (a b : β × State) : (if c then a else b).2.mode = if c then a.2.mode else b.2.mode := by
  split <;> rfl

/-- `t` is in the mode of `s`, with the same transition pending. -/
structure SameMode (s t : State) : Prop where
  mode : t.mode = s.mode

@[simp] theorem sameMode_iff (s t : State) : SameMode s t ↔ t.mode = s.mode := ⟨SameMode.mode, SameMode.mk⟩

@[simp] theorem foldl_mode {β : Type} {f : State → β → State} (h : ∀ s b, SameMode s (f s b)) (l : List β) (s : State) : (l.foldl f s).mode = s.mode :=
  foldl_keeps State.mode (fun s b => (h s b).mode) l s

@[simp] theorem foldl_fst_mode {β γ : Type} {f : State × γ → β → State × γ} (h : ∀ s b, SameMode s.1 (f s b).1) (l : List β) (s : State × γ) :
    (l.foldl f s).1.mode = s.1.mode :=
  foldl_keeps (fun s => s.1.mode) (fun s b => (h s b).mode) l s

/-- An operation that may be refused leaves the mode of `s` where it is not. -/
def OkSameMode {α : Type} (s : State) (e : Except Nat (α × State)) : Prop := ∀ p, e = .ok p → p.2.mode = s.mode

@[simp] theorem okSameMode_error {α : Type} (s : State) (k : Nat) : OkSameMode (α := α) s (.error k) := by
  intro p h
  cases h

@[simp] theorem okSameMode_ok {α : Type} (s : State) (p : α × State) : OkSameMode s (.ok p) ↔ p.2.mode = s.mode := by simp [OkSameMode]

@[simp] theorem okSameMode_ite {α : Type} (s : State) (c : Prop) [Decidable c] (a b : Except Nat (α × State)) :
    OkSameMode s (if c then a else b) ↔ if c then OkSameMode s a else OkSameMode s b := by
  split <;> rfl

@[simp] theorem okSameMode_map {α β : Type} (s t : State) (h : t.mode = s.mode) (e : Except Nat β) (f : β → α) : OkSameMode s (e.map (fun g => (f g, t))) := by
  cases e <;> simp [Except.map, h]

/-- A command's outcome from `s` is in the mode of `s`. -/
def KeepsCur (s : State) (o : Res) : Prop := ∀ t, o = .next t → t.mode.cur = s.mode.cur

@[simp] theorem keepsCur_next (s t : State) : KeepsCur s (.next t) ↔ t.mode.cur = s.mode.cur := by simp [KeepsCur]

@[simp] theorem keepsCur_ite (s : State) (c : Prop) [Decidable c] (a b : Res) : KeepsCur s (if c then a else b) ↔ if c then KeepsCur s a else KeepsCur s b := by
  split <;> rfl

/-! ### The shared operations: tables, byte memory, CRC-32C, events, Ridge reports, parameters, the process image, mailbox responses -/

@[simp] theorem enableOff_mode (s : State) (id : Nat) : (enableOff s id).mode = s.mode := rfl
@[simp] theorem showUpd_mode (s : State) (u : Upd) : (showUpd s u).mode = s.mode := rfl

theorem command_cur {s : State} {r : Req} {op : Nat} {isC : Bool} {modes : List Mode} {len : Nat} {ok : Bool} {run : State → State}
    (h : (run (beginCmd s r op)).mode.cur = s.mode.cur) : (command s r op isC modes len ok run).mode.cur = s.mode.cur := by
  unfold command
  simp [h]

@[simp] theorem bulkCount_mode (s : State) (n : Nat) : (bulkCount s n).mode = s.mode := rfl
@[simp] theorem bulkMay_snd_mode (s : State) (n : Nat) : (bulkMay s n).2.mode = s.mode := by simp [bulkMay]

/-! ### What decides a pin, and the facets of channels, analog channels and encoders -/

@[simp] theorem chFacets_mode (s : State) (c : Nat) : (chFacets s c).mode = s.mode := by simp [chFacets]
@[simp] theorem chRefresh_mode (s : State) (c : Nat) : (chRefresh s c).mode = s.mode := by simp [chRefresh]
@[simp] theorem grpRefresh_mode (s : State) (g : Nat) : (grpRefresh s g).mode = s.mode := by simp [grpRefresh]
@[simp] theorem chFlag_mode (s : State) (c k : Nat) (v : Bool) : (chFlag s c k v).mode = s.mode := by simp [chFlag]
@[simp] theorem chanApply_mode (s : State) (c : Nat) (v : Bool) : (chanApply s c v).mode = s.mode := by simp [chanApply]

@[simp] theorem aoRefresh_mode (s : State) (a : Nat) : (aoRefresh s a).mode = s.mode := by
  unfold aoRefresh
  split <;> simp

@[simp] theorem aoFlag_mode (s : State) (a k : Nat) (v : Bool) : (aoFlag s a k v).mode = s.mode := by simp [aoFlag]
@[simp] theorem aoApply_mode (s : State) (a : Nat) (v : Word) : (aoApply s a v).mode = s.mode := by simp [aoApply]
@[simp] theorem applyDefaults_mode (s : State) (n : Nat) : (applyDefaults s n).mode = s.mode := by simp [applyDefaults]
@[simp] theorem pinApply_mode (s : State) (p : Nat) (v : Word) : (pinApply s p v).mode = s.mode := by simp [pinApply]

@[simp] theorem aiShow_mode (s : State) (a t : Nat) : (aiShow s a t).mode = s.mode := by
  unfold aiShow
  dsimp only
  split <;> simp

@[simp] theorem aiRefresh_mode (s : State) (a t : Nat) : (aiRefresh s a t).mode = s.mode := by simp [aiRefresh]
@[simp] theorem aiFlag_mode (s : State) (a k : Nat) (v : Bool) : (aiFlag s a k v).mode = s.mode := by simp [aiFlag]
@[simp] theorem encRefresh_mode (s : State) (e t : Nat) : (encRefresh s e t).mode = s.mode := rfl
@[simp] theorem fieldNow_mode (s : State) (n t : Nat) : (fieldNow s n t).mode = s.mode := by simp [fieldNow]

/-! ### What is shared of the time domains: the value of a domain, holdover, steps, anchors and the TIME points -/

@[simp] theorem askAnchor_mode (s : State) (reason : Nat) : (askAnchor s reason).mode = s.mode := rfl
@[simp] theorem timePoints_mode (s : State) (d : Nat) : (timePoints s d).mode = s.mode := by simp [timePoints]
@[simp] theorem t0Facet_mode (s : State) : (t0Facet s).mode = s.mode := by simp [t0Facet]
@[simp] theorem noteHold_mode (s : State) (d old : Nat) : (noteHold s d old).mode = s.mode := by simp [noteHold]
@[simp] theorem takeMeas_mode (s : State) (d t : Nat) (src : Int) : (takeMeas s d t src).mode = s.mode := by simp [takeMeas]
@[simp] theorem discAll_mode (s : State) : (discAll s).mode = s.mode := rfl

/-! ### Stations' frames: field mapping, CAN transmit slots, CSX output frames and egress queues -/

@[simp] theorem setCanSlot_mode (s : State) (c k : Nat) (f : CanSlot → CanSlot) : (setCanSlot s c k f).mode = s.mode := rfl
@[simp] theorem canSlotPoints_mode (s : State) (c k : Nat) : (canSlotPoints s c k).mode = s.mode := by simp [canSlotPoints]

@[simp] theorem canEnter_mode (s : State) (c k id : Nat) (data : List Byte) (stn : Option Nat) (tt : Bool) : (canEnter s c k id data stn tt).mode = s.mode := by
  unfold canEnter
  split <;> simp

@[simp] theorem canEnd_mode (s : State) (c k status : Nat) : (canEnd s c k status).mode = s.mode := by
  unfold canEnd
  split <;> simp

@[simp] theorem canEndLater_mode (s : State) (c k status : Nat) : (canEndLater s c k status).mode = s.mode := by simp [canEndLater]
@[simp] theorem ethPoints_mode (s : State) (p : Nat) : (ethPoints s p).mode = s.mode := by simp [ethPoints]
@[simp] theorem ethDrain_mode (s : State) (p : Nat) : (ethDrain s p).mode = s.mode := by simp [ethDrain]
@[simp] theorem ethEnqueue_mode (s : State) (p q key : Nat) (b : List Byte) : (ethEnqueue s p q key b).mode = s.mode := by simp [ethEnqueue]
@[simp] theorem csxSend_mode (s : State) (k bi : Nat) (b : Block) (t : Nat) (always : Bool) : (csxSend s k bi b t always).mode = s.mode := by simp [csxSend]
@[simp] theorem blockSend_mode (s : State) (k bi : Nat) (b : Block) (t : Nat) (always : Bool) : (blockSend s k bi b t always).mode = s.mode := by simp [blockSend]
@[simp] theorem netApply_mode (s : State) (t rel : Nat) (pts : List Nat) (always : Bool) : (netApply s t rel pts always).mode = s.mode := by simp [netApply]
@[simp] theorem netLost_mode (s : State) (k : Nat) : (netLost s k).mode = s.mode := by simp [netLost]
@[simp] theorem goLost_mode (s : State) (k : Nat) : (goLost s k).mode = s.mode := by simp [goLost]
@[simp] theorem canPoints_mode (s : State) (c : Nat) : (canPoints s c).mode = s.mode := by simp [canPoints]
@[simp] theorem canSync_mode (s : State) (c : Nat) : (canSync s c).mode = s.mode := by simp [canSync]
@[simp] theorem ethSync_mode (s : State) (p : Nat) : (ethSync s p).mode = s.mode := by simp [ethSync]
@[simp] theorem canTerms_mode (s : State) (n : Nat) : (canTerms s n).mode = s.mode := by simp [canTerms]

/-! ### What a sample strobe latches and an apply strobe applies, shared by every row that executes a strobe -/

@[simp] theorem gapStore_mode (s : State) (n t : Nat) (l : List (Nat × Word × BitVec 16)) : (gapStore s n t l).mode = s.mode := by simp [gapStore]
@[simp] theorem stnOnline_mode (s : State) (n t : Nat) : (stnOnline s n t).mode = s.mode := by simp [stnOnline]
@[simp] theorem doSample_mode (s : State) (n t : Nat) (late : Bool) : (doSample s n t late).mode = s.mode := by simp [doSample]
@[simp] theorem bridgeDone_mode (s : State) (p : Nat) : (bridgeDone s p).mode = s.mode := rfl

@[simp] theorem applyOne_mode (s : State) (t rel : Nat) (o : OutVal) : (applyOne s t rel o).mode = s.mode := by
  unfold applyOne
  split <;> simp

@[simp] theorem applySet_mode (s : State) (n t : Nat) (o : OutSet) : (applySet s n t o).mode = s.mode := by simp [applySet]
@[simp] theorem supersede_mode (s : State) (n : Nat) (o : OutSet) : (supersede s n o).mode = s.mode := rfl
@[simp] theorem lateSet_mode (s : State) (n t id : Nat) (exact : Bool) : (lateSet s n t id exact).mode = s.mode := by simp [lateSet]

@[simp] theorem doApply_mode (s : State) (n t id : Nat) : (doApply s n t id).mode = s.mode := by
  unfold doApply
  dsimp only
  split <;> simp

@[simp] theorem takeSet_mode (s : State) (n : Nat) (o : OutSet) : (takeSet s n o).mode = s.mode := by simp [takeSet]

/-! ### What is shared of task scheduling: the ready order, prefetch and start, the end of a release, the TASK points -/

@[simp] theorem taskPoints_mode (s : State) (i : Nat) : (taskPoints s i).mode = s.mode := by simp [taskPoints]
@[simp] theorem depthPoint_mode (s : State) (c : Nat) : (depthPoint s c).mode = s.mode := by simp [depthPoint]

@[simp] theorem startRegs_mode (s : State) (c : Nat) (r : Release) : (startRegs s c r).mode = s.mode := by
  unfold startRegs
  split <;> simp

@[simp] theorem beginRel_mode (s : State) (c : Nat) (r : Release) : (beginRel s c r).mode = s.mode := by simp [beginRel]

@[simp] theorem dispatch_mode (s : State) (c : Nat) : (dispatch s c).mode = s.mode := by
  unfold dispatch
  dsimp only
  repeat' split
  all_goals simp

@[simp] theorem sendSet_mode (s : State) (id rel at_ : Nat) (exact : Bool) (outs : List OutVal) : (sendSet s id rel at_ exact outs).mode = s.mode := by simp [sendSet]
@[simp] theorem sendApply_mode (s : State) (nodes : List Nat) (id at_ : Nat) : (sendApply s nodes id at_).mode = s.mode := rfl
@[simp] theorem doneTrigs_mode (s : State) (i t : Nat) : (doneTrigs s i t).mode = s.mode := rfl
@[simp] theorem retainStage_mode (s : State) (c prog at_ : Nat) : (retainStage s c prog at_).mode = s.mode := by simp [retainStage]

@[simp] theorem endRelease_mode (s : State) (c : Nat) (d : Bool) : (endRelease s c d).mode = s.mode := by
  unfold endRelease
  split
  · rfl
  · dsimp only
    refine (foldl_mode (fun s p => by simp) _ _).trans ?_
    simp only [taskPoints_mode, setEngine_mode, mode_ite, setTask_mode, retainStage_mode, doneTrigs_mode, sendSet_mode, sendApply_mode, ite_self]

@[simp] theorem queueRel_mode (s : State) (i t : Nat) : (queueRel s i t).mode = s.mode := by simp [queueRel]

/-! ### The Pocket's areas, records and journal -/

@[simp] theorem journalAdd_mode (s : State) (t : JTxn) : (journalAdd s t).mode = s.mode := by simp [journalAdd]
@[simp] theorem journalPut_mode (s : State) (boundary : Bool) (l : List (Nat × List Byte)) : (journalPut s boundary l).mode = s.mode := by simp [journalPut]
@[simp] theorem initData_mode (s : State) (k : Nat) : (initData s k).mode = s.mode := rfl
@[simp] theorem reloadProg_mode (s : State) (k : Nat) : (reloadProg s k).mode = s.mode := rfl
@[simp] theorem restoreProg_mode (s : State) (k : Nat) (r : RetCopy) : (restoreProg s k r).mode = s.mode := by simp [restoreProg]

/-! ### Operation slots and streams as records, Thatch's plan and effective classes, and the log states that steps and operations open -/

@[simp] theorem setOp_mode (s : State) (i : Nat) (f : OpSt → OpSt) : (setOp s i f).mode = s.mode := rfl
@[simp] theorem syncLogs_mode (s : State) (p : Nat) : (syncLogs s p).mode = s.mode := rfl
@[simp] theorem spanBoundary_mode (s : State) (k : Nat) : (spanBoundary s k).mode = s.mode := by simp [spanBoundary]

@[simp] theorem opBoundary_mode (s : State) (o : OpSt) : (opBoundary s o).mode = s.mode := by
  unfold opBoundary
  split <;> simp

/-! ### The operation tracker: handles, admission, checkpoints, Pocket records, ends and their points -/

@[simp] theorem opPoints_mode (s : State) (i : Nat) : (opPoints s i).mode = s.mode := by simp [opPoints]
@[simp] theorem trackPoints_mode (s : State) : (trackPoints s).mode = s.mode := by simp [trackPoints]
@[simp] theorem opState_mode (s : State) (i : Nat) : (opState s i).mode = s.mode := by simp [opState]
@[simp] theorem opCommit_mode (s : State) (boundary : Bool) (ops : List (Nat × Bool)) (extra : List (Nat × List Byte)) :
    (opCommit s boundary ops extra).mode = s.mode := by simp [opCommit]

@[simp] theorem opAdmit_okSameMode (s : State) (kind owner rule cls parent detail start : Nat) (data : List Nat) (boundary : Bool) :
    OkSameMode s (opAdmit s kind owner rule cls parent detail start data boundary) := by
  unfold opAdmit
  dsimp only
  repeat' split
  all_goals simp

@[simp] theorem opRefuse_mode (s : State) (owner status : Nat) : (opRefuse s owner status).mode = s.mode := by simp [opRefuse]

@[simp] theorem opEnd_mode (s : State) (h status : Nat) (commit : Bool) : (opEnd s h status commit).mode = s.mode := by
  unfold opEnd
  split <;> simp

@[simp] theorem opCkpt_mode (s : State) (i t : Nat) : (opCkpt s i t).mode = s.mode := by simp [opCkpt]

@[simp] theorem opPark_mode (s : State) (h : Nat) : (opPark s h).mode = s.mode := by
  unfold opPark
  split <;> simp

@[simp] theorem execJournalTransaction_keepsCur (s : State) : KeepsCur s (execJournalTransaction s) := by
  unfold execJournalTransaction
  split <;> simp

@[simp] theorem execJournalCommit_keepsCur (s : State) : KeepsCur s (execJournalCommit s) := by
  unfold execJournalCommit
  split <;> simp

/-! ### The tile's axes: figures, facets, current, stops, keep records, limit inputs -/

@[simp] theorem keepCommit_mode (s : State) (x : Nat) : (keepCommit s x).mode = s.mode := by simp [keepCommit]
@[simp] theorem energise_mode (s : State) (x : Nat) : (energise s x).mode = s.mode := by simp [energise]
@[simp] theorem deEnergise_mode (s : State) (x : Nat) : (deEnergise s x).mode = s.mode := by simp [deEnergise]
@[simp] theorem driverOff_mode (s : State) (x : Nat) : (driverOff s x).mode = s.mode := by simp [driverOff]
@[simp] theorem axisRest_mode (s : State) (x : Nat) (after : Nat) : (axisRest s x after).mode = s.mode := by simp [axisRest]

@[simp] theorem hardNow_mode (s : State) (x a : Nat) : (tileStop.hardNow s x a).mode = s.mode := by
  unfold tileStop.hardNow
  simp

@[simp] theorem tileStop_mode (s : State) (x : Nat) (hard : Bool) (after : Nat) (A J : Rat) : (tileStop s x hard after A J).mode = s.mode := by
  unfold tileStop
  dsimp only
  split
  · simp
  · split <;> simp

@[simp] theorem tailStop_mode (s : State) (x : Nat) : (tailStop s x).mode = s.mode := by simp [tailStop]
@[simp] theorem paramStop_mode (s : State) (x : Nat) (hard : Bool) (after : Nat) : (paramStop s x hard after).mode = s.mode := by simp [paramStop]
@[simp] theorem setLim_mode (s : State) (x k : Nat) (f : LimSt → LimSt) : (setLim s x k f).mode = s.mode := by simp [setLim]
@[simp] theorem axisRawEdge_mode (s : State) (ch : Nat) : (axisRawEdge s ch).mode = s.mode := by simp [axisRawEdge]
@[simp] theorem axisFiltered_mode (s : State) (ch : Nat) (level bad : Bool) : (axisFiltered s ch level bad).mode = s.mode := by simp [axisFiltered]
@[simp] theorem keepLoad_mode (s : State) (x : Nat) : (keepLoad s x).mode = s.mode := by simp [keepLoad]

/-! ### The control laws of the ROM library and the frame around them -/

@[simp] theorem loopPoints_mode (s : State) (i t : Nat) (spW : Word) (e f : Word) (outCond pvCond : BitVec 16) :
    (loopPoints s i t spW e f outCond pvCond).mode = s.mode := by simp [loopPoints]
@[simp] theorem loopStatePoint_mode (s : State) (i t : Nat) : (loopStatePoint s i t).mode = s.mode := by simp [loopStatePoint]

@[simp] theorem abortProfile_mode (s : State) (i : Nat) : (abortProfile s i).mode = s.mode := by
  unfold abortProfile
  split <;> simp

@[simp] theorem abortTune_mode (s : State) (i reason : Nat) : (abortTune s i reason).mode = s.mode := by
  unfold abortTune
  split <;> simp

/-! ### Parameter values, their checks and when an accepted SET takes effect -/

@[simp] theorem trial_mode (s : State) (code inst v : Nat) : (trial s code inst v).mode = s.mode := rfl

@[simp] theorem applySet'_fst_mode (s : State) (scope id : Nat) (v : DWord) (remove : Bool) : (applySet' s scope id v remove).1.mode = s.mode := by
  unfold applySet'
  dsimp only
  split
  · simp
  · split <;> simp

@[simp] theorem doSet_fst_mode (s : State) (mb transport tag scope id : Nat) (v : DWord) (remove : Bool) :
    (doSet s mb transport tag scope id v remove).1.mode = s.mode := by simp [doSet]

/-! ### The process image: visibility, input windows, stations, forces and DERIVED points -/

@[simp] theorem execImageUpdateVisible_keepsCur (s : State) : KeepsCur s (execImageUpdateVisible s) := by
  unfold execImageUpdateVisible
  split <;> simp

@[simp] theorem execWindowCopyComplete_keepsCur (ce : Fin 16) (s : State) : KeepsCur s (execWindowCopyComplete ce s) := by
  unfold execWindowCopyComplete
  dsimp only
  split <;> simp

@[simp] theorem execWindowWaitExpiry_keepsCur (ce : Fin 16) (s : State) : KeepsCur s (execWindowWaitExpiry ce s) := by
  unfold execWindowWaitExpiry
  dsimp only
  split <;> simp

@[simp] theorem execStationInputBlock_keepsCur (region : Fin 11) (stn : BitVec 10) (blk : BitVec 6) (vals : List Word) (conds : BitVec 16) (s : State) :
    KeepsCur s (execStationInputBlock region stn blk vals conds s) := by
  unfold execStationInputBlock
  dsimp only
  split <;> simp

@[simp] theorem execStationSilent_keepsCur (region : Fin 11) (stn : BitVec 10) (s : State) : KeepsCur s (execStationSilent region stn s) := by simp [execStationSilent]
@[simp] theorem execStationLost_keepsCur (region : Fin 11) (stn : BitVec 10) (s : State) : KeepsCur s (execStationLost region stn s) := by simp [execStationLost]

@[simp] theorem forceStep_mode (s : State) (f : ForcePend) : (forceStep s f).mode = s.mode := by
  unfold forceStep
  dsimp only
  split <;> simp

@[simp] theorem execForceInstant_keepsCur (s : State) : KeepsCur s (execForceInstant s) := by simp [execForceInstant]

@[simp] theorem execDerivedRelease_keepsCur (n : Half) (s : State) : KeepsCur s (execDerivedRelease n s) := by
  unfold execDerivedRelease
  split <;> simp

/-! ### Recipe streams: recipe images, the logic of one stream release, pauses, aborts, parks -/

@[simp] theorem streamPoints_mode (s : State) (k : Nat) : (streamPoints s k).mode = s.mode := by simp [streamPoints]
@[simp] theorem streamOut_mode (s : State) (c : Nat) (l : List OutVal) : (streamOut s c l).mode = s.mode := rfl
@[simp] theorem evalBlocks_fst_mode (s : State) (k t key : Nat) (l : List RBlock) : (evalBlocks s k t key l).1.mode = s.mode := by simp [evalBlocks]

/-- A state that an operation answers where it is not refused is in the mode of `s`. -/
def OkMode (s : State) (e : Except Nat State) : Prop := ∀ t, e = .ok t → t.mode = s.mode

theorem okSameMode_map_pair {s : State} {e : Except Nat State} (h : OkMode s e) (n : Nat) : OkSameMode s (e.map (fun t => (n, t))) := by
  cases e with
  | error k => exact okSameMode_error s k
  | ok t => exact (okSameMode_ok ..).mpr (h t rfl)

theorem okMode_map_snd {s t : State} {e : Except Nat (Nat × State)} (h : OkSameMode t e) (ht : t.mode = s.mode) : OkMode s (e.map (·.2)) := by
  cases e with
  | error k => intro u hu; cases hu
  | ok p =>
    rintro u ⟨⟩
    exact (h p rfl).trans ht

@[simp] theorem admitStep_okSameMode (s : State) (k step t start : Nat) : OkSameMode s (admitStep s k step t start) := by
  unfold admitStep
  dsimp only
  split
  · simp
  · next i u heq =>
    have hu : u.mode = s.mode := opAdmit_okSameMode s _ _ _ _ _ _ _ _ _ _ heq
    refine okSameMode_map_pair (List.foldlRecOn (motive := OkMode s) _ _ ?_ fun e he b _ => ?_) i
    · rintro v ⟨⟩
      exact hu
    · cases e with
      | error k => exact he
      | ok v => exact okMode_map_snd (opAdmit_okSameMode v _ _ _ _ _ _ _ _ _) (he v rfl)

@[simp] theorem pauseAt_mode (s : State) (k next reason : Nat) : (pauseAt s k next reason).mode = s.mode := by simp [pauseAt]

@[simp] theorem enterRaw_fst_mode (s : State) (c k step t : Nat) (ended : Option (Nat × Nat)) (pz : Bool) : (enterRaw s c k step t ended pz).1.mode = s.mode := by
  unfold enterRaw
  dsimp only
  split
  · cases ended <;> simp
  · next i u heq =>
    have hu : u.mode = s.mode := admitStep_okSameMode s k step t _ _ heq
    cases ended <;> simp [hu]

@[simp] theorem endSubs_mode (s : State) (h : Nat) (abort : Bool) : (endSubs s h abort).mode = s.mode := by simp [endSubs]
@[simp] theorem finishStream_mode (s : State) (k st : Nat) : (finishStream s k st).mode = s.mode := by simp [finishStream]
@[simp] theorem stepAborts_fst_mode (s : State) (k t : Nat) : (stepAborts s k t).1.mode = s.mode := by simp [stepAborts]
@[simp] theorem stepCond_fst_mode (s : State) (k t : Nat) : (stepCond s k t).1.mode = s.mode := by simp [stepCond]
@[simp] theorem vseqStep_mode (s : State) (c i t : Nat) (d : StreamSt) (P : Nat) : (vseqStep s c i t d P).mode = s.mode := by simp [vseqStep]
@[simp] theorem vseqSteps_mode (s : State) (c k t : Nat) : (vseqSteps s c k t).mode = s.mode := by simp [vseqSteps]
@[simp] theorem onEntry_fst_mode (s : State) (c k t : Nat) : (onEntry s c k t).1.mode = s.mode := by simp [onEntry]
@[simp] theorem boundaryCkpts_mode (s : State) (k t : Nat) : (boundaryCkpts s k t).mode = s.mode := by simp [boundaryCkpts]
@[simp] theorem abortAgain_mode (s : State) (k : Nat) : (abortAgain s k).mode = s.mode := by simp [abortAgain]
@[simp] theorem abortStream_mode (s : State) (c k t status : Nat) : (abortStream s c k t status).mode = s.mode := by simp [abortStream]
@[simp] theorem enterStep_mode (s : State) (c k step t : Nat) (ended : Option (Nat × Nat)) : (enterStep s c k step t ended).mode = s.mode := by simp [enterStep]
@[simp] theorem leaveStep_mode (s : State) (c k t next status : Nat) : (leaveStep s c k t next status).mode = s.mode := by simp [leaveStep]
@[simp] theorem handshakeStep_fst_mode (s : State) (c i t : Nat) (pl : List Byte) : (handshakeStep s c i t pl).1.mode = s.mode := by simp [handshakeStep]
@[simp] theorem subSteps_fst_mode (s : State) (c k t : Nat) : (subSteps s c k t).1.mode = s.mode := by simp [subSteps]
@[simp] theorem noteLate_mode (s : State) (k t prev due step : Nat) : (noteLate s k t prev due step).mode = s.mode := by simp [noteLate]
@[simp] theorem stepRelease_mode (s : State) (c k t prev : Nat) : (stepRelease s c k t prev).mode = s.mode := by simp [stepRelease]

@[simp] theorem streamAct_mode (s : State) (c k t prev : Nat) : (streamAct s c k t prev).mode = s.mode := by
  unfold streamAct
  dsimp only
  repeat' split
  all_goals simp

@[simp] theorem streamRelease_mode (s : State) (c k t : Nat) : (streamRelease s c k t).mode = s.mode := by simp [streamRelease]

@[simp] theorem endStream_mode (s : State) (c : Nat) : (endStream s c).mode = s.mode := by
  unfold endStream
  split
  · rfl
  · split
    · rfl
    · split <;> simp

@[simp] theorem execHandshakeTimeout_keepsCur (k : Fin 16) (s : State) : KeepsCur s (execHandshakeTimeout k s) := by
  unfold execHandshakeTimeout
  dsimp only
  split <;> simp

@[simp] theorem execDrainDeadline_keepsCur (k : Fin 16) (s : State) : KeepsCur s (execDrainDeadline k s) := by
  unfold execDrainDeadline
  dsimp only
  split <;> simp

@[simp] theorem abortNow_mode (s : State) (k : Nat) : (abortNow s k).mode = s.mode := by simp [abortNow]
@[simp] theorem parkOps_mode (s : State) (k : Nat) : (parkOps s k).mode = s.mode := by simp [parkOps]
@[simp] theorem parkStream_mode (s : State) (k : Nat) : (parkStream s k).mode = s.mode := by simp [parkStream]

/-! ### Image headers, the Deck's sections, and what a Deck puts into the machine -/

@[simp] theorem commitHistory_mode (old new : State) : (commitHistory old new).mode = new.mode := by
  unfold commitHistory
  dsimp only
  split
  · rfl
  · exact note_mode ..

@[simp] theorem useDeck_mode (s : State) (deck : List Byte) (imgs : Tbl (List Byte)) : (useDeck s deck imgs).mode = s.mode :=
  commitHistory_mode s _

@[simp] theorem loadBlocks_mode (s : State) (i : Nat) : (loadBlocks s i).mode = s.mode := by simp [loadBlocks]
@[simp] theorem loadLaws_mode (s : State) (le : Nat) : (loadLaws s le).mode = s.mode := by simp [loadLaws]

@[simp] theorem pocketHeader_mode (s : State) (l : List (Nat × List Byte)) : (pocketHeader s l).mode = s.mode := by
  rw [pocketHeader, setPocket_mode]

/-! ### Entering a mode: Shingle change, visibility, and what each mode does to outputs, forces, streams and programs -/

@[simp] theorem refreshOuts_mode (s : State) : (refreshOuts s).mode = s.mode := by simp [refreshOuts]
@[simp] theorem pendMode_fst_cur (s : State) (dest : Mode) (trigger : Nat) (reply : Option (Nat × Nat)) :
    (pendMode s dest trigger reply).1.mode.cur = s.mode.cur := by simp [pendMode]
@[simp] theorem exchReport_mode (s : State) (x : ExchSt) (r : ExchRep) : (exchReport s x r).mode = s.mode := by simp [exchReport]

@[simp] theorem abandonExch_mode (s : State) : (abandonExch s).mode = s.mode := by
  unfold abandonExch
  split <;> simp

/-! ### The Ridge: fault codes and reactions, permits, latches, the fault record and the RIDGE points -/

@[simp] theorem ridgePoints_mode (s : State) : (ridgePoints s).mode = s.mode := by simp [ridgePoints]
@[simp] theorem putRecord_mode (s : State) (f : FaultRecord → FaultRecord) : (putRecord s f).mode = s.mode := rfl
@[simp] theorem causeEnd_mode (s : State) (p : Latch → Bool) : (causeEnd s p).mode = s.mode := rfl
@[simp] theorem noteRelease_mode (s : State) : (noteRelease s).mode = s.mode := by simp [noteRelease]
@[simp] theorem dropRelatched_mode (s : State) : (dropRelatched s).mode = s.mode := by simp [dropRelatched]
@[simp] theorem safeReset_cur (s : State) (r : Req) (op : Nat) : (safeReset s r op).mode.cur = s.mode.cur := by simp [safeReset]

@[simp] theorem elemResult_mode (s : State) (g e : Nat) (passed : Bool) : (elemResult s g e passed).mode = s.mode := by
  unfold elemResult
  dsimp only
  split <;> simp

/-! ### The event recorder: records, coalescing, commits, the journal, anchors, faults, clears -/

@[simp] theorem putAnchor_mode (s : State) (seq : Word) : (putAnchor s seq).mode = s.mode := by
  unfold putAnchor
  split
  · rfl
  · rw [setRec_mode]

@[simp] theorem createRec_mode (s : State) (e : Event) : (createRec s e).mode = s.mode := by
  unfold createRec
  split <;> simp

@[simp] theorem execEventRecordCreate_keepsCur (s : State) : KeepsCur s (execEventRecordCreate s) := by
  unfold execEventRecordCreate
  split <;> simp

@[simp] theorem execCoalesceWindowEnd_keepsCur (s : State) : KeepsCur s (execCoalesceWindowEnd s) := by
  unfold execCoalesceWindowEnd
  split <;> simp

@[simp] theorem commitRec_mode (s : State) (x : EvRec) : (commitRec s x).mode = s.mode := by
  unfold commitRec
  dsimp only
  split <;> simp

@[simp] theorem execRecordCommit_keepsCur (s : State) : KeepsCur s (execRecordCommit s) := by
  unfold execRecordCommit
  split <;> simp

@[simp] theorem execJournalSectorReclaim_keepsCur (s : State) : KeepsCur s (execJournalSectorReclaim s) := by
  unfold execJournalSectorReclaim
  dsimp only
  repeat' split
  all_goals simp

@[simp] theorem putLastWord_mode (s : State) (fault : Option (Nat × Nat)) : (putLastWord s fault).mode = s.mode := rfl
@[simp] theorem execRecorderFault_keepsCur (code : Fin 4) (addr : Word) (s : State) : KeepsCur s (execRecorderFault code addr s) := by simp [execRecorderFault]

@[simp] theorem execEvtRead_keepsCur (r : Req) (s : State) : KeepsCur s (execEvtRead r s) := by
  refine (keepsCur_next ..).mpr (command_cur ?_)
  dsimp only
  repeat' split
  all_goals simp

@[simp] theorem execEvtStatusGet_keepsCur (r : Req) (s : State) : KeepsCur s (execEvtStatusGet r s) := by
  refine (keepsCur_next ..).mpr (command_cur ?_)
  simp

@[simp] theorem bulkPut_mode (s : State) (off : Nat) (b : List Byte) : (bulkPut s off b).mode = s.mode := rfl

@[simp] theorem execEvtClassesGet_keepsCur (r : Req) (s : State) : KeepsCur s (execEvtClassesGet r s) := by
  refine (keepsCur_next ..).mpr (command_cur ?_)
  simp

@[simp] theorem execEvtAnchorsGet_keepsCur (r : Req) (s : State) : KeepsCur s (execEvtAnchorsGet r s) := by
  refine (keepsCur_next ..).mpr (command_cur ?_)
  dsimp only
  split <;> simp

@[simp] theorem execEvtSecretSet_keepsCur (r : Req) (s : State) : KeepsCur s (execEvtSecretSet r s) := by
  refine (keepsCur_next ..).mpr (command_cur ?_)
  split <;> simp

@[simp] theorem execEvtClearChallenge_keepsCur (r : Req) (s : State) : KeepsCur s (execEvtClearChallenge r s) := by
  refine (keepsCur_next ..).mpr (command_cur ?_)
  dsimp only
  repeat' split
  all_goals simp

@[simp] theorem clearFailed_mode (s : State) (r : Req) : (clearFailed s r).mode = s.mode := by simp [clearFailed]

@[simp] theorem execEvtClear_keepsCur (r : Req) (s : State) : KeepsCur s (execEvtClear r s) := by
  refine (keepsCur_next ..).mpr (command_cur ?_)
  dsimp only
  repeat' split
  all_goals simp

/-! ### Capture units and the trigger bus -/

@[simp] theorem acqPoints_mode (s : State) (u : Nat) : (acqPoints s u).mode = s.mode := updates_mode ..
@[simp] theorem acqArm_mode (s : State) (u : Nat) (keepPool : Bool) : (acqArm s u keepPool).mode = s.mode := by simp [acqArm]
@[simp] theorem acqDisable_mode (s : State) (u st : Nat) : (acqDisable s u st).mode = s.mode := by simp [acqDisable]
@[simp] theorem acqSync_mode (s : State) (u : Nat) : (acqSync s u).mode = s.mode := by simp [acqSync]

@[simp] theorem acqClose_mode (s : State) (u stop : Nat) (more : BitVec 16) : (acqClose s u stop more).mode = s.mode := by
  unfold acqClose
  dsimp only
  split <;> simp

@[simp] theorem lineTasks_mode (s : State) (n : Nat) (rise : Bool) (t : Nat) : (lineTasks s n rise t).mode = s.mode := rfl
@[simp] theorem acqDrive_mode (s : State) (u t : Nat) : (acqDrive s u t).mode = s.mode := by simp [acqDrive]
@[simp] theorem acqOpen_mode (s : State) (u t kind : Nat) (fl : BitVec 16) : (acqOpen s u t kind fl).mode = s.mode := by simp [acqOpen]
@[simp] theorem acqMiss_mode (s : State) (u t : Nat) : (acqMiss s u t).mode = s.mode := by simp [acqMiss]
@[simp] theorem holdoffEnd_mode (s : State) (u : Nat) : (holdoffEnd s u).mode = s.mode := by simp [holdoffEnd]
@[simp] theorem switchDone_mode (s : State) (u : Nat) : (switchDone s u).mode = s.mode := by simp [switchDone]

@[simp] theorem acqTrigger_mode (k : Nat) (s : State) (u t kind : Nat) (fl : BitVec 16) : (acqTrigger k s u t kind fl).mode = s.mode := by
  induction k generalizing s u t kind fl with
  | zero => rfl
  | succ k ih => 
    unfold acqTrigger
    dsimp only
    repeat' split
    all_goals simp [ih]

@[simp] theorem execAcqTriggerEvent_keepsCur (u : Fin 32) (t : DWord) (v : Word) (s : State) : KeepsCur s (execAcqTriggerEvent u t v s) := by simp [execAcqTriggerEvent]
@[simp] theorem execAcqAutoTimeout_keepsCur (u : Fin 32) (s : State) : KeepsCur s (execAcqAutoTimeout u s) := by simp [execAcqAutoTimeout]
@[simp] theorem acqPut_mode (s : State) (u : Nat) (x : AcqItem) : (acqPut s u x).mode = s.mode := rfl

@[simp] theorem acqFrameIn_mode (s : State) (u t : Nat) (vals : List Word) (raw : List Byte) : (acqFrameIn s u t vals raw).mode = s.mode := by
  unfold acqFrameIn
  dsimp only
  repeat' split
  all_goals simp

@[simp] theorem acqChangeIn_mode (s : State) (u t : Nat) (vals : List (Word × Nat)) : (acqChangeIn s u t vals).mode = s.mode := by
  unfold acqChangeIn
  refine foldl_keeps State.mode (fun s x => ?_) _ _
  dsimp only
  split
  · rw [setAcq_mode]
  · split <;> simp

@[simp] theorem execCaptureSample_keepsCur (u : Fin 32) (t : DWord) (vals : List Word) (s : State) : KeepsCur s (execCaptureSample u t vals s) := by
  unfold execCaptureSample
  dsimp only
  split
  · simp
  · split <;> simp

@[simp] theorem execAcqGap_keepsCur (u : Fin 32) (on : Bool) (s : State) : KeepsCur s (execAcqGap u on s) := by
  unfold execAcqGap
  dsimp only
  repeat' split
  all_goals simp

@[simp] theorem acqFinish_mode (s : State) (u stop : Nat) (fl : BitVec 16) : (acqFinish s u stop fl).mode = s.mode := by simp [acqFinish]

@[simp] theorem execAcqRecordEnd_keepsCur (u : Fin 32) (s : State) : KeepsCur s (execAcqRecordEnd u s) := by
  unfold execAcqRecordEnd
  dsimp only
  split <;> simp

@[simp] theorem execAcqHoldoffEnd_keepsCur (u : Fin 32) (s : State) : KeepsCur s (execAcqHoldoffEnd u s) := by simp [execAcqHoldoffEnd]

@[simp] theorem execAcqDisableDeadline_keepsCur (u : Fin 32) (s : State) : KeepsCur s (execAcqDisableDeadline u s) := by
  unfold execAcqDisableDeadline
  dsimp only
  split <;> simp

@[simp] theorem lineFire_mode (s : State) (n t : Nat) : (lineFire s n t).mode = s.mode := by simp [lineFire]
@[simp] theorem drivePulse_mode (s : State) (n t : Nat) : (drivePulse s n t).mode = s.mode := rfl

@[simp] theorem execTrgPulseDrive_keepsCur (line : Fin 4) (s : State) : KeepsCur s (execTrgPulseDrive line s) := by
  unfold execTrgPulseDrive
  dsimp only
  split
  · simp
  · split <;> simp

@[simp] theorem execTrgEdgeReceive_keepsCur (line : Fin 4) (tag : DWord) (rise : Bool) (s : State) : KeepsCur s (execTrgEdgeReceive line tag rise s) := by
  unfold execTrgEdgeReceive
  dsimp only
  repeat' split
  all_goals simp

@[simp] theorem execTrgEcho_keepsCur (line : Fin 4) (s : State) : KeepsCur s (execTrgEcho line s) := by
  unfold execTrgEcho
  dsimp only
  split <;> simp

@[simp] theorem execNoEcho_keepsCur (line : Fin 4) (s : State) : KeepsCur s (execNoEcho line s) := by
  unfold execNoEcho
  split <;> simp

@[simp] theorem eachUnit_mode {f : State → Nat → State} (h : ∀ s u, SameMode s (f s u)) (s : State) (mask : Nat) : (eachUnit s mask f).mode = s.mode := by
  unfold eachUnit
  refine foldl_keeps State.mode (fun s u => ?_) _ _
  split
  · exact (h s u).mode
  · rfl

@[simp] theorem execAcqArm_keepsCur (r : Req) (s : State) : KeepsCur s (execAcqArm r s) := by
  refine (keepsCur_next ..).mpr (command_cur ?_)
  simp

@[simp] theorem execAcqTrigger_keepsCur (r : Req) (s : State) : KeepsCur s (execAcqTrigger r s) := by
  refine (keepsCur_next ..).mpr (command_cur ?_)
  simp

@[simp] theorem execAcqStop_keepsCur (r : Req) (s : State) : KeepsCur s (execAcqStop r s) := by
  refine (keepsCur_next ..).mpr (command_cur ?_)
  simp

@[simp] theorem execAcqRead_keepsCur (r : Req) (s : State) : KeepsCur s (execAcqRead r s) := by
  refine (keepsCur_next ..).mpr (command_cur ?_)
  dsimp only
  repeat' split
  all_goals simp

@[simp] theorem execAcqRelease_keepsCur (r : Req) (s : State) : KeepsCur s (execAcqRelease r s) := by
  refine (keepsCur_next ..).mpr (command_cur ?_)
  simp

@[simp] theorem execTrgCalibrate_keepsCur (r : Req) (s : State) : KeepsCur s (execTrgCalibrate r s) := by
  refine (keepsCur_next ..).mpr (command_cur ?_)
  simp

/-! ### Analog inputs, analog outputs and encoders: conversions, flags, self-tests, counts -/

@[simp] theorem aiConvert_mode (s : State) (a : Nat) (counts : Int) (x : Word) (lim : Int) : (aiConvert s a counts x lim).mode = s.mode := by simp [aiConvert]
@[simp] theorem execSarConversionEnd_keepsCur (a : BitVec 7) (counts : BitVec 16) (x : Word) (s : State) :
    KeepsCur s (execSarConversionEnd a counts x s) := by simp [execSarConversionEnd]
@[simp] theorem execSigmaDeltaConversionEnd_keepsCur (a : BitVec 7) (counts : BitVec 24) (x : Word) (isOpen off : Bool) (s : State) :
    KeepsCur s (execSigmaDeltaConversionEnd a counts x isOpen off s) := by simp [execSigmaDeltaConversionEnd]

@[simp] theorem execAiFlagTimer_keepsCur (a : BitVec 7) (k : Fin 7) (s : State) : KeepsCur s (execAiFlagTimer a k s) := by
  unfold execAiFlagTimer
  split <;> simp

@[simp] theorem execAiShuntReclose_keepsCur (a : BitVec 7) (ma : Word) (s : State) : KeepsCur s (execAiShuntReclose a ma s) := by simp [execAiShuntReclose]
@[simp] theorem execSarSelftest_keepsCur (k : Fin 16) (good : Bool) (s : State) : KeepsCur s (execSarSelftest k good s) := by simp [execSarSelftest]

@[simp] theorem execAoSelftest_keepsCur (a : Fin 32) (meas : Word) (s : State) : KeepsCur s (execAoSelftest a meas s) := by
  unfold execAoSelftest
  dsimp only
  split <;> simp

@[simp] theorem execSelftestClear_keepsCur (unit : Fin 160) (s : State) : KeepsCur s (execSelftestClear unit s) := by simp [execSelftestClear]
@[simp] theorem execAoFlagTimer_keepsCur (a : Fin 32) (on : Bool) (s : State) : KeepsCur s (execAoFlagTimer a on s) := by simp [execAoFlagTimer]
@[simp] theorem encUnref_mode (s : State) (e : Nat) : (encUnref s e).mode = s.mode := by simp [encUnref]
@[simp] theorem encFlag_mode (s : State) (e k : Nat) (v : Bool) : (encFlag s e k v).mode = s.mode := by simp [encFlag]
@[simp] theorem execEncLineChange_keepsCur (e : Fin 16) (a b : Bool) (s : State) : KeepsCur s (execEncLineChange e a b s) := by simp [execEncLineChange]

@[simp] theorem execEncIndex_keepsCur (e : Fin 16) (s : State) : KeepsCur s (execEncIndex e s) := by
  unfold execEncIndex
  dsimp only
  repeat' split
  all_goals simp

@[simp] theorem execEncLineFault_keepsCur (e : Fin 16) (on : Bool) (s : State) : KeepsCur s (execEncLineFault e on s) := by simp [execEncLineFault]
@[simp] theorem execLineFaultClear_keepsCur (e : Fin 16) (s : State) : KeepsCur s (execLineFaultClear e s) := by simp [execLineFaultClear]

@[simp] theorem execEncVelocityTimeout_keepsCur (e : Fin 16) (s : State) : KeepsCur s (execEncVelocityTimeout e s) := by
  unfold execEncVelocityTimeout
  split <;> simp

/-! ### What a tile does with its axes: batches, segments, microsteps, limits, the disable deadline -/

@[simp] theorem raiseCurrent_mode (s : State) (x : Nat) : (raiseCurrent s x).mode = s.mode := by simp [raiseCurrent]
@[simp] theorem takeBatch_mode (s : State) (b : Batch) : (takeBatch s b).mode = s.mode := by simp [takeBatch]

@[simp] theorem execSegmentBatchReceive_keepsCur (tile : Fin 4) (s : State) : KeepsCur s (execSegmentBatchReceive tile s) := by
  unfold execSegmentBatchReceive
  split <;> simp

@[simp] theorem execSegmentStart_keepsCur (ax : Fin 32) (s : State) : KeepsCur s (execSegmentStart ax s) := by
  unfold execSegmentStart
  dsimp only
  split
  · simp
  · split <;> simp

@[simp] theorem meanTick_mode (s : State) (x : Nat) : (execMicrostepUpdate.meanTick s x).mode = s.mode := by
  unfold execMicrostepUpdate.meanTick
  dsimp only
  repeat' split
  all_goals simp

@[simp] theorem execMicrostepUpdate_keepsCur (ax : Fin 32) (s : State) : KeepsCur s (execMicrostepUpdate ax s) := by simp [execMicrostepUpdate]

@[simp] theorem execStopComplete_keepsCur (ax : Fin 32) (s : State) : KeepsCur s (execStopComplete ax s) := by
  unfold execStopComplete
  dsimp only
  split <;> simp

@[simp] theorem execLimitLatch_keepsCur (ax : Fin 32) (lim : Fin 2) (s : State) : KeepsCur s (execLimitLatch ax lim s) := by simp [execLimitLatch]
@[simp] theorem execLimitLatchClear_keepsCur (ax : Fin 32) (lim : Fin 2) (s : State) : KeepsCur s (execLimitLatchClear ax lim s) := by simp [execLimitLatchClear]
@[simp] theorem execLimitChatterClear_keepsCur (ax : Fin 32) (lim : Fin 2) (s : State) : KeepsCur s (execLimitChatterClear ax lim s) := by simp [execLimitChatterClear]

@[simp] theorem execAxisDisableDeadline_keepsCur (ax : Fin 32) (s : State) : KeepsCur s (execAxisDisableDeadline ax s) := by
  unfold execAxisDisableDeadline
  dsimp only
  split <;> simp

/-! ### The operand forms of a cycle engine: points, LOCAL items, the records of instances, immediates, and the fault that ends a release -/

@[simp] theorem dataWrite_mode (s : State) (c a : Nat) (l : List Byte) : (dataWrite s c a l).mode = s.mode := rfl
@[simp] theorem outWrite_mode (s : State) (c : Nat) (p : Nat) (v : Word) (q : Nat) : (outWrite s c p v q).mode = s.mode := by simp [outWrite]
@[simp] theorem putWord_mode (s : State) (c : Nat) (x : BitVec 25) (v : Word) (q : Nat) : (putWord s c x v q).mode = s.mode := by simp [putWord]
@[simp] theorem putBit_mode (s : State) (c : Nat) (x : BitVec 25) (b : Bool) : (putBit s c x b).mode = s.mode := by simp [putBit]

@[simp] theorem blFault_mode (s : State) (c code pc word : Nat) : (blFault s c code pc word).mode = s.mode := by
  unfold blFault
  split <;> simp

@[simp] theorem blExec_mode (ce : Fin 16) (op : Nat) (x : BitVec 25) (s : State) {f : Nat → Release → BlRegs → State → Except Nat (BlRegs × State)}
    (h : ∀ c r g, OkSameMode s (f c r g s)) : (blExec ce op x s f).mode = s.mode := by
  unfold blExec
  dsimp only
  split
  · rfl
  · next r _ =>
    split
    · rfl
    · split
      · simp
      · have := h ce.val r { (engine s ce.val).bl with pc := (engine s ce.val).bl.pc + 1 }
        split
        · next g' s' heq => simpa [OkSameMode, heq] using this
        · simp

@[simp] theorem opNone_mode (ce : Fin 16) (op : Nat) (x : BitVec 25) (s : State) (f : Nat → Release → BlRegs → State → Except Nat BlRegs) :
    (opNone ce op x s f).mode = s.mode := by simp [opNone]
@[simp] theorem opBit_mode (ce : Fin 16) (op : Nat) (x : BitVec 25) (s : State) (f : BlRegs → Bool → BlRegs) : (opBit ce op x s f).mode = s.mode := by simp [opBit]
@[simp] theorem opGood_mode (ce : Fin 16) (op : Nat) (x : BitVec 25) (s : State) (f : BlRegs → Bool → BlRegs) : (opGood ce op x s f).mode = s.mode := by simp [opGood]
@[simp] theorem opWord_mode (ce : Fin 16) (op : Nat) (x : BitVec 25) (s : State) (f : BlRegs → Word → BlRegs) : (opWord ce op x s f).mode = s.mode := by simp [opWord]

@[simp] theorem opPutBit_mode (ce : Fin 16) (op : Nat) (x : BitVec 25) (s : State) (f : BlRegs → Option Bool) : (opPutBit ce op x s f).mode = s.mode :=
  blExec_mode _ _ _ _ fun c r g => by
    split
    · simp
    · split <;> simp

@[simp] theorem opImm_mode (ce : Fin 16) (op : Nat) (x : BitVec 25) (s : State) (f : BlRegs → Int → BlRegs) : (opImm ce op x s f).mode = s.mode := by simp [opImm]
@[simp] theorem opShift_mode (ce : Fin 16) (op : Nat) (x : BitVec 25) (s : State) (f : Word → Nat → Word) : (opShift ce op x s f).mode = s.mode := by simp [opShift]
@[simp] theorem opCode_mode (ce : Fin 16) (op : Nat) (x : BitVec 25) (s : State) (f : BlRegs → Nat → Except Nat BlRegs) :
    (opCode ce op x s f).mode = s.mode := by simp [opCode]

@[simp] theorem opInst_mode (ce : Fin 16) (op : Nat) (x : BitVec 25) (s : State) {f : Nat → Release → BlRegs → State → Except Nat (BlRegs × State)}
    (h : ∀ c r g, OkSameMode s (f c r g s)) : (opInst ce op x s f).mode = s.mode :=
  blExec_mode _ _ _ _ fun c r g => by simp [h]

@[simp] theorem endAsk_mode (s : State) (c : Nat) (discard : Bool) : (endAsk s c discard).mode = s.mode := by simp [endAsk]

/-! ### The bit-logic instruction set of the cycle engines -/

@[simp] theorem timerOp_mode (ce : Fin 16) (op : Nat) (x : BitVec 25) (s : State) (ty : Nat) (f : TimerRec → Bool → Nat → Nat → Nat → TimerRec) :
    (timerOp ce op x s ty f).mode = s.mode := by simp [timerOp]

@[simp] theorem counterOp_mode (ce : Fin 16) (op : Nat) (x : BitVec 25) (s : State) (ty n : Nat) (f : CountRec → List Bool → Bool → CountRec × Bool) :
    (counterOp ce op x s ty n f).mode = s.mode :=
  opInst_mode _ _ _ _ fun c r g => by
    dsimp only
    split
    · simp
    · split <;> simp

@[simp] theorem edgeOp_mode (ce : Fin 16) (op : Nat) (x : BitVec 25) (s : State) (ty : Nat) (f : Bool → Bool → Bool) :
    (edgeOp ce op x s ty f).mode = s.mode := by simp [edgeOp]

@[simp] theorem endForm_mode (ce : Fin 16) (op : Nat) (x : BitVec 25) (s : State) (cond : BlRegs → Bool) : (endForm ce op x s cond).mode = s.mode := by
  unfold endForm
  dsimp only
  split <;> simp

@[simp] theorem execBlStwq_keepsCur (ce : Fin 16) (x : BitVec 25) (s : State) : KeepsCur s (execBlStwq ce x s) := by simp [execBlStwq]
@[simp] theorem execBlLdwx_keepsCur (ce : Fin 16) (x : BitVec 25) (s : State) : KeepsCur s (execBlLdwx ce x s) := by simp [execBlLdwx]
@[simp] theorem execBlStwx_keepsCur (ce : Fin 16) (x : BitVec 25) (s : State) : KeepsCur s (execBlStwx ce x s) := by simp [execBlStwx]
@[simp] theorem execBlMul_keepsCur (ce : Fin 16) (x : BitVec 25) (s : State) : KeepsCur s (execBlMul ce x s) := by simp [execBlMul]
@[simp] theorem execBlDiv_keepsCur (ce : Fin 16) (x : BitVec 25) (s : State) : KeepsCur s (execBlDiv ce x s) := by simp [execBlDiv]
@[simp] theorem execBlDivf_keepsCur (ce : Fin 16) (x : BitVec 25) (s : State) : KeepsCur s (execBlDivf ce x s) := by simp [execBlDivf]
@[simp] theorem execBlFtoi_keepsCur (ce : Fin 16) (x : BitVec 25) (s : State) : KeepsCur s (execBlFtoi ce x s) := by simp [execBlFtoi]
@[simp] theorem execBlCtu_keepsCur (ce : Fin 16) (x : BitVec 25) (s : State) : KeepsCur s (execBlCtu ce x s) := by simp [execBlCtu]
@[simp] theorem execBlCtd_keepsCur (ce : Fin 16) (x : BitVec 25) (s : State) : KeepsCur s (execBlCtd ce x s) := by simp [execBlCtd]
@[simp] theorem execBlCtud_keepsCur (ce : Fin 16) (x : BitVec 25) (s : State) : KeepsCur s (execBlCtud ce x s) := by simp [execBlCtud]

@[simp] theorem execBlLdiv_keepsCur (ce : Fin 16) (x : BitVec 25) (s : State) : KeepsCur s (execBlLdiv ce x s) := by
  refine (keepsCur_next ..).mpr (congrArg ModeSt.cur (opInst_mode _ _ _ _ fun c r g => ?_))
  dsimp only
  split <;> simp

@[simp] theorem execBlStiv_keepsCur (ce : Fin 16) (x : BitVec 25) (s : State) : KeepsCur s (execBlStiv ce x s) := by
  refine (keepsCur_next ..).mpr (congrArg ModeSt.cur (opInst_mode _ _ _ _ fun c r g => ?_))
  dsimp only
  split <;> simp

@[simp] theorem execBlIllegalOpcode_keepsCur (ce : Fin 16) (word : Word) (s : State) : KeepsCur s (execBlIllegalOpcode ce word s) := by
  unfold execBlIllegalOpcode
  dsimp only
  split <;> simp

@[simp] theorem execRetainCommit_keepsCur (prog : Byte) (s : State) : KeepsCur s (execRetainCommit prog s) := by
  unfold execRetainCommit
  dsimp only
  split <;> simp

/-! ### CAN channels: attempts, reception, error states, slots' ends, TTCAN and the host's frames -/

@[simp] theorem canNote_mode (s : State) (c old : Nat) : (canNote s c old).mode = s.mode := by simp [canNote]
@[simp] theorem canBusOffCheck_mode (s : State) (c : Nat) : (canBusOffCheck s c).mode = s.mode := by simp [canBusOffCheck]
@[simp] theorem canError_mode (s : State) (c tec rec_ : Nat) : (canError s c tec rec_).mode = s.mode := by simp [canError]
@[simp] theorem canHeard_mode (s : State) (c : Nat) : (canHeard s c).mode = s.mode := rfl

@[simp] theorem canRef_mode (s : State) (c id tag : Nat) (data : List Byte) : (canRef s c id tag data).mode = s.mode := by
  unfold canRef
  dsimp only
  repeat' split
  all_goals simp only [takeMeas_mode, canPoints_mode, setCan_mode, note_mode]

@[simp] theorem stnArrive_mode (s : State) (k bi : Nat) (b : Block) (data : List Byte) : (stnArrive s k bi b data).mode = s.mode := by simp [stnArrive]

@[simp] theorem canTake_mode (s : State) (c id tag : Nat) (data : List Byte) : (canTake s c id tag data).mode = s.mode := by
  unfold canTake
  dsimp only
  repeat' split
  all_goals simp

@[simp] theorem canBusy_mode (s : State) (c dur : Nat) : (canBusy s c dur).mode = s.mode := rfl
@[simp] theorem recDown_mode (s : State) (c : Nat) : (recDown s c).mode = s.mode := by simp [recDown]
@[simp] theorem execCanFrameReceive_keepsCur (ch : Fin 8) (id : Word) (data : List Byte) (tag : DWord) (dur : Half) (s : State) :
    KeepsCur s (execCanFrameReceive ch id data tag dur s) := by simp [execCanFrameReceive]
@[simp] theorem execCanRxError_keepsCur (ch : Fin 8) (dom : Bool) (s : State) : KeepsCur s (execCanRxError ch dom s) := by simp [execCanRxError]
@[simp] theorem execCanProtocolException_keepsCur (ch : Fin 8) (s : State) : KeepsCur s (execCanProtocolException ch s) := by simp [execCanProtocolException]

@[simp] theorem execPexTimeout_keepsCur (ch : Fin 8) (s : State) : KeepsCur s (execPexTimeout ch s) := by
  unfold execPexTimeout
  split <;> simp

@[simp] theorem canStart_mode (s : State) (c k : Nat) (f : CanFrame) : (canStart s c k f).mode = s.mode := by simp [canStart]

@[simp] theorem execCanTxStart_keepsCur (ch : Fin 8) (s : State) : KeepsCur s (execCanTxStart ch s) := by
  unfold execCanTxStart
  dsimp only
  split
  · simp
  · split <;> simp

@[simp] theorem canFailed_mode (s : State) (c k : Nat) (f : CanFrame) (ack : Bool) : (canFailed s c k f ack).mode = s.mode := by
  unfold canFailed
  split <;> simp

@[simp] theorem execCanTxAttemptEnd_keepsCur (ch : Fin 8) (result : Fin 6) (dur : Half) (s : State) : KeepsCur s (execCanTxAttemptEnd ch result dur s) := by
  unfold execCanTxAttemptEnd
  dsimp only
  repeat' split
  all_goals simp

@[simp] theorem execCanTxdTimeout_keepsCur (ch : Fin 8) (s : State) : KeepsCur s (execCanTxdTimeout ch s) := by simp [execCanTxdTimeout]
@[simp] theorem execCanBusOffRecovery_keepsCur (ch : Fin 8) (s : State) : KeepsCur s (execCanBusOffRecovery ch s) := by simp [execCanBusOffRecovery]

@[simp] theorem execCanSlotDeadline_keepsCur (ch : Fin 8) (slot : Fin 32) (s : State) : KeepsCur s (execCanSlotDeadline ch slot s) := by
  unfold execCanSlotDeadline
  dsimp only
  split <;> simp

@[simp] theorem execCanHoldRepeat_keepsCur (ch : Fin 8) (slot : Fin 32) (s : State) : KeepsCur s (execCanHoldRepeat ch slot s) := by
  unfold execCanHoldRepeat
  dsimp only
  split <;> simp

@[simp] theorem execTtReferenceSend_keepsCur (ch : Fin 8) (won : Bool) (s : State) : KeepsCur s (execTtReferenceSend ch won s) := by
  unfold execTtReferenceSend
  dsimp only
  repeat' split
  all_goals simp only [keepsCur_next, takeMeas_mode, canPoints_mode, send_mode, setCan_mode, note_mode, canSync_mode]

@[simp] theorem execTtWindow_keepsCur (ch : Fin 8) (slot : Fin 32) (idle : Bool) (s : State) : KeepsCur s (execTtWindow ch slot idle s) := by
  unfold execTtWindow
  dsimp only
  split <;> simp

@[simp] theorem execTtSyncLoss_keepsCur (ch : Fin 8) (s : State) : KeepsCur s (execTtSyncLoss ch s) := by
  unfold execTtSyncLoss
  dsimp only
  split <;> simp

@[simp] theorem execCanSend_keepsCur (r : Req) (s : State) : KeepsCur s (execCanSend r s) := by
  refine (keepsCur_next ..).mpr (command_cur ?_)
  dsimp only
  repeat' split
  all_goals simp

@[simp] theorem execCanAbort_keepsCur (r : Req) (s : State) : KeepsCur s (execCanAbort r s) := by
  refine (keepsCur_next ..).mpr (command_cur ?_)
  simp

@[simp] theorem execCanRecover_keepsCur (r : Req) (s : State) : KeepsCur s (execCanRecover r s) := by
  refine (keepsCur_next ..).mpr (command_cur ?_)
  simp

/-! ### The configurable 24 V channels: inputs, outputs, protection, diagnosis, group supply, safety groups -/

@[simp] theorem chAxes_mode (s : State) (c : Nat) : (chAxes s c).mode = s.mode := by simp [chAxes]
@[simp] theorem chNote_mode (s : State) (e : Ev) (c : Nat) (p : List Nat) : (chNote s e c p).mode = s.mode := by simp [chNote]
@[simp] theorem chFiltered_mode (s : State) (c : Nat) (v : Bool) : (chFiltered s c v).mode = s.mode := by simp [chFiltered]
@[simp] theorem execInputPinChange_keepsCur (c : BitVec 9) (level : Bool) (s : State) : KeepsCur s (execInputPinChange c level s) := by simp [execInputPinChange]
@[simp] theorem execFilteredStateChange_keepsCur (c : BitVec 9) (s : State) : KeepsCur s (execFilteredStateChange c s) := by simp [execFilteredStateChange]
@[simp] theorem execStepdown_keepsCur (c : BitVec 9) (s : State) : KeepsCur s (execStepdown c s) := by simp [execStepdown]
@[simp] theorem execWireBreakTimeout_keepsCur (c : BitVec 9) (ma : Word) (s : State) : KeepsCur s (execWireBreakTimeout c ma s) := by simp [execWireBreakTimeout]
@[simp] theorem execOverloadTimeout_keepsCur (c : BitVec 9) (ma : Word) (s : State) : KeepsCur s (execOverloadTimeout c ma s) := by simp [execOverloadTimeout]
@[simp] theorem execOverTemp_keepsCur (c : BitVec 9) (temp : Word) (s : State) : KeepsCur s (execOverTemp c temp s) := by simp [execOverTemp]
@[simp] theorem execOverTempRecover_keepsCur (c : BitVec 9) (temp : Word) (s : State) : KeepsCur s (execOverTempRecover c temp s) := by simp [execOverTempRecover]
@[simp] theorem execOverloadRetry_keepsCur (c : BitVec 9) (s : State) : KeepsCur s (execOverloadRetry c s) := by simp [execOverloadRetry]
@[simp] theorem execPairImbalance_keepsCur (c : BitVec 9) (on : Bool) (s : State) : KeepsCur s (execPairImbalance c on s) := by simp [execPairImbalance]

@[simp] theorem execGroupShed_keepsCur (unit : Fin 68) (ma : Nat) (s : State) : KeepsCur s (execGroupShed unit ma s) := by
  unfold execGroupShed
  dsimp only
  repeat' split
  all_goals simp

@[simp] theorem execSettleExpiry_keepsCur (c : BitVec 9) (s : State) : KeepsCur s (execSettleExpiry c s) := by simp [execSettleExpiry]
@[simp] theorem execOpenLoadDetect_keepsCur (c : BitVec 9) (ma : Word) (s : State) : KeepsCur s (execOpenLoadDetect c ma s) := by simp [execOpenLoadDetect]
@[simp] theorem execShortToLplusDetect_keepsCur (c : BitVec 9) (s : State) : KeepsCur s (execShortToLplusDetect c s) := by simp [execShortToLplusDetect]
@[simp] theorem execReverseDetect_keepsCur (c : BitVec 9) (s : State) : KeepsCur s (execReverseDetect c s) := by simp [execReverseDetect]
@[simp] theorem execStuckOnDetect_keepsCur (c : BitVec 9) (ma : Word) (s : State) : KeepsCur s (execStuckOnDetect c ma s) := by simp [execStuckOnDetect]
@[simp] theorem execReadbackFailDetect_keepsCur (c : BitVec 9) (s : State) : KeepsCur s (execReadbackFailDetect c s) := by simp [execReadbackFailDetect]
@[simp] theorem execChFlagClear_keepsCur (c : BitVec 9) (k : Fin 16) (s : State) : KeepsCur s (execChFlagClear c k s) := by simp [execChFlagClear]
@[simp] theorem execSupplyMeasure_keepsCur (g : Fin 64) (mv : Nat) (s : State) : KeepsCur s (execSupplyMeasure g mv s) := by simp [execSupplyMeasure]
@[simp] theorem grpNote_mode (s : State) (e : Ev) (g mv : Nat) : (grpNote s e g mv).mode = s.mode := by simp [grpNote]
@[simp] theorem execSupplyLow_keepsCur (g : Fin 64) (s : State) : KeepsCur s (execSupplyLow g s) := by simp [execSupplyLow]
@[simp] theorem execSupplyLost_keepsCur (g : Fin 64) (s : State) : KeepsCur s (execSupplyLost g s) := by simp [execSupplyLost]
@[simp] theorem execSupplyRestored_keepsCur (g : Fin 64) (s : State) : KeepsCur s (execSupplyRestored g s) := by simp [execSupplyRestored]

@[simp] theorem execGroupRestore_keepsCur (g : Fin 64) (s : State) : KeepsCur s (execGroupRestore g s) := by
  unfold execGroupRestore
  dsimp only
  split <;> simp

@[simp] theorem execPermitTimeout_keepsCur (g : Fin 64) (s : State) : KeepsCur s (execPermitTimeout g s) := by simp [execPermitTimeout]

@[simp] theorem execCutClear_keepsCur (g : Fin 64) (s : State) : KeepsCur s (execCutClear g s) := by
  unfold execCutClear
  dsimp only
  split
  · simp
  · split <;> simp

@[simp] theorem execCutElementTest_keepsCur (g : Fin 64) (elem : Fin 2) (s : State) : KeepsCur s (execCutElementTest g elem s) := by simp [execCutElementTest]

@[simp] theorem execCutTestEnd_keepsCur (g : Fin 64) (passed : Bool) (s : State) : KeepsCur s (execCutTestEnd g passed s) := by
  unfold execCutTestEnd
  dsimp only
  split <;> simp

/-! ### The motion engines: requests, planning, coupling, homing, segments -/

@[simp] theorem maintDone_mode (s : State) (i status : Nat) : (maintDone s i status).mode = s.mode := by
  unfold maintDone
  split <;> simp

@[simp] theorem moveEnd_mode (s : State) (i status detail : Nat) : (moveEnd s i status detail).mode = s.mode := by
  unfold moveEnd
  dsimp only
  split <;> simp

@[simp] theorem homeEnd_mode (s : State) (i code : Nat) : (homeEnd s i code).mode = s.mode := by
  unfold homeEnd
  split <;> simp

@[simp] theorem endRunning_mode (s : State) (i status : Nat) : (endRunning s i status).mode = s.mode := by simp [endRunning]

@[simp] theorem reqAdmit_okSameMode (s : State) (i req no : Nat) (data : List Nat) : OkSameMode s (reqAdmit s i req no data) := by
  unfold reqAdmit
  dsimp only
  repeat' split
  · simp
  · simp
  · simp
  · rw [OkSameMode, ← fresh_mode s]
    exact opAdmit_okSameMode (fresh s).2 _ _ _ _ _ _ _ _ _

@[simp] theorem refuseReq_mode (s : State) (i no status : Nat) : (refuseReq s i no status).mode = s.mode := by
  unfold refuseReq
  dsimp only
  split <;> simp

@[simp] theorem setPlan_mode (s : State) (i st : Nat) (q : Plan) : (setPlan s i st q).mode = s.mode := rfl
@[simp] theorem profStop_mode (s : State) (i S : Nat) (A J : Rat) : (profStop s i S A J).mode = s.mode := by simp [profStop]
@[simp] theorem velPlan_mode (s : State) (i S st : Nat) (v : Rat) : (velPlan s i S st v).mode = s.mode := rfl
@[simp] theorem posPlan_mode (s : State) (i S st : Nat) (target : Rat) : (posPlan s i S st target).mode = s.mode := rfl
@[simp] theorem sampleTick_mode (s : State) (i t : Nat) : (sampleTick s i t).mode = s.mode := by simp [sampleTick]
@[simp] theorem armIndex_mode (s : State) (x : Nat) : (armIndex s x).mode = s.mode := rfl

@[simp] theorem homeStart_mode (s : State) (i S : Nat) : (homeStart s i S).mode = s.mode := by
  unfold homeStart
  obtain ⟨p, v, a⟩ := pfAt (prof s i) S
  dsimp only
  split
  · split
    · rw [homeEnd_mode, setProf_mode, modAxis_mode]
    · rw [homeEnd_mode, keepCommit_mode, setProf_mode, modAxis_mode, modAxis_mode]
  · rw [velPlan_mode, setProf_mode, mode_ite, armIndex_mode, modAxis_mode, ite_self]

@[simp] theorem setHome_mode (s : State) (i : Nat) (f : HomeSt → HomeSt) : (setHome s i f).mode = s.mode := rfl
@[simp] theorem homeFound_mode (s : State) (i S : Nat) (e : Int) (next : Nat) : (homeFound s i S e next).mode = s.mode := by simp [homeFound]

@[simp] theorem homeTick_mode (s : State) (i t S : Nat) : (homeTick s i t S).mode = s.mode := by
  unfold homeTick
  split <;> simp

@[simp] theorem startMotion_mode (s : State) (i t S req : Nat) (raw : Nat) : (startMotion s i t S req raw).mode = s.mode := by
  unfold startMotion
  dsimp only
  split <;> simp

@[simp] theorem stopReq_mode (s : State) (i S k : Nat) : (stopReq s i S k).mode = s.mode := by simp [stopReq]

@[simp] theorem takeReq_mode (s : State) (i t S : Nat) : (takeReq s i t S).mode = s.mode := by
  unfold takeReq
  extract_lets d w no req raw stopped ended u
  have hu : u.mode = s.mode := by simp [u]
  split
  · rfl
  · split
    · split <;> simp [ended, stopped]
    · split
      · simp
      · obtain ⟨p, v, a⟩ := pfAt d S
        dsimp only
        split
        · simp [hu]
        · next h t heq =>
          have ht : t.mode = u.mode := reqAdmit_okSameMode u i req no _ _ heq
          simp [ht, hu]

@[simp] theorem takeMaint_mode (s : State) (i t S : Nat) : (takeMaint s i t S).mode = s.mode := by
  unfold takeMaint
  split <;> simp

@[simp] theorem resumeMotion_mode (s : State) (i t S : Nat) : (resumeMotion s i t S).mode = s.mode := by
  unfold resumeMotion
  dsimp only
  repeat' split
  all_goals simp

@[simp] theorem enableTick_mode (s : State) (i t S : Nat) : (enableTick s i t S).mode = s.mode := by
  unfold enableTick
  dsimp only
  generalize hu : (if (isLocal i && !flag s pAxisEnable (axisOf i)) = true then setProf s i _ else s) = u
  have hm : u.mode = s.mode := by
    rw [← hu]
    split <;> rfl
  clear hu
  split
  · simp [hm]
  · split
    · simp [hm]
    · split
      · simp [hm]
      · split
        · simp [hm]
        · exact hm

@[simp] theorem tileTick_mode (s : State) (i _t S : Nat) : (tileTick s i _t S).mode = s.mode := by simp [tileTick]
@[simp] theorem softTick_mode (s : State) (i S : Nat) : (softTick s i S).mode = s.mode := by simp [softTick]
@[simp] theorem remoteLimit_mode (s : State) (i t S : Nat) : (remoteLimit s i t S).mode = s.mode := by simp [remoteLimit]
@[simp] theorem modeTick_mode (s : State) (i t S : Nat) : (modeTick s i t S).mode = s.mode := by simp [modeTick]

@[simp] theorem followTick_mode (s : State) (i t S : Nat) : (followTick s i t S).mode = s.mode := by
  unfold followTick
  dsimp only
  split <;> simp

@[simp] theorem stopTick_mode (s : State) (i S : Nat) : (stopTick s i S).mode = s.mode := by
  unfold stopTick
  split <;> simp

@[simp] theorem planTick_mode (s : State) (i S : Nat) : (planTick s i S).mode = s.mode := by
  unfold planTick
  dsimp only
  split <;> simp

@[simp] theorem coupleTick_mode (s : State) (i t S : Nat) : (coupleTick s i t S).mode = s.mode := by simp [coupleTick]
@[simp] theorem sendSeg_mode (s : State) (i t S : Nat) : (sendSeg s i t S).mode = s.mode := by simp [sendSeg]
@[simp] theorem pfPoints_mode (s : State) (i t S : Nat) : (pfPoints s i t S).mode = s.mode := by simp [pfPoints]
@[simp] theorem pfTick_mode (s : State) (i t : Nat) : (pfTick s i t).mode = s.mode := by simp [pfTick]

@[simp] theorem moveCkpt_mode (s : State) (i t : Nat) : (moveCkpt s i t).mode = s.mode := by
  unfold moveCkpt
  dsimp only
  split <;> simp

@[simp] theorem execMotionTick_keepsCur (me : Fin 4) (s : State) : KeepsCur s (execMotionTick me s) := by simp [execMotionTick]

@[simp] theorem execHomeTimeout_keepsCur (ax : Fin 32) (s : State) : KeepsCur s (execHomeTimeout ax s) := by
  unfold execHomeTimeout
  dsimp only
  split <;> simp

/-! ### The Ridge's rows and the SAFE commands -/

@[simp] theorem execPermitFrame_keepsCur (tile : Fin 4) (echo : Bool) (s : State) : KeepsCur s (execPermitFrame tile echo s) := by simp [execPermitFrame]
@[simp] theorem execCutTestSchedule_keepsCur (g : Fin 64) (el : Fin 2) (s : State) : KeepsCur s (execCutTestSchedule g el s) := by simp [execCutTestSchedule]
@[simp] theorem setEstop_mode (s : State) (f : EstopSt → EstopSt) : (setEstop s f).mode = s.mode := rfl
@[simp] theorem execEstopRelease_keepsCur (s : State) : KeepsCur s (execEstopRelease s) := by simp [execEstopRelease]
@[simp] theorem execRidgeStartupTestEnd_keepsCur (part : Fin 5) (passed : Bool) (tested : BitVec 64) (s : State) :
    KeepsCur s (execRidgeStartupTestEnd part passed tested s) := by simp [execRidgeStartupTestEnd]
@[simp] theorem safeChan_mode (s : State) (c : Nat) : (safeChan s c).mode = s.mode := by simp [safeChan]
@[simp] theorem safeAo_mode (s : State) (a : Nat) : (safeAo s a).mode = s.mode := by simp [safeAo]
@[simp] theorem safeAxis_mode (s : State) (x : Nat) : (safeAxis s x).mode = s.mode := by simp [safeAxis]
@[simp] theorem execSafeCommandReceive_keepsCur (isl : Byte) (s : State) : KeepsCur s (execSafeCommandReceive isl s) := by simp [execSafeCommandReceive]

@[simp] theorem execSafeReset_keepsCur (r : Req) (s : State) : KeepsCur s (execSafeReset r s) := by
  refine (keepsCur_next ..).mpr (command_cur ?_)
  simp

@[simp] theorem execSafeGroupReset_keepsCur (r : Req) (s : State) : KeepsCur s (execSafeGroupReset r s) := by
  refine (keepsCur_next ..).mpr (command_cur ?_)
  simp

@[simp] theorem execSafeProofTest_keepsCur (r : Req) (s : State) : KeepsCur s (execSafeProofTest r s) := by
  refine (keepsCur_next ..).mpr (command_cur ?_)
  simp

/-! ### Mode requests, image staging, Deck and image validation, commits and saves, firmware banks -/

@[simp] theorem execDeckValidationEnd_keepsCur (late : Fin 14) (detail device proof : Word) (s : State) : KeepsCur s (execDeckValidationEnd late detail device proof s) := by
  unfold execDeckValidationEnd
  split <;> simp

@[simp] theorem putFlash_mode (s : State) (f : FlashDeck) : (putFlash s f).mode = s.mode := rfl

@[simp] theorem execDeckCommitDone_keepsCur (readOk : Bool) (s : State) : KeepsCur s (execDeckCommitDone readOk s) := by
  unfold execDeckCommitDone
  dsimp only
  repeat' split
  all_goals simp

@[simp] theorem execDeckSaveDone_keepsCur (readOk : Bool) (s : State) : KeepsCur s (execDeckSaveDone readOk s) := by
  unfold execDeckSaveDone
  split <;> simp

@[simp] theorem execImageValidationEnd_keepsCur (late : Fin 14) (s : State) : KeepsCur s (execImageValidationEnd late s) := by
  unfold execImageValidationEnd
  split <;> simp

@[simp] theorem execModeSet_keepsCur (r : Req) (s : State) : KeepsCur s (execModeSet r s) := by
  refine (keepsCur_next ..).mpr (command_cur ?_)
  dsimp only
  repeat' split
  all_goals simp

@[simp] theorem execImageStage_keepsCur (r : Req) (s : State) : KeepsCur s (execImageStage r s) := by
  refine (keepsCur_next ..).mpr (command_cur ?_)
  simp

@[simp] theorem execImageLoad_keepsCur (r : Req) (s : State) : KeepsCur s (execImageLoad r s) := by
  refine (keepsCur_next ..).mpr (command_cur ?_)
  simp

@[simp] theorem execDeckLoad_keepsCur (r : Req) (s : State) : KeepsCur s (execDeckLoad r s) := by
  refine (keepsCur_next ..).mpr (command_cur ?_)
  split <;> simp

@[simp] theorem execDeckCommit_keepsCur (r : Req) (s : State) : KeepsCur s (execDeckCommit r s) := by
  refine (keepsCur_next ..).mpr (command_cur ?_)
  simp

@[simp] theorem execDeckSave_keepsCur (r : Req) (s : State) : KeepsCur s (execDeckSave r s) := by
  refine (keepsCur_next ..).mpr (command_cur ?_)
  split <;> simp

@[simp] theorem execImageInfo_keepsCur (r : Req) (s : State) : KeepsCur s (execImageInfo r s) := by
  refine (keepsCur_next ..).mpr (command_cur ?_)
  split <;> simp

@[simp] theorem execFwUpdate_keepsCur (r : Req) (s : State) : KeepsCur s (execFwUpdate r s) := by
  refine (keepsCur_next ..).mpr (command_cur ?_)
  dsimp only
  repeat' split
  all_goals simp

@[simp] theorem execFwUpdateDone_keepsCur (sigOk readOk : Bool) (s : State) : KeepsCur s (execFwUpdateDone sigOk readOk s) := by
  unfold execFwUpdateDone
  split <;> simp

@[simp] theorem execFwSwap_keepsCur (r : Req) (s : State) : KeepsCur s (execFwSwap r s) := by
  refine (keepsCur_next ..).mpr (command_cur ?_)
  dsimp only
  repeat' split
  all_goals simp

/-! ### The check-value units and die temperatures -/

@[simp] theorem cvEnd_mode (s : State) (u : Nat) (j : CvJob) (x : CvRes) : (cvEnd s u j x).mode = s.mode := by simp [cvEnd]

@[simp] theorem execCvJobStart_keepsCur (u : Fin 4) (s : State) : KeepsCur s (execCvJobStart u s) := by
  unfold execCvJobStart
  dsimp only
  split
  · simp
  · split <;> simp

@[simp] theorem cvMean_snd_mode (s : State) (bytes ns : Nat) : (cvMean s bytes ns).2.mode = s.mode := by simp [cvMean]

@[simp] theorem execCvJobEnd_keepsCur (u : Fin 4) (data : List Byte) (fault : Fin 3) (off : Word) (s : State) : KeepsCur s (execCvJobEnd u data fault off s) := by
  unfold execCvJobEnd
  split <;> simp

@[simp] theorem execImageRescan_keepsCur (bad : Bool) (s : State) : KeepsCur s (execImageRescan bad s) := by simp [execImageRescan]
@[simp] theorem execDieTempMeasure_keepsCur (die : Fin 5) (mc : Word) (s : State) : KeepsCur s (execDieTempMeasure die mc s) := by simp [execDieTempMeasure]

@[simp] theorem execCvScan_keepsCur (r : Req) (s : State) : KeepsCur s (execCvScan r s) := by
  refine (keepsCur_next ..).mpr (command_cur ?_)
  dsimp only
  repeat' split
  all_goals simp

@[simp] theorem execCvResultGet_keepsCur (r : Req) (s : State) : KeepsCur s (execCvResultGet r s) := by
  refine (keepsCur_next ..).mpr (command_cur ?_)
  dsimp only
  repeat' split
  all_goals simp

@[simp] theorem execCvAbort_keepsCur (r : Req) (s : State) : KeepsCur s (execCvAbort r s) := by
  refine (keepsCur_next ..).mpr (command_cur ?_)
  dsimp only
  repeat' split
  all_goals simp

/-! ### The choppers of the tiles: fixed off time, hysteresis, coil faults, standstill current -/

@[simp] theorem setPhase_mode (s : State) (x : Nat) (b : Fin 2) (f : PhaseSt → PhaseSt) : (setPhase s x b f).mode = s.mode := rfl
@[simp] theorem sense_mode (s : State) (x : Nat) (b : Fin 2) (i : Int) : (sense s x b i).mode = s.mode := rfl
@[simp] theorem execChopBlankEnd_keepsCur (ax : Fin 32) (b : Fin 2) (i : Int) (s : State) : KeepsCur s (execChopBlankEnd ax b i s) := by simp [execChopBlankEnd]
@[simp] theorem execChopCurrentReached_keepsCur (ax : Fin 32) (b : Fin 2) (i : Int) (s : State) :
    KeepsCur s (execChopCurrentReached ax b i s) := by simp [execChopCurrentReached]
@[simp] theorem execChopOnMaxTimeout_keepsCur (ax : Fin 32) (b : Fin 2) (i : Int) (s : State) : KeepsCur s (execChopOnMaxTimeout ax b i s) := by simp [execChopOnMaxTimeout]
@[simp] theorem execChopFastDecayEnd_keepsCur (ax : Fin 32) (b : Fin 2) (s : State) : KeepsCur s (execChopFastDecayEnd ax b s) := by simp [execChopFastDecayEnd]
@[simp] theorem execChopOffEnd_keepsCur (ax : Fin 32) (b : Fin 2) (s : State) : KeepsCur s (execChopOffEnd ax b s) := by simp [execChopOffEnd]
@[simp] theorem execChopDeadTimeEnd_keepsCur (ax : Fin 32) (b : Fin 2) (s : State) : KeepsCur s (execChopDeadTimeEnd ax b s) := by simp [execChopDeadTimeEnd]
@[simp] theorem execHystThreshold_keepsCur (ax : Fin 32) (b : Fin 2) (i : Int) (s : State) : KeepsCur s (execHystThreshold ax b i s) := by simp [execHystThreshold]
@[simp] theorem execHystQuarterAdapt_keepsCur (ax : Fin 32) (b : Fin 2) (mean : Int) (s : State) :
    KeepsCur s (execHystQuarterAdapt ax b mean s) := by simp [execHystQuarterAdapt]
@[simp] theorem execChopFallback_keepsCur (ax : Fin 32) (s : State) : KeepsCur s (execChopFallback ax s) := by simp [execChopFallback]
@[simp] theorem execChopReturn_keepsCur (ax : Fin 32) (s : State) : KeepsCur s (execChopReturn ax s) := by simp [execChopReturn]
@[simp] theorem execCoilFault_keepsCur (ax : Fin 32) (s : State) : KeepsCur s (execCoilFault ax s) := by simp [execCoilFault]

@[simp] theorem execILowTimeout_keepsCur (ax : Fin 32) (s : State) : KeepsCur s (execILowTimeout ax s) := by
  unfold execILowTimeout
  dsimp only
  split <;> simp

@[simp] theorem execHoldDelayExpiry_keepsCur (ax : Fin 32) (s : State) : KeepsCur s (execHoldDelayExpiry ax s) := by simp [execHoldDelayExpiry]

@[simp] theorem execCurrentRampEnd_keepsCur (ax : Fin 32) (s : State) : KeepsCur s (execCurrentRampEnd ax s) := by
  unfold execCurrentRampEnd
  dsimp only
  split <;> simp

/-! ### The scheduler's rows: strobes, releases, triggers, deadlines, placement -/

@[simp] theorem execSampleStrobeSend_keepsCur (node_ : Fin 7) (at_ : Nat) (s : State) : KeepsCur s (execSampleStrobeSend node_ at_ s) := by simp [execSampleStrobeSend]
@[simp] theorem skipRel_mode (s : State) (i : Nat) : (skipRel s i).mode = s.mode := by simp [skipRel]

@[simp] theorem releaseTask_mode (s : State) (i t : Nat) : (releaseTask s i t).mode = s.mode := by
  unfold releaseTask
  split <;> simp

@[simp] theorem execTaskRelease_keepsCur (task_ : BitVec 10) (s : State) : KeepsCur s (execTaskRelease task_ s) := by simp [execTaskRelease]

@[simp] theorem takeTrig_mode (s : State) (i t : Nat) : (takeTrig s i t).mode = s.mode := by
  unfold takeTrig
  dsimp only
  repeat' split
  all_goals simp

@[simp] theorem execEventTaskTrigger_keepsCur (s : State) : KeepsCur s (execEventTaskTrigger s) := by
  unfold execEventTaskTrigger
  split <;> simp

@[simp] theorem execHeldTriggerRelease_keepsCur (task_ : BitVec 10) (s : State) : KeepsCur s (execHeldTriggerRelease task_ s) := by
  unfold execHeldTriggerRelease
  dsimp only
  split <;> simp

@[simp] theorem execEngineAskWork_keepsCur (ce : Fin 16) (s : State) : KeepsCur s (execEngineAskWork ce s) := by simp [execEngineAskWork]
@[simp] theorem mapRel_mode (s : State) (i : Nat) (f : Release → Release) : (mapRel s i f).mode = s.mode := rfl

@[simp] theorem execTaskDeadline_keepsCur (task_ : BitVec 10) (s : State) : KeepsCur s (execTaskDeadline task_ s) := by
  unfold execTaskDeadline
  dsimp only
  split <;> simp

@[simp] theorem execApplyStrobeSend_keepsCur (task_ : BitVec 10) (s : State) : KeepsCur s (execApplyStrobeSend task_ s) := by
  unfold execApplyStrobeSend
  dsimp only
  split
  · simp
  · split <;> simp

@[simp] theorem markMove_mode (s : State) (prog : Nat) (on : Bool) : (markMove s prog on).mode = s.mode := by simp [markMove]
@[simp] theorem windowPoints_mode (s : State) : (windowPoints s).mode = s.mode := by simp [windowPoints]

@[simp] theorem execPlacementWindow_keepsCur (busy : List Nat) (s : State) : KeepsCur s (execPlacementWindow busy s) := by
  unfold execPlacementWindow
  dsimp only
  split
  · simp
  · split <;> simp

@[simp] theorem execProgramMove_keepsCur (s : State) : KeepsCur s (execProgramMove s) := by
  unfold execProgramMove
  split <;> simp

@[simp] theorem execProgramMoveAbandon_keepsCur (s : State) : KeepsCur s (execProgramMoveAbandon s) := by
  unfold execProgramMoveAbandon
  split <;> simp

/-! ### On-line program exchange -/

@[simp] theorem beginExch_cur (s : State) (r : Req) (op k : Nat) (revert : Bool) (b : List Byte) : (beginExch s r op k revert b).mode.cur = s.mode.cur := by simp [beginExch]

@[simp] theorem execProgExchange_keepsCur (r : Req) (s : State) : KeepsCur s (execProgExchange r s) := by
  refine (keepsCur_next ..).mpr (command_cur ?_)
  dsimp only
  repeat' split
  all_goals simp

@[simp] theorem execProgRevert_keepsCur (r : Req) (s : State) : KeepsCur s (execProgRevert r s) := by
  refine (keepsCur_next ..).mpr (command_cur ?_)
  split <;> simp

@[simp] theorem exchSwap_mode (s : State) (x : ExchSt) (q : Nat) : (exchSwap s x q).mode = s.mode := by simp [exchSwap]

@[simp] theorem execExchangeSwap_keepsCur (s : State) : KeepsCur s (execExchangeSwap s) := by
  unfold execExchangeSwap
  dsimp only
  repeat' split
  all_goals simp

@[simp] theorem execExchNoQuiet_keepsCur (s : State) : KeepsCur s (execExchNoQuiet s) := by
  unfold execExchNoQuiet
  split <;> simp

@[simp] theorem execExchReportGet_keepsCur (r : Req) (s : State) : KeepsCur s (execExchReportGet r s) := by
  refine (keepsCur_next ..).mpr (command_cur ?_)
  split <;> simp

/-! ### The host window: registers, rings, frames, responses, interrupts and the host heartbeat -/

@[simp] theorem readMbErr_snd_mode (s : State) (m : Nat) : (readMbErr s m).2.mode = s.mode := rfl
@[simp] theorem readLinkErr_snd_mode (s : State) : (readLinkErr s).2.mode = s.mode := rfl
@[simp] theorem readT0Lo_snd_mode (s : State) : (readT0Lo s).2.mode = s.mode := rfl

@[simp] theorem bar0Read_snd_mode (s : State) (o : Nat) : (bar0Read s o).2.mode = s.mode := by
  unfold bar0Read
  split <;> simp

@[simp] theorem cmdTailWrite_mode (s : State) (m via : Nat) (w : Half) : (cmdTailWrite s m via w).mode = s.mode := rfl
@[simp] theorem rspHeadWrite_mode (s : State) (m : Nat) (w : Half) : (rspHeadWrite s m w).mode = s.mode := rfl
@[simp] theorem mbReset_mode (s : State) (m : Nat) : (mbReset s m).mode = s.mode := by simp [mbReset]
@[simp] theorem mbRelease_mode (s : State) (m : Nat) : (mbRelease s m).mode = s.mode := rfl
@[simp] theorem intSet_mode (s : State) (w : Word) : (intSet s w).mode = s.mode := by simp [intSet]
@[simp] theorem hostHbWrite_mode (s : State) (w : Word) : (hostHbWrite s w).mode = s.mode := by simp [hostHbWrite]

@[simp] theorem bar0Write_mode (s : State) (via o : Nat) (w : Word) : (bar0Write s via o w).mode = s.mode := by
  unfold bar0Write
  dsimp only
  repeat' split
  all_goals simp

@[simp] theorem winWrite_mode (s : State) (via space o : Nat) (w : Word) : (winWrite s via space o w).mode = s.mode := by simp [winWrite]
@[simp] theorem winRead_snd_mode (s : State) (space o : Nat) : (winRead s space o).2.mode = s.mode := by simp [winRead]

@[simp] theorem winWrites_mode (s : State) (via sp n o : Nat) (l : List Byte) : (winWrites s via sp n o l).mode = s.mode := by
  induction n generalizing s o l with
  | zero => rfl
  | succ n ih => simp [winWrites, ih]

@[simp] theorem winReads_mode (s : State) (sp n o : Nat) : (winReads s sp n o).2.mode = s.mode := by
  induction n generalizing s o with
  | zero => rfl
  | succ n ih => simp [winReads, ih]

@[simp] theorem execSpiTransfer_keepsCur (mosi : List Byte) (s : State) : KeepsCur s (execSpiTransfer mosi s) := by simp [execSpiTransfer]
@[simp] theorem execRegisterWrite_keepsCur (bar : Fin 3) (off : BitVec 24) (w : Word) (s : State) : KeepsCur s (execRegisterWrite bar off w s) := by simp [execRegisterWrite]
@[simp] theorem execCmdTailWrite_keepsCur (m : Fin 8) (w : Word) (s : State) : KeepsCur s (execCmdTailWrite m w s) := by simp [execCmdTailWrite]
@[simp] theorem execRspHeadWrite_keepsCur (m : Fin 8) (w : Word) (s : State) : KeepsCur s (execRspHeadWrite m w s) := by simp [execRspHeadWrite]
@[simp] theorem execMbCtrlReset_keepsCur (m : Fin 8) (s : State) : KeepsCur s (execMbCtrlReset m s) := by simp [execMbCtrlReset]
@[simp] theorem execMbCtrlRelease_keepsCur (m : Fin 8) (s : State) : KeepsCur s (execMbCtrlRelease m s) := by simp [execMbCtrlRelease]
@[simp] theorem execGlbIntSetWrite_keepsCur (w : Word) (s : State) : KeepsCur s (execGlbIntSetWrite w s) := by simp [execGlbIntSetWrite]
@[simp] theorem execGlbHostHbWrite_keepsCur (w : Word) (s : State) : KeepsCur s (execGlbHostHbWrite w s) := by simp [execGlbHostHbWrite]
@[simp] theorem returnRead_mode (r : Nat × State) : (returnRead r).mode = r.2.mode := rfl
@[simp] theorem execGlbT0LoRead_keepsCur (s : State) : KeepsCur s (execGlbT0LoRead s) := by simp [execGlbT0LoRead]
@[simp] theorem execMbErrRead_keepsCur (m : Fin 8) (s : State) : KeepsCur s (execMbErrRead m s) := by simp [execMbErrRead]
@[simp] theorem execGlbLinkErrRead_keepsCur (s : State) : KeepsCur s (execGlbLinkErrRead s) := by simp [execGlbLinkErrRead]
@[simp] theorem ringWrite_mode (s : State) (base : Nat) (idx : Half) (l : List Byte) : (ringWrite s base idx l).mode = s.mode := rfl
@[simp] theorem refuseFrame_mode (s : State) (m : Nat) (udp : Option Nat) (fr : List Byte) (st : Nat) : (refuseFrame s m udp fr st).mode = s.mode := rfl
@[simp] theorem takeFrame_mode (s : State) (m via src : Nat) (fr : List Byte) : (takeFrame s m via src fr).mode = s.mode := by simp [takeFrame]

@[simp] theorem execFrameTakeIn_keepsCur (s : State) : KeepsCur s (execFrameTakeIn s) := by
  unfold execFrameTakeIn
  dsimp only
  split
  · simp
  · split <;> simp

@[simp] theorem rspCount_mode (s : State) (m : Nat) : (rspCount s m).mode = s.mode := by simp [rspCount]

@[simp] theorem execResponseWrite_keepsCur (m : Fin 8) (s : State) : KeepsCur s (execResponseWrite m s) := by
  unfold execResponseWrite
  dsimp only
  repeat' split
  all_goals simp

@[simp] theorem execUdpDatagram_keepsCur (src : BitVec 48) (frag : Bool) (fr : List Byte) (s : State) : KeepsCur s (execUdpDatagram src frag fr s) := by simp [execUdpDatagram]

@[simp] theorem execMbIntHoldoff_keepsCur (m : Fin 8) (s : State) : KeepsCur s (execMbIntHoldoff m s) := by
  unfold execMbIntHoldoff
  dsimp only
  split <;> simp

@[simp] theorem execCommandDeadline_keepsCur (m : Fin 8) (s : State) : KeepsCur s (execCommandDeadline m s) := by
  unfold execCommandDeadline
  split <;> simp

@[simp] theorem stewardBeat_mode (s : State) : (stewardBeat s).mode = s.mode := by simp [stewardBeat]
@[simp] theorem streamPause_mode (s : State) (k reason : Nat) : (streamPause s k reason).mode = s.mode := by simp [streamPause]
@[simp] theorem execHostHbTimeout_keepsCur (s : State) : KeepsCur s (execHostHbTimeout s) := by simp [execHostHbTimeout]
@[simp] theorem execUdpIdleExpiry_keepsCur (m : Fin 8) (s : State) : KeepsCur s (execUdpIdleExpiry m s) := by simp [execUdpIdleExpiry]

/-! ### The loop engines' rows: releases, the frame of one release, tuning, bridge laws, and the loop commands -/

@[simp] theorem execLoopRelease_keepsCur (loop_ : BitVec 9) (s : State) : KeepsCur s (execLoopRelease loop_ s) := by simp [execLoopRelease]

@[simp] theorem beginLoop_mode (s : State) (le : Nat) : (beginLoop s le).mode = s.mode := by
  unfold beginLoop
  dsimp only
  split <;> simp

@[simp] theorem execLoopInputWaitExpiry_keepsCur (loop_ : BitVec 9) (s : State) : KeepsCur s (execLoopInputWaitExpiry loop_ s) := by
  unfold execLoopInputWaitExpiry
  dsimp only
  split <;> simp

@[simp] theorem execLoopDeadline_keepsCur (loop_ : BitVec 9) (s : State) : KeepsCur s (execLoopDeadline loop_ s) := by
  unfold execLoopDeadline
  dsimp only
  repeat' split
  all_goals simp

@[simp] theorem execHeldTimeExpiry_keepsCur (loop_ : BitVec 9) (inp : Fin 4) (s : State) : KeepsCur s (execHeldTimeExpiry loop_ inp s) := by
  unfold execHeldTimeExpiry
  dsimp only
  split <;> simp

@[simp] theorem frame_mode (s : State) (i t : Nat) (lawOut : Int) : (frame s i t lawOut).mode = s.mode := by simp [frame]
@[simp] theorem loopSticky_mode (s : State) (i : Nat) : (loopSticky s i).mode = s.mode := by simp [loopSticky]

@[simp] theorem execLoopEnd_keepsCur (le : Fin 8) (s : State) : KeepsCur s (execLoopEnd le s) := by
  unfold execLoopEnd
  dsimp only
  split <;> simp

@[simp] theorem execTuneCheckTimeout_keepsCur (loop_ : BitVec 9) (s : State) : KeepsCur s (execTuneCheckTimeout loop_ s) := by
  unfold execTuneCheckTimeout
  dsimp only
  split <;> simp

@[simp] theorem execTuneSettleDone_keepsCur (loop_ : BitVec 9) (s : State) : KeepsCur s (execTuneSettleDone loop_ s) := by
  unfold execTuneSettleDone
  dsimp only
  split <;> simp

@[simp] theorem execTuneMeasureDone_keepsCur (loop_ : BitVec 9) (s : State) : KeepsCur s (execTuneMeasureDone loop_ s) := by
  unfold execTuneMeasureDone
  dsimp only
  split <;> simp

@[simp] theorem execTuneTimeout_keepsCur (loop_ : BitVec 9) (s : State) : KeepsCur s (execTuneTimeout loop_ s) := by
  unfold execTuneTimeout
  dsimp only
  split <;> simp

@[simp] theorem execBridgeLawStart_keepsCur (loop_ : BitVec 9) (s : State) : KeepsCur s (execBridgeLawStart loop_ s) := by simp [execBridgeLawStart]

@[simp] theorem bridgeApply_mode (s : State) (i : Nat) : (bridgeApply s i).mode = s.mode := by
  unfold bridgeApply
  dsimp only
  split
  · simp
  · split <;> simp

@[simp] theorem execBridgePeriod_keepsCur (loop_ : BitVec 9) (s : State) : KeepsCur s (execBridgePeriod loop_ s) := by simp [execBridgePeriod]
@[simp] theorem execBridgeExpiry_keepsCur (loop_ : BitVec 9) (s : State) : KeepsCur s (execBridgeExpiry loop_ s) := by simp [execBridgeExpiry]

@[simp] theorem execLoopFlagsClear_keepsCur (r : Req) (s : State) : KeepsCur s (execLoopFlagsClear r s) := by
  refine (keepsCur_next ..).mpr (command_cur ?_)
  simp

@[simp] theorem execLoopTune_keepsCur (r : Req) (s : State) : KeepsCur s (execLoopTune r s) := by
  refine (keepsCur_next ..).mpr (command_cur ?_)
  dsimp only
  split <;> simp

@[simp] theorem execLoopTuneResult_keepsCur (r : Req) (s : State) : KeepsCur s (execLoopTuneResult r s) := by
  refine (keepsCur_next ..).mpr (command_cur ?_)
  split <;> simp

/-! ### Lining packets and credits, heartbeats, T0 alignment, strobe events, output sets and the scrubs -/

@[simp] theorem execPacketReceive_keepsCur (link : Byte) (up : Bool) (raw : List Byte) (s : State) : KeepsCur s (execPacketReceive link up raw s) := by
  unfold execPacketReceive
  split <;> simp

@[simp] theorem retransPoint_mode (s : State) (link cls : Nat) : (retransPoint s link cls).mode = s.mode := by simp [retransPoint]
@[simp] theorem execNegativeAcknowledge_keepsCur (link : Byte) (up : Bool) (cls : Fin 7) (s : State) :
    KeepsCur s (execNegativeAcknowledge link up cls s) := by simp [execNegativeAcknowledge]
@[simp] theorem execCreditReturn_keepsCur (link : Byte) (up : Bool) (cls : Fin 7) (n : Nat) (s : State) :
    KeepsCur s (execCreditReturn link up cls n s) := by simp [execCreditReturn]
@[simp] theorem execHeartbeatSend_keepsCur (s : State) : KeepsCur s (execHeartbeatSend s) := by simp [execHeartbeatSend]
@[simp] theorem execSilentHold_keepsCur (tile : Fin 4) (s : State) : KeepsCur s (execSilentHold tile s) := by simp [execSilentHold]
@[simp] theorem refreshOuts'_mode (n : Nat) (s : State) : (refreshOuts' n s).mode = s.mode := by simp [refreshOuts']
@[simp] theorem tileReady_mode (s : State) (n : Nat) : (tileReady s n).mode = s.mode := by simp [tileReady]
@[simp] theorem execT0AlignExchange_keepsCur (isl : Byte) (offset : Int) (s : State) : KeepsCur s (execT0AlignExchange isl offset s) := by simp [execT0AlignExchange]
@[simp] theorem execT0CrossCheck_keepsCur (t0Adv ridgeAdv : Nat) (s : State) : KeepsCur s (execT0CrossCheck t0Adv ridgeAdv s) := by simp [execT0CrossCheck]
@[simp] theorem execRefclkLost_keepsCur (s : State) : KeepsCur s (execRefclkLost s) := by simp [execRefclkLost]
@[simp] theorem lateStrobe_mode (s : State) (isl : Nat) : (lateStrobe s isl).mode = s.mode := by simp [lateStrobe]

@[simp] theorem execStrobeEventReceive_keepsCur (node_ : Fin 7) (s : State) : KeepsCur s (execStrobeEventReceive node_ s) := by
  unfold execStrobeEventReceive
  dsimp only
  repeat' split
  all_goals simp

@[simp] theorem execSampleStrobe_keepsCur (node_ : Fin 7) (s : State) : KeepsCur s (execSampleStrobe node_ s) := by
  unfold execSampleStrobe
  dsimp only
  split
  · simp
  · split <;> simp

@[simp] theorem execApplyStrobe_keepsCur (node_ : Fin 7) (s : State) : KeepsCur s (execApplyStrobe node_ s) := by
  unfold execApplyStrobe
  dsimp only
  repeat' split
  all_goals simp

@[simp] theorem execOutputSetReceive_keepsCur (node_ : Fin 7) (s : State) : KeepsCur s (execOutputSetReceive node_ s) := by
  unfold execOutputSetReceive
  dsimp only
  split <;> simp

@[simp] theorem execDramScrub_keepsCur (addr : Word) (errs : Fin 3) (s : State) : KeepsCur s (execDramScrub addr errs s) := by simp [execDramScrub]
@[simp] theorem execCommonsScrub_keepsCur (off : BitVec 23) (errs : Fin 3) (s : State) : KeepsCur s (execCommonsScrub off errs s) := by simp [execCommonsScrub]

/-! ### Native mode as the block sees it: the image aperture, exceptions, the time limit and the device CSRs -/

@[simp] theorem setNat_mode (s : State) (c : Nat) (f : NatRegs → NatRegs) : (setNat s c f).mode = s.mode := rfl

@[simp] theorem natNext_mode (s : State) (c : Nat) : (natNext s c).mode = s.mode := by
  unfold natNext
  split <;> simp

@[simp] theorem natRuns_mode (s : State) (l : List (Nat × Nat × Nat)) : (natRuns s l).mode = s.mode := by simp [natRuns]

@[simp] theorem nativeTrap_mode (s : State) (c : Nat) (cause epc tval : Word) : (nativeTrap s c cause epc tval).mode = s.mode := by
  unfold nativeTrap
  split <;> simp

@[simp] theorem nativePut_mode (s : State) (c p : Nat) (v : Word) : (nativePut s c p v).mode = s.mode := by simp [nativePut]
@[simp] theorem execNativeApertureStore_keepsCur (ce : Fin 16) (p : BitVec 25) (hi narrow : Bool) (v : Word) (s : State) :
    KeepsCur s (execNativeApertureStore ce p hi narrow v s) := by simp [execNativeApertureStore]
@[simp] theorem execNativeException_keepsCur (ce : Fin 16) (cause epc tval : Word) (s : State) :
    KeepsCur s (execNativeException ce cause epc tval s) := by simp [execNativeException]
@[simp] theorem execNativeTimeout_keepsCur (ce : Fin 16) (s : State) : KeepsCur s (execNativeTimeout ce s) := by simp [execNativeTimeout]

@[simp] theorem execDlaskEnd_keepsCur (ce : Fin 16) (s : State) : KeepsCur s (execDlaskEnd ce s) := by
  unfold execDlaskEnd
  dsimp only
  split
  · simp
  · split <;> simp

@[simp] theorem execDlaskDiscard_keepsCur (ce : Fin 16) (s : State) : KeepsCur s (execDlaskDiscard ce s) := by
  unfold execDlaskDiscard
  dsimp only
  split
  · simp
  · split <;> simp

@[simp] theorem execDlpvalRead_keepsCur (ce : Fin 16) (p : BitVec 25) (rd : Fin 32) (s : State) : KeepsCur s (execDlpvalRead ce p rd s) := by simp [execDlpvalRead]
@[simp] theorem execDlpvalWrite_keepsCur (ce : Fin 16) (p : BitVec 25) (q : BitVec 4) (v : Word) (s : State) :
    KeepsCur s (execDlpvalWrite ce p q v s) := by simp [execDlpvalWrite]
@[simp] theorem execDlnowRead_keepsCur (ce : Fin 16) (rd : Fin 32) (s : State) : KeepsCur s (execDlnowRead ce rd s) := by simp [execDlnowRead]
@[simp] theorem strobeReq_mode (s : State) (c : Nat) (tiles : BitVec 4) (at_ : DWord) (kind refused : Bool) : (strobeReq s c tiles at_ kind refused).mode = s.mode := rfl
@[simp] theorem execDlstrbcSampleStrobe_keepsCur (ce : Fin 16) (tiles : BitVec 4) (at_ : DWord) (s : State) :
    KeepsCur s (execDlstrbcSampleStrobe ce tiles at_ s) := by simp [execDlstrbcSampleStrobe]

@[simp] theorem execDlstrbcApplyStrobe_keepsCur (ce : Fin 16) (tiles : BitVec 4) (at_ : DWord) (s : State) : KeepsCur s (execDlstrbcApplyStrobe ce tiles at_ s) := by
  unfold execDlstrbcApplyStrobe
  dsimp only
  repeat' split
  all_goals simp

/-! ### Ethernet ports, CSX reception, PTP and the time domains -/

@[simp] theorem timekeepWrite_mode (s : State) (correction : Bool) : (timekeepWrite s correction).mode = s.mode := by simp [timekeepWrite]

@[simp] theorem execCsxInputFrame_keepsCur (port : Fin 3) (mac : BitVec 48) (payload : List Byte) (s : State) : KeepsCur s (execCsxInputFrame port mac payload s) := by
  unfold execCsxInputFrame
  dsimp only
  split
  · simp
  · split <;> simp

@[simp] theorem execQbvGateChange_keepsCur (port : Fin 3) (s : State) : KeepsCur s (execQbvGateChange port s) := by simp [execQbvGateChange]
@[simp] theorem execEthLinkChange_keepsCur (port : Fin 3) (up : Bool) (speed : Fin 4) (s : State) :
    KeepsCur s (execEthLinkChange port up speed s) := by simp [execEthLinkChange]
@[simp] theorem execPtpSyncReceive_keepsCur (port : Fin 3) (master stamp : DWord) (origin : DWord) (s : State) :
    KeepsCur s (execPtpSyncReceive port master stamp origin s) := by simp [execPtpSyncReceive]
@[simp] theorem execPtpAnnounceReceive_keepsCur (port : Fin 3) (master rank : DWord) (steps : Half) (s : State) :
    KeepsCur s (execPtpAnnounceReceive port master rank steps s) := by simp [execPtpAnnounceReceive]
@[simp] theorem execPtpDelayResponse_keepsCur (port : Fin 3) (t1 t2 t3 t4 : DWord) (s : State) :
    KeepsCur s (execPtpDelayResponse port t1 t2 t3 t4 s) := by simp [execPtpDelayResponse]
@[simp] theorem execPtpSyncSend_keepsCur (port : Fin 3) (s : State) : KeepsCur s (execPtpSyncSend port s) := by simp [execPtpSyncSend]
@[simp] theorem timeWritten_mode (s : State) (d : Nat) (ev : Ev) (l : List Nat) : (timeWritten s d ev l).mode = s.mode := by simp [timeWritten]
@[simp] theorem t1Stepped_mode (s : State) : (t1Stepped s).mode = s.mode := by simp [t1Stepped]
@[simp] theorem execTimeCorrection_keepsCur (dom : Fin 3) (s : State) : KeepsCur s (execTimeCorrection dom s) := by simp [execTimeCorrection]

@[simp] theorem execTimeStep_keepsCur (dom : Fin 3) (s : State) : KeepsCur s (execTimeStep dom s) := by
  unfold execTimeStep
  dsimp only
  split <;> simp

@[simp] theorem execTimeLossTimeout_keepsCur (dom : Fin 3) (s : State) : KeepsCur s (execTimeLossTimeout dom s) := by simp [execTimeLossTimeout]

@[simp] theorem execTimeRestep_keepsCur (r : Req) (s : State) : KeepsCur s (execTimeRestep r s) := by
  refine (keepsCur_next ..).mpr (command_cur ?_)
  simp

/-! ### The Thatch signal history: aggregates, open states, rings, tightening, coarsening, logs and queries -/

@[simp] theorem closeLogs_mode (s : State) (p n : Nat) : (closeLogs s p n).mode = s.mode := by simp [closeLogs]
@[simp] theorem feedLogs_mode (s : State) (p ty : Nat) (u : ThUpd) : (feedLogs s p ty u).mode = s.mode := rfl
@[simp] theorem execTileAggregateSend_keepsCur (p mn mx : Word) (sum : DWord) (count : BitVec 24) (qmask : BitVec 11) (nan credits : Bool) (s : State) :
    KeepsCur s (execTileAggregateSend p mn mx sum count qmask nan credits s) := by simp [execTileAggregateSend]

@[simp] theorem execThatchUpdate_keepsCur (s : State) : KeepsCur s (execThatchUpdate s) := by
  unfold execThatchUpdate
  split <;> simp

@[simp] theorem activity_mode (s : State) (p : Nat) (st : IntvSt) : (activity s p st).mode = s.mode := by simp [activity]

@[simp] theorem execThatchIntervalClose_keepsCur (p : Word) (s : State) : KeepsCur s (execThatchIntervalClose p s) := by
  unfold execThatchIntervalClose
  dsimp only
  split
  · simp
  · rw [keepsCur_ite, keepsCur_next, keepsCur_next]
    simp only [setThatch_mode, mode_ite, closeLogs_mode, activity_mode]
    repeat' split
    all_goals simp only [activity_mode, setThatch_mode, syncLogs_mode]

@[simp] theorem endTight_mode (s : State) (p : Nat) : (endTight s p).mode = s.mode := by
  unfold endTight
  split <;> simp

@[simp] theorem execThatchTightHoldExpiry_keepsCur (p : Word) (s : State) : KeepsCur s (execThatchTightHoldExpiry p s) := by
  unfold execThatchTightHoldExpiry
  split <;> simp

@[simp] theorem setCoarse_mode (s : State) (i due : Nat) (f : Nat → Nat) : (setCoarse s i due f).mode = s.mode := rfl

@[simp] theorem execThatchLoadWindow_keepsCur (queueFull creditWait : Bool) (s : State) : KeepsCur s (execThatchLoadWindow queueFull creditWait s) := by
  unfold execThatchLoadWindow
  dsimp only
  repeat' split
  all_goals simp

@[simp] theorem thatchAnswer_mode (s : State) (r : Req) (bo bl : Nat) (toPos : Nat → Nat) (l : List (Nat × List Byte)) : (thatchAnswer s r bo bl toPos l).mode = s.mode := rfl

@[simp] theorem execThatchQuery_keepsCur (r : Req) (s : State) : KeepsCur s (execThatchQuery r s) := by
  refine (keepsCur_next ..).mpr (command_cur ?_)
  dsimp only
  repeat' split
  all_goals simp

/-! ### Restart triggers, the restart-cause record, what each restart kind drops and keeps, and the Pocket's records at boot -/

@[simp] theorem recipeFor_snd_mode (s : State) (k step : Nat) : (recipeFor s k step).2.mode = s.mode := by simp [recipeFor]

@[simp] theorem streamRestore_mode (s : State) (i : Nat) (o : OpSt) (c : List Nat) : (streamRestore s i o c).mode = s.mode := by
  unfold streamRestore
  dsimp only
  split
  · split <;> simp
  · simp

@[simp] theorem opsRestore_mode (s : State) : (opsRestore s).mode = s.mode := by simp [opsRestore]
@[simp] theorem retainRestore_mode (s : State) : (retainRestore s).mode = s.mode := by simp [retainRestore]
@[simp] theorem streamHold_mode (s : State) (k : Nat) (l : List OutVal) : (streamHold s k l).mode = s.mode := rfl

@[simp] theorem opAct_mode (s : State) (i : Nat) (o : OpSt) (eff outage : Nat) : (opAct s i o eff outage).mode = s.mode := by
  unfold opAct
  dsimp only
  repeat' split
  all_goals simp

@[simp] theorem opResume_mode (s : State) (i : Nat) : (opResume s i).mode = s.mode := by simp [opResume]

/-! ### Faults that restart, hot and warm restarts, boot, RESUME, power failure, the keep die and tile supplies -/

@[simp] theorem loopSeed_mode (s : State) (i : Nat) (r : Rat) : (loopSeed s i r).mode = s.mode := rfl
@[simp] theorem ceBack_mode (s : State) (c : Nat) : (ceBack s c).mode = s.mode := by simp [ceBack]
@[simp] theorem leBack_mode (s : State) (le : Nat) : (leBack s le).mode = s.mode := by simp [leBack]
@[simp] theorem meBack_mode (s : State) (m trig : Nat) : (meBack s m trig).mode = s.mode := by simp [meBack]
@[simp] theorem aeBack_mode (s : State) (ae : Nat) : (aeBack s ae).mode = s.mode := by simp [aeBack]
@[simp] theorem cvBack_mode (s : State) (u : Nat) : (cvBack s u).mode = s.mode := rfl

@[simp] theorem execEngineInService_keepsCur (isl : Byte) (s : State) : KeepsCur s (execEngineInService isl s) := by
  unfold execEngineInService
  dsimp only
  split <;> simp

@[simp] theorem loopsPrepare_mode (s : State) : (loopsPrepare s).mode = s.mode := by simp [loopsPrepare]
@[simp] theorem axesPrepare_mode (s : State) : (axesPrepare s).mode = s.mode := by simp [axesPrepare]
@[simp] theorem rebuild_mode (s : State) : (rebuild s).mode = s.mode := by simp [rebuild]
@[simp] theorem execReconstructionComplete_keepsCur (s : State) : KeepsCur s (execReconstructionComplete s) := by simp [execReconstructionComplete]
@[simp] theorem execGapBufferFull_keepsCur (tile : Fin 4) (s : State) : KeepsCur s (execGapBufferFull tile s) := by simp [execGapBufferFull]

@[simp] theorem gapSummary_snd_mode (s : State) (n : Nat) : (gapSummary s n).2.mode = s.mode := by
  refine foldl_keeps (fun a : List ThUpd × State => a.2.mode) (fun a b => ?_) (node s n).gapLost ([], s)
  exact fresh_mode a.2

@[simp] theorem execGapBufferReplay_keepsCur (tile : Fin 4) (s : State) : KeepsCur s (execGapBufferReplay tile s) := by simp [execGapBufferReplay]
@[simp] theorem execReplayComplete_keepsCur (tile : Fin 4) (s : State) : KeepsCur s (execReplayComplete tile s) := by simp [execReplayComplete]

@[simp] theorem execPowerFailFlush_keepsCur (done : Bool) (written : Nat) (flushUs : Half) (s : State) : KeepsCur s (execPowerFailFlush done written flushUs s) := by
  unfold execPowerFailFlush
  rw [keepsCur_ite]
  split
  · exact (keepsCur_next ..).mpr rfl
  · extract_lets state org bt l mode s1 s2 s3 s4 r x s5 s6
    have h5 : s5.mode = s1.mode :=
      (setPocket_mode s4 _).trans ((setRst_mode s3 _).trans ((setPocket_mode s2 _).trans (setPocket_mode s1 _)))
    have h6 : s6.mode = s5.mode := by
      unfold s6
      rw [mode_ite, mode_ite, putLastWord_mode, timekeepWrite_mode, ite_self, ite_self]
    rw [keepsCur_next, h6, h5]
    unfold s1
    rw [abandonExch_mode]

@[simp] theorem execVbatThreshold_keepsCur (lost : Bool) (s : State) : KeepsCur s (execVbatThreshold lost s) := by simp [execVbatThreshold]
@[simp] theorem execSupplyRailFault_keepsCur (rail : Fin 5) (s : State) : KeepsCur s (execSupplyRailFault rail s) := by simp [execSupplyRailFault]
@[simp] theorem axisCoast_mode (s : State) (x : Nat) : (axisCoast s x).mode = s.mode := rfl
@[simp] theorem execTileSupplyLoss_keepsCur (tile : Fin 4) (s : State) : KeepsCur s (execTileSupplyLoss tile s) := by simp [execTileSupplyLoss]
@[simp] theorem execTilePowerUp_keepsCur (tile : Fin 4) (s : State) : KeepsCur s (execTilePowerUp tile s) := by simp [execTilePowerUp]
@[simp] theorem execPocketScan_keepsCur (errs : List (BitVec 12)) (s : State) : KeepsCur s (execPocketScan errs s) := by simp [execPocketScan]

/-! ### Mailbox commands: device, bulk, parameters, points, tasks, axes, channels, encoders, streams and operations -/

@[simp] theorem execDeviceInfo_keepsCur (r : Req) (s : State) : KeepsCur s (execDeviceInfo r s) := by
  refine (keepsCur_next ..).mpr (command_cur ?_)
  simp

@[simp] theorem execDeviceRestart_keepsCur (r : Req) (s : State) : KeepsCur s (execDeviceRestart r s) := by
  refine (keepsCur_next ..).mpr (command_cur ?_)
  simp

@[simp] theorem execBulkWrite_keepsCur (r : Req) (s : State) : KeepsCur s (execBulkWrite r s) := by
  refine (keepsCur_next ..).mpr (command_cur ?_)
  simp

@[simp] theorem execBulkRead_keepsCur (r : Req) (s : State) : KeepsCur s (execBulkRead r s) := by
  refine (keepsCur_next ..).mpr (command_cur ?_)
  simp

@[simp] theorem execParamGet_keepsCur (r : Req) (s : State) : KeepsCur s (execParamGet r s) := by
  refine (keepsCur_next ..).mpr (command_cur ?_)
  split <;> simp

@[simp] theorem execParamSet_keepsCur (r : Req) (s : State) : KeepsCur s (execParamSet r s) := by
  refine (keepsCur_next ..).mpr (command_cur ?_)
  simp

@[simp] theorem execParamUnset_keepsCur (r : Req) (s : State) : KeepsCur s (execParamUnset r s) := by
  refine (keepsCur_next ..).mpr (command_cur ?_)
  split <;> simp

@[simp] theorem execParamDescribe_keepsCur (r : Req) (s : State) : KeepsCur s (execParamDescribe r s) := by
  refine (keepsCur_next ..).mpr (command_cur ?_)
  dsimp only
  repeat' split
  all_goals simp

@[simp] theorem execPointRead_keepsCur (r : Req) (s : State) : KeepsCur s (execPointRead r s) := by
  refine (keepsCur_next ..).mpr (command_cur ?_)
  dsimp only
  split <;> simp

@[simp] theorem pointWrite_mode (s : State) (p : Nat) (v : Word) : (pointWrite s p v).mode = s.mode := by simp [pointWrite]

@[simp] theorem execPointWrite_keepsCur (r : Req) (s : State) : KeepsCur s (execPointWrite r s) := by
  refine (keepsCur_next ..).mpr (command_cur ?_)
  simp

@[simp] theorem forceReq_mode (s : State) (a : Nat) (starts : Bool) (f : Force) : (forceReq s a starts f).mode = s.mode := rfl

@[simp] theorem execPointForce_keepsCur (r : Req) (s : State) : KeepsCur s (execPointForce r s) := by
  refine (keepsCur_next ..).mpr (command_cur ?_)
  simp

@[simp] theorem execPointSimulate_keepsCur (r : Req) (s : State) : KeepsCur s (execPointSimulate r s) := by
  refine (keepsCur_next ..).mpr (command_cur ?_)
  simp

@[simp] theorem unforce_mode (s : State) (a p : Nat) (sim : Bool) : (unforce s a p sim).mode = s.mode := by simp [unforce]

@[simp] theorem execPointUnforce_keepsCur (r : Req) (s : State) : KeepsCur s (execPointUnforce r s) := by
  refine (keepsCur_next ..).mpr (command_cur ?_)
  simp

@[simp] theorem execPointUnsimulate_keepsCur (r : Req) (s : State) : KeepsCur s (execPointUnsimulate r s) := by
  refine (keepsCur_next ..).mpr (command_cur ?_)
  simp

@[simp] theorem execTaskTrigger_keepsCur (r : Req) (s : State) : KeepsCur s (execTaskTrigger r s) := by
  refine (keepsCur_next ..).mpr (command_cur ?_)
  simp

@[simp] theorem execLoopTuneAccept_keepsCur (r : Req) (s : State) : KeepsCur s (execLoopTuneAccept r s) := by
  refine (keepsCur_next ..).mpr (command_cur ?_)
  dsimp only
  repeat' split
  all_goals simp

@[simp] theorem dropMaint_mode (s : State) (i : Nat) (new : Nat) : (dropMaint s i new).mode = s.mode := by
  unfold dropMaint
  split <;> simp

@[simp] theorem maintReq_mode (s : State) (r : Req) (op ax : Nat) (m : MaintReq) : (maintReq s r op ax m).mode = s.mode := by simp [maintReq]

@[simp] theorem execAxisJog_keepsCur (r : Req) (s : State) : KeepsCur s (execAxisJog r s) := by
  refine (keepsCur_next ..).mpr (command_cur ?_)
  simp

@[simp] theorem execAxisMove_keepsCur (r : Req) (s : State) : KeepsCur s (execAxisMove r s) := by
  refine (keepsCur_next ..).mpr (command_cur ?_)
  simp

@[simp] theorem execAxisHome_keepsCur (r : Req) (s : State) : KeepsCur s (execAxisHome r s) := by
  refine (keepsCur_next ..).mpr (command_cur ?_)
  simp

@[simp] theorem execAxisStop_keepsCur (r : Req) (s : State) : KeepsCur s (execAxisStop r s) := by
  refine (keepsCur_next ..).mpr (command_cur ?_)
  simp

@[simp] theorem execChAck_keepsCur (r : Req) (s : State) : KeepsCur s (execChAck r s) := by
  refine (keepsCur_next ..).mpr (command_cur ?_)
  simp

@[simp] theorem execEncArm_keepsCur (r : Req) (s : State) : KeepsCur s (execEncArm r s) := by
  refine (keepsCur_next ..).mpr (command_cur ?_)
  simp

@[simp] theorem execEncClear_keepsCur (r : Req) (s : State) : KeepsCur s (execEncClear r s) := by
  refine (keepsCur_next ..).mpr (command_cur ?_)
  simp

@[simp] theorem streamLoad_mode (s : State) (k slot : Nat) : (streamLoad s k slot).mode = s.mode := by
  unfold streamLoad
  split <;> simp

@[simp] theorem streamStart_mode (s : State) (k a : Nat) : (streamStart s k a).mode = s.mode := by
  unfold streamStart
  split <;> simp

@[simp] theorem streamContinue_mode (s : State) (k a : Nat) : (streamContinue s k a).mode = s.mode := by simp [streamContinue]
@[simp] theorem streamAbort_mode (s : State) (k how a : Nat) : (streamAbort s k how a).mode = s.mode := by simp [streamAbort]

@[simp] theorem execStreamLoad_keepsCur (r : Req) (s : State) : KeepsCur s (execStreamLoad r s) := by
  refine (keepsCur_next ..).mpr (command_cur ?_)
  dsimp only
  repeat' split
  all_goals simp

@[simp] theorem execStreamStart_keepsCur (r : Req) (s : State) : KeepsCur s (execStreamStart r s) := by
  refine (keepsCur_next ..).mpr (command_cur ?_)
  dsimp only
  repeat' split
  all_goals simp

@[simp] theorem execStreamPause_keepsCur (r : Req) (s : State) : KeepsCur s (execStreamPause r s) := by
  refine (keepsCur_next ..).mpr (command_cur ?_)
  simp

@[simp] theorem execStreamContinue_keepsCur (r : Req) (s : State) : KeepsCur s (execStreamContinue r s) := by
  refine (keepsCur_next ..).mpr (command_cur ?_)
  simp

@[simp] theorem execStreamAbort_keepsCur (r : Req) (s : State) : KeepsCur s (execStreamAbort r s) := by
  refine (keepsCur_next ..).mpr (command_cur ?_)
  simp

@[simp] theorem resolveAs_mode (s : State) (i eff : Nat) : (resolveAs s i eff).mode = s.mode := by simp [resolveAs]
@[simp] theorem opResolve_mode (s : State) (h action : Nat) : (opResolve s h action).mode = s.mode := by simp [opResolve]

@[simp] theorem execOpResolve_keepsCur (r : Req) (s : State) : KeepsCur s (execOpResolve r s) := by
  refine (keepsCur_next ..).mpr (command_cur ?_)
  split <;> simp

/-! ### The loop engine core -/

@[simp] theorem lawFault_mode (s : State) (le code pc word : Nat) : (lawFault s le code pc word).mode = s.mode := by
  unfold lawFault
  split <;> simp

@[simp] theorem lawDone_mode (s : State) (le : Nat) : (lawDone s le).mode = s.mode := by
  unfold lawDone
  dsimp only
  split <;> simp

@[simp] theorem leExec_mode (le : Fin 8) (word : Nat) (control : Bool) (s : State) (f : LoopEng → Except Nat (List LeEff)) : (leExec le word control s f).mode = s.mode := by
  unfold leExec
  dsimp only
  repeat' split
  all_goals simp

@[simp] theorem leG_mode (le : Fin 8) (op : Nat) (x : BitVec 25) (s : State) (f : LoopEng → Nat → Except Nat (List LeEff)) : (leG le op x s f).mode = s.mode := by simp [leG]
@[simp] theorem leG3_mode (le : Fin 8) (op : Nat) (x : BitVec 25) (s : State) (f : Nat → Bool → Word → Word → List LeEff) : (leG3 le op x s f).mode = s.mode := by simp [leG3]
@[simp] theorem leGI_mode (le : Fin 8) (op : Nat) (x : BitVec 25) (shift : Bool) (s : State) (f : Nat → Bool → Word → Int → List LeEff) :
    (leGI le op x shift s f).mode = s.mode := by simp [leGI]
@[simp] theorem leGA_mode (le : Fin 8) (op : Nat) (x : BitVec 25) (s : State) (f : LoopEng → Nat → Nat → Bool → Nat → Except Nat (List LeEff)) :
    (leGA le op x s f).mode = s.mode := by simp [leGA]
@[simp] theorem leM_mode (le : Fin 8) (mop : Nat) (x : BitVec 28) (s : State) (f : Int → Int → Int) : (leM le mop x s f).mode = s.mode := by simp [leM]
@[simp] theorem leMv_mode (le : Fin 8) (mop : Nat) (x : BitVec 28) (s : State) (bus2 : Nat) : (leMv le mop x s bus2).mode = s.mode := by simp [leMv]
@[simp] theorem execLeNop_keepsCur (le : Fin 8) (x : BitVec 25) (s : State) : KeepsCur s (execLeNop le x s) := by simp [execLeNop]
@[simp] theorem execLeLd_keepsCur (le : Fin 8) (x : BitVec 25) (s : State) : KeepsCur s (execLeLd le x s) := by simp [execLeLd]
@[simp] theorem execLeSt_keepsCur (le : Fin 8) (x : BitVec 25) (s : State) : KeepsCur s (execLeSt le x s) := by simp [execLeSt]
@[simp] theorem execLeLdd_keepsCur (le : Fin 8) (x : BitVec 25) (s : State) : KeepsCur s (execLeLdd le x s) := by simp [execLeLdd]
@[simp] theorem execLeStd_keepsCur (le : Fin 8) (x : BitVec 25) (s : State) : KeepsCur s (execLeStd le x s) := by simp [execLeStd]
@[simp] theorem execLeLdi_keepsCur (le : Fin 8) (x : BitVec 25) (s : State) : KeepsCur s (execLeLdi le x s) := by simp [execLeLdi]
@[simp] theorem execLeLdih_keepsCur (le : Fin 8) (x : BitVec 25) (s : State) : KeepsCur s (execLeLdih le x s) := by simp [execLeLdih]
@[simp] theorem execLeCmp_keepsCur (le : Fin 8) (x : BitVec 25) (s : State) : KeepsCur s (execLeCmp le x s) := by simp [execLeCmp]
@[simp] theorem execLeCmpi_keepsCur (le : Fin 8) (x : BitVec 25) (s : State) : KeepsCur s (execLeCmpi le x s) := by simp [execLeCmpi]
@[simp] theorem execLeAsha_keepsCur (le : Fin 8) (x : BitVec 25) (s : State) : KeepsCur s (execLeAsha le x s) := by simp [execLeAsha]
@[simp] theorem execLeSata_keepsCur (le : Fin 8) (x : BitVec 25) (s : State) : KeepsCur s (execLeSata le x s) := by simp [execLeSata]
@[simp] theorem execLeRnda_keepsCur (le : Fin 8) (x : BitVec 25) (s : State) : KeepsCur s (execLeRnda le x s) := by simp [execLeRnda]
@[simp] theorem execLeMovp_keepsCur (le : Fin 8) (x : BitVec 25) (s : State) : KeepsCur s (execLeMovp le x s) := by simp [execLeMovp]
@[simp] theorem execLeStepp_keepsCur (le : Fin 8) (x : BitVec 25) (s : State) : KeepsCur s (execLeStepp le x s) := by simp [execLeStepp]
@[simp] theorem execLeWrot_keepsCur (le : Fin 8) (x : BitVec 25) (s : State) : KeepsCur s (execLeWrot le x s) := by simp [execLeWrot]
@[simp] theorem execLeBr_keepsCur (le : Fin 8) (x : BitVec 25) (s : State) : KeepsCur s (execLeBr le x s) := by simp [execLeBr]
@[simp] theorem execLeCall_keepsCur (le : Fin 8) (x : BitVec 25) (s : State) : KeepsCur s (execLeCall le x s) := by simp [execLeCall]
@[simp] theorem execLeRet_keepsCur (le : Fin 8) (x : BitVec 25) (s : State) : KeepsCur s (execLeRet le x s) := by simp [execLeRet]
@[simp] theorem execLeRep_keepsCur (le : Fin 8) (x : BitVec 25) (s : State) : KeepsCur s (execLeRep le x s) := by simp [execLeRep]
@[simp] theorem execLeRti_keepsCur (le : Fin 8) (x : BitVec 25) (s : State) : KeepsCur s (execLeRti le x s) := by simp [execLeRti]
@[simp] theorem execFastInterrupt_keepsCur (le : Fin 8) (_input : Bool) (s : State) : KeepsCur s (execFastInterrupt le _input s) := by simp [execFastInterrupt]
@[simp] theorem execLawBudget_keepsCur (le : Fin 8) (s : State) : KeepsCur s (execLawBudget le s) := by simp [execLawBudget]
@[simp] theorem execLeIllegalOpcode_keepsCur (le : Fin 8) (word : Word) (s : State) : KeepsCur s (execLeIllegalOpcode le word s) := by simp [execLeIllegalOpcode]
@[simp] theorem lawCall_mode (s : State) (i t : Nat) : (lawCall s i t).mode = s.mode := by simp [lawCall]

@[simp] theorem execLoopBegin_keepsCur (le : Fin 8) (s : State) : KeepsCur s (execLoopBegin le s) := by
  unfold execLoopBegin
  dsimp only
  split <;> simp

/-! ### Twin operation: heartbeats, pairing, forwarded traffic, takeover, role swaps and proof swaps -/

@[simp] theorem twinTo_mode (s : State) (st : Nat) : (twinTo s st).mode = s.mode := by simp [twinTo]
@[simp] theorem aoSwitch_mode (s : State) (l : List Nat) (isOpen : Bool) : (aoSwitch s l isOpen).mode = s.mode := by simp [aoSwitch]
@[simp] theorem chSwitch_mode (s : State) (l : List Nat) (off : Bool) : (chSwitch s l off).mode = s.mode := by simp [chSwitch]

@[simp] theorem pairRefuse_mode (s : State) (why : Nat) : (pairRefuse s why).mode = s.mode := by
  unfold pairRefuse
  dsimp only
  split <;> simp

@[simp] theorem pairBegin_mode (s : State) : (pairBegin s).mode = s.mode := by simp [pairBegin]

@[simp] theorem execSeamHeartbeatSend_keepsCur (s : State) : KeepsCur s (execSeamHeartbeatSend s) := by
  unfold execSeamHeartbeatSend
  dsimp only
  repeat' split
  all_goals simp

@[simp] theorem execTwinPair_keepsCur (r : Req) (s : State) : KeepsCur s (execTwinPair r s) := by
  refine (keepsCur_next ..).mpr (command_cur ?_)
  simp

@[simp] theorem desync_mode (s : State) (why : Nat) : (desync s why).mode = s.mode := by simp [desync]

@[simp] theorem applyForwarded_mode (s : State) (op target a : Nat) (p : List Byte) : (applyForwarded s op target a p).mode = s.mode := by
  unfold applyForwarded
  split <;> simp

@[simp] theorem crcCheck_mode (s : State) (id : Nat) : (crcCheck s id).mode = s.mode := by
  unfold crcCheck
  split <;> simp

@[simp] theorem execSeamForwardReceive_keepsCur (msg : SeamMsg) (s : State) : KeepsCur s (execSeamForwardReceive msg s) := by
  unfold execSeamForwardReceive
  dsimp only
  repeat' split
  all_goals simp

@[simp] theorem execEndOfInstantTimeout_keepsCur (s : State) : KeepsCur s (execEndOfInstantTimeout s) := by simp [execEndOfInstantTimeout]
@[simp] theorem execTwinLaneFault_keepsCur (lane : Fin 2) (heavy : Bool) (s : State) : KeepsCur s (execTwinLaneFault lane heavy s) := by simp [execTwinLaneFault]
@[simp] theorem execParallelAnalogOpen_keepsCur (tile : Fin 4) (s : State) : KeepsCur s (execParallelAnalogOpen tile s) := by simp [execParallelAnalogOpen]
@[simp] theorem execParallelChannelRelease_keepsCur (tile : Fin 4) (s : State) : KeepsCur s (execParallelChannelRelease tile s) := by simp [execParallelChannelRelease]

@[simp] theorem execTwinSwap_keepsCur (r : Req) (s : State) : KeepsCur s (execTwinSwap r s) := by
  refine (keepsCur_next ..).mpr (command_cur ?_)
  split <;> simp

@[simp] theorem execTwinSwapAnalogClose_keepsCur (s : State) : KeepsCur s (execTwinSwapAnalogClose s) := by
  unfold execTwinSwapAnalogClose
  split <;> simp

@[simp] theorem execProofSwap_keepsCur (ma : List (BitVec 9 × Word)) (s : State) : KeepsCur s (execProofSwap ma s) := by
  unfold execProofSwap
  split <;> simp

@[simp] theorem execProofSwapRelease_keepsCur (s : State) : KeepsCur s (execProofSwapRelease s) := by simp [execProofSwapRelease]
@[simp] theorem execProofCheck_keepsCur (inc out : List (BitVec 9 × Word)) (s : State) : KeepsCur s (execProofCheck inc out s) := by simp [execProofCheck]

@[simp] theorem execTwinPinMismatch_keepsCur (c : BitVec 9) (mv : Nat) (s : State) : KeepsCur s (execTwinPinMismatch c mv s) := by
  unfold execTwinPinMismatch
  dsimp only
  split
  · simp
  · split <;> simp

@[simp] theorem execTwinStatusGet_keepsCur (r : Req) (s : State) : KeepsCur s (execTwinStatusGet r s) := by
  refine (keepsCur_next ..).mpr (command_cur ?_)
  simp

/-! ### The statement -/

/-- A command that is not one of those that enter a mode leaves it, by its own rule above or, for an engine's instruction, by the rule of the operation it is made of. -/
theorem exec_keepsCur {c : Instr} (hc : mayChangeMode c = false) (s : State) : KeepsCur s (exec c s) := by
  cases c <;> cases hc <;> dsimp only [exec] <;> simp [execReleaseEnd, execAcqPoolSwitchEnd, execBlLd, execBlLdn, execBlAnd, execBlAndn, execBlOr, execBlOrn, execBlXor, execBlXorn, execBlLdg,
    execBlAndg, execBlOrng, execBlSt, execBlStn, execBlSet, execBlRst, execBlNop, execBlNot, execBlLdt, execBlLdf, execBlLdfs, execBlLdqd,
    execBlAndOpen, execBlOrOpen, execBlXorOpen, execBlPsh, execBlClose, execBlPop, execBlLdw, execBlAdd, execBlSub, execBlAndw, execBlOrw, execBlXorw,
    execBlStw, execBlLdi, execBlLdhi, execBlSwap, execBlMovab, execBlLdq, execBlLdtr, execBlLds, execBlCls, execBlNeg, execBlAddi, execBlNotw,
    execBlShl, execBlShr, execBlAsr, execBlAddf, execBlSubf, execBlMulf, execBlItof, execBlAbsf, execBlNegf, execBlEq, execBlNe, execBlLt, execBlLe,
    execBlGt, execBlGe, execBlLtu, execBlGeu, execBlLtf, execBlLef, execBlGtf, execBlGef, execBlEqf, execBlJmp, execBlJc, execBlJcn, execBlCall,
    execBlCallc, execBlRet, execBlRetc, execBlTon, execBlTof, execBlTp, execBlRTrig, execBlFTrig, execBlEnd, execBlEndc, execPermitEdge,
    execErrinRelease, execStewardHeartbeat, execRefclkReturn, execLeMpy, execLeMac, execLeMsu, execLeMacl, execLeMsul, execLeMpyl, execLeMove,
    execLeDmove, execLeMov, execLeAdd, execLeSub, execLeAddi, execLeAnd, execLeOr, execLeXor, execLeShl, execLeAsr, execLeLsr, execLeNeg, execLeAbs,
    execLeMin, execLeMax, execLeMuli, execLeClr, execLeLda, execLeSta, execLeAdda, execLeSuba, execLeAshr, execLeAddaa, execLeMovaa, execLeCmpa,
    execLeStg, execLeLdg]

/-- A period of T0 leaves the mode (R23). -/
@[simp] theorem tick_mode (s : State) : (tick s).mode = s.mode := by
  by_cases hk : s.mode.cur = .keep
  · rw [tick_in_keep hk]
  · exact (sameRun_tick hk).mode

/-- Settles O58: an empty queue lets a period pass, and of the commands only those named have no rule that keeps the mode. -/
theorem modeChangesOnlyByTheseCommands : Obligations.ModeChangesOnlyByTheseCommands := by
  unfold Obligations.ModeChangesOnlyByTheseCommands
  intro s t hstep hne
  cases hp : s.pending with
  | nil =>
    rw [step_of_empty hp] at hstep
    cases hstep
    exact absurd (congrArg ModeSt.cur (tick_mode s)) hne
  | cons c rest =>
    refine ⟨c, rest, rfl, ?_⟩
    by_contra hc
    have hexec : exec c { s with pending := rest } = .next t := by
      rw [← hstep, step, hp]
    exact hne (exec_keepsCur (Bool.eq_false_iff.mpr hc) { s with pending := rest } t hexec)

end Sys2Proof.Proofs
end

section
/-! The state after reset (R68, R364, R524, R526). -/

namespace Sys2Proof.Proofs

open Sys2Proof.Machine Sys2Proof.Laws

/-! ### What BAR0 reads at reset (R524, R526): closed facts about the one state, register by register -/

theorem bar0Read_reset_device : ∀ e ∈ ([(0x0000, 0x44594C44), (0x0004, 0x16480B00), (0x0008, 0), (0x000C, 0), (0x0038, 0x16481F4E), (0x003C, 0xFE200808),
    (0x0100, 0x3001), (0x0104, 0), (0x0110, 0), (0x0114, 0), (0x0118, 0), (0x011C, 0), (0x0120, 0), (0x0124, 0)] : List (Nat × Nat)),
    (bar0Read State.reset e.1).1 = e.2 := by
  decide

/-- No mailbox holds a frame, an error or an owner; of its registers only the interrupt configuration is not 0. -/
theorem bar0Read_reset_mailbox : ∀ m, m < 8 →
    (∀ o ∈ ([0x00, 0x04, 0x08, 0x0C, 0x10, 0x14, 0x18, 0x1C, 0x20, 0x24, 0x2C] : List Nat), (bar0Read State.reset (0x0400 + 64 * m + o)).1 = 0) ∧
      (bar0Read State.reset (0x0400 + 64 * m + 0x28)).1 = 1 := by
  decide

/-- The Ridge's words read its points, none of which has been updated. -/
theorem bar0Read_reset_ridge : ∀ n, n < 10 → (bar0Read State.reset (0x1000 + 4 * n)).1 = 0 := by
  decide

/-- Settles O55: the registers by the facts above; a memory that lists nothing is canonical and reads zero. -/
theorem resetStateIsBootWithTheRegistersAtReset : Obligations.ResetStateIsBootWithTheRegistersAtReset := by
  unfold Obligations.ResetStateIsBootWithTheRegistersAtReset
  exact ⟨rfl, rfl, rfl, rfl, bar0Read_reset_device, bar0Read_reset_mailbox, bar0Read_reset_ridge, wf_nil, wf_nil, fun _ => ⟨rfl, rfl⟩⟩

end Sys2Proof.Proofs
end

section
/-! The parts of the state that the change of a mode's behaviour leaves alone: the T0, the queue, the mode, the restart record and the host's registers. -/

namespace Sys2Proof.Proofs

open Sys2Proof.Machine Sys2Proof.Laws Sys2Proof.Safety

/-! ### The relation -/

/-- `t` has the T0, the queue, the mode, the restart record and the host's registers of `s`. -/
structure SameBase (s t : State) : Prop where
  t0 : t.t0 = s.t0
  pending : t.pending = s.pending
  mode : t.mode = s.mode
  rst : t.rst = s.rst
  host : t.host = s.host

theorem sameBase_iff (s t : State) : SameBase s t ↔ t.t0 = s.t0 ∧ t.pending = s.pending ∧ t.mode = s.mode ∧ t.rst = s.rst ∧ t.host = s.host :=
  ⟨fun h => ⟨h.t0, h.pending, h.mode, h.rst, h.host⟩, fun ⟨ht, hp, hm, hr, hh⟩ => ⟨ht, hp, hm, hr, hh⟩⟩

@[simp] theorem SameBase.refl (s : State) : SameBase s s := ⟨rfl, rfl, rfl, rfl, rfl⟩

theorem SameBase.trans {s t u : State} (h : SameBase s t) (k : SameBase t u) : SameBase s u :=
  ⟨k.t0.trans h.t0, k.pending.trans h.pending, k.mode.trans h.mode, k.rst.trans h.rst, k.host.trans h.host⟩

theorem SameBase.symm {s t : State} (h : SameBase s t) : SameBase t s := ⟨h.t0.symm, h.pending.symm, h.mode.symm, h.rst.symm, h.host.symm⟩

/-- What keeps them may be left away. -/
theorem SameBase.iff {s t : State} (h : SameBase s t) {u : State} : SameBase u t ↔ SameBase u s := ⟨fun k => k.trans h.symm, fun k => k.trans h⟩

@[simp] theorem sameBase_ite (s a b : State) (c : Prop) [Decidable c] : SameBase s (if c then a else b) ↔ if c then SameBase s a else SameBase s b := by
  split <;> rfl

/-- The parts that the relation does not name may change. -/
@[simp] theorem sameBase_mk (u s : State) (clock : ClockSt) (islands : Tbl IslandSt) (links : Tbl LinkSt) (nodes : Tbl NodeSt) (memErr : MemErrSt) (img : ImageSt)
    (params : ParamSt) (deck : DeckSt) (fw : FwSt) (sched : SchedSt) (recd : RecSt) (thatch : ThatchSt) (ridge : RidgeSt) (domains : Tbl DomainSt) (can : Tbl CanSt)
    (eth : Tbl EthSt) (csx : Tbl CsxBlock) (loops : Tbl LoopSt) (loopEng : Tbl LoopEng) (evq : List Event) (faultq : List FaultRep) (outbox : List OutMsg)
    (pocket : PocketSt) (motion : MotionSt) (io : FieldSt) (twin : TwinSt) (cv : CvSt) (track : TrackSt) (streams : Tbl StreamSt) (acq : Tbl AcqUnit)
    (lines : Tbl TrgLine) (freeCtr : Nat) {mode : ModeSt} (hm : mode = s.mode) :
    SameBase u { s with
      clock := clock, islands := islands, links := links, nodes := nodes, memErr := memErr, img := img, mode := mode, params := params, deck := deck, fw := fw, sched := sched,
      recd := recd, thatch := thatch, ridge := ridge, domains := domains, can := can, eth := eth, csx := csx,
      loops := loops, loopEng := loopEng, evq := evq, faultq := faultq, outbox := outbox,
      pocket := pocket, motion := motion, io := io, twin := twin, cv := cv, track := track, streams := streams, acq := acq, lines := lines, freeCtr := freeCtr } ↔ SameBase u s :=
  ⟨fun h => ⟨h.t0, h.pending, hm.symm.trans h.mode, h.rst, h.host⟩, fun h => ⟨h.t0, h.pending, hm.trans h.mode, h.rst, h.host⟩⟩

@[simp] theorem sameBase_foldl {β : Type} {f : State → β → State} (h : ∀ s b, SameBase s (f s b)) (l : List β) (u s : State) :
    SameBase u (l.foldl f s) ↔ SameBase u s :=
  SameBase.iff (List.foldlRecOn l f (.refl s) fun _ k b _ => k.trans (h _ b))


/-! ### The operations, in the order of the model -/

@[simp] theorem sameBase_note {old s : State} (cls : Ev) (isl unit : Nat) (object : Nat) (payload : List Nat) :
    SameBase old (note s cls isl unit object payload) ↔ SameBase old s := by
  simp [note]

@[simp] theorem sameBase_send {old s : State} (kind : Out) (dst : Nat) (arg : List Int) (bytes : List Byte) : SameBase old (send s kind dst arg bytes) ↔ SameBase old s := by
  simp [send]

@[simp] theorem sameBase_fresh {old s : State} : SameBase old (fresh s).2 ↔ SameBase old s := by simp [fresh]
@[simp] theorem sameBase_showUpd {old s : State} (u : Upd) : SameBase old (showUpd s u) ↔ SameBase old s := by simp [showUpd]

@[simp] theorem sameBase_forward {old s : State} (kind : Nat) (args : List Nat) (bytes : List Byte) : SameBase old (forward s kind args bytes) ↔ SameBase old s := by
  simp [forward]

@[simp] theorem sameBase_update {old s : State} (t p : Nat) (v : Word) (c : BitVec 16) :
    SameBase old (update s t p v c) ↔ SameBase old s := SameBase.iff (by simp [sameBase_iff])

@[simp] theorem sameBase_updates {old s : State} (t : Nat) (l : List (Nat × Word × BitVec 16)) : SameBase old (updates s t l) ↔ SameBase old s := by simp [updates]
@[simp] theorem sameBase_sysPoint {old s : State} (index v : Nat) : SameBase old (sysPoint s index v) ↔ SameBase old s := by simp [sysPoint]
@[simp] theorem sameBase_putField {old s : State} (p : Nat) (v : Word) (c : BitVec 16) : SameBase old (putField s p v c) ↔ SameBase old s := by simp [putField]
@[simp] theorem sameBase_setChan {old s : State} (c : Nat) (f : ChSt → ChSt) : SameBase old (setChan s c f) ↔ SameBase old s := by simp [setChan]
@[simp] theorem sameBase_chFacets {old s : State} (c : Nat) : SameBase old (chFacets s c) ↔ SameBase old s := by simp [chFacets]
@[simp] theorem sameBase_chRefresh {old s : State} (c : Nat) : SameBase old (chRefresh s c) ↔ SameBase old s := by simp [chRefresh]
@[simp] theorem sameBase_setAout {old s : State} (a : Nat) (f : AoSt → AoSt) : SameBase old (setAout s a f) ↔ SameBase old s := by simp [setAout]

@[simp] theorem sameBase_aoRefresh {old s : State} (a : Nat) : SameBase old (aoRefresh s a) ↔ SameBase old s := by
  unfold aoRefresh
  split <;> simp

@[simp] theorem sameBase_timePoints {old s : State} (d : Nat) : SameBase old (timePoints s d) ↔ SameBase old s := by simp [timePoints]
@[simp] theorem sameBase_noteHold {old s : State} (d st : Nat) : SameBase old (noteHold s d st) ↔ SameBase old s := by simp [noteHold]
@[simp] theorem sameBase_setStation {old s : State} (k : Nat) (f : Station → Station) : SameBase old (setStation s k f) ↔ SameBase old s := by simp [setStation]
@[simp] theorem sameBase_setCan {old s : State} (c : Nat) (f : CanSt → CanSt) : SameBase old (setCan s c f) ↔ SameBase old s := by simp [setCan]
@[simp] theorem sameBase_setCanSlot {old s : State} (c k : Nat) (f : CanSlot → CanSlot) : SameBase old (setCanSlot s c k f) ↔ SameBase old s := by simp [setCanSlot]
@[simp] theorem sameBase_canSlotPoints {old s : State} (c k : Nat) : SameBase old (canSlotPoints s c k) ↔ SameBase old s := by simp [canSlotPoints]

@[simp] theorem sameBase_canEnter {old s : State} (c k id : Nat) (data : List Byte) (stn : Option Nat) (tt : Bool) :
    SameBase old (canEnter s c k id data stn tt) ↔ SameBase old s := by
  unfold canEnter
  split <;> simp

@[simp] theorem sameBase_setEth {old s : State} (p : Nat) (f : EthSt → EthSt) : SameBase old (setEth s p f) ↔ SameBase old s := by simp [setEth]
@[simp] theorem sameBase_ethPoints {old s : State} (p : Nat) : SameBase old (ethPoints s p) ↔ SameBase old s := by simp [ethPoints]
@[simp] theorem sameBase_ethDrain {old s : State} (p : Nat) : SameBase old (ethDrain s p) ↔ SameBase old s := by simp [ethDrain]
@[simp] theorem sameBase_ethEnqueue {old s : State} (p q key : Nat) (b : List Byte) : SameBase old (ethEnqueue s p q key b) ↔ SameBase old s := by simp [ethEnqueue]

@[simp] theorem sameBase_csxSend {old s : State} (k bi : Nat) (b : Block) (t : Nat) (always : Bool) : SameBase old (csxSend s k bi b t always) ↔ SameBase old s := by
  simp [csxSend]

@[simp] theorem sameBase_blockSend {old s : State} (k bi : Nat) (b : Block) (t : Nat) (always : Bool) : SameBase old (blockSend s k bi b t always) ↔ SameBase old s := by
  simp [blockSend]

@[simp] theorem sameBase_netApply {old s : State} (t rel : Nat) (pts : List Nat) (always : Bool) : SameBase old (netApply s t rel pts always) ↔ SameBase old s := by
  simp [netApply]

@[simp] theorem sameBase_setNode {old s : State} (n : Nat) (f : NodeSt → NodeSt) : SameBase old (setNode s n f) ↔ SameBase old s := by simp [setNode]
@[simp] theorem sameBase_setTask {old s : State} (i : Nat) (f : TaskSt → TaskSt) : SameBase old (setTask s i f) ↔ SameBase old s := by simp [setTask]
@[simp] theorem sameBase_setEngine {old s : State} (c : Nat) (f : EngineSt → EngineSt) : SameBase old (setEngine s c f) ↔ SameBase old s := by simp [setEngine]
@[simp] theorem sameBase_taskPoints {old s : State} (i : Nat) : SameBase old (taskPoints s i) ↔ SameBase old s := by simp [taskPoints]

@[simp] theorem sameBase_sendSet {old s : State} (id rel at_ : Nat) (exact : Bool) (outs : List OutVal) : SameBase old (sendSet s id rel at_ exact outs) ↔ SameBase old s := by
  simp [sendSet]

@[simp] theorem sameBase_sendApply {old s : State} (nodes : List Nat) (id at_ : Nat) : SameBase old (sendApply s nodes id at_) ↔ SameBase old s := by
  simp [sendApply]

@[simp] theorem sameBase_setPocket {old s : State} (f : PocketSt → PocketSt) : SameBase old (setPocket s f) ↔ SameBase old s := by simp [setPocket]
@[simp] theorem sameBase_journalAdd {old s : State} (t : JTxn) : SameBase old (journalAdd s t) ↔ SameBase old s := by simp [journalAdd]
@[simp] theorem sameBase_initData {old s : State} (k : Nat) : SameBase old (initData s k) ↔ SameBase old s := by simp [initData]
@[simp] theorem sameBase_setTrack {old s : State} (f : TrackSt → TrackSt) : SameBase old (setTrack s f) ↔ SameBase old s := by simp [setTrack]
@[simp] theorem sameBase_setOp {old s : State} (i : Nat) (f : OpSt → OpSt) : SameBase old (setOp s i f) ↔ SameBase old s := by simp [setOp]
@[simp] theorem sameBase_setStream {old s : State} (k : Nat) (f : StreamSt → StreamSt) : SameBase old (setStream s k f) ↔ SameBase old s := by simp [setStream]
@[simp] theorem sameBase_setThatch {old s : State} (f : ThatchSt → ThatchSt) : SameBase old (setThatch s f) ↔ SameBase old s := by simp [setThatch]
@[simp] theorem sameBase_syncLogs {old s : State} (p : Nat) : SameBase old (syncLogs s p) ↔ SameBase old s := by simp [syncLogs]
@[simp] theorem sameBase_spanBoundary {old s : State} (k : Nat) : SameBase old (spanBoundary s k) ↔ SameBase old s := by simp [spanBoundary]

@[simp] theorem sameBase_opBoundary {old s : State} (o : OpSt) : SameBase old (opBoundary s o) ↔ SameBase old s := by
  unfold opBoundary
  split <;> simp

@[simp] theorem sameBase_opPoints {old s : State} (i : Nat) : SameBase old (opPoints s i) ↔ SameBase old s := by simp [opPoints]
@[simp] theorem sameBase_trackPoints {old s : State}  : SameBase old (trackPoints s) ↔ SameBase old s := by simp [trackPoints]
@[simp] theorem sameBase_opState {old s : State} (i : Nat) : SameBase old (opState s i) ↔ SameBase old s := by simp [opState]

@[simp] theorem sameBase_opCommit {old s : State} (boundary : Bool) (ops : List (Nat × Bool)) (extra : List (Nat × List Byte)) :
    SameBase old (opCommit s boundary ops extra) ↔ SameBase old s := by
  simp [opCommit]

@[simp] theorem sameBase_opEnd {old s : State} (h status : Nat) (commit : Bool) : SameBase old (opEnd s h status commit) ↔ SameBase old s := by
  unfold opEnd
  split <;> simp

@[simp] theorem sameBase_opPark {old s : State} (h : Nat) : SameBase old (opPark s h) ↔ SameBase old s := by
  unfold opPark
  split <;> simp

@[simp] theorem sameBase_setAxis {old s : State} (x : Nat) (f : AxSt → AxSt) : SameBase old (setAxis s x f) ↔ SameBase old s := by simp [setAxis]
@[simp] theorem sameBase_setProf {old s : State} (i : Nat) (f : PfSt → PfSt) : SameBase old (setProf s i f) ↔ SameBase old s := by simp [setProf]
@[simp] theorem sameBase_keepLoad {old s : State} (x : Nat) : SameBase old (keepLoad s x) ↔ SameBase old s := by simp [keepLoad]
@[simp] theorem sameBase_setLoop {old s : State} (i : Nat) (f : LoopSt → LoopSt) : SameBase old (setLoop s i f) ↔ SameBase old s := by simp [setLoop]
@[simp] theorem sameBase_settleLive {old s : State} (t : Nat) : SameBase old (settleLive s t) ↔ SameBase old s := by simp [settleLive]
@[simp] theorem sameBase_enterForce {old s : State} (m : Mode) (t : Nat) : SameBase old (enterForce s m t) ↔ SameBase old s := by simp [enterForce]

@[simp] theorem sameBase_forceStep {old s : State} (f : ForcePend) : SameBase old (forceStep s f) ↔ SameBase old s := by
  unfold forceStep
  dsimp only
  split <;> simp

@[simp] theorem sameBase_streamPoints {old s : State} (k : Nat) : SameBase old (streamPoints s k) ↔ SameBase old s := by simp [streamPoints]
@[simp] theorem sameBase_endSubs {old s : State} (h : Nat) (abort : Bool) : SameBase old (endSubs s h abort) ↔ SameBase old s := by simp [endSubs]
@[simp] theorem sameBase_finishStream {old s : State} (k st : Nat) : SameBase old (finishStream s k st) ↔ SameBase old s := by simp [finishStream]
@[simp] theorem sameBase_abortNow {old s : State} (k : Nat) : SameBase old (abortNow s k) ↔ SameBase old s := by simp [abortNow]
@[simp] theorem sameBase_parkOps {old s : State} (k : Nat) : SameBase old (parkOps s k) ↔ SameBase old s := by simp [parkOps]
@[simp] theorem sameBase_parkStream {old s : State} (k : Nat) : SameBase old (parkStream s k) ↔ SameBase old s := by simp [parkStream]
@[simp] theorem sameBase_parkNow {old s : State} (k : Nat) : SameBase old (parkNow s k) ↔ SameBase old s := by simp [parkNow]

@[simp] theorem sameBase_commitHistory {base new : State} (old : State) : SameBase base (commitHistory old new) ↔ SameBase base new := by
  unfold commitHistory
  dsimp only
  split
  · simp only [sameBase_mk]
  · simp only [sameBase_note, sameBase_mk]

@[simp] theorem sameBase_useDeck {old s : State} (deck : List Byte) (imgs : Tbl (List Byte)) : SameBase old (useDeck s deck imgs) ↔ SameBase old s := by
  unfold useDeck
  simp only [sameBase_commitHistory, sameBase_mk]

@[simp] theorem sameBase_loadBlocks {old s : State} (i : Nat) : SameBase old (loadBlocks s i) ↔ SameBase old s := by simp [loadBlocks]
@[simp] theorem sameBase_loadLaws {old s : State} (le : Nat) : SameBase old (loadLaws s le) ↔ SameBase old s := by simp [loadLaws]
@[simp] theorem sameBase_loadEngines {old s : State}  : SameBase old (loadEngines s) ↔ SameBase old s := by simp [loadEngines]
@[simp] theorem sameBase_pocketHeader {old s : State} (l : List (Nat × List Byte)) : SameBase old (pocketHeader s l) ↔ SameBase old s := by simp [pocketHeader]
@[simp] theorem sameBase_takeDefaults {old s : State}  : SameBase old (takeDefaults s) ↔ SameBase old s := by simp [takeDefaults]
@[simp] theorem sameBase_refreshOuts {old s : State}  : SameBase old (refreshOuts s) ↔ SameBase old s := by simp [refreshOuts]
@[simp] theorem sameBase_endForces {old s : State} (t : Nat) (which : Bool → Bool) : SameBase old (endForces s t which) ↔ SameBase old s := by simp [endForces]
@[simp] theorem sameBase_holdStreams {old s : State}  : SameBase old (holdStreams s) ↔ SameBase old s := by simp [holdStreams]
@[simp] theorem sameBase_unholdStreams {old s : State} (t : Nat) : SameBase old (unholdStreams s t) ↔ SameBase old s := by simp [unholdStreams]
@[simp] theorem sameBase_parkAll {old s : State}  : SameBase old (parkAll s) ↔ SameBase old s := by simp [parkAll]

@[simp] theorem sameBase_modeEffects {old s : State} (was : Mode) (ran : List Nat) (t : Nat) : SameBase old (modeEffects s was ran t) ↔ SameBase old s := by
  unfold modeEffects
  dsimp only
  split
  · simp
  · split <;> simp

@[simp] theorem sameBase_setRidge {old s : State} (f : RidgeSt → RidgeSt) : SameBase old (setRidge s f) ↔ SameBase old s := by simp [setRidge]
@[simp] theorem sameBase_ridgeConfig {old s : State}  : SameBase old (ridgeConfig s) ↔ SameBase old s := by simp [ridgeConfig]
@[simp] theorem sameBase_causeEnd {old s : State} (p : Latch → Bool) : SameBase old (causeEnd s p) ↔ SameBase old s := by simp [causeEnd]
@[simp] theorem sameBase_setAcq {old s : State} (u : Nat) (f : AcqUnit → AcqUnit) : SameBase old (setAcq s u f) ↔ SameBase old s := by simp [setAcq]
@[simp] theorem sameBase_acqPoints {old s : State} (u : Nat) : SameBase old (acqPoints s u) ↔ SameBase old s := sameBase_updates ..
@[simp] theorem sameBase_acqArm {old s : State} (u : Nat) (keepPool : Bool) : SameBase old (acqArm s u keepPool) ↔ SameBase old s := by simp [acqArm]

@[simp] theorem sameBase_recipeFor {old s : State} (k step : Nat) : SameBase old (recipeFor s k step).2 ↔ SameBase old s := by
  unfold recipeFor
  dsimp only
  generalize (if List.isEmpty _ = true then _ else _ : List (Nat × List Byte)) = l
  split <;> simp

@[simp] theorem sameBase_streamRestore {old s : State} (i : Nat) (o : OpSt) (counters : List Nat) :
    SameBase old (streamRestore s i o counters) ↔ SameBase old s := by
  unfold streamRestore
  dsimp only
  split
  · split <;> simp
  · simp

@[simp] theorem sameBase_streamHold {old s : State} (k : Nat) (l : List OutVal) : SameBase old (streamHold s k l) ↔ SameBase old s := by simp [streamHold]

@[simp] theorem sameBase_opAct {old s : State} (i : Nat) (o : OpSt) (eff outage : Nat) : SameBase old (opAct s i o eff outage) ↔ SameBase old s := by
  unfold opAct
  dsimp only
  repeat' split
  all_goals simp

@[simp] theorem sameBase_opResume {old s : State} (i : Nat) : SameBase old (opResume s i) ↔ SameBase old s := by simp [opResume]
@[simp] theorem sameBase_opRules {old s : State} (was : List (Nat × Nat)) : SameBase old (opRules s was) ↔ SameBase old s := by simp [opRules]
@[simp] theorem sameBase_loopSeed {old s : State} (i : Nat) (r : Rat) : SameBase old (loopSeed s i r) ↔ SameBase old s := by simp [loopSeed]
@[simp] theorem sameBase_tilesLive {old s : State}  : SameBase old (tilesLive s) ↔ SameBase old s := by simp [tilesLive]
@[simp] theorem sameBase_loopsPrepare {old s : State}  : SameBase old (loopsPrepare s) ↔ SameBase old s := by simp [loopsPrepare]
@[simp] theorem sameBase_axesPrepare {old s : State}  : SameBase old (axesPrepare s) ↔ SameBase old s := by simp [axesPrepare]
@[simp] theorem sameBase_csxReturn {old s : State}  : SameBase old (csxReturn s) ↔ SameBase old s := by simp [csxReturn]

end Sys2Proof.Proofs
end

section
/-! Entering a mode (R71-R74): what `enterMode` sets and what it leaves. -/

namespace Sys2Proof.Proofs

open Sys2Proof.Machine Sys2Proof.Laws Sys2Proof.Safety

/-! ### Answers on the way -/

/-- `t` has the T0, the queue, the mode, the restart record and the host's registers of `s`, up to the mailboxes and the ranges that their commands hold. -/
structure SameButMailboxes (s t : State) : Prop where
  t0 : t.t0 = s.t0
  pending : t.pending = s.pending
  mode : t.mode = s.mode
  rst : t.rst = s.rst
  host : ∃ x h, t.host = { s.host with mbx := x, holds := h }

theorem SameBase.butMailboxes {s t : State} (h : SameBase s t) : SameButMailboxes s t := ⟨h.t0, h.pending, h.mode, h.rst, _, _, h.host⟩

theorem SameButMailboxes.refl (s : State) : SameButMailboxes s s := (SameBase.refl s).butMailboxes

theorem SameButMailboxes.trans {s t u : State} (h : SameButMailboxes s t) (k : SameButMailboxes t u) : SameButMailboxes s u := by
  obtain ⟨x, l, hh⟩ := h.host
  obtain ⟨x', l', hk⟩ := k.host
  exact ⟨k.t0.trans h.t0, k.pending.trans h.pending, k.mode.trans h.mode, k.rst.trans h.rst, x', l', by rw [hk, hh]⟩

theorem sameButMailboxes_finish (s : State) (r : Req) (op : Nat) (isC : Bool) (st : Nat) (p : List Byte) : SameButMailboxes s (finish s r op isC st p) :=
  ⟨finish_t0 .., finish_pending .., finish_mode .., finish_rst .., finish_host_frame ..⟩

/-- Taking a committed Deck into use answers its DECK_COMMIT (R88, R549). -/
theorem sameButMailboxes_commitDeck (s : State) : SameButMailboxes s (commitDeck s) := by
  unfold commitDeck
  split
  · split
    · exact .refl s
    · exact .trans (SameBase.butMailboxes (by simp)) (sameButMailboxes_finish ..)
  · exact .refl s

/-! ### The entry -/

/-- `t` has entered `new` from `s` as of the instant `a`, with the change's interrupt cause set; the restart record and what the Steward shows of itself are as they were. -/
structure Entered (s : State) (new : Mode) (a : Nat) (t : State) : Prop where
  cur : t.mode.cur = new
  since : t.mode.since = a
  pend : t.mode.pend = none
  told : t.host.intStatus.getLsbD 16 = true
  t0 : t.t0 = s.t0
  pending : t.pending = s.pending
  rst : t.rst = s.rst
  ready : t.host.ready = s.host.ready

theorem Entered.sameButMailboxes {s t u : State} {new : Mode} {a : Nat} (h : Entered s new a t) (k : SameButMailboxes t u) : Entered s new a u := by
  obtain ⟨x, l, hk⟩ := k.host
  exact ⟨k.mode ▸ h.cur, k.mode ▸ h.since, k.mode ▸ h.pend, by rw [hk]; exact h.told, k.t0.trans h.t0, k.pending.trans h.pending, k.rst.trans h.rst,
    by rw [hk]; exact h.ready⟩

@[simp] theorem irq_ready (s : State) (b : Nat) : (irq s b).host.ready = s.host.ready := by
  simp only [irq]
  split <;> rfl

/-- What follows the change itself, the mode's point, record and behaviour, keeps the mode it was changed to. -/
theorem entered_enterMode (s : State) (new : Mode) (trigger a : Nat) : Entered s new a (enterMode s new trigger a) := by
  unfold enterMode
  extract_lets old was ran s1 g g0 s2 m s3 s4 s5
  have h1 : SameButMailboxes s s1 := by
    unfold s1
    split
    · exact sameButMailboxes_commitDeck s
    · exact .refl s
  have h2 : SameButMailboxes s s2 := h1.trans (SameBase.butMailboxes (by simp [s2]))
  have h5 : SameBase s3 (note s4 Ev.modeChange 0x00 0 0 [old.num, new.num, trigger, a, g0, g]) := by simp [s4]
  have h6 : SameBase s5 (refreshOuts (modeEffects s5 was ran a)) := by simp
  obtain ⟨x, l, hhost⟩ := h2.host
  have hready : s5.host.ready = s.host.ready := by
    unfold s5
    rw [irq_ready, h5.host]
    show s2.host.ready = s.host.ready
    rw [hhost]
  have hmode : (refreshOuts (modeEffects s5 was ran a)).mode = s3.mode := by
    rw [h6.mode, irq_mode, h5.mode]
  refine ⟨by rw [hmode], by rw [hmode], by rw [hmode], ?_, ?_, ?_, ?_, (congrArg HostSt.ready h6.host).trans hready⟩
  · rw [h6.host, getLsbD_irq_intStatus _ _ (by decide)]
    simp
  · rw [h6.t0, irq_t0, h5.t0]
    exact h2.t0
  · rw [h6.pending, irq_pending, h5.pending]
    exact h2.pending
  · rw [h6.rst, irq_rst, h5.rst]
    exact h2.rst

end Sys2Proof.Proofs
end

section
/-! Mode requests and mode entries (R71-R74, R364, R560). -/

namespace Sys2Proof.Proofs

open Sys2Proof.Machine Sys2Proof.Laws Sys2Proof.Safety

/-! ### MODE_SET -/

/-- The state in which an admitted request's transition begins: leaving M2 discards a Deck that is staged and not committed. -/
def stagedDropped (s : State) : State :=
  if s.mode.cur = .config ∧ s.deck.stagedOk then
    note (setDeck s (fun d => { d with stagedOk := false, staged := tdel d.staged (imgKey 1 0) })) Ev.deckDiscard 0x00 0 0 [hdrGen (stagedImg s (imgKey 1 0))] else s

theorem sameBase_stagedDropped (s : State) : SameBase s (stagedDropped s) := by
  unfold stagedDropped
  split
  · simp [sameBase_iff, setDeck]
  · exact .refl s

/-- What MODE_SET does once the mode it names is known. -/
def modeSetTo (s : State) (r : Req) (m : Mode) : State :=
  if m = s.mode.cur then (let (v, s) := fresh s; finish s r 0x0002 true 0 (leBytes 8 v.toNat))
  else if !hostTransition s.mode.cur m then finish s r 0x0002 true 0x0201
  else if s.mode.cur = .safe then safeReset s r 0x0002
  else if !dwellOk s then finish s r 0x0002 true 0x050C
  else if s.mode.cur = .config ∧ !s.deck.inUse then finish s r 0x0002 true 0x0108
  else if (s.mode.cur = .run ∨ s.mode.cur = .hold) ∧ m = .idle ∧ streamsActive s then finish s r 0x0002 true 0x0202
  else finish (pendMode (stagedDropped s) m 0).1 r 0x0002 true 0 (leBytes 8 (pendMode (stagedDropped s) m 0).2)

section ModeSet

variable {s : State} {r : Req}

section Exec

variable (h : Runs s r 0x0002 true [.config, .idle, .run, .hold, .maint, .safe] 4 (r.target == 0 && fld r.payload 1 3 == 0))
include h

theorem exec_modeSet_pending (hp : s.mode.pend ≠ none ∨ (s.mode.cur = .config ∧ s.deck.committing ≠ none)) :
    exec (.modeSet r) s = .next (finish (begun s r 0x0002) r 0x0002 true 0x0501) := by
  simp only [← Option.isSome_iff_ne_none] at hp
  exact congrArg Host.Outcome.next ((command_runs h _).trans (if_pos hp))

variable (hp : s.mode.pend = none) (hc : s.mode.cur = .config → s.deck.committing = none)
include hp hc

omit h in
theorem modeSet_free : ¬ (s.mode.pend.isSome ∨ (s.mode.cur = .config ∧ s.deck.committing.isSome)) := by
  rintro (hsome | ⟨hcur, hsome⟩)
  · simp [hp] at hsome
  · simp [hc hcur] at hsome

theorem exec_modeSet_unknown (hm : modeOf (fld r.payload 0 1) = none) :
    exec (.modeSet r) s = .next (finish (begun s r 0x0002) r 0x0002 true 0x0201) := by
  refine congrArg Host.Outcome.next ((command_runs h _).trans ((if_neg (modeSet_free hp hc)).trans ?_))
  rw [hm]

theorem exec_modeSet_known {m : Mode} (hm : modeOf (fld r.payload 0 1) = some m) :
    exec (.modeSet r) s = .next (modeSetTo (begun s r 0x0002) r m) := by
  refine congrArg Host.Outcome.next ((command_runs h _).trans ((if_neg (modeSet_free hp hc)).trans ?_))
  rw [hm]
  rfl

end Exec

variable {m : Mode}

/-- The present mode is answered with nothing changed. -/
theorem modeSetTo_present (hm : m = s.mode.cur) : (modeSetTo s r m).mode = s.mode := by
  rw [modeSetTo, if_pos hm]
  exact finish_mode ..

variable (hm : m ≠ s.mode.cur)
include hm

theorem modeSetTo_forbidden (ht : hostTransition s.mode.cur m = false) : modeSetTo s r m = finish s r 0x0002 true 0x0201 :=
  (if_neg hm).trans (if_pos (by simp [ht]))

variable (ht : hostTransition s.mode.cur m = true)
include ht

theorem modeSetTo_safe (hs : s.mode.cur = .safe) : modeSetTo s r m = safeReset s r 0x0002 :=
  (if_neg hm).trans ((if_neg (by simp [ht])).trans (if_pos hs))

variable (hs : s.mode.cur ≠ .safe)
include hs

theorem modeSetTo_early (hd : s.t0 < s.mode.since + param s pModeMinDwell s.mode.cur.num * ms) : modeSetTo s r m = finish s r 0x0002 true 0x050C :=
  (if_neg hm).trans ((if_neg (by simp [ht])).trans ((if_neg hs).trans (if_pos (by simp [dwellOk, hd]))))

variable (hd : s.mode.since + param s pModeMinDwell s.mode.cur.num * ms ≤ s.t0)
include hd

/-- Past the minimum dwell what the present mode still holds decides. -/
theorem modeSetTo_dwelt :
    modeSetTo s r m =
      if s.mode.cur = .config ∧ !s.deck.inUse then finish s r 0x0002 true 0x0108
      else if (s.mode.cur = .run ∨ s.mode.cur = .hold) ∧ m = .idle ∧ streamsActive s then finish s r 0x0002 true 0x0202
      else finish (pendMode (stagedDropped s) m 0).1 r 0x0002 true 0 (leBytes 8 (pendMode (stagedDropped s) m 0).2) :=
  (if_neg hm).trans ((if_neg (by simp [ht])).trans ((if_neg hs).trans (if_neg (by simp [dwellOk, hd]))))

theorem modeSetTo_noDeck (hc : s.mode.cur = .config) (hu : s.deck.inUse = false) : modeSetTo s r m = finish s r 0x0002 true 0x0108 :=
  (modeSetTo_dwelt hm ht hs hd).trans (if_pos ⟨hc, by simp [hu]⟩)

theorem modeSetTo_streams (hc : s.mode.cur = .run ∨ s.mode.cur = .hold) (hi : m = .idle) (ha : streamsActive s = true) :
    modeSetTo s r m = finish s r 0x0002 true 0x0202 :=
  (modeSetTo_dwelt hm ht hs hd).trans ((if_neg (by rintro ⟨hcfg, -⟩; simp [hcfg] at hc)).trans (if_pos ⟨hc, hi, ha⟩))

/-- An admitted request pends; the mode stays. -/
theorem modeSetTo_pends (hu : s.mode.cur = .config → s.deck.inUse = true) (ha : m = .idle → streamsActive s = false) :
    (modeSetTo s r m).mode.cur = s.mode.cur ∧ (modeSetTo s r m).mode.pend = some ⟨m, wholeMs s.t0 (500 * us), 0, none⟩ := by
  have hdeck : ¬ (s.mode.cur = .config ∧ (!s.deck.inUse) = true) := fun ⟨hcfg, hno⟩ => by simp [hu hcfg] at hno
  have hidle : ¬ ((s.mode.cur = .run ∨ s.mode.cur = .hold) ∧ m = .idle ∧ streamsActive s = true) := fun ⟨_, hi, hact⟩ => by simp [ha hi] at hact
  rw [modeSetTo_dwelt hm ht hs hd, if_neg hdeck, if_neg hidle]
  simp [pendMode, (sameBase_stagedDropped s).mode, (sameBase_stagedDropped s).t0]

end ModeSet

/-! ### MODE_ENTRY (R72) -/

theorem exec_modeEntry_none {s : State} (h : s.mode.pend = none) : exec .modeEntry s = .next s := by
  show execModeEntry s = _
  unfold execModeEntry
  rw [h]

/-- Whether a latched reaction calls for M10 (R364). -/
def safeLatched (s : State) : Bool := s.ridge.latches.any (fun l => l.react == .safe || l.react == .ridgeStop)

/-- The mode that an entry leads to: a boot that ends with a reaction latched ends in M10. -/
def entryDest (s : State) (p : ModePend) : Mode := if decide (s.mode.cur = .boot) && safeLatched s then .safe else p.dest

/-- The state that is entered from: a boot is over, and the Steward ready. -/
def entryFrom (s : State) : State := if decide (s.mode.cur = .boot) then stewardUp { s with rst := { s.rst with stage := 0 } } else s

/-- The answer to the request that waits for an entry. -/
def entryTold (t : State) (p : ModePend) : State :=
  match p.reply with
  | some (m, g) => finish t { mb := ⟨m % 8, Nat.mod_lt _ (by decide)⟩, tag := bv 5 g } 0x0720 true 0
  | none => t

theorem sameButMailboxes_entryTold (t : State) (p : ModePend) : SameButMailboxes t (entryTold t p) := by
  unfold entryTold
  split
  · exact sameButMailboxes_finish ..
  · exact .refl t

theorem entryFrom_boot {s : State} (h : s.mode.cur = .boot) : (entryFrom s).host.ready = true ∧ (entryFrom s).rst.stage = 0 := by
  rw [entryFrom, if_pos (decide_eq_true h), stewardUp, irq_ready, irq_rst]
  exact ⟨rfl, rfl⟩

/-- A standby's part in the active's transition: its streams pause or go on, and nothing pends. -/
def standbyFollows (s : State) (p : ModePend) : State :=
  let s := { s with mode := { s.mode with pend := none } }
  match p.dest with
  | .hold => holdStreams s
  | .run => unholdStreams s p.due
  | _ => s

theorem standbyFollows_mode (s : State) (p : ModePend) : (standbyFollows s p).mode = { s.mode with pend := none } := by
  unfold standbyFollows
  dsimp only
  split
  · exact ((sameBase_holdStreams ..).mpr (.refl _)).mode
  · exact ((sameBase_unholdStreams ..).mpr (.refl _)).mode
  · rfl

section ModeEntry

variable {s : State} {p : ModePend} (h : s.mode.pend = some p)
include h

theorem exec_modeEntry_waits (hd : s.t0 < p.due) : exec .modeEntry s = .next s := by
  show execModeEntry s = _
  unfold execModeEntry
  rw [h]
  exact if_pos hd

variable (hd : p.due ≤ s.t0)
include hd

theorem exec_modeEntry_standby (hc : s.mode.cur = .standby) : exec .modeEntry s = .next (standbyFollows s p) := by
  show execModeEntry s = _
  unfold execModeEntry
  rw [h]
  refine (if_neg (Nat.not_lt.mpr hd)).trans ((if_pos hc).trans ?_)
  unfold standbyFollows
  rfl

theorem exec_modeEntry_due (hc : s.mode.cur ≠ .standby) :
    exec .modeEntry s = .next (entryTold (enterMode (entryFrom s) (entryDest s p) p.trigger p.due) p) := by
  show execModeEntry s = _
  unfold execModeEntry
  rw [h]
  refine (if_neg (Nat.not_lt.mpr hd)).trans ((if_neg hc).trans ?_)
  unfold entryTold
  cases hr : p.reply <;> rfl

/-- The entry is made as of its instant; out of a boot the Steward is ready and no stage is under way. -/
theorem entered_modeEntry (hc : s.mode.cur ≠ .standby) :
    ∃ t, exec .modeEntry s = .next t ∧ Entered (entryFrom s) (entryDest s p) p.due t :=
  ⟨_, exec_modeEntry_due h hd hc, (entered_enterMode ..).sameButMailboxes (sameButMailboxes_entryTold ..)⟩

end ModeEntry

/-! ### The statement -/

/-- Settles O52: MODE_SET is the branch of its checks that the hypotheses choose; MODE_ENTRY enters by `enterMode`, whose frame says what stands after it. -/
theorem modeRequestsAndEntries : Obligations.ModeRequestsAndEntries := by
  unfold Obligations.ModeRequestsAndEntries
  refine fun s => ⟨?request, exec_modeEntry_none, fun p hp => ⟨exec_modeEntry_waits hp, fun hd => ⟨fun hc => ?standby, ?entry⟩⟩⟩
  case request =>
    intro r b cur n h
    refine ⟨exec_modeSet_pending h, fun hp hc => ⟨exec_modeSet_unknown h hp hc, fun m hm => ?_⟩⟩
    have hexec := exec_modeSet_known h hp hc hm
    refine ⟨fun hmc => ⟨_, hexec, modeSetTo_present (s := b) hmc⟩, fun hmc ht => ?_, fun hmc ht => ⟨fun hs => ?_, fun hs hd => ?_, fun hs hd => ⟨fun hcfg hu => ?_,
      fun hrun hi ha => ?_, fun hu ha => ⟨_, hexec, modeSetTo_pends (s := b) hmc ht hs hd hu ha⟩⟩⟩⟩
    all_goals refine hexec.trans (congrArg Host.Outcome.next ?_)
    · exact modeSetTo_forbidden hmc ht
    · exact modeSetTo_safe hmc ht hs
    · exact modeSetTo_early hmc ht hs hd
    · exact modeSetTo_noDeck hmc ht hs hd hcfg hu
    · exact modeSetTo_streams hmc ht hs hd hrun hi ha
  case standby =>
    refine ⟨_, exec_modeEntry_standby hp hd hc, ?_, ?_⟩
    · rw [standbyFollows_mode]
      exact hc
    · rw [standbyFollows_mode]
  case entry =>
    intro hc latched
    obtain ⟨t, hexec, ht⟩ := entered_modeEntry hp hd hc
    refine ⟨t, hexec, ?_, ht.pend, ht.since, ht.told, fun hb => ?_⟩
    · rw [ht.cur, entryDest]
      simp [safeLatched, latched]
    · obtain ⟨hready, hstage⟩ := entryFrom_boot hb
      exact ⟨ht.ready.trans hready, by rw [ht.rst, hstage]⟩

end Sys2Proof.Proofs
end

section
/-! Staging, validation, commit and save of Decks and single images (R81-R89, R548, R549). -/

namespace Sys2Proof.Proofs

open Sys2Proof.Machine Sys2Proof.Laws Sys2Proof.Safety

/-! ### What the shared operations leave -/

@[simp] theorem setDeck_deck (s : State) (f : DeckSt → DeckSt) : (setDeck s f).deck = f s.deck := rfl

@[simp] theorem journalPut_deck (s : State) (boundary : Bool) (l : List (Nat × List Byte)) : (journalPut s boundary l).deck = s.deck := by
  unfold journalPut journalAdd
  split <;> rfl

@[simp] theorem journalPut_params (s : State) (boundary : Bool) (l : List (Nat × List Byte)) : (journalPut s boundary l).params = s.params := by
  unfold journalPut journalAdd
  split <;> rfl

@[simp] theorem pendMode_fst_deck (s : State) (m : Mode) (n : Nat) (reply : Option (Nat × Nat)) : (pendMode s m n reply).1.deck = s.deck := forward_deck ..

@[simp] theorem pendMode_fst_mode (s : State) (m : Mode) (n : Nat) (reply : Option (Nat × Nat)) :
    (pendMode s m n reply).1.mode = { s.mode with pend := some ⟨m, wholeMs s.t0 (500 * us), n, reply⟩ } := forward_mode ..

/-! ### The slots in flash (R82) -/

/-- The highest number that a write into flash has been given. -/
def lastOrder (l : Tbl FlashDeck) (n : Nat) : Nat := l.foldl (fun a e => max a e.2.order) n

theorem le_lastOrder (l : Tbl FlashDeck) (n : Nat) : n ≤ lastOrder l n ∧ ∀ e ∈ l, e.2.order ≤ lastOrder l n := by
  induction l generalizing n with
  | nil => exact ⟨le_rfl, nofun⟩
  | cons d l ih =>
    obtain ⟨hstart, hrest⟩ := ih (max n d.2.order)
    refine ⟨(le_max_left ..).trans hstart, fun e he => ?_⟩
    rcases List.mem_cons.mp he with rfl | he
    · exact (le_max_right ..).trans hstart
    · exact hrest e he

/-- A Deck put into flash is the one written last, and stands in the other slot, which is then the Deck's. -/
theorem putFlash_deck (s : State) (f : FlashDeck) :
    (putFlash s f).deck = { s.deck with flash := tset s.deck.flash (otherSlot s) { f with order := lastOrder s.deck.flash 0 + 1 }, slot := otherSlot s } := rfl

section Commands

variable {s : State} {r : Req}

/-! ### IMAGE_STAGE (R548) -/

section ImageStage

variable (h : Runs s r 0x0201 true [.config, .idle, .run, .hold, .maint] 16
  (r.target == 0 && fld r.payload 1 1 == 0 && decide (1 ≤ fld r.payload 0 1 ∧ fld r.payload 0 1 ≤ 8) && bulkOk (fld r.payload 8 4) (fld r.payload 12 4)))
include h

theorem exec_imageStage_used (hu : stageBusy s (fld r.payload 0 1) (fld r.payload 2 2) = true) :
    exec (.imageStage r) s = .next (finish (begun s r 0x0201) r 0x0201 true 0x050D) :=
  congrArg Host.Outcome.next ((command_runs h _).trans (if_pos hu))

variable (hu : stageBusy s (fld r.payload 0 1) (fld r.payload 2 2) = false)
include hu

theorem exec_imageStage_gap
    (hoff : fld r.payload 4 4 ≠ (if fld r.payload 4 4 = 0 then [] else stagedImg s (imgKey (fld r.payload 0 1) (fld r.payload 2 2))).length) :
    exec (.imageStage r) s = .next (finish (begun s r 0x0201) r 0x0201 true 0x010E) :=
  congrArg Host.Outcome.next ((command_runs h _).trans ((if_neg (Bool.eq_false_iff.mp hu)).trans (if_pos hoff)))

variable (hoff : fld r.payload 4 4 = (if fld r.payload 4 4 = 0 then [] else stagedImg s (imgKey (fld r.payload 0 1) (fld r.payload 2 2))).length)
include hoff

theorem exec_imageStage_long (hl : kindLimit (fld r.payload 0 1) < fld r.payload 4 4 + fld r.payload 12 4) :
    exec (.imageStage r) s = .next (finish (begun s r 0x0201) r 0x0201 true 0x0102) :=
  congrArg Host.Outcome.next ((command_runs h _).trans ((if_neg (Bool.eq_false_iff.mp hu)).trans ((if_neg (not_not.mpr hoff)).trans (if_pos hl))))

variable (hl : fld r.payload 4 4 + fld r.payload 12 4 ≤ kindLimit (fld r.payload 0 1))
include hl

theorem exec_imageStage_busy (hb : bulkBusy s (fld r.payload 8 4) (fld r.payload 12 4) = true) :
    exec (.imageStage r) s = .next (finish (begun s r 0x0201) r 0x0201 true 0x0509) :=
  congrArg Host.Outcome.next ((command_runs h _).trans ((if_neg (Bool.eq_false_iff.mp hu)).trans ((if_neg (not_not.mpr hoff)).trans
    ((if_neg (Nat.not_lt.mpr hl)).trans (if_pos hb)))))

/-- A chunk that the window's share admits extends the staged bytes; a Deck's images staged anew are to be validated anew. -/
theorem exec_imageStage_extends (hb : bulkBusy s (fld r.payload 8 4) (fld r.payload 12 4) = false)
    (hshare : (if s.host.bulkWin = s.t0 / (10 * us) then s.host.bulkUsed else 0) < 10000) :
    ∃ t, exec (.imageStage r) s = .next t ∧
      stagedImg t (imgKey (fld r.payload 0 1) (fld r.payload 2 2)) =
        (if fld r.payload 4 4 = 0 then [] else stagedImg s (imgKey (fld r.payload 0 1) (fld r.payload 2 2))) ++ mreads s.host.bulk (fld r.payload 8 4) (fld r.payload 12 4) ∧
      t.host.bulk = s.host.bulk ∧ (fld r.payload 0 1 ≠ 8 → t.deck.stagedOk = false) := by
  obtain ⟨hbulk, -⟩ := bulkMay_memories (begun s r 0x0201) (fld r.payload 12 4)
  have hmay : ¬ (!(bulkMay (begun s r 0x0201) (fld r.payload 12 4)).1) = true := by simp [bulkMay_of_share (s := begun s r 0x0201) hshare]
  have hexec : exec (.imageStage r) s = .next (finish (setDeck (bulkMay (begun s r 0x0201) (fld r.payload 12 4)).2 (fun d => { d with
      staged := tset d.staged (imgKey (fld r.payload 0 1) (fld r.payload 2 2))
        ((if fld r.payload 4 4 = 0 then [] else stagedImg s (imgKey (fld r.payload 0 1) (fld r.payload 2 2))) ++
          mreads (bulkMay (begun s r 0x0201) (fld r.payload 12 4)).2.host.bulk (fld r.payload 8 4) (fld r.payload 12 4)),
      stagedOk := d.stagedOk && fld r.payload 0 1 == 8 })) r 0x0201 true 0) :=
    congrArg Host.Outcome.next ((command_runs h _).trans ((if_neg (Bool.eq_false_iff.mp hu)).trans ((if_neg (not_not.mpr hoff)).trans
      ((if_neg (Nat.not_lt.mpr hl)).trans ((if_neg (Bool.eq_false_iff.mp hb)).trans (if_neg hmay))))))
  refine ⟨_, hexec, ?_, ?_, fun hk => ?_⟩
  · rw [stagedImg, finish_deck, setDeck_deck, tget_tset_same, hbulk]
    rfl
  · rw [finish_bulk, setDeck_host, hbulk]
    rfl
  · rw [finish_deck, setDeck_deck]
    simp [hk]

end ImageStage

/-! ### DECK_LOAD, DECK_COMMIT and DECK_SAVE (R82, R86, R88) -/

theorem exec_deckLoad (h : Runs s r 0x0203 true [.config] 0 (r.target == 0)) :
    exec (.deckLoad r) s = .next (if s.deck.validating.isSome ∨ s.deck.committing.isSome then finish (begun s r 0x0203) r 0x0203 true 0x050D
      else accepted (setDeck (begun s r 0x0203) (fun d => { d with validating := some (jobOf r 1 0 0), stagedOk := false })) r 0x0203) :=
  congrArg Host.Outcome.next (command_runs h _)

theorem exec_deckSave (h : Runs s r 0x0205 true [.idle, .run, .hold, .maint] 0 (r.target == 0)) :
    exec (.deckSave r) s = .next (if s.deck.saving.isSome then finish (begun s r 0x0205) r 0x0205 true 0x050D
      else accepted (setDeck (begun s r 0x0205) (fun d => { d with saving := some (jobOf r 1 0 0), flash := tdel d.flash (otherSlot s) })) r 0x0205) :=
  congrArg Host.Outcome.next (command_runs h _)

section DeckCommit

variable (h : Runs s r 0x0204 true [.config] 0 (r.target == 0))
include h

theorem exec_deckCommit_notGood (hx : s.deck.stagedOk = false ∨ s.deck.committing.isSome) :
    exec (.deckCommit r) s = .next (finish (begun s r 0x0204) r 0x0204 true 0x0108) :=
  congrArg Host.Outcome.next ((command_runs h _).trans (if_pos (by simpa using hx)))

variable (hg : s.deck.stagedOk = true) (hc : s.deck.committing = none)
include hg hc

omit h in
theorem deckCommit_good : ¬ ((!s.deck.stagedOk) = true ∨ s.deck.committing.isSome = true) := by simp [hg, hc]

theorem exec_deckCommit_early (hd : dwellOk s = false) : exec (.deckCommit r) s = .next (finish (begun s r 0x0204) r 0x0204 true 0x050C) := by
  have hearly : (!dwellOk s) = true := by simp [hd]
  exact congrArg Host.Outcome.next ((command_runs h _).trans ((if_neg (deckCommit_good hg hc)).trans (if_pos hearly)))

theorem exec_deckCommit_begins (hd : dwellOk s = true) :
    exec (.deckCommit r) s = .next (accepted (setDeck (begun s r 0x0204) (fun d => { d with committing := some (jobOf r 1 0 0), flash := tdel d.flash (otherSlot s) }))
      r 0x0204) := by
  have hlong : ¬ (!dwellOk s) = true := by simp [hd]
  exact congrArg Host.Outcome.next ((command_runs h _).trans ((if_neg (deckCommit_good hg hc)).trans (if_neg hlong)))

end DeckCommit

/-! ### IMAGE_LOAD and IMAGE_INFO (R89, R546) -/

section ImageLoad

variable (h : Runs s r 0x0202 true [.idle, .run, .hold, .maint] 4
  (r.target == 0 && decide (2 ≤ fld r.payload 0 1 ∧ fld r.payload 0 1 ≤ 7) && decide (fld r.payload 1 1 ≤ 1)))
include h

theorem exec_imageLoad_busy (hb : stageBusy s (fld r.payload 0 1) (fld r.payload 2 2) = true ∨ s.deck.loading.isSome) :
    exec (.imageLoad r) s = .next (finish (begun s r 0x0202) r 0x0202 true 0x050D) :=
  congrArg Host.Outcome.next ((command_runs h _).trans (if_pos hb))

variable (hb : ¬ (stageBusy s (fld r.payload 0 1) (fld r.payload 2 2) = true ∨ s.deck.loading.isSome))
include hb

theorem exec_imageLoad_free :
    exec (.imageLoad r) s = .next (
      if (tfind s.deck.staged (imgKey (fld r.payload 0 1) (fld r.payload 2 2))).isNone then finish (begun s r 0x0202) r 0x0202 true 0x0108
      else accepted (setDeck (begun s r 0x0202) (fun d => { d with loading := some (jobOf r (fld r.payload 0 1) (fld r.payload 2 2) (fld r.payload 1 1)) })) r 0x0202) :=
  congrArg Host.Outcome.next ((command_runs h _).trans (if_neg hb))

end ImageLoad

section ImageInfo

variable (h : Runs s r 0x0206 false allModes 4 (r.target == 0 && fld r.payload 1 1 == 0))
include h

theorem exec_imageInfo_none (hi : tfind s.deck.loaded (imgKey (fld r.payload 0 1) (fld r.payload 2 2)) = none) :
    exec (.imageInfo r) s = .next (finish (begun s r 0x0206) r 0x0206 false 0x0108) := by
  refine congrArg Host.Outcome.next ((command_runs h _).trans ?_)
  rw [show tfind (beginCmd s r 0x0206).deck.loaded (imgKey (fld r.payload 0 1) (fld r.payload 2 2)) = none from hi]

theorem exec_imageInfo_some {i : ImageRec} (hi : tfind s.deck.loaded (imgKey (fld r.payload 0 1) (fld r.payload 2 2)) = some i) :
    exec (.imageInfo r) s = .next (finish (begun s r 0x0206) r 0x0206 false 0
      (hdrBytes i.bytes ++ hdrBytes (tget {} s.deck.kept (imgKey (fld r.payload 0 1) (fld r.payload 2 2))).bytes)) := by
  refine congrArg Host.Outcome.next ((command_runs h _).trans ?_)
  rw [show tfind (beginCmd s r 0x0206).deck.loaded (imgKey (fld r.payload 0 1) (fld r.payload 2 2)) = some i from hi]
  rfl

end ImageInfo

end Commands

/-! ### DECK_VALIDATION_END (R86, R87) -/

theorem exec_deckValidationEnd_idle {s : State} (h : s.deck.validating = none) (late : Fin 14) (detail device proof : Word) :
    exec (.deckValidationEnd late detail device proof) s = .next s := by
  show execDeckValidationEnd late detail device proof s = _
  unfold execDeckValidationEnd
  rw [h]

/-- The end of a validation marks the staged Deck good exactly when no step failed, and answers DECK_LOAD. -/
theorem exec_deckValidationEnd_marks {s : State} {j : BgJob} (h : s.deck.validating = some j) (late : Fin 14) (detail device proof : Word) :
    ∃ status payload, exec (.deckValidationEnd late detail device proof) s = .next (finish
      (setDeck s (fun d => { d with validating := none, stagedOk := decide ((deckCheck s late.val detail.toNat).1 = 0) })) (jobReq j) 0x0203 true status payload) := by
  show ∃ status payload, execDeckValidationEnd late detail device proof s = _
  unfold execDeckValidationEnd
  rw [h]
  exact ⟨_, _, rfl⟩

/-! ### DECK_COMMIT_DONE (R88) -/

theorem exec_deckCommitDone_idle {s : State} (h : s.deck.committing = none) (readOk : Bool) : exec (.deckCommitDone readOk) s = .next s := by
  show execDeckCommitDone readOk s = _
  unfold execDeckCommitDone
  rw [h]

/-- The staged Deck as a commit puts it into flash. -/
def committedDeck (s : State) : FlashDeck :=
  let b := stagedImg s (imgKey 1 0)
  let imgs := s.deck.staged.filter (fun e => e.1 != imgKey 1 0 && e.1 / 65536 != 8)
  { deck := b, imgs := imgs, edit := fld b 0x18 2, vals := deckValues b imgs }

section CommitDone

variable {s : State} {j : BgJob} (h : s.deck.committing = some j) (hk : j.kind = 1) {readOk : Bool}
include h hk

theorem exec_deckCommitDone_unread (hr : readOk = false) :
    exec (.deckCommitDone readOk) s = .next (finish (setDeck s (fun d => { d with committing := none })) (jobReq j) 0x0204 true 0x0602) := by
  show execDeckCommitDone readOk s = _
  unfold execDeckCommitDone
  rw [h]
  exact (if_neg (not_not.mpr hk)).trans (if_pos (by simp [hr]))

variable (hr : readOk = true)
include hr

theorem exec_deckCommitDone_read :
    exec (.deckCommitDone readOk) s =
      if s.mode.cur ≠ .config then
        .next (finish (setDeck (putFlash s (committedDeck s)) (fun d => { d with committing := none })) (jobReq j) 0x0204 true 0x0201)
      else .next (pendMode (setDeck (putFlash s (committedDeck s)) (fun d => { d with committing := some { j with kind := 2 } })) .idle 3).1 := by
  show execDeckCommitDone readOk s = _
  unfold execDeckCommitDone
  rw [h]
  exact (if_neg (not_not.mpr hk)).trans (if_neg (by simp [hr]))

/-- Out of M2 the commit ends without a transition. -/
theorem exec_deckCommitDone_left (hc : s.mode.cur ≠ .config) :
    ∃ t, exec (.deckCommitDone readOk) s = .next t ∧ t.mode = s.mode ∧ t.deck.committing = none := by
  refine ⟨_, (exec_deckCommitDone_read h hk hr).trans (if_pos hc), ?_, ?_⟩
  · simp
  · simp

/-- In M2 the other slot holds the Deck, written last, and M3 pends. -/
theorem exec_deckCommitDone_config (hc : s.mode.cur = .config) :
    ∃ t f, exec (.deckCommitDone readOk) s = .next t ∧ tfind t.deck.flash (otherSlot s) = some f ∧ f.deck = stagedImg s (imgKey 1 0) ∧
      t.deck.slot = otherSlot s ∧ (∀ e ∈ s.deck.flash, e.2.order < f.order) ∧ t.mode.pend = some ⟨.idle, wholeMs s.t0 (500 * us), 3, none⟩ ∧
      t.mode.cur = s.mode.cur := by
  refine ⟨_, { committedDeck s with order := lastOrder s.deck.flash 0 + 1 }, (exec_deckCommitDone_read h hk hr).trans (if_neg (not_not.mpr hc)), ?_, rfl, ?_,
    fun e he => Nat.lt_succ_of_le ((le_lastOrder ..).2 e he), ?_, ?_⟩
  · rw [pendMode_fst_deck, setDeck_deck, putFlash_deck]
    exact tfind_tset_same ..
  · rw [pendMode_fst_deck, setDeck_deck, putFlash_deck]
  · rw [pendMode_fst_mode]
    rfl
  · rw [pendMode_fst_mode]
    rfl

end CommitDone

/-! ### DECK_SAVE_DONE (R82) -/

theorem exec_deckSaveDone_idle {s : State} (h : s.deck.saving = none) (readOk : Bool) : exec (.deckSaveDone readOk) s = .next s := by
  show execDeckSaveDone readOk s = _
  unfold execDeckSaveDone
  rw [h]

/-- The working Deck as a save puts it into flash. -/
def savedDeck (s : State) : FlashDeck :=
  { deck := (tget {} s.deck.loaded (imgKey 1 0)).bytes, imgs := (s.deck.loaded.filter (fun x => x.1 != imgKey 1 0)).map (fun x => (x.1, x.2.bytes)),
    edit := (s.deck.edit + 1) % 65536, vals := s.params.working }

section SaveDone

variable {s : State} {j : BgJob} (h : s.deck.saving = some j) {readOk : Bool}
include h

theorem exec_deckSaveDone_unread (hr : readOk = false) :
    exec (.deckSaveDone readOk) s = .next (finish (setDeck s (fun d => { d with saving := none })) (jobReq j) 0x0205 true 0x0602) := by
  show execDeckSaveDone readOk s = _
  unfold execDeckSaveDone
  rw [h]
  exact if_pos (by simp [hr])

theorem exec_deckSaveDone_read (hr : readOk = true) :
    ∃ t f, exec (.deckSaveDone readOk) s = .next t ∧ tfind t.deck.flash (otherSlot s) = some f ∧ f.vals = s.params.working ∧
      t.deck.edit = (s.deck.edit + 1) % 65536 ∧ t.params.saved = s.params.working ∧ t.params.unsaved = 0 := by
  let e := (s.deck.edit + 1) % 65536
  let u := setDeck (putFlash (setDeck s (fun d => { d with saving := none })) (savedDeck s)) (fun d => { d with edit := e })
  have hexec : exec (.deckSaveDone readOk) s = .next (finish
      (journalPut { u with params := { s.params with saved := s.params.working, unsaved := 0 } } false [(0x00C, leBytes 2 e)]) (jobReq j) 0x0205 true 0 (leBytes 2 e)) := by
    show execDeckSaveDone readOk s = _
    unfold execDeckSaveDone
    rw [h]
    exact if_neg (by simp [hr])
  refine ⟨_, { savedDeck s with order := lastOrder s.deck.flash 0 + 1 }, hexec, ?_, rfl, ?_, ?_, ?_⟩
  · rw [finish_deck, journalPut_deck]
    exact tfind_tset_same ..
  · rw [finish_deck, journalPut_deck]
    rfl
  · rw [finish_params, journalPut_params]
  · rw [finish_params, journalPut_params]

end SaveDone

/-! ### IMAGE_VALIDATION_END (R81, R89) -/

/-- The record of an image taken. -/
def imageTold (s : State) (j : BgJob) (b : List Byte) (old : Nat) : State :=
  if (tfind s.deck.loaded (imgKey j.kind j.slot)).any (fun o => !imgLater (hdrGen b) o.gen) then note s Ev.imageOlder 0x00 j.slot 0 [j.kind, old, hdrGen b]
  else note s Ev.imageLoad 0x00 j.slot 0 [j.kind, old, hdrGen b]

/-- An image but a program is loaded at once. -/
def imageKept (s : State) (j : BgJob) (b : List Byte) : State :=
  if j.kind = 3 then s
  else setDeck s (fun d => { d with loaded := tset d.loaded (imgKey j.kind j.slot) { gen := hdrGen b, deckGen := fld b 0x14 4, bytes := b } })

/-- A native image replaces the one of its slot. -/
def imageNative (s : State) (j : BgJob) (b : List Byte) : State :=
  if j.kind = 7 then { s with sched := { s.sched with natives := tset s.sched.natives j.slot { Config.progImg b with gen := hdrGen b } } } else s

/-- A Shingle's deltas replace its mode's in the working Deck. -/
def imageDeltas (s : State) (j : BgJob) (b : List Byte) : State :=
  if j.kind ≠ 2 then s
  else
    let sc := j.slot + 1
    let w := s.params.working.filter (fun e => e.1 / 2 ^ 32 != sc)
    { s with params := { s.params with working := (shingleDeltas b).foldl (fun t e => tset t (pkey sc e.1) (bv 64 e.2)) w } }

/-- What an image that passes its checks leaves. -/
def imageTaken (s : State) (j : BgJob) : State :=
  let b := stagedImg s (imgKey j.kind j.slot)
  imageDeltas (imageNative (imageKept (imageTold (setDeck s (fun d => { d with loading := none })) j b (tget {} s.deck.loaded (imgKey j.kind j.slot)).gen) j b) j b) j b

@[simp] theorem imageTold_deck (s : State) (j : BgJob) (b : List Byte) (old : Nat) : (imageTold s j b old).deck = s.deck := by
  unfold imageTold
  split <;> exact note_deck ..

@[simp] theorem imageTold_params (s : State) (j : BgJob) (b : List Byte) (old : Nat) : (imageTold s j b old).params = s.params := by
  unfold imageTold
  split <;> exact note_params ..

@[simp] theorem imageKept_params (s : State) (j : BgJob) (b : List Byte) : (imageKept s j b).params = s.params := by
  unfold imageKept
  split <;> rfl

@[simp] theorem imageNative_deck (s : State) (j : BgJob) (b : List Byte) : (imageNative s j b).deck = s.deck := by
  unfold imageNative
  split <;> rfl

@[simp] theorem imageNative_params (s : State) (j : BgJob) (b : List Byte) : (imageNative s j b).params = s.params := by
  unfold imageNative
  split <;> rfl

@[simp] theorem imageDeltas_deck (s : State) (j : BgJob) (b : List Byte) : (imageDeltas s j b).deck = s.deck := by
  unfold imageDeltas
  split <;> rfl

theorem imageTaken_deck (s : State) (j : BgJob) :
    (imageTaken s j).deck = if j.kind = 3 then { s.deck with loading := none } else
      let b := stagedImg s (imgKey j.kind j.slot)
      { s.deck with loading := none, loaded := tset s.deck.loaded (imgKey j.kind j.slot) { gen := hdrGen b, deckGen := fld b 0x14 4, bytes := b } } := by
  rw [imageTaken, imageDeltas_deck, imageNative_deck, imageKept]
  split <;> simp

theorem imageTaken_params {j : BgJob} (h : j.kind ≠ 2) (s : State) : (imageTaken s j).params = s.params := by
  rw [imageTaken, imageDeltas, if_pos h]
  simp

theorem exec_imageValidationEnd_idle {s : State} (h : s.deck.loading = none) (late : Fin 14) : exec (.imageValidationEnd late) s = .next s := by
  show execImageValidationEnd late s = _
  unfold execImageValidationEnd
  rw [h]

section ValidationEnd

variable {s : State} {j : BgJob} (h : s.deck.loading = some j) (late : Fin 14)
include h

theorem exec_imageValidationEnd_refused (hst : imageCheck s j.kind j.slot j.flags late.val ≠ 0) :
    exec (.imageValidationEnd late) s =
      .next (finish (setDeck s (fun d => { d with loading := none })) (jobReq j) 0x0202 true (imageCheck s j.kind j.slot j.flags late.val)) := by
  show execImageValidationEnd late s = _
  unfold execImageValidationEnd
  rw [h]
  exact if_pos hst

theorem exec_imageValidationEnd_taken (hst : imageCheck s j.kind j.slot j.flags late.val = 0) :
    ∃ payload, exec (.imageValidationEnd late) s = .next (finish (imageTaken s j) (jobReq j) 0x0202 true 0 payload) := by
  show ∃ payload, execImageValidationEnd late s = _
  unfold execImageValidationEnd
  rw [h]
  exact ⟨_, if_neg (not_not.mpr hst)⟩

end ValidationEnd

/-! ### The statement -/

/-- Settles O53: each command's outcome is the branch of its checks that the hypotheses choose, and each job's end is what its result leaves of the Deck. -/
theorem decksAndImagesLoadCommitAndSave : Obligations.DecksAndImagesLoadCommitAndSave := by
  unfold Obligations.DecksAndImagesLoadCommitAndSave
  refine fun s => ⟨fun r => ⟨?stage, ?load, ?commit, ?save, ?image, ?info⟩, fun late detail device proof => ⟨?idle, ?validated⟩,
    fun readOk => ⟨fun j hj hk => ⟨exec_deckCommitDone_unread hj hk, exec_deckCommitDone_left hj hk, exec_deckCommitDone_config hj hk⟩,
      fun hc => exec_deckCommitDone_idle hc readOk, fun j hj => ⟨exec_deckSaveDone_unread hj, exec_deckSaveDone_read hj⟩, fun hc => exec_deckSaveDone_idle hc readOk⟩,
    fun late => ⟨fun hl => exec_imageValidationEnd_idle hl late, ?ended⟩⟩
  case stage =>
    intro kind slot off bo bl have_ b h
    exact ⟨exec_imageStage_used h, fun hu => ⟨exec_imageStage_gap h hu, exec_imageStage_long h hu, exec_imageStage_busy h hu, exec_imageStage_extends h hu⟩⟩
  case load =>
    intro b job h
    refine ⟨fun hb => (exec_deckLoad h).trans (congrArg Host.Outcome.next (if_pos hb)),
      fun hb => ⟨_, (exec_deckLoad h).trans (congrArg Host.Outcome.next (if_neg hb)), ?_, ?_⟩⟩
    · rw [accepted_deck, setDeck_deck]
    · rw [accepted_deck, setDeck_deck]
  case commit =>
    intro b h
    refine ⟨exec_deckCommit_notGood h, exec_deckCommit_early h, fun hg hc hd => ⟨_, exec_deckCommit_begins h hg hc hd, ?_, ?_⟩⟩
    · rw [accepted_deck, setDeck_deck]
    · rw [accepted_deck, setDeck_deck]
      exact tfind_tdel_same ..
  case save =>
    intro b h
    refine ⟨fun hb => (exec_deckSave h).trans (congrArg Host.Outcome.next (if_pos hb)),
      fun hb => ⟨_, (exec_deckSave h).trans (congrArg Host.Outcome.next (if_neg (by simp [hb]))), ?_, ?_⟩⟩
    · rw [accepted_deck, setDeck_deck]
    · rw [accepted_deck, setDeck_deck]
      exact tfind_tdel_same ..
  case image =>
    intro kind fl slot b busy h
    refine ⟨exec_imageLoad_busy h, fun hb hn => (exec_imageLoad_free h hb).trans (congrArg Host.Outcome.next (if_pos (Option.isNone_iff_eq_none.mpr hn))),
      fun hb hn => ⟨_, (exec_imageLoad_free h hb).trans (congrArg Host.Outcome.next (if_neg (by simpa using hn))), ?_, ?_⟩⟩
    · rw [accepted_deck, setDeck_deck]
    · rw [accepted_deck, setDeck_deck]
      rfl
  case info =>
    intro k b h
    exact ⟨exec_imageInfo_none h, fun i => exec_imageInfo_some h⟩
  case idle => exact fun hv => exec_deckValidationEnd_idle hv late detail device proof
  case validated =>
    intro hv
    obtain ⟨j, hj⟩ := Option.ne_none_iff_exists'.mp hv
    obtain ⟨status, payload, hexec⟩ := exec_deckValidationEnd_marks hj late detail device proof
    refine ⟨_, hexec, ?_, ?_, ?_, ?_⟩ <;> simp
  case ended =>
    intro j hj k st
    refine ⟨exec_imageValidationEnd_refused hj late, fun hst => ?_⟩
    obtain ⟨payload, hexec⟩ := exec_imageValidationEnd_taken hj late hst
    refine ⟨_, hexec, ?_, fun hk => ?_, fun hk => ?_, fun hk => (finish_params ..).trans (imageTaken_params hk s)⟩
    · rw [finish_deck, imageTaken_deck]
      split <;> rfl
    · rw [finish_deck, imageTaken_deck, if_neg hk, tget_tset_same]
    · rw [finish_deck, imageTaken_deck, if_pos hk]

end Sys2Proof.Proofs
end

section
/-! Parameters over the mailboxes (R84-R93, R544, R557-R561). -/

namespace Sys2Proof.Proofs

open Sys2Proof.Machine Sys2Proof.Laws Sys2Proof.Safety

theorem tfind_tset_other {α : Type} (t : Tbl α) {n k : Nat} (v : α) (h : k ≠ n) : tfind (tset t n v) k = tfind t k := by
  have hn : (n == k) = false := by simpa using Ne.symm h
  induction t with
  | nil => simp [tset, tfind, hn]
  | cons e t ih =>
    simp only [tset]
    split
    · simp [tfind, List.find?_cons, hn]
    · split
      · next hnk => simp [tfind, ← hnk, hn]
      · simp only [tfind, List.find?_cons] at ih ⊢
        split
        · rfl
        · exact ih

/-! ### An accepted change (R90-R93) -/

/-- What an accepted SET or UNSET leaves of the parameters: the working Deck is changed and unsaved, and what is in force stays. -/
structure Changed (s : State) (scope id : Nat) (v : DWord) (remove : Bool) (t : State) : Prop where
  working : t.params.working = if remove then tdel s.params.working (pkey scope id) else tset s.params.working (pkey scope id) v
  unsaved : t.params.unsaved = s.params.unsaved + 1
  force : t.params.force = s.params.force

section Changes

variable {s : State} {d : ParamDesc} {id : Nat}

theorem changed_applySet' (hd : descOf id = some d) (scope : Nat) (v : DWord) (remove : Bool) : Changed s scope id v remove (applySet' s scope id v remove).1 := by
  unfold applySet'
  rw [hd]
  dsimp -zeta only
  extract_lets key w p due x s1 s2 governs
  cases d.cm
  case live =>
    dsimp -zeta only
    split
    · exact ⟨rfl, rfl, rfl⟩
    · split <;> exact ⟨rfl, rfl, rfl⟩
  all_goals exact ⟨rfl, rfl, rfl⟩

/-- The record and the forwarded copy of a change leave the parameters as the change left them. -/
theorem changed_doSet (hd : descOf id = some d) (mb transport tag scope : Nat) (v : DWord) (remove : Bool) :
    Changed s scope id v remove (doSet s mb transport tag scope id v remove).1 := by
  obtain ⟨hw, hu, hf⟩ := changed_applySet' (s := s) hd scope v remove
  have hparams : (doSet s mb transport tag scope id v remove).1.params = (applySet' s scope id v remove).1.params :=
    (note_params ..).trans (forward_params ..)
  exact ⟨by rw [hparams, hw], by rw [hparams, hu], by rw [hparams, hf]⟩

/-- A value that passes the checks of R558 is a defined parameter's. -/
theorem descOf_of_setStatus {scope v : Nat} (h : setStatus s scope id v = 0) : ∃ d, descOf id = some d := by
  cases hd : descOf id with
  | some d => exact ⟨d, rfl⟩
  | none =>
    unfold setStatus at h
    rw [hd] at h
    dsimp only at h
    split at h <;> cases h

/-- A command that begins leaves what a range depends on. -/
theorem inRange_begun (s : State) (r : Req) (op : Nat) (d : ParamDesc) (inst v : Nat) : inRange (begun s r op) d inst v = inRange s d inst v := by
  unfold inRange
  rfl

/-- A command that begins leaves what the checks of R558 read. -/
theorem setStatus_begun (s : State) (r : Req) (op scope id v : Nat) : setStatus (begun s r op) scope id v = setStatus s scope id v := by
  unfold setStatus
  cases descOf id with
  | none => rfl
  | some d =>
    dsimp only
    rw [inRange_begun]
    rfl

section Commands

variable {r : Req}

/-! ### PARAM_GET -/

section Get

variable (h : Runs s r 0x0101 false allModes 4 (decide (fld r.payload 0 1 ≤ 12) && fld r.payload 1 3 == 0))
include h

theorem exec_paramGet_defined (hd : descOf r.target.toNat = some d) :
    let sc := fld r.payload 0 1
    let id := r.target.toNat
    exec (.paramGet r) s = .next (finish (begun s r 0x0101) r 0x0101 false 0 (leBytes 8 (govern s sc id).1.toNat ++
      leBytes 8 (peff s (id / 4096) (id % 4096)).toNat ++
      leBytes 4 ((if sc ≠ 0 ∧ (tfind s.params.working (pkey sc id)).isSome then 1 else 0) + (if setWaits s (pkey sc id) then 2 else 0)))) := by
  intro sc id
  have hbits : ∀ a w : Bool, bitAt a 0 * (if sc = 0 then 0 else 1) + bitAt w 1 = (if sc ≠ 0 ∧ a = true then 1 else 0) + (if w = true then 2 else 0) := by
    intro a w
    by_cases hsc : sc = 0 <;> cases a <;> cases w <;> simp [bitAt, hsc]
  refine congrArg Host.Outcome.next ((command_runs h _).trans ?_)
  rw [hd]
  dsimp only
  rw [hbits]
  rfl

theorem exec_paramGet_undefined (hd : descOf r.target.toNat = none) :
    exec (.paramGet r) s = .next (if isFactory r.target.toNat then
        let v := leBytes 8 (Config.factoryValue (r.target.toNat / 4096) (r.target.toNat % 4096)).toNat
        finish (begun s r 0x0101) r 0x0101 false 0 (v ++ v ++ leBytes 4 0)
      else finish (begun s r 0x0101) r 0x0101 false 0x010F) := by
  refine congrArg Host.Outcome.next ((command_runs h _).trans ?_)
  rw [hd]

end Get

/-! ### PARAM_SET -/

section Set

variable (h : Runs s r 0x0102 true allModes 12 (fld r.payload 1 3 == 0))
include h

theorem exec_paramSet_refused (hst : setStatus s (fld r.payload 0 1) r.target.toNat (fld r.payload 4 8) ≠ 0) :
    exec (.paramSet r) s =
      .next (finish (begun s r 0x0102) r 0x0102 true (setStatus s (fld r.payload 0 1) r.target.toNat (fld r.payload 4 8))) := by
  refine congrArg Host.Outcome.next ((command_runs h _).trans ?_)
  dsimp only
  rw [setStatus_begun, if_pos hst]

theorem exec_paramSet_accepted (hst : setStatus s (fld r.payload 0 1) r.target.toNat (fld r.payload 4 8) = 0) :
    let b := begun s r 0x0102
    let p := doSet b r.mb (via b r 0x0102) r.tag.toNat (fld r.payload 0 1) r.target.toNat (bv 64 (fld r.payload 4 8)) false
    exec (.paramSet r) s = .next (finish p.1 r 0x0102 false 0 (leBytes 8 p.2)) := by
  refine congrArg Host.Outcome.next ((command_runs h _).trans ?_)
  dsimp only
  rw [setStatus_begun, if_neg (not_not.mpr hst)]

end Set

/-! ### PARAM_UNSET -/

section Unset

variable (h : Runs s r 0x0103 true allModes 4 (decide (1 ≤ fld r.payload 0 1 ∧ fld r.payload 0 1 ≤ 12) && fld r.payload 1 3 == 0))
include h

theorem exec_paramUnset_undefined (hd : descOf r.target.toNat = none) :
    exec (.paramUnset r) s = .next (finish (begun s r 0x0103) r 0x0103 true (if isFactory r.target.toNat then 0x0106 else 0x010F)) := by
  refine congrArg Host.Outcome.next ((command_runs h _).trans ?_)
  rw [hd]

variable (hd : descOf r.target.toNat = some d)
include hd

theorem exec_paramUnset_defined :
    exec (.paramUnset r) s = .next (
      let sc := fld r.payload 0 1
      let id := r.target.toNat
      let b := begun s r 0x0103
      if !shingleOk s d sc id then finish b r 0x0103 true 0x0106
      else if (tfind s.params.working (pkey sc id)).isNone then
        let v := (govern s sc id).1.toNat
        finish (note b Ev.configChange 0x48 r.mb id [sc, via b r 0x0103, r.tag.toNat, 3, v, v, 0]) r 0x0103 false 0 (leBytes 8 0)
      else
        let p := doSet b r.mb (via b r 0x0103) r.tag.toNat sc id 0 true
        finish p.1 r 0x0103 false 0 (leBytes 8 p.2)) := by
  refine congrArg Host.Outcome.next ((command_runs h _).trans ?_)
  rw [hd]
  rfl

theorem exec_paramUnset_kept (hs : shingleOk s d (fld r.payload 0 1) r.target.toNat = false) :
    exec (.paramUnset r) s = .next (finish (begun s r 0x0103) r 0x0103 true 0x0106) :=
  (exec_paramUnset_defined h hd).trans (congrArg Host.Outcome.next (if_pos (by simp [hs])))

variable (hs : shingleOk s d (fld r.payload 0 1) r.target.toNat = true)
include hs

/-- Without a delta only the record is written. -/
theorem exec_paramUnset_noDelta (hw : tfind s.params.working (pkey (fld r.payload 0 1) r.target.toNat) = none) :
    ∃ t, exec (.paramUnset r) s = .next t ∧ t.params = s.params :=
  ⟨_, (exec_paramUnset_defined h hd).trans (congrArg Host.Outcome.next ((if_neg (by simp [hs])).trans (if_pos (by simp [hw])))),
    (finish_params ..).trans (note_params ..)⟩

theorem exec_paramUnset_delta (hw : tfind s.params.working (pkey (fld r.payload 0 1) r.target.toNat) ≠ none) :
    ∃ t, exec (.paramUnset r) s = .next t ∧ tfind t.params.working (pkey (fld r.payload 0 1) r.target.toNat) = none ∧
      t.params.unsaved = s.params.unsaved + 1 ∧ t.params.force = s.params.force := by
  let b := begun s r 0x0103
  obtain ⟨hworking, hunsaved, hforce⟩ := changed_doSet (s := b) hd r.mb (via b r 0x0103) r.tag.toNat (fld r.payload 0 1) 0 true
  refine ⟨_, (exec_paramUnset_defined h hd).trans (congrArg Host.Outcome.next ((if_neg (by simp [hs])).trans (if_neg (by simpa using hw)))), ?_, ?_, ?_⟩
  all_goals rw [finish_params]
  · rw [hworking, if_pos rfl]
    exact tfind_tdel_same ..
  · exact hunsaved
  · exact hforce

end Unset

/-! ### PARAM_DESCRIBE -/

section Describe

variable (h : Runs s r 0x0104 false allModes 0 (r.target.toNat % 4096 == 0))
include h

theorem exec_paramDescribe_kind (hk : r.target.toNat / 4096 % 4096 ≠ 0) (hd : paramDesc (r.target.toNat / 4096) = some d) :
    exec (.paramDescribe r) s = .next (finish (begun s r 0x0104) r 0x0104 false 0
      (asciiBytes 24 d.name ++ asciiBytes 16 d.units ++ leBytes 1 (tyCode d.ty) ++ leBytes 1 (cmCode d.cm) ++ leBytes 2 0 ++
        boundBytes d.ty d.lo ++ boundBytes d.ty d.hi ++ leBytes 8 (pdefault (r.target.toNat / 4096) d.first) ++ leBytes 4 (d.last - d.first + 1))) := by
  refine congrArg Host.Outcome.next ((command_runs h _).trans ((if_neg hk).trans ?_))
  rw [hd]

theorem exec_paramDescribe_class (hk : r.target.toNat / 4096 % 4096 = 0) :
    exec (.paramDescribe r) s = .next (
      let l := classKinds (r.target.toNat / 4096 / 4096)
      if l.isEmpty then finish (begun s r 0x0104) r 0x0104 false 0x010F
      else finish (begun s r 0x0104) r 0x0104 false 0 (leBytes 2 l.length ++ l.flatMap (leBytes 2))) :=
  congrArg Host.Outcome.next ((command_runs h _).trans (if_pos hk))

end Describe

end Commands

end Changes

/-! ### The statement -/

/-- Settles O48: each command's outcome is the branch of its checks that the hypotheses choose; what an accepted change stores is `Changed`. -/
theorem parametersAreSetAndRead : Obligations.ParametersAreSetAndRead := by
  unfold Obligations.ParametersAreSetAndRead
  refine fun s r => ⟨?get, ?set, ?unset, ?describe⟩
  case get =>
    intro b h
    refine ⟨fun d hd => exec_paramGet_defined h hd, fun hd hf => ?_, fun hd hf => ?_⟩
    all_goals refine (exec_paramGet_undefined h hd).trans (congrArg Host.Outcome.next ?_)
    · exact if_neg (Bool.eq_false_iff.mp hf)
    · exact if_pos hf
  case set =>
    intro v b h
    refine ⟨exec_paramSet_refused h, fun hst => ?_⟩
    intro p
    have hexec : exec (.paramSet r) s = .next (finish p.1 r 0x0102 false 0 (leBytes 8 p.2)) := exec_paramSet_accepted h hst
    refine ⟨hexec, fun t ht => ?_⟩
    obtain rfl := Host.Outcome.next.inj (hexec.symm.trans ht)
    obtain ⟨d, hd⟩ := descOf_of_setStatus hst
    obtain ⟨hworking, hunsaved, hforce⟩ := changed_doSet (s := b) hd r.mb (via b r 0x0102) r.tag.toNat (fld r.payload 0 1) (bv 64 v) false
    rw [finish_params, hworking, if_neg Bool.false_ne_true]
    exact ⟨tfind_tset_same .., hunsaved, hforce, fun k hk => tfind_tset_other _ _ hk⟩
  case unset =>
    intro b h
    exact ⟨exec_paramUnset_undefined h, fun d hd => ⟨exec_paramUnset_kept h hd, exec_paramUnset_noDelta h hd, exec_paramUnset_delta h hd⟩⟩
  case describe =>
    intro b h
    refine ⟨fun d hk hd => exec_paramDescribe_kind h hk hd, fun hk hl => ?_, fun hk hl => ?_⟩
    all_goals refine (exec_paramDescribe_class h hk).trans (congrArg Host.Outcome.next ?_)
    · exact if_neg (by simpa using hl)
    · exact if_pos (by simp [hl])

end Sys2Proof.Proofs
end

section
/-! The warm boot, the end of boot and RESUME (R349-R354, R361, R364). -/

namespace Sys2Proof.Proofs

open Sys2Proof.Machine Sys2Proof.Laws Sys2Proof.Safety

/-! ### What the recorder's flush, an abandoned exchange and the Steward's return leave -/

theorem SameButMailboxes.foldl {β : Type} {f : State → β → State} (h : ∀ s b, SameButMailboxes s (f s b)) (l : List β) (s : State) :
    SameButMailboxes s (l.foldl f s) :=
  List.foldlRecOn l f (.refl s) fun _ k b _ => k.trans (h _ b)

theorem sameButMailboxes_setRec (s : State) (f : RecSt → RecSt) : SameButMailboxes s (setRec s f) := ⟨rfl, rfl, rfl, rfl, _, _, rfl⟩

theorem sameButMailboxes_setPocket (s : State) (f : PocketSt → PocketSt) : SameButMailboxes s (setPocket s f) := ⟨rfl, rfl, rfl, rfl, _, _, rfl⟩

theorem sameButMailboxes_respond (s : State) (r : Req) (op st fl : Nat) (p : List Byte) : SameButMailboxes s (respond s r op st fl p) :=
  ⟨respond_t0 .., respond_pending .., respond_mode .., respond_rst .., respond_host_frame ..⟩

theorem sameButMailboxes_putAnchor (s : State) (seq : Word) : SameButMailboxes s (putAnchor s seq) := by
  unfold putAnchor
  split
  · exact .refl s
  · exact sameButMailboxes_setRec ..

theorem sameButMailboxes_createRec (s : State) (e : Event) : SameButMailboxes s (createRec s e) := by
  unfold createRec
  dsimp only
  split
  · exact sameButMailboxes_setRec ..
  · split
    · exact sameButMailboxes_setRec ..
    · exact (sameButMailboxes_setRec ..).trans ((sameButMailboxes_putAnchor ..).trans (sameButMailboxes_setRec ..))

theorem sameButMailboxes_commitRec (s : State) (x : EvRec) : SameButMailboxes s (commitRec s x) := by
  unfold commitRec
  extract_lets x' s1
  have h1 : SameButMailboxes s s1 := sameButMailboxes_setRec ..
  split
  · split
    · exact h1.trans ((sameButMailboxes_setRec ..).trans (sameButMailboxes_finish ..))
    · exact h1
  · exact h1

theorem sameButMailboxes_putLastWord (s : State) (fault : Option (Nat × Nat)) : SameButMailboxes s (putLastWord s fault) := by
  unfold putLastWord
  exact sameButMailboxes_setPocket ..

theorem sameButMailboxes_exchReport (s : State) (x : ExchSt) (r : ExchRep) : SameButMailboxes s (exchReport s x r) :=
  (SameBase.butMailboxes (by simp)).trans (sameButMailboxes_finish ..)

theorem sameButMailboxes_abandonExch (s : State) : SameButMailboxes s (abandonExch s) := by
  unfold abandonExch
  split
  · exact .refl s
  · dsimp only
    split
    · exact SameBase.butMailboxes (by simp)
    · exact (SameBase.butMailboxes (by simp)).trans (sameButMailboxes_exchReport ..)

theorem sameButMailboxes_abandonCommit (s : State) : SameButMailboxes s (abandonCommit s) := by
  unfold abandonCommit
  split
  · exact .refl s
  · split
    · exact .refl s
    · exact (SameBase.butMailboxes (by simp)).trans (sameButMailboxes_finish ..)

theorem sameButMailboxes_answerDown (s : State) : SameButMailboxes s (answerDown s) :=
  .foldl (fun _ _ => .foldl (fun _ _ => sameButMailboxes_respond ..) ..) ..

/-- The T0 and the queue stand. -/
structure SameQueue (s t : State) : Prop where
  t0 : t.t0 = s.t0
  pending : t.pending = s.pending

theorem SameQueue.trans {s t u : State} (h : SameQueue s t) (k : SameQueue t u) : SameQueue s u := ⟨k.t0.trans h.t0, k.pending.trans h.pending⟩

theorem SameButMailboxes.queue {s t : State} (h : SameButMailboxes s t) : SameQueue s t := ⟨h.t0, h.pending⟩

theorem sameQueue_recorderFlush (s : State) : SameQueue s (recorderFlush s) := by
  unfold recorderFlush
  extract_lets s1 un pick lost before s2
  have h1 : SameQueue s s1 := SameQueue.trans (t := { s with evq := [] }) ⟨rfl, rfl⟩ (SameButMailboxes.foldl sameButMailboxes_createRec _ _).queue
  have h2 : SameQueue s s2 := h1.trans (SameButMailboxes.foldl sameButMailboxes_commitRec _ _).queue
  clear_value lost
  cases lost with
  | nil => exact h2.trans ((sameButMailboxes_putLastWord ..).trans (sameButMailboxes_setRec ..)).queue
  | cons x l =>
    dsimp -zeta only
    extract_lets known s3 s4
    have h3 : SameButMailboxes s2 s3 := (sameButMailboxes_setRec ..).trans (sameButMailboxes_putLastWord ..)
    exact (h2.trans h3.queue).trans ⟨rfl, rfl⟩

/-- A forced mode is entered now, in place of what pends (R73, R74). -/
theorem forceMode'_enters (s : State) (new : Mode) (trigger : Nat) :
    (forceMode' s new trigger).mode.cur = new ∧ (forceMode' s new trigger).mode.pend = none ∧ SameQueue s (forceMode' s new trigger) := by
  unfold forceMode'
  extract_lets u
  have hu : SameQueue s u := ((sameButMailboxes_abandonExch s).trans (sameButMailboxes_abandonCommit _)).queue
  have h := entered_enterMode { u with mode := { u.mode with pend := none } } new trigger u.t0
  exact ⟨h.cur, h.pend, hu.trans ⟨h.t0, h.pending⟩⟩

/-! ### WARM_BOOT_START (R349) -/

/-- The control die resets once the tiles are silent, and M1 is entered. -/
theorem exec_warmBootStart_silent {s : State} (hst : s.rst.stage = 1) (hs : ∀ n, n < 4 → (node s n).powered = true → (node s n).silent = true) :
    ∃ t, exec .warmBootStart s = .next t ∧ t.mode.cur = .boot ∧ t.mode.pend = none ∧ t.rst.stage = 2 ∧ t.t0 = s.t0 ∧ t.pending = s.pending := by
  have hgo : ¬ (s.rst.stage ≠ 1 ∨ [0, 1, 2, 3].any (fun n => (node s n).powered && !(node s n).silent) = true) := by
    rintro (h1 | hany)
    · exact h1 hst
    · obtain ⟨n, hn, hloud⟩ := List.any_eq_true.mp hany
      have hlt : n < 4 := by simp at hn; omega
      obtain ⟨hp, hl⟩ := Bool.and_eq_true_iff.mp hloud
      simp [hs n hlt hp] at hl
  show ∃ t, execWarmBootStart s = _ ∧ _
  unfold execWarmBootStart
  rw [if_neg hgo]
  extract_lets s1 forced engines s2 s3
  have h2 : SameQueue s s2 := (sameQueue_recorderFlush s).trans ⟨rfl, rfl⟩
  have h3 : SameBase s2 s3 := by simp [s3, setDomain]
  clear_value s3 s2
  obtain ⟨hcur, hpend, h4⟩ := forceMode'_enters { s3 with host := { s3.host with windowDown := true } } .boot 7
  generalize forceMode' { s3 with host := { s3.host with windowDown := true } } .boot 7 = u at hcur hpend h4 ⊢
  exact ⟨_, rfl, hcur, hpend, rfl, h4.t0.trans (h3.t0.trans h2.t0), h4.pending.trans (h3.pending.trans h2.pending)⟩

theorem exec_warmBootStart_elsewhere {s : State} (hst : s.rst.stage ≠ 1) : exec .warmBootStart s = .next s := if_pos (.inl hst)

/-! ### BOOT_END (R71, R361, R364, R553) -/

section BootEnd

variable {s : State} (hst : s.rst.stage = 2) (hp : s.mode.pend = none) (hw : s.twin.waitFrom = none) (ht : s.twin.st ≠ 1)
include hst hp hw ht

theorem bootEnd_may : ¬ (s.rst.stage ≠ 2 ∨ s.mode.pend.isSome = true ∨ s.twin.waitFrom.isSome = true ∨ s.twin.st = 1) := by
  simp [hst, hp, hw, ht]

/-- Once START code has run the boot goes on. -/
theorem exec_bootEnd_started (g : Bool) (a b : BitVec 2) (k : Bool) (hs : s.rst.started = true) :
    exec (.bootEnd g a b k) s = .next (if natBusy s then s else bootRest s) := by
  refine (if_neg (bootEnd_may hst hp hw ht)).trans ((if_pos hs).trans ?_)
  split <;> rfl

variable (hs : s.rst.started = false)
include hs

theorem exec_bootEnd_noBank (g : Bool) (a b : BitVec 2) (k : Bool) (hb : bankPick s b = none) : exec (.bootEnd g a b k) s = .next s := by
  refine (if_neg (bootEnd_may hst hp hw ht)).trans ((if_neg (Bool.eq_false_iff.mp hs)).trans ?_)
  rw [hb]

variable (g : Bool) (a : BitVec 2) {b : BitVec 2} (k : Bool) (hb : bankPick s b = some s.fw.bank)
include hb

/-- With the chosen bank good the header decides first. -/
theorem exec_bootEnd_header (hk : s.rst.kind ≠ 3) (hh : headerOk s = false) :
    exec (.bootEnd g a b k) s = .next (coldRestart s 0x33 s.rst.isl s.rst.origin s.rst.cause) := by
  refine (if_neg (bootEnd_may hst hp hw ht)).trans ((if_neg (Bool.eq_false_iff.mp hs)).trans ?_)
  rw [hb]
  dsimp only
  rw [if_pos rfl]
  exact if_pos ⟨hk, by simp [hh]⟩

/-- A keep restart with VBAT_LOST is made cold. -/
theorem exec_bootEnd_vbat (hk : s.rst.kind = 2) (hh : headerOk s = true) (hv : s.rst.vbatLost = true) :
    exec (.bootEnd g a b k) s = .next (coldRestart s 0x34 s.rst.isl s.rst.origin s.rst.cause) := by
  refine (if_neg (bootEnd_may hst hp hw ht)).trans ((if_neg (Bool.eq_false_iff.mp hs)).trans ?_)
  rw [hb]
  dsimp only
  rw [if_pos rfl]
  exact (if_neg (by simp [hh])).trans (if_pos ⟨hk, by simp [hv]⟩)

/-- A warm restart with its memory kept: engines are loaded again, what was lost is told, and START code runs first. -/
theorem exec_bootEnd_warm (hk : s.rst.kind = 1) (hh : headerOk s = true) (hg : g = false) (hc : s.deck.crcBad = false) (hd : s.rst.dramLost = false) :
    let s1 := loadEngines (journalInspect s)
    let s2 := setRst (askAnchor (tellRange (tellLost (if s1.deck.inUse then planCheck s1 else s1)) (journalInspect s).recd.era.toNat) 5) (fun d => { d with started := true })
    let runs := if s2.deck.inUse then startRuns s2 else []
    exec (.bootEnd g a b k) s = .next (if runs.isEmpty then bootRest s2 else natRuns s2 runs) := by
  refine (if_neg (bootEnd_may hst hp hw ht)).trans ((if_neg (Bool.eq_false_iff.mp hs)).trans ?_)
  rw [hb]
  dsimp only
  rw [if_pos rfl]
  refine (if_neg (by simp [hh])).trans ((if_neg (by simp [hk])).trans ((if_neg (by simp [hk])).trans ?_))
  have hkept : ¬ (s.rst.kind = 1 ∧ (g || (journalInspect s).deck.crcBad) = true) := by simp [hg, journalInspect, hc]
  have hcold : ¬ s.rst.kind = 3 := by simp [hk]
  have hdram : s.rst.kind = 1 ∧ (!(journalInspect s).rst.dramLost) = true := ⟨hk, by simp [journalInspect, hd]⟩
  simp only [if_neg hkept, if_neg hcold, if_pos hdram, if_pos hk]

end BootEnd

/-! ### RECONSTRUCTION_COMPLETE (R354) -/

/-- Rebuilding the operations leaves the T0, and the stage that the restart has reached. -/
theorem opsRestore_frame (s : State) : (opsRestore s).t0 = s.t0 ∧ (opsRestore s).rst.stage = s.rst.stage := by
  unfold opsRestore
  extract_lets recs good bad s1 s2 ops s3 s4 withP full s5
  have h1 : SameBase s s1 := by simp [s1]
  clear_value s1
  have hstage : s2.rst.stage = s1.rst.stage := rfl
  have h2 : SameBase s2 (trackPoints ((tkeys full).foldl opState s5)) := by simp [s5, s4, s3]
  exact ⟨h2.t0.trans h1.t0, by rw [h2.rst, hstage, h1.rst]⟩

/-- Once loops, axes and operations stand, Tr is the first whole millisecond at least 500 µs ahead. -/
theorem rebuild_sets (s : State) : (rebuild s).rst.tr = some (wholeMs s.t0 500000) ∧ (rebuild s).rst.stage = s.rst.stage := by
  unfold rebuild
  extract_lets s1 s2
  obtain ⟨ht0, hstage⟩ := opsRestore_frame (axesPrepare (loopsPrepare s))
  have h0 : SameBase s (axesPrepare (loopsPrepare s)) := by simp
  have h2 : SameBase s1 s2 := by simp [s2]
  have ht2 : s2.t0 = s.t0 := h2.t0.trans (ht0.trans h0.t0)
  have hstage2 : s2.rst.stage = s.rst.stage := by rw [h2.rst, hstage, h0.rst]
  clear_value s2
  exact ⟨congrArg (fun n => some (wholeMs n (500 * us))) ht2, hstage2⟩

section Reconstruction

variable {s : State} (hst : s.rst.stage = 3) (htr : s.rst.tr = none)
include hst htr

theorem reconstruction_may : ¬ (s.rst.stage ≠ 3 ∨ s.rst.tr.isSome = true) := by simp [hst, htr]

theorem exec_reconstructionComplete_recovered (hr : s.rst.recovered = true) :
    exec .reconstructionComplete s = if natBusy s then .next s else .next (rebuild s) :=
  (if_neg (reconstruction_may hst htr)).trans (if_pos hr)

theorem exec_reconstructionComplete_first (hr : s.rst.recovered = false) :
    let s1 := setRst (retainRestore s) (fun r => { r with recovered := true })
    exec .reconstructionComplete s = .next (if (recoveryRuns s1).isEmpty then rebuild s1 else natRuns s1 (recoveryRuns s1)) :=
  (if_neg (reconstruction_may hst htr)).trans (if_neg (Bool.eq_false_iff.mp hr))

end Reconstruction

/-! ### RESUME_GO (R353, R354) -/

@[simp] theorem stewardUp_rst (s : State) : (stewardUp s).rst = s.rst := irq_rst ..

@[simp] theorem stewardBack_rst (s : State) : (stewardBack s).rst = s.rst := by
  have h := (sameButMailboxes_answerDown s).rst
  unfold stewardBack
  generalize answerDown s = u at h ⊢
  exact (stewardUp_rst _).trans h

theorem exec_resumeGo_waits {s : State} {tr : Nat} (htr : s.rst.tr = some tr) (hd : s.t0 < tr) : exec .resumeGo s = .next s := by
  show execResumeGo s = _
  unfold execResumeGo
  rw [htr]
  exact if_pos (.inr hd)

/-- At Tr the restart ends and its target is entered. -/
theorem exec_resumeGo_due {s : State} {tr : Nat} (hst : s.rst.stage = 3) (htr : s.rst.tr = some tr) (hd : tr ≤ s.t0) :
    ∃ t, exec .resumeGo s = .next t ∧ t.rst.tr = none ∧ t.rst.stage = 0 ∧ t.mode.cur = resumeTarget s := by
  have hgo : ¬ (s.rst.stage ≠ 3 ∨ s.t0 < tr) := by simp [hst, hd]
  show ∃ t, execResumeGo s = _ ∧ _
  unfold execResumeGo
  rw [htr]
  dsimp -zeta only
  rw [if_neg hgo]
  extract_lets warm was dest s1 s2 s3 s4 thatch s5 s6 s7
  have htr1 : s1.rst.tr = none := rfl
  have hst1 : s1.rst.stage = 0 := rfl
  clear_value s1
  have h2 : s2.rst = s1.rst := by
    unfold s2
    split
    · rw [stewardBack_rst]
      exact ((sameBase_csxReturn ..).mpr (.refl s1)).rst
    · rfl
  have h3 : Entered s2 dest tr s3 := entered_enterMode ..
  have h7 : SameBase s3 s7 := by simp [s7, restartCauses, s6, s5, s4]
  have hrst : s7.rst = s1.rst := h7.rst.trans (h3.rst.trans h2)
  have hcur : s7.mode.cur = resumeTarget s := (congrArg ModeSt.cur h7.mode).trans h3.cur
  clear_value s7
  exact ⟨_, rfl, (congrArg RestartSt.tr hrst).trans htr1, (congrArg RestartSt.stage hrst).trans hst1, hcur⟩

theorem resumeTarget_latched {s : State} (h : ∃ l ∈ s.ridge.latches, l.react = .safe ∨ l.react = .ridgeStop) : resumeTarget s = .safe :=
  if_pos (by simpa using h)

/-! ### The statement -/

/-- Settles O30: the warm boot enters M1 and RESUME_GO its target by `enterMode`, whose frame says what stands after it; BOOT_END and RECONSTRUCTION_COMPLETE are the branch that the hypotheses choose. -/
theorem warmBootAndResume : Obligations.WarmBootAndResume := by
  unfold Obligations.WarmBootAndResume
  refine fun s => ⟨exec_warmBootStart_silent, exec_warmBootStart_elsewhere, fun g a b k hst hp hw ht hs => ⟨exec_bootEnd_noBank hst hp hw ht hs g a b k, fun hb =>
      ⟨exec_bootEnd_header hst hp hw ht hs g a k hb, exec_bootEnd_vbat hst hp hw ht hs g a k hb, exec_bootEnd_warm hst hp hw ht hs g a k hb⟩⟩,
    fun g a b k hst hp hw ht hs => exec_bootEnd_started hst hp hw ht g a b k hs, fun hst htr hr => ?rebuilt, exec_reconstructionComplete_first,
    fun tr _ => exec_resumeGo_waits, fun tr hst htr hd => exec_resumeGo_due hst htr hd, resumeTarget_latched⟩
  case rebuilt =>
    have hexec := exec_reconstructionComplete_recovered hst htr hr
    obtain ⟨htrNew, hstage⟩ := rebuild_sets s
    exact ⟨fun hb => hexec.trans (if_pos hb), fun hb => ⟨_, hexec.trans (if_neg (Bool.eq_false_iff.mp hb)), htrNew, hstage.trans hst⟩⟩

end Sys2Proof.Proofs
end

section
/-! The scheduler: strobes, releases, triggers, deadlines, placement and moves (R95-R110). -/

namespace Sys2Proof.Proofs

open Sys2Proof.Machine Sys2Proof.Laws

/-! ### Rules of tasks and engines -/

@[simp] theorem task_setTask_same (s : State) (i : Nat) (f : TaskSt → TaskSt) : task (setTask s i f) i = f (task s i) := tget_tmod_same ..

@[simp] theorem task_setEngine (s : State) (c i : Nat) (f : EngineSt → EngineSt) : task (setEngine s c f) i = task s i := rfl

@[simp] theorem engine_setTask (s : State) (i c : Nat) (f : TaskSt → TaskSt) : engine (setTask s i f) c = engine s c := rfl

@[simp] theorem engine_setEngine_same (s : State) (c : Nat) (f : EngineSt → EngineSt) : engine (setEngine s c f) c = f (engine s c) := tget_tmod_same ..

theorem engine_setEngine_other (s : State) {c k : Nat} (f : EngineSt → EngineSt) (h : k ≠ c) : engine (setEngine s c f) k = engine s k := tget_tmod_other _ _ f h

theorem task_of_sched {s t : State} (h : t.sched = s.sched) (i : Nat) : task t i = task s i := by
  unfold task
  rw [h]

theorem engine_of_sched {s t : State} (h : t.sched = s.sched) (c : Nat) : engine t c = engine s c := by
  unfold engine
  rw [h]

@[simp] theorem taskPoints_sched (s : State) (i : Nat) : (taskPoints s i).sched = s.sched := updates_sched ..

theorem depthPoint_sched (s : State) (c : Nat) :
    (depthPoint s c).sched = (setEngine s c (fun e => { e with depthMax := max e.depthMax (engine s c).queue.length })).sched := update_sched ..

@[simp] theorem task_depthPoint (s : State) (c i : Nat) : task (depthPoint s c) i = task s i := task_of_sched (depthPoint_sched s c) i

@[simp] theorem queue_depthPoint (s : State) (c : Nat) : (engine (depthPoint s c) c).queue = (engine s c).queue := by
  rw [engine_of_sched (depthPoint_sched s c), engine_setEngine_same]

@[simp] theorem task_mapRel (s : State) (i k : Nat) (f : Release → Release) : task (mapRel s i f) k = task s k := rfl

@[simp] theorem task_note_taskPoints (s : State) (k : Nat) (cls : Ev) (isl unit object : Nat) (l : List Nat) (i : Nat) :
    task (note (taskPoints s k) cls isl unit object l) i = task s i :=
  task_of_sched ((note_sched ..).trans (taskPoints_sched ..)) i

@[simp] theorem engine_note_taskPoints (s : State) (k : Nat) (cls : Ev) (isl unit object : Nat) (l : List Nat) (c : Nat) :
    engine (note (taskPoints s k) cls isl unit object l) c = engine s c :=
  engine_of_sched ((note_sched ..).trans (taskPoints_sched ..)) c

/-! ### Strobes, releases and triggers (R95-R98, R100) -/

theorem exec_sampleStrobeSend {s : State} {a : Nat} (hk : s.mode.cur ≠ .keep) (hb : s.mode.cur ≠ .boot) (hlo : s.t0 + 10000 ≤ a) (hhi : a ≤ s.t0 + 20000)
    (hi : strobeInstant s a = true) (n : Fin 7) :
    exec (.sampleStrobeSend n a) s = .next { s with sched := { s.sched with
      strobesOut := s.sched.strobesOut ++ [(n.val, { due := a })], strobesSent := s.sched.strobesSent + 1 } } :=
  if_neg (by simp [hk, hb, hi, us, hlo, hhi])

theorem releaseTask_eq (s : State) (i t : Nat) : releaseTask s i t = if (relOf s i).isSome then skipRel s i else queueRel s i t := by
  unfold releaseTask
  cases relOf s i <;> rfl

theorem exec_taskRelease {s : State} {k : BitVec 10} (hp : (task s k.toNat).present = true) (hs : (task s k.toNat).stopped = false)
    (hk : (task s k.toNat).kind ≠ 1) (he : flag s pTaskEnable k.toNat = true) (hr : programsRun s k.toNat = true) (hus : s.t0 % 1000 = 0)
    (hi : isRelease (s.t0 / 1000) (param s pTaskPeriod k.toNat) (param s pTaskPhase k.toNat) = true) :
    exec (.taskRelease k) s = .next (if (relOf s k.toNat).isSome then skipRel s k.toNat else queueRel s k.toNat s.t0) := by
  rw [← releaseTask_eq]
  exact if_pos (by simp [hp, hs, hk, he, hr, us, hus, hi])

theorem exec_heldTriggerRelease {s : State} {k : BitVec 10} {l : Nat} (hl : (task s k.toNat).lastRel = some l) (hh : (task s k.toNat).heldTrig = true)
    (hd : l + periodNs s k.toNat ≤ s.t0) :
    exec (.heldTriggerRelease k) s =
      .next (releaseTask (setTask s k.toNat (fun d => { d with heldTrig := false })) k.toNat (l + periodNs s k.toNat)) := by
  show execHeldTriggerRelease k s = _
  unfold execHeldTriggerRelease
  dsimp only
  rw [hl]
  exact if_pos (by simp [hh, hd])

/-- The oldest trigger leaves the queue once its instant has come; a standby does nothing more with it. -/
theorem exec_eventTaskTrigger {s : State} {i t : Nat} {r : List (Nat × Nat)} (hq : s.sched.trigs = (i, t) :: r) (hd : t ≤ s.t0) :
    let s1 := { s with sched := { s.sched with trigs := r } }
    exec .eventTaskTrigger s = if s.mode.cur = .standby then .next s1 else .next (takeTrig (forward s1 1 [i, t]) i t) := by
  have hfind : s.sched.trigs.find? (fun e => decide (e.2 ≤ s.t0)) = some (i, t) := by simp [hq, hd]
  have herase : s.sched.trigs.erase (i, t) = r := by simp [hq]
  show execEventTaskTrigger s = _
  unfold execEventTaskTrigger
  rw [hfind]
  dsimp only
  rw [herase]

theorem exec_engineAskWork {s : State} {ce : Fin 16} (hr : (engine s ce).running = none) :
    exec (.engineAskWork ce) s = .next (dispatch (setEngine s ce (fun e => { e with waiting := true })) ce) :=
  if_neg (by simp [hr])

/-! ### Deadlines and the late apply strobe (R103, R105, R106) -/

section Deadline

variable {s : State} {k : BitVec 10} {r : Release} (hr : relOf s k.toNat = some r)
include hr

/-- A release that has not begun leaves the queue and is counted as missed. -/
theorem exec_taskDeadline_missed (hd : r.due + periodNs s k.toNat ≤ s.t0 + 20000) (ho : r.overrun = false) (hb : r.began = none) :
    ∃ t, exec (.taskDeadline k) s = .next t ∧ (task t k.toNat).missed = ((task s k.toNat).missed + 1) % 2 ^ 32 ∧
      (engine t (homeOf s k.toNat)).queue = slotTrim ((engine s (homeOf s k.toNat)).queue.filter (fun x => x.task != k.toNat)) := by
  show ∃ t, execTaskDeadline k s = _ ∧ _
  unfold execTaskDeadline
  dsimp only
  rw [hr]
  dsimp only
  rw [if_neg (by simp [us, hd, ho]), if_pos (by simp [hb])]
  refine ⟨_, rfl, ?missed, ?queue⟩
  case missed => rw [task_note_taskPoints, task_setTask_same, task_depthPoint, task_setEngine]
  case queue => rw [engine_note_taskPoints, engine_setTask, queue_depthPoint, engine_setEngine_same]

/-- A release that runs overruns: it is counted and takes the next set number for its late apply strobe. -/
theorem exec_taskDeadline_overrun (hd : r.due + periodNs s k.toNat ≤ s.t0 + 20000) (ho : r.overrun = false) (hb : r.began ≠ none) :
    ∃ t, exec (.taskDeadline k) s = .next t ∧ (task t k.toNat).overruns = ((task s k.toNat).overruns + 1) % 2 ^ 32 ∧
      t.sched.nextSet = s.sched.nextSet + 1 := by
  show ∃ t, execTaskDeadline k s = _ ∧ _
  unfold execTaskDeadline
  dsimp only
  rw [hr]
  dsimp only
  rw [if_neg (by simp [us, hd, ho]), if_neg (by simp [hb])]
  refine ⟨_, rfl, ?overruns, ?nextSet⟩
  case overruns =>
    rw [task_note_taskPoints, task_setTask_same, task_mapRel]
    rfl
  case nextSet =>
    rw [note_sched, taskPoints_sched]
    rfl

theorem exec_applyStrobeSend {id : Nat} (hid : r.setId = some id) (hs : r.strobed = false) :
    exec (.applyStrobeSend k) s =
      .next (sendApply (mapRel s k.toNat (fun r => { r with strobed := true })) (writerNodes s k.toNat) id (r.due + periodNs s k.toNat)) := by
  show execApplyStrobeSend k s = _
  unfold execApplyStrobeSend
  dsimp only
  rw [hr]
  dsimp only
  rw [hid]
  exact if_neg (by simp [hs])

end Deadline

/-! ### The placement window (R109, R112) -/

/-- The state in which each engine has the busy fraction of a window. -/
def takeBusy (l : List Nat) (s : State) : State :=
  (List.range 16).foldl (fun s c => setEngine s c (fun e => { e with busy := (l[c]?).getD 0 })) s

theorem busy_foldl_setEngine (v : Nat → Nat) (l : List Nat) (s : State) (k : Nat) :
    (engine (l.foldl (fun s c => setEngine s c (fun e => { e with busy := v c })) s) k).busy = if k ∈ l then v k else (engine s k).busy := by
  induction l generalizing s with
  | nil => rfl
  | cons c l ih =>
    rw [List.foldl_cons, ih]
    by_cases hc : k = c
    · subst hc
      simp
    · simp [hc, engine_setEngine_other]

theorem busy_takeBusy (l : List Nat) (s : State) {k : Nat} (hk : k < 16) : (engine (takeBusy l s) k).busy = (l[k]?).getD 0 :=
  (busy_foldl_setEngine (fun c => (l[c]?).getD 0) _ s k).trans (if_pos (List.mem_range.mpr hk))

/-- Taking the busy fractions keeps what no engine's busy fraction concerns. -/
theorem takeBusy_keeps {γ : Type} (g : State → γ) (hbusy : ∀ s c n, g (setEngine s c (fun e => { e with busy := n })) = g s) (l : List Nat) (s : State) :
    g (takeBusy l s) = g s :=
  foldl_keeps g (fun _ _ => hbusy ..) _ s

theorem home_takeBusy (l : List Nat) (s : State) : (takeBusy l s).sched.home = s.sched.home := takeBusy_keeps (fun s => s.sched.home) (fun _ _ _ => rfl) l s

theorem move_takeBusy (l : List Nat) (s : State) : (takeBusy l s).sched.move = s.sched.move := takeBusy_keeps (fun s => s.sched.move) (fun _ _ _ => rfl) l s

theorem flag_takeBusy (l : List Nat) (s : State) (code inst : Nat) : flag (takeBusy l s) code inst = flag s code inst :=
  takeBusy_keeps (fun s => flag s code inst) (fun _ _ _ => rfl) l s

/-- The depth that an engine publishes is no part of its busy fraction. -/
theorem busy_setEngine_depthMax (s : State) (c k : Nat) (n : EngineSt → Nat) :
    (engine (setEngine s c (fun e => { e with depthMax := n e })) k).busy = (engine s k).busy := by
  by_cases hc : k = c
  · rw [hc, engine_setEngine_same]
  · rw [engine_setEngine_other _ _ hc]

/-- Publishing a window's points keeps what updates, an engine's published depth and the scheduler's window counts do not concern. -/
theorem windowPoints_keeps {γ : Type} (g : State → γ) (hupd : ∀ s t l, g (updates s t l) = g s)
    (hdepth : ∀ s c (n : EngineSt → Nat), g (setEngine s c (fun e => { e with depthMax := n e })) = g s)
    (hcounts : ∀ s a b c, g { s with sched := { s.sched with relsWin := a, strobesMark := b, pendMax := c } } = g s) (s : State) :
    g (windowPoints s) = g s :=
  (hcounts ..).trans ((hupd ..).trans (foldl_keeps g (fun _ _ => (hdepth ..).trans (hupd ..)) _ s))

theorem busy_windowPoints (s : State) (k : Nat) : (engine (windowPoints s) k).busy = (engine s k).busy :=
  windowPoints_keeps (fun s => (engine s k).busy) (fun _ _ _ => congrArg EngineSt.busy (engine_of_sched (updates_sched ..) k))
    (fun s c n => busy_setEngine_depthMax s c k n) (fun _ _ _ _ => rfl) s

theorem home_windowPoints (s : State) : (windowPoints s).sched.home = s.sched.home :=
  windowPoints_keeps (fun s => s.sched.home) (fun _ _ _ => congrArg SchedSt.home (updates_sched ..)) (fun _ _ _ => rfl) (fun _ _ _ _ => rfl) s

theorem move_windowPoints (s : State) : (windowPoints s).sched.move = s.sched.move :=
  windowPoints_keeps (fun s => s.sched.move) (fun _ _ _ => congrArg SchedSt.move (updates_sched ..)) (fun _ _ _ => rfl) (fun _ _ _ _ => rfl) s

theorem flag_windowPoints (s : State) (code inst : Nat) : flag (windowPoints s) code inst = flag s code inst :=
  windowPoints_keeps (fun s => flag s code inst) (fun _ _ _ => updates_flag ..) (fun _ _ _ => rfl) (fun _ _ _ _ => rfl) s

/-- With adaptation off a window takes the busy fractions, publishes its points and decides no move. -/
theorem exec_placementWindow_off {s : State} (ha : flag s pSysPlaceAdapt 0 = false) (l : List Nat) :
    exec (.placementWindow l) s = .next (windowPoints (takeBusy l s)) := by
  have hoff : flag (windowPoints (takeBusy l s)) pSysPlaceAdapt 0 = false := (flag_windowPoints ..).trans ((flag_takeBusy ..).trans ha)
  show execPlacementWindow l s = _
  unfold execPlacementWindow
  extract_lets u
  have hu : u = windowPoints (takeBusy l s) := rfl
  clear_value u
  rw [hu, if_pos (.inl (by simp [hoff]))]

theorem windowPoints_takeBusy_frame (l : List Nat) (s : State) :
    (∀ c, c < 16 → (engine (windowPoints (takeBusy l s)) c).busy = (l[c]?).getD 0) ∧
      (windowPoints (takeBusy l s)).sched.home = s.sched.home ∧ (windowPoints (takeBusy l s)).sched.move = s.sched.move :=
  ⟨fun c hc => (busy_windowPoints _ c).trans (busy_takeBusy l s hc), (home_windowPoints _).trans (home_takeBusy l s),
    (move_windowPoints _).trans (move_takeBusy l s)⟩

/-! ### Program moves (R110) -/

/-- Marking a program's tasks keeps what neither their records nor their points concern. -/
theorem markMove_keeps {γ : Type} (g : State → γ) (htask : ∀ s i f, g (setTask s i f) = g s) (hpoints : ∀ s i, g (taskPoints s i) = g s)
    (s : State) (p : Nat) (on : Bool) : g (markMove s p on) = g s :=
  foldl_keeps g (fun _ _ => (hpoints ..).trans (htask ..)) _ s

theorem home_markMove (s : State) (p : Nat) (on : Bool) : (markMove s p on).sched.home = s.sched.home :=
  markMove_keeps (fun s => s.sched.home) (fun _ _ _ => rfl) (fun _ _ => congrArg SchedSt.home (taskPoints_sched ..)) s p on

theorem move_markMove (s : State) (p : Nat) (on : Bool) : (markMove s p on).sched.move = s.sched.move :=
  markMove_keeps (fun s => s.sched.move) (fun _ _ _ => rfl) (fun _ _ => congrArg SchedSt.move (taskPoints_sched ..)) s p on

theorem engine_markMove (s : State) (p : Nat) (on : Bool) (c : Nat) : engine (markMove s p on) c = engine s c :=
  markMove_keeps (fun s => engine s c) (fun _ _ _ => rfl) (fun _ _ => engine_of_sched (taskPoints_sched ..) c) s p on

/-- Bytes copied to a memory read there as they did where they came from. -/
theorem mreads_mwrites_mreads (m m' : Mem) (n k : Nat) : mreads (mwrites m n (mreads m' n k)) n k = mreads m' n k := by
  simpa [mreads] using mreads_mwrites m n (mreads m' n k)

section Move

variable {s : State} {m : MovePend} (hm : s.sched.move = some m)
include hm

/-- In a gap of the stated length the program's home and its data memory are on the new engine. -/
theorem exec_programMove (hx : s.sched.exch.any (fun x => x.slot == m.prog) = false)
    (hgap : ∀ e ∈ s.sched.tasks, e.2.present = true → e.2.prog = m.prog → relOf s e.1 = none ∧
      ∀ a, nextRelease s e.1 s.t0 = some a → s.t0 + 22000 + 400 * tget 0 s.sched.progKib m.prog ≤ a) :
    ∃ t, exec .programMove s = .next t ∧ tget 0 t.sched.home m.prog = m.dst ∧ t.sched.move = none ∧
      mreads (engine t m.dst).mem (prog s m.prog).base (prog s m.prog).len =
        mreads (engine s (tget 0 s.sched.home m.prog)).mem (prog s m.prog).base (prog s m.prog).len := by
  have hfree : ¬ (s.sched.tasks.filter (fun e => e.2.present && e.2.prog == m.prog)).any (fun e => (relOf s e.1).isSome ||
      (nextRelease s e.1 s.t0).any (fun t => decide (t < s.t0 + (22 * us + 400 * tget 0 s.sched.progKib m.prog)))) = true := by
    simp only [List.any_eq_true, List.mem_filter, Bool.and_eq_true, beq_iff_eq, not_exists, not_and, and_imp]
    intro e he hp hprog
    obtain ⟨hrel, hnext⟩ := hgap e he hp hprog
    simp only [hrel, Option.isSome_none, Bool.false_or, Option.any_eq_true, not_exists, not_and, us]
    intro a ha hlt
    have hge := hnext a ha
    have hlt := of_decide_eq_true hlt
    omega
  show ∃ t, execProgramMove s = _ ∧ _
  unfold execProgramMove
  rw [hm]
  dsimp only
  rw [if_neg (by simp [hx]), if_neg hfree]
  refine ⟨_, rfl, ?home, ?move, ?mem⟩
  case home =>
    rw [note_sched, home_markMove, updates_sched]
    exact tget_tset_same ..
  case move =>
    rw [note_sched, move_markMove, updates_sched]
    rfl
  case mem =>
    rw [engine_of_sched (note_sched ..), engine_markMove, engine_of_sched (updates_sched ..), engine_setEngine_same, engine_setEngine_same]
    exact mreads_mwrites_mreads ..

/-- Without a gap for 1 s the move is given up and the program stays at its home. -/
theorem exec_programMoveAbandon (hd : m.decided + 1000000000 ≤ s.t0) :
    ∃ t, exec .programMoveAbandon s = .next t ∧ t.sched.move = none ∧ t.sched.home = s.sched.home := by
  show ∃ t, execProgramMoveAbandon s = _ ∧ _
  unfold execProgramMoveAbandon
  rw [hm]
  dsimp -zeta only
  rw [if_neg (by simpa [sec] using hd)]
  refine ⟨_, rfl, ?move, ?home⟩
  case move => rw [note_sched, move_markMove]
  case home => rw [note_sched, home_markMove]

end Move

/-! ### The statement -/

/-- Settles O5: each row's rule above, by the branch of the row that the hypotheses choose; RELEASE_END is its own operation. -/
theorem schedulerReleasesAndMoves : Obligations.SchedulerReleasesAndMoves := by
  unfold Obligations.SchedulerReleasesAndMoves
  refine ⟨fun s => ⟨fun n a hk hb hlo hhi hi => exec_sampleStrobeSend hk hb hlo hhi hi n,
      fun k => ⟨exec_taskRelease, fun l => exec_heldTriggerRelease⟩, fun i t r hq hd => ⟨fun hst => ?standby, fun hst => ?acts⟩, fun ce => exec_engineAskWork⟩,
    fun s => ⟨fun k r hr => ⟨fun hd ho => ⟨exec_taskDeadline_missed hr hd ho, exec_taskDeadline_overrun hr hd ho⟩, fun id => exec_applyStrobeSend hr⟩,
      fun l ha => ⟨_, exec_placementWindow_off ha l, windowPoints_takeBusy_frame l s⟩, fun m hm => ⟨exec_programMove hm, exec_programMoveAbandon hm⟩, fun ce => rfl⟩⟩
  case standby => exact (exec_eventTaskTrigger hq hd).trans (if_pos hst)
  case acts => exact (exec_eventTaskTrigger hq hd).trans (if_neg hst)

end Sys2Proof.Proofs
end

section
/-! The operand forms of the bit-logic instructions: what each answers where a release runs, its registers and state or its fault (R115-R119, R127). -/

namespace Sys2Proof.Proofs

open Sys2Proof.Machine Sys2Proof.Laws Sys2Proof.Safety

/-- The state in which the instruction word with this opcode and operand has ended the release with fault `k`. -/
abbrev blFaultAt (s : State) (ce : Fin 16) (op : Nat) (x : BitVec 25) (k : Nat) : State :=
  blFault s ce.val k (engine s ce.val).bl.pc (op * 2 ^ 25 + x.toNat)

section Forms

variable {s t : State} {ce : Fin 16} {r : Release} {op k : Nat} {x : BitVec 25} {g : BlRegs} (h : BlAt s ce r)
include h

/-! ### An instruction whose operation answers, and one whose operation faults -/

theorem blExec_ok {f : Nat → Release → BlRegs → State → Except Nat (BlRegs × State)} (hf : f ce.val r (blGo s ce) s = .ok (g, t)) :
    blExec ce op x s f = blSet t ce g := by
  rw [blExec_at h, hf]

theorem blExec_error {f : Nat → Release → BlRegs → State → Except Nat (BlRegs × State)} (hf : f ce.val r (blGo s ce) s = .error k) :
    blExec ce op x s f = blFaultAt s ce op x k := by
  rw [blExec_at h, hf]

/-! ### No operand -/

theorem next_opNone {f : Nat → Release → BlRegs → State → Except Nat BlRegs} (hf : f ce.val r (blGo s ce) s = .ok g) :
    (.next (opNone ce op 0 s f) : Res) = .next (blSet s ce g) :=
  congrArg _ (blExec_ok h (by simp [hf, Except.map]))

theorem next_opNone_error {f : Nat → Release → BlRegs → State → Except Nat BlRegs} (hx : x = 0) (hf : f ce.val r (blGo s ce) s = .error k) :
    (.next (opNone ce op x s f) : Res) = .next (blFaultAt s ce op x k) :=
  congrArg _ (blExec_error h (by simp [hx, hf, Except.map]))

theorem next_opNone_reserved {f : Nat → Release → BlRegs → State → Except Nat BlRegs} (hx : x ≠ 0) :
    (.next (opNone ce op x s f) : Res) = .next (blFaultAt s ce op x 8) :=
  congrArg _ (blExec_error h (if_pos hx))

/-! ### A bit, a quality or a word read -/

theorem next_opBit {f : BlRegs → Bool → BlRegs} (hx : localBad x false = false) :
    (.next (opBit ce op x s f) : Res) = .next (blSet s ce (f (blGo s ce) (bitOf s ce.val r x))) :=
  congrArg _ (blExec_ok h (if_neg (ne_true_of_eq_false hx)))

theorem next_opBit_reserved {f : BlRegs → Bool → BlRegs} (hx : localBad x false = true) :
    (.next (opBit ce op x s f) : Res) = .next (blFaultAt s ce op x 8) :=
  congrArg _ (blExec_error h (if_pos hx))

theorem next_opGood {f : BlRegs → Bool → BlRegs} (hx : localBad x false = false) :
    (.next (opGood ce op x s f) : Res) = .next (blSet s ce (f (blGo s ce) (qualAt s ce.val r x == 0))) :=
  congrArg _ (blExec_ok h (if_neg (ne_true_of_eq_false hx)))

theorem next_opWord {f : BlRegs → Word → BlRegs} (hx : localBad x true = false) :
    (.next (opWord ce op x s f) : Res) = .next (blSet s ce (f (blGo s ce) (wordOf s ce.val r x))) :=
  congrArg _ (blExec_ok h (if_neg (ne_true_of_eq_false hx)))

theorem next_opWord_reserved {f : BlRegs → Word → BlRegs} (hx : localBad x true = true) :
    (.next (opWord ce op x s f) : Res) = .next (blFaultAt s ce op x 8) :=
  congrArg _ (blExec_error h (if_pos hx))

/-! ### A bit stored -/

theorem next_opPutBit {f : BlRegs → Option Bool} {b : Bool} (hx : localBad x false = false) (hf : f (blGo s ce) = some b) :
    (.next (opPutBit ce op x s f) : Res) = .next (blSet (putBit s ce.val x b) ce (blGo s ce)) :=
  congrArg _ (blExec_ok h (by simp [hx, hf]))

theorem next_opPutBit_none {f : BlRegs → Option Bool} (hx : localBad x false = false) (hf : f (blGo s ce) = none) :
    (.next (opPutBit ce op x s f) : Res) = .next (blSet s ce (blGo s ce)) :=
  congrArg _ (blExec_ok h (by simp [hx, hf]))

theorem next_opPutBit_reserved {f : BlRegs → Option Bool} (hx : localBad x false = true) :
    (.next (opPutBit ce op x s f) : Res) = .next (blFaultAt s ce op x 8) :=
  congrArg _ (blExec_error h (if_pos hx))

/-! ### An immediate, a shift count -/

theorem next_opImm {f : BlRegs → Int → BlRegs} : (.next (opImm ce op x s f) : Res) = .next (blSet s ce (f (blGo s ce) x.toInt)) :=
  congrArg _ (blExec_ok h rfl)

theorem next_opShift {f : Word → Nat → Word} (hx : x.toNat < 32) :
    (.next (opShift ce op x s f) : Res) = .next (blSet s ce { blGo s ce with wa := f (blGo s ce).wa x.toNat }) :=
  congrArg _ (blExec_ok h (if_neg (by omega)))

theorem next_opShift_reserved {f : Word → Nat → Word} (hx : 32 ≤ x.toNat) :
    (.next (opShift ce op x s f) : Res) = .next (blFaultAt s ce op x 8) :=
  congrArg _ (blExec_error h (if_pos hx))

/-! ### A code word index -/

theorem next_opCode {f : BlRegs → Nat → Except Nat BlRegs} (hx : x.toNat < 2 ^ 15) (hw : x.toNat < (prog s (task s r.task).prog).words)
    (hf : f (blGo s ce) x.toNat = .ok g) : (.next (opCode ce op x s f) : Res) = .next (blSet s ce g) :=
  congrArg _ (blExec_ok h (by rw [if_neg (Nat.not_le.mpr hx), if_neg (Nat.not_le.mpr hw), hf]; rfl))

theorem next_opCode_error {f : BlRegs → Nat → Except Nat BlRegs} (hx : x.toNat < 2 ^ 15) (hw : x.toNat < (prog s (task s r.task).prog).words)
    (hf : f (blGo s ce) x.toNat = .error k) :
    (.next (opCode ce op x s f) : Res) = .next (blFaultAt s ce op x k) :=
  congrArg _ (blExec_error h (by rw [if_neg (Nat.not_le.mpr hx), if_neg (Nat.not_le.mpr hw), hf]; rfl))

theorem next_opCode_beyond {f : BlRegs → Nat → Except Nat BlRegs} (hx : x.toNat < 2 ^ 15) (hw : (prog s (task s r.task).prog).words ≤ x.toNat) :
    (.next (opCode ce op x s f) : Res) = .next (blFaultAt s ce op x 7) :=
  congrArg _ (blExec_error h (by rw [if_neg (Nat.not_le.mpr hx), if_pos hw]))

theorem next_opCode_reserved {f : BlRegs → Nat → Except Nat BlRegs} (hx : 2 ^ 15 ≤ x.toNat) :
    (.next (opCode ce op x s f) : Res) = .next (blFaultAt s ce op x 8) :=
  congrArg _ (blExec_error h (if_pos hx))

/-! ### A record -/

theorem opInst_ok {f : Nat → Release → BlRegs → State → Except Nat (BlRegs × State)} (hx : x.toNat < 2 ^ 16) (hf : f ce.val r (blGo s ce) s = .ok (g, t)) :
    opInst ce op x s f = blSet t ce g :=
  blExec_ok h ((if_neg (Nat.not_le.mpr hx)).trans hf)

theorem opInst_error {f : Nat → Release → BlRegs → State → Except Nat (BlRegs × State)} (hx : x.toNat < 2 ^ 16) (hf : f ce.val r (blGo s ce) s = .error k) :
    opInst ce op x s f = blFaultAt s ce op x k :=
  blExec_error h ((if_neg (Nat.not_le.mpr hx)).trans hf)

end Forms

/-! ### The nesting stack and the call stack -/

theorem push_of_room {g : BlRegs} (h : g.nest.length < 16) (b : Bool) (code : Nat) : g.push b code = .ok { g with nest := (b, code) :: g.nest } :=
  if_neg (Nat.not_le.mpr h)

theorem push_of_full {g : BlRegs} (h : g.nest.length = 16) (b : Bool) (code : Nat) : g.push b code = .error 2 :=
  if_pos h.ge

theorem pop_of_cons {g : BlRegs} {b : Bool} {k : Nat} {l : List (Bool × Nat)} (h : g.nest = (b, k) :: l) : g.pop = .ok (b, k, { g with nest := l }) := by
  rw [BlRegs.pop, h]

theorem pop_of_nil {g : BlRegs} (h : g.nest = []) : g.pop = .error 3 := by
  rw [BlRegs.pop, h]

theorem call_of_room {g : BlRegs} (h : g.calls.length < 8) (t : Nat) : g.call t = .ok { g with calls := g.pc :: g.calls, pc := t } :=
  if_neg (Nat.not_le.mpr h)

theorem call_of_full {g : BlRegs} (h : g.calls.length = 8) (t : Nat) : g.call t = .error 4 :=
  if_pos h.ge

theorem ret_of_cons {g : BlRegs} {a : Nat} {l : List Nat} (h : g.calls = a :: l) : g.ret = .ok { g with calls := l, pc := a } := by
  rw [BlRegs.ret, h]

theorem ret_of_nil {g : BlRegs} (h : g.calls = []) : g.ret = .error 5 := by
  rw [BlRegs.ret, h]

end Sys2Proof.Proofs
end

section
/-! Bit logic on bits: reads, stores, nested terms (R113, R115-R119, R122). -/

namespace Sys2Proof.Proofs

open Sys2Proof.Machine Sys2Proof.Laws Sys2Proof.Safety

/-- A bit put into a byte as a bit store does it reads back, and the other bits stay. -/
theorem getLsbD_bitPut (y : Byte) (b : Bool) {k j : Nat} (hj : j < 8) :
    (if b then y ||| bv 8 (2 ^ k) else y &&& ~~~ bv 8 (2 ^ k)).getLsbD j = if j = k then b else y.getLsbD j := by
  have hbit : (bv 8 (2 ^ k)).getLsbD j = decide (j = k) := by
    rw [BitVec.getLsbD_ofNat, Nat.testBit_two_pow, decide_eq_true hj, Bool.true_and, decide_eq_decide, eq_comm]
  cases b with
  | false =>
    rw [if_neg (by simp), BitVec.getLsbD_and, BitVec.getLsbD_not, hbit]
    by_cases hjk : j = k <;> simp [hj, hjk]
  | true =>
    rw [if_pos rfl, BitVec.getLsbD_or, hbit]
    by_cases hjk : j = k <;> simp [hjk]

section Stores

variable {s : State} {ce : Fin 16} {x : BitVec 25} {b : Bool} {i : Instr} {g : BlRegs} (hi : exec i s = .next (blSet (putBit s ce.val x b) ce g))
include hi

/-- A bit store to a LOCAL operand changes the one bit it names. -/
theorem exec_putBit_local (hl : isLocalPt x = true) :
    let m := (engine s ce.val).mem
    let a := localBit x / 8
    ∃ m', exec i s = .next (blMem s ce g m') ∧ (mread m' a).getLsbD (localBit x % 8) = b ∧
      (∀ j, j < 8 → j ≠ localBit x % 8 → (mread m' a).getLsbD j = (mread m a).getLsbD j) ∧ SameBut m m' a 1 := by
  intro m a
  rw [putBit, if_pos hl] at hi
  dsimp only at hi
  rw [blSet_dataWrite] at hi
  refine ⟨_, hi, ?_, fun j hj hne => ?_, sameBut_mwrites _ _ [_]⟩
  · rw [mwrites, mwrites, mread_mwrite_same, getLsbD_bitPut _ _ (Nat.mod_lt _ (by omega)), if_pos rfl]
  · rw [mwrites, mwrites, mread_mwrite_same, getLsbD_bitPut _ _ hj, if_neg hne]

/-- A bit store to a point enters 1 or 0 with quality GOOD into the output set. -/
theorem exec_putBit_point (hl : isLocalPt x = false) : exec i s = .next (blSet (outWrite s ce.val x.toNat (if b then 1 else 0) 0) ce g) := by
  rwa [putBit, if_neg (ne_true_of_eq_false hl)] at hi

end Stores

/-- Settles O6: each row is its form's rule; XORN moves the negation out, and ) combines by the entry's code. -/
theorem bitLogicBits : Obligations.BitLogicBits := by
  unfold Obligations.BitLogicBits
  refine ⟨fun s ce x r h hx => ?reads, fun s ce x r h hx => ?stores, fun s ce r h => ?plain⟩
  case reads =>
    refine ⟨next_opBit h hx, next_opBit h hx, next_opBit h hx, next_opBit h hx, next_opBit h hx, next_opBit h hx, next_opBit h hx, ?xorn,
      next_opGood h hx, next_opGood h hx, next_opGood h hx⟩
    rw [← Bool.xor_not]
    exact next_opBit h hx
  case stores =>
    intro g m a k put
    have puts {i : Instr} {b : Bool} (hi : exec i s = .next (blSet (putBit s ce.val x b) ce g)) : put i b :=
      ⟨exec_putBit_local hi, exec_putBit_point hi⟩
    exact ⟨puts (next_opPutBit h hx rfl), puts (next_opPutBit h hx rfl),
      fun hl => ⟨puts (next_opPutBit h hx (if_pos hl)), puts (next_opPutBit h hx (if_pos hl))⟩,
      fun hl => ⟨next_opPutBit_none h hx (if_neg (ne_true_of_eq_false hl)), next_opPutBit_none h hx (if_neg (ne_true_of_eq_false hl))⟩⟩
  case plain =>
    refine ⟨next_opNone h rfl, next_opNone h rfl, next_opNone h rfl, next_opNone h rfl, next_opNone h rfl, next_opNone h rfl,
      fun hn => ⟨next_opNone h ?and, next_opNone h ?or, next_opNone h ?xor, next_opNone h (push_of_room hn ..)⟩,
      fun b k l hn => ⟨next_opNone h ?pop, next_opNone h ((congrArg (Except.map _) (pop_of_cons hn)).trans (congrArg Except.ok ?close))⟩⟩
    case and | or | xor => exact congrArg (Except.map _) (push_of_room hn ..)
    case pop => exact congrArg (Except.map _) (pop_of_cons hn)
    case close =>
      match k with
      | 0 | 1 | 2 | 3 => rfl
      | _ + 4 => simp

end Sys2Proof.Proofs
end

section
/-! Bit logic on words: moves, LOCAL memory, integer arithmetic, shifts (R114, R116, R118, R119, R123, R124). -/

namespace Sys2Proof.Proofs

open Sys2Proof.Machine Sys2Proof.Laws Sys2Proof.Safety

/-- An instruction that stores a value in `k` bytes of LOCAL memory changes those bytes alone. -/
theorem exec_dataWrite {s : State} {ce : Fin 16} {i : Instr} {g : BlRegs} {a k v : Nat}
    (hi : exec i s = .next (blSet (dataWrite s ce.val a (leBytes k v)) ce g)) :
    ∃ m', exec i s = .next (blMem s ce g m') ∧ mreads m' a k = leBytes k v ∧ SameBut (engine s ce.val).mem m' a k := by
  rw [blSet_dataWrite] at hi
  exact ⟨_, hi, mreads_mwrites_leBytes .., by simpa using sameBut_mwrites (engine s ce.val).mem a (leBytes k v)⟩

theorem not_isLocalPt_of_isMem {x : BitVec 25} (h : isMem x = true) : isLocalPt x = false := by
  simp only [isMem, decide_eq_true_eq] at h
  simp only [isLocalPt, beq_eq_false_iff_ne]
  omega

/-- An exact integer result sets OV when it does not fit 32 bits signed (R114). -/
theorem intRes_eq (g : BlRegs) (z : Int) :
    g.intRes z = { g with wa := BitVec.ofInt 32 z, ov := g.ov || decide (z < -2147483648 ∨ 2147483647 < z) } := by
  rw [BlRegs.intRes, outOf32, Bool.decide_or]

/-! ### Words to and from memory and points -/

section Words

variable {s : State} {ce : Fin 16} {r : Release} {x : BitVec 25} (h : BlAt s ce r)
include h

theorem exec_blStw (hx : localBad x true = false) : exec (.blStw ce x) s = .next (blSet (putWord s ce.val x (blGo s ce).wa) ce (blGo s ce)) :=
  congrArg _ (blExec_ok h (if_neg (ne_true_of_eq_false hx)))

/-- STWQ stores to a MEM point with the quality in WB, reserved codes as BAD_RANGE (R124). -/
theorem exec_blStwq (hx : isMem x = true) : exec (.blStwq ce x) s =
    let q := (blGo s ce).wb.toNat % 16
    .next (blSet (outWrite s ce.val x.toNat (blGo s ce).wa (if q = 7 ∨ q = 8 ∨ 11 ≤ q then 6 else q)) ce (blGo s ce)) :=
  congrArg _ (blExec_ok h (by simp [hx, putWord, not_isLocalPt_of_isMem hx]))

variable (hl : isLocalPt x = true) (hx : localBad x true = false)
include hl hx

theorem exec_blLdwx_inside (ha : localBit x / 8 + 4 * (blGo s ce).wb.toNat ≤ 0xFFFC) : exec (.blLdwx ce x) s =
    .next (blSet s ce { blGo s ce with wa := bv 32 (leVal (mreads (engine s ce.val).mem (localBit x / 8 + 4 * (blGo s ce).wb.toNat) 4)) }) :=
  congrArg _ (blExec_ok h (by simp [hl, hx, Nat.not_lt.mpr ha]))

theorem exec_blStwx_inside (ha : localBit x / 8 + 4 * (blGo s ce).wb.toNat ≤ 0xFFFC) : exec (.blStwx ce x) s =
    .next (blSet (dataWrite s ce.val (localBit x / 8 + 4 * (blGo s ce).wb.toNat) (leBytes 4 (blGo s ce).wa.toNat)) ce (blGo s ce)) :=
  congrArg _ (blExec_ok h (by simp [hl, hx, Nat.not_lt.mpr ha]))

theorem exec_blLdwx_outside (ha : 0xFFFC < localBit x / 8 + 4 * (blGo s ce).wb.toNat) :
    exec (.blLdwx ce x) s = .next (blSet s ce { blGo s ce with wa := 0, ix := true }) :=
  congrArg _ (blExec_ok h (by simp [hl, hx, ha]))

theorem exec_blStwx_outside (ha : 0xFFFC < localBit x / 8 + 4 * (blGo s ce).wb.toNat) :
    exec (.blStwx ce x) s = .next (blSet s ce { blGo s ce with ix := true }) :=
  congrArg _ (blExec_ok h (by simp [hl, hx, ha]))

end Words

/-! ### The statement -/

/-- Settles O7: each row is its form's rule; a LOCAL store is one change of the engine, and OV is that of the exact result. -/
theorem bitLogicWords : Obligations.BitLogicWords := by
  unfold Obligations.BitLogicWords
  refine ⟨fun s ce x r h => ?moves, fun s ce x r h => ?arithmetic⟩
  case moves =>
    refine ⟨next_opImm h, fun hx => ?ldhi, next_opNone h rfl, next_opNone h rfl, next_opNone h rfl, next_opNone h rfl, next_opNone h rfl,
      fun hx => ?ldq, fun hx => ⟨next_opWord h hx, fun hl => ?stwLocal, fun hl => ?stwPoint,
        fun hl ha => ⟨exec_blLdwx_inside h hl hx ha, exec_dataWrite (exec_blStwx_inside h hl hx ha)⟩,
        fun hl ha => ⟨exec_blLdwx_outside h hl hx ha, exec_blStwx_outside h hl hx ha⟩⟩, exec_blStwq h⟩
    case ldhi => exact congrArg _ (blExec_ok h (if_neg (Nat.not_le.mpr hx)))
    case ldq => exact congrArg _ (blExec_ok h (if_neg (ne_true_of_eq_false hx)))
    case stwLocal => exact exec_dataWrite ((exec_blStw h hx).trans (by rw [putWord, if_pos hl]))
    case stwPoint => exact (exec_blStw h hx).trans (by rw [putWord, if_neg (ne_true_of_eq_false hl)])
  case arithmetic =>
    intro g a res
    have hres (z : Int) : res z = g.intRes z := (intRes_eq g z).symm
    refine ⟨?neg, ?addi, next_opNone h rfl, fun hx => ⟨next_opShift h hx, next_opShift h hx, next_opShift h hx⟩, fun hx => ?word⟩
    case neg => rw [hres]; exact next_opNone h rfl
    case addi => rw [hres]; exact next_opImm h
    case word =>
      intro v p
      refine ⟨?add, ?sub, ?mul, fun hv => ?div, fun hv => ?divZero, next_opWord h hx, next_opWord h hx, next_opWord h hx⟩
      case add | sub | mul => rw [hres]; exact next_opWord h hx
      case div => rw [hres]; exact (next_opWord h hx).trans (by rw [if_neg hv])
      case divZero => exact (next_opWord h hx).trans (by rw [if_pos hv])

end Sys2Proof.Proofs
end

section
/-! Bit logic on binary32 values, and its compares (R114, R123-R125). -/

namespace Sys2Proof.Proofs

open Sys2Proof.Machine Sys2Proof.Laws Sys2Proof.Safety

/-! ### NaN operands (R123-R125) -/

section Nan

variable {f : Nat → Nat → Nat} {a b : Word}

theorem blFloat_of_numbers (ha : fisNan f32 a.toNat = false) (hb : fisNan f32 b.toNat = false) : blFloat f a b = bv 32 (f (ftz a) (ftz b)) := by
  simp [blFloat, ha, hb]

theorem blFloat_of_nan_left (ha : fisNan f32 a.toNat = true) (hb : fisNan f32 b.toNat = false) : blFloat f a b = a := by
  simp [blFloat, ha, hb]

theorem blFloat_of_nan_right (ha : fisNan f32 a.toNat = false) (hb : fisNan f32 b.toNat = true) : blFloat f a b = b := by
  simp [blFloat, ha, hb]

end Nan

/-! ### FTOI (R124) -/

section Ftoi

variable {s : State} {ce : Fin 16} {r : Release} (h : BlAt s ce r)
include h

theorem exec_blFtoi_nan (hn : fisNan f32 (blGo s ce).wa.toNat = true) : exec (.blFtoi ce 0) s = .next (blSet s ce { blGo s ce with wa := 0, fe := true }) :=
  next_opNone h (congrArg Except.ok (if_pos hn))

theorem exec_blFtoi_inside {k : Int} (hn : fisNan f32 (blGo s ce).wa.toNat = false) (hk : ftrunc f32 (blGo s ce).wa.toNat = some k) (ho : outOf32 k = false) :
    exec (.blFtoi ce 0) s = .next (blSet s ce { blGo s ce with wa := BitVec.ofInt 32 k }) :=
  next_opNone h (by simp [hn, hk, ho])

end Ftoi

/-! ### The statement -/

/-- Settles O8: each row is its form's rule; a float form differs by the operands that are NaNs. -/
theorem bitLogicFloatsAndCompares : Obligations.BitLogicFloatsAndCompares := by
  unfold Obligations.BitLogicFloatsAndCompares
  refine ⟨fun s ce x r h => ?floats, fun s ce x r h hx => ?compares⟩
  case floats =>
    refine ⟨next_opNone h rfl, next_opNone h rfl, next_opNone h rfl, exec_blFtoi_nan h, fun k hn hk ho => exec_blFtoi_inside h hn hk ho, fun hx => ?arithmetic⟩
    intro v res nan form
    have forms {i : Instr} {f : Nat → Nat → Nat} {after : BlRegs → BlRegs}
        (hi : exec i s = .next (blSet s ce (after (res (blFloat f (blGo s ce).wa v))))) : form i f after := by
      refine ⟨fun ha hb => ?_, fun ha hb => ?_, fun ha hb => ?_⟩
      · rwa [blFloat_of_numbers ha hb] at hi
      · rwa [blFloat_of_nan_left ha hb] at hi
      · rwa [blFloat_of_nan_right ha hb] at hi
    refine ⟨?addf, ?subf, ?mulf, ?divf⟩
    case addf | subf | mulf => exact forms (by exact next_opWord h hx)
    case divf =>
      exact forms (i := .blDivf ce x) (f := fdiv f32 true)
        (after := fun d => if ftz v % 2 ^ 31 = 0 then { d with dz := true, fe := true } else d) (next_opWord h hx)
  case compares =>
    intro g v la nan flo
    have flos {i : Instr} {f : Nat → Nat → Bool} (hi : exec i s = .next (blSet s ce (g.fltCmp v f))) : flo i f :=
      ⟨fun hn => hi.trans (by rw [BlRegs.fltCmp, if_pos hn]), fun hn => hi.trans (by rw [BlRegs.fltCmp, if_neg (ne_true_of_eq_false hn)])⟩
    refine ⟨next_opWord h hx, ?ne, next_opWord h hx, next_opWord h hx, next_opWord h hx, next_opWord h hx, next_opWord h hx, next_opWord h hx,
      ?ltf, ?lef, ?gtf, ?gef, ?eqf⟩
    case ne =>
      rw [decide_not]
      exact next_opWord h hx
    case ltf | lef | eqf => exact flos (by exact next_opWord h hx)
    case gtf => exact flos (i := .blGtf ce x) (f := fun a b => flt f32 b a) (next_opWord h hx)
    case gef => exact flos (i := .blGef ce x) (f := fun a b => fle f32 b a) (next_opWord h hx)

end Sys2Proof.Proofs
end

section
/-! Bit logic's flow, and the faults that end a release (R113, R120, R126, R127). -/

namespace Sys2Proof.Proofs

open Sys2Proof.Machine Sys2Proof.Laws Sys2Proof.Safety

section Ends

variable {s : State} {ce : Fin 16} {r : Release}

theorem endForm_reserved (h : BlAt s ce r) (op : Nat) {x : BitVec 25} (hx : x ≠ 0) (cond : BlRegs → Bool) :
    endForm ce op x s cond = blFaultAt s ce op x 8 := by
  obtain ⟨hr, hrole, hpc⟩ := h
  dsimp only [endForm]
  rw [hr]
  dsimp only
  rw [if_neg (not_not.mpr hrole), if_neg (Nat.not_le.mpr hpc), if_pos hx]

variable (hr : (engine s ce.val).running = some r) (hrole : (engine s ce.val).role = 0)
include hr hrole

theorem endForm_beyond (hpc : (prog s (task s r.task).prog).words ≤ (engine s ce.val).bl.pc) (op : Nat) (x : BitVec 25) (cond : BlRegs → Bool) :
    endForm ce op x s cond = blFaultAt s ce op x 7 := by
  dsimp only [endForm]
  rw [hr]
  dsimp only
  rw [if_neg (not_not.mpr hrole), if_pos hpc]

/-- A word whose opcode no table lists is ILLEGAL_OPCODE, or CODE_RANGE past the program (R127). -/
theorem exec_blIllegalOpcode {w : Word} (hw : blListed (w.toNat / 2 ^ 25) = false) : exec (.blIllegalOpcode ce w) s =
    .next (blFault s ce.val (if (prog s (task s r.task).prog).words ≤ (engine s ce.val).bl.pc then 7 else 1) (engine s ce.val).bl.pc w.toNat) := by
  show execBlIllegalOpcode ce w s = _
  dsimp only [execBlIllegalOpcode]
  rw [hr]
  exact if_neg (not_or.mpr ⟨not_not.mpr hrole, ne_true_of_eq_false hw⟩)

end Ends

/-- Settles O9: a jump, call or return is its form's rule by its condition; each fault is the code that its operation or its form answers. -/
theorem bitLogicFlowAndFaults : Obligations.BitLogicFlowAndFaults := by
  unfold Obligations.BitLogicFlowAndFaults
  refine ⟨fun s ce x r h => ?flow, fun s ce x r => ?faults⟩
  case flow =>
    intro g go
    refine ⟨congrArg _ (endForm_at h _ rfl _), (congrArg _ (endForm_at h _ rfl _)).trans (apply_ite ..),
      fun hl => next_opNone h (if_neg (ne_true_of_eq_false hl)),
      fun a l hc => ⟨next_opNone h (ret_of_cons hc), fun hl => next_opNone h ((if_pos hl).trans (ret_of_cons hc))⟩, fun hx hw => ?code⟩
    intro jump call
    refine ⟨next_opCode h hx hw rfl, (next_opCode h hx hw rfl).trans ?jc, (next_opCode h hx hw rfl).trans ?jcn,
      fun hn => ⟨next_opCode h hx hw (call_of_room hn _), fun hl => next_opCode h hx hw ((if_pos hl).trans (call_of_room hn _))⟩,
      fun hl => next_opCode h hx hw (if_neg (ne_true_of_eq_false hl))⟩
    case jc | jcn => exact apply_ite (fun g => (.next (blSet s ce g) : Res)) ..
  case faults =>
    intro g fault words
    refine ⟨fun hr hrole w hw => exec_blIllegalOpcode hr hrole hw,
      fun hr hrole hpc => ⟨congrArg _ (blExec_beyond hr hrole hpc ..), congrArg _ (endForm_beyond hr hrole hpc ..), congrArg _ (blExec_beyond hr hrole hpc ..)⟩,
      fun h => ⟨fun hx hn => ⟨?psh, ?and, ?or, ?xor⟩, fun hx hn => ⟨?pop, ?close⟩,
        fun hx hw hc => next_opCode_error h hx hw (call_of_full (g := blGo s ce) hc _),
        fun hx hc => next_opNone_error h hx (ret_of_nil hc), fun hx ht => congrArg _ (opInst_error h hx (if_pos ht)),
        fun hx hw => ⟨next_opCode_beyond h hx hw, next_opCode_beyond h hx hw⟩, next_opCode_reserved h, next_opShift_reserved h,
        fun hx => ⟨next_opNone_reserved h hx, congrArg _ (endForm_reserved h _ hx _)⟩,
        fun hx => ⟨next_opBit_reserved h hx, next_opPutBit_reserved h hx⟩,
        fun hx => ⟨next_opWord_reserved h hx, congrArg _ (blExec_error h (if_pos hx))⟩⟩⟩
    case psh => exact next_opNone_error h hx (push_of_full (g := blGo s ce) hn ..)
    case and | or | xor => exact next_opNone_error h hx (congrArg (Except.map _) (push_of_full (g := blGo s ce) hn ..))
    case pop | close => exact next_opNone_error h hx (congrArg (Except.map _) (pop_of_nil (g := blGo s ce) hn))

end Sys2Proof.Proofs
end

section
/-! Timers, counters and edge detectors on their records (R128-R133, R156). -/

namespace Sys2Proof.Proofs

open Sys2Proof.Machine Sys2Proof.Laws Sys2Proof.Safety

/-! ### Bytes and engine memory -/

/-- The bytes of a value that bytes hold are those bytes. -/
theorem leBytes_leVal (l : List Byte) : leBytes l.length (leVal l) = l := by
  induction l with
  | nil => rfl
  | cons b l ih =>
    have hlow : (b.toNat + 256 * leVal l) % 256 = b.toNat := by have := b.isLt; omega
    have hhigh : (b.toNat + 256 * leVal l) / 256 = leVal l := by have := b.isLt; omega
    rw [List.length_cons, leVal, leBytes, hlow, hhigh, ih, bv, BitVec.ofNat_toNat, BitVec.setWidth_eq]

theorem leBytes_leVal_mreads (m : Mem) (a n : Nat) : leBytes n (leVal (mreads m a n)) = mreads m a n := by
  simpa [mreads] using leBytes_leVal (mreads m a n)

theorem mreads_mwrites_above (m : Mem) {a n b : Nat} (l : List Byte) (h : a + n ≤ b) : mreads (mwrites m b l) a n = mreads m a n :=
  List.map_congr_left fun i hi => mread_mwrites_other l m b (a + i) (.inl (by have := List.mem_range.mp hi; omega))

/-- A write inside the bytes that may differ lets no other byte differ. -/
theorem sameBut_mwrites_within {m m' : Mem} {a n b : Nat} {l : List Byte} (h : SameBut m m' a n) (ha : a ≤ b) (hb : b + l.length ≤ a + n) :
    SameBut m (mwrites m' b l) a n :=
  fun c hc => (mread_mwrites_other l m' b c (by omega)).trans (h c hc)

theorem mem_dataWrite (s : State) (c a : Nat) (l : List Byte) : (engine (dataWrite s c a l) c).mem = mwrites (engine s c).mem a l := by
  rw [dataWrite, engine_setEngine_same]

theorem blMem_dataWrite (s : State) (ce : Fin 16) (g : BlRegs) (m : Mem) (a : Nat) (l : List Byte) : blMem (dataWrite s ce.val a l) ce g m = blMem s ce g m := by
  simp [blMem, dataWrite, setEngine, tmod]

/-! ### Timers (R130, R131) -/

/-- The unit of the timer record at `a` in ns: bit 7 of its TYPE chooses ms. -/
def timerUnit (m : Mem) (a : Nat) : Nat := if 128 ≤ (mread m a).toNat then ms else us

/-- The STAMP a timer counts from: the record's, or the release instant of a record that has none. -/
def timerStamp (m : Mem) (a due : Nat) : Nat := if (mread m (a + 1)).getLsbD 3 then leVal (mreads m (a + 16) 8) else due

/-- The timer record at `a` as an instruction with input `la` reads it; a seeded one takes the input as the previous one. -/
def timerRec (m : Mem) (a due : Nat) (la : Bool) : TimerRec :=
  { pt := leVal (mreads m (a + 4) 4), et := leVal (mreads m (a + 8) 4), stamp := timerStamp m a due,
    prev := if (mread m (a + 1)).getLsbD 6 then la else (mread m (a + 1)).getLsbD 0,
    q := (mread m (a + 1)).getLsbD 1, run := (mread m (a + 1)).getLsbD 2 }

/-- What timer `f` makes of the record at `a`. -/
def timerNext (f : TimerRec → Bool → Nat → Nat → Nat → TimerRec) (m : Mem) (a due : Nat) (la : Bool) : TimerRec :=
  f (timerRec m a due la) la due ((due - timerStamp m a due) / timerUnit m a) (timerUnit m a)

/-- Memory with STATE, ET and STAMP of the timer record at `a` written after input `la`. -/
def timerPut (m : Mem) (a : Nat) (la : Bool) (d : TimerRec) : Mem :=
  let st := mread m (a + 1)
  let st' := stBit la 0 + stBit d.q 1 + stBit d.run 2 + 8 + stBit (st.getLsbD 4) 4 + stBit (st.getLsbD 5) 5
  mwrites (mwrites (mwrites m (a + 1) [bv 8 st']) (a + 8) (leBytes 4 d.et)) (a + 16) (leBytes 8 d.stamp)

theorem sameBut_timerPut (m : Mem) (a : Nat) (la : Bool) (d : TimerRec) : SameBut m (timerPut m a la d) a 24 := by
  refine sameBut_mwrites_within (sameBut_mwrites_within (sameBut_mwrites_within (fun _ _ => rfl) ?_ ?_) ?_ ?_) ?_ ?_ <;> simp

theorem et_timerPut (m : Mem) (a : Nat) (la : Bool) (d : TimerRec) : mreads (timerPut m a la d) (a + 8) 4 = leBytes 4 d.et := by
  rw [timerPut, mreads_mwrites_above _ _ (by omega), mreads_mwrites_leBytes]

/-- A TON with its input kept on that has run its preset is on, and ET stands at PT. -/
theorem tonStep_elapsed {d : TimerRec} {t u unit : Nat} (hp : d.prev = true) (hu : d.pt ≤ d.et + u) :
    (tonStep d true t u unit).q = true ∧ (tonStep d true t u unit).et = d.pt := by
  simp [tonStep, hp, min_eq_left hu]

section Records

variable {s : State} {ce : Fin 16} {r : Release} {op ty : Nat} {x : BitVec 25} (h : BlAt s ce r) (hx : x.toNat < 2 ^ 16)
include h hx

/-- A timer instruction on a record of its TYPE writes the record and sets LA and WB from it. -/
theorem next_timerOp {f : TimerRec → Bool → Nat → Nat → Nat → TimerRec} (hty : (mread (engine s ce.val).mem (instAddr x)).toNat % 128 = ty) :
    let d := timerNext f (engine s ce.val).mem (instAddr x) r.due (blGo s ce).la
    (.next (timerOp ce op x s ty f) : Res) =
      .next (blMem s ce { blGo s ce with la := d.q, wb := bv 32 d.et } (timerPut (engine s ce.val).mem (instAddr x) (blGo s ce).la d)) := by
  refine congrArg _ ((opInst_ok h hx (if_neg (not_not.mpr hty))).trans ?_)
  rw [blSet_dataWrite, blMem_dataWrite, blMem_dataWrite, mem_dataWrite, mem_dataWrite]
  rfl

theorem next_timerOp_kept {f : TimerRec → Bool → Nat → Nat → Nat → TimerRec} (hty : (mread (engine s ce.val).mem (instAddr x)).toNat % 128 = ty) :
    ∃ g' m', (.next (timerOp ce op x s ty f) : Res) = .next (blMem s ce g' m') ∧ SameBut (engine s ce.val).mem m' (instAddr x) 24 ∧
      g'.pc = (blGo s ce).pc ∧ g'.wa = (blGo s ce).wa :=
  ⟨_, _, next_timerOp h hx hty, sameBut_timerPut _ _ _ _, rfl, rfl⟩

/-! ### Edge detectors (R133) -/

/-- An edge detector on a record of its TYPE sets LA from CLK and the previous CLK, and keeps CLK in bit 0 of STATE. -/
theorem next_edgeOp {f : Bool → Bool → Bool} (hty : (mread (engine s ce.val).mem (instAddr x)).toNat = ty) :
    let m := (engine s ce.val).mem
    let st := mread m (instAddr x + 1)
    let prev := if st.getLsbD 6 then (blGo s ce).la else st.getLsbD 0
    ∃ m', (.next (edgeOp ce op x s ty f) : Res) = .next (blMem s ce { blGo s ce with la := f (blGo s ce).la prev } m') ∧
      (mread m' (instAddr x + 1)).getLsbD 0 = (blGo s ce).la ∧ SameBut m m' (instAddr x + 1) 1 := by
  intro m st prev
  have hclk (la q : Bool) (n : Nat) : (bv 8 (stBit la 0 + stBit q 1 + n * 4)).getLsbD 0 = la := by
    rw [BitVec.getLsbD_ofNat, Nat.testBit_zero]
    cases la <;> cases q <;> simp [stBit] <;> omega
  refine ⟨_, congrArg _ ((opInst_ok h hx (if_neg (not_not.mpr hty))).trans (blSet_dataWrite ..)), ?_, sameBut_mwrites _ _ [_]⟩
  rw [mwrites, mwrites, mread_mwrite_same, hclk]

end Records

/-! ### Counters (R132) -/

/-- Enough entries on the nesting stack give a counter its inputs; only the stack changes. -/
theorem popN_ok : ∀ (n : Nat) (g : BlRegs), n ≤ g.nest.length → ∃ inp nest, popN n g = .ok (inp, { g with nest := nest })
  | 0, g, _ => ⟨[], g.nest, rfl⟩
  | n + 1, g, hn => by
    obtain ⟨⟨b, k⟩, l, hg⟩ := List.exists_cons_of_length_pos (by omega : 0 < g.nest.length)
    obtain ⟨inp, nest, hpop⟩ := popN_ok n { g with nest := l } (by simpa [hg] using hn)
    refine ⟨b :: inp, nest, ?_⟩
    rw [popN, pop_of_cons hg]
    dsimp only
    rw [hpop]
    rfl

/-- The counter record at `a` as an instruction with CU or CD `la` and popped inputs `inp` reads it; a seeded one takes its inputs as the previous ones. -/
def countRec (m : Mem) (a ty : Nat) (inp : List Bool) (la : Bool) : CountRec :=
  let st := mread m (a + 1)
  { pv := (bv 32 (leVal (mreads m (a + 4) 4))).toInt, cv := (bv 32 (leVal (mreads m (a + 8) 4))).toInt,
    prev := if st.getLsbD 6 then la else st.getLsbD 0,
    cdPrev := if st.getLsbD 6 && ty == 0x12 then inp.headD false else st.getLsbD 4, q := st.getLsbD 1 }

/-- Memory with STATE and CV of the counter record at `a` written. -/
def countPut (m : Mem) (a : Nat) (d : CountRec) : Mem :=
  let st := mread m (a + 1)
  let st' := stBit d.prev 0 + stBit d.q 1 + stBit (st.getLsbD 2) 2 + stBit (st.getLsbD 3) 3 + stBit d.cdPrev 4 + stBit (st.getLsbD 5) 5
  mwrites (mwrites m (a + 1) [bv 8 st']) (a + 8) (leBytes 4 (BitVec.ofInt 32 d.cv).toNat)

theorem sameBut_countPut (m : Mem) (a : Nat) (d : CountRec) : SameBut m (countPut m a d) a 12 := by
  refine sameBut_mwrites_within (sameBut_mwrites_within (fun _ _ => rfl) ?_ ?_) ?_ ?_ <;> simp

section Counters

variable {s : State} {ce : Fin 16} {r : Release} {op ty n : Nat} {x : BitVec 25} (h : BlAt s ce r) (hx : x.toNat < 2 ^ 16)
  {f : CountRec → List Bool → Bool → CountRec × Bool} (hty : (mread (engine s ce.val).mem (instAddr x)).toNat = ty)
include h hx hty

/-- A counter instruction on a record of its TYPE, its inputs popped, writes the record and sets LA, WB, OV and QD from it. -/
theorem next_counterOp {inp : List Bool} {g : BlRegs} (hpop : popN n (blGo s ce) = .ok (inp, g)) :
    let d := f (countRec (engine s ce.val).mem (instAddr x) ty inp g.la) inp g.la
    (.next (counterOp ce op x s ty n f) : Res) = .next (blMem s ce
      { g with la := d.1.q, wb := BitVec.ofInt 32 d.1.cv, ov := g.ov || d.2, qd := d.1.qd.getD g.qd } (countPut (engine s ce.val).mem (instAddr x) d.1)) := by
  refine congrArg _ ((opInst_ok (g := ?regs) (t := ?stored) h hx ((if_neg (not_not.mpr hty)).trans ?answer)).trans ?write)
  case answer => rw [hpop]
  case write =>
    rw [blSet_dataWrite, blMem_dataWrite, mem_dataWrite]
    rfl

theorem next_counterOp_kept (hn : n ≤ (blGo s ce).nest.length) :
    ∃ g' m', (.next (counterOp ce op x s ty n f) : Res) = .next (blMem s ce g' m') ∧ SameBut (engine s ce.val).mem m' (instAddr x) 12 ∧
      g'.pc = (blGo s ce).pc ∧ g'.wa = (blGo s ce).wa := by
  obtain ⟨inp, nest, hpop⟩ := popN_ok n (blGo s ce) hn
  exact ⟨_, _, next_counterOp h hx hty hpop, sameBut_countPut _ _ _, rfl, rfl⟩

end Counters

/-! ### LDIV and STIV (R129) -/

section Fields

variable {s : State} {ce : Fin 16} {r : Release} {x : BitVec 25} (h : BlAt s ce r) (hx : x.toNat < 2 ^ 16)
  (hk : instKind (mread (engine s ce.val).mem (instAddr x)) = some 0 ∨ instKind (mread (engine s ce.val).mem (instAddr x)) = some 1)
include h hx hk

theorem exec_blLdiv (hf : instField x < 2) : exec (.blLdiv ce x) s =
    .next (blSet s ce { blGo s ce with wa := bv 32 (leVal (mreads (engine s ce.val).mem (instAddr x + 4 + 4 * instField x) 4)) }) := by
  refine congrArg _ (opInst_ok h hx ?_)
  rcases hk with hk | hk <;> simp [hk, Nat.not_le.mpr hf]

theorem exec_blStiv_preset (hf : instField x = 0) : exec (.blStiv ce x) s =
    .next (blSet (dataWrite s ce.val (instAddr x + 4) (leBytes 4 (blGo s ce).wa.toNat)) ce (blGo s ce)) := by
  refine congrArg _ (opInst_ok h hx ?_)
  rcases hk with hk | hk <;> simp [hk, hf]

end Fields

/-! ### The statement -/

/-- Settles O10: each row is its operation's rule; what has run its preset is `tonStep_elapsed`. -/
theorem bitLogicTimersCountersEdges : Obligations.BitLogicTimersCountersEdges := by
  unfold Obligations.BitLogicTimersCountersEdges
  intro s ce x r h hx g m a ty st prev kept
  refine ⟨next_timerOp_kept h hx, next_timerOp_kept h hx, next_timerOp_kept h hx,
    fun hty hla hseed hprev hstamped => ?_,
    fun hty hn => next_counterOp_kept h hx hty (List.length_pos_iff.mpr hn),
    fun hty hn => next_counterOp_kept h hx hty (List.length_pos_iff.mpr hn),
    next_counterOp_kept h hx, next_edgeOp h hx, next_edgeOp h hx, exec_blLdiv h hx, fun hk hf => exec_dataWrite (exec_blStiv_preset h hx hk hf)⟩
  intro u hu
  have hnext : timerNext tonStep m a r.due g.la = tonStep (timerRec m a r.due g.la) true r.due u (timerUnit m a) := by
    rw [timerNext, timerStamp, if_pos hstamped, hla]
    rfl
  have hon : (timerRec m a r.due g.la).prev = true := (if_neg (ne_true_of_eq_false hseed)).trans hprev
  obtain ⟨hq, het⟩ := tonStep_elapsed (t := r.due) (unit := timerUnit m a) hon hu
  refine ⟨_, _, next_timerOp h hx hty, ?_, ?_⟩
  · exact (congrArg TimerRec.q hnext).trans hq
  · exact (et_timerPut ..).trans ((congrArg (fun d => leBytes 4 d.et) hnext).trans (by rw [het]; exact leBytes_leVal_mreads ..))

end Sys2Proof.Proofs
end

section
/-! Native code at its aperture, its exceptions, its time limit and its device registers (R141-R148). -/

namespace Sys2Proof.Proofs

open Sys2Proof.Machine Sys2Proof.Laws

/-! ### The next run of an engine (R140) -/

theorem natNext_of_none {s : State} {c : Nat} (h : (engine s c).natQueue = []) : natNext s c = setEngine s c (fun e => { e with role := 0, waiting := true }) := by
  rw [natNext, h]

section Role

variable {s : State} {ce : Fin 16} (h0 : (engine s ce).role ≠ 0)
include h0

/-! ### The aperture and exceptions (R142, R143, R145) -/

theorem exec_nativeApertureStore_word (h2 : (engine s ce).role ≠ 2) (p : BitVec 25) (v : Word) :
    exec (.nativeApertureStore ce p false false v) s = .next (outWrite s ce p.toNat v (clampQ (engine s ce).nat.pq.toNat)) :=
  (if_neg h0).trans ((if_neg (by simp)).trans (congrArg _ (if_neg h2)))

theorem exec_nativeApertureStore_fault {hi narrow : Bool} (hb : hi = true ∨ narrow = true) (p : BitVec 25) (v : Word) :
    exec (.nativeApertureStore ce p hi narrow v) s =
      .next (nativeTrap s ce 7 (engine s ce).nat.pc (bv 32 (0x40000000 + 8 * p.toNat + (if hi then 4 else 0)))) :=
  (if_neg h0).trans (if_pos ((Bool.or_eq_true ..).mpr hb))

/-! ### DLASK (R147) -/

section Running

variable {r : Release} (hr : (engine s ce).running = some r)
include hr

theorem exec_dlaskEnd_running : exec (.dlaskEnd ce) s = .next (endAsk s ce false) :=
  (if_neg h0).trans (by rw [hr])

theorem exec_dlaskDiscard_running : exec (.dlaskDiscard ce) s = .next (endAsk s ce true) :=
  (if_neg h0).trans (by rw [hr])

end Running

theorem exec_dlask_idle (hr : (engine s ce).running = none) {i : Instr} (hi : i = .dlaskEnd ce ∨ i = .dlaskDiscard ce) : exec i s = .next (natNext s ce) := by
  rcases hi with rfl | rfl
  · exact (if_neg h0).trans (by rw [hr])
  · exact (if_neg h0).trans (by rw [hr])

end Role

/-- START code past its 2 ms is stopped with an event (R141). -/
theorem exec_nativeTimeout_start {s : State} {ce : Fin 16} (h1 : (engine s ce).role = 1) (ht : (engine s ce).roleSince + 2000000 ≤ s.t0) :
    exec (.nativeTimeout ce) s = .next (natNext (note s .nativeTimeout (0x10 + ce) (engine s ce).roleProg 0 [1]) ce) := by
  refine (if_neg ?_).trans ((if_pos h1).trans ?_)
  · simp [h1, ms, ht]
  · rw [h1]

/-! ### Strobe requests of TEST code (R148) -/

section Strobes

variable {s : State} {ce : Fin 16} {tiles : BitVec 4} {a : DWord} (h3 : (engine s ce).role = 3)
include h3

theorem exec_dlstrbc_refused (hr : strobeRefused s tiles (a.toNat * us) = true) :
    exec (.dlstrbcSampleStrobe ce tiles a) s = .next (strobeReq s ce tiles a false true) ∧
      exec (.dlstrbcApplyStrobe ce tiles a) s = .next (strobeReq s ce tiles a true true) :=
  ⟨(if_neg (not_not.mpr h3)).trans (if_pos hr), (if_neg (not_not.mpr h3)).trans (if_pos hr)⟩

variable (hr : strobeRefused s tiles (a.toNat * us) = false)
include hr

/-- A granted sample strobe goes to each tile named. -/
theorem exec_dlstrbcSampleStrobe_granted : ∃ t, exec (.dlstrbcSampleStrobe ce tiles a) s = .next t ∧ t.sched.strobesOut = s.sched.strobesOut ++
    (([0, 1, 2, 3] : List Nat).filter (fun n => tiles.getLsbD n)).map (fun n => (n, { due := a.toNat * 1000 })) := by
  refine ⟨_, (if_neg (not_not.mpr h3)).trans (if_neg (ne_true_of_eq_false hr)), ?_⟩
  rw [note_sched]
  rfl

theorem exec_dlstrbcApplyStrobe_idle (hn : (engine s ce).running = none) :
    exec (.dlstrbcApplyStrobe ce tiles a) s = .next (strobeReq s ce tiles a true false) :=
  (if_neg (not_not.mpr h3)).trans ((if_neg (ne_true_of_eq_false hr)).trans (by rw [hn]))

end Strobes

/-- Settles O11: each register access is its own branch above. -/
theorem nativeCodeActsThroughItsRegisters : Obligations.NativeCodeActsThroughItsRegisters := by
  unfold Obligations.NativeCodeActsThroughItsRegisters
  intro s ce p v e h0
  refine ⟨fun h2 => exec_nativeApertureStore_word h0 h2 p v, fun hi narrow hb => exec_nativeApertureStore_fault h0 hb p v, fun c a b => if_neg h0,
    exec_nativeTimeout_start, fun r hr => ⟨exec_dlaskEnd_running h0 hr, exec_dlaskDiscard_running h0 hr⟩,
    fun hr i hi => ⟨exec_dlask_idle h0 hr hi, fun hq => (exec_dlask_idle h0 hr hi).trans (congrArg _ (natNext_of_none hq))⟩,
    fun rd => if_neg h0, fun q => if_neg h0, fun rd => if_neg h0,
    fun tiles a h3 => ⟨fun hlate => exec_dlstrbc_refused h3 ?late, fun hr => ⟨exec_dlstrbcSampleStrobe_granted h3 hr, exec_dlstrbcApplyStrobe_idle h3 hr⟩⟩⟩
  case late => exact (Bool.or_eq_true ..).mpr (.inl (decide_eq_true hlate))

end Sys2Proof.Proofs
end

section
/-! The release cycle of a loop (R164-R168, R194): its release, its begin, late and held inputs, its deadline and its end. -/

namespace Sys2Proof.Proofs

open Sys2Proof.Machine Sys2Proof.Laws

/-! ### Rules of loops -/

@[simp] theorem loop_setLoop_same (s : State) (i : Nat) (f : LoopSt → LoopSt) : loop (setLoop s i f) i = f (loop s i) := tget_tmod_same ..

theorem loop_setLoop_other (s : State) {i k : Nat} (f : LoopSt → LoopSt) (h : k ≠ i) : loop (setLoop s i f) k = loop s k := tget_tmod_other _ _ f h

@[simp] theorem setLoop_setLoop (s : State) (i : Nat) (f g : LoopSt → LoopSt) : setLoop (setLoop s i f) i g = setLoop s i (fun d => g (f d)) := by
  simp [setLoop, tmod]

theorem loop_of_loops {s t : State} (h : t.loops = s.loops) (i : Nat) : loop t i = loop s i := by
  unfold loop
  rw [h]

@[simp] theorem loopStatePoint_loops (s : State) (i t : Nat) : (loopStatePoint s i t).loops = s.loops := update_loops ..

/-! ### LOOP_RELEASE (R164, R167, R197) -/

section Release

variable {s : State} {k : BitVec 9} (hp : (loop s k.toNat).present = true) (hst : s.rst.stage = 0) (hus : s.t0 % 1000 = 0)
  (hi : isRelease (s.t0 / 1000) (param s pLoopPeriod k.toNat) (param s pLoopPhase k.toNat) = true)
include hp hst hus hi

/-- What LOOP_RELEASE does at a release instant of a present loop. -/
theorem exec_loopRelease : exec (.loopRelease k) s = .next (
    let i := k.toNat
    let d := loop s i
    let f := putFlag (putFlag (putFlag d.flags 15 false) 16 false) 17 false
    if loopRuns s i = 0 then
      if d.begun then s else loopStatePoint (setLoop s i (fun d => { d with st := 0, rel := none })) i s.t0
    else if d.begun then setLoop s i (fun d => { d with nextRel := some s.t0, flags := f })
    else setLoop s i (fun d => { d with rel := some s.t0, runsAt := loopRuns s i, overrun := false, inputLate := false, flags := f })) := by
  refine (if_neg (by simp [hp, hst, us, hus, hi])).trans ?_
  dsimp only
  split
  · split <;> rfl
  · split <;> rfl

theorem exec_loopRelease_stopped (hb : (loop s k.toNat).begun = false) (hr : loopRuns s k.toNat = 0) :
    exec (.loopRelease k) s = .next (loopStatePoint (setLoop s k.toNat (fun d => { d with st := 0, rel := none })) k.toNat s.t0) :=
  (exec_loopRelease hp hst hus hi).trans (congrArg _ ((if_pos hr).trans (if_neg (ne_true_of_eq_false hb))))

theorem exec_loopRelease_idle (hb : (loop s k.toNat).begun = false) (hr : loopRuns s k.toNat ≠ 0) :
    exec (.loopRelease k) s = .next (setLoop s k.toNat (fun d => { d with
      rel := some s.t0, runsAt := loopRuns s k.toNat, overrun := false, inputLate := false,
      flags := putFlag (putFlag (putFlag (loop s k.toNat).flags 15 false) 16 false) 17 false })) :=
  (exec_loopRelease hp hst hus hi).trans (congrArg _ ((if_neg hr).trans (if_neg (ne_true_of_eq_false hb))))

theorem exec_loopRelease_begun (hb : (loop s k.toNat).begun = true) (hr : loopRuns s k.toNat ≠ 0) :
    exec (.loopRelease k) s = .next (setLoop s k.toNat (fun d => { d with
      nextRel := some s.t0, flags := putFlag (putFlag (putFlag (loop s k.toNat).flags 15 false) 16 false) 17 false })) :=
  (exec_loopRelease hp hst hus hi).trans (congrArg _ ((if_neg hr).trans (if_pos hb)))

end Release

/-! ### LOOP_BEGIN (R165, R166) -/

/-- A law of the ROM library is not called. -/
theorem lawCall_of_rom {s : State} {i : Nat} (h : param s pLoopLaw i ≠ 6) (t : Nat) : lawCall s i t = s := if_pos (.inl h)

section Begin

variable {s : State} {le j : Nat} (hr : (loopEngine s le).running = none) (hs : (island s (0x20 + le)).inService = true) (hj : readyLoop s le = some j)
include hr hs hj

/-- The release that begins is the ready one, with the entries of its release instant. -/
theorem beginLoop_ready : ∃ f : LoopSt → LoopSt,
    beginLoop s le = { setLoop s j f with loopEng := tset s.loopEng le { loopEngine s le with running := some j } } ∧
      ∀ d, (f d).begun = true ∧ (f d).pv = loopIn s ((loop s j).rel.getD 0) (param s pLoopPvSrc j) := by
  unfold beginLoop
  rw [if_pos hs, hj]
  dsimp only
  rw [show (tget {} s.loopEng le).running = none from hr]
  exact ⟨_, rfl, fun d => ⟨rfl, rfl⟩⟩

theorem begun_beginLoop : (loopEngine (beginLoop s le) le).running = some j ∧ (loop (beginLoop s le) j).begun = true ∧
    (loop (beginLoop s le) j).pv = loopIn s ((loop s j).rel.getD 0) (param s pLoopPvSrc j) ∧ ∀ code i, param (beginLoop s le) code i = param s code i := by
  obtain ⟨f, hf, hd⟩ := beginLoop_ready hr hs hj
  rw [hf]
  have hloop : loop { setLoop s j f with loopEng := tset s.loopEng le { loopEngine s le with running := some j } } j = f (loop s j) := loop_setLoop_same s j f
  rw [hloop]
  exact ⟨congrArg LoopEng.running (tget_tset_same ..), (hd _).1, (hd _).2, fun _ _ => rfl⟩

end Begin

theorem exec_loopBegin_rom {s : State} {le : Fin 8} {j : Nat} (hr : (loopEngine s le).running = none) (hj : (loopEngine (beginLoop s le) le).running = some j)
    (hlaw : param (beginLoop s le) pLoopLaw j ≠ 6) : exec (.loopBegin le) s = .next (beginLoop s le) := by
  show execLoopBegin le s = _
  unfold execLoopBegin
  dsimp only
  rw [hr, hj]
  exact congrArg _ (lawCall_of_rom hlaw _)

/-! ### Late and held inputs, the deadline (R165, R167, R168) -/

section Deadline

variable {s : State} {k : BitVec 9} {a : Nat}

theorem exec_loopInputWaitExpiry_past (ha : (loop s k.toNat).rel = some a) (hb : (loop s k.toNat).begun = false)
    (ht : a + param s pLoopInputWait k.toNat * 1000 ≤ s.t0) :
    exec (.loopInputWaitExpiry k) s = .next (setLoop s k.toNat (fun d => { d with inputLate := true })) := by
  show execLoopInputWaitExpiry k s = _
  unfold execLoopInputWaitExpiry
  dsimp only
  rw [ha]
  exact if_neg (by rw [hb, Bool.false_or, decide_eq_true_eq]; exact Nat.not_lt.mpr ht)

theorem exec_heldTimeExpiry_past {n : Fin 4} (ha : ((loop s k.toNat).held[n.val]?).getD none = some a)
    (ht : a + param s pLoopHeldTime k.toNat * 1000000 ≤ s.t0) :
    exec (.heldTimeExpiry k n) s = .next (setLoop s k.toNat (fun d => { d with expired := d.expired.set n.val true })) := by
  show execHeldTimeExpiry k n s = _
  unfold execHeldTimeExpiry
  dsimp only
  rw [ha]
  exact if_neg (Nat.not_lt.mpr ht)

variable (ha : (loop s k.toNat).rel = some a) (ht : a + loopNs s k.toNat ≤ s.t0 + 10000)
include ha ht

theorem exec_loopDeadline_overrun (hb : (loop s k.toNat).begun = true) (ho : (loop s k.toNat).overrun = false) :
    exec (.loopDeadline k) s = .next (note (loopStatePoint (setLoop s k.toNat (fun d => { d with overrun := true, flags := putFlag d.flags 16 true })) k.toNat
      (a + loopNs s k.toNat)) .loopOverrun (0x20 + k.toNat / 64) k.toNat 0 [a]) := by
  show execLoopDeadline k s = _
  unfold execLoopDeadline
  dsimp only
  rw [ha]
  exact (if_neg (by simp [hb])).trans (if_pos (by simp [ho, us, ht]))

theorem exec_loopDeadline_missed (hb : (loop s k.toNat).begun = false) :
    exec (.loopDeadline k) s = .next (note (loopStatePoint (setLoop s k.toNat (fun d => { d with rel := none, flags := putFlag d.flags 17 true })) k.toNat
      (a + loopNs s k.toNat)) .loopMissed (0x20 + k.toNat / 64) k.toNat 0 [a]) := by
  show execLoopDeadline k s = _
  unfold execLoopDeadline
  dsimp only
  rw [ha]
  refine (if_pos (by simp [hb, us, ht])).trans ?_
  rw [setLoop_setLoop]
  rfl

end Deadline

/-! ### What the laws leave of a loop: the release that waits (R173-R189) -/

@[simp] theorem mainLaw_nextRel (s : State) (i : Nat) (d : LoopSt) (r y e f uPrev lawOut : Int) (restart : Bool) :
    (mainLaw s i d r y e f uPrev lawOut restart).d.nextRel = d.nextRel := by
  unfold mainLaw
  dsimp only
  split <;> rfl

@[simp] theorem trackLaw_nextRel (s : State) (i : Nat) (d : LoopSt) (r y e f u : Int) : (trackLaw s i d r y e f u).nextRel = d.nextRel := by
  unfold trackLaw
  dsimp only
  split
  · exact mainLaw_nextRel ..
  · split
    · rfl
    · exact mainLaw_nextRel ..

@[simp] theorem runLaw_nextRel (s : State) (i : Nat) (d : LoopSt) (r y e f lawOut : Int) (restart : Bool) :
    (runLaw s i d r y e f lawOut restart).nextRel = d.nextRel := by
  unfold runLaw
  dsimp only
  refine (mainLaw_nextRel ..).trans ?_
  split <;> rfl

@[simp] theorem runTrack_nextRel (s : State) (i : Nat) (d : LoopSt) (r y e f v : Int) (rate : Bool) :
    (runTrack s i d r y e f v rate).nextRel = d.nextRel := trackLaw_nextRel ..

@[simp] theorem runRelay_nextRel (s : State) (i t : Nat) (d : LoopSt) (x : TuneSt) (y e : Int) : (runRelay s i t d x y e).nextRel = d.nextRel := rfl

@[simp] theorem spProfile_nextRel (s : State) (i t : Nat) (d : LoopSt) (target : Word) : (spProfile s i t d target).nextRel = d.nextRel := by
  unfold spProfile
  extract_lets V A J lim cur tg D q planned
  have hplanned : planned.nextRel = d.nextRel := by
    show (if _ then _ else _ : LoopSt).nextRel = _
    split <;> rfl
  split
  · rfl
  · split
    · exact hplanned
    · split <;> exact hplanned

/-! ### What the frame of a release leaves (R168-R185, R190, R197) -/

/-- `t` has the loop engines of `s`, and for loop `i` the same release waits behind the one that runs. -/
structure SameWaiting (i : Nat) (s t : State) : Prop where
  engines : t.loopEng = s.loopEng
  waiting : (loop t i).nextRel = (loop s i).nextRel

theorem SameWaiting.refl (i : Nat) (s : State) : SameWaiting i s s := ⟨rfl, rfl⟩

theorem SameWaiting.trans {i : Nat} {s t u : State} (h : SameWaiting i s t) (g : SameWaiting i t u) : SameWaiting i s u :=
  ⟨g.engines.trans h.engines, g.waiting.trans h.waiting⟩

theorem SameWaiting.ite {i : Nat} {s t u : State} {p : Prop} [Decidable p] (h : SameWaiting i s t) (g : SameWaiting i s u) :
    SameWaiting i s (if p then t else u) := by
  split
  · exact h
  · exact g

theorem SameWaiting.foldl {β : Type} {i : Nat} {f : State → β → State} (h : ∀ s b, SameWaiting i s (f s b)) (l : List β) (s : State) :
    SameWaiting i s (l.foldl f s) :=
  ⟨foldl_keeps State.loopEng (fun s b => (h s b).engines) l s, foldl_keeps (fun s => (loop s i).nextRel) (fun s b => (h s b).waiting) l s⟩

theorem sameWaiting_of_eq {i : Nat} {s t : State} (he : t.loopEng = s.loopEng) (hl : t.loops = s.loops) : SameWaiting i s t :=
  ⟨he, congrArg LoopSt.nextRel (loop_of_loops hl i)⟩

theorem sameWaiting_note (i : Nat) (s : State) (e : Ev) (isl u o : Nat) (l : List Nat) : SameWaiting i s (note s e isl u o l) :=
  sameWaiting_of_eq (note_loopEng ..) (note_loops ..)

theorem sameWaiting_setLoop {i : Nat} {s : State} {f : LoopSt → LoopSt} (h : (f (loop s i)).nextRel = (loop s i).nextRel) : SameWaiting i s (setLoop s i f) :=
  ⟨rfl, (congrArg LoopSt.nextRel (loop_setLoop_same ..)).trans h⟩

theorem sameWaiting_abortProfile (s : State) (i : Nat) : SameWaiting i s (abortProfile s i) := by
  unfold abortProfile
  split
  · exact .refl ..
  · exact (sameWaiting_setLoop rfl).trans (sameWaiting_note ..)

theorem sameWaiting_abortTune (s : State) (i reason : Nat) : SameWaiting i s (abortTune s i reason) := by
  unfold abortTune
  split
  · refine .ite (.refl ..) ?_
    exact ((sameWaiting_setLoop rfl).trans (sameWaiting_note ..)).trans (sameWaiting_of_eq (finish_loopEng ..) (finish_loops ..))
  · exact .refl ..

theorem sameWaiting_loopSticky (s : State) (i : Nat) : SameWaiting i s (loopSticky s i) := by
  unfold loopSticky
  exact .foldl (fun u b => .ite ((sameWaiting_setLoop rfl).trans (sameWaiting_note ..)) (.refl ..)) _ s

/-- No branch of the frame of a release touches the release that waits behind it, or an engine. -/
theorem sameWaiting_frame (s : State) (i t : Nat) (lawOut : Int) : SameWaiting i s (frame s i t lawOut) := by
  unfold frame
  extract_lets d0 runs off pvOk mode dis s1 live s2 back s3 d lo hi yRaw restart flags0 spSrc spOk ffSrc ffOk flags da f db act tuning dsp r inner
  have h1 : SameWaiting i s s1 := .ite (sameWaiting_abortProfile ..) (.refl ..)
  have h2 : SameWaiting i s1 s2 :=
    .ite (.refl ..) (.ite (sameWaiting_abortTune ..) (.ite (sameWaiting_abortTune ..) (.ite (sameWaiting_abortTune ..) (.refl ..))))
  have h3 : SameWaiting i s s3 := (h1.trans h2).trans (sameWaiting_setLoop rfl)
  refine h3.trans ?_
  have hdb : db.nextRel = (loop s3 i).nextRel := rfl
  have hdsp : dsp.nextRel = (loop s3 i).nextRel := by
    show (if _ then _ else _ : LoopSt).nextRel = _
    split
    · exact hdb
    · split
      · split <;> exact hdb
      · split
        · exact hdb
        · split
          · exact hdb
          · exact (spProfile_nextRel ..).trans hdb
  clear_value s3 db dsp act inner
  split
  next y f1 _ =>
  refine .ite (sameWaiting_setLoop hdb) (.ite (sameWaiting_setLoop hdb) (.ite ?disabled ?runs))
  case disabled =>
    extract_lets d1 r1 e1 d2
    refine sameWaiting_setLoop ?_
    dsimp only [d2]
    split
    · exact hdb
    · split
      · exact (runTrack_nextRel ..).trans hdb
      · exact hdb
    · exact hdb
  case runs =>
    extract_lets e d1 law manual d2
    have hlaw : (runLaw s3 i d1 r y e f lawOut restart).nextRel = (loop s3 i).nextRel := (runLaw_nextRel ..).trans hdsp
    have htrack : ∀ v, (runTrack s3 i d1 r y e f v true).nextRel = (loop s3 i).nextRel := fun v => (runTrack_nextRel ..).trans hdsp
    refine sameWaiting_setLoop ?_
    dsimp only [d2]
    split
    · split
      · exact hlaw
      · split
        · exact hdsp
        · split
          · exact htrack _
          · exact hlaw
    · split
      · exact htrack _
      · split
        · split
          · exact hlaw
          · exact htrack _
        · exact hlaw

/-! ### LOOP_END of an overrun release (R164, R167, R194) -/

/-- The state in which the frame of the ended release `i` of engine `le` has run. -/
def framed (s : State) (le i : Nat) : State :=
  let e := loopEngine s le
  let s0 := { s with loopEng := tset s.loopEng le { e with running := none } }
  setLoop (loopSticky (frame s0 i ((loop s i).rel.getD 0) e.lawOut) i) i (fun x => { x with reseed := false })

theorem framed_frame (s : State) (le i : Nat) :
    (loopEngine (framed s le i) le).running = none ∧ (loop (framed s le i) i).nextRel = (loop s i).nextRel := by
  obtain ⟨he, hw⟩ := ((sameWaiting_frame _ i _ _).trans (sameWaiting_loopSticky ..)).trans
    (sameWaiting_setLoop (f := fun x => { x with reseed := false }) rfl)
  refine ⟨?_, hw⟩
  unfold loopEngine framed
  rw [he]
  exact congrArg LoopEng.running (tget_tset_same ..)

theorem exec_loopEnd_overrun {s : State} {le : Fin 8} {j : Nat} (hr : (loopEngine s le).running = some j) (hl : (loopEngine s le).inLaw = false)
    (ho : (loop s j).overrun = true) (hb : (loop s j).bridge.running = false) :
    exec (.loopEnd le) s = .next (setLoop (framed s le j) j (fun x => { relDone (framed s le j) x j with u := (loop s j).u })) := by
  show execLoopEnd le s = _
  unfold execLoopEnd
  extract_lets e idle
  split
  next hn => exact absurd (hr.symm.trans hn) (Option.some_ne_none j)
  next i hi =>
  obtain rfl : j = i := Option.some.inj (hr.symm.trans hi)
  refine (if_neg (ne_true_of_eq_false hl)).trans ?_
  extract_lets d t at_ s0 s1
  have hs0 : s0 = idle := if_neg (ne_true_of_eq_false hb)
  have hs1 : s1 = framed s le j := by
    dsimp only [s1]
    rw [hs0]
    rfl
  rw [if_pos ho, hs1]

/-- Settles O13: each instruction's branch above; the frame that LOOP_END runs leaves the waiting release and the engines. -/
theorem loopReleaseCycle : Obligations.LoopReleaseCycle := by
  unfold Obligations.LoopReleaseCycle
  intro s k i d
  refine ⟨?release, ?begin, ?late, fun n a => exec_heldTimeExpiry_past, ?done⟩
  case release =>
    intro hp hst hus hi f
    refine ⟨exec_loopRelease_stopped hp hst hus hi, fun hb hr => ⟨_, exec_loopRelease_idle hp hst hus hi hb hr, ?_⟩,
      exec_loopRelease_begun hp hst hus hi⟩
    rw [loop_setLoop_same]
    exact ⟨rfl, hb, rfl, rfl, rfl, fun j hj => loop_setLoop_other s _ hj⟩
  case begin =>
    intro le j hr hs hj hlaw
    obtain ⟨hrun, hbegun, hpv, hparam⟩ := begun_beginLoop hr hs hj
    exact ⟨_, exec_loopBegin_rom hr hrun (by rwa [hparam]), hrun, hbegun, hpv⟩
  case done =>
    intro le j hr hl ho hb
    obtain ⟨hidle, hwaiting⟩ := framed_frame s le j
    refine ⟨_, exec_loopEnd_overrun hr hl ho hb, hidle, ?_⟩
    rw [loop_setLoop_same]
    exact ⟨hwaiting, rfl, rfl⟩
  case late =>
    intro a ha
    exact ⟨exec_loopInputWaitExpiry_past ha, fun ht ho => ⟨fun hb => exec_loopDeadline_overrun ha ht hb ho, exec_loopDeadline_missed ha ht⟩⟩

end Sys2Proof.Proofs
end

section
/-! Auto-tune (R190-R193), the loop commands (R172, R190, R193) and the bridge law of a silent tile (R194-R196). -/

namespace Sys2Proof.Proofs

open Sys2Proof.Machine Sys2Proof.Laws Sys2Proof.Safety

/-! ### The phases of a tune (R190-R192) -/

section Phases

variable {s : State} {k : BitVec 9} {x : TuneSt} (hx : (loop s k.toNat).tune = some x)
include hx

section Check

variable (hp : x.phase = 1)
include hp

theorem exec_tuneCheckTimeout_steady (hs : steady s k.toNat x = true) :
    exec (.tuneCheckTimeout k) s =
      .next (setLoop s k.toNat (fun d => { d with tune := some { x with phase := 2, hist := [], crossings := [], peaks := [] } })) := by
  show execTuneCheckTimeout k s = _
  unfold execTuneCheckTimeout
  dsimp only
  rw [hx]
  exact (if_neg (not_not.mpr hp)).trans (if_pos hs)

theorem exec_tuneCheckTimeout_late (hs : steady s k.toNat x = false) (ht : x.accepted + 60000000000 ≤ s.t0) :
    exec (.tuneCheckTimeout k) s = .next (abortTune s k.toNat 0) := by
  show execTuneCheckTimeout k s = _
  unfold execTuneCheckTimeout
  dsimp only
  rw [hx]
  exact (if_neg (not_not.mpr hp)).trans ((if_neg (ne_true_of_eq_false hs)).trans (if_neg (Nat.not_lt.mpr ht)))

end Check

section Settle

variable (hp : x.phase = 2)
include hp

theorem exec_tuneSettleDone_excursion (he : excursion s k.toNat x = true) : exec (.tuneSettleDone k) s = .next (abortTune s k.toNat 3) := by
  show execTuneSettleDone k s = _
  unfold execTuneSettleDone
  dsimp only
  rw [hx]
  exact (if_neg (not_not.mpr hp)).trans (if_pos he)

theorem exec_tuneSettleDone_settled (he : excursion s k.toNat x = false) (hc : 3 ≤ x.crossings.length) :
    exec (.tuneSettleDone k) s = .next (setLoop s k.toNat (fun d => { d with
      tune := some { x with phase := 3, crossings := x.crossings.drop (x.crossings.length - 1), peaks := [] } })) := by
  show execTuneSettleDone k s = _
  unfold execTuneSettleDone
  dsimp only
  rw [hx]
  exact (if_neg (not_not.mpr hp)).trans ((if_neg (ne_true_of_eq_false he)).trans (if_neg (Nat.not_lt.mpr hc)))

end Settle

/-- The three relay periods of a measurement, in s (R190). -/
def periodsOf (x : TuneSt) : List Rat := ((diffs x.crossings).take 3).map (fun n => (n : Rat) / 1000000000)

/-- The peak-to-peak amplitudes of a measurement (R190). -/
def amplitudesOf (x : TuneSt) : List Rat := (x.peaks.take 3).map (fun n => (n : Rat))

theorem exec_tuneMeasureDone_measured (hp : x.phase = 3) (he : excursion s k.toNat x = false) (hc : 4 ≤ x.crossings.length) (hk : 3 ≤ x.peaks.length)
    (hps : consistent (periodsOf x) = true) (has : consistent (amplitudesOf x) = true)
    (htu : 20 * loopTs s k.toNat ≤ ((periodsOf x).foldl (· + ·) 0 : Rat) / 3)
    (ha : paramRat s pLoopTuneHyst k.toNat / 100 * (2 ^ 31 : Nat) < ((amplitudesOf x).foldl (· + ·) 0 : Rat) / 6) :
    ∃ res, exec (.tuneMeasureDone k) s = .next (finish (setLoop s k.toNat (fun d => { d with
      tune := some { x with phase := 4 }, result := some res, u := x.u0 })) (tuneReq x) 0x0311 true 0) := by
  apply Exists.intro
  show execTuneMeasureDone k s = _
  unfold execTuneMeasureDone
  extract_lets i
  rw [show (loop s i).tune = some x from hx]
  refine (if_neg (not_not.mpr hp)).trans ((if_neg (ne_true_of_eq_false he)).trans ((if_neg (by omega)).trans ?_))
  extract_lets ps as_ tu a eps
  refine (if_neg ?_).trans ((if_neg (not_lt.mpr htu)).trans ((if_neg (not_le.mpr ha)).trans rfl))
  rw [show consistent ps = true from hps, show consistent as_ = true from has]
  decide

theorem exec_tuneTimeout_past (hp : x.phase = 1 ∨ x.phase = 2 ∨ x.phase = 3) (ht : x.accepted + param s pLoopTuneTimeout k.toNat * 1000000000 ≤ s.t0) :
    exec (.tuneTimeout k) s = .next (abortTune s k.toNat 4) := by
  show execTuneTimeout k s = _
  unfold execTuneTimeout
  dsimp only
  rw [hx]
  exact if_pos ⟨hp, ht⟩

end Phases

/-! ### The loop commands (R172, R190, R193) -/

/-- A command whose payload checks hold runs, however the checks are written. -/
theorem runs_of_ok {s : State} {r : Req} {op : Nat} {isC : Bool} {modes : List Mode} {len : Nat} {ok : Bool} (h : Runs s r op isC modes len true)
    (hok : ok = true) : Runs s r op isC modes len ok := by rwa [hok]

@[simp] theorem abortProfile_t0 (s : State) (i : Nat) : (abortProfile s i).t0 = s.t0 := by
  unfold abortProfile
  split
  · rfl
  · exact note_t0 ..

section Commands

variable {s : State} {r : Req} (ht : r.target = 0) (hz : fld r.payload 2 2 = 0) (hn : loopArg r < 512)
include ht hz hn

theorem exec_loopFlagsClear_one (h : Runs s r 0x0310 true allModes 4 true) :
    exec (.loopFlagsClear r) s = .next (finish (update (setLoop (begun s r 0x0310) (loopArg r) (fun d => { d with sticky := 0, seen := 0 })) s.t0
      (ptid 6 (loopArg r * 256 + 5)) 0) r 0x0310 true 0) := by
  have hone : loopArg r ≠ 0xFFFF := by omega
  exact congrArg Host.Outcome.next ((command_runs (runs_of_ok h (decide_eq_true ⟨ht, hz, .inl hn⟩)) _).trans
    (congrArg (fun s => finish s r 0x0310 true 0) (if_neg hone)))

/-- An accepted tune begins in CHECK at its acceptance, with the loop in TUNING. -/
theorem exec_loopTune_accepted (h : Runs s r 0x0311 true [.maint] 4 true) (hp : (loop s (loopArg r)).present = true) (hst : (loop s (loopArg r)).st = 5)
    (hu : usable (loop s (loopArg r)).pv.q ((loop s (loopArg r)).expired.headD false) = true)
    (hfree : ∀ e ∈ s.loops, e.1 / 64 = loopArg r / 64 → e.2.tune = none) :
    ∃ f : LoopSt → LoopSt, exec (.loopTune r) s = .next (accepted (setLoop (abortProfile (begun s r 0x0311) (loopArg r)) (loopArg r) f) r 0x0311) ∧
      ∀ d, (f d).st = 7 ∧ ∃ x, (f d).tune = some x ∧ x.accepted = s.t0 ∧ x.phase = 1 := by
  have hidle : s.loops.any (fun e => e.1 / 64 == loopArg r / 64 && e.2.tune.any (fun x => x.phase == 1 || x.phase == 2 || x.phase == 3)) = false := by
    rw [List.any_eq_false]
    intro e he hc
    obtain ⟨heng, hlive⟩ := Bool.and_eq_true_iff.mp hc
    rw [hfree e he (beq_iff_eq.mp heng)] at hlive
    cases hlive
  refine ⟨_, congrArg Host.Outcome.next ((command_runs (runs_of_ok h (decide_eq_true ⟨ht, hz, hn⟩)) _).trans ((if_neg ?_).trans rfl)),
    fun d => ⟨rfl, _, rfl, (abortProfile_t0 ..), rfl⟩⟩
  have hloop : loop (begun s r 0x0311) (loopArg r) = loop s (loopArg r) := rfl
  rw [hloop, hp, hst, hu, beginCmd_loops, hidle]
  decide

theorem exec_loopTuneResult_known {x : TuneRes} (h : Runs s r 0x0312 false allModes 4 true) (hx : (loop s (loopArg r)).result = some x) :
    exec (.loopTuneResult r) s = .next (finish (begun s r 0x0312) r 0x0312 false 0
      (leBytes 4 x.ku.toNat ++ leBytes 4 x.tu.toNat ++ leBytes 4 x.amp.toNat ++ [bv 8 x.rule, 0, 0, 0] ++
        leBytes 4 x.kp.toNat ++ leBytes 4 x.ti.toNat ++ leBytes 4 x.td.toNat)) := by
  refine congrArg Host.Outcome.next ((command_runs (runs_of_ok h (decide_eq_true ⟨ht, hz, hn⟩)) _).trans ?_)
  rw [show (loop (beginCmd s r 0x0312) (loopArg r)).result = some x from hx]

end Commands

/-! ### What a strobe's latches and an output's refresh leave of loops and parameters (R298, R302-R307) -/

/-- `t` has the loops of `s` and reads its parameters. -/
structure SameLoops (s t : State) : Prop where
  loops : t.loops = s.loops
  params : ∀ code inst, param t code inst = param s code inst

theorem SameLoops.refl (s : State) : SameLoops s s := ⟨rfl, fun _ _ => rfl⟩

theorem SameLoops.trans {s t u : State} (h : SameLoops s t) (g : SameLoops t u) : SameLoops s u :=
  ⟨g.loops.trans h.loops, fun code inst => (g.params code inst).trans (h.params code inst)⟩

theorem SameLoops.ite {s t u : State} {p : Prop} [Decidable p] (h : SameLoops s t) (g : SameLoops s u) : SameLoops s (if p then t else u) := by
  split
  · exact h
  · exact g

theorem SameLoops.foldl {β : Type} {f : State → β → State} (h : ∀ s b, SameLoops s (f s b)) (l : List β) (s : State) : SameLoops s (l.foldl f s) :=
  ⟨foldl_keeps State.loops (fun s b => (h s b).loops) l s,
    fun code inst => foldl_keeps (fun s => param s code inst) (fun s b => (h s b).params code inst) l s⟩

theorem sameLoops_putField (s : State) (p : Nat) (v : Word) (c : BitVec 16) : SameLoops s (putField s p v c) := ⟨rfl, fun _ _ => rfl⟩
theorem sameLoops_setAin (s : State) (a : Nat) (f : AiSt → AiSt) : SameLoops s (setAin s a f) := ⟨rfl, fun _ _ => rfl⟩
theorem sameLoops_setAout (s : State) (a : Nat) (f : AoSt → AoSt) : SameLoops s (setAout s a f) := ⟨rfl, fun _ _ => rfl⟩
theorem sameLoops_update (s : State) (t p : Nat) (v : Word) (c : BitVec 16) : SameLoops s (update s t p v c) := ⟨update_loops .., update_param s t p v c⟩
theorem sameLoops_note (s : State) (e : Ev) (i u o : Nat) (l : List Nat) : SameLoops s (note s e i u o l) := ⟨note_loops .., note_param s e i u o l⟩

theorem sameLoops_aiShow (s : State) (a t : Nat) : SameLoops s (aiShow s a t) := by
  unfold aiShow
  extract_lets d q s1 s2 s3
  have h2 : SameLoops s s2 := (sameLoops_putField ..).trans (sameLoops_putField ..)
  have h3 : SameLoops s2 s3 := .ite (sameLoops_putField ..) (.refl ..)
  exact (h2.trans h3).trans (sameLoops_putField ..)

theorem sameLoops_aiRefresh (s : State) (a t : Nat) : SameLoops s (aiRefresh s a t) :=
  (SameLoops.ite (.refl ..) (sameLoops_setAin ..)).trans (sameLoops_aiShow ..)

theorem sameLoops_encRefresh (s : State) (e t : Nat) : SameLoops s (encRefresh s e t) :=
  (((sameLoops_putField ..).trans (sameLoops_putField ..)).trans (sameLoops_putField ..)).trans (sameLoops_putField ..)

theorem sameLoops_fieldNow (s : State) (n t : Nat) : SameLoops s (fieldNow s n t) := by
  unfold fieldNow
  extract_lets s1
  have h1 : SameLoops s s1 := SameLoops.foldl (fun s (e : Nat × AiSt) => sameLoops_aiRefresh s e.1 t) _ s
  exact h1.trans (SameLoops.foldl (fun s (e : Nat × EncSt) => sameLoops_encRefresh s e.1 t) _ s1)

theorem sameLoops_aoRefresh (s : State) (a : Nat) : SameLoops s (aoRefresh s a) := by
  unfold aoRefresh
  extract_lets s1 hz was s2 q s3 s4
  have h1 : SameLoops s s1 := by
    dsimp only [s1]
    split
    · exact sameLoops_setAout ..
    · exact .refl ..
  have h2 : SameLoops s1 s2 := .ite (.refl ..) ((sameLoops_setAout ..).trans (sameLoops_note ..))
  have h4 : SameLoops s2 s4 := (sameLoops_putField ..).trans (sameLoops_putField ..)
  exact ((h1.trans h2).trans h4).trans (.ite (.refl ..) ((sameLoops_update ..).trans (sameLoops_setAout ..)))

/-! ### The bridge law of a silent tile (R194-R196) -/

theorem bridge_bridgeApply (s : State) (i : Nat) :
    (loop (bridgeApply s i) i).bridge = { (loop s i).bridge with u := (loop s i).bridge.un.getD (loop s i).bridge.u, un := none } := by
  unfold bridgeApply
  cases hun : (loop s i).bridge.un with
  | none =>
    dsimp only
    rw [Option.getD_none, ← hun]
  | some u =>
    dsimp only
    have hput : loop (setLoop s i (fun d => { d with bridge := { d.bridge with u := u, un := none } })) i = _ := loop_setLoop_same ..
    split
    · rw [loop_of_loops (sameLoops_aoRefresh ..).loops, hput]
      rfl
    · rw [hput]
      rfl

theorem param_bridgeApply (s : State) (i code inst : Nat) : param (bridgeApply s i) code inst = param s code inst := by
  unfold bridgeApply
  split
  · rfl
  · dsimp only
    split
    · exact (sameLoops_aoRefresh ..).params code inst
    · rfl

section Bridge

variable {s : State} {k : BitVec 9}

theorem exec_bridgeLawStart_due (hp : (loop s k.toNat).present = true) (hf : flag s pLoopBridge k.toNat = true)
    (hn : (node s (bridgeTile s k.toNat)).silent = true) (hr : (loop s k.toNat).bridge.running = false) (he : (loop s k.toNat).bridge.expired = false)
    (ht : s.t0 % (param s pLoopBrPeriod k.toNat * 1000) = 0) :
    ∃ I, exec (.bridgeLawStart k) s = .next (loopStatePoint (setLoop s k.toNat (fun d => { d with st := 8, bridge := { d.bridge with
      running := true, startAt := (node s (bridgeTile s k.toNat)).silentSince, u := (loop s k.toNat).bridge.seedU, un := none, i := I } })) k.toNat s.t0) :=
  ⟨_, (if_neg (by simp [hp, hf, hn, hr, he, us, ht])).trans rfl⟩

theorem exec_bridgeExpiry_past (hr : (loop s k.toNat).bridge.running = true) (he : (loop s k.toNat).bridge.expired = false)
    (ht : (loop s k.toNat).bridge.startAt + 5000000000 ≤ s.t0) :
    exec (.bridgeExpiry k) s =
      .next (loopStatePoint (setLoop s k.toNat (fun d => { d with st := 9, bridge := { d.bridge with expired := true } })) k.toNat s.t0) :=
  if_neg (by rw [hr, he, decide_eq_false (show ¬ s.t0 < _ + 5 * sec from Nat.not_lt.mpr ht)]; decide)

/-- The state in which the tile has latched its inputs and the output computed one period before is applied. -/
def bridgeApplied (s : State) (i : Nat) : State := bridgeApply (fieldNow s (bridgeTile s i) s.t0) i

theorem bridge_bridgeApplied (s : State) (i : Nat) :
    (loop (bridgeApplied s i) i).bridge = { (loop s i).bridge with u := (loop s i).bridge.un.getD (loop s i).bridge.u, un := none } := by
  unfold bridgeApplied
  rw [bridge_bridgeApply, loop_of_loops (sameLoops_fieldNow ..).loops]

theorem param_bridgeApplied (s : State) (i code inst : Nat) : param (bridgeApplied s i) code inst = param s code inst :=
  (param_bridgeApply ..).trans ((sameLoops_fieldNow ..).params code inst)

/-- With the band 0 the seed is the next output. -/
theorem exec_bridgePeriod_seed (hr : (loop s k.toNat).bridge.running = true) (he : (loop s k.toNat).bridge.expired = false)
    (ht : s.t0 % (param s pLoopBrPeriod k.toNat * 1000) = 0) (hb : feq f32 (param s pLoopBrBand k.toNat) 0 = true)
    (hq : qAlways (qualOf (tget ((0 : Word), (0x200 : BitVec 16)) (bridgeApplied s k.toNat).img.field (param s pLoopPvSrc k.toNat)).2) = true) :
    exec (.bridgePeriod k) s = .next (setLoop (bridgeApplied s k.toNat) k.toNat (fun d => { d with bridge := { d.bridge with
      un := some (loop s k.toNat).bridge.seedU, i := (loop (bridgeApplied s k.toNat) k.toNat).bridge.i } })) := by
  show execBridgePeriod k s = _
  unfold execBridgePeriod
  extract_lets i b0 s1 b fv put band lo hi
  have hs1 : s1 = bridgeApplied s i := rfl
  have hseed : b.seedU = b0.seedU := by
    dsimp only [b]
    rw [hs1, bridge_bridgeApplied]
  have hband : feq f32 band 0 = true := by rwa [show band = param s pLoopBrBand i from param_bridgeApplied ..]
  have hfv : qAlways (qualOf fv.2) = true := by
    dsimp only [fv]
    rwa [hs1, param_bridgeApplied]
  refine (if_neg (by simp [b0, i, hr, he, us, ht])).trans ((if_neg (by simp [hfv])).trans ((if_pos hband).trans ?_))
  rw [hseed]
  rfl

end Bridge

/-- Settles O14: each instruction's branch above; a bridge period rests on what the tile's latches and its output's refresh leave of the loop. -/
theorem loopTuneAndBridge : Obligations.LoopTuneAndBridge := by
  unfold Obligations.LoopTuneAndBridge
  intro s k i d tuned
  refine ⟨?tune, ?commands, ?start, fun hr he => ⟨?period, ?expiry⟩⟩
  case tune =>
    intro x hx
    refine ⟨exec_tuneCheckTimeout_steady hx, exec_tuneCheckTimeout_late hx, exec_tuneSettleDone_excursion hx, exec_tuneSettleDone_settled hx,
      ?measured, exec_tuneTimeout_past hx⟩
    intro hp he hc hk ps am hps ham htu ha
    obtain ⟨res, hres⟩ := exec_tuneMeasureDone_measured hx hp he hc hk hps ham htu ha
    refine ⟨_, hres, ?_⟩
    rw [loop_of_loops (finish_loops ..), loop_setLoop_same]
    exact ⟨rfl, rfl, rfl⟩
  case commands =>
    intro r ht hz n hn
    refine ⟨fun h => ⟨_, exec_loopFlagsClear_one ht hz hn h, ?cleared⟩, fun h hp hst hu hfree => ?tuned,
      fun x h hx => exec_loopTuneResult_known ht hz hn h hx⟩
    case cleared =>
      rw [loop_of_loops ((finish_loops ..).trans (update_loops ..))]
      exact congrArg LoopSt.sticky (loop_setLoop_same ..)
    case tuned =>
      obtain ⟨f, hexec, hf⟩ := exec_loopTune_accepted ht hz hn h hp hst hu hfree
      obtain ⟨hst', x, hx, hacc, hphase⟩ := hf (loop (abortProfile (begun s r 0x0311) n) n)
      have hloop := (loop_of_loops (accepted_loops (setLoop (abortProfile (begun s r 0x0311) n) n f) r 0x0311 []) n).trans (loop_setLoop_same ..)
      exact ⟨_, x, hexec, (congrArg LoopSt.st hloop).trans hst', (congrArg LoopSt.tune hloop).trans hx, hacc, hphase⟩
  case start =>
    intro hp hf hn hr he ht
    obtain ⟨I, hexec⟩ := exec_bridgeLawStart_due hp hf hn hr he ht
    refine ⟨_, hexec, ?_⟩
    rw [loop_of_loops (loopStatePoint_loops ..), loop_setLoop_same]
    exact ⟨rfl, rfl, rfl⟩
  case period =>
    intro ht hb hq
    refine ⟨_, exec_bridgePeriod_seed hr he ht hb hq, ?_⟩
    rw [loop_setLoop_same]
    exact ⟨rfl, congrArg BridgeSt.u (bridge_bridgeApplied s i)⟩
  case expiry =>
    intro ht
    refine ⟨_, exec_bridgeExpiry_past hr he ht, ?_⟩
    rw [loop_of_loops (loopStatePoint_loops ..), loop_setLoop_same]
    exact ⟨rfl, rfl⟩

end Sys2Proof.Proofs
end

section
/-! LOOP_TUNE_ACCEPT (R193), the axis commands of M7 (R230, R553, R554), CH_ACK (R286), ENC_ARM and ENC_CLEAR (R307, R308). -/

namespace Sys2Proof.Proofs

open Sys2Proof.Machine Sys2Proof.Laws Sys2Proof.Safety

/-! ### LOOP_TUNE_ACCEPT (R193) -/

section TuneAccept

variable {s : State} {r : Req}

/-- The three gains of loop `i` as SETs of base values, in the order in which a tune result is taken. -/
def gainsSet (s : State) (r : Req) (i : Nat) (x : TuneRes) : State :=
  let set (s : State) (code : Nat) (v : Word) : State := (doSet s r.mb (via s r 0x0313) r.tag.toNat 0 (pid code i) (v.zeroExtend 64) false).1
  set (set (set s pLoopKp x.kp) pLoopTi x.ti) pLoopTd x.td

theorem descOf_pid {code i lo hi : Nat} (hc : (paramDesc code).map (fun d => (d.first, d.last)) = some (lo, hi)) (hlo : lo ≤ i) (hhi : i ≤ hi)
    (hi : i < 4096) : ∃ d, descOf (pid code i) = some d := by
  obtain ⟨d, hd, hrange⟩ := Option.map_eq_some_iff.mp hc
  obtain ⟨rfl, rfl⟩ := Prod.mk.inj hrange
  have hcode : pid code i / 4096 = code := by unfold pid; omega
  have hinst : pid code i % 4096 = i := by unfold pid; omega
  refine ⟨d, ?_⟩
  unfold descOf
  rw [hcode, hd, hinst]
  exact if_pos ⟨hlo, hhi⟩

theorem working_doSet {id : Nat} {d : ParamDesc} (hd : descOf id = some d) (s : State) (mb transport tag : Nat) (v : DWord) :
    (doSet s mb transport tag 0 id v false).1.params.working = tset s.params.working (pkey 0 id) v :=
  (changed_doSet hd mb transport tag 0 v false).working

theorem working_gainsSet {i : Nat} (hi : i < 512) (x : TuneRes) : (gainsSet s r i x).params.working =
    tset (tset (tset s.params.working (pkey 0 (pid pLoopKp i)) (x.kp.zeroExtend 64)) (pkey 0 (pid pLoopTi i)) (x.ti.zeroExtend 64))
      (pkey 0 (pid pLoopTd i)) (x.td.zeroExtend 64) := by
  have hdesc : ∀ code, (paramDesc code).map (fun d => (d.first, d.last)) = some (0, 511) → ∃ d, descOf (pid code i) = some d :=
    fun code hc => descOf_pid hc i.zero_le (by omega) (by omega)
  obtain ⟨dp, hp⟩ := hdesc pLoopKp (by decide)
  obtain ⟨di, hi⟩ := hdesc pLoopTi (by decide)
  obtain ⟨dd, hd⟩ := hdesc pLoopTd (by decide)
  unfold gainsSet
  rw [working_doSet hd, working_doSet hi, working_doSet hp]

/-- The working Deck holds the three gains taken. -/
theorem gains_gainsSet {i : Nat} (hi : i < 512) (x : TuneRes) :
    tfind (gainsSet s r i x).params.working (pkey 0 (pid pLoopKp i)) = some (x.kp.zeroExtend 64) ∧
      tfind (gainsSet s r i x).params.working (pkey 0 (pid pLoopTi i)) = some (x.ti.zeroExtend 64) ∧
      tfind (gainsSet s r i x).params.working (pkey 0 (pid pLoopTd i)) = some (x.td.zeroExtend 64) := by
  have hkey : ∀ c e : Nat, c ≠ e → pkey 0 (pid c i) ≠ pkey 0 (pid e i) := by
    intro c e hne
    unfold pkey pid
    omega
  rw [working_gainsSet hi]
  refine ⟨?_, ?_, tfind_tset_same ..⟩
  · rw [tfind_tset_other _ _ (hkey _ _ (by decide)), tfind_tset_other _ _ (hkey _ _ (by decide)), tfind_tset_same]
  · rw [tfind_tset_other _ _ (hkey _ _ (by decide)), tfind_tset_same]

variable (h : Runs s r 0x0313 true [.idle, .maint] 4 (decide (r.target = 0 ∧ fld r.payload 2 2 = 0 ∧ loopArg r < 512)))
include h

theorem exec_loopTuneAccept_none (hx : (loop s (loopArg r)).result = none) :
    exec (.loopTuneAccept r) s = .next (finish (begun s r 0x0313) r 0x0313 true 0x0405) := by
  refine congrArg Host.Outcome.next ((command_runs h _).trans ?_)
  rw [show (loop (beginCmd s r 0x0313) (loopArg r)).result = none from hx]

variable {x : TuneRes} (hx : (loop s (loopArg r)).result = some x)
include hx

theorem exec_loopTuneAccept_some : exec (.loopTuneAccept r) s = .next (
    if flt f32 (param s pLoopKpMax (loopArg r)) x.kp.toNat then finish (begun s r 0x0313) r 0x0313 true 0x0105
    else finish (gainsSet (begun s r 0x0313) r (loopArg r) x) r 0x0313 true 0) := by
  refine congrArg Host.Outcome.next ((command_runs h _).trans ?_)
  rw [show (loop (beginCmd s r 0x0313) (loopArg r)).result = some x from hx]
  rfl

end TuneAccept

/-! ### The axis commands of M7 (R230, R248, R553, R554) -/

@[simp] theorem prof_setProf_same (s : State) (i : Nat) (f : PfSt → PfSt) : prof (setProf s i f) i = f (prof s i) := tget_tmod_same ..

theorem prof_of_motion {s t : State} (h : t.motion = s.motion) (i : Nat) : prof t i = prof s i := by
  unfold prof
  rw [h]

section Axis

variable {s : State} {r : Req} {op ax : Nat} {m : MaintReq}

theorem maintReq_off (he : (prof s (profOf ax)).enabled = false) : maintReq s r op ax m = finish s r op true 0x020C := if_pos (by rw [he]; rfl)

/-- An enabled profile holds the request, with the command it belongs to. -/
theorem maint_maintReq (he : (prof s (profOf ax)).enabled = true) :
    (prof (maintReq s r op ax m) (profOf ax)).maint = some { m with mb := r.mb.val, tag := r.tag.toNat, opcode := op } := by
  unfold maintReq
  extract_lets i s1
  rw [if_neg (by rw [he]; decide)]
  have hmotion : (if m.req = 0 then s1 else accepted s1 r op).motion = s1.motion := by
    split
    · rfl
    · exact accepted_motion ..
  rw [prof_of_motion hmotion, prof_setProf_same]

end Axis

section AxisCommands

variable {s : State} {r : Req}

theorem exec_axisJog (h : Runs s r 0x0401 true [.maint] 12
    (r.target == 0 && decide (fld r.payload 0 1 < 32 ∧ 1 ≤ fld r.payload 8 4 ∧ fld r.payload 8 4 ≤ 10000) && fld r.payload 1 3 == 0)) :
    exec (.axisJog r) s = .next (maintReq (begun s r 0x0401) r 0x0401 (fld r.payload 0 1)
      { req := 3, vel := bv 32 (fld r.payload 4 4), until_ := fld r.payload 8 4 * ms }) :=
  congrArg Host.Outcome.next (command_runs h _)

theorem exec_axisMove (h : Runs s r 0x0402 true [.maint] 8
    (r.target == 0 && decide (fld r.payload 0 1 < 32 ∧ (fld r.payload 1 1 = 1 ∨ fld r.payload 1 1 = 2)) && fld r.payload 2 2 == 0)) :
    exec (.axisMove r) s = .next (maintReq (begun s r 0x0402) r 0x0402 (fld r.payload 0 1)
      { req := fld r.payload 1 1, target := sval32 (fld r.payload 4 4) }) :=
  congrArg Host.Outcome.next (command_runs h _)

theorem exec_axisHome (h : Runs s r 0x0403 true [.maint] 4 (r.target == 0 && decide (fld r.payload 0 1 < 32) && fld r.payload 1 3 == 0)) :
    exec (.axisHome r) s = .next (if homeNoEnc s (fld r.payload 0 1) then finish (begun s r 0x0403) r 0x0403 true 0x0107
      else maintReq (begun s r 0x0403) r 0x0403 (fld r.payload 0 1) { req := 7 }) :=
  congrArg Host.Outcome.next (command_runs h _)

theorem exec_axisStop (h : Runs s r 0x0404 true [.maint] 4
    (r.target == 0 && decide (fld r.payload 0 1 < 32 ∧ fld r.payload 1 1 ≤ 2) && fld r.payload 2 2 == 0)) :
    exec (.axisStop r) s = .next (if !(prof s (profOf (fld r.payload 0 1))).enabled then finish (begun s r 0x0404) r 0x0404 true 0
      else maintReq (begun s r 0x0404) r 0x0404 (fld r.payload 0 1) { req := 0, stopk := fld r.payload 1 1 }) :=
  congrArg Host.Outcome.next (command_runs h _)

end AxisCommands

/-! ### CH_ACK (R286, R554) -/

@[simp] theorem grp_setGrp_same (s : State) (g : Nat) (f : GrpSt → GrpSt) : grp (setGrp s g f) g = f (grp s g) := tget_tmod_same ..

theorem grp_of_io {s t : State} (h : t.io = s.io) (g : Nat) : grp t g = grp s g := by
  unfold grp
  rw [h]

theorem exec_chAck {s : State} {r : Req} (h : Runs s r 0x0410 true allModes 4 (r.target == 0 && decide (fld r.payload 0 1 < 64) && fld r.payload 1 3 == 0)) :
    let g := fld r.payload 0 1
    let b := begun s r 0x0410
    exec (.chAck r) s = .next (if (grp s g).lost then finish b r 0x0410 true 0x0204
      else if (grp s g).ackWait then finish (setGrp b g (fun d => { d with restoreAt := some (wholeMs s.t0 (500 * us)) })) r 0x0410 true 0
      else finish b r 0x0410 true 0) :=
  congrArg Host.Outcome.next (command_runs h _)

/-! ### ENC_ARM and ENC_CLEAR (R307, R308) -/

@[simp] theorem enc_setEnc_same (s : State) (e : Nat) (f : EncSt → EncSt) : enc (setEnc s e f) e = f (enc s e) := tget_tmod_same ..

theorem enc_of_io {s t : State} (h : t.io = s.io) (e : Nat) : enc t e = enc s e := by
  unfold enc
  rw [h]

/-- Clearing QUAD_ERR leaves the arming. -/
theorem enc_encFlag_quadErr (s : State) (e : Nat) :
    (enc (encFlag s e 0 false) e).flags.testBit 0 = false ∧ (enc (encFlag s e 0 false) e).armed = (enc s e).armed := by
  unfold encFlag
  split
  next hoff => exact ⟨hoff, rfl⟩
  next hon =>
  extract_lets t
  have henc : enc t e = { enc s e with flags := (enc s e).flags - 2 ^ 0 } := (enc_of_io rfl e).trans (enc_setEnc_same ..)
  rw [if_neg (by simp), henc]
  refine ⟨?_, rfl⟩
  rw [Bool.not_eq_false, Nat.testBit_zero, decide_eq_true_eq] at hon
  rw [Nat.testBit_zero, decide_eq_false_iff_not]
  dsimp only
  omega

section Encoders

variable {s : State} {r : Req}

theorem exec_encArm (h : Runs s r 0x0411 true allModes 4 (r.target == 0 && decide (fld r.payload 0 1 < 16) && fld r.payload 1 3 == 0)) :
    exec (.encArm r) s = .next (finish (setEnc (begun s r 0x0411) (fld r.payload 0 1) (fun d => { d with armed := true })) r 0x0411 true 0) :=
  congrArg Host.Outcome.next (command_runs h _)

theorem exec_encClear (h : Runs s r 0x0412 true allModes 4 (r.target == 0 && decide (fld r.payload 0 1 < 16) && fld r.payload 1 3 == 0)) :
    exec (.encClear r) s = .next (finish (encFlag (begun s r 0x0412) (fld r.payload 0 1) 0 false) r 0x0412 true 0) :=
  congrArg Host.Outcome.next (command_runs h _)

end Encoders

/-- Settles O50: each command's outcome is the branch of its checks that the hypotheses choose; the gains taken stand under three keys of the working Deck. -/
theorem loopAxisAndChannelCommands : Obligations.LoopAxisAndChannelCommands := by
  unfold Obligations.LoopAxisAndChannelCommands
  intro s r
  refine ⟨?tune, ⟨?jog, ?move, ?home, ?halt⟩, ?ack, ?arm, ?clear⟩
  case tune =>
    intro i b h
    refine ⟨exec_loopTuneAccept_none h, fun x hx => ⟨fun hk => ?large, fun hk => ?taken⟩⟩
    case large => exact (exec_loopTuneAccept_some h hx).trans (congrArg Host.Outcome.next (if_pos hk))
    case taken =>
      have ⟨_, _, _, hok, _⟩ := h
      have hi : loopArg r < 512 := (of_decide_eq_true hok).2.2
      have hgains := gains_gainsSet (s := begun s r 0x0313) (r := r) hi x
      refine ⟨_, (exec_loopTuneAccept_some h hx).trans (congrArg Host.Outcome.next (if_neg (ne_true_of_eq_false hk))), ?_⟩
      rw [finish_params]
      exact hgains
  case jog =>
    intro dur h
    exact ⟨fun he => (exec_axisJog h).trans (congrArg Host.Outcome.next (maintReq_off he)), fun he => ⟨_, exec_axisJog h, maint_maintReq he⟩⟩
  case move =>
    intro q h
    exact ⟨fun he => (exec_axisMove h).trans (congrArg Host.Outcome.next (maintReq_off he)), fun he => ⟨_, exec_axisMove h, maint_maintReq he⟩⟩
  case home =>
    intro h
    refine ⟨fun hn => (exec_axisHome h).trans (congrArg Host.Outcome.next (if_pos hn)), fun hn he => ?off, fun hn he => ?on⟩
    all_goals have hexec := (exec_axisHome h).trans (congrArg Host.Outcome.next (if_neg (ne_true_of_eq_false hn)))
    case off => exact hexec.trans (congrArg Host.Outcome.next (maintReq_off he))
    case on => exact ⟨_, hexec, maint_maintReq he⟩
  case halt =>
    intro st h
    exact ⟨fun he => (exec_axisStop h).trans (congrArg Host.Outcome.next (if_pos (by rw [he]; rfl))),
      fun he => ⟨_, (exec_axisStop h).trans (congrArg Host.Outcome.next (if_neg (by rw [he]; decide))), maint_maintReq he⟩⟩
  case ack =>
    intro g b h
    refine ⟨fun hl => (exec_chAck h).trans (congrArg Host.Outcome.next (if_pos hl)), fun hl ha => ?waits, fun hl ha => ?idle⟩
    all_goals have hexec := (exec_chAck h).trans (congrArg Host.Outcome.next (if_neg (ne_true_of_eq_false hl)))
    case waits =>
      refine ⟨_, hexec.trans (congrArg Host.Outcome.next (if_pos ha)), ?_⟩
      rw [grp_of_io (finish_io ..), grp_setGrp_same]
    case idle => exact hexec.trans (congrArg Host.Outcome.next (if_neg (ne_true_of_eq_false ha)))
  case arm =>
    intro h
    refine ⟨_, exec_encArm h, ?_⟩
    rw [enc_of_io (finish_io ..), enc_setEnc_same]
    exact ⟨rfl, rfl⟩
  case clear =>
    intro h
    refine ⟨_, exec_encClear h, ?_⟩
    rw [enc_of_io (finish_io ..)]
    exact enc_encFlag_quadErr ..

end Sys2Proof.Proofs
end

section
/-! What the effects of a loop engine's instruction leave of its registers, and each instruction format in law code (R199-R219). -/

namespace Sys2Proof.Proofs

open Sys2Proof.Machine Sys2Proof.Laws Sys2Proof.Safety

/-! ### Effects on the registers -/

/-- Outside a handler the effects `l` take the registers `b` to `b'` and change nothing else. -/
structure Leaves (l : List LeEff) (b b' : LeBank) : Prop where
  run : ∀ e : LoopEng, e.shd = false → l.foldl leApply { e with main := b } = { e with main := b' }

/-- One effect that replaces the bank in use by `b'`. -/
theorem leaves_setBank {f : LeEff} {b b' : LeBank} (h : ∀ e : LoopEng, e.bank = b → e.shd = false → leApply e f = e.setBank b') : Leaves [f] b b' := by
  refine ⟨fun e hs => ?_⟩
  have hd : ({ e with main := b } : LoopEng).shd = false := hs
  exact (h _ (bank_main hd) hd).trans (setBank_main hd b')

theorem leaves_nil (b : LeBank) : Leaves [] b b := ⟨fun _ _ => rfl⟩

theorem Leaves.append {l l' : List LeEff} {b b' b'' : LeBank} (h : Leaves l b b') (h' : Leaves l' b' b'') : Leaves (l ++ l') b b'' := by
  refine ⟨fun e hs => ?_⟩
  rw [List.foldl_append, h.run e hs, h'.run e hs]

theorem leaves_reg (r : Nat) (v : Word) (b : LeBank) : Leaves [.reg r v] b (b.wr r v) :=
  leaves_setBank fun _ hb _ => by rw [← hb]; rfl

theorem leaves_load (r : Nat) (v : Word) (b : LeBank) : Leaves [.load r v] b { b with loads := b.loads ++ [(r, v)] } :=
  leaves_setBank fun _ hb _ => by rw [← hb]; rfl

theorem leaves_acc (k : Nat) (v : Int) (b : LeBank) : Leaves [.acc k v] b { b with a := b.a.set k v } :=
  leaves_setBank fun _ hb _ => by rw [← hb]; rfl

theorem leaves_ptr (n v : Nat) (b : LeBank) : Leaves [.ptr n v] b { b with p := b.p.set n v } :=
  leaves_setBank fun _ hb _ => by rw [← hb]; rfl

theorem leaves_cmp (l q : Bool) (b : LeBank) : Leaves [.cmp l q] b { b with lt := l, eq := q } :=
  leaves_setBank fun _ hb _ => by rw [← hb]; rfl

theorem leaves_sat (x y z : Bool) (b : LeBank) : Leaves [.sat x y z] b { b with sv := b.sv || x, av := b.av || y, as := b.as || z } :=
  leaves_setBank fun _ hb _ => by rw [← hb]; rfl

theorem leaves_wbase (v : Nat) (b : LeBank) : Leaves [.wbase v] b { b with wb := v % 64 } :=
  leaves_setBank fun e hb hs => by
    rw [← hb]
    exact if_neg (ne_true_of_eq_false hs)

theorem leaves_sat_sv (b : LeBank) : Leaves [.sat true false false] b { b with sv := true } := by
  simpa using leaves_sat true false false b

theorem outOf32_eq (z : Int) : outOf32 z = !decide (-2147483648 ≤ z ∧ z ≤ 2147483647) := by
  unfold outOf32
  grind

theorem outOf40_eq (z : Int) : outOf40 z = !decide (-549755813888 ≤ z ∧ z ≤ 549755813887) := by
  unfold outOf40
  grind

/-- A 32-bit result is clamped or wrapped as R210 says. -/
theorem leaves_res32 (r : Nat) (S : Bool) (z : Int) (b : LeBank) : Leaves (res32 r S z) b (leRes b r S z) := by
  unfold res32 leRes
  by_cases hz : -2147483648 ≤ z ∧ z ≤ 2147483647
  · rw [outOf32_eq, if_pos hz, decide_eq_true hz]
    exact leaves_reg ..
  · rw [outOf32_eq, if_neg hz, decide_eq_false hz]
    cases S
    · exact leaves_reg ..
    · exact (leaves_reg ..).append (leaves_sat_sv _)

/-- A 40-bit result is clamped or wrapped as R210 says. -/
theorem leaves_resAcc (k : Nat) (S : Bool) (z : Int) (b : LeBank) : Leaves (resAcc k S z) b (leAcc b k S z) := by
  unfold resAcc leAcc
  by_cases hz : -549755813888 ≤ z ∧ z ≤ 549755813887
  · rw [outOf40_eq, if_pos hz, decide_eq_true hz]
    exact leaves_acc ..
  · rw [outOf40_eq, if_neg hz, decide_eq_false hz]
    cases S
    · have hwrap := (leaves_acc k (wrap40 z) b).append (leaves_sat false true false _)
      simpa [wrap40] using hwrap
    · have hclamp := (leaves_acc k (if 0 < z then 549755813887 else -549755813888) b).append (leaves_sat true false true _)
      simpa using hclamp

/-- Once the loads in flight have landed none is in flight. -/
@[simp] theorem leLanded_loads (e : LoopEng) : (leLanded e).loads = [] := by
  have hwr : ∀ (b : LeBank) (n : Nat) (v : Word), (b.wr n v).loads = b.loads := by
    intro b n v
    unfold LeBank.wr
    split <;> rfl
  have hfold : ∀ (l : List (Nat × Word)) (b : LeBank), (l.foldl (fun b x => b.wr x.1 x.2) b).loads = b.loads := by
    intro l
    induction l with
    | nil => exact fun _ => rfl
    | cons x l ih => exact fun b => (ih _).trans (hwr b x.1 x.2)
  exact hfold ..

/-- A load puts its word in flight, alone. -/
theorem leaves_load_landed (r : Nat) (v : Word) (e : LoopEng) : Leaves [.load r v] (leLanded e) { leLanded e with loads := [(r, v)] } := by
  simpa using leaves_load r v (leLanded e)

/-! ### Fields -/

theorem need_true {c : Bool} (h : c = true) : need c = .ok () := if_pos h

theorem need_zero {n : Nat} (h : n = 0) : need (n == 0) = .ok () := need_true (beq_iff_eq.mpr h)

/-- In law code a register field that is not reserved reads its entry of the main bank. -/
theorem reg_of_home {e : LoopEng} (hs : e.shd = false) {r n : Nat} (h : e.home r = .ok n) : e.reg r = .ok (e.main.rd n) := by
  rw [LoopEng.reg, h, bank_main hs]
  rfl

/-! ### The formats -/

section Formats

variable {s : State} {le : Fin 8} (h : LeAt s le) {l : List LeEff} {b : LeBank}
include h

/-- An instruction whose effects are on the registers leaves them as its effects do. -/
theorem leExec_leaves {word : Nat} {f : LoopEng → Except Nat (List LeEff)} (hf : f (loopEngine s le) = .ok l)
    (hl : Leaves l (leLanded (loopEngine s le)) b) : (.next (leExec le word false s f) : Res) = .next (leTo s le b) := by
  have ⟨_, hs, _⟩ := h
  rw [leExec_at h, hf]
  exact congrArg Host.Outcome.next <| setLe_leRun h l b id (fun _ _ => rfl)
    (hl.run { loopEngine s le with pc := (loopEngine s le).pc + 1, cycles := (loopEngine s le).cycles + 1 } hs)

section G

variable {op : Nat} {x : BitVec 25}

theorem leG_leaves {f : LoopEng → Nat → Except Nat (List LeEff)} (hf : f (loopEngine s le) x.toNat = .ok l)
    (hl : Leaves l (leLanded (loopEngine s le)) b) : (.next (leG le op x s f) : Res) = .next (leTo s le b) :=
  leExec_leaves h (f := fun e => f e x.toNat) hf hl

theorem leG_fault {f : LoopEng → Nat → Except Nat (List LeEff)} {code : Nat} (hf : f (loopEngine s le) x.toNat = .error code) :
    (.next (leG le op x s f) : Res) = .next (lawFault s le code (loopEngine s le).pc (op * 2 ^ 25 + x.toNat)) := by
  unfold leG
  rw [leExec_at h, hf]

theorem leG3_leaves {rd ra rb : Nat} {f : Nat → Bool → Word → Word → List LeEff} (hz : fldBits x.toNat 5 0 = 0)
    (hd : (loopEngine s le).home (fldBits x.toNat 23 18) = .ok rd) (ha : (loopEngine s le).home (fldBits x.toNat 17 12) = .ok ra)
    (hb : (loopEngine s le).home (fldBits x.toNat 11 6) = .ok rb)
    (hl : Leaves (f rd (gS x.toNat) ((loopEngine s le).main.rd ra) ((loopEngine s le).main.rd rb)) (leLanded (loopEngine s le)) b) :
    (.next (leG3 le op x s f) : Res) = .next (leTo s le b) := by
  have ⟨_, hs, _⟩ := h
  refine leG_leaves h ?_ hl
  rw [need_zero hz, hd, reg_of_home hs ha, reg_of_home hs hb]
  rfl

theorem leGI_leaves {rd ra : Nat} {shift : Bool} {f : Nat → Bool → Word → Int → List LeEff} (hz : shift = true → fldBits x.toNat 11 5 = 0)
    (hd : (loopEngine s le).home (fldBits x.toNat 23 18) = .ok rd) (ha : (loopEngine s le).home (fldBits x.toNat 17 12) = .ok ra)
    (hl : Leaves (f rd (gS x.toNat) ((loopEngine s le).main.rd ra) (if shift then fldBits x.toNat 4 0 else sfld x.toNat 11 0))
      (leLanded (loopEngine s le)) b) : (.next (leGI le op x shift s f) : Res) = .next (leTo s le b) := by
  have ⟨_, hs, _⟩ := h
  refine leG_leaves h ?_ hl
  rw [need_true (by cases shift <;> simp [hz]), hd, reg_of_home hs ha]
  rfl

theorem leGA_leaves {f : LoopEng → Nat → Nat → Bool → Nat → Except Nat (List LeEff)} (hz : fldBits x.toNat 16 6 = 0)
    (hf : f (loopEngine s le) (fldBits x.toNat 23 23) (fldBits x.toNat 22 17) (gS x.toNat) x.toNat = .ok l)
    (hl : Leaves l (leLanded (loopEngine s le)) b) : (.next (leGA le op x s f) : Res) = .next (leTo s le b) := by
  refine leG_leaves h ?_ hl
  rw [need_zero hz]
  exact hf

end G

end Formats

/-! ### The multiplications and the moves (R209, R212, R213) -/

/-- P is twice the product of the halves, replaced for -1 × -1. -/
theorem leProd_eq (ra rb : Word) (low : Bool) :
    let u : Int := if low then (ra.toNat % 65536 : Nat) else (ra.extractLsb 31 16).toInt
    let v : Int := (rb.setWidth 16).toInt
    let repl := decide (u = -32768 ∧ v = -32768)
    leProd ra rb low = (if repl then 0x7FFFFFFF else u * v * 2, repl) := by
  intro u v repl
  have hhi : (bv 16 (ra.toNat / 2 ^ 16)).toInt = (ra.extractLsb 31 16).toInt := by
    rw [← Nat.shiftRight_eq_div_pow]
    rfl
  have hlo : (bv 16 rb.toNat).toInt = v := congrArg BitVec.toInt (BitVec.ofNat_toNat 16 rb)
  unfold leProd
  rw [hhi, hlo]
  by_cases hr : u = -32768 ∧ v = -32768
  · rw [show repl = true from decide_eq_true hr]
    exact if_pos hr
  · rw [show repl = false from decide_eq_false hr]
    exact if_neg hr

theorem leMoves_none (e : LoopEng) {w : Nat} (h1 : fldBits w 11 10 = 0) (h2 : fldBits w 3 2 = 0) (bus2 : Nat) : leMoves e w bus2 = .ok [] := by
  unfold leMoves
  rw [h1, h2]
  rfl

/-- Both moves in mode [p] load the words at their address registers. -/
theorem leMoves_words {e : LoopEng} (hs : e.shd = false) {w bus2 : Nat} (h1 : fldBits w 11 10 = 1) (h2 : fldBits w 3 2 = 1) {v1 v2 : Word}
    (hv1 : e.load (fldBits w 15 15) ((e.main.p[fldBits w 14 12]?).getD 0) = .ok v1)
    (hv2 : e.load bus2 ((e.main.p[fldBits w 6 4]?).getD 0) = .ok v2) :
    leMoves e w bus2 = .ok [.load (if w.testBit 25 then e.wPhys (fldBits w 9 7) else fldBits w 9 7) v1,
      .load (if w.testBit 25 then e.wPhys (fldBits w 1 0 + 12) else fldBits w 1 0 + 12) v2] := by
  simp only [leMoves, h1, h2, memOp, bank_main hs, Nat.one_ne_zero, if_false, Nat.sub_self, bind, Except.bind, hv1, hv2]
  rfl

section Multiply

variable {s : State} {le : Fin 8} (h : LeAt s le) {x : BitVec 28} {mop : Nat}
include h

/-- With no move in the word a multiplication changes its accumulator under S, and SV when P was replaced. -/
theorem leM_product (h1 : fldBits x.toNat 11 10 = 0) (h2 : fldBits x.toNat 3 2 = 0) {P : Int} {repl : Bool}
    (hp : let reg (n : Nat) : Nat := if x.toNat.testBit 25 then (loopEngine s le).wPhys n else n
      leProd ((loopEngine s le).main.rd (reg (fldBits x.toNat 24 21))) ((loopEngine s le).main.rd (reg (fldBits x.toNat 19 16)))
        (x.toNat.testBit 20) = (P, repl)) (f : Int → Int → Int) :
    (.next (leM le mop x s f) : Res) = .next (leTo s le
      (let c := leAcc (leLanded (loopEngine s le)) (fldBits x.toNat 26 26) (x.toNat.testBit 27) (f ((loopEngine s le).main.acc (fldBits x.toNat 26 26)) P)
       { c with sv := c.sv || repl })) := by
  have ⟨_, hs, _⟩ := h
  have hsat (c : LeBank) : Leaves [.sat repl false false] c { c with sv := c.sv || repl } := by simpa using leaves_sat repl false false c
  refine leExec_leaves h ?_ ((leaves_resAcc ..).append (hsat _))
  dsimp only at hp ⊢
  rw [leMoves_none _ h1 h2, bank_main hs, hp]
  exact congrArg Except.ok (List.append_nil _)

/-- With both moves in mode [p] a move word puts the two words in flight. -/
theorem leMv_words {bus2 : Nat} (hz : fldBits x.toNat 27 26 = 0) (hz' : fldBits x.toNat 24 16 = 0) (hb : bus2 = 2 ∨ fldBits x.toNat 15 15 = 0)
    (h1 : fldBits x.toNat 11 10 = 1) (h2 : fldBits x.toNat 3 2 = 1) {v1 v2 : Word}
    (hv1 : (loopEngine s le).load (fldBits x.toNat 15 15) (((loopEngine s le).main.p[fldBits x.toNat 14 12]?).getD 0) = .ok v1)
    (hv2 : (loopEngine s le).load bus2 (((loopEngine s le).main.p[fldBits x.toNat 6 4]?).getD 0) = .ok v2) :
    (.next (leMv le mop x s bus2) : Res) = .next (leTo s le
      (let reg (n : Nat) : Nat := if x.toNat.testBit 25 then (loopEngine s le).wPhys n else n
       { leLanded (loopEngine s le) with loads := [(reg (fldBits x.toNat 9 7), v1), (reg (fldBits x.toNat 1 0 + 12), v2)] })) := by
  have ⟨_, hs, _⟩ := h
  have hneed : (fldBits x.toNat 27 26 == 0 && fldBits x.toNat 24 16 == 0 && (bus2 == 2 || fldBits x.toNat 15 15 == 0)) = true := by simpa [hz, hz'] using hb
  refine leExec_leaves h ?_ ((leaves_load_landed ..).append (leaves_load ..))
  dsimp only
  rw [need_true hneed]
  exact leMoves_words hs h1 h2 hv1 hv2

end Multiply

/-- Settles O15: each row is its format with the effects of its result;
the sums, differences and shifts end as `leaves_res32` says, the products as `leaves_resAcc` does. -/
theorem loopAluAndMultiply : Obligations.LoopAluAndMultiply := by
  unfold Obligations.LoopAluAndMultiply
  refine ⟨fun s le x rd ra rb h => ?alu, fun s le x h => ?wide⟩
  case alu =>
    intro e w b S A B put res cmp imm n
    have ⟨_, hs, _⟩ := h
    have hlow (v : Word) : (bv 16 v.toNat).toInt = (v.setWidth 16).toInt := congrArg BitVec.toInt (BitVec.ofNat_toNat 16 v)
    refine ⟨fun ha => ⟨fun hz => ?cmpi, fun hz hz' hb => ?cmp⟩,
      fun hd => ⟨?ldi, fun hz => ?ldih, fun ha => ⟨?addi, fun hz => ?shifts, fun hz hb => ?g3⟩⟩⟩
    case cmpi =>
      refine leG_leaves h ?_ (leaves_cmp ..)
      rw [need_zero hz, reg_of_home hs ha]
      rfl
    case cmp =>
      refine leG_leaves h ?_ (leaves_cmp ..)
      rw [hz, hz', reg_of_home hs ha, reg_of_home hs hb]
      rfl
    case ldi =>
      refine leG_leaves h ?_ (leaves_reg ..)
      rw [hd]
      rfl
    case ldih =>
      refine leG_leaves h ?_ (leaves_reg ..)
      rw [need_zero hz, hd, bank_main hs]
      rfl
    case addi => exact leGI_leaves h nofun hd ha (leaves_res32 ..)
    case shifts =>
      have gi {op f b'} := leGI_leaves h (op := op) (shift := true) (f := f) (b := b') (fun _ => hz) hd ha
      exact ⟨gi (leaves_res32 ..), gi (leaves_reg ..), gi (leaves_reg ..)⟩
    case g3 =>
      have g3 {op f b'} := leG3_leaves h (op := op) (f := f) (b := b') hz hd ha hb
      refine ⟨g3 (leaves_reg ..), g3 (leaves_res32 ..), g3 (leaves_res32 ..), g3 (leaves_reg ..), g3 (leaves_reg ..), g3 (leaves_reg ..),
        g3 (leaves_res32 ..), g3 (leaves_res32 ..), (g3 (leaves_reg ..)).trans ?min, (g3 (leaves_reg ..)).trans ?max, (g3 (leaves_reg ..)).trans ?muli⟩
      case min => exact congrArg put (if_congr BitVec.slt_iff_toInt_lt rfl rfl)
      case max => exact congrArg put (if_congr BitVec.slt_iff_toInt_lt rfl rfl)
      case muli => exact congrArg put (congrArg (BitVec.ofInt 32) (congrArg₂ (· * ·) (hlow A) (hlow B)))
  case wide =>
    intro e w b reg
    have ⟨_, hs, _⟩ := h
    refine ⟨fun h1 h2 => ?products, fun hz hz' h1 h2 => ⟨fun v1 v2 hv1 hv2 => ?move, fun v1 v2 hb hv1 hv2 => ?dmove⟩⟩
    case products =>
      intro k S acc ra u v repl P res
      have hP : leProd ra (e.main.rd (reg (fldBits w 19 16))) (w.testBit 20) = (P, repl) := leProd_eq ..
      have product {mop} := leM_product h (mop := mop) h1 h2 hP
      exact ⟨product _, product _, product _, product _, product _, product _⟩
    case move => exact leMv_words h hz hz' (.inl rfl) h1 h2 hv1 hv2
    case dmove => exact leMv_words h hz hz' (.inr hb) h1 h2 (hb.symm ▸ hv1) hv2

end Sys2Proof.Proofs
end

section
/-! The accumulator instructions (R206, R210, R214, R215). -/

namespace Sys2Proof.Proofs

open Sys2Proof.Machine Sys2Proof.Laws Sys2Proof.Safety

/-- SATA's effects clamp the accumulator to 32 bits. -/
theorem leaves_clamp32 (k : Nat) (z : Int) (b : LeBank) :
    Leaves (if outOf32 z then [.acc k (if 0 < z then 2147483647 else -2147483648), .sat true false false] else [.acc k z]) b
      (if -2147483648 ≤ z ∧ z ≤ 2147483647 then { b with a := b.a.set k z }
        else { b with a := b.a.set k (if 0 < z then 2147483647 else -2147483648), sv := true }) := by
  by_cases hz : -2147483648 ≤ z ∧ z ≤ 2147483647
  · rw [outOf32_eq, if_pos hz, decide_eq_true hz]
    exact leaves_acc ..
  · rw [outOf32_eq, if_neg hz, decide_eq_false hz]
    exact (leaves_acc ..).append (leaves_sat_sv _)

/-- Settles O16: each row is the format GA with the effects of its result, which read the accumulators of the main bank. -/
theorem loopAccumulatorArithmetic : Obligations.LoopAccumulatorArithmetic := by
  unfold Obligations.LoopAccumulatorArithmetic
  intro s le x r h hz e w b S k acc late put res sh n m
  have ⟨_, hs, _⟩ := h
  have hbank : e.bank = e.main := bank_main hs
  have ga {op f l b'} := leGA_leaves h (op := op) (f := f) (l := l) (b := b') hz
  refine ⟨ga rfl (leaves_acc ..), ga (by rw [hbank]; rfl) (leaves_acc ..), ga (by rw [hbank]; rfl) (leaves_resAcc ..),
    fun hlo hhi => ?asha, fun hlo hhi => ?rnda, ?sata, fun hr => ?field⟩
  case asha =>
    refine ga ((if_neg (not_or.mpr ⟨not_lt.mpr hlo, not_lt.mpr hhi⟩)).trans ?_) (leaves_resAcc ..)
    rw [hbank]
    rfl
  case rnda =>
    refine ga ((if_neg (not_or.mpr ⟨Nat.ne_zero_of_lt hlo, not_lt.mpr hhi⟩)).trans ?_) (leaves_resAcc ..)
    rw [hbank]
    rfl
  case sata => exact (ga (by rw [hbank]; rfl) (leaves_clamp32 k (acc k) b)).trans (apply_ite (fun b' : LeBank => (.next (leTo s le b') : Res)) ..)
  case field =>
    intro A
    have hreg : e.reg (fldBits w 22 17) = .ok A := reg_of_home hs hr
    refine ⟨ga (congrArg (Except.map _) hreg) (leaves_acc ..), ga ?adda (leaves_resAcc ..), ga ?suba (leaves_resAcc ..),
      ga ?ashr (leaves_resAcc ..), ga ?ldg (leaves_acc ..), ga ?sta (leaves_res32 ..), ga ?stg (leaves_reg ..), ga ?cmpa (leaves_cmp ..)⟩
    case sta | stg =>
      rw [hr, hbank]
      rfl
    all_goals
      rw [hreg, hbank]
      rfl

end Sys2Proof.Proofs
end

section
/-! Memory accesses, address registers and the window base (R200-R204, R218), control instructions (R208, R216, R217, R219) and faults (R224, R225) of a loop engine. -/

namespace Sys2Proof.Proofs

open Sys2Proof.Machine Sys2Proof.Laws Sys2Proof.Safety

/-! ### Stores and address registers -/

/-- The memory with a word's lowest `k` bytes at an address holds them there and is otherwise as it was. -/
theorem mwrites_leBytes_spec (m : Mem) (a k v : Nat) :
    mreads (mwrites m a (leBytes k v)) a k = leBytes k v ∧ SameBut m (mwrites m a (leBytes k v)) a k :=
  ⟨mreads_mwrites_leBytes m a k v, by simpa using sameBut_mwrites m a (leBytes k v)⟩

section Store

variable {s : State} {le : Fin 8} (h : LeAt s le)
include h

/-- A store writes the memory of its bus and leaves the others. -/
theorem leG_store {op : Nat} {x : BitVec 25} {f : LoopEng → Nat → Except Nat (List LeEff)} {bus a : Nat} {v : Word}
    (hbus : bus < 4) (h3 : bus ≠ 3) (hf : f (loopEngine s le) x.toNat = .ok [.store bus a v]) :
    let e := loopEngine s le
    ∃ mx my mc, (.next (leG le op x s f) : Res) = .next (leTo s le (leLanded e) (fun d => { d with x := mx, y := my, c := mc })) ∧
      (if bus = 0 then mreads mx (4 * a) 4 = leBytes 4 v.toNat ∧ SameBut e.x mx (4 * a) 4 else mx = e.x) ∧
      (if bus = 1 then mreads my (4 * a) 4 = leBytes 4 v.toNat ∧ SameBut e.y my (4 * a) 4 else my = e.y) ∧
      (if bus = 2 then mreads mc (2 * a) 2 = leBytes 2 v.toNat ∧ SameBut e.c mc (2 * a) 2 else mc = e.c) := by
  intro e
  have store (mx my mc : Mem) (hl : ∀ pc cycles, leApply { e with main := leLanded e, pc := pc, cycles := cycles } (.store bus a v) =
      { e with main := leLanded e, pc := pc, cycles := cycles, x := mx, y := my, c := mc }) :
      (.next (leG le op x s f) : Res) = .next (leTo s le (leLanded e) (fun d => { d with x := mx, y := my, c := mc })) := by
    refine congrArg Host.Outcome.next ((leExec_at h _ _).trans ?_)
    rw [hf]
    exact setLe_leRun h _ _ _ (fun _ _ => rfl) (hl _ _)
  have hcase : bus = 0 ∨ bus = 1 ∨ bus = 2 := by omega
  obtain rfl | rfl | rfl := hcase
  · exact ⟨_, e.y, e.c, store _ _ _ (fun _ _ => rfl), mwrites_leBytes_spec .., rfl, rfl⟩
  · exact ⟨e.x, _, e.c, store _ _ _ (fun _ _ => rfl), rfl, mwrites_leBytes_spec .., rfl⟩
  · exact ⟨e.x, e.y, _, store _ _ _ (fun _ _ => rfl), rfl, rfl, mwrites_leBytes_spec ..⟩

end Store

/-- A memory instruction whose reserved bits are 0 may name bus X, Y or C. -/
theorem need_bus {c : Bool} {bus : Nat} (hc : c = true) (h3 : bus ≠ 3) : need (c && bus != 3) = .ok () :=
  need_true ((Bool.and_eq_true ..).mpr ⟨hc, bne_iff_ne.mpr h3⟩)

/-- In mode [p] the address is the address register's, which stays. -/
theorem memOp_plain {e : LoopEng} (hs : e.shd = false) (n : Nat) (disp : Int) : memOp e n 0 disp = .ok ((e.main.p[n]?).getD 0, []) := by
  rw [memOp, bank_main hs]

theorem load_fault {e : LoopEng} {bus a : Nat} (h : e.addrOk bus a = false) : e.load bus a = .error 0x05 := if_pos (by rw [h]; rfl)

/-- Linear modification by a positive step adds it modulo 2^14. -/
theorem postMod_linear {b : LeBank} {n : Nat} (hk : fldBits ((b.m[n]?).getD 0).toNat 31 30 = 0) (hm : ((b.m[n]?).getD 0).toNat < 32768) :
    postMod b n false = .ok (.ptr n (((b.p[n]?).getD 0 + ((b.m[n]?).getD 0).toNat) % 16384)) := by
  have hstep : sfld ((b.m[n]?).getD 0).toNat 15 0 = (((b.m[n]?).getD 0).toNat : Nat) := by
    generalize ((b.m[n]?).getD 0).toNat = m at hm
    unfold sfld fldBits
    rw [BitVec.toInt_eq_toNat_cond, BitVec.toNat_ofNat]
    omega
  unfold postMod
  dsimp only
  rw [hk, hstep]
  refine congrArg (fun q => Except.ok (LeEff.ptr n q)) ?_
  simp only [Bool.false_eq_true, if_false]
  omega

/-! ### Control instructions -/

theorem setLe_congr {s : State} {le : Nat} {f g : LoopEng → LoopEng} (h : f (loopEngine s le) = g (loopEngine s le)) :
    setLe s le f = setLe s le g := by
  unfold loopEngine at h
  rw [setLe, tmod, h]
  rfl

/-- REP opens a body of `len` instructions from the next one on. -/
theorem leApply_rep {d : LoopEng} {n len first last : Nat} {rot : Bool} (hn : n ≠ 0) (hfirst : d.pc = first) (hlast : first + len - 1 = last) :
    leApply d (.rep n len rot) = { d with rep := some ⟨n, first, last, rot⟩ } := by
  subst hfirst hlast
  exact if_neg hn

/-- An instruction that opens a REP body goes on to its first instruction. -/
theorem leNext_rep {e : LoopEng} {r : RepSt} (hr : e.rep = some r) {pc : Nat} (hpc : pc ≠ r.last) : leNext e pc none = e := by
  unfold leNext
  dsimp only
  rw [hr]
  exact if_neg hpc

/-- In a handler an instruction has the effects that a handler may have. -/
theorem leExec_handler {s : State} {le : Fin 8} (hs : (loopEngine s le).shd = true) {word : Nat} {control : Bool}
    {f : LoopEng → Except Nat (List LeEff)} {l : List LeEff} (hf : f (loopEngine s le) = .ok l) :
    leExec le word control s f = setLe s le (fun _ => leFlow (loopEngine s le) (l.filter LeEff.inHandler)) := by
  dsimp only [leExec]
  rw [hs, hf]
  simp

/-- With nothing in flight RTI selects the main bank and changes nothing else. -/
theorem leFlow_rti {e : LoopEng} (hs : e.shd = true) (hl : e.shadow.loads = []) (hm : e.shadow.movp = none) :
    leFlow e [.rti] = { e with shd := false } := by
  have hb : e.bank = e.shadow := if_pos hs
  have hset : e.setBank { e.shadow with loads := [], movp := none } = e := by
    rw [← hl, ← hm]
    exact if_pos hs
  unfold leFlow
  dsimp only
  rw [hb, hl, List.foldl_nil, hset]
  exact if_pos (by rw [hs]; exact Bool.false_ne_true)

/-- Law code with its pc outside the image is stopped with fault 0x0B. -/
theorem leExec_range {s : State} {le : Fin 8} (hlaw : (loopEngine s le).inLaw = true) (hs : (loopEngine s le).shd = false)
    (hpc : (loopEngine s le).ctx.lo + (loopEngine s le).ctx.words ≤ (loopEngine s le).pc) (word : Nat) (control : Bool)
    (f : LoopEng → Except Nat (List LeEff)) : leExec le word control s f = lawFault s le 0x0B (loopEngine s le).pc word := by
  dsimp only [leExec]
  rw [if_neg (by simp [hlaw]), if_pos (by simp [hs, hpc])]

/-- The opcodes that no instruction has (R215). -/
theorem contains_reserved (op : Nat) :
    (([0x26, 0x27, 0x2B, 0x2C, 0x2D, 0x2E, 0x2F] : List Nat)).contains op = decide (op = 0x26 ∨ op = 0x27 ∨ (0x2B ≤ op ∧ op ≤ 0x2F)) := by
  rw [Bool.eq_iff_iff, List.contains_iff_mem, decide_eq_true_eq]
  simp only [List.mem_cons, List.not_mem_nil, or_false]
  omega

/-- A reserved opcode or a frame opcode stops law code with its fault, or with 0x0B outside the image. -/
theorem exec_leIllegalOpcode {s : State} {le : Fin 8} {word : Word} (hlaw : (loopEngine s le).inLaw = true) (hs : (loopEngine s le).shd = false) {res : Bool}
    (hres : decide (word.toNat / 2 ^ 25 = 0x26 ∨ word.toNat / 2 ^ 25 = 0x27 ∨ (0x2B ≤ word.toNat / 2 ^ 25 ∧ word.toNat / 2 ^ 25 ≤ 0x2F)) = res)
    (h : res = true ∨ (0x34 ≤ word.toNat / 2 ^ 25 ∧ word.toNat / 2 ^ 25 ≤ 0x3F)) :
    let e := loopEngine s le
    exec (.leIllegalOpcode le word) s =
      .next (lawFault s le (if e.pc < e.ctx.lo ∨ e.ctx.lo + e.ctx.words ≤ e.pc then 0x0B else if res then 1 else 2) e.pc word.toNat) := by
  intro e
  have hout : (decide (e.pc < e.ctx.lo) || decide (e.ctx.lo + e.ctx.words ≤ e.pc)) = decide (e.pc < e.ctx.lo ∨ e.ctx.lo + e.ctx.words ≤ e.pc) :=
    (Bool.decide_or ..).symm
  have hmay : (!e.inLaw || e.shd || !(res || decide (0x34 ≤ word.toNat / 2 ^ 25 ∧ word.toNat / 2 ^ 25 ≤ 0x3F))) = false := by
    rw [hlaw, hs, (Bool.or_eq_true ..).mpr (h.imp_right decide_eq_true)]
    rfl
  show execLeIllegalOpcode le word s = _
  unfold execLeIllegalOpcode
  dsimp only
  rw [contains_reserved, hres, hmay, hout]
  simp only [decide_eq_true_eq, Bool.false_eq_true, if_false]
  rfl

section Control

variable {s : State} {le : Fin 8} (h : LeAt s le) (hr : (loopEngine s le).rep = none)
include h hr

/-- Outside a REP body a control instruction leaves the registers with the landed loads and changes the engine by `g`. -/
theorem leExec_goes {word : Nat} {f : LoopEng → Except Nat (List LeEff)} {l : List LeEff} {g : LoopEng → LoopEng}
    (hf : f (loopEngine s le) = .ok l) (hg : ∀ d m, g { d with main := m } = { g d with main := m, shd := d.shd })
    (hl : ∀ d : LoopEng, d.pc = (loopEngine s le).pc + 1 → d.link = (loopEngine s le).link → l.foldl leApply d = g d) :
    (.next (leExec le word true s f) : Res) = .next (leTo s le (leLanded (loopEngine s le)) g) := by
  rw [leExec_control h hr, hf]
  exact congrArg Host.Outcome.next (setLe_leRun h l _ g hg (hl _ rfl rfl))

end Control

/-- Settles O17: an access, step or move is its format with its effects, a control instruction outside a REP body the change of the engine that `leExec_goes` names;
a fault is the branch of the instruction's checks that the hypotheses choose. -/
theorem loopMemoryAndFlow : Obligations.LoopMemoryAndFlow := by
  unfold Obligations.LoopMemoryAndFlow
  refine ⟨fun s le x r h => ?memory, fun s le x => ?flow⟩
  case memory =>
    intro e w b bus stored
    have ⟨_, hs, _⟩ := h
    have hbus : bus < 4 := Nat.mod_lt _ (by decide)
    refine ⟨fun hz => ?nop, fun hz => ?wrot, fun hz hup hlin hm => ?stepp, fun hd hz => ⟨fun hto hsel => ?toSt, fun hfrom hsel hmv => ?fromPtr⟩,
      fun hd h3 => ⟨fun hz => ⟨fun v hv => ?ldd, fun ha => ?std, fun ha => ⟨?lddFault, ?stdFault⟩⟩,
        fun hz hmode => ⟨fun v hv => ?ld, fun ha => ?st⟩⟩⟩
    case nop =>
      refine leG_leaves h ?_ (leaves_nil _)
      rw [need_zero hz]
      rfl
    case wrot =>
      refine leG_leaves h ?_ (leaves_wbase ..)
      rw [need_zero hz]
      rfl
    case stepp =>
      refine leG_leaves h ?_ (leaves_ptr ..)
      rw [need_zero hz, hup, bank_main hs, postMod_linear hlin hm]
      rfl
    case toSt =>
      refine leG_leaves h ?_ (leaves_nil _)
      rw [need_zero hz, hto, hsel, reg_of_home hs hd]
      rfl
    case fromPtr =>
      refine leG_leaves h ?_ (leaves_reg ..)
      rw [need_zero hz, hfrom, hsel, hd, bank_main hs]
      dsimp only
      rw [hmv]
      rfl
    case ldd =>
      refine leG_leaves h ?_ (leaves_load_landed ..)
      rw [need_bus (beq_iff_eq.mpr hz) h3, hd, hv]
      rfl
    case std =>
      refine leG_store h hbus h3 ?_
      rw [need_bus (beq_iff_eq.mpr hz) h3, reg_of_home hs hd]
      exact if_pos ha
    case lddFault =>
      refine leG_fault h ?_
      rw [need_bus (beq_iff_eq.mpr hz) h3, hd, load_fault ha]
      rfl
    case stdFault =>
      refine leG_fault h ?_
      rw [need_bus (beq_iff_eq.mpr hz) h3, reg_of_home hs hd]
      exact if_neg (ne_true_of_eq_false ha)
    case ld =>
      refine leG_leaves h ?_ (leaves_load_landed ..)
      rw [need_bus (congrArg Bool.not hz) h3, hd, hmode, memOp_plain hs]
      exact congrArg (fun u : Except Nat Word => u >>= fun v => Except.ok [LeEff.load r v]) hv
    case st =>
      refine leG_store h hbus h3 ?_
      rw [need_bus (congrArg Bool.not hz) h3, reg_of_home hs hd, hmode, memOp_plain hs]
      exact if_pos ha
  case flow =>
    intro e w b goes fault
    refine ⟨fun h hr => ⟨fun c hz hc => ?br, fun hz hlen => ?call, fun a l hz hlink => ?ret, fun hz himm => ?rep, fun r hz hreg hz' hd hn => ?skip, ?rtiLaw⟩,
      fun hshd hloads hmovp => ?rti, fun i hshd hslot hrun => ?fast, fun hlaw hc => ?budget, fun word hlaw hshd => ?opcode, fun hlaw hshd hpc => ?range⟩
    case br =>
      have ⟨_, hs, _⟩ := h
      refine leExec_goes h hr (l := [.go (if c then some (fldBits w 12 0) else none)]) ?_ (fun _ _ => rfl) (fun _ _ _ => rfl)
      dsimp only
      rw [need_zero hz, bank_main hs, hc]
      rfl
    case call =>
      refine leExec_goes h hr (l := [.push (e.pc + 2), .go (some (fldBits w 12 0))]) ?_ (fun _ _ => rfl) (fun d _ hlink => by rw [← hlink]; rfl)
      dsimp only
      rw [need_zero hz]
      exact if_neg (not_le.mpr hlen)
    case ret =>
      refine leExec_goes h hr (l := [.pop, .go (some a)]) ?_ (fun _ _ => rfl) (fun d _ hd => ?_)
      · dsimp only
        rw [need_zero hz, hlink]
        rfl
      · rw [show l = d.link.drop 1 by rw [hd, hlink]; rfl]
        rfl
    case rep =>
      refine (leExec_goes h hr (l := [.rep (fldBits w 22 13 + 1) (fldBits w 12 7 + 1) (w.testBit 6)])
        (g := fun d => { d with rep := some ⟨fldBits w 22 13 + 1, e.pc + 1, e.pc + fldBits w 12 7 + 1, w.testBit 6⟩ }) ?_
        (fun _ _ => rfl) (fun d hpc _ => ?_)).trans (congrArg Host.Outcome.next (setLe_congr (leNext_rep rfl ?_)))
      · dsimp only
        rw [hz, himm]
        rfl
      · exact leApply_rep (Nat.succ_ne_zero _) hpc (Nat.add_right_comm ..)
      · exact (Nat.lt_succ_of_le (Nat.le_add_right ..)).ne
    case skip =>
      have ⟨_, hs, _⟩ := h
      refine leExec_goes h hr (l := [.rep 0 (fldBits w 12 7 + 1) (w.testBit 6)]) ?_ (fun _ _ => rfl) (fun d _ _ => rfl)
      dsimp only
      rw [hz, hreg, hz', reg_of_home hs hd]
      exact congrArg (fun n => Except.ok [LeEff.rep n (fldBits w 12 7 + 1) (w.testBit 6)]) hn
    case rtiLaw =>
      have ⟨_, hs, _⟩ := h
      refine congrArg Host.Outcome.next ((leExec_control h hr _ _).trans ?_)
      dsimp only
      rw [hs]
      rfl
    case rti =>
      exact congrArg Host.Outcome.next ((leExec_handler hshd (l := [.rti]) (if_pos hshd)).trans (setLe_congr (leFlow_rti hshd hloads hmovp)))
    case fast => exact if_neg (by rw [hshd, hslot, Option.isNone_eq_false_iff.mpr (Option.isSome_iff_ne_none.mpr hrun)]; decide)
    case budget => exact if_neg (by rw [hlaw, decide_eq_false (not_lt.mpr hc)]; decide)
    case opcode =>
      intro op out
      exact ⟨fun hres => exec_leIllegalOpcode hlaw hshd (res := true) (decide_eq_true hres) (.inl rfl),
        fun hlo hhi => exec_leIllegalOpcode hlaw hshd (res := false) (decide_eq_false (by omega)) (.inr ⟨hlo, hhi⟩)⟩
    case range =>
      exact congrArg Host.Outcome.next ((leExec_range hlaw hshd hpc (0x00 * 2 ^ 25 + w) ..).trans (by rw [Nat.zero_mul, Nat.zero_add]))

end Sys2Proof.Proofs
end

section
/-! The tile's axes (R235-R251): what a change of one axis lets a read of it see, and the limit inputs' instructions (R244-R246, R251). -/

namespace Sys2Proof.Proofs

open Sys2Proof.Machine Sys2Proof.Laws

/-! ### An axis after a change -/

theorem axis_of_motion {s t : State} (h : t.motion = s.motion) (x : Nat) : axis t x = axis s x := by
  unfold axis
  rw [h]

@[simp] theorem axis_setAxis_same (s : State) (x : Nat) (f : AxSt → AxSt) : axis (setAxis s x f) x = f (axis s x) := tget_tmod_same ..

@[simp] theorem axis_axFacets (s : State) (x y : Nat) : axis (axFacets s x) y = axis s y := axis_of_motion (axFacets_motion s x) y

@[simp] theorem axis_putField (s : State) (p : Nat) (v : Word) (c : BitVec 16) (x : Nat) : axis (putField s p v c) x = axis s x := rfl

@[simp] theorem axis_note (s : State) (e : Ev) (i u o : Nat) (l : List Nat) (x : Nat) : axis (note s e i u o l) x = axis s x :=
  axis_of_motion (note_motion ..) x

/-- The figures that a change of an axis refreshes are not of the axis. -/
@[simp] theorem axis_modAxis_same (s : State) (x : Nat) (f : AxSt → AxSt) : axis (modAxis s x f) x = f (axis s x) :=
  (axis_axFacets ..).trans (axis_setAxis_same ..)

@[simp] theorem setAxis_out (s : State) (x : Nat) (f : AxSt → AxSt) : (setAxis s x f).motion.out = s.motion.out := rfl

@[simp] theorem modAxis_out (s : State) (x : Nat) (f : AxSt → AxSt) : (modAxis s x f).motion.out = s.motion.out := by simp [modAxis]

@[simp] theorem setLim_param (s : State) (x k : Nat) (f : LimSt → LimSt) (pk pi : Nat) : param (setLim s x k f) pk pi = param s pk pi :=
  modAxis_param ..

/-- Each of the three inputs reads its own change. -/
theorem limOf_setLim_same (s : State) (x k : Nat) (f : LimSt → LimSt) : limOf (axis (setLim s x k f) x) k = f (limOf (axis s x) k) := by
  unfold setLim
  rw [axis_modAxis_same]
  unfold limOf
  split
  · rfl
  · split <;> rfl

/-! ### Limit inputs (R244-R246) -/

section Limits

variable {s : State} {ax : Fin 32} {lim : Fin 2}

/-- A limit that its input has newly reached latches; toward it, and on the axis's own tile, the axis stops as well. -/
theorem exec_limitLatch_new (ha : (limOf (axis s ax.val) lim.val).active = true) (hl : (limOf (axis s ax.val) lim.val).latched = false) :
    let x := ax.val
    let d := axis s x
    let sg : Rat := if lim.val = 0 then -1 else 1
    let toward := decide (0 < sg * (d.at_ s.t0).2.1) || d.buf.any (fun g => decide (0 < sg * ratOf g.v0.toNat))
    let here := decide (param s (if lim.val = 0 then pAxisLimNegCh else pAxisLimPosCh) x / 128 = x / 8)
    let s1 := note (setLim s x lim.val (fun l => { l with latched := true, away := false })) Ev.axisLimit (0x60 + x / 8) x 0
      [lim.val, (w32 (nearOf (d.at_ s.t0).1 + d.offset)).toNat, f32OfRat (d.at_ s.t0).2.1]
    exec (.limitLatch ax lim) s = .next (if toward && here then paramStop s1 x (decide (param s pAxisLimStop x = 0)) 0 else s1) := by
  change execLimitLatch ax lim s = _
  unfold execLimitLatch
  dsimp only
  rw [if_neg (by simp [ha, hl])]
  simp only [note_param, setLim_param]
  rfl

theorem exec_limitLatch_idle (h : (limOf (axis s ax.val) lim.val).active = false ∨ (limOf (axis s ax.val) lim.val).latched = true) :
    exec (.limitLatch ax lim) s = .next s :=
  if_pos (h.imp_left (by simp [·]))

theorem exec_limitLatchClear_left (hl : (limOf (axis s ax.val) lim.val).latched = true) (hw : (limOf (axis s ax.val) lim.val).away = true)
    (ha : (limOf (axis s ax.val) lim.val).active = false)
    (ht : (limOf (axis s ax.val) lim.val).since + param s pAxisLimDebounce ax.val * 1000 ≤ s.t0) :
    exec (.limitLatchClear ax lim) s = .next (setLim s ax.val lim.val (fun l => { l with latched := false, away := false })) :=
  if_pos (by simp [hl, hw, ha, ht, us])

theorem exec_limitLatchClear_kept (h : (limOf (axis s ax.val) lim.val).away = false ∨ (limOf (axis s ax.val) lim.val).active = true ∨
    s.t0 < (limOf (axis s ax.val) lim.val).since + param s pAxisLimDebounce ax.val * 1000) : exec (.limitLatchClear ax lim) s = .next s := by
  refine if_neg ?_
  rcases h with hw | ha | ht
  · simp [hw]
  · simp [ha]
  · simp [us, Nat.not_le.mpr ht]

theorem exec_limitChatterClear_quiet (hc : (limOf (axis s ax.val) lim.val).chatter = true)
    (ht : (limOf (axis s ax.val) lim.val).since + 1000000000 ≤ s.t0) :
    exec (.limitChatterClear ax lim) s = .next (note (setLim s ax.val lim.val (fun l => { l with chatter := false, trans := [] }))
      Ev.limitChatter (0x60 + ax.val / 8) ax.val 0 [lim.val, 0]) :=
  if_pos (by simp [hc, ht, sec])

/-- A disabled axis that still moves at its deadline is stopped HARD, its driver to go off (R251). -/
theorem exec_axisDisableDeadline_late {a : Nat} (hd : (prof s (profOf ax.val)).disableAt = some a) (hr : (axis s ax.val).atRest = false)
    (ht : a + param s pAxisDisableDeadline ax.val * 1000000 ≤ s.t0) :
    exec (.axisDisableDeadline ax) s = .next (note (paramStop s ax.val true 1) Ev.axisDisableOverrun (0x60 + ax.val / 8) ax.val 0 [(s.t0 - a) / 1000]) := by
  change execAxisDisableDeadline ax s = _
  unfold execAxisDisableDeadline
  dsimp only
  rw [hd]
  exact if_neg (by simp [hr, Nat.not_lt.mpr ht, ms])

end Limits

/-- Settles O19: each instruction's branch above; the stop of a new latch follows from the two conditions together. -/
theorem limitsLatchAndDisableDeadline : Obligations.LimitsLatchAndDisableDeadline := by
  unfold Obligations.LimitsLatchAndDisableDeadline
  intro s ax x d
  refine ⟨fun lim => ⟨fun ha hl => ⟨fun hoff => ?latched, fun hon => ?stopped⟩, exec_limitLatch_idle, fun hl hw ha ht => ?cleared,
    exec_limitLatchClear_kept, exec_limitChatterClear_quiet⟩, fun a => exec_axisDisableDeadline_late⟩
  case latched =>
    refine ⟨(exec_limitLatch_new ha hl).trans (congrArg Host.Outcome.next (if_neg (ne_true_of_eq_false hoff))), ?_⟩
    rw [axis_note, limOf_setLim_same]
  case stopped => exact (exec_limitLatch_new ha hl).trans (congrArg Host.Outcome.next (if_pos hon))
  case cleared =>
    refine ⟨_, exec_limitLatchClear_left hl hw ha ht, ?_⟩
    rw [limOf_setLim_same]

end Sys2Proof.Proofs
end

section
/-! Motion ticks, homing deadlines, batches, segments, microsteps and completed stops (R227, R235-R237, R247, R250). -/

namespace Sys2Proof.Proofs

open Sys2Proof.Machine Sys2Proof.Laws

/-! ### The motion engine (R227, R250) -/

theorem exec_homeTimeout_homing {s : State} {ax : Fin 32} {h : HomeSt} (hh : (prof s (profOf ax.val)).home = some h) :
    exec (.homeTimeout ax) s = if s.t0 < h.started + param s pAxisHomeTimeout ax.val * 1000000000 then .next s
      else .next (setProf (homeEnd s (profOf ax.val) 4) (profOf ax.val) (fun d => { d with stopReq := some 0, st := 8 })) := by
  change execHomeTimeout ax s = _
  unfold execHomeTimeout
  dsimp only
  rw [hh]
  rfl

/-! ### Batches (R235, R237, R247) -/

/-- The current for motion to come is all that raising it changes (R265). -/
theorem raiseCurrent_frame (s : State) (x : Nat) : (raiseCurrent s x).motion.out = s.motion.out ∧
    ∃ n r c, axis (raiseCurrent s x) x = { axis s x with drv := n, ramp := r, cur_ := c } := by
  unfold raiseCurrent
  dsimp only
  split
  · exact ⟨modAxis_out .., _, _, _, axis_modAxis_same ..⟩
  · exact ⟨rfl, _, _, _, rfl⟩

/-- The same where the current is raised only for some batches. -/
theorem raiseIf_frame (s : State) (x : Nat) (c : Bool) : (if c then raiseCurrent s x else s).motion.out = s.motion.out ∧
    ∃ n r i, axis (if c then raiseCurrent s x else s) x = { axis s x with drv := n, ramp := r, cur_ := i } := by
  cases c
  · exact ⟨rfl, _, _, _, rfl⟩
  · exact raiseCurrent_frame s x

section TakeBatch

variable {s : State} {b : Batch} (hb : b.segs ≠ []) (hd : (axis s b.axis).drv ≠ 5)
include hb hd

/-- With RESYNC the batch is the buffer, and the axis waits for its first segment with no stop and no lock. -/
theorem takeBatch_resync (hr : b.resync = true) : (takeBatch s b).motion.out = s.motion.out ∧
    (axis (takeBatch s b) b.axis).stopA = b.stopA ∧ (axis (takeBatch s b) b.axis).stopJ = b.stopJ ∧
    (axis (takeBatch s b) b.axis).buf = b.segs ∧ (axis (takeBatch s b) b.axis).locked = false ∧
    (axis (takeBatch s b) b.axis).stop = none ∧ (axis (takeBatch s b) b.axis).cur = none := by
  unfold takeBatch
  simp only [axis_setAxis_same, List.isEmpty_iff, hb, hd, hr, if_true, if_false]
  obtain ⟨hout, n, r, i, hax⟩ := raiseIf_frame _ b.axis _
  rw [hax, hout]
  simp

/-- Without RESYNC a locked axis drops the segments and an unlocked one takes them after those it holds. -/
theorem takeBatch_append (hr : b.resync = false) : (takeBatch s b).motion.out = s.motion.out ∧
    (axis (takeBatch s b) b.axis).stopA = b.stopA ∧ (axis (takeBatch s b) b.axis).stopJ = b.stopJ ∧
    (axis (takeBatch s b) b.axis).locked = (axis s b.axis).locked ∧
    (axis (takeBatch s b) b.axis).buf = if (axis s b.axis).locked then (axis s b.axis).buf else (axis s b.axis).buf ++ b.segs := by
  unfold takeBatch
  simp only [axis_setAxis_same, List.isEmpty_iff, hb, hd, hr, if_false, Bool.false_eq_true]
  split
  case isTrue hl => simp [hl]
  case isFalse hl =>
    obtain ⟨hout, n, r, i, hax⟩ := raiseIf_frame _ b.axis _
    rw [hax, hout]
    simp [hl]

end TakeBatch

/-- A batch without segments orders the stop that it describes. -/
theorem takeBatch_stop {s : State} {b : Batch} (hb : b.segs = []) : takeBatch s b =
    tileStop (setAxis s b.axis (fun d => { d with stopA := b.stopA, stopJ := b.stopJ, stopHard := false, after := b.after }))
      b.axis b.hard b.after (ratOf b.stopA.toNat) (ratOf b.stopJ.toNat) := by
  unfold takeBatch
  simp [hb]

/-- The state in which batch `e` is no longer on its way to a tile. -/
def dequeued (s : State) (e : Nat × Batch) : State := { s with motion := { s.motion with out := s.motion.out.erase e } }

@[simp] theorem axis_dequeued (s : State) (e : Nat × Batch) (x : Nat) : axis (dequeued s e) x = axis s x := rfl

theorem exec_segmentBatchReceive {s : State} {tile : Fin 4} {b : Batch} (he : s.motion.out.find? (fun e => e.1 == tile.val) = some (tile.val, b)) :
    exec (.segmentBatchReceive tile) s = .next (takeBatch (dequeued s (tile.val, b)) b) := by
  change execSegmentBatchReceive tile s = _
  unfold execSegmentBatchReceive
  rw [he]
  rfl

/-! ### Segments (R237) -/

section SegmentStart

variable {s : State} {ax : Fin 32} (hl : (axis s ax.val).locked = false) (hs : (axis s ax.val).stop = none) (ht : (axis s ax.val).endT ≤ s.t0)
include hl hs ht

/-- At a boundary the first segment of the buffer starts; it does not bring to rest an axis that moves. -/
theorem exec_segmentStart_next {g : Seg} {r : List Seg} (hb : (axis s ax.val).buf = g :: r) (hg : g.start = (axis s ax.val).endT)
    (hq : g.seq = ((axis s ax.val).lastSeq + 1) % 65536) (hr : g.rest = false ∨ (axis s ax.val).atRest = true) :
    exec (.segmentStart ax) s = .next (modAxis s ax.val
      (fun d => { d with buf := r, cur := some g, endT := g.start + 100000, lastSeq := g.seq, atRest := g.rest })) := by
  refine (if_neg (by simp [hl, hs, ht])).trans ?_
  rw [hb]
  refine (if_neg (by simp [hg, hq])).trans (congrArg Host.Outcome.next (if_neg ?_))
  rcases hr with hr | hr <;> simp [hr]

theorem exec_segmentStart_discont {g : Seg} {r : List Seg} (hb : (axis s ax.val).buf = g :: r)
    (h : g.start ≠ (axis s ax.val).endT ∨ g.seq ≠ ((axis s ax.val).lastSeq + 1) % 65536) :
    exec (.segmentStart ax) s =
      .next (note (tailStop s ax.val) Ev.segDiscont (0x60 + ax.val / 8) ax.val 0 [g.seq, (axis s ax.val).lastSeq]) := by
  refine (if_neg (by simp [hl, hs, ht])).trans ?_
  rw [hb]
  exact if_pos h

theorem exec_segmentStart_underrun (hb : (axis s ax.val).buf = []) :
    exec (.segmentStart ax) s = .next (tailStop (setAxis s ax.val (fun d => { d with underrun := true })) ax.val) := by
  refine (if_neg (by simp [hl, hs, ht])).trans ?_
  rw [hb]

end SegmentStart

/-! ### Microsteps and completed stops (R235, R236) -/

/-- The means of the samples leave the microstep index. -/
theorem pos_meanTick (s : State) (x : Nat) : (axis (execMicrostepUpdate.meanTick s x) x).pos = (axis s x).pos := by
  unfold execMicrostepUpdate.meanTick
  simp

theorem exec_microstepUpdate_index {s : State} (ax : Fin 32) (h : s.t0 % 200 = 0) : ∃ t, exec (.microstepUpdate ax) s = .next t ∧
    (axis t ax.val).pos = if (axis s ax.val).drv = 5 then (axis s ax.val).pos else nearOf ((axis s ax.val).at_ s.t0).1 := by
  change ∃ t, execMicrostepUpdate ax s = .next t ∧ _
  unfold execMicrostepUpdate
  dsimp only
  rw [if_neg (not_not.mpr h)]
  refine ⟨_, rfl, ?_⟩
  simp only [axis_axFacets, apply_ite (fun t => (axis t ax.val).pos), pos_meanTick, axis_setAxis_same, ite_self]

theorem exec_stopComplete_stopping {s : State} {ax : Fin 32} {q : StopRun} (hq : (axis s ax.val).stop = some q) :
    exec (.stopComplete ax) s = if ((s.t0 - q.start : Nat) : Rat) / 1000000000 < phasesLen q.phases then .next s
      else .next (axisRest (setAxis s ax.val (fun d => { d with
        stop := none
        pos := nearOf (runPhases q.phases (phasesLen q.phases) q.p q.v q.a).1 })) ax.val q.after) := by
  change execStopComplete ax s = _
  unfold execStopComplete
  dsimp only
  rw [hq]

/-- Settles O18: the tick is the branch of an engine that is due; each instruction of a tile is its branch above. -/
theorem motionTicksAndTileAxes : Obligations.MotionTicksAndTileAxes := by
  unfold Obligations.MotionTicksAndTileAxes
  refine ⟨fun s => ⟨fun me ht hr hin hnew => ?tick, fun ax h hh => ⟨fun ht => (exec_homeTimeout_homing hh).trans (if_neg (Nat.not_lt.mpr ht)),
      fun ht => (exec_homeTimeout_homing hh).trans (if_pos ht)⟩⟩,
    fun s => ⟨fun tile b he => ?batch, fun ax => ?axis⟩⟩
  case tick =>
    change execMotionTick me s = _
    unfold execMotionTick
    dsimp only
    rw [if_neg (by simp [tickNs, ht, hr, hin, hnew])]
  case batch =>
    have hexec := exec_segmentBatchReceive he
    refine ⟨fun hb hd => ⟨_, hexec, ?_⟩, fun hb => hexec.trans (congrArg Host.Outcome.next (takeBatch_stop hb))⟩
    rw [← axis_dequeued s (tile.val, b)] at hd
    cases hr : b.resync
    case true =>
      obtain ⟨hout, hA, hJ, hrest⟩ := takeBatch_resync hb hd hr
      exact ⟨hout, hA, hJ, fun _ => hrest, nofun⟩
    case false =>
      obtain ⟨hout, hA, hJ, hrest⟩ := takeBatch_append hb hd hr
      rw [axis_dequeued] at hrest
      exact ⟨hout, hA, hJ, nofun, fun _ => hrest⟩
  case axis =>
    intro x d
    refine ⟨fun hl hs ht => ⟨fun g r hb hg hq hr => ⟨_, exec_segmentStart_next hl hs ht hb hg hq hr, ?_⟩,
        fun g r hb => exec_segmentStart_discont hl hs ht hb, exec_segmentStart_underrun hl hs ht⟩,
      exec_microstepUpdate_index ax, fun h => if_pos h, fun q hq => ⟨fun ht => (exec_stopComplete_stopping hq).trans (if_neg (not_lt.mpr ht)),
        fun ht => (exec_stopComplete_stopping hq).trans (if_pos ht)⟩⟩
    rw [axis_modAxis_same]
    exact ⟨rfl, rfl, rfl, rfl⟩

end Sys2Proof.Proofs
end

section
/-! The choppers of the tile's axes (R255-R268): what a change of a phase lets a read of it see, the cycle of a phase, hysteresis, and the axis's faults and currents. -/

namespace Sys2Proof.Proofs

open Sys2Proof.Machine Sys2Proof.Laws

/-! ### A phase after a change -/

@[simp] theorem phaseOf_setPhase_same (s : State) (x : Nat) (b : Fin 2) (f : PhaseSt → PhaseSt) :
    phaseOf (setPhase s x b f) x b = f (phaseOf s x b) := by
  unfold phaseOf setPhase
  rw [axis_setAxis_same]
  split <;> rfl

@[simp] theorem phaseOf_sense_same (s : State) (x : Nat) (b : Fin 2) (i : Int) : phaseOf (sense s x b i) x b =
    { phaseOf s x b with sensed := i, sum := (phaseOf s x b).sum + i, cnt := (phaseOf s x b).cnt + 1 } :=
  phaseOf_setPhase_same ..

@[simp] theorem phaseOf_note (s : State) (e : Ev) (i u o : Nat) (l : List Nat) (x : Nat) (b : Fin 2) :
    phaseOf (note s e i u o l) x b = phaseOf s x b := by
  unfold phaseOf
  rw [axis_note]

/-- The axis's I_LOW flag is beside the phases (R263). -/
theorem phaseOf_iLow_flag (s : State) (x : Nat) (b : Fin 2) (c : Prop) [Decidable c] (n : Nat → Nat) (l : Option Nat) :
    phaseOf (if c then modAxis s x (fun d => { d with flags := n d.flags, lowSince := l }) else s) x b = phaseOf s x b := by
  split
  · unfold phaseOf
    rw [axis_modAxis_same]
  · rfl

/-- A phase is marked low, or not, after eight like cycles (R263). -/
theorem phaseOf_low_mark (s : State) (x : Nat) (b : Fin 2) (c : Prop) [Decidable c] (v : Bool) :
    phaseOf (if c then setPhase s x b (fun p => { p with low := v }) else s) x b =
      { phaseOf s x b with low := if c then v else (phaseOf s x b).low } := by
  split
  · rw [phaseOf_setPhase_same]
  · rfl

/-- A coil is marked open after four like cycles (R263). -/
theorem phaseOf_open_mark (s : State) (x : Nat) (b : Fin 2) (c : Prop) [Decidable c] :
    phaseOf (if c then setPhase s x b (fun p => { p with flt := 2 }) else s) x b =
      { phaseOf s x b with flt := if c then 2 else (phaseOf s x b).flt } := by
  split
  · rw [phaseOf_setPhase_same]
  · rfl

@[simp] theorem journalPut_motion (s : State) (boundary : Bool) (l : List (Nat × List Byte)) : (journalPut s boundary l).motion = s.motion := by
  unfold journalPut journalAdd
  split <;> rfl

@[simp] theorem axis_keepCommit (s : State) (x y : Nat) : axis (keepCommit s x) y = axis s y := axis_of_motion (journalPut_motion ..) y

/-! ### The cycle of a phase in FIXED_OFF (R255, R259, R260, R263) -/

section Cycle

variable {s : State} {ax : Fin 32} {b : Fin 2}

/-- The end of blanking keeps the sensed current, marks a short, and counts an overshoot in drive. -/
theorem exec_chopBlankEnd_due (i : Int) (hb : (phaseOf s ax.val b).blank = true) (hst : (phaseOf s ax.val b).st = 1 ∨ (phaseOf s ax.val b).st = 2)
    (ht : (phaseOf s ax.val b).since + param s pAxisTBlank ax.val ≤ s.t0) :
    let x := ax.val
    let run := paramRat s pAxisIRun x
    let high := targetA s x (phaseOf s x b) + run / 20 < magA i
    exec (.chopBlankEnd ax b i) s = .next (setPhase (sense s x b i) x b (fun p => { p with
      blank := false
      flt := if run * 3 / 2 < magA i ∨ iFs s x ≤ magA i then 1 else p.flt
      overN := if p.st = 1 ∧ (axis s x).chop = 1 then (if high then p.overN + 1 else 0) else p.overN })) := by
  have hact : ¬((phaseOf s ax.val b).st ≠ 1 ∧ (phaseOf s ax.val b).st ≠ 2) := by omega
  refine (if_neg (by simp [hb, hact, Nat.not_lt.mpr ht])).trans ?_
  simp only [decide_eq_true_eq]

/-- At the target the off time begins; the eighth such cycle clears the low mark. -/
theorem exec_chopCurrentReached_cycle {i : Int} (hst : (phaseOf s ax.val b).st = 1) (hb : (phaseOf s ax.val b).blank = false)
    (hc : (axis s ax.val).chop = 1) (hi : targetA s ax.val (phaseOf s ax.val b) ≤ magA i) :
    let p := phaseOf s ax.val b
    ∃ t, exec (.chopCurrentReached ax b i) s = .next t ∧ phaseOf t ax.val b =
      { beginOff s ax.val (phaseOf (sense s ax.val b i) ax.val b) with
        lowN := 0, openN := 0, reachN := p.reachN + 1, low := if 8 ≤ p.reachN + 1 then false else p.low } := by
  refine ⟨_, if_neg (by simp [hst, hb, hc, not_lt.mpr hi]), (phaseOf_iLow_flag (n := (· - 2 ^ 13)) ..).trans ((phaseOf_low_mark ..).trans ?_)⟩
  rw [phaseOf_setPhase_same, phaseOf_sense_same]
  rfl

/-- After T_ON_MAX the off time begins too; the fourth open cycle in a row marks an open coil, the eighth low one the low mark. -/
theorem exec_chopOnMaxTimeout_cycle {i : Int} (hst : (phaseOf s ax.val b).st = 1) (hb : (phaseOf s ax.val b).blank = false)
    (ht : (phaseOf s ax.val b).since + 100000 ≤ s.t0) :
    let x := ax.val
    let p := phaseOf s x b
    let isOpen := paramRat s pAxisIRun x / 5 < targetA s x p ∧ magA i < targetA s x p / 10
    let openN := if isOpen then p.openN + 1 else 0
    let lowN := if isOpen then 0 else p.lowN + 1
    ∃ t, exec (.chopOnMaxTimeout ax b i) s = .next t ∧ phaseOf t x b =
      { beginOff s x (phaseOf (sense s x b i) x b) with
        openN := openN, lowN := lowN, reachN := 0
        flt := if 4 ≤ openN then 2 else p.flt, low := if 8 ≤ lowN then true else p.low } := by
  refine ⟨_, if_neg (by simp [hst, hb, Nat.not_lt.mpr ht]), (phaseOf_iLow_flag (n := (· + 2 ^ 13)) ..).trans ((phaseOf_low_mark ..).trans ?_)⟩
  rw [phaseOf_open_mark, phaseOf_setPhase_same, phaseOf_sense_same]
  simp only [decide_eq_true_eq]
  rfl

theorem exec_chopFastDecayEnd_due (hst : (phaseOf s ax.val b).st = 2) (hc : (axis s ax.val).chop = 1)
    (ht : (phaseOf s ax.val b).offAt + param s pAxisTOff ax.val * param s pAxisFastFrac ax.val / 100 ≤ s.t0) :
    exec (.chopFastDecayEnd ax b) s = .next (setPhase s ax.val b (passTo s 3)) :=
  if_neg (by simp [hst, hc, Nat.not_lt.mpr ht])

theorem exec_chopOffEnd_due (hst : (phaseOf s ax.val b).st = 3 ∨ (phaseOf s ax.val b).st = 2) (hc : (axis s ax.val).chop = 1)
    (htgt : (phaseOf s ax.val b).target ≠ 0) (ht : (phaseOf s ax.val b).offAt + param s pAxisTOff ax.val ≤ s.t0) :
    exec (.chopOffEnd ax b) s = .next (setPhase s ax.val b (passTo s 1)) := by
  have hdecay : ¬((phaseOf s ax.val b).st ≠ 3 ∧ (phaseOf s ax.val b).st ≠ 2) := by omega
  exact if_neg (by simp [hdecay, hc, htgt, Nat.not_lt.mpr ht])

/-- A target of code 0 holds the phase in decay (R258). -/
theorem exec_chopOffEnd_zero (htgt : (phaseOf s ax.val b).target = 0) : exec (.chopOffEnd ax b) s = .next s :=
  if_pos (.inr (.inr (.inl htgt)))

theorem exec_chopDeadTimeEnd_due (hst : (phaseOf s ax.val b).st = 4) (ht : (phaseOf s ax.val b).since + param s pAxisDeadTime ax.val ≤ s.t0) :
    exec (.chopDeadTimeEnd ax b) s = .next (setPhase s ax.val b (fun p => { p with
      st := p.next, since := s.t0, blank := decide (p.next = 1 ∨ p.next = 2), neg := if p.next = 1 then decide (p.target < 0) else p.neg })) :=
  if_neg (by simp [hst, Nat.not_lt.mpr ht])

end Cycle

/-! ### HYSTERESIS and AUTO (R261, R262) -/

section Hysteresis

variable {s : State} {ax : Fin 32} {b : Fin 2}

section Threshold

variable {i : Int} (hc : (axis s ax.val).chop = 2) (hb : (phaseOf s ax.val b).blank = false) (htgt : (phaseOf s ax.val b).target ≠ 0)
include hc hb htgt

theorem exec_hystThreshold_upper (hst : (phaseOf s ax.val b).st = 1)
    (hy : targetA s ax.val (phaseOf s ax.val b) + (phaseOf s ax.val b).theta + halfH s ax.val ≤
      (if (phaseOf s ax.val b).target < 0 then -(i : Rat) else (i : Rat)) / 1000000) :
    exec (.hystThreshold ax b i) s = .next (setPhase (sense s ax.val b i) ax.val b (passTo s 2)) :=
  (if_neg (by simp [hc, hb, htgt])).trans (if_pos ⟨hst, hy⟩)

theorem exec_hystThreshold_lower (hst : (phaseOf s ax.val b).st = 2)
    (hy : (if (phaseOf s ax.val b).target < 0 then -(i : Rat) else (i : Rat)) / 1000000 ≤
      targetA s ax.val (phaseOf s ax.val b) + (phaseOf s ax.val b).theta - halfH s ax.val) :
    exec (.hystThreshold ax b i) s = .next (setPhase (sense s ax.val b i) ax.val b (passTo s 1)) :=
  (if_neg (by simp [hc, hb, htgt])).trans ((if_neg (by simp [hst])).trans (if_pos ⟨hst, hy⟩))

end Threshold

/-- At a completed quarter the offset moves against half the mean error, within half the width; the event of a change is beside the phase. -/
theorem exec_hystQuarterAdapt_done (m : Int) (hc : (axis s ax.val).chop = 2) (hq : (phaseOf s ax.val b).quarters ≠ 0) :
    let h := halfH s ax.val
    let n := (phaseOf s ax.val b).theta - (m : Rat) / 2000000
    ∃ t, exec (.hystQuarterAdapt ax b m) s = .next t ∧
      phaseOf t ax.val b = { phaseOf s ax.val b with theta := if h < n then h else if n < -h then -h else n, quarters := 0 } := by
  refine ⟨_, if_neg (by simp [hc, hq]), ?_⟩
  rw [apply_ite (phaseOf · ax.val b), phaseOf_note, ite_self, phaseOf_setPhase_same]

/-- Sixteen overshoots of either phase pass an AUTO axis to HYSTERESIS. -/
theorem exec_chopFallback_due (hm : param s pAxisChopMode ax.val = 0) (hc : (axis s ax.val).chop = 1)
    (hn : 16 ≤ (axis s ax.val).pa.overN ∨ 16 ≤ (axis s ax.val).pb.overN) : ∃ t, exec (.chopFallback ax) s = .next t ∧
    (axis t ax.val).chop = 2 ∧ (axis t ax.val).pa.overN = 0 ∧ (axis t ax.val).pb.overN = 0 := by
  have hover : ¬((axis s ax.val).pa.overN < 16 ∧ (axis s ax.val).pb.overN < 16) := by omega
  refine ⟨_, if_neg (by simp [hm, hc, hover]), ?_⟩
  rw [axis_note, axis_modAxis_same]
  exact ⟨rfl, rfl, rfl⟩

theorem exec_chopReturn_atRest (hm : param s pAxisChopMode ax.val = 0) (hc : (axis s ax.val).chop = 2) (hr : (axis s ax.val).atRest = true) :
    ∃ t, exec (.chopReturn ax) s = .next t ∧ (axis t ax.val).chop = 1 := by
  refine ⟨_, if_pos ⟨hm, hc, by simp [hr]⟩, ?_⟩
  rw [axis_note, axis_modAxis_same]

end Hysteresis

/-! ### Coil faults, low current, standstill (R263, R265, R266, R268) -/

section Standstill

variable {s : State} {ax : Fin 32}

/-- A marked coil turns the driver off in fault; the axis keeps its index and loses segments and reference. -/
theorem exec_coilFault_marked (hf : (axis s ax.val).pa.flt ≠ 0 ∨ (axis s ax.val).pb.flt ≠ 0) (hd : (axis s ax.val).drv ≠ 5) :
    ∃ t, exec (.coilFault ax) s = .next t ∧ (axis t ax.val).drv = 5 ∧ (axis t ax.val).locked = true ∧ (axis t ax.val).buf = [] ∧
      (axis t ax.val).cur = none ∧ (axis t ax.val).referenced = false ∧ (axis t ax.val).pos = (axis s ax.val).pos := by
  have hmarked : ¬((axis s ax.val).pa.flt = 0 ∧ (axis s ax.val).pb.flt = 0) := by omega
  refine ⟨_, if_neg (by simp [hmarked, hd]), ?_⟩
  rw [axis_keepCommit, axis_note, axis_modAxis_same]
  exact ⟨rfl, rfl, rfl, rfl, rfl, rfl⟩

theorem exec_iLowTimeout_moving {l : Nat} (hl : (axis s ax.val).lowSince = some l) (hr : (axis s ax.val).atRest = false)
    (href : (axis s ax.val).referenced = true) (ht : l + 10000000 < s.t0) :
    exec (.iLowTimeout ax) s = .next (keepCommit (modAxis s ax.val (fun d => { d with referenced := false })) ax.val) := by
  change execILowTimeout ax s = _
  unfold execILowTimeout
  dsimp only
  rw [hl]
  exact if_neg (by simp [hr, href, Nat.not_le.mpr ht, ms])

theorem exec_holdDelayExpiry_due (hd : (axis s ax.val).drv = 2) (hr : (axis s ax.val).atRest = true) (hn : (axis s ax.val).ramp = none)
    (ht : (axis s ax.val).restAt + param s pAxisHoldDelay ax.val * 1000000 ≤ s.t0) :
    exec (.holdDelayExpiry ax) s = .next (modAxis s ax.val
      (fun d => { d with ramp := some (magNow s ax.val, iHold s ax.val, s.t0, param s pAxisHoldRamp ax.val * 1000000) })) :=
  if_neg (by simp [hd, hr, hn, Nat.not_lt.mpr ht, ms])

/-- A completed ramp leaves its last value in force; that of a driver leaving power turns it off. -/
theorem exec_currentRampEnd_due {i0 i1 : Rat} {t0 n : Nat} (hr : (axis s ax.val).ramp = some (i0, i1, t0, n)) (ht : t0 + n ≤ s.t0) :
    exec (.currentRampEnd ax) s = if (axis s ax.val).drv = 4 then .next (driverOff s ax.val)
      else .next (modAxis s ax.val (fun d => { d with ramp := none, cur_ := i1, drv := if d.atRest then 3 else 2 })) := by
  change execCurrentRampEnd ax s = _
  unfold execCurrentRampEnd
  dsimp only
  rw [hr]
  exact if_neg (Nat.not_lt.mpr ht)

theorem drv_driverOff (s : State) (x : Nat) : (axis (driverOff s x) x).drv = 0 := by
  unfold driverOff
  rw [axis_keepCommit, axis_modAxis_same]

end Standstill

/-- Settles O20: each instruction's branch above; what is asked of the phase or axis is a field of the one it leaves. -/
theorem choppersRegulateCoils : Obligations.ChoppersRegulateCoils := by
  unfold Obligations.ChoppersRegulateCoils
  refine ⟨fun s ax b => ?phase, fun s ax => ?axis⟩
  case phase =>
    intro x p
    refine ⟨fun i hb hst ht => ⟨_, exec_chopBlankEnd_due i hb hst ht, ?blank⟩, fun i hst hb hc hi => ?reached, fun i hst hb ht => ?onMax,
      exec_chopFastDecayEnd_due, exec_chopOffEnd_due, fun _ => exec_chopOffEnd_zero,
      fun hst ht => ⟨_, exec_chopDeadTimeEnd_due hst ht, ?dead⟩⟩
    case blank =>
      rw [phaseOf_setPhase_same, phaseOf_sense_same]
      exact ⟨rfl, rfl, rfl, rfl, fun h1 hc => if_pos ⟨h1, hc⟩⟩
    case reached =>
      obtain ⟨t, hexec, hp⟩ := exec_chopCurrentReached_cycle hst hb hc hi
      refine ⟨t, hexec, ?_⟩
      rw [hp]
      exact ⟨rfl, rfl, rfl, by simp [beginOff, passTo, hc, x], rfl⟩
    case onMax =>
      obtain ⟨t, hexec, hp⟩ := exec_chopOnMaxTimeout_cycle hst hb ht
      refine ⟨t, hexec, ?_⟩
      rw [hp]
      exact ⟨rfl, rfl, rfl, fun htgt hi => if_pos ⟨htgt, hi⟩⟩
    case dead =>
      rw [phaseOf_setPhase_same]
      exact ⟨rfl, rfl, rfl⟩
  case axis =>
    intro x d
    refine ⟨fun b i hc hb htgt => ⟨exec_hystThreshold_upper hc hb htgt, exec_hystThreshold_lower hc hb htgt⟩, fun b m hc hq => ?quarter,
      exec_chopFallback_due, exec_chopReturn_atRest, exec_coilFault_marked, fun l hl hr href ht => ⟨_, exec_iLowTimeout_moving hl hr href ht, ?low⟩,
      fun hd hr hn ht => ⟨_, exec_holdDelayExpiry_due hd hr hn ht, ?hold⟩, fun i0 i1 t0 n hr ht => ?ramp⟩
    case quarter =>
      obtain ⟨t, hexec, hp⟩ := exec_hystQuarterAdapt_done m hc hq
      refine ⟨t, hexec, ?_⟩
      rw [hp]
      exact ⟨rfl, rfl⟩
    case low => rw [axis_keepCommit, axis_modAxis_same]
    case hold => rw [axis_modAxis_same]
    case ramp =>
      have hexec := exec_currentRampEnd_due hr ht
      refine ⟨fun hd => ⟨_, hexec.trans (if_neg hd), ?_⟩, fun hd => ⟨hexec.trans (if_pos hd), drv_driverOff s x⟩⟩
      rw [axis_modAxis_same]
      exact ⟨rfl, rfl, rfl⟩

end Sys2Proof.Proofs
end

section
/-! The 24 V channels (R273-R280): what a change of a channel lets a read of it see, an input's filter, stepdown and wire break, and an output's protection. -/

namespace Sys2Proof.Proofs

open Sys2Proof.Machine Sys2Proof.Laws

/-! ### A channel after a change -/

@[simp] theorem chan_setChan_same (s : State) (c : Nat) (f : ChSt → ChSt) : chan (setChan s c f) c = f (chan s c) := tget_tmod_same ..

@[simp] theorem chan_putField (s : State) (p : Nat) (v : Word) (q : BitVec 16) (c : Nat) : chan (putField s p v q) c = chan s c := rfl

theorem chan_of_io {s t : State} (h : t.io = s.io) (c : Nat) : chan t c = chan s c := by
  unfold chan
  rw [h]

@[simp] theorem chan_note (s : State) (e : Ev) (i u o : Nat) (l : List Nat) (c : Nat) : chan (note s e i u o l) c = chan s c :=
  chan_of_io (note_io ..) c

@[simp] theorem chan_update (s : State) (t p : Nat) (v : Word) (q : BitVec 16) (c : Nat) : chan (update s t p v q) c = chan s c :=
  chan_of_io (update_io ..) c

/-- The facets given, a channel differs in the conditions its facets show (R271, R283). -/
theorem chan_chFacets_same (s : State) (c : Nat) : chan (chFacets s c) c = { chan s c with conds := chConds s c } := by
  unfold chFacets
  extract_lets d q s1 s2 s3
  have h1 : chan s1 c = d := by unfold s1; split <;> rfl
  have h2 : chan s2 c = d := by unfold s2; split <;> exact h1
  have h3 : chan s3 c = d := by unfold s3; split <;> exact h2
  split
  next hq => rw [h3, show chConds s c = d.conds from hq]
  next =>
    rw [chan_setChan_same]
    split
    · rw [chan_update, h3]
    · rw [h3]

theorem chFacets_param (s : State) (c k i : Nat) : param (chFacets s c) k i = param s k i := by
  unfold chFacets
  extract_lets d q s1 s2 s3
  have h1 : param s1 k i = param s k i := by unfold s1; split <;> rfl
  have h2 : param s2 k i = param s k i := by unfold s2; split <;> exact h1
  have h3 : param s3 k i = param s k i := by unfold s3; split <;> exact h2
  split
  · exact h3
  · rw [setChan_param]
    split
    · exact (update_param ..).trans h3
    · exact h3

/-- The switch of a bit by its power of two (R282). -/
theorem testBit_switched {f k : Nat} {v : Bool} (h : f.testBit k ≠ v) : (if v then f + 2 ^ k else f - 2 ^ k).testBit k = v := by
  cases v with
  | true =>
    rw [if_pos rfl, Nat.add_comm, Nat.testBit_two_pow_add_eq]
    simpa using h
  | false =>
    rw [if_neg Bool.false_ne_true]
    have hk : 2 ^ k ≤ f := Nat.ge_two_pow_of_testBit (by simpa using h)
    have hf := Nat.testBit_two_pow_add_eq (f - 2 ^ k) k
    rw [Nat.add_sub_cancel' hk] at hf
    simpa [hf] using h

/-- A flag set or cleared reads so; of the channel only the flags and the conditions they give change. -/
theorem chan_chFlag_same (s : State) (c k : Nat) (v : Bool) :
    ∃ f q, f.testBit k = v ∧ chan (chFlag s c k v) c = { chan s c with flags := f, conds := q } := by
  unfold chFlag
  split
  next hv => exact ⟨(chan s c).flags, (chan s c).conds, hv, rfl⟩
  next hv =>
    refine ⟨_, chConds (setChan s c (fun d => { d with flags := if v then d.flags + 2 ^ k else d.flags - 2 ^ k })) c, testBit_switched hv, ?_⟩
    dsimp only
    split
    · rw [chan_note, chan_chFacets_same, chan_setChan_same]
    · rw [chan_chFacets_same, chan_setChan_same]

theorem chFlag_param (s : State) (c k : Nat) (v : Bool) (pk pi : Nat) : param (chFlag s c k v) pk pi = param s pk pi := by
  unfold chFlag
  split
  · rfl
  · extract_lets s1 s2
    have h : param s2 pk pi = param s pk pi := chFacets_param ..
    split
    · rw [note_param, h]
    · exact h

/-! ### The axes a channel serves (R243, R246, R249) -/

@[simp] theorem axisRawEdge_io (s : State) (c : Nat) : (axisRawEdge s c).io = s.io := by
  unfold axisRawEdge
  refine foldl_keeps State.io (fun u e => ?_) _ s
  rfl

theorem axisRawEdge_param (s : State) (c k i : Nat) : param (axisRawEdge s c) k i = param s k i := by
  unfold axisRawEdge
  refine foldl_keeps (fun u => param u k i) (fun u e => ?_) _ s
  exact setAxis_param ..

@[simp] theorem axisFiltered_io (s : State) (c : Nat) (level bad : Bool) : (axisFiltered s c level bad).io = s.io := by
  unfold axisFiltered
  refine foldl_keeps State.io (fun u e => ?_) _ s
  extract_lets act u1 ts chat u2
  split
  · rfl
  · have h : u2.io = u.io := modAxis_io ..
    split
    · exact (note_io ..).trans h
    · exact h

@[simp] theorem chAxes_io (s : State) (c : Nat) : (chAxes s c).io = s.io := axisFiltered_io ..

/-! ### Inputs (R273-R275) -/

/-- A filtered state taken counts its rising edge (R274). -/
theorem chan_chFiltered_same (s : State) (c : Nat) (v : Bool) : ∃ q, chan (chFiltered s c v) c = { chan s c with
    filt := v, edges := if v = true ∧ (chan s c).filt = false then (chan s c).edges + 1 else (chan s c).edges, conds := q } := by
  unfold chFiltered
  split
  next hv =>
    have hedge : ¬(v = true ∧ (chan s c).filt = false) := by simp [hv]
    exact ⟨(chan s c).conds, by rw [if_neg hedge, ← hv]⟩
  next hv =>
    have hedge : (v = true ∧ (chan s c).filt = false) ↔ v = true := by cases v <;> simp_all
    extract_lets u
    have hu : chan u c = { chan s c with filt := v, edges := if v then (chan s c).edges + 1 else (chan s c).edges } := chan_setChan_same ..
    refine ⟨chConds u c, ?_⟩
    rw [chan_of_io (chAxes_io ..), chan_chFacets_same, hu]
    simp only [hedge]
    rfl

/-- What INPUT_PIN_CHANGE notes of the pin itself (R273, R274). -/
def pinTaken (s : State) (c : Nat) (v : Bool) : State :=
  setChan s c (fun d => { d with raw := v, rawSince := s.t0, crossAt := s.t0, crossUp := v })

/-- The change of a channel in stepdown back to full current (R273). -/
def fullCurrent (s : State) (c : Nat) : State :=
  if (chan s c).flags.testBit 15 then chNote (chFlag s c 15 false) Ev.chStepdown c [0] else s

theorem chan_fullCurrent_same (s : State) (c : Nat) : ∃ f q, chan (fullCurrent s c) c = { chan s c with flags := f, conds := q } := by
  unfold fullCurrent
  split
  · obtain ⟨f, q, -, hf⟩ := chan_chFlag_same s c 15 false
    exact ⟨f, q, (chan_note ..).trans hf⟩
  · exact ⟨(chan s c).flags, (chan s c).conds, rfl⟩

theorem fullCurrent_param (s : State) (c k i : Nat) : param (fullCurrent s c) k i = param s k i := by
  unfold fullCurrent
  split
  · exact (note_param ..).trans (chFlag_param ..)
  · rfl

/-- What an input's pin change leaves before its filter: the pin's state with its instant. -/
theorem chan_pinTaken_same (s : State) (c : Nat) (v : Bool) : ∃ f q, chan (fullCurrent (axisRawEdge (pinTaken s c v) c) c) c =
    { chan s c with raw := v, rawSince := s.t0, crossAt := s.t0, crossUp := v, flags := f, conds := q } := by
  obtain ⟨f, q, h⟩ := chan_fullCurrent_same (axisRawEdge (pinTaken s c v) c) c
  refine ⟨f, q, h.trans ?_⟩
  rw [chan_of_io (axisRawEdge_io ..), pinTaken, chan_setChan_same]

section Inputs

variable {s : State} {c : BitVec 9}

theorem exec_inputPinChange_same : exec (.inputPinChange c (chan s c.toNat).raw) s = .next s := if_pos rfl

theorem exec_inputPinChange_input (hin : isIn s c.toNat = true) {v : Bool} (hv : (chan s c.toNat).raw ≠ v) :
    let u := fullCurrent (axisRawEdge (pinTaken s c.toNat v) c.toNat) c.toNat
    exec (.inputPinChange c v) s = .next (if param s pChFilter c.toNat = 0 then chFiltered u c.toNat v else u) := by
  intro u
  have hp : param u pChFilter c.toNat = param s pChFilter c.toNat := (fullCurrent_param ..).trans (axisRawEdge_param ..)
  rw [← hp]
  exact (if_neg hv).trans (if_pos hin)

theorem exec_filteredStateChange_input (hin : isIn s c.toNat = true) : exec (.filteredStateChange c) s =
    if s.t0 < (chan s c.toNat).rawSince + param s pChFilter c.toNat * 1000 then .next s else .next (chFiltered s c.toNat (chan s c.toNat).raw) := by
  change execFilteredStateChange c s = _
  simp [execFilteredStateChange, hin, us]

theorem exec_stepdown_due (hin : isIn s c.toNat = true) (hraw : (chan s c.toNat).raw = true) (hf : (chan s c.toNat).flags.testBit 15 = false)
    (hp : param s pChStepdownTime c.toNat ≠ 0) (ht : (chan s c.toNat).rawSince + param s pChStepdownTime c.toNat * 1000000 ≤ s.t0) :
    exec (.stepdown c) s = .next (note (chFlag s c.toNat 15 true) Ev.chStepdown (0x60 + c.toNat / 128) c.toNat 0 [1]) :=
  if_neg (by simp [hin, hraw, hf, hp, Nat.not_lt.mpr ht, ms])

theorem exec_wireBreakTimeout_enabled (hin : isIn s c.toNat = true) (hw : flag s pChWbEnable c.toNat = true) (ma : Word) :
    exec (.wireBreakTimeout c ma) s = if (grp s (c.toNat / 8)).lost then .next s
      else .next (chAxes (chFlag (putField s (chPt c.toNat 3) ma) c.toNat 3 (flt f32 ma.toNat 0x3E800000)) c.toNat) := by
  change execWireBreakTimeout c ma s = _
  simp [execWireBreakTimeout, hin, hw]

end Inputs

/-! ### Protection of outputs (R278-R280) -/

section Protection

variable {s : State} {n : BitVec 9}

theorem exec_overloadTimeout_on (hout : isOut s (chKey s n.toNat) = true) (hon : (chan s (chKey s n.toNat)).on = true) (ma : Word) :
    let c := chKey s n.toNat
    exec (.overloadTimeout n ma) s = .next (note (chRefresh (chFlag
      (setChan (putField s (chPt c 3) ma) c (fun d => { d with latch := waitKind s c, latchAt := s.t0 })) c 0 true) c)
      Ev.chOverload (0x60 + c / 128) c 0 [ma.toNat]) :=
  if_neg (by simp [hout, hon])

theorem exec_overTemp_on (hout : isOut s (chKey s n.toNat) = true) (hon : (chan s (chKey s n.toNat)).on = true) (temp : Word) :
    let c := chKey s n.toNat
    let ts := ((chan s c).thermals ++ [s.t0]).filter (fun t => decide (s.t0 ≤ t + 10 * sec))
    exec (.overTemp n temp) s = .next (note (chRefresh (chFlag
      (setChan (putField s (chPt c 5) temp) c (fun d => { d with latch := if 8 ≤ ts.length then 1 else 3, latchAt := s.t0, thermals := ts })) c 1 true) c)
      Ev.chOvertemp (0x60 + c / 128) c 0 [temp.toNat]) :=
  if_neg (by simp [hout, hon])

theorem exec_overTempRecover_commanded (hout : isOut s (chKey s n.toNat) = true) (hl : (chan s (chKey s n.toNat)).latch = 3)
    (hc : (chan s (chKey s n.toNat)).cmd = true) (temp : Word) :
    let c := chKey s n.toNat
    exec (.overTempRecover n temp) s = .next (chRefresh (setChan (putField s (chPt c 5) temp) c (fun d => { d with latch := 0 })) c) := by
  change execOverTempRecover n temp s = _
  simp [execOverTempRecover, hout, hl, hc]

theorem exec_overloadRetry_waiting (hl : (chan s (chKey s n.toNat)).latch = 2) (hc : (chan s (chKey s n.toNat)).cmd = true) :
    let c := chKey s n.toNat
    exec (.overloadRetry n) s = if s.t0 < (chan s c).latchAt + param s pChRetryPeriod c * 1000000 then .next s
      else .next (chRefresh (setChan s c (fun d => { d with latch := 0 })) c) := by
  change execOverloadRetry n s = _
  simp [execOverloadRetry, hl, hc, ms]

theorem exec_pairImbalance_pair (hm : param s pChMode (chKey s n.toNat) = 4) (on : Bool) :
    exec (.pairImbalance n on) s = .next (chFlag s (chKey s n.toNat) 14 on) :=
  if_neg (not_not.mpr hm)

theorem exec_groupShed_released (u : Fin 68) {ma : Nat} (h : ma < if u.val < 64 then 1500 else 12000) :
    exec (.groupShed u ma) s = .next (setGrp s u.val (fun g => { g with shedding := false })) := by
  have hrel : ma < (if u.val < 64 then (1650, 1500) else (12500, 12000)).2 := by rwa [apply_ite Prod.snd]
  exact if_pos hrel

/-- Above the limit, and 1 ms after the last shedding, the output switched on last is shed. -/
theorem exec_groupShed_above (u : Fin 68) {ma k : Nat} (h : (if u.val < 64 then 1650 else 12500) < ma)
    (ht : (grp s u.val).shedding = true → (grp s u.val).shedAt + 1000000 ≤ s.t0)
    (hk : shedPick s (fun c => if u.val < 64 then c / 8 == u.val else c / 128 == u.val - 64) = some k) :
    exec (.groupShed u ma) s = .next (note (chRefresh (chFlag (setChan (setGrp s u.val (fun g => { g with shedding := true, shedAt := s.t0 })) k
      (fun d => { d with latch := waitKind s k, latchAt := s.t0 })) k 12 true) k) Ev.chShed (0x60 + k / 128) k 0 [u.val, ma]) := by
  change execGroupShed u ma s = _
  unfold execGroupShed
  dsimp only
  have hlim : ¬ma ≤ (if u.val < 64 then (1650, 1500) else (12500, 12000)).1 := by rwa [apply_ite Prod.fst, Nat.not_le]
  have hrel : ¬ma < (if u.val < 64 then (1650, 1500) else (12500, 12000)).2 := by
    have hle : (if u.val < 64 then 1500 else 12000) ≤ (if u.val < 64 then 1650 else 12500) := by split <;> decide
    rw [apply_ite Prod.snd, Nat.not_lt]
    exact hle.trans h.le
  have hwait : ¬((grp s u.val).shedding && decide (s.t0 < (grp s u.val).shedAt + ms)) = true := by
    rw [Bool.and_eq_true, decide_eq_true_eq, not_and, Nat.not_lt]
    exact ht
  rw [if_neg hrel, decide_eq_false hlim, Bool.and_false, if_neg Bool.false_ne_true, if_neg hwait, hk]
  rfl

end Protection

/-- Settles O21: each instruction's branch above; what a pin or filter change leaves is a field of the channel it changes. -/
theorem channelInputsAndProtection : Obligations.ChannelInputsAndProtection := by
  unfold Obligations.ChannelInputsAndProtection
  refine ⟨fun s c hin => ?input, fun s n => ?output⟩
  case input =>
    intro i d
    refine ⟨fun v hv => ⟨_, exec_inputPinChange_input hin hv, ?pin⟩, exec_inputPinChange_same, fun ht => ?filter,
      fun ht => (exec_filteredStateChange_input hin).trans (if_pos ht), exec_stepdown_due hin, fun ma hw => ?wire⟩
    case pin =>
      obtain ⟨f, q, hu⟩ := chan_pinTaken_same s i v
      split
      · obtain ⟨q', hfilt⟩ := chan_chFiltered_same (fullCurrent (axisRawEdge (pinTaken s i v) i) i) i v
        rw [hfilt, hu]
        exact ⟨rfl, rfl, rfl⟩
      · rw [hu]
        exact ⟨rfl, rfl, rfl⟩
    case filter =>
      refine ⟨_, (exec_filteredStateChange_input hin).trans (if_neg (Nat.not_lt.mpr ht)), ?_⟩
      obtain ⟨q, hfilt⟩ := chan_chFiltered_same s i d.raw
      rw [hfilt]
      exact ⟨rfl, rfl⟩
    case wire =>
      have hexec := exec_wireBreakTimeout_enabled hin hw ma
      exact ⟨fun hl => hexec.trans (if_neg (Bool.not_eq_true _ ▸ hl)), fun hl => hexec.trans (if_pos hl)⟩
  case output =>
    intro c d
    refine ⟨fun ma hout hon => exec_overloadTimeout_on hout hon ma, fun temp hout hon => exec_overTemp_on hout hon temp,
      fun temp hout hl hc => exec_overTempRecover_commanded hout hl hc temp, fun hl hc => ?retry, fun on hm => ⟨_, exec_pairImbalance_pair hm on, ?pair⟩,
      fun u ma k => ⟨fun hma => ⟨_, exec_groupShed_released u hma, ?released⟩, exec_groupShed_above u⟩⟩
    case retry =>
      have hexec := exec_overloadRetry_waiting hl hc
      exact ⟨fun ht => hexec.trans (if_neg (Nat.not_lt.mpr ht)), fun ht => hexec.trans (if_pos ht)⟩
    case pair =>
      obtain ⟨f, q, hbit, hflag⟩ := chan_chFlag_same s c 14 on
      rw [hflag]
      exact ⟨hbit, rfl⟩
    case released =>
      rw [grp_setGrp_same]
      exact ⟨rfl, rfl⟩

end Sys2Proof.Proofs
end

section
/-! Diagnosis of the 24 V outputs (R283, R287-R289), the groups' supply (R284-R286) and the safety groups (R293, R294). -/

namespace Sys2Proof.Proofs

open Sys2Proof.Machine Sys2Proof.Laws

/-! ### Diagnosis of outputs (R283, R287-R289) -/

theorem afterSettle_settled {s : State} {c : Nat} (hs : (chan s c).settled = true) (hc : (grp s (c / 8)).cut = false)
    (hl : (grp s (c / 8)).lost = false) : afterSettle s c = true := by
  simp [afterSettle, hs, hc, hl]

theorem exec_settleExpiry_due {s : State} {n : BitVec 9} (hs : (chan s (chKey s n.toNat)).settled = false)
    (ht : (chan s (chKey s n.toNat)).cmdSince + param s pChSettle (chKey s n.toNat) * 1000 ≤ s.t0) :
    exec (.settleExpiry n) s = .next (setChan s (chKey s n.toNat) (fun d => { d with settled := true })) :=
  if_neg (by simp [hs, Nat.not_lt.mpr ht, us])

/-- The condition on which a channel's flag clears (R283). -/
def clearsFlag (s : State) (c k : Nat) : Bool :=
  let d := chan s c
  match k with
  | 0 | 1 | 12 => d.on && decide (d.onAt + 10 * ms ≤ s.t0)
  | 2 => true
  | 4 | 5 => !d.raw
  | 6 => true
  | 8 => d.raw || !d.cmd
  | _ => false

theorem exec_chFlagClear_kept {s : State} {n : BitVec 9} {k : Fin 16} (h : clearsFlag s (chKey s n.toNat) k.val = false) :
    exec (.chFlagClear n k) s = .next s :=
  if_pos (c := !isOut s (chKey s n.toNat) ∨ !clearsFlag s (chKey s n.toNat) k.val) (by simp [h])

section Diagnosis

variable {s : State} {n : BitVec 9} (hout : isOut s (chKey s n.toNat) = true)
include hout

theorem exec_reverseDetect_output : exec (.reverseDetect n) s = .next (chFlag s (chKey s n.toNat) 6 true) :=
  if_neg (by simp [hout])

/-- With EXT_DRIVE the correlation clears that it came from (R288). -/
theorem exec_chFlagClear_cleared {k : Fin 16} (h : clearsFlag s (chKey s n.toNat) k.val = true) : exec (.chFlagClear n k) s =
    let u := chFlag s (chKey s n.toNat) k.val false
    .next (if k.val = 5 then setChan u (chKey s n.toNat) (fun d => { d with partner := none }) else u) :=
  if_neg (c := !isOut s (chKey s n.toNat) ∨ !clearsFlag s (chKey s n.toNat) k.val) (by simp [hout, h])

variable (ha : afterSettle s (chKey s n.toNat) = true)
include ha

theorem exec_openLoadDetect_settled (ma : Word) :
    let c := chKey s n.toNat
    let hit := if (chan s c).on then flt f32 0 (param s pChOpenOnMa c) && flt f32 ma.toNat (param s pChOpenOnMa c) else flag s pChOpenOffTest c
    exec (.openLoadDetect n ma) s = .next (if hit then chFlag (putField s (chPt c 3) ma) c 2 true else putField s (chPt c 3) ma) :=
  if_neg (by simp [hout, ha])

theorem exec_shortToLplusDetect_off (hoff : (chan s (chKey s n.toNat)).on = false) (hp : standbyPar s (chKey s n.toNat) = false) :
    exec (.shortToLplusDetect n) s =
      .next (chFlag s (chKey s n.toNat) (if (chan s (chKey s n.toNat)).partner = none then 4 else 5) true) := by
  change execShortToLplusDetect n s = _
  cases hpart : (chan s (chKey s n.toNat)).partner <;> simp [execShortToLplusDetect, hout, ha, hoff, hp, hpart]

/-- A switch that carries current while off is flagged and reported once. -/
theorem exec_stuckOnDetect_off (hoff : (chan s (chKey s n.toNat)).on = false) (ma : Word) :
    let c := chKey s n.toNat
    exec (.stuckOnDetect n ma) s = if (chan s c).flags.testBit 7 then .next s
      else .next (report (chFlag (putField s (chPt c 3) ma) c 7 true) 0x0901 (0x60 + c / 128) c) := by
  change execStuckOnDetect n ma s = _
  simp [execStuckOnDetect, hout, ha, hoff]

theorem exec_readbackFailDetect_low (hc : (chan s (chKey s n.toNat)).cmd = true) (hr : (chan s (chKey s n.toNat)).raw = false)
    (ht : (grp s (chKey s n.toNat / 8)).test = none) (hw : chWord s (chKey s n.toNat) % 2 ^ 17 = 0) :
    exec (.readbackFailDetect n) s = .next (chFlag s (chKey s n.toNat) 8 true) :=
  if_neg (by simpa [hout, ha, hc, hr, ht] using hw)

end Diagnosis

/-! ### Group supply (R284-R286) -/

section Supply

variable {s : State} {n : Fin 64} {a : Nat}

/-- Between the whole 100 µs a measurement is summed, and it starts or ends the low time. -/
theorem exec_supplyMeasure_between (mv : Nat) (ht : s.t0 % 100000 ≠ 0) :
    ∃ t, exec (.supplyMeasure n mv) s = .next t ∧ (grp t n.val).mv = mv ∧ (grp t n.val).sum = (grp s n.val).sum + mv ∧
      (grp t n.val).cnt = (grp s n.val).cnt + 1 ∧
      (grp t n.val).lowSince = if mv < 18000 then some ((grp s n.val).lowSince.getD s.t0) else none := by
  refine ⟨_, if_pos ht, ?_⟩
  rw [grp_setGrp_same]
  simp

theorem exec_supplyLow_due (hl : (grp s n.val).lowSince = some a) (ht : a + 500000 ≤ s.t0) (hlow : (grp s n.val).low = false)
    (hh : (grp s n.val).highSince = none) :
    exec (.supplyLow n) s = .next (note (grpRefresh (setGrp s n.val (fun d => { d with low := true })) n.val) Ev.supplyLow (0x60 + n.val / 16) n.val 0
      [(grp s n.val).minMv]) := by
  change execSupplyLow n s = _
  simp [execSupplyLow, hl, ht, hlow, hh, us, grpNote]

/-- Below 9.0 V, at a group other than a tile's first, whose supply no analog output takes (R302). -/
theorem exec_supplyLost_below (hl : (grp s n.val).lost = false) (hm : (grp s n.val).mv < 9000) (hn : n.val % 16 ≠ 0) :
    exec (.supplyLost n) s = .next (note ((grpChans n.val).foldl chAxes (grpRefresh (setGrp s n.val
      (fun d => { d with lost := true, restoreAt := none, ackWait := false })) n.val)) Ev.supplyLost (0x60 + n.val / 16) n.val 0 [(grp s n.val).mv]) := by
  change execSupplyLost n s = _
  simp [execSupplyLost, hl, Nat.not_le.mpr hm, hn, grpNote]

/-- A group is changed as its change of the present group says. -/
theorem setGrp_congr {f f' : GrpSt → GrpSt} {g : Nat} (h : f (grp s g) = f' (grp s g)) : setGrp s g f = setGrp s g f' := by
  unfold setGrp tmod
  rw [show f (tget {} s.io.grp g) = f' (tget {} s.io.grp g) from h]

/-- With the group set to AUTO, its outputs wait for the next whole millisecond. -/
theorem exec_supplyRestored_lost (hok : (grp s n.val).okSince = some a) (ht : a + 10000000 ≤ s.t0) (hl : (grp s n.val).lost = true)
    (hh : (grp s n.val).hiOkSince = none) (hauto : param s pChGRestore n.val = 0) :
    exec (.supplyRestored n) s = .next (note ((grpChans n.val).foldl chAxes (grpRefresh (setGrp s n.val
      (fun d => { d with low := false, lost := false, restoreAt := some (wholeMs (s.t0 + 1) 0) })) n.val))
      Ev.supplyRestored (0x60 + n.val / 16) n.val 0 [(grp s n.val).minMv]) := by
  change execSupplyRestored n s = _
  have ht' : a + 10 * ms ≤ s.t0 := ht
  rw [setGrp_congr (f' := fun d => { d with
    low := d.low && !true, lost := d.lost && !true, high := d.high && !false
    restoreAt := if true && d.lost && true then some (wholeMs (s.t0 + 1) 0) else d.restoreAt
    ackWait := if true && d.lost && !true then true else d.ackWait }) (by simp [hl])]
  simp [execSupplyRestored, hok, ht', hl, hh, hauto, grpNote]

theorem exec_groupRestore_due (hr : (grp s n.val).restoreAt = some a) (ht : a ≤ s.t0) :
    exec (.groupRestore n) s = .next (grpRefresh (setGrp s n.val (fun d => { d with restoreAt := none, ackWait := false })) n.val) := by
  change execGroupRestore n s = _
  simp [execGroupRestore, hr, Nat.not_lt.mpr ht]

end Supply

/-! ### Safety groups (R293, R294) -/

section Permits

variable {s : State} {n : Fin 64} {a : Nat}

theorem permitStands_some {g : Nat} (h : (grp s g).permitAt = some a) : permitStands s g = decide (s.t0 < a + 1900000) := by
  unfold permitStands
  rw [h]
  rfl

theorem permitStands_over {g : Nat} (h : ∀ a, (grp s g).permitAt = some a → a + 1900000 ≤ s.t0) : permitStands s g = false := by
  cases hp : (grp s g).permitAt with
  | none => simp [permitStands, hp]
  | some a => rw [permitStands_some hp, decide_eq_false (Nat.not_lt.mpr (h a hp))]

theorem exec_permitTimeout_over (hf : flag s pSafeGroup n.val = true) (hc : (grp s n.val).cut = false)
    (hp : ∀ a, (grp s n.val).permitAt = some a → a + 1900000 ≤ s.t0) :
    exec (.permitTimeout n) s = .next (note ((grpChans n.val).foldl chAxes (grpRefresh
      ((grpChans n.val).foldl (fun s c => setChan s c (fun d => { d with cutWait := true }))
        (setGrp s n.val (fun d => { d with cut := true, elemA := false, elemB := false }))) n.val)) Ev.groupCut (0x60 + n.val / 16) n.val 0 [1]) :=
  if_neg (by simp [hf, hc, permitStands_over hp])

theorem exec_cutClear_permitted (hc : (grp s n.val).cut = true) (hp : (grp s n.val).permitAt = some a) (ht : s.t0 < a + 1900000)
    (htest : (grp s n.val).test = none) (hs : (tget {} s.nodes (n.val / 16)).silent = false) :
    exec (.cutClear n) s = .next (note ((grpChans n.val).foldl chAxes (grpRefresh (setGrp s n.val
      (fun d => { d with cut := false, elemA := true, elemB := true })) n.val)) Ev.groupCut (0x60 + n.val / 16) n.val 0 [0]) := by
  have hstands : permitStands s n.val = true := (permitStands_some hp).trans (decide_eq_true ht)
  change execCutClear n s = _
  simp [execCutClear, hc, hstands, htest, hs]

theorem exec_cutElementTest_free (e : Fin 2) (hf : flag s pSafeGroup n.val = true) (htest : (grp s n.val).test = none) :
    exec (.cutElementTest n e) s =
      .next (setGrp s n.val (fun d => { d with test := some (e.val, s.t0), elemA := e.val = 1, elemB := e.val = 0 })) :=
  if_neg (by simp [hf, htest])

theorem exec_cutTestEnd_running {e : Nat} (htest : (grp s n.val).test = some (e, a)) (ok : Bool) :
    let s1 := elemResult (setGrp s n.val (fun d => { d with test := none, elemA := !d.cut, elemB := !d.cut })) n.val e ok
    exec (.cutTestEnd n ok) s = .next (if ok then s1 else report s1 0x0804 (0x60 + n.val / 16) n.val) := by
  change execCutTestEnd n ok s = _
  simp only [execCutTestEnd, htest]

end Permits

/-- Settles O22: each instruction's branch above; a flag clears on the condition that `clearsFlag` gives it. -/
theorem channelDiagnosisAndGroups : Obligations.ChannelDiagnosisAndGroups := by
  unfold Obligations.ChannelDiagnosisAndGroups
  refine ⟨fun s n => ?output, fun s n => ?group⟩
  case output =>
    intro c d
    refine ⟨exec_settleExpiry_due, fun hout hs hc hl => ?detect, exec_reverseDetect_output, fun hout => ?clear⟩
    case detect =>
      have ha : afterSettle s c = true := afterSettle_settled hs hc hl
      refine ⟨exec_openLoadDetect_settled hout ha, exec_shortToLplusDetect_off hout ha, fun ma hoff => ?stuck, exec_readbackFailDetect_low hout ha⟩
      case stuck =>
        have hexec := exec_stuckOnDetect_off hout ha hoff ma
        exact ⟨fun h7 => hexec.trans (if_neg (Bool.not_eq_true _ ▸ h7)), fun h7 => hexec.trans (if_pos h7)⟩
    case clear =>
      refine ⟨fun k hk hon ht => ?onFor, fun k hk => ?always, fun hraw => ?short, fun hraw => ?extDrive, fun h => ?readback, ?stuckOn⟩
      case onFor =>
        have hclear : clearsFlag s c k.val = (d.on && decide (d.onAt + 10 * ms ≤ s.t0)) := by
          obtain hk | hk | hk := hk <;> rw [hk] <;> rfl
        rw [hon, Bool.true_and] at hclear
        exact (exec_chFlagClear_cleared hout (hclear.trans (decide_eq_true ht))).trans (congrArg Host.Outcome.next (if_neg (by omega)))
      case always =>
        have hclear : clearsFlag s c k.val = true := by obtain hk | hk := hk <;> rw [hk] <;> rfl
        exact (exec_chFlagClear_cleared hout hclear).trans (congrArg Host.Outcome.next (if_neg (by omega)))
      case short => exact exec_chFlagClear_cleared (k := 4) hout (congrArg not hraw)
      case extDrive =>
        refine ⟨_, exec_chFlagClear_cleared (k := 5) hout (congrArg not hraw), ?_⟩
        exact congrArg ChSt.partner (chan_setChan_same ..)
      case readback =>
        have hclear : (d.raw || !d.cmd) = true := by simpa using h
        exact exec_chFlagClear_cleared (k := 8) hout hclear
      case stuckOn => exact exec_chFlagClear_kept (k := 7) rfl
  case group =>
    intro g d
    refine ⟨exec_supplyMeasure_between, fun a => exec_supplyLow_due, exec_supplyLost_below, fun a => exec_supplyRestored_lost,
      fun a => exec_groupRestore_due, rfl, exec_permitTimeout_over, fun a => exec_cutClear_permitted,
      fun e hf htest => ⟨_, exec_cutElementTest_free e hf htest, ?element⟩, fun e a ok htest => exec_cutTestEnd_running htest ok⟩
    case element =>
      rw [grp_setGrp_same]
      exact ⟨rfl, rfl, rfl⟩

end Sys2Proof.Proofs
end

section
/-! A hot restart that becomes a warm one (R343, R348): what the restart record holds after each kind of restart. -/

namespace Sys2Proof.Proofs

open Sys2Proof.Machine Sys2Proof.Laws Sys2Proof.Safety

/-! ### The record after each kind of restart (R344, R364) -/

@[simp] theorem latchRestart_kind (s : State) (kind cause isl origin : Nat) : (latchRestart s kind cause isl origin).rst.kind = kind := by simp [latchRestart, setRst]
@[simp] theorem latchRestart_cause (s : State) (kind cause isl origin : Nat) : (latchRestart s kind cause isl origin).rst.cause = cause := by simp [latchRestart, setRst]
@[simp] theorem latchRestart_isl (s : State) (kind cause isl origin : Nat) : (latchRestart s kind cause isl origin).rst.isl = isl := by simp [latchRestart, setRst]

/-- A loss of power keeps them. -/
@[simp] theorem powerBase_kind (s : State) (tick : Nat) : (powerBase s tick).rst.kind = s.rst.kind := by simp [powerBase]
@[simp] theorem powerBase_cause (s : State) (tick : Nat) : (powerBase s tick).rst.cause = s.rst.cause := by simp [powerBase]

theorem coldRestart_rst (s : State) (cause isl origin trigger : Nat) :
    (coldRestart s cause isl origin trigger).rst.kind = 3 ∧ (coldRestart s cause isl origin trigger).rst.cause = cause := by
  simp [coldRestart]

@[simp] theorem sameBase_acqClose {old s : State} (u stop : Nat) (more : BitVec 16) : SameBase old (acqClose s u stop more) ↔ SameBase old s := by
  unfold acqClose
  dsimp only
  split
  · simp
  · simp only [sameBase_ite, sameBase_acqPoints, sameBase_note, sameBase_setAcq, ite_self]

@[simp] theorem sameBase_endTight {old s : State} (p : Nat) : SameBase old (endTight s p) ↔ SameBase old s := by
  unfold endTight
  split <;> simp

/-- What a warm trigger ends at once is outside the restart record. -/
@[simp] theorem warmStop_rst (s : State) : (warmStop s).rst = s.rst := by
  unfold warmStop
  extract_lets s1 sched s2 s3 s4 s5 s6
  have h2 : SameBase s s2 := by simp [s2, s1]
  have h3 : SameBase s2 s3 := by
    unfold s3
    split <;> simp
  have h6 : SameBase s3 s6 := by simp [s6, s5, s4]
  exact (irq_rst ..).trans (h6.rst.trans (h3.rst.trans h2.rst))

theorem warmRestart_rst {s : State} (h0 : s.rst.stage = 0) (hk : s.mode.cur ≠ .keep) (ht : s.mode.cur ≠ .test) (cause isl : Nat) :
    (warmRestart s cause isl).rst.kind = 1 ∧ (warmRestart s cause isl).rst.cause = cause ∧ (warmRestart s cause isl).rst.isl = isl := by
  unfold warmRestart
  rw [if_neg hk, if_neg ht, if_neg (by omega), if_neg (by omega)]
  extract_lets s1 s2
  have hkind : s1.rst.kind = 1 := by simp [s1]
  have hcause : s1.rst.cause = cause := by simp [s1]
  have hisl : s1.rst.isl = isl := by simp [s1]
  clear_value s1
  rw [tellRestart_rst, warmStop_rst]
  exact ⟨hkind, hcause, hisl⟩

/-- In M8 TEST it is carried out cold (R343). -/
theorem warmRestart_test {s : State} (ht : s.mode.cur = .test) (cause isl : Nat) : warmRestart s cause isl = coldRestart s 0x32 isl 8 cause := by
  unfold warmRestart
  rw [if_neg (by simp [ht]), if_pos ht]

/-! ### The second hot restart within 10 s before the trigger -/

theorem hotRestart_third {s : State} {isl : Nat} (h0 : s.rst.stage = 0)
    (hf : 2 ≤ (s.rst.hotLog.filter (fun e => e.1 == isl && decide (s.t0 < e.2 + 10000000000))).length) (cause : Nat) :
    hotRestart s cause isl = warmRestart s 0x13 isl :=
  (if_neg (not_not.mpr h0)).trans (if_pos hf)

/-! ### The statement -/

/-- Settles O60: both triggers are the warm restart's, whose record is known by its branch. -/
theorem hotRestartsEscalate : Obligations.HotRestartsEscalate := by
  unfold Obligations.HotRestartsEscalate
  intro s isl h0 hk
  have hwarm : ∀ c : Nat, (s.mode.cur ≠ .test → (warmRestart s 0x13 c).rst.kind = 1 ∧ (warmRestart s 0x13 c).rst.cause = 0x13 ∧ (warmRestart s 0x13 c).rst.isl = c) ∧
      (s.mode.cur = .test → (warmRestart s 0x13 c).rst.kind = 3 ∧ (warmRestart s 0x13 c).rst.cause = 0x32) := by
    refine fun c => ⟨fun ht => warmRestart_rst h0 hk ht 0x13 c, fun ht => ?_⟩
    rw [warmRestart_test ht]
    exact coldRestart_rst s 0x32 c 8 0x13
  refine ⟨fun a ha => ?timeout, fun a rest hreq hdue => ?trigger, fun cause => ⟨fun h2 ht => ?warm, fun h2 ht => ?cold, fun hfew => ?hot⟩⟩
  case timeout =>
    rw [exec_hotRestartTimeout ha]
    exact ⟨fun hearly => if_pos hearly, fun hlate => ⟨_, if_neg (Nat.not_lt.mpr hlate), hwarm isl.toNat⟩⟩
  case trigger => exact (exec_deviceRestartTrigger_due hreq hk hdue).1 rfl
  case warm =>
    obtain ⟨hkind, hcause, -⟩ := (hwarm isl.toNat).1 ht
    rw [hotRestart_third h0 h2]
    exact ⟨hkind, hcause⟩
  case cold =>
    rw [hotRestart_third h0 h2]
    exact (hwarm isl.toNat).2 ht
  case hot =>
    obtain ⟨hkind, hcause, -⟩ := hotRestart_rst h0 hfew cause
    exact ⟨hkind, hcause, (island_hotRestart_same h0 hfew cause).2⟩

end Sys2Proof.Proofs
end

section
/-! Power failure, M0 KEEP and the tiles' supplies (R343, R358-R362, R569, R570). -/

namespace Sys2Proof.Proofs

open Sys2Proof.Machine Sys2Proof.Laws Sys2Proof.Safety

/-! ### A forced mode leaves the restart record and the Steward -/

theorem SameButMailboxes.ready {s t : State} (h : SameButMailboxes s t) : t.host.ready = s.host.ready := by
  obtain ⟨x, l, hh⟩ := h.host
  rw [hh]

theorem forceMode'_keeps (s : State) (new : Mode) (trigger : Nat) :
    (forceMode' s new trigger).rst = s.rst ∧ (forceMode' s new trigger).host.ready = s.host.ready := by
  unfold forceMode'
  extract_lets u
  have hu : SameButMailboxes s u := (sameButMailboxes_abandonExch s).trans (sameButMailboxes_abandonCommit _)
  have h := entered_enterMode { u with mode := { u.mode with pend := none } } new trigger u.t0
  exact ⟨h.rst.trans hu.rst, h.ready.trans hu.ready⟩

/-! ### The flush's last writes are the Pocket's memory alone -/

theorem setPocket_pocket (s : State) (f : PocketSt → PocketSt) : (setPocket s f).pocket = f s.pocket := rfl

theorem timekeepWrite_rst (s : State) (correction : Bool) : (timekeepWrite s correction).rst = s.rst := by
  simp only [timekeepWrite, setPocket_rst]
  split <;> simp

theorem timekeepWrite_queue (s : State) (correction : Bool) : (timekeepWrite s correction).pocket.queue = s.pocket.queue := by
  simp only [timekeepWrite, setPocket_pocket]
  split <;> simp

theorem putLastWord_rst (s : State) (fault : Option (Nat × Nat)) : (putLastWord s fault).rst = s.rst := rfl

theorem putLastWord_queue (s : State) (fault : Option (Nat × Nat)) : (putLastWord s fault).pocket.queue = s.pocket.queue := rfl

/-! ### POWER_FAIL_FLUSH and PWRFAIL_RECOVERED (R358, R360) -/

section PowerFails

variable {s : State} (hk : s.mode.cur ≠ .keep)

theorem exec_powerFailFlush_failing (hl : s.rst.lowAt ≠ none) (done : Bool) (n : Nat) (us_ : Half) : exec (.powerFailFlush done n us_) s = .next s :=
  if_pos (by simp [Option.isSome_iff_ne_none, hl])

include hk

theorem exec_powerFailFlush (hl : s.rst.lowAt = none) (done : Bool) (n : Nat) (us_ : Half) :
    ∃ t, exec (.powerFailFlush done n us_) s = .next t ∧ t.rst.stage = 4 ∧ t.rst.lowAt = some s.t0 ∧ t.rst.flushed = done ∧
      t.rst.flushUs = (if done then us_.toNat else 0) ∧ t.mode.cur = s.mode.cur ∧ t.mode.pend = none ∧ t.pocket.queue = [] := by
  show ∃ t, execPowerFailFlush done n us_ s = _ ∧ _
  unfold execPowerFailFlush
  rw [if_neg (by simp [alive_of_powered hk, hl])]
  extract_lets state org bt l mode0 s1 s2 s3 s4 r x s5 s6
  have h1 : SameButMailboxes { s with mode := { mode0 with pend := none } } s1 := sameButMailboxes_abandonExch _
  have h3 : s3.t0 = s1.t0 ∧ s3.mode = s1.mode ∧ s3.pocket.queue = [] := ⟨rfl, rfl, by rw [show s3.pocket = _ from setPocket_pocket ..]⟩
  obtain ⟨ht, hmode, hqueue⟩ := h3
  rw [h1.t0] at ht
  rw [h1.mode] at hmode
  clear_value s3
  have h5 : s5.rst = s4.rst ∧ s5.mode = s3.mode ∧ s5.pocket.queue = s3.pocket.queue := ⟨rfl, rfl, rfl⟩
  clear_value s5
  have h6 : s6.rst = s5.rst ∧ s6.mode = s5.mode ∧ s6.pocket.queue = s5.pocket.queue := by
    unfold s6
    split
    · split
      · exact ⟨(putLastWord_rst ..).trans (timekeepWrite_rst ..), (putLastWord_mode ..).trans (timekeepWrite_mode ..), (putLastWord_queue ..).trans (timekeepWrite_queue ..)⟩
      · exact ⟨timekeepWrite_rst .., timekeepWrite_mode .., timekeepWrite_queue ..⟩
    · exact ⟨rfl, rfl, rfl⟩
  clear_value s6
  obtain ⟨hrst6, hmode6, hqueue6⟩ := h6
  obtain ⟨hrst5, hmode5, hqueue5⟩ := h5
  have hrst : s6.rst = s4.rst := hrst6.trans hrst5
  have hm : s6.mode = { s.mode with pend := none } := hmode6.trans (hmode5.trans hmode)
  have h4 : s4.rst.stage = 4 ∧ s4.rst.lowAt = some s3.t0 ∧ s4.rst.flushed = done ∧ s4.rst.flushUs = (if done then us_.toNat else 0) := ⟨rfl, rfl, rfl, rfl⟩
  obtain ⟨hstage, hlow, hflushed, hus⟩ := h4
  refine ⟨s6, rfl, ?_, ?_, ?_, ?_, ?_, ?_, hqueue6.trans (hqueue5.trans hqueue)⟩
  · rw [hrst, hstage]
  · rw [hrst, hlow, ht]
  · rw [hrst, hflushed]
  · rw [hrst, hus]
  · rw [hm]
  · rw [hm]

theorem exec_pwrfailRecovered (hl : s.rst.lowAt ≠ none) :
    exec .pwrfailRecovered s = .next (warmRestart (setRst s (fun r => { r with
      lowAt := none, stage := if s.mode.cur = .boot then 2 else if s.mode.cur = .resume then 3 else 0 })) 0x15 0xFF) :=
  if_neg (by simp [alive_of_powered hk, hl])

/-! ### The reset pin and a rail (R343, R570) -/

theorem exec_resetPin (hl : s.rst.lowAt = none) : exec .resetPin s = .next (coldRestart s 0x31 0xFF (originNow s) 0x31) :=
  if_neg (by simp [alive_of_powered hk, hl])

theorem exec_supplyRailFault (hl : s.rst.lowAt = none) (rail : Fin 5) : exec (.supplyRailFault rail) s = .next (report s 0x0601 0x7F rail.val) :=
  if_neg (by simp [alive_of_powered hk, hl])

/-! ### M0 is entered and left (R361, R362) -/

theorem exec_keepEntry : ∃ t, exec .keepEntry s = .next t ∧ t.mode.cur = .keep ∧ t.rst.stage = 4 ∧ t.host.ready = false := by
  show ∃ t, execKeepEntry s = _ ∧ _
  unfold execKeepEntry
  rw [if_neg (by simp [alive_of_powered hk])]
  extract_lets org s1
  obtain ⟨hcur, -, -⟩ := forceMode'_enters { s1 with host := { s1.host with ready := false } } .keep 7
  obtain ⟨hrst, hready⟩ := forceMode'_keeps { s1 with host := { s1.host with ready := false } } .keep 7
  refine ⟨_, rfl, hcur, ?_, hready⟩
  rw [hrst]
  show (if s.rst.lowAt.isSome = true then { s.rst with stage := 4, tr := none } else _ : RestartSt).stage = 4
  split <;> rfl

end PowerFails

theorem exec_resetPin_failing {s : State} (hl : s.rst.lowAt ≠ none) : exec .resetPin s = .next s :=
  if_pos (by simp [Option.isSome_iff_ne_none, hl])

/-- Below 2.2 V the low flag alone is set (R362). -/
theorem exec_vbatThreshold_low {s : State} : exec (.vbatThreshold false) s = .next (setRst s (fun r => { r with vbatLow := true })) := rfl

section Keep

variable {s : State} (hk : s.mode.cur = .keep)
include hk

theorem exec_keepEntry_again : exec .keepEntry s = .next s := if_pos (by simp [alive_of_keep hk])

theorem exec_vbatThreshold_lost : ∃ t, exec (.vbatThreshold true) s = .next t ∧ t.rst.vbatLost = true := by
  show ∃ t, execVbatThreshold true s = _ ∧ _
  unfold execVbatThreshold
  rw [if_neg (by simp), if_neg (by simp [alive_of_keep hk])]
  exact ⟨_, rfl, rfl⟩

theorem exec_powerReturn (k : BitVec 48) (ok : Bool) :
    ∃ t, exec (.powerReturn k ok) s = .next t ∧ t.mode.cur = .boot ∧ t.rst.kind = 2 ∧ t.rst.cause = (if s.rst.flushed then 0x20 else 0x21) := by
  show ∃ t, execPowerReturn k ok s = _ ∧ _
  unfold execPowerReturn
  rw [if_neg (by simpa using hk)]
  extract_lets low tickLow s1 s2
  have h2 : s2.rst.kind = 2 ∧ s2.rst.cause = (if s.rst.flushed then 0x20 else 0x21) := by simp [s2, s1, setRst]
  clear_value s2
  obtain ⟨hkind, hcause⟩ := h2
  split
  next v s3 h3 =>
  extract_lets s4
  have h4 : s4.rst.kind = 2 ∧ s4.rst.cause = (if s.rst.flushed then 0x20 else 0x21) ∧ s4.mode.cur = .boot := by
    have h3' : s3.rst = s2.rst := by
      rw [show s3 = _ from (congrArg Prod.snd h3).symm, apply_ite Prod.snd]
      split <;> rfl
    simp only [s4, powerBase_kind, powerBase_cause, h3', hkind, hcause, true_and]
    simp only [powerBase, sysPoint_mode]
    rfl
  clear_value s4
  obtain ⟨hkind4, hcause4, hcur4⟩ := h4
  split
  next lost s5 h5 =>
  extract_lets s6
  have h6 : s6.rst = s4.rst ∧ s6.mode = s4.mode := by
    have h5' : s5.rst = s4.rst ∧ s5.mode = s4.mode := by
      rw [show s5 = _ from (congrArg Prod.snd h5).symm, apply_ite Prod.snd]
      split <;> exact ⟨rfl, rfl⟩
    unfold s6
    split <;> exact h5'
  clear_value s6
  refine ⟨_, rfl, ?_⟩
  rw [tellRestart_mode, tellRestart_rst, h6.1, h6.2]
  exact ⟨hcur4, hkind4, hcause4⟩

end Keep

/-! ### A tile's supply (R569) -/

/-- The islands' alignment, the faults reported and whether each tile is powered and configured are those of `s`; a silent tile's gap buffer may have grown. -/
structure SameSupply (s t : State) : Prop where
  islands : t.islands = s.islands
  faultq : t.faultq = s.faultq
  powered : ∀ n, (node t n).powered = (node s n).powered
  configured : ∀ n, (node t n).configured = (node s n).configured

theorem SameSupply.trans {s t u : State} (h : SameSupply s t) (k : SameSupply t u) : SameSupply s u :=
  ⟨k.islands.trans h.islands, k.faultq.trans h.faultq, fun n => (k.powered n).trans (h.powered n), fun n => (k.configured n).trans (h.configured n)⟩

theorem SameSupply.of_eq {s t : State} (hi : t.islands = s.islands) (hf : t.faultq = s.faultq) (hn : t.nodes = s.nodes) : SameSupply s t :=
  ⟨hi, hf, fun n => by rw [node, hn]; rfl, fun n => by rw [node, hn]; rfl⟩

theorem SameSupply.refl (s : State) : SameSupply s s := .of_eq rfl rfl rfl

theorem SameSupply.foldl {β : Type} {f : State → β → State} (h : ∀ s b, SameSupply s (f s b)) (l : List β) (s : State) : SameSupply s (l.foldl f s) :=
  List.foldlRecOn l f (.refl s) fun _ k b _ => k.trans (h _ b)

theorem sameSupply_note (s : State) (cls : Ev) (isl unit object : Nat) (payload : List Nat) : SameSupply s (note s cls isl unit object payload) := by
  have hnode : ∀ n, (node (note s cls isl unit object payload) n).powered = (node s n).powered ∧
      (node (note s cls isl unit object payload) n).configured = (node s n).configured := by
    intro n
    unfold note
    split
    · by_cases hn : n = isl - 0x60
      · subst hn
        simp [node, tget_tmod_same]
      · simp [node, tget_tmod_other, hn]
    · exact ⟨rfl, rfl⟩
  exact ⟨note_islands .., note_faultq .., fun n => (hnode n).1, fun n => (hnode n).2⟩

theorem sameSupply_chFacets (s : State) (c : Nat) : SameSupply s (chFacets s c) :=
  .of_eq (by simp [chFacets, apply_ite State.islands]) (by simp [chFacets, apply_ite State.faultq]) (by simp [chFacets, apply_ite State.nodes])

theorem sameSupply_chRefresh (s : State) (c : Nat) : SameSupply s (chRefresh s c) := by
  unfold chRefresh
  split
  · exact sameSupply_chFacets ..
  · extract_lets on s1
    have h1 : SameSupply s s1 := .of_eq (by simp [s1, apply_ite State.islands]) (by simp [s1, apply_ite State.faultq]) (by simp [s1, apply_ite State.nodes])
    exact h1.trans (sameSupply_chFacets ..)

theorem sameSupply_aoRefresh (s : State) (a : Nat) : SameSupply s (aoRefresh s a) := by
  unfold aoRefresh
  extract_lets s1 hz was s2 q s3 s4
  have h1 : SameSupply s s1 := by
    unfold s1
    split
    · exact .of_eq rfl rfl rfl
    · exact .refl s
  have h2 : SameSupply s1 s2 := by
    unfold s2
    split
    · exact .refl s1
    · exact SameSupply.trans (t := setAout s1 a _) (.of_eq rfl rfl rfl) (sameSupply_note ..)
  have h4 : SameSupply s2 s4 := .of_eq rfl rfl rfl
  refine h1.trans (h2.trans (h4.trans ?_))
  split
  · exact .refl s4
  · exact .of_eq (by simp) (by simp) (by simp)

theorem sameSupply_refreshOuts (s : State) : SameSupply s (refreshOuts s) :=
  (SameSupply.foldl sameSupply_chRefresh _ _).trans (.foldl sameSupply_aoRefresh _ _)

section TileSupply

variable {s : State} {tile : Fin 4}

theorem exec_tileSupplyLoss (hp : (node s tile.val).powered = true) (hk : s.mode.cur ≠ .keep) :
    ∃ t, exec (.tileSupplyLoss tile) s = .next t ∧ (node t tile.val).powered = false ∧ (node t tile.val).configured = false ∧
      tileAligned t tile.val = false ∧ (⟨0x0602, 0x60 + tile.val, tile.val, 0⟩ : FaultRep) ∈ t.faultq := by
  show ∃ t, execTileSupplyLoss tile s = _ ∧ _
  unfold execTileSupplyLoss
  rw [if_neg (by simp [hp])]
  extract_lets n s1 s2 s3 s4 io s5
  have hs1 : s1.faultq = s.faultq ++ [⟨0x0602, 0x60 + n, n, 0⟩] := congrArg State.faultq (if_pos (alive_of_powered hk))
  have h4 : SameSupply s3 s4 :=
    .foldl (f := fun s (e : Nat × AxSt) => axFacets (axisCoast s e.1) e.1) (fun s e => .of_eq (by simp [axisCoast]) (by simp [axisCoast]) (by simp [axisCoast])) _ _
  have h5 : SameSupply s3 (refreshOuts s5) := (h4.trans (u := s5) (.of_eq rfl rfl rfl)).trans (sameSupply_refreshOuts s5)
  have h2 : (node s3 n).powered = false ∧ (node s3 n).configured = false := by
    rw [show node s3 n = node s2 n from rfl, show node s2 n = _ from node_setNode_same ..]
    exact ⟨rfl, rfl⟩
  refine ⟨_, rfl, (h5.powered n).trans h2.1, (h5.configured n).trans h2.2, ?_, ?_⟩
  · rw [tileAligned, h5.islands]
    exact congrArg IslandSt.aligned (island_setIsland_same ..)
  · rw [h5.faultq]
    show (⟨0x0602, 0x60 + n, n, 0⟩ : FaultRep) ∈ s1.faultq
    rw [hs1]
    exact List.mem_append_right _ (.head _)

theorem exec_tilePowerUp (hp : (node s tile.val).powered = false) :
    ∃ t, exec (.tilePowerUp tile) s = .next t ∧ (node t tile.val).powered = true ∧ (node t tile.val).configured = false ∧ (node t tile.val).silent = false := by
  refine ⟨_, if_neg (by simp [hp]), ?_⟩
  rw [node_setNode_same]
  exact ⟨rfl, rfl, rfl⟩

end TileSupply

/-! ### The statement -/

/-- Settles O32: each command of power and supply by what its last step leaves of the restart record, the mode and the tile. -/
theorem powerFailureAndKeep : Obligations.PowerFailureAndKeep := by
  unfold Obligations.PowerFailureAndKeep
  refine fun s => ⟨fun done n us_ hk hl => exec_powerFailFlush hk hl done n us_, fun done n us_ hl => exec_powerFailFlush_failing hl done n us_,
    exec_pwrfailRecovered, exec_keepEntry, exec_keepEntry_again, fun k ok hk => exec_powerReturn hk k ok, exec_resetPin, exec_resetPin_failing,
    exec_vbatThreshold_low, exec_vbatThreshold_lost, fun rail hk hl => exec_supplyRailFault hk hl rail, fun tile => ⟨exec_tileSupplyLoss, fun hp => ⟨?_, exec_tilePowerUp hp⟩⟩⟩
  exact if_pos (by simp [hp])

end Sys2Proof.Proofs
end

section
/-! Replay after a silent hold, the Pocket's scan and firmware restarts (R355-R357, R369, R552, R553). -/

namespace Sys2Proof.Proofs

open Sys2Proof.Machine Sys2Proof.Laws Sys2Proof.Safety

/-! ### An event that no tile reports -/

/-- It waits for the recorder, whichever tile is silent. -/
theorem note_elsewhere (s : State) (cls : Ev) {isl : Nat} (h : isl < 0x60) (unit object : Nat) (payload : List Nat) :
    note s cls isl unit object payload =
      { s with evq := s.evq ++ [⟨cls, bv 32 (isl * 2 ^ 24 + unit), bv 32 object, payload.map (bv 64), false⟩] } :=
  if_neg fun hs => absurd hs.1 (Nat.not_le.mpr h)

/-! ### The gap buffer (R356, R357) -/

section Gap

variable {s : State} {tile : Fin 4}

theorem exec_gapBufferFull (hs : (node s tile.val).silent = true) (hf : (node s tile.val).gapFull = false) (hl : gapCapacity ≤ (node s tile.val).gap.length) :
    exec (.gapBufferFull tile) s = .next (setNode s tile.val (fun d => { d with gapFull := true, gapFullAt := s.t0 })) :=
  if_neg (by simp only [hs, hf, Nat.not_lt.mpr hl]; decide)

theorem exec_gapBufferFull_else (h : (node s tile.val).silent = false ∨ (node s tile.val).gapFull = true ∨ (node s tile.val).gap.length < gapCapacity) :
    exec (.gapBufferFull tile) s = .next s :=
  if_pos (h.imp_left fun hs => by simp only [hs]; decide)

/-- Its summary takes fresh values and changes nothing else. -/
theorem gapSummary_frame (s : State) (n : Nat) : ∃ k, (gapSummary s n).2 = { s with freeCtr := k } := by
  unfold gapSummary
  exact List.foldlRecOn (motive := fun a : List ThUpd × State => ∃ k, a.2 = { s with freeCtr := k }) _ _ ⟨s.freeCtr, rfl⟩ fun a ⟨k, hk⟩ e _ => ⟨k + 1, by rw [hk]; rfl⟩

theorem exec_gapBufferReplay (ha : tileAligned s tile.val = true)
    (hsome : (node s tile.val).gap ≠ [] ∨ (node s tile.val).gapLost ≠ [] ∨ (node s tile.val).gapEv ≠ []) :
    ∃ t, exec (.gapBufferReplay tile) s = .next t ∧ (node t tile.val).gap = [] ∧ (node t tile.val).gapEv = [] ∧ (node t tile.val).replaying = true ∧
      ∃ l, t.evq = s.evq ++ l ++ (node s tile.val).gapEv ∧ ((node s tile.val).replaying = true → l = []) := by
  show ∃ t, execGapBufferReplay tile s = _ ∧ _
  unfold execGapBufferReplay
  have hgo : ¬ ((!tileAligned s tile) = true ∨ ((node s tile).gap.isEmpty = true ∧ (node s tile).gapLost.isEmpty = true ∧ (node s tile).gapEv.isEmpty = true)) := by
    simp only [ha, List.isEmpty_iff]
    tauto
  rw [if_neg hgo]
  obtain ⟨k, hk⟩ := gapSummary_frame s tile
  generalize gapSummary s tile = x at hk ⊢
  obtain ⟨sum, u⟩ := x
  obtain rfl : u = { s with freeCtr := k } := hk
  dsimp -zeta only
  extract_lets l out s1 thatch s2
  refine ⟨_, rfl, ?_⟩
  rw [node_setNode_same]
  refine ⟨rfl, rfl, rfl, ?_⟩
  have h1 : ∃ l, s1.evq = s.evq ++ l ∧ ((node s tile).replaying = true → l = []) := by
    unfold s1
    by_cases hr : (node s tile).replaying = true
    · rw [if_pos hr]
      exact ⟨[], (List.append_nil _).symm, fun _ => rfl⟩
    · rw [if_neg hr, note_elsewhere _ _ (by decide)]
      exact ⟨_, rfl, fun h => absurd h hr⟩
  obtain ⟨l', hl, hnil⟩ := h1
  exact ⟨l', congrArg (· ++ (node s tile).gapEv) hl, hnil⟩

theorem exec_gapBufferReplay_unaligned (ha : tileAligned s tile.val = false) : exec (.gapBufferReplay tile) s = .next s :=
  if_pos (.inl (by rw [ha]; rfl))

theorem exec_replayComplete (hr : (node s tile.val).replaying = true) (hg : (node s tile.val).gap = []) (he : (node s tile.val).gapEv = []) :
    exec (.replayComplete tile) s =
      .next (note (setNode s tile.val (fun d => { d with replaying := false })) Ev.gapReplay 0x42 tile 0 [0, (node s tile.val).silentSince]) :=
  if_neg (by simp [hr, hg, he])

theorem exec_replayComplete_else (h : (node s tile.val).replaying = false ∨ (node s tile.val).gap ≠ []) : exec (.replayComplete tile) s = .next s :=
  if_pos (by rcases h with h | h <;> simp [h])

end Gap

/-! ### The Pocket's scan (R369) -/

section PocketScan

variable {s : State}

theorem exec_pocketScan_sound (hk : s.mode.cur ≠ .keep) : exec (.pocketScan []) s = .next s := if_neg (by simp [alive_of_powered hk])

theorem exec_pocketScan_keep (hk : s.mode.cur = .keep) (l : List (BitVec 12)) : exec (.pocketScan l) s = .next s := if_pos (by simp [alive_of_keep hk])

/-- A faulty word is recorded with its keep tick and reported. -/
theorem exec_pocketScan_faulty (hk : s.mode.cur ≠ .keep) (w : BitVec 12) :
    ∃ t, exec (.pocketScan [w]) s = .next t ∧ t.faultq = s.faultq ++ [⟨0x0C02, 0x50, w.toNat, 0⟩] ∧ (w.toNat, keepTick s) ∈ t.rst.pocketErrs := by
  refine ⟨_, if_neg (by simp [alive_of_powered hk]), ?_⟩
  rw [List.foldl_cons, List.foldl_nil]
  extract_lets t recent s1 s2
  have h2 : s2.faultq = s.faultq ++ [⟨0x0C02, 0x50, w.toNat, 0⟩] := congrArg (· ++ _) (note_faultq ..)
  have h3 : (w.toNat, t) ∈ s2.rst.pocketErrs := by
    have hrst : s2.rst = s1.rst := note_rst ..
    rw [hrst]
    exact List.mem_append_right _ (.head _)
  clear_value s2
  split
  · exact ⟨(note_faultq ..).trans h2, by rw [note_rst]; exact h3⟩
  · exact ⟨h2, h3⟩

end PocketScan

/-! ### Firmware restarts (R552, R553) -/

section Firmware

variable {s : State}

theorem exec_firmwareSwapRestart_due {t : Nat} (h : s.fw.swapAt = some t) (ht : t ≤ s.t0) (h0 : s.rst.stage = 0) :
    exec .firmwareSwapRestart s = .next (warmRestart { s with
      fw := { s.fw with swapAt := none, bank := 1 - s.fw.bank, swapped := true, badBoots := 0 } } 0x14 0xFF) := by
  show execFirmwareSwapRestart s = _
  simp only [execFirmwareSwapRestart, h]
  exact if_neg (by simp [h0, ht])

theorem exec_firmwareSwapRestart_early {t : Nat} (h : s.fw.swapAt = some t) (ht : s.t0 < t) : exec .firmwareSwapRestart s = .next s := by
  show execFirmwareSwapRestart s = _
  simp only [execFirmwareSwapRestart, h]
  exact if_pos (.inl ht)

theorem exec_stewardReadyTimeout_none (h : s.fw.swapped = false ∨ s.host.ready = true) : exec .stewardReadyTimeout s = .next s :=
  if_pos (by rcases h with h | h <;> simp [h])

variable (hsw : s.fw.swapped = true) (hr : s.host.ready = false) (ht : s.rst.t0Trigger + 5000000000 ≤ s.t0)
include hsw hr ht

theorem stewardReady_isLate : ¬ ((!s.fw.swapped) = true ∨ s.host.ready = true ∨ s.t0 < s.rst.t0Trigger + 5 * sec) := by
  rintro (h | h | h)
  · simp [hsw] at h
  · simp [hr] at h
  · unfold sec at h
    omega

theorem exec_stewardReadyTimeout_first (hb : s.fw.badBoots = 0) :
    exec .stewardReadyTimeout s = .next (warmRestart { s with fw := { s.fw with badBoots := 1 } } 0x11 0) := by
  refine (if_neg (stewardReady_isLate hsw hr ht)).trans ?_
  simp [hb]

theorem exec_stewardReadyTimeout_second (hb : 1 ≤ s.fw.badBoots) (hv : tfind s.fw.valid (1 - s.fw.bank) ≠ none) :
    exec .stewardReadyTimeout s = .next (warmRestart
      (note { s with fw := { s.fw with bank := 1 - s.fw.bank, swapped := false, badBoots := 0 } } Ev.fwFallback 0x00 0 0 [1 - s.fw.bank]) 0x11 0) := by
  have hback : (decide (2 ≤ s.fw.badBoots + 1) && (tfind s.fw.valid (1 - s.fw.bank)).isSome) = true := by
    simpa [Option.isSome_iff_ne_none, hv] using hb
  refine (if_neg (stewardReady_isLate hsw hr ht)).trans ?_
  simp only [hback, if_true]

end Firmware

/-! ### The statement -/

/-- Settles O31: each command by the branch of its condition. -/
theorem replayPocketAndFirmware : Obligations.ReplayPocketAndFirmware := by
  unfold Obligations.ReplayPocketAndFirmware
  exact ⟨fun s tile => ⟨exec_gapBufferFull, exec_gapBufferFull_else, fun ha _ => exec_gapBufferReplay ha, exec_gapBufferReplay_unaligned, exec_replayComplete,
      exec_replayComplete_else⟩,
    fun s => ⟨fun hk => ⟨exec_pocketScan_sound hk, exec_pocketScan_faulty hk⟩, exec_pocketScan_keep,
      fun t h => ⟨exec_firmwareSwapRestart_due h, exec_firmwareSwapRestart_early h⟩,
      fun hsw hr ht => ⟨exec_stewardReadyTimeout_first hsw hr ht, exec_stewardReadyTimeout_second hsw hr ht⟩, exec_stewardReadyTimeout_none⟩⟩

end Sys2Proof.Proofs
end

section
/-! The Ridge: its permits, what a fault report leaves, its points (R490-R505). -/

namespace Sys2Proof.Proofs

open Sys2Proof.Machine Sys2Proof.Laws Sys2Proof.Safety

/-! ### Permits (R493) -/

/-- A running maximum stays below a bound exactly when its start and every element do. -/
theorem foldl_max_lt {α : Type} (f : α → Nat) (n : Nat) (l : List α) (a : Nat) : l.foldl (fun m x => max m (f x)) a < n ↔ a < n ∧ ∀ x ∈ l, f x < n := by
  induction l generalizing a with
  | nil => simp
  | cons x l ih =>
    rw [List.foldl_cons, ih, List.forall_mem_cons, Nat.max_lt, and_assoc]

theorem reactionNum_lt_two (r : Reaction) : r.num < 2 ↔ r ≠ .safe ∧ r ≠ .ridgeStop := by
  cases r <;> decide

theorem topReaction_lt_two (s : State) : topReaction s < 2 ↔ ∀ l ∈ s.ridge.latches, l.react ≠ .safe ∧ l.react ≠ .ridgeStop := by
  unfold topReaction
  rw [foldl_max_lt (fun l : Latch => l.react.num)]
  simp only [reactionNum_lt_two, Nat.zero_lt_two, true_and]

theorem groupLatched_eq_false (s : State) (g : Nat) :
    groupLatched s g = false ↔ ∀ l ∈ s.ridge.latches, l.react = .group → l.groups.getLsbD g = false := by
  simp [groupLatched]

theorem elemFresh_iff (s : State) (k : Nat) : elemFresh s k = true ↔ ∃ t, (elem s k).lastPass = some t ∧ s.t0 ≤ t + 8 * 3600 * 1000000000 := by
  unfold elemFresh hours8 sec
  cases (elem s k).lastPass <;> simp

theorem groupTested_iff (s : State) (g : Nat) :
    groupTested s g = true ↔ ∀ e, e = 2 * g ∨ e = 2 * g + 1 → ∃ t, (elem s e).lastPass = some t ∧ s.t0 ≤ t + 8 * 3600 * 1000000000 := by
  rw [groupTested, Bool.and_eq_true, elemFresh_iff, elemFresh_iff]
  exact ⟨fun h e he => he.elim (fun h1 => h1 ▸ h.1) (fun h1 => h1 ▸ h.2), fun h => ⟨h _ (.inl rfl), h _ (.inr rfl)⟩⟩

/-- Settles O25: each conjunct of a grant by its own meaning. -/
theorem permitsAreGrantedOnlyWhen : Obligations.PermitsAreGrantedOnlyWhen := by
  unfold Obligations.PermitsAreGrantedOnlyWhen
  intro s g _
  have hlatch : (∀ l ∈ s.ridge.latches, l.react ≠ .safe ∧ l.react ≠ .ridgeStop ∧ (l.react = .group → l.groups.getLsbD g = false)) ↔
      topReaction s < 2 ∧ groupLatched s g = false := by
    rw [topReaction_lt_two, groupLatched_eq_false]
    simp only [← and_assoc, forall₂_and]
  rw [hlatch, ← groupTested_iff]
  simp only [granted, Bool.and_eq_true, bne_iff_ne, List.contains_iff_mem, decide_eq_true_eq, Bool.not_eq_true']
  tauto

/-! ### The Ridge's points leave its state and the reports -/

section RidgePoints

variable (s : State)

theorem ridgePoints_frame : (ridgePoints s).ridge = s.ridge ∧ (ridgePoints s).faultq = s.faultq ∧ (ridgePoints s).t0 = s.t0 := by
  unfold ridgePoints
  extract_lets p gr de age old0 old1 code main grps s1
  have h1 : s1.ridge = s.ridge ∧ s1.faultq = s.faultq ∧ s1.t0 = s.t0 := ⟨updates_ridge .., updates_faultq .., updates_t0 ..⟩
  clear_value s1
  split
  · exact ⟨(irq_ridge ..).trans h1.1, (irq_faultq ..).trans h1.2.1, (irq_t0 ..).trans h1.2.2⟩
  · exact h1

@[simp] theorem ridgePoints_ridge : (ridgePoints s).ridge = s.ridge := (ridgePoints_frame s).1
@[simp] theorem ridgePoints_faultq : (ridgePoints s).faultq = s.faultq := (ridgePoints_frame s).2.1
@[simp] theorem ridgePoints_t0 : (ridgePoints s).t0 = s.t0 := (ridgePoints_frame s).2.2

end RidgePoints

/-! ### What a fault leaves in the Ridge (R496-R498, R504) -/

/-- The counts with one more fault of the code. -/
def countFault (r : RidgeSt) (code : Nat) : RidgeSt :=
  { r with counts := tset r.counts code ((tget 0 r.counts code + 1) % 2 ^ 32), total := (r.total + 1) % 2 ^ 32 }

/-- The fault detail takes fresh values and changes nothing else. -/
theorem detailBytes_frame (s : State) : ∃ k, (detailBytes s).2 = { s with freeCtr := k } := by
  unfold detailBytes
  exact List.foldlRecOn (motive := fun a : List Byte × State => ∃ k, a.2 = { s with freeCtr := k }) _ _ ⟨s.freeCtr, rfl⟩ fun a ⟨k, hk⟩ e _ => ⟨k + 1, by rw [hk]; rfl⟩

/-- The record after a latching fault: taken at the first one after a release, counted else. -/
structure RecordTaken (a : FaultRecord) (code react t0 : Nat) (b : FaultRecord) : Prop where
  first : a.latched = false → b.code = code ∧ b.react = react ∧ b.t0 = t0 ∧ b.count = 1 ∧ b.prevCode = a.code ∧ b.latched = true
  further : a.latched = true → b = { a with count := min (a.count + 1) 65535 }

theorem declared_congr {s t : State} (h : t.ridge.config = s.ridge.config) : declared t = declared s := by
  funext g
  simp only [declared, safeParam, h]

theorem allGroups_congr {s t : State} (h : t.ridge.config = s.ridge.config) : allGroups t = allGroups s := by
  rw [allGroups, declared_congr h]
  rfl

/-- The groups a fault names are the configuration copy's (R490). -/
theorem faultGroups_congr {s t : State} (h : t.ridge.config = s.ridge.config) (f : FaultRep) : faultGroups t f = faultGroups s f := by
  unfold faultGroups tileGroups
  rw [allGroups_congr h, declared_congr h]

section Fault

variable {s : State} {f : FaultRep}

/-- Under LOG it is counted alone. -/
theorem ridgeFault_log (h : faultReact s f = .log) :
    (ridgeFault s f).ridge = countFault s.ridge f.code ∧ (ridgeFault s f).faultq = s.faultq ∧ (ridgeFault s f).mode = s.mode := by
  unfold ridgeFault
  simp only [h, if_true]
  exact ⟨by simp; rfl, by simp, by simp⟩

/-- Under GROUP and RIDGE_STOP it is latched and recorded too. -/
theorem ridgeFault_latching (hl : faultReact s f ≠ .log) (hs : faultReact s f ≠ .safe) :
    ∃ b, RecordTaken s.ridge.record f.code (faultReact s f).num s.t0 b ∧
      (ridgeFault s f).ridge = { countFault s.ridge f.code with
        record := b
        latches := s.ridge.latches ++ [⟨f.code, faultReact s f, if faultReact s f = .group then faultGroups s f else allGroups s, f.isl, f.unit,
          !(f.code == 0x0401 || f.code == 0x0402), false⟩]
        stopped := s.ridge.stopped || faultReact s f == .ridgeStop } ∧
      (ridgeFault s f).faultq = s.faultq ∧ (ridgeFault s f).mode = s.mode := by
  unfold ridgeFault
  extract_lets r cnt s1 s2 cls s3 gs first was e b
  have h3 : s3.ridge = countFault s.ridge f.code ∧ s3.faultq = s.faultq ∧ s3.mode = s.mode ∧ s3.t0 = s.t0 :=
    ⟨(note_ridge ..).trans (update_ridge ..), (note_faultq ..).trans (update_faultq ..), (note_mode ..).trans (update_mode ..), (note_t0 ..).trans (update_t0 ..)⟩
  obtain ⟨hridge, hfaultq, hmode, ht0⟩ := h3
  rw [if_neg (show ¬ r = .log from hl)]
  split
  next det s4 hdet =>
  obtain ⟨k, hk⟩ : ∃ k, s4 = { s3 with freeCtr := k } := by
    rw [show s4 = _ from (congrArg Prod.snd hdet).symm, apply_ite Prod.snd]
    split
    · exact detailBytes_frame s3
    · exact ⟨s3.freeCtr, rfl⟩
  have hs4 : s4.ridge = countFault s.ridge f.code ∧ s4.faultq = s.faultq ∧ s4.mode = s.mode ∧ s4.t0 = s.t0 := by
    rw [hk]
    exact ⟨hridge, hfaultq, hmode, ht0⟩
  have hgs : gs = if faultReact s f = .group then faultGroups s f else allGroups s := by
    have hconfig : s3.ridge.config = s.ridge.config := by
      rw [hridge]
      rfl
    unfold gs
    rw [faultGroups_congr hconfig f, allGroups_congr hconfig]
  have hfirst : first = !s.ridge.record.latched := by
    unfold first
    rw [hridge]
    rfl
  clear_value gs first
  clear hk hdet
  obtain ⟨hridge4, hfaultq4, hmode4, ht04⟩ := hs4
  extract_lets s5 s6
  rw [if_neg (fun h => hs h.1)]
  refine ⟨s5.ridge.record, ⟨fun hl0 => ?_, fun hl1 => ?_⟩, ?_, ?_, ?_⟩
  · obtain rfl : first = true := hfirst.trans (by rw [hl0]; rfl)
    refine ⟨rfl, rfl, ht04, rfl, ?_, rfl⟩
    show s4.ridge.record.code = s.ridge.record.code
    rw [hridge4]
    rfl
  · obtain rfl : first = false := hfirst.trans (by rw [hl1]; rfl)
    show ({ s4.ridge.record with count := min (s4.ridge.record.count + 1) 65535 } : FaultRecord) = _
    rw [hridge4]
    rfl
  · rw [ridgePoints_ridge]
    show ({ s4.ridge with record := _, latches := s4.ridge.latches ++ [_], stopped := s4.ridge.stopped || r == .ridgeStop } : RidgeSt) = _
    rw [hridge4, hgs]
    rfl
  · rw [ridgePoints_faultq]
    exact hfaultq4
  · rw [ridgePoints_mode]
    exact hmode4

end Fault

/-! ### RIDGE_FAULT_REPORT -/

section FaultReport

variable {s : State} {f : FaultRep} {q : List FaultRep}

theorem exec_ridgeFaultReport_none (h : s.faultq = []) : exec .ridgeFaultReport s = .next s := by
  show execRidgeFaultReport s = _
  rw [execRidgeFaultReport, h]

theorem exec_ridgeFaultReport (h : s.faultq = f :: q) : exec .ridgeFaultReport s = .next (ridgeFault { s with faultq := q } f) := by
  show execRidgeFaultReport s = _
  rw [execRidgeFaultReport, h]

end FaultReport

/-- Settles O26: the report's state is the fault's, by its reaction. -/
theorem faultsReachTheRidge : Obligations.FaultsReachTheRidge := by
  unfold Obligations.FaultsReachTheRidge
  refine fun s f q => ⟨exec_ridgeFaultReport_none, fun hq hsafe => ⟨_, exec_ridgeFaultReport hq, ?_⟩⟩
  have hreact : faultReact { s with faultq := q } f = faultReact s f := rfl
  by_cases hl : faultReact s f = .log
  · obtain ⟨hridge, hfaultq, hmode⟩ := ridgeFault_log (hreact.trans hl)
    refine ⟨hfaultq, hmode, ?_⟩
    rw [hridge]
    exact ⟨tget_tset_same .., rfl, fun _ => ⟨rfl, rfl, rfl⟩, fun h => absurd hl h⟩
  · obtain ⟨b, hb, hridge, hfaultq, hmode⟩ := ridgeFault_latching (s := { s with faultq := q }) hl hsafe
    refine ⟨hfaultq, hmode, ?_⟩
    rw [hridge]
    refine ⟨tget_tset_same .., rfl, fun h => absurd h hl, fun _ => ⟨?latches, ?stopped, ?first, ?further⟩⟩
    case latches => exact List.map_append ..
    case stopped => rfl
    case first => exact hb.first
    case further =>
      intro h1
      rw [hb.further h1]
      exact ⟨rfl, rfl⟩

end Sys2Proof.Proofs
end

section
/-! The Ridge's permit frames, element tests, inputs and own checks (R489-R498). -/

namespace Sys2Proof.Proofs

open Sys2Proof.Machine Sys2Proof.Laws Sys2Proof.Safety

/-! ### What has been sent stays sent -/

section Sent

variable {s : State} {o : OutMsg}

theorem mem_outbox_send (h : o ∈ s.outbox) (kind : Out) (dst : Nat) (arg : List Int) (bytes : List Byte) : o ∈ (send s kind dst arg bytes).outbox :=
  List.mem_append_left _ h

theorem mem_outbox_forward (h : o ∈ s.outbox) (kind : Nat) (args : List Nat) (bytes : List Byte) : o ∈ (forward s kind args bytes).outbox := by
  unfold forward
  split
  · exact mem_outbox_send h ..
  · exact h

theorem mem_outbox_putUpdate (h : o ∈ s.outbox) (t p : Nat) (v : Word) (c : BitVec 16) : o ∈ (putUpdate s t p v c).outbox := by
  unfold putUpdate
  split <;> exact h

theorem mem_outbox_update (h : o ∈ s.outbox) (t p : Nat) (v : Word) (c : BitVec 16) : o ∈ (update s t p v c).outbox := by
  unfold update
  split
  · split
    · exact mem_outbox_putUpdate (mem_outbox_send h ..) ..
    · exact h
  · exact mem_outbox_putUpdate (mem_outbox_forward h ..) ..

theorem mem_outbox_updates (h : o ∈ s.outbox) (t : Nat) (l : List (Nat × Word × BitVec 16)) : o ∈ (updates s t l).outbox :=
  List.foldlRecOn (motive := fun s : State => o ∈ s.outbox) l _ h fun _ k _ _ => mem_outbox_update k ..

theorem mem_outbox_irq (h : o ∈ s.outbox) (b : Nat) : o ∈ (irq s b).outbox := by
  unfold irq
  extract_lets fires s1
  split
  · exact mem_outbox_send h ..
  · exact h

theorem mem_outbox_ridgePoints (h : o ∈ s.outbox) : o ∈ (ridgePoints s).outbox := by
  unfold ridgePoints
  extract_lets p gr de age old0 old1 code main grps s1
  have h1 : o ∈ s1.outbox := mem_outbox_updates h ..
  clear_value s1
  split
  · exact mem_outbox_irq h1 _
  · exact h1

end Sent

/-! ### Permits (R491, R492) -/

section Permits

variable {s : State} {tile : Fin 4}

theorem exec_permitFrame (echo : Bool) (h : s.ridge.stopped = false) :
    ∃ t, exec (.permitFrame tile echo) s = .next t ∧ (tget {} t.ridge.chans tile).sent = permitSlots s tile echo ∧
      ∃ o ∈ t.outbox, o.kind = Out.permitFrame ∧ o.dst = tile.val ∧ o.arg = 75 :: ((permitSlots s tile echo).drop 1).map (fun v => if v = 1 then 50 else 25) := by
  refine ⟨_, if_neg (by simp [h]), ?_, ?_⟩
  · rw [ridgePoints_ridge]
    exact congrArg PermitChan.sent (tget_tmod_same {} s.ridge.chans tile.val fun c => { c with sent := permitSlots s tile echo })
  · exact ⟨_, mem_outbox_ridgePoints (List.mem_append_right _ (.head _)), rfl, rfl, rfl⟩

/-- The widths of a frame's pulses after the sync. -/
theorem permitSlots_pulses (s : State) (t : Nat) (echo : Bool) :
    ((permitSlots s t echo).drop 1).map (fun v => if v = 1 then (50 : Int) else 25) =
      (List.range 16).map (fun k => if granted s (16 * t + k) then 50 else 25) ++ [if echo then 50 else 25] := by
  show ((List.range 16).map (fun k => if granted s (16 * t + k) then 1 else 0) ++ [if echo then 1 else 0]).map _ = _
  rw [List.map_append, List.map_map]
  congr 1
  · refine List.map_congr_left fun k _ => ?_
    cases h : granted s (16 * t + k) <;> simp [h]
  · cases echo <;> rfl

theorem exec_permitFrame_stopped (echo : Bool) (h : s.ridge.stopped = true) : exec (.permitFrame tile echo) s = .next s := if_pos h

theorem exec_permitReport_same {l : List Nat} (h : l = (tget {} s.ridge.chans tile).sent) :
    ∃ t, exec (.permitReport tile l) s = .next t ∧ (tget {} t.ridge.chans tile).bad = 0 ∧ (tget {} t.ridge.chans tile).lastReport = s.t0 := by
  show ∃ t, execPermitReport tile l s = _ ∧ _
  have hb : (l == (tget {} s.ridge.chans tile).sent) = true := beq_iff_eq.mpr h
  simp only [execPermitReport, hb, if_true]
  rw [if_neg (by decide)]
  refine ⟨_, rfl, ?_⟩
  rw [show tget {} (setRidge s _).ridge.chans tile = _ from tget_tset_same ..]
  exact ⟨rfl, rfl⟩

theorem exec_permitReport_second {l : List Nat} (h : l ≠ (tget {} s.ridge.chans tile).sent) (hb : (tget {} s.ridge.chans tile).bad = 1) :
    exec (.permitReport tile l) s = .next (ridgeFault (setRidge s (fun r => { r with
      chans := tset r.chans tile { tget {} s.ridge.chans tile with bad := 2, lastReport := s.t0, missing := false } })) ⟨0x0802, 0x60 + tile, tile, 0⟩) := by
  show execPermitReport tile l s = _
  have hne : (l == (tget {} s.ridge.chans tile).sent) = false := beq_eq_false_iff_ne.mpr h
  simp only [execPermitReport, hne, hb]
  rfl

theorem exec_permitReport_first {l : List Nat} (h : l ≠ (tget {} s.ridge.chans tile).sent) (hb : (tget {} s.ridge.chans tile).bad = 0) :
    ∃ t, exec (.permitReport tile l) s = .next t ∧ (tget {} t.ridge.chans tile).bad = 1 ∧ t.ridge.total = s.ridge.total := by
  show ∃ t, execPermitReport tile l s = _ ∧ _
  have hne : (l == (tget {} s.ridge.chans tile).sent) = false := beq_eq_false_iff_ne.mpr h
  simp only [execPermitReport, hne, hb]
  rw [if_neg (by decide)]
  refine ⟨_, rfl, ?_, rfl⟩
  rw [show tget {} (setRidge s _).ridge.chans tile = _ from tget_tset_same ..]
  rfl

theorem exec_permitEchoMissing (hm : (tget {} s.ridge.chans tile).missing = false) (hl : (tget {} s.ridge.chans tile).lastReport + 1000000000 ≤ s.t0)
    (he : flag s pTileEnable tile = true) (ht : s.ridge.tilesOk.contains tile.val = true) :
    exec (.permitEchoMissing tile) s = .next (ridgeFault (setRidge s (fun r => { r with
      chans := tset r.chans tile { tget {} s.ridge.chans tile with missing := true } })) ⟨0x0803, 0x60 + tile, tile, 0⟩) := by
  refine if_neg ?_
  rintro (h | h | h | h)
  · rw [hm] at h; exact Bool.false_ne_true h
  · unfold sec at h; omega
  · rw [he] at h; exact Bool.false_ne_true h
  · rw [ht] at h; exact Bool.false_ne_true h

theorem exec_permitEchoMissing_again (hm : (tget {} s.ridge.chans tile).missing = true) : exec (.permitEchoMissing tile) s = .next s := if_pos (.inl hm)

end Permits

/-! ### Element tests (R494) -/

section Elements

variable {s : State} {g : Fin 64} {el : Fin 2} (hd : declared s g = true)
include hd

theorem cutTest_isOrdered (hdue : testDue s (2 * g.val + el.val) = true) (hb : testBusy s (g.val / 16) = false) :
    ¬ ((!declared s g) = true ∨ (!testDue s (2 * g.val + el.val)) = true ∨ testBusy s (g.val / 16) = true) := by
  simp [hd, hdue, hb]

theorem exec_cutTestSchedule_sent (hdue : testDue s (2 * g.val + el.val) = true) (hb : testBusy s (g.val / 16) = false)
    (hs : (node s (g.val / 16)).silent = false) (hl : (grp s g).lost = false) :
    exec (.cutTestSchedule g el) s = .next (send s Out.cutTest (g.val / 16) [g.val, el.val]) :=
  (if_neg (cutTest_isOrdered hd hdue hb)).trans (if_neg (by simp [hs, hl]))

theorem exec_cutTestSchedule_retry (hdue : testDue s (2 * g.val + el.val) = true) (hb : testBusy s (g.val / 16) = false)
    (h : (node s (g.val / 16)).silent = true ∨ (grp s g).lost = true) :
    ∃ t, exec (.cutTestSchedule g el) s = .next t ∧ (elem t (2 * g.val + el.val)).retryAt = some (s.t0 + 60 * 1000000000) ∧ t.outbox = s.outbox :=
  ⟨_, (if_neg (cutTest_isOrdered hd hdue hb)).trans (if_pos h),
    congrArg ElemSt.retryAt (tget_tmod_same {} s.ridge.elems (2 * g.val + el.val) fun x => { x with retryAt := some (s.t0 + 60 * sec) }), rfl⟩

theorem exec_cutTestDue (h0 : (elem s (2 * g.val)).due = false) (h1 : (elem s (2 * g.val + 1)).due = true)
    (ht : ((elem s (2 * g.val)).lastPass.getD 0) + 8 * 3600 * 1000000000 ≤ s.t0) :
    exec (.cutTestDue g) s = .next (ridgeFault (setRidge s (fun r => { r with elems := tmod {} r.elems (2 * g.val) (fun x => { x with due := true }) }))
      ⟨0x0805, 0x60 + g.val / 16, g.val, 0⟩) := by
  show execCutTestDue g s = _
  have hlate : decide (((elem s (2 * g.val)).lastPass.getD 0) + hours8 ≤ s.t0) = true := by
    rw [hours8, sec]
    exact decide_eq_true ht
  unfold execCutTestDue
  extract_lets over_ ks s1
  have hks : ks = [2 * g.val] := by
    have hover : over_ (2 * g.val) = true := Bool.and_eq_true_iff.mpr ⟨hlate, by rw [h0]; rfl⟩
    have hnot : over_ (2 * g.val + 1) = false := by
      unfold over_
      rw [h1, Bool.not_true, Bool.and_false]
    clear_value over_
    exact (List.filter_cons_of_pos hover).trans (congrArg _ (List.filter_cons_of_neg (by rw [hnot]; exact Bool.false_ne_true)))
  unfold s1
  clear_value ks
  subst hks
  exact if_neg (by simp [hd])

end Elements

/-! ### Emergency stop and error chain (R495, R496) -/

section Inputs

variable {s : State}

@[simp] theorem noteRelease_estop (s : State) : (noteRelease s).ridge.estop = s.ridge.estop := by
  unfold noteRelease
  split <;> rfl

@[simp] theorem dropRelatched_estop (s : State) : (dropRelatched s).ridge.estop = s.ridge.estop := by
  unfold dropRelatched
  rw [ridgePoints_ridge, noteRelease_estop]
  rfl

theorem exec_estopDemand {a b : Bool} (h : a = true ∨ b = true) (hd : s.ridge.estop.demand = false) :
    exec (.estopDemand a b) s = .next (ridgeFault (setEstop s (fun x => { x with
      aHigh := !a, bHigh := !b, bothLowSeen := x.bothLowSeen || (a && b), demand := true })) ⟨0x0B01, 0x7F, 0, 0⟩) :=
  if_neg (by simp only [hd]; rcases h with h | h <;> simp [h])

theorem exec_estopDemand_standing (a b : Bool) (hd : s.ridge.estop.demand = true) :
    ∃ t, exec (.estopDemand a b) s = .next t ∧ t.ridge.total = s.ridge.total ∧ t.ridge.estop.demand = true ∧
      t.ridge.estop.bothLowSeen = (s.ridge.estop.bothLowSeen || (a && b)) := by
  refine ⟨_, if_pos (.inr hd), ?_⟩
  rw [ridgePoints_ridge]
  exact ⟨rfl, hd, rfl⟩

theorem exec_estopDiscrepancy (a : Bool) (hd : s.ridge.estop.discrepancy = false) :
    exec (.estopDiscrepancy a) s = .next (ridgeFault (setEstop s (fun x => { x with
      aHigh := a, bHigh := !a, discrepancy := true, bothLowSeen := false })) ⟨0x0B02, 0x7F, 0, 0⟩) :=
  if_neg (by simp [hd])

theorem exec_estopDiscrepancy_again (a : Bool) (hd : s.ridge.estop.discrepancy = true) :
    ∃ t, exec (.estopDiscrepancy a) s = .next t ∧ t.ridge.total = s.ridge.total :=
  ⟨_, if_pos hd, by rw [ridgePoints_ridge]; rfl⟩

theorem exec_estopRelease (s : State) : ∃ t, exec .estopRelease s = .next t ∧ t.ridge.estop.demand = false ∧
    t.ridge.estop.discrepancy = (s.ridge.estop.discrepancy && !s.ridge.estop.bothLowSeen) := by
  refine ⟨_, rfl, ?_⟩
  rw [dropRelatched_estop]
  exact ⟨rfl, rfl⟩

theorem exec_errinDemand (hd : s.ridge.estop.errDemand = false) :
    exec .errinDemand s = .next (ridgeFault (setEstop s (fun x => { x with errHigh := false, errDemand := true })) ⟨0x0B03, 0x7F, 0, 0⟩) :=
  if_neg (by simp [hd])

theorem exec_errinDemand_again (hd : s.ridge.estop.errDemand = true) : exec .errinDemand s = .next s := if_pos hd

theorem exec_errinRelease (s : State) : ∃ t, exec .errinRelease s = .next t ∧ t.ridge.estop.errDemand = false ∧ t.ridge.estop.errHigh = true := by
  refine ⟨_, rfl, ?_⟩
  rw [dropRelatched_estop]
  exact ⟨rfl, rfl⟩

theorem exec_ridgeHeartbeatLoss (h : s.ridge.stopped = true) (hl : s.ridge.hbLost = false) :
    exec .ridgeHeartbeatLoss s = .next (enterSafe (setRidge s (fun r => { r with hbLost := true }))) := if_neg (by simp [h, hl])

end Inputs

/-! ### The statement -/

/-- Settles O27: the Ridge's rows by their conditions. -/
theorem ridgePermitsTestsAndInputs : Obligations.RidgePermitsTestsAndInputs := by
  unfold Obligations.RidgePermitsTestsAndInputs
  refine ⟨fun s => ⟨fun tile echo h => ?frame, fun tile echo => exec_permitFrame_stopped echo, fun tile l => ?report, fun g el hd => ?element⟩, fun s => ?inputs⟩
  case frame =>
    obtain ⟨t, ht, hsent, o, ho, hkind, hdst, harg⟩ := exec_permitFrame (tile := tile) echo h
    exact ⟨t, ht, hsent, o, ho, hkind, hdst, harg.trans (congrArg (75 :: ·) (permitSlots_pulses ..))⟩
  case report => exact ⟨exec_permitReport_same, exec_permitReport_second, exec_permitReport_first, exec_permitEchoMissing, exec_permitEchoMissing_again⟩
  case element =>
    exact ⟨fun hdue hb => ⟨exec_cutTestSchedule_sent hd hdue hb, exec_cutTestSchedule_retry hd hdue hb⟩, exec_cutTestDue hd⟩
  case inputs =>
    exact ⟨fun a b => exec_estopDemand, exec_estopDemand_standing, fun a => ⟨exec_estopDiscrepancy a, exec_estopDiscrepancy_again a⟩, exec_estopRelease s,
      exec_errinDemand, exec_errinDemand_again, exec_errinRelease s, fun w => rfl, if_pos rfl, fun c hc => if_neg hc, exec_ridgeHeartbeatLoss,
      fun h => if_pos (.inl (by simp [h]))⟩

end Sys2Proof.Proofs
end

section
/-! Safe actions, the start-up tests' ends and the SAFE commands (R494, R498-R502). -/

namespace Sys2Proof.Proofs

open Sys2Proof.Machine Sys2Proof.Laws Sys2Proof.Safety

/-! ### SAFE_COMMAND_RECEIVE (R499-R501) -/

section SafeCommand

variable {s : State}

theorem toNat_islandByte (base : Nat) (hb : base ≤ 0x60) (k : Fin 4) : (bv 8 (base + k.val)).toNat = base + k.val := by
  rw [bv, BitVec.toNat_ofNat]
  omega

/-- A tile applies its channels', its analog outputs' and its axes' safe actions in turn. -/
theorem exec_safeCommandReceive_tile {tile : Fin 4} (h : (0x60 + tile.val) ∈ s.ridge.safeCmds) (hs : (node s tile.val).silent = false)
    (hp : (node s tile.val).powered = true) :
    exec (.safeCommandReceive (bv 8 (0x60 + tile.val))) s = .next (
      let s1 := setRidge s (fun r => { r with safeCmds := r.safeCmds.filter (· != 0x60 + tile.val) })
      let s2 := ((outChans s1).filter (fun c => c / 128 == tile.val)).foldl safeChan s1
      let s3 := ((outAos s2).filter (fun a => a / 8 == tile.val)).foldl safeAo s2
      ((List.range 8).map (8 * tile.val + ·)).foldl safeAxis s3) := by
  show execSafeCommandReceive _ s = _
  unfold execSafeCommandReceive
  rw [toNat_islandByte 0x60 (Nat.le_refl _)]
  extract_lets -lift i t
  have ht : t = tile.val := Nat.add_sub_cancel_left ..
  clear_value t
  subst ht
  rw [if_neg (by simp [i, h, hs, hp]), if_pos (Nat.le_add_right ..)]

/-- Whether a profile's stop has been asked for, by a list of requests or before. -/
theorem foldl_stopReq (l : List Nat) (s : State) (p : Nat) (h : p ∈ l ∨ (prof s p).stopReq = some 0) :
    (prof (l.foldl (fun s q => setProf s q (fun d => { d with stopReq := some 0 })) s) p).stopReq = some 0 := by
  induction l generalizing s with
  | nil => exact h.resolve_left List.not_mem_nil
  | cons q l ih =>
    refine ih _ ?_
    by_cases hq : p = q
    · subst hq
      exact .inr (by rw [prof_setProf_same])
    · refine h.imp (fun hm => (List.mem_cons.mp hm).resolve_left hq) fun hp => ?_
      rw [show prof (setProf s q _) p = prof s p from tget_tmod_other _ _ _ hq]
      exact hp

theorem exec_safeCommandReceive_engine {me : Fin 4} (h : (0x28 + me.val) ∈ s.ridge.safeCmds) :
    ∃ t, exec (.safeCommandReceive (bv 8 (0x28 + me.val))) s = .next t ∧ t.ridge.safeCmds = s.ridge.safeCmds.filter (· != 0x28 + me.val) ∧
      ∀ k, k < 8 → param s pSafeAxisStop (8 * me.val + k) = 2 → (prof s (16 * me.val + k)).st ≠ 0 → (prof s (16 * me.val + k)).st ≠ 1 →
        (prof t (16 * me.val + k)).stopReq = some 0 := by
  show ∃ t, execSafeCommandReceive _ s = _ ∧ _
  unfold execSafeCommandReceive
  rw [toNat_islandByte 0x28 (by decide)]
  extract_lets -lift i t
  have hi : i = 0x28 + me.val := rfl
  have hgo : ¬ ((!s.ridge.safeCmds.contains i) = true ∨ 0x60 ≤ i ∧ ((node s t).silent = true ∨ (!(node s t).powered) = true)) := by
    rintro (hc | ⟨hge, -⟩)
    · rw [hi, List.contains_iff_mem.mpr h] at hc
      exact Bool.false_ne_true hc
    · omega
  rw [if_neg hgo, if_neg (by omega), if_pos (by omega)]
  refine ⟨_, rfl, ?_, fun k hk hparam hst0 hst1 => ?_⟩
  · refine foldl_keeps (fun s : State => s.ridge.safeCmds) ?_ _ _
    exact fun _ _ => rfl
  refine foldl_stopReq _ _ _ (.inl (List.mem_filter.mpr ⟨?_, ?_⟩))
  · have hk' : 16 * (0x28 + me.val - 0x28) + k = 16 * me.val + k := by omega
    exact hk' ▸ List.mem_map_of_mem (List.mem_range.mpr hk)
  · have hx : 8 * (0x28 + me.val - 0x28) + (16 * me.val + k) % 16 = 8 * me.val + k := by omega
    show (decide (param s pSafeAxisStop _ = 2) && decide ((prof s _).st ≠ 0 ∧ (prof s _).st ≠ 1)) = true
    rw [hx]
    simp [hparam, hst0, hst1]

theorem exec_safeCommandReceive_none {i : Byte} (h : i.toNat ∉ s.ridge.safeCmds) : exec (.safeCommandReceive i) s = .next s :=
  if_pos (.inl (by simp [h]))

end SafeCommand

/-! ### RIDGE_STARTUP_TEST_END (R502) -/

@[simp] theorem noteRelease_kept (s : State) : (noteRelease s).ridge.latches = s.ridge.latches ∧ (noteRelease s).ridge.internalOk = s.ridge.internalOk := by
  unfold noteRelease
  split <;> exact ⟨rfl, rfl⟩

theorem exec_ridgeStartupTestEnd_internal (s : State) (g : BitVec 64) : ∃ t, exec (.ridgeStartupTestEnd 0 true g) s = .next t ∧ t.ridge.internalOk = true := by
  refine ⟨_, rfl, ?_⟩
  show (dropRelatched _).ridge.internalOk = true
  rw [dropRelatched, ridgePoints_ridge, (noteRelease_kept _).2]
  rfl

theorem exec_ridgeStartupTestEnd_failed (s : State) (p : Fin 5) (g : BitVec 64) : exec (.ridgeStartupTestEnd p false g) s = .next s := rfl

/-! ### SAFE_GROUP_RESET (R498) -/

section GroupReset

variable {s : State} {r : Req} (h : Runs s r 0x0802 true allModes 8 (noTarget r))
include h

theorem exec_safeGroupReset_held
    (hc : ∃ l ∈ s.ridge.latches, l.react = .group ∧ l.groups &&& bv 64 (fld r.payload 0 8) ≠ 0 ∧ causeHolds (begun s r 0x0802) l = true) :
    exec (.safeGroupReset r) s = .next (finish (begun s r 0x0802) r 0x0802 true 0x0203) := by
  refine congrArg Host.Outcome.next ((command_runs h _).trans (if_pos ?_))
  obtain ⟨l, hl, hg, hx, hc⟩ := hc
  exact List.any_eq_true.mpr ⟨l, hl, Bool.and_eq_true_iff.mpr ⟨Bool.and_eq_true_iff.mpr ⟨beq_iff_eq.mpr hg, bne_iff_ne.mpr hx⟩, hc⟩⟩

/-- What stays latched covers none of the named groups. -/
theorem exec_safeGroupReset_released
    (hc : ∀ l ∈ s.ridge.latches, l.react = .group → l.groups &&& bv 64 (fld r.payload 0 8) = 0 ∨ causeHolds (begun s r 0x0802) l = false) :
    ∃ t, exec (.safeGroupReset r) s = .next t ∧ ∀ l ∈ t.ridge.latches, l.react = .group → l.groups &&& bv 64 (fld r.payload 0 8) = 0 := by
  refine ⟨_, congrArg Host.Outcome.next ((command_runs h _).trans (if_neg ?_)), ?_⟩
  · intro hany
    obtain ⟨l, hl, hx⟩ := List.any_eq_true.mp hany
    simp only [Bool.and_eq_true, beq_iff_eq, bne_iff_ne] at hx
    obtain ⟨⟨hg, hne⟩, hh⟩ := hx
    exact (hc l hl hg).elim hne fun hf => Bool.false_ne_true (hf.symm.trans hh)
  · rw [finish_ridge, ridgePoints_ridge, (noteRelease_kept _).1]
    intro l hl hg
    obtain ⟨l0, -, rfl⟩ := List.mem_map.mp (List.mem_filter.mp hl).1
    by_cases hg0 : l0.react = .group
    · rw [if_pos hg0]
      show l0.groups &&& ~~~_ &&& _ = 0
      rw [BitVec.and_assoc, BitVec.and_comm (~~~_), BitVec.and_not_self]
      exact BitVec.and_zero
    · rw [if_neg hg0] at hg
      exact absurd hg hg0

end GroupReset

/-! ### SAFE_PROOF_TEST (R494) -/

section ProofTest

variable {s : State} {r : Req} (h : Runs s r 0x0803 true [.idle, .maint, .safe] 0 (noTarget r))
include h

theorem exec_safeProofTest_none
    (hk : ((List.range 64).filter (fun g => declared s g && !(node s (g / 16)).silent && !(grp s g).lost)).flatMap (fun g => [2 * g, 2 * g + 1]) = []) :
    exec (.safeProofTest r) s = .next (finish (accepted (begun s r 0x0803) r 0x0803) r 0x0803 true 0) :=
  congrArg Host.Outcome.next ((command_runs h _).trans (if_pos (List.isEmpty_iff.mpr hk)))

theorem exec_safeProofTest_some
    (hk : ((List.range 64).filter (fun g => declared s g && !(node s (g / 16)).silent && !(grp s g).lost)).flatMap (fun g => [2 * g, 2 * g + 1]) ≠ []) :
    ∃ t, exec (.safeProofTest r) s = .next t ∧ t.ridge.proof = some (r.mb.val, r.tag.toNat) ∧
      t.ridge.proofLeft = ((List.range 64).filter (fun g => declared s g && !(node s (g / 16)).silent && !(grp s g).lost)).flatMap (fun g => [2 * g, 2 * g + 1]) := by
  refine ⟨_, congrArg Host.Outcome.next ((command_runs h _).trans (if_neg fun he => hk (List.isEmpty_iff.mp he))), ?_⟩
  extract_lets s1
  have hridge : ∀ l : List Nat, (l.foldl (fun s k => send s Out.cutTest (k / 32) [((k / 2 : Nat) : Int), ((k % 2 : Nat) : Int)]) s1).ridge = s1.ridge := by
    refine fun l => foldl_keeps State.ridge ?_ l s1
    exact fun _ _ => rfl
  rw [hridge]
  exact ⟨rfl, rfl⟩

end ProofTest

/-! ### The statement -/

/-- Settles O28: each row and command by the branch of its condition. -/
theorem safeActionsAndSafeCommands : Obligations.SafeActionsAndSafeCommands := by
  unfold Obligations.SafeActionsAndSafeCommands
  exact fun s => ⟨fun tile => exec_safeCommandReceive_tile, fun me => exec_safeCommandReceive_engine, fun i => exec_safeCommandReceive_none,
    fun g => ⟨exec_ridgeStartupTestEnd_internal s g, fun p => exec_ridgeStartupTestEnd_failed s p g⟩,
    fun r h => congrArg Host.Outcome.next (command_runs h _),
    fun r h => ⟨exec_safeGroupReset_held h, exec_safeGroupReset_released h⟩,
    fun r h => ⟨exec_safeProofTest_none h, exec_safeProofTest_some h⟩⟩

end Sys2Proof.Proofs
end

section
/-! The recorder keeps its records (R413-R416, R420, R423). -/

namespace Sys2Proof.Proofs

open Sys2Proof.Machine Sys2Proof.Laws Sys2Proof.Safety

/-! ### A new record's place -/

/-- An anchor changes the anchors and the one that is due. -/
theorem putAnchor_frame (s : State) (seq : Word) : ∃ a l, putAnchor s seq = setRec s (fun r => { r with anchorDue := a, anchors := l }) := by
  unfold putAnchor
  split
  · exact ⟨s.recd.anchorDue, s.recd.anchors, rfl⟩
  · dsimp only [setRec]
    exact ⟨_, _, rfl⟩

/-- Closing early leaves every record in its place but for its window. -/
theorem mem_closeEarly {x : EvRec} {l : List EvRec} (h : x ∈ l) : ∃ o, { x with isOpen := o } ∈ closeEarly l := by
  unfold closeEarly
  split
  · exact ⟨x.isOpen, h⟩
  · split
    · exact ⟨x.isOpen, h⟩
    · next y _ =>
      by_cases hs : x.seq = y.seq
      · exact ⟨false, List.mem_map.mpr ⟨x, h, if_pos hs⟩⟩
      · exact ⟨x.isOpen, List.mem_map.mpr ⟨x, h, if_neg hs⟩⟩

section Create

variable {s : State} {e : Event}

theorem createRec_rejected (hd : s.recd.degraded = true) (hv : Ev.severity e.cls < 4) :
    createRec s e = setRec s (fun r => { r with rejected := min (r.rejected + 1) (2 ^ 32 - 1) }) := if_pos ⟨hd, hv⟩

variable (hd : s.recd.degraded = false)
include hd

theorem createRec_coalesced {y : EvRec} (hf : s.recd.ring.find? (coalescesWith s e) = some y) :
    (createRec s e).evq = s.evq ∧ (createRec s e).recd.next = s.recd.next ∧ (createRec s e).recd.ring.map (·.seq) = s.recd.ring.map (·.seq) := by
  unfold createRec
  extract_lets sev
  rw [if_neg (by simp [hd]), hf]
  refine ⟨rfl, rfl, ?_⟩
  refine (List.map_map ..).trans (List.map_congr_left fun x _ => ?_)
  rw [Function.comp_apply]
  split <;> rfl

theorem createRec_new (hf : s.recd.ring.find? (coalescesWith s e) = none) (hn : s.recd.ring.length < 4096) :
    (createRec s e).evq = s.evq ∧ (createRec s e).recd.next = s.recd.next + 1 ∧
      ∃ x ∈ (createRec s e).recd.ring, x.seq = s.recd.next ∧ x.era = s.recd.era ∧ x.cls = e.cls ∧ x.src = e.src ∧ x.object = e.object ∧
        x.payload = e.payload ∧ x.born = s.t0 := by
  unfold createRec
  extract_lets sev seq s1 s2 open_ fl x
  rw [if_neg (by simp [hd]), hf]
  dsimp only
  obtain ⟨a, l, hs2⟩ : ∃ a l, s2 = setRec s1 (fun r => { r with anchorDue := a, anchors := l }) := putAnchor_frame s1 seq
  have hdeg : s2.recd.degraded = false := by
    rw [hs2]
    exact hd
  have hring : s2.recd.ring = s.recd.ring := by
    rw [hs2]
    rfl
  have hx : x.era = s.recd.era ∧ x.born = s.t0 := by
    unfold x
    rw [hs2]
    exact ⟨rfl, rfl⟩
  have hplace : placeRec s2.recd (ringCap s2) x = { s2.recd with ring := s.recd.ring ++ [x] } := by
    have hcap : ringCap s2 = 4096 := by
      rw [ringCap, hdeg]
      rfl
    rw [hcap, placeRec, hring]
    exact if_pos hn
  have hevq : s2.evq = s.evq := by
    rw [hs2]
    rfl
  have hnext : s2.recd.next = s.recd.next + 1 := by
    rw [hs2]
    rfl
  obtain ⟨o, ho⟩ : ∃ o, { x with isOpen := o } ∈ closeEarly (s.recd.ring ++ [x]) := mem_closeEarly (List.mem_append_right _ (.head _))
  refine ⟨hevq, ?_, { x with isOpen := o }, ?_, rfl, hx.1, rfl, rfl, rfl, rfl, hx.2⟩
  · show (placeRec s2.recd (ringCap s2) x).next = _
    rw [hplace]
    exact hnext
  · show _ ∈ closeEarly (placeRec s2.recd (ringCap s2) x).ring
    rw [hplace]
    exact ho

end Create

theorem exec_eventRecordCreate_none {s : State} (h : s.evq = []) : exec .eventRecordCreate s = .next s := by
  show execEventRecordCreate s = _
  rw [execEventRecordCreate, h]

theorem exec_eventRecordCreate {s : State} {e : Event} {q : List Event} (h : s.evq = e :: q) :
    exec .eventRecordCreate s = .next (createRec { s with evq := q } e) := by
  show execEventRecordCreate s = _
  rw [execEventRecordCreate, h]

/-! ### Windows and commits (R414, R415) -/

theorem exec_coalesceWindowEnd {s : State} {y : EvRec}
    (h : s.recd.ring.find? (fun x => x.isOpen && !x.committed && decide (x.born + param s pEvtCoalesceMs (Ev.number x.cls) * 1000000 ≤ s.t0)) = some y) :
    exec .coalesceWindowEnd s = .next (setRec s (fun r => { r with ring := r.ring.map (fun x => if x.seq = y.seq then { x with isOpen := false } else x) })) := by
  show execCoalesceWindowEnd s = _
  rw [execCoalesceWindowEnd, ms, h]

/-- What a commit leaves in the recorder, whether or not it answers a clear. -/
theorem commitRec_recd (s : State) (x : EvRec) :
    (commitRec s x).recd.committedSeq = x.seq ∧
      (∀ j, journalAppend s.recd.journal { x with isOpen := false, committed := true } = some j → (commitRec s x).recd.journal = j) ∧
      ∀ y ∈ (commitRec s x).recd.ring, y.seq = x.seq → y.committed = true := by
  unfold commitRec
  extract_lets x' s1
  have h1 : s1.recd.committedSeq = x.seq ∧ (∀ j, journalAppend s.recd.journal x' = some j → s1.recd.journal = j) ∧
      ∀ y ∈ s1.recd.ring, y.seq = x.seq → y.committed = true := by
    refine ⟨rfl, fun j hj => ?_, fun y hy hs => ?_⟩
    · show (match journalAppend s.recd.journal x' with | some j => ({ s.recd with journal := j } : RecSt) | none => countLost s.recd x.sev).journal = j
      rw [hj]
    · obtain ⟨z, -, rfl⟩ := List.mem_map.mp hy
      split at hs
      next hz => rw [if_pos hz]
      next hz => exact absurd hs hz
  clear_value s1
  split
  · split
    · rw [finish_recd]
      exact h1
    · exact h1
  · exact h1

section Commit

variable {s : State} {x : EvRec} (h : s.recd.ring.find? (fun x => !x.committed) = some x)
include h

theorem exec_recordCommit (ho : x.isOpen = false) (hf : s.recd.flashFailed = false) : exec .recordCommit s = .next (commitRec s x) := by
  show execRecordCommit s = _
  rw [execRecordCommit, h]
  exact if_neg (by simp [ho, hf])

theorem exec_recordCommit_waits (hw : x.isOpen = true ∨ s.recd.flashFailed = true) : exec .recordCommit s = .next s := by
  show execRecordCommit s = _
  rw [execRecordCommit, h]
  exact if_pos hw

end Commit

/-! ### The journal's sectors and the recorder's fault (R416, R423) -/

section Journal

variable {s : State}

theorem exec_journalSectorReclaim_room (h : s.recd.journal.length + 2 ≤ 128) : exec .journalSectorReclaim s = .next s := by
  show execJournalSectorReclaim s = _
  unfold execJournalSectorReclaim
  dsimp only
  split
  · rfl
  · exact if_pos h

theorem exec_journalSectorReclaim {old : List EvRec} {rest n : List (List EvRec)} (hj : s.recd.journal = old :: rest) (hl : 127 ≤ s.recd.journal.length)
    (hn : (old.filter (fun x => decide (s.recd.journal.flatten.foldl (fun a x => min a x.sev) 7 < x.sev) || x.sev == 7)).foldl
      (fun (a : Option (List (List EvRec))) x => a.bind (fun j => journalAppend j x)) (some rest) = some n) (hlen : n.length < 128) :
    exec .journalSectorReclaim s = .next (setRec s (fun r => { r with journal := n, copied := min (r.copied +
      (old.filter (fun x => decide (s.recd.journal.flatten.foldl (fun a x => min a x.sev) 7 < x.sev) || x.sev == 7)).length) (2 ^ 32 - 1) })) := by
  show execJournalSectorReclaim s = _
  unfold execJournalSectorReclaim
  rw [hj] at hl hn ⊢
  have hfull : ¬ (old :: rest).length + 2 ≤ sectorCount := by
    unfold sectorCount
    omega
  simp only [if_neg hfull, hn]
  exact if_neg (Nat.not_le.mpr hlen)

theorem exec_recorderFault_again (h : s.recd.degraded = true) (c : Fin 4) (a : Word) : exec (.recorderFault c a) s = .next s := if_pos h

theorem exec_recorderFault (h : s.recd.degraded = false) (c : Fin 4) (a : Word) :
    ∃ t, exec (.recorderFault c a) s = .next t ∧ t.recd.degraded = true ∧ t.recd.flashFailed = decide (2 ≤ c.val) ∧
      t.recd.ring = s.recd.ring.filter (fun x => !x.committed) ∧ t.faultq = s.faultq ++ [⟨0x0C01, 0, c.val, a.toNat⟩] := by
  refine ⟨_, if_neg (by simp [h]), ?_⟩
  rw [irq_recd, irq_faultq, note_recd, note_faultq, sysPoint_recd, sysPoint_faultq]
  exact ⟨rfl, rfl, rfl, rfl⟩

end Journal

/-! ### The statement -/

/-- Settles O36: the new record, the coalesced one and the refused one by the three branches of its creation. -/
theorem recorderKeepsRecords : Obligations.RecorderKeepsRecords := by
  unfold Obligations.RecorderKeepsRecords
  refine fun s => ⟨exec_eventRecordCreate_none, fun e q hq => ⟨fun y hd hf => ?coalesced, fun hd hf hn => ?new, fun hd hv => ?rejected⟩, fun y => exec_coalesceWindowEnd,
    fun x hx => ⟨fun ho hf => ⟨_, exec_recordCommit hx ho hf, commitRec_recd s x⟩, exec_recordCommit_waits hx⟩, exec_journalSectorReclaim_room,
    fun old rest n hj hl => exec_journalSectorReclaim hj hl, fun c a => ⟨fun h => exec_recorderFault_again h c a, fun h => exec_recorderFault h c a⟩⟩
  case coalesced => exact ⟨_, exec_eventRecordCreate hq, createRec_coalesced (s := { s with evq := q }) hd hf⟩
  case new => exact ⟨_, exec_eventRecordCreate hq, createRec_new (s := { s with evq := q }) hd hf hn⟩
  case rejected =>
    refine ⟨_, exec_eventRecordCreate hq, ?_⟩
    rw [createRec_rejected (s := { s with evq := q }) hd hv]
    exact ⟨rfl, rfl, rfl⟩

end Sys2Proof.Proofs
end

section
/-! The recorder's commands: reading, the secret, the challenge and the clear (R410-R422, R555). -/

namespace Sys2Proof.Proofs

open Sys2Proof.Machine Sys2Proof.Laws Sys2Proof.Safety

/-! ### Reading (R410, R417, R418, R555) -/

section Reading

variable {s : State} {r : Req}

section EvtRead

variable (h : Runs s r 0x0620 false allModes 12
    (r.target == 0 && fld r.payload 2 2 == 0 && decide (1 ≤ fld r.payload 8 2 ∧ fld r.payload 8 2 ≤ 63) && fld r.payload 10 2 == 0))
  {x : EvRec} {l : List EvRec} (hx : (recsKept s).filter (fun x => x.era.toNat == fld r.payload 0 2) = x :: l)
include h hx

theorem exec_evtRead_older (hl : later 32 x.seq.toNat (fld r.payload 4 4) = true) :
    exec (.evtRead r) s = .next (finish (begun s r 0x0620) r 0x0620 false 0x0405) := by
  refine congrArg Host.Outcome.next ((command_runs h _).trans ?_)
  simp only [show recsKept (beginCmd s r 0x0620) = recsKept s from rfl, hx]
  exact if_pos hl

theorem exec_evtRead_found (hl : later 32 x.seq.toNat (fld r.payload 4 4) = false) :
    exec (.evtRead r) s = .next (
      let got := ((x :: l).filter (fun y => y.seq.toNat == fld r.payload 4 4 || later 32 y.seq.toNat (fld r.payload 4 4))).take (fld r.payload 8 2)
      finish (begun s r 0x0620) r 0x0620 false 0 (leBytes 4 got.length ++ got.flatMap evBytes)) := by
  refine congrArg Host.Outcome.next ((command_runs h _).trans ?_)
  simp only [show recsKept (beginCmd s r 0x0620) = recsKept s from rfl, hx]
  exact if_neg (by simp [hl])

end EvtRead

theorem exec_evtStatusGet (h : Runs s r 0x0621 false allModes 0 (r.target == 0)) :
    exec (.evtStatusGet r) s = .next (finish (begun s r 0x0621) r 0x0621 false 0 (recHeader s)) :=
  congrArg Host.Outcome.next (command_runs h _)

section Classes

variable (h : Runs s r 0x0622 false allModes 12 (r.target == 0 && fld r.payload 2 2 == 0 && bulkOk (fld r.payload 4 4) (fld r.payload 8 4)))
include h

theorem exec_evtClassesGet_busy (hb : bulkBusy (begun s r 0x0622) (fld r.payload 4 4) (fld r.payload 8 4) = true) :
    exec (.evtClassesGet r) s = .next (finish (begun s r 0x0622) r 0x0622 false 0x0509) :=
  congrArg Host.Outcome.next ((command_runs h _).trans (if_pos hb))

theorem exec_evtClassesGet_free (hb : bulkBusy (begun s r 0x0622) (fld r.payload 4 4) (fld r.payload 8 4) = false) :
    exec (.evtClassesGet r) s = .next (
      let l := fitting (fld r.payload 8 4) (((List.range 1024).drop (fld r.payload 0 2)).filterMap Config.classDef)
      finish (bulkPut (begun s r 0x0622) (fld r.payload 4 4) l.flatten) r 0x0622 false 0 (leBytes 4 l.length ++ leBytes 4 l.flatten.length)) :=
  congrArg Host.Outcome.next ((command_runs h _).trans (if_neg (Bool.eq_false_iff.mp hb)))

end Classes

section Anchors

variable (h : Runs s r 0x0623 false allModes 12 (r.target == 0 && decide (1 ≤ fld r.payload 8 2 ∧ fld r.payload 8 2 ≤ 126) && fld r.payload 10 2 == 0))
include h

theorem exec_evtAnchorsGet_none (hl : s.recd.anchors.filter (fun a => a.era.toNat == fld r.payload 0 2 && a.wraps == fld r.payload 2 2) = []) :
    exec (.evtAnchorsGet r) s = .next (finish (begun s r 0x0623) r 0x0623 false 0x0405) := by
  refine congrArg Host.Outcome.next ((command_runs h _).trans ?_)
  simp only [beginCmd_recd, hl]

theorem exec_evtAnchorsGet_some (hl : s.recd.anchors.filter (fun a => a.era.toNat == fld r.payload 0 2 && a.wraps == fld r.payload 2 2) ≠ []) :
    exec (.evtAnchorsGet r) s = .next (
      let got := ((s.recd.anchors.filter (fun a => a.era.toNat == fld r.payload 0 2 && a.wraps == fld r.payload 2 2)).filter
        (fun a => decide (fld r.payload 4 4 ≤ a.seq.toNat))).take (fld r.payload 8 2)
      finish (begun s r 0x0623) r 0x0623 false 0 (leBytes 4 got.length ++ got.flatMap anchorBytes)) := by
  refine congrArg Host.Outcome.next ((command_runs h _).trans ?_)
  simp only [beginCmd_recd]

end Anchors

end Reading

/-! ### The secret and the challenge (R422) -/

section Secret

variable {s : State} {r : Req}

theorem exec_evtSecretSet_again (h : Runs s r 0x0624 true [.config, .idle] 32 (r.target == 0)) (hk : s.recd.secret ≠ none) :
    exec (.evtSecretSet r) s = .next (finish (begun s r 0x0624) r 0x0624 true 0x0705) :=
  congrArg Host.Outcome.next ((command_runs h _).trans (if_pos (Option.isSome_iff_ne_none.mpr hk)))

theorem exec_evtSecretSet_first (h : Runs s r 0x0624 true [.config, .idle] 32 (r.target == 0)) (hk : s.recd.secret = none) :
    ∃ t, exec (.evtSecretSet r) s = .next t ∧ t.recd.secret = some (r.payload.take 32) := by
  refine ⟨_, congrArg Host.Outcome.next ((command_runs h _).trans (if_neg (by simp [hk]))), ?_⟩
  rw [finish_recd]
  rfl

variable (h : Runs s r 0x0625 true [.config, .idle, .maint] 0 (r.target == 0))
include h

theorem exec_evtClearChallenge_noSecret (hk : s.recd.secret = none) :
    exec (.evtClearChallenge r) s = .next (finish (begun s r 0x0625) r 0x0625 true 0x0703) :=
  congrArg Host.Outcome.next ((command_runs h _).trans (if_pos (by simp [hk])))

theorem exec_evtClearChallenge_locked (hk : s.recd.secret ≠ none) (hl : s.t0 < s.recd.lockedUntil) :
    exec (.evtClearChallenge r) s = .next (finish (begun s r 0x0625) r 0x0625 true 0x0704) :=
  congrArg Host.Outcome.next ((command_runs h _).trans ((if_neg (by simp [hk])).trans (if_pos hl)))

theorem exec_evtClearChallenge_given (hk : s.recd.secret ≠ none) (hl : s.recd.lockedUntil ≤ s.t0) :
    ∃ t c, exec (.evtClearChallenge r) s = .next t ∧ t.recd.challenge = some (c, s.t0) ∧ c.length = 16 := by
  refine ⟨_, leBytes 8 (fresh (begun s r 0x0625)).1.toNat ++ leBytes 8 (fresh (fresh (begun s r 0x0625)).2).1.toNat,
    congrArg Host.Outcome.next ((command_runs h _).trans ((if_neg (by simp [hk])).trans (if_neg (Nat.not_lt.mpr hl)))), ?_, ?_⟩
  · dsimp only
    rw [finish_recd]
    rfl
  · rw [List.length_append, leBytes_length, leBytes_length]

end Secret

/-! ### EVT_CLEAR (R422) -/

/-- The record of a clear, in an empty ring, has a place under the next number. -/
theorem createRec_clear {s : State} (hring : s.recd.ring = []) (hj : s.recd.journal = []) (hc : s.recd.challenge = none) (e : Event) (he : e.cls = .clear) :
    (createRec s e).recd.journal = [] ∧ (createRec s e).recd.challenge = none ∧
      ∃ x, (createRec s e).recd.ring = [x] ∧ x.cls = .clear ∧ x.seq = s.recd.next := by
  unfold createRec
  extract_lets sev seq s1 s2 open_ fl x
  have hsev : sev = 7 := by
    unfold sev
    rw [he]
    rfl
  rw [if_neg (by omega), hring]
  dsimp only [List.find?_nil]
  obtain ⟨a, l, hs2⟩ : ∃ a l, s2 = setRec s1 (fun r => { r with anchorDue := a, anchors := l }) := putAnchor_frame s1 seq
  have hplace : placeRec s2.recd (ringCap s2) x = { s2.recd with ring := [x] } := by
    have hcap : 0 < ringCap s2 := by
      unfold ringCap
      split <;> decide
    have hring2 : s2.recd.ring = [] := by
      rw [hs2]
      exact hring
    rw [placeRec, hring2]
    exact if_pos hcap
  have hkept : s2.recd.journal = [] ∧ s2.recd.challenge = none := by
    rw [hs2]
    exact ⟨hj, hc⟩
  have hclose : closeEarly [x] = [x] := if_pos ((List.length_filter_le ..).trans (by rw [List.length_singleton]; decide))
  refine ⟨?_, ?_, x, ?_, he, rfl⟩
  · show (placeRec s2.recd (ringCap s2) x).journal = []
    rw [hplace]
    exact hkept.1
  · show (placeRec s2.recd (ringCap s2) x).challenge = none
    rw [hplace]
    exact hkept.2
  · show closeEarly (placeRec s2.recd (ringCap s2) x).ring = [x]
    rw [hplace]
    exact hclose

section Clear

variable {s : State} {r : Req} (h : Runs s r 0x0626 true [.config, .idle, .maint] 32 (r.target == 0)) {key : List Byte} (hk : s.recd.secret = some key)
  (hl : s.recd.lockedUntil ≤ s.t0)
include h hk hl

theorem exec_evtClear_noChallenge (hc : s.recd.challenge = none) : exec (.evtClear r) s = .next (finish (begun s r 0x0626) r 0x0626 true 0x0702) := by
  refine congrArg Host.Outcome.next ((command_runs h _).trans ?_)
  simp only [beginCmd_recd, beginCmd_t0, hk, hc]
  exact if_neg (Nat.not_lt.mpr hl)

variable {c : List Byte} {a : Nat} (hc : s.recd.challenge = some (c, a)) (ha : s.t0 ≤ a + 60000000000)
include hc ha

theorem exec_evtClear_wrong (hg : hmac key (c ++ leBytes 8 Config.serial.toNat ++ leBytes 2 s.recd.era.toNat ++ leBytes 4 s.recd.next.toNat ++
      [0x43, 0x4C, 0x45, 0x41, 0x52]) ≠ r.payload.take 32) :
    ∃ t, exec (.evtClear r) s = .next t ∧ t.recd.challenge = none ∧ t.recd.journal = s.recd.journal := by
  refine ⟨clearFailed (setRec (begun s r 0x0626) (fun x => { x with challenge := none })) r, congrArg Host.Outcome.next ((command_runs h _).trans ?_), ?_⟩
  · simp only [beginCmd_recd, beginCmd_t0, hk, hc]
    rw [if_neg (Nat.not_lt.mpr hl)]
    have hin : ¬ a + 60 * sec < s.t0 := by
      unfold sec
      omega
    exact (if_neg hin).trans (if_pos hg)
  · rw [clearFailed, finish_recd, note_recd]
    exact ⟨rfl, rfl⟩

theorem exec_evtClear_right (hg : hmac key (c ++ leBytes 8 Config.serial.toNat ++ leBytes 2 s.recd.era.toNat ++ leBytes 4 s.recd.next.toNat ++
      [0x43, 0x4C, 0x45, 0x41, 0x52]) = r.payload.take 32) :
    ∃ t x, exec (.evtClear r) s = .next t ∧ t.recd.journal = [] ∧ t.recd.ring = [x] ∧ x.cls = .clear ∧ x.seq = s.recd.next ∧ t.recd.challenge = none := by
  have hin : ¬ a + 60 * sec < s.t0 := by
    unfold sec
    omega
  obtain ⟨u, e, hexec, hring, hj, hch, hnext, he⟩ : ∃ u e, exec (.evtClear r) s = .next (createRec u e) ∧ u.recd.ring = [] ∧ u.recd.journal = [] ∧
      u.recd.challenge = none ∧ u.recd.next = s.recd.next ∧ e.cls = .clear := by
    show ∃ u e, Host.Outcome.next (command s r 0x0626 true [.config, .idle, .maint] 32 (r.target == 0) _) = _ ∧ _
    rw [command_runs h]
    simp only [beginCmd_recd, beginCmd_t0, hk, hc]
    rw [if_neg (Nat.not_lt.mpr hl)]
    refine ⟨_, _, congrArg Host.Outcome.next ((if_neg hin).trans (if_neg (not_not.mpr hg))), rfl, rfl, ?_, ?_, rfl⟩
    · show (accepted _ r 0x0626).recd.challenge = none
      rw [accepted_recd]
      rfl
    · show (accepted _ r 0x0626).recd.next = s.recd.next
      rw [accepted_recd]
      rfl
  obtain ⟨hjournal, hchallenge, x, hx, hcls, hseq⟩ := createRec_clear hring hj hch e he
  exact ⟨_, x, hexec, hjournal, hx, hcls, hseq.trans hnext, hchallenge⟩

end Clear

/-! ### The statement -/

/-- Settles O37: every command by the branch of its condition. -/
theorem recorderCommandsReadAndClear : Obligations.RecorderCommandsReadAndClear := by
  unfold Obligations.RecorderCommandsReadAndClear
  exact fun s r => ⟨fun h x l hx => ⟨exec_evtRead_older h hx, exec_evtRead_found h hx⟩, exec_evtStatusGet,
    fun h => ⟨exec_evtClassesGet_busy h, exec_evtClassesGet_free h⟩, fun h => ⟨exec_evtAnchorsGet_none h, exec_evtAnchorsGet_some h⟩,
    fun h => ⟨exec_evtSecretSet_again h, exec_evtSecretSet_first h⟩,
    fun h => ⟨exec_evtClearChallenge_noSecret h, exec_evtClearChallenge_locked h, exec_evtClearChallenge_given h⟩,
    fun h key hk hl => ⟨exec_evtClear_noChallenge h hk hl, fun c a hc ha => ⟨exec_evtClear_wrong h hk hl hc ha, exec_evtClear_right h hk hl hc ha⟩⟩⟩

end Sys2Proof.Proofs
end

section
/-! Capture units: samples, triggers, gaps, the ends of records and re-arming (R370-R386). -/

namespace Sys2Proof.Proofs

open Sys2Proof.Machine Sys2Proof.Laws Sys2Proof.Safety

/-! ### What the operations on a unit leave of it -/

section Unit

variable (s : State) (u : Nat)

theorem acqUnit_setAcq_same (f : AcqUnit → AcqUnit) : acqUnit (setAcq s u f) u = f (acqUnit s u) := tget_tmod_same ..

theorem setAcq_congr {s : State} {u : Nat} {f g : AcqUnit → AcqUnit} (h : f (acqUnit s u) = g (acqUnit s u)) : setAcq s u f = setAcq s u g := by
  unfold acqUnit at h
  simp only [setAcq, tmod, h]

theorem acqMay_setAcq (f : AcqUnit → AcqUnit) : acqMay (setAcq s u f) u = acqMay s u := rfl

theorem acqPoints_acq : (acqPoints s u).acq = s.acq := updates_acq ..

theorem acqUnit_acqPoints (v : Nat) : acqUnit (acqPoints s u) v = acqUnit s v := by rw [acqUnit, acqPoints_acq, acqUnit]

theorem acqMay_acqPoints : acqMay (acqPoints s u) u = acqMay s u := by
  rw [acqMay, acqPoints_mode, show flag (acqPoints s u) pAcqEnable u = flag s pAcqEnable u from updates_flag .., acqMay]

theorem acqUnit_note (cls : Ev) (isl unit object : Nat) (payload : List Nat) : acqUnit (note s cls isl unit object payload) u = acqUnit s u := by simp [acqUnit]

theorem acqMay_note (cls : Ev) (isl unit object : Nat) (payload : List Nat) : acqMay (note s cls isl unit object payload) u = acqMay s u := by simp [acqMay]

/-- An enabled unit that is armed or later, in a capturing mode, is what its enable and the mode say. -/
theorem acqSync_of_running {s : State} {u : Nat} (hm : acqMay s u = true) (hst : 2 ≤ (acqUnit s u).st) : acqSync s u = s := by
  unfold acqSync
  exact (if_pos hm).trans (if_neg (by omega))

/-- The end of an open record: the unit has none, and stops or goes on. -/
theorem acqClose_open {s : State} {u : Nat} {r : AcqOpen} (h : (acqUnit s u).cur = some r) (stop : Nat) (more : BitVec 16) :
    (acqUnit (acqClose s u stop more) u).cur = none ∧ (acqUnit (acqClose s u stop more) u).st ≠ 3 ∧ acqMay (acqClose s u stop more) u = acqMay s u := by
  unfold acqClose
  simp only [h]
  refine iteInduction (motive := fun t => (acqUnit t u).cur = none ∧ (acqUnit t u).st ≠ 3 ∧ acqMay t u = acqMay s u) (fun _ => ?_) (fun _ => ?_)
  · rw [acqUnit_acqPoints, acqUnit_note, acqUnit_setAcq_same, acqUnit_setAcq_same, acqMay_acqPoints, acqMay_note]
    exact ⟨rfl, Nat.ne_of_beq_eq_false rfl, rfl⟩
  · rw [acqUnit_acqPoints, acqUnit_setAcq_same, acqUnit_setAcq_same, acqMay_acqPoints]
    exact ⟨rfl, Nat.ne_of_beq_eq_false rfl, rfl⟩

/-- Disabling a unit without an open record puts it into its state at once. -/
theorem acqUnit_acqDisable {s : State} {u : Nat} (h : (acqUnit s u).st ≠ 3) (st : Nat) :
    acqUnit (acqDisable s u st) u = { acqUnit s u with st := st, pool := [], grp := none, filling := false, gapN := none } := by
  unfold acqDisable
  dsimp only
  rw [if_neg h, acqUnit_acqPoints, acqUnit_setAcq_same]

end Unit

/-! ### Samples, triggers and gaps (R372, R374, R376, R385) -/

section Running

variable {s : State} {n : Fin 32} (hm : acqMay s n.val = true) (hst : 2 ≤ (acqUnit s n.val).st)
include hm hst

section Sample

variable {t : DWord} {vals : List Word} (ht : t.toNat ≤ s.t0) (hlast : (acqUnit s n.val).lastT ≤ t.toNat) (hsrc : acqSrcs s n.val ≠ [])
  (hkind : param s pAcqSrcKind n.val ≠ 3) (hlen : vals.length = (acqSrcs s n.val).length) (hgrid : acqFrame s n.val = 0 ∨ t.toNat % max 1 (acqTs s n.val) = 0)
include ht hlast hsrc hkind hlen hgrid

theorem exec_captureSample :
    exec (.captureSample n t vals) s =
      (let s1 := setAcq s n.val (fun m => { m with lastT := t.toNat })
       match (acqUnit s n.val).gapN with
       | some k => .next (setAcq s1 n.val (fun m => { m with gapN := some (k + 1) }))
       | none => .next (acqPoints (if acqFrame s n.val = 0 then acqChangeIn s1 n.val t.toNat (vals.map (fun v => (v, 0)))
           else acqFrameIn s1 n.val t.toNat ((vals.map (fun v => (v, 0))).map (·.1)) (vals.flatMap (fun v => leBytes 2 v.toNat))) n.val)) := by
  show execCaptureSample n t vals s = _
  have hgo : ¬ (s.t0 < t.toNat ∨ t.toNat < (acqUnit s n.val).lastT ∨ (!(decide (acqFrame s n.val = 0) || decide (t.toNat % max 1 (acqTs s n.val) = 0))) = true ∨
      (acqUnit s n.val).st < 2 ∨ acqSrcs s n.val = [] ∨ (param s pAcqSrcKind n.val ≠ 3 ∧ vals.length ≠ (acqSrcs s n.val).length)) := by
    rintro (h | h | h | h | h | h)
    · omega
    · omega
    · rcases hgrid with hg | hg <;> simp [hg] at h
    · omega
    · exact hsrc h
    · exact h.2 hlen
  unfold execCaptureSample
  simp only [acqSync_of_running hm hst, if_neg hgo, if_neg hkind] <;> rfl

theorem exec_captureSample_change (hg : (acqUnit s n.val).gapN = none) (hf : acqFrame s n.val = 0) :
    exec (.captureSample n t vals) s =
      .next (acqPoints (acqChangeIn (setAcq s n.val (fun m => { m with lastT := t.toNat })) n.val t.toNat (vals.map (fun v => (v, 0)))) n.val) := by
  rw [exec_captureSample hm hst ht hlast hsrc hkind hlen hgrid]
  simp only [hg, if_pos hf]

theorem exec_captureSample_frame (hg : (acqUnit s n.val).gapN = none) (hf : acqFrame s n.val ≠ 0) :
    exec (.captureSample n t vals) s =
      .next (acqPoints (acqFrameIn (setAcq s n.val (fun m => { m with lastT := t.toNat })) n.val t.toNat ((vals.map (fun v => (v, 0))).map (·.1))
        (vals.flatMap (fun v => leBytes 2 v.toNat))) n.val) := by
  rw [exec_captureSample hm hst ht hlast hsrc hkind hlen hgrid]
  simp only [hg, if_neg hf]

theorem exec_captureSample_gap {k : Nat} (hg : (acqUnit s n.val).gapN = some k) :
    exec (.captureSample n t vals) s =
      .next (setAcq (setAcq s n.val (fun m => { m with lastT := t.toNat })) n.val (fun m => { m with gapN := some (k + 1) })) := by
  rw [exec_captureSample hm hst ht hlast hsrc hkind hlen hgrid]
  simp only [hg]

end Sample

theorem exec_acqTriggerEvent_future (t : DWord) (v : Word) (ht : s.t0 < t.toNat) : exec (.acqTriggerEvent n t v) s = .next s := by
  show execAcqTriggerEvent n t v s = _
  unfold execAcqTriggerEvent
  simp only [acqSync_of_running hm hst]
  exact if_pos (.inl ht)

theorem exec_acqTriggerEvent (t : DWord) (v : Word) (ht : t.toNat ≤ s.t0) (h1 : 1 ≤ (acqUnit s n.val).get 1) (h9 : (acqUnit s n.val).get 1 < 9) :
    exec (.acqTriggerEvent n t v) s = (
      let (w, q) := if trigTile s n.val (acqUnit s n.val) then (v, 0)
        else ((pgetAt s t.toNat ((acqUnit s n.val).get 2)).value, (pgetAt s t.toNat ((acqUnit s n.val).get 2)).qual)
      let s1 := setAcq s n.val (fun x => { x with prev := some (w, q), ready := (trigHolds s (acqUnit s n.val) n.val w q).2 })
      .next (if (trigHolds s (acqUnit s n.val) n.val w q).1 then acqTrigger 32 s1 n.val t.toNat ((acqUnit s n.val).get 1) 0 else s1)) := by
  show execAcqTriggerEvent n t v s = _
  unfold execAcqTriggerEvent
  simp only [acqSync_of_running hm hst]
  rw [if_neg (by omega)]
  by_cases htile : trigTile s n.val (acqUnit s n.val) = true
  · simp only [if_pos htile]
    exact (apply_ite Host.Outcome.next ..).symm
  · simp only [if_neg htile]
    exact (apply_ite Host.Outcome.next ..).symm

theorem exec_acqAutoTimeout (h2 : (acqUnit s n.val).st = 2) (hauto : (acqUnit s n.val).get 0 = 2)
    (hdue : (acqUnit s n.val).armedAt + (acqUnit s n.val).get 8 * 1000000 ≤ s.t0) :
    exec (.acqAutoTimeout n) s = .next (acqTrigger 32 s n.val ((acqUnit s n.val).armedAt + (acqUnit s n.val).get 8 * 1000000) 0 2) := by
  show execAcqAutoTimeout n s = _
  unfold execAcqAutoTimeout
  simp only [acqSync_of_running hm hst]
  exact if_pos ⟨h2, hauto, hdue⟩

theorem exec_acqAutoTimeout_early (hdue : s.t0 < (acqUnit s n.val).armedAt + (acqUnit s n.val).get 8 * 1000000) : exec (.acqAutoTimeout n) s = .next s := by
  show execAcqAutoTimeout n s = _
  unfold execAcqAutoTimeout
  simp only [acqSync_of_running hm hst]
  exact if_neg fun h => absurd h.2.2 (Nat.not_le.mpr hdue)

end Running

section Gap

variable {s : State} {n : Fin 32}

theorem exec_acqGap_on (hg : (acqUnit s n.val).gapN = none) : ∃ t, exec (.acqGap n true) s = .next t ∧ (acqUnit t n.val).gapN = some 0 := by
  show ∃ t, execAcqGap n true s = _ ∧ _
  unfold execAcqGap
  simp only [hg]
  refine ⟨_, rfl, ?_⟩
  rw [acqUnit_note, acqUnit_setAcq_same]

/-- What an item leaves of its unit: the gap's counters among it. -/
theorem acqPut_gaps (s : State) (u : Nat) (x : AcqItem) : (acqUnit (acqPut s u x) u).gapN = (acqUnit s u).gapN ∧
    (acqUnit (acqPut s u x) u).gaps = (acqUnit s u).gaps ∧ (acqUnit (acqPut s u x) u).lost = (acqUnit s u).lost := by
  unfold acqPut
  dsimp only
  rw [acqUnit_setAcq_same]
  split
  · exact ⟨rfl, rfl, rfl⟩
  · split <;> exact ⟨rfl, rfl, rfl⟩

theorem exec_acqGap_off {k : Nat} (hg : (acqUnit s n.val).gapN = some k) :
    ∃ t, exec (.acqGap n false) s = .next t ∧ (acqUnit t n.val).gapN = none ∧ (acqUnit t n.val).gaps = ((acqUnit s n.val).gaps + 1) % 2 ^ 32 ∧
      (acqUnit t n.val).lost = ((acqUnit s n.val).lost + k) % 2 ^ 32 := by
  show ∃ t, execAcqGap n false s = _ ∧ _
  unfold execAcqGap
  simp only [hg]
  rw [if_neg Bool.false_ne_true]
  refine ⟨_, rfl, ?_⟩
  rw [acqUnit_acqPoints, acqUnit_note]
  split
  · rw [acqUnit_setAcq_same]
    obtain ⟨hn, hgaps, hlost⟩ := acqPut_gaps (setAcq s n.val fun m => { m with gapN := none, gaps := (m.gaps + 1) % 2 ^ 32, lost := (m.lost + k) % 2 ^ 32 }) n.val
      (.gap (if acqFrame s n.val = 0 then (acqUnit s n.val).gapT else frameOf s n.val (acqUnit s n.val).gapT) _)
    rw [acqUnit_setAcq_same] at hn hgaps hlost
    exact ⟨hn, hgaps, hlost⟩
  · rw [acqUnit_setAcq_same, acqUnit_setAcq_same]
    exact ⟨rfl, rfl, rfl⟩

end Gap

/-! ### The ends of records, the pool's switch, the holdoff (R376, R378, R386) -/

section Ends

variable {s : State} {n : Fin 32}

theorem exec_acqRecordEnd_none (h : (acqUnit s n.val).cur = none) : exec (.acqRecordEnd n) s = .next s := by
  show execAcqRecordEnd n s = _
  rw [execAcqRecordEnd]
  simp only [h]

section Open

variable {r : AcqOpen} (h : (acqUnit s n.val).cur = some r)
include h

theorem exec_acqRecordEnd_early (ht : s.t0 < r.tf + param s pAcqPostUs n.val * 1000) : exec (.acqRecordEnd n) s = .next s := by
  show execAcqRecordEnd n s = _
  rw [execAcqRecordEnd]
  simp only [h]
  exact if_pos ht

theorem exec_acqRecordEnd_due (ht : r.tf + param s pAcqPostUs n.val * 1000 ≤ s.t0) :
    exec (.acqRecordEnd n) s = .next (acqFinish s n.val (r.tf + param s pAcqPostUs n.val * 1000) 0) := by
  show execAcqRecordEnd n s = _
  rw [execAcqRecordEnd]
  simp only [h]
  exact if_neg (Nat.not_lt.mpr ht)

variable (hd : (acqUnit s n.val).disableAt = none) (hm : acqMay s n.val = true)
include hd hm

/-- A unit that goes on switches its pool buffers, then holds off. -/
theorem acqFinish_goesOn (h1 : (acqUnit s n.val).get 0 ≠ 1) (stop : Nat) (fl : BitVec 16) :
    (acqUnit (acqFinish s n.val stop fl) n.val).cur = none ∧ (acqUnit (acqFinish s n.val stop fl) n.val).filling = false ∧
      (acqUnit (acqFinish s n.val stop fl) n.val).switchEnd = stop + 2000 ∧
      (acqUnit (acqFinish s n.val stop fl) n.val).holdEnd = stop + 2000 + (acqUnit s n.val).get 7 * 1000 := by
  obtain ⟨hcur, -, hmay⟩ := acqClose_open h stop fl
  unfold acqFinish
  dsimp only
  rw [if_neg (by simp [hd, hmay, hm]), if_neg h1, acqUnit_setAcq_same]
  exact ⟨hcur, rfl, rfl, rfl⟩

theorem acqFinish_single (h1 : (acqUnit s n.val).get 0 = 1) (stop : Nat) (fl : BitVec 16) :
    (acqUnit (acqFinish s n.val stop fl) n.val).cur = none ∧ (acqUnit (acqFinish s n.val stop fl) n.val).st = 1 := by
  obtain ⟨hcur, hst, hmay⟩ := acqClose_open h stop fl
  unfold acqFinish
  dsimp only
  rw [if_neg (by simp [hd, hmay, hm]), if_pos h1, acqUnit_acqDisable hst]
  exact ⟨hcur, rfl⟩

end Open

theorem exec_acqPoolSwitchEnd (hst : (acqUnit s n.val).st = 4) (hf : (acqUnit s n.val).filling = false) (ht : (acqUnit s n.val).switchEnd ≤ s.t0) :
    exec (.acqPoolSwitchEnd n) s = .next (setAcq s n.val (fun x => { x with
      filling := true, fillFrom := (acqUnit s n.val).switchEnd, pool := [], grp := none, base := (acqUnit s n.val).vals })) := by
  refine congrArg Host.Outcome.next ((if_pos ⟨hst, by simp [hf], ht⟩).trans (setAcq_congr rfl))

theorem exec_acqHoldoffEnd_early (ht : s.t0 < (acqUnit s n.val).holdEnd) : exec (.acqHoldoffEnd n) s = .next s :=
  if_neg fun h => absurd h.2.2 (Nat.not_le.mpr ht)

/-- Re-arming keeps the pool; the arm's instant is the holdoff's end. -/
theorem exec_acqHoldoffEnd_rearms (hst : (acqUnit s n.val).st = 4) (hf : (acqUnit s n.val).filling = true) (ht : (acqUnit s n.val).holdEnd ≤ s.t0)
    (hm : acqMay s n.val = true) (hd : (acqUnit s n.val).disableAt = none) (h1 : (acqUnit s n.val).get 0 ≠ 1) :
    ∃ t, exec (.acqHoldoffEnd n) s = .next t ∧ (acqUnit t n.val).st = 2 ∧ (acqUnit t n.val).armedAt = (acqUnit s n.val).holdEnd ∧
      (acqUnit t n.val).pool = (acqUnit s n.val).pool := by
  refine ⟨holdoffEnd s n.val, if_pos ⟨hst, hf, ht⟩, ?_⟩
  unfold holdoffEnd
  dsimp only
  rw [if_neg (by simp [hm, hd]), if_neg h1, acqUnit_setAcq_same, acqArm, acqUnit_acqPoints, acqUnit_setAcq_same]
  exact ⟨rfl, rfl, rfl⟩

section Deadline

variable {a : Nat} (hm : acqMay s n.val = true) (hst : (acqUnit s n.val).st = 3) (hd : (acqUnit s n.val).disableAt = some a)
include hm hst hd

theorem exec_acqDisableDeadline_early (ht : s.t0 < a + (acqUnit s n.val).get 11 * 1000000) : exec (.acqDisableDeadline n) s = .next s := by
  show execAcqDisableDeadline n s = _
  unfold execAcqDisableDeadline
  simp only [acqSync_of_running hm (by omega), hd]
  exact if_pos (.inr ht)

theorem exec_acqDisableDeadline_due {r : AcqOpen} (hc : (acqUnit s n.val).cur = some r) (ht : a + (acqUnit s n.val).get 11 * 1000000 ≤ s.t0) :
    exec (.acqDisableDeadline n) s = .next
      (let s1 := setAcq (acqClose s n.val (a + (acqUnit s n.val).get 11 * 1000000) 4) n.val (fun m => { m with disableAt := none })
       acqDisable s1 n.val (stopState s n.val)) := by
  show execAcqDisableDeadline n s = _
  unfold execAcqDisableDeadline
  simp only [acqSync_of_running hm (by omega), hd]
  exact if_neg (by simp only [hc, ms, Option.isNone_some, Bool.false_eq_true, false_or]; omega)

end Deadline

end Ends

/-! ### The statement -/

/-- Settles O33: a running unit's rows by their conditions, the record's end by what closing it leaves. -/
theorem captureUnits : Obligations.CaptureUnits := by
  unfold Obligations.CaptureUnits
  refine ⟨fun s n hm hst => ⟨fun t vals ht hlast hsrc hkind hlen hgrid => ⟨exec_captureSample_change hm hst ht hlast hsrc hkind hlen hgrid,
        exec_captureSample_frame hm hst ht hlast hsrc hkind hlen hgrid, fun k => exec_captureSample_gap hm hst ht hlast hsrc hkind hlen hgrid⟩,
      exec_acqTriggerEvent_future hm hst, exec_acqTriggerEvent hm hst, exec_acqAutoTimeout hm hst, exec_acqAutoTimeout_early hm hst, exec_acqGap_on,
      fun k => exec_acqGap_off⟩,
    fun s n => ⟨fun r hr => ⟨fun hdue hd hm => ⟨fun h1 => ?goesOn, fun h1 => ?single⟩, exec_acqRecordEnd_early hr⟩, exec_acqRecordEnd_none, exec_acqPoolSwitchEnd,
      exec_acqHoldoffEnd_rearms, exec_acqHoldoffEnd_early,
      fun a r hm hst hc hd => ⟨exec_acqDisableDeadline_due hm hst hd hc, exec_acqDisableDeadline_early hm hst hd⟩⟩⟩
  case goesOn => exact ⟨_, exec_acqRecordEnd_due hr hdue, acqFinish_goesOn hr hd hm h1 _ 0⟩
  case single => exact ⟨_, exec_acqRecordEnd_due hr hdue, acqFinish_single hr hd hm h1 _ 0⟩

end Sys2Proof.Proofs
end

section
/-! The trigger lines and the acquisition commands (R374-R391, R545, R554). -/

namespace Sys2Proof.Proofs

open Sys2Proof.Machine Sys2Proof.Laws Sys2Proof.Safety

@[simp] theorem trgLine_setTrgLine_same (s : State) (n : Nat) (f : TrgLine → TrgLine) : trgLine (setTrgLine s n f) n = f (trgLine s n) := tget_tmod_same ..

/-! ### A trigger leaves the T0, the queue, the mode, the restart record and the host -/

@[simp] theorem sameBase_setTrgLine {old s : State} (n : Nat) (f : TrgLine → TrgLine) : SameBase old (setTrgLine s n f) ↔ SameBase old s := by simp [setTrgLine]
@[simp] theorem sameBase_acqDisable {old s : State} (u st : Nat) : SameBase old (acqDisable s u st) ↔ SameBase old s := by simp [acqDisable]
@[simp] theorem sameBase_acqSync {old s : State} (u : Nat) : SameBase old (acqSync s u) ↔ SameBase old s := by simp [acqSync]
@[simp] theorem sameBase_acqDrive {old s : State} (u t : Nat) : SameBase old (acqDrive s u t) ↔ SameBase old s := by simp [acqDrive]
@[simp] theorem sameBase_acqOpen {old s : State} (u t kind : Nat) (fl : BitVec 16) : SameBase old (acqOpen s u t kind fl) ↔ SameBase old s := by simp [acqOpen]
@[simp] theorem sameBase_acqMiss {old s : State} (u t : Nat) : SameBase old (acqMiss s u t) ↔ SameBase old s := by simp [acqMiss]
@[simp] theorem sameBase_holdoffEnd {old s : State} (u : Nat) : SameBase old (holdoffEnd s u) ↔ SameBase old s := by simp [holdoffEnd]
@[simp] theorem sameBase_switchDone {old s : State} (u : Nat) : SameBase old (switchDone s u) ↔ SameBase old s := by simp [switchDone]

theorem sameBase_acqTrigger (k : Nat) (s : State) (u t kind : Nat) (fl : BitVec 16) : SameBase s (acqTrigger k s u t kind fl) := by
  induction k generalizing s u t kind fl with
  | zero => exact .refl s
  | succ k ih =>
    unfold acqTrigger
    extract_lets s1 s2 s3 m s4
    have h3 : SameBase s s3 := by simp [s3, s2, s1]
    have h4 : SameBase s3 s4 := by simp [s4]
    clear_value s4 s3
    refine h3.trans ?_
    split
    · split
      · exact .refl s3
      · refine h4.trans ((sameBase_foldl (fun s v => ?_) _ _ _).mpr (.refl s4))
        split
        · exact ih ..
        · exact .refl s
    · split
      · split <;> (try split) <;> simp
      · exact .refl s3

/-- Every named unit that is armed triggers. -/
def triggerArmed (s : State) (mask : Nat) : State :=
  eachUnit s mask (fun s u => let s := acqSync s u; if (acqUnit s u).st = 2 then acqTrigger 32 s u s.t0 0 0x10 else s)

theorem sameBase_triggerArmed (s : State) (mask : Nat) : SameBase s (triggerArmed s mask) := by
  unfold triggerArmed eachUnit
  refine (sameBase_foldl (fun s u => ?_) _ _ _).mpr (.refl s)
  split
  · have h1 : SameBase s (acqSync s u) := by simp
    dsimp only
    split
    · exact h1.trans (sameBase_acqTrigger ..)
    · exact h1
  · exact .refl s

/-! ### Pulses and edges (R389-R391) -/

section Lines

variable {s : State} {l : Fin 4}

theorem exec_trgPulseDrive_due {a : Nat} {r : List Nat} (hc : (trgLine s l.val).calib = none)
    (hp : (trgLine s l.val).pulses.filter (fun t => decide (t + 4000 ≤ s.t0)) = a :: r) :
    exec (.trgPulseDrive l) s = .next (lineFire (drivePulse (setTrgLine s l.val (fun d => { d with pulses := d.pulses.filter (· != a) })) l.val (a + 4000)) l.val a) := by
  show execTrgPulseDrive l s = _
  unfold execTrgPulseDrive
  simp only [hc, hp]

theorem exec_trgPulseDrive_calibrates {mb tag : Nat} (hc : (trgLine s l.val).calib = some (mb, tag, none)) :
    exec (.trgPulseDrive l) s = .next (setTrgLine (drivePulse s l.val s.t0) l.val (fun d => { d with calib := some (mb, tag, some s.t0) })) := by
  show execTrgPulseDrive l s = _
  unfold execTrgPulseDrive
  simp only [hc]

/-- The instant of an edge's tag, in steps of 10 ns. -/
def edgeAt (g : DWord) : Nat := g.toNat / 10 * 10

section Edge

variable {g : DWord}

theorem exec_trgEdgeReceive_ignored (up : Bool) (h : s.t0 < edgeAt g ∨ ∃ x ∈ (trgLine s l.val).driven, x ≤ edgeAt g ∧ edgeAt g ≤ x + 2000) :
    exec (.trgEdgeReceive l g up) s = .next s := by
  refine if_pos (h.imp_right ?_)
  rintro ⟨x, hx, hin⟩
  exact List.any_eq_true.mpr ⟨x, hx, decide_eq_true hin⟩

variable (ht : edgeAt g ≤ s.t0) (hown : ∀ x ∈ (trgLine s l.val).driven, edgeAt g < x ∨ x + 2000 < edgeAt g)
include ht hown

theorem trgEdge_isTaken : ¬ (s.t0 < edgeAt g ∨ (trgLine s l.val).driven.any (fun x => decide (x ≤ edgeAt g ∧ edgeAt g ≤ x + 2000)) = true) := by
  rintro (h | h)
  · omega
  · obtain ⟨x, hx, hin⟩ := List.any_eq_true.mp h
    have := of_decide_eq_true hin
    have := hown x hx
    omega

theorem exec_trgEdgeReceive_falling : exec (.trgEdgeReceive l g false) s = .next (lineTasks s l.val false (edgeAt g - 4000 - param s pAcqTrgDelay l.val)) :=
  (if_neg (trgEdge_isTaken ht hown)).trans (if_pos rfl)

theorem exec_trgEdgeReceive_merged {x : Nat} (hr : (trgLine s l.val).lastRise = some x) (hx : edgeAt g < x + 2000) :
    exec (.trgEdgeReceive l g true) s = .next (setTrgLine s l.val (fun d => { d with lastRise := some (edgeAt g), merged := d.merged + 1 })) := by
  refine (if_neg (trgEdge_isTaken ht hown)).trans ((if_neg (by decide)).trans (if_pos ?_))
  simp only [hr]
  exact decide_eq_true hx

variable (hr : ∀ x, (trgLine s l.val).lastRise = some x → x + 2000 ≤ edgeAt g)
include hr

omit ht hown in
theorem trgEdge_isApart : ¬ (match (trgLine s l.val).lastRise with | some x => decide (edgeAt g < x + 2000) | none => false) = true := by
  split
  next x hx => simpa using hr x hx
  next => exact Bool.false_ne_true

theorem exec_trgEdgeReceive_taken (hc : (trgLine s l.val).calib = none) :
    exec (.trgEdgeReceive l g true) s = .next (lineFire
      (let s1 := setTrgLine s l.val (fun d => { d with lastRise := some (edgeAt g) })
       if flag s1 pAcqTrgEcho l.val then setTrgLine s1 l.val (fun d => { d with echoes := d.echoes ++ [edgeAt g + 10000] }) else s1) l.val
      (edgeAt g - 4000 - param s pAcqTrgDelay l.val)) := by
  refine (if_neg (trgEdge_isTaken ht hown)).trans ((if_neg (by decide)).trans ((if_neg (trgEdge_isApart hr)).trans ?_))
  simp only [hc]
  rfl

theorem exec_trgEdgeReceive_echo {mb tag x : Nat} (hc : (trgLine s l.val).calib = some (mb, tag, some x)) :
    ∃ u, exec (.trgEdgeReceive l g true) s = .next u ∧ (trgLine u l.val).calib = none ∧ (trgLine u l.val).lastRise = some (edgeAt g) := by
  refine ⟨finish (setTrgLine (setTrgLine s l.val (fun d => { d with lastRise := some (edgeAt g) })) l.val (fun d => { d with calib := none }))
    { mb := ⟨mb % 8, Nat.mod_lt _ (by decide)⟩, tag := bv 5 tag } 0x0606 true 0 (leBytes 4 (edgeAt g - x) ++ leBytes 4 ((edgeAt g - x - 10000) / 2)),
    (if_neg (trgEdge_isTaken ht hown)).trans ((if_neg (by decide)).trans ((if_neg (trgEdge_isApart hr)).trans ?_)), ?_⟩
  · simp only [hc]
    rfl
  · rw [trgLine, finish_lines, ← trgLine, trgLine_setTrgLine_same, trgLine_setTrgLine_same]
    exact ⟨rfl, rfl⟩

end Edge

theorem exec_trgEcho_due {e : Nat} {r : List Nat} (h : (trgLine s l.val).echoes = e :: r) (ht : e ≤ s.t0) :
    exec (.trgEcho l) s = .next (drivePulse (setTrgLine s l.val (fun d => { d with echoes := r })) l.val e) := by
  show execTrgEcho l s = _
  unfold execTrgEcho
  simp only [h]
  exact if_pos ht

theorem exec_trgEcho_early {e : Nat} {r : List Nat} (h : (trgLine s l.val).echoes = e :: r) (ht : s.t0 < e) : exec (.trgEcho l) s = .next s := by
  show execTrgEcho l s = _
  unfold execTrgEcho
  simp only [h]
  exact if_neg (Nat.not_le.mpr ht)

section NoEcho

variable {mb tag x : Nat} (hc : (trgLine s l.val).calib = some (mb, tag, some x))
include hc

theorem exec_noEcho_due (ht : x + 100000 ≤ s.t0) :
    exec (.noEcho l) s = .next (finish (setTrgLine s l.val (fun d => { d with calib := none }))
      { mb := ⟨mb % 8, Nat.mod_lt _ (by decide)⟩, tag := bv 5 tag } 0x0606 true 0x0409) := by
  show execNoEcho l s = _
  unfold execNoEcho
  simp only [hc]
  exact if_neg (Nat.not_lt.mpr ht)

theorem exec_noEcho_early (ht : s.t0 < x + 100000) : exec (.noEcho l) s = .next s := by
  show execNoEcho l s = _
  unfold execNoEcho
  simp only [hc]
  exact if_pos ht

end NoEcho

theorem exec_trgCalibrate {r : Req} (h : Runs s r 0x0606 true allModes 4 (r.target == 0 && decide (l.val < 4) && fld r.payload 1 3 == 0))
    (hn : fld r.payload 0 1 = l.val) (hc : (trgLine s l.val).calib = none) :
    exec (.trgCalibrate r) s = .next (setTrgLine (begun s r 0x0606) l.val (fun d => { d with calib := some (r.mb.val, r.tag.toNat, none) })) := by
  rw [← hn] at h hc ⊢
  exact congrArg Host.Outcome.next ((command_runs h _).trans (if_neg (by simp [hc])))

end Lines

/-! ### Commands (R374, R375, R380, R386, R554) -/

/-- The answer's instant is that of acceptance, which the triggers leave. -/
theorem exec_acqTrigger {s : State} {r : Req} (h : Runs s r 0x0602 true acqModes 4 (r.target == 0)) :
    exec (.acqTrigger r) s = .next (finish (triggerArmed (begun s r 0x0602) (fld r.payload 0 4)) r 0x0602 true 0
      (leBytes 8 (triggerArmed (begun s r 0x0602) (fld r.payload 0 4)).t0)) := by
  rw [(sameBase_triggerArmed ..).t0]
  exact congrArg Host.Outcome.next (command_runs h _)

section Read

variable {s : State} {r : Req} (h : Runs s r 0x0604 false allModes 16
  (r.target == 0 && decide (fld r.payload 0 1 < 32) && fld r.payload 1 3 == 0 && bulkOk (fld r.payload 8 4) (fld r.payload 12 4)))
include h

theorem exec_acqRead_open (hc : (acqUnit s (fld r.payload 0 1)).cur ≠ none) (hn : fld r.payload 4 4 = (acqUnit s (fld r.payload 0 1)).recno) :
    exec (.acqRead r) s = .next (finish (begun s r 0x0604) r 0x0604 false 0x0504) :=
  congrArg Host.Outcome.next ((command_runs h _).trans (if_pos ⟨Option.isSome_iff_ne_none.mpr hc, hn⟩))

variable (hc : (acqUnit s (fld r.payload 0 1)).cur = none)
include hc

/-- With no open record the one of the number is looked up. -/
theorem exec_acqRead_closed :
    exec (.acqRead r) s = .next (match (acqUnit s (fld r.payload 0 1)).recs.find? (fun x => x.recno == fld r.payload 4 4) with
      | none => finish (begun s r 0x0604) r 0x0604 false 0x0405
      | some x =>
        if fld r.payload 12 4 < x.bytes.length then finish (begun s r 0x0604) r 0x0604 false 0x0102
        else if bulkBusy (begun s r 0x0604) (fld r.payload 8 4) (fld r.payload 12 4) then finish (begun s r 0x0604) r 0x0604 false 0x0509
        else finish (bulkPut (begun s r 0x0604) (fld r.payload 8 4) x.bytes) r 0x0604 false 0 (leBytes 4 x.bytes.length)) :=
  congrArg Host.Outcome.next ((command_runs h _).trans (if_neg fun hopen => by
    rw [show (acqUnit (beginCmd s r 0x0604) (fld r.payload 0 1)).cur = none from hc] at hopen
    exact Bool.false_ne_true hopen.1))

theorem exec_acqRead_missing (hx : (acqUnit s (fld r.payload 0 1)).recs.find? (fun x => x.recno == fld r.payload 4 4) = none) :
    exec (.acqRead r) s = .next (finish (begun s r 0x0604) r 0x0604 false 0x0405) := by
  rw [exec_acqRead_closed h hc, hx]

section Found

variable {x : AcqRec} (hx : (acqUnit s (fld r.payload 0 1)).recs.find? (fun x => x.recno == fld r.payload 4 4) = some x)
include hx

theorem exec_acqRead_small (hl : fld r.payload 12 4 < x.bytes.length) :
    exec (.acqRead r) s = .next (finish (begun s r 0x0604) r 0x0604 false 0x0102) := by
  rw [exec_acqRead_closed h hc, hx]
  exact congrArg Host.Outcome.next (if_pos hl)

variable (hl : x.bytes.length ≤ fld r.payload 12 4)
include hl

theorem exec_acqRead_busy (hb : bulkBusy (begun s r 0x0604) (fld r.payload 8 4) (fld r.payload 12 4) = true) :
    exec (.acqRead r) s = .next (finish (begun s r 0x0604) r 0x0604 false 0x0509) := by
  rw [exec_acqRead_closed h hc, hx]
  exact congrArg Host.Outcome.next ((if_neg (Nat.not_lt.mpr hl)).trans (if_pos hb))

theorem exec_acqRead_copied (hb : bulkBusy (begun s r 0x0604) (fld r.payload 8 4) (fld r.payload 12 4) = false) :
    exec (.acqRead r) s = .next (finish (bulkPut (begun s r 0x0604) (fld r.payload 8 4) x.bytes) r 0x0604 false 0 (leBytes 4 x.bytes.length)) := by
  rw [exec_acqRead_closed h hc, hx]
  exact congrArg Host.Outcome.next ((if_neg (Nat.not_lt.mpr hl)).trans (if_neg (Bool.eq_false_iff.mp hb)))

end Found

end Read

section Release

variable {s : State} {r : Req} (h : Runs s r 0x0605 true allModes 8 (r.target == 0 && decide (fld r.payload 0 1 < 32) && fld r.payload 1 3 == 0))
include h

theorem exec_acqRelease_unknown (hn : ∀ x ∈ (acqUnit s (fld r.payload 0 1)).recs, x.recno ≠ fld r.payload 4 4) :
    exec (.acqRelease r) s = .next (finish (begun s r 0x0605) r 0x0605 true 0x0405) := by
  refine congrArg Host.Outcome.next ((command_runs h _).trans (if_pos ?_))
  rw [Bool.not_eq_true', List.any_eq_false]
  exact fun x hx => by simpa using hn x hx

/-- Whether the unit then arms again or not, the later records stay. -/
theorem exec_acqRelease_dropped {x : AcqRec} (hx : x ∈ (acqUnit s (fld r.payload 0 1)).recs) (hn : x.recno = fld r.payload 4 4) :
    ∃ t, exec (.acqRelease r) s = .next t ∧
      (acqUnit t (fld r.payload 0 1)).recs = (acqUnit s (fld r.payload 0 1)).recs.filter (fun x => later 32 x.recno (fld r.payload 4 4)) := by
  have hany : (acqUnit (beginCmd s r 0x0605) (fld r.payload 0 1)).recs.any (fun x => x.recno == fld r.payload 4 4) = true :=
    List.any_eq_true.mpr ⟨x, hx, beq_iff_eq.mpr hn⟩
  refine ⟨_, congrArg Host.Outcome.next ((command_runs h _).trans (if_neg (by rw [hany]; exact Bool.false_ne_true))), ?_⟩
  extract_lets s1 s2
  have h2 : (acqUnit s2 (fld r.payload 0 1)).recs = (acqUnit s1 (fld r.payload 0 1)).recs := by
    unfold s2
    split
    · rw [acqArm, acqUnit_acqPoints, acqUnit_setAcq_same]
    · rw [acqUnit_acqPoints]
  rw [acqUnit, finish_acq, ← acqUnit, h2, acqUnit_setAcq_same]
  rfl

end Release

/-! ### The statement -/

/-- Settles O34: every row and command by the branch of its condition. -/
theorem triggerLinesAndAcquisition : Obligations.TriggerLinesAndAcquisition := by
  unfold Obligations.TriggerLinesAndAcquisition
  refine ⟨fun s l => ⟨fun a r => exec_trgPulseDrive_due, fun mb tag => exec_trgPulseDrive_calibrates, fun g => ⟨exec_trgEdgeReceive_ignored, fun ht hown => ?edge⟩,
      fun e r he => ⟨exec_trgEcho_due he, exec_trgEcho_early he⟩, fun mb tag x hc => ⟨exec_noEcho_due hc, exec_noEcho_early hc⟩, fun r h hn hc => exec_trgCalibrate h hn hc⟩,
    fun s r => ⟨fun h => congrArg Host.Outcome.next (command_runs h _), fun h => ?trigger, fun h => congrArg Host.Outcome.next (command_runs h _), fun h => ?read,
      fun h => ⟨exec_acqRelease_unknown h, fun x => exec_acqRelease_dropped h⟩⟩⟩
  case edge =>
    exact ⟨exec_trgEdgeReceive_falling ht hown, fun x => exec_trgEdgeReceive_merged ht hown,
      fun hr => ⟨exec_trgEdgeReceive_taken ht hown hr, fun mb tag x => exec_trgEdgeReceive_echo ht hown hr⟩⟩
  case trigger => exact exec_acqTrigger h
  case read =>
    exact ⟨exec_acqRead_open h, exec_acqRead_missing h, fun x hc hx => ⟨exec_acqRead_small h hc hx, exec_acqRead_busy h hc hx, exec_acqRead_copied h hc hx⟩⟩

end Sys2Proof.Proofs
end

section
/-! Thatch: aggregates, updates, closed intervals, load and queries (R394-R409, R554). -/

namespace Sys2Proof.Proofs

open Sys2Proof.Machine Sys2Proof.Laws Sys2Proof.Safety

/-! ### The aggregate of a tile (R394, R403) -/

section Aggregate

variable {s : State} {w : Word} (ht : tilePoint w.toNat = true) (hr : recorded s w.toNat = true)
  (hn : s.t0 / 10000 / clsLen (effClsAt s w.toNat (s.t0 - 1)) ≠ 0)
include ht hr hn

theorem exec_tileAggregateSend_credits (hagg : tfind s.thatch.tileAgg w.toNat = none) (mn mx : Word) (sum : DWord) (k : BitVec 24) (q : BitVec 11) (nan : Bool) :
    ∃ t x, exec (.tileAggregateSend w mn mx sum k q nan true) s = .next t ∧ t.thatch.queue = s.thatch.queue ++ [x] ∧ x.point = w.toNat ∧ x.val = mx ∧
      x.t = (s.t0 / 10000 / clsLen (effClsAt s w.toNat (s.t0 - 1)) - 1) * clsLen (effClsAt s w.toNat (s.t0 - 1)) * 10000 := by
  refine ⟨_, _, (if_neg (by simp [ht, hr])).trans ((if_neg hn).trans (if_pos rfl)), rfl, rfl, ?_, ?_⟩ <;> simp only [hagg]

theorem exec_tileAggregateSend_kept (mn mx : Word) (sum : DWord) (k : BitVec 24) (q : BitVec 11) (nan : Bool) :
    ∃ t, exec (.tileAggregateSend w mn mx sum k q nan false) s = .next t ∧ t.thatch.queue = s.thatch.queue ∧ (tfind t.thatch.tileAgg w.toNat).isSome = true :=
  ⟨_, (if_neg (by simp [ht, hr])).trans ((if_neg hn).trans (if_neg Bool.false_ne_true)), rfl, by
    show (tfind (tset s.thatch.tileAgg w.toNat _) w.toNat).isSome = true
    rw [tfind_tset_same]
    rfl⟩

end Aggregate

/-! ### What bringing the logs up leaves -/

section Sync

variable (s : State) (p : Nat)

theorem recorded_syncLogs : recorded (syncLogs s p) p = recorded s p := rfl
theorem planOf_syncLogs : planOf (syncLogs s p) p = planOf s p := rfl
theorem tightOf_syncLogs : tightOf (syncLogs s p) p = tightOf s p := rfl
theorem pget_syncLogs : pget (syncLogs s p) p = pget s p := rfl

end Sync

/-! ### THATCH_UPDATE (R394) -/

theorem exec_thatchUpdate_none {s : State} (h : s.thatch.queue = []) : exec .thatchUpdate s = .next s := by
  show execThatchUpdate s = _
  rw [execThatchUpdate, h]

section Update

variable {s : State} {u : ThUpd} {l : List ThUpd} (hq : s.thatch.queue = u :: l)
include hq

theorem exec_thatchUpdate_unrecorded (hr : recorded s u.point = false) : exec .thatchUpdate s = .next (setThatch s (fun h => { h with queue := l })) := by
  show execThatchUpdate s = _
  rw [execThatchUpdate, hq]
  exact if_pos (by simp [hr])

variable {o : IntvSt} (hr : recorded s u.point = true) (ho : tfind s.thatch.l0 u.point = some o)
include hr ho

/-- An update later than the open interval waits. -/
theorem exec_thatchUpdate_later (hn : o.start + clsLen o.cls ≤ u.t / 10000) :
    exec .thatchUpdate s = .next (syncLogs s u.point) := by
  show execThatchUpdate s = _
  rw [execThatchUpdate, hq]
  refine (if_neg (by simp [hr])).trans (if_pos ?_)
  rw [show tfind (syncLogs s u.point).thatch.l0 u.point = some o from ho, Option.getD_some]
  simp [hn]

theorem exec_thatchUpdate_open (ht : tightOf s u.point = none) (hl : (planOf s u.point).layers % 2 = 0) (hs : o.start ≤ u.t / 10000) (hn : u.t / 10000 < o.start + clsLen o.cls) :
    ∃ t, exec .thatchUpdate s = .next t ∧ t.thatch.queue = l ∧ tfind t.thatch.l0 u.point = some (feedIntv (pget s u.point).ty (planOf s u.point) o u) := by
  show ∃ t, execThatchUpdate s = _ ∧ _
  rw [execThatchUpdate, hq]
  dsimp only
  rw [if_neg (by simp [hr]), show tfind (syncLogs s u.point).thatch.l0 u.point = some o from ho, Option.getD_some, planOf_syncLogs, tightOf_syncLogs, ht,
    pget_syncLogs]
  rw [if_neg (by simp [hl, hn])]
  have heven : ((planOf s u.point).layers % 2 == 1) = false := by simp [hl]
  simp only [heven, Bool.not_false, if_true, if_pos hs]
  exact ⟨_, rfl, rfl, tfind_tset_same ..⟩

end Update

/-! ### THATCH_INTERVAL_CLOSE (R395, R398) and the end of a tightening (R404) -/

/-- The open states and the rings of the coarse layer are those of `s`. -/
structure SameL0 (s t : State) : Prop where
  l0 : t.thatch.l0 = s.thatch.l0
  ring : t.thatch.l0Ring = s.thatch.l0Ring

theorem SameL0.trans {s t u : State} (h : SameL0 s t) (k : SameL0 t u) : SameL0 s u := ⟨k.l0.trans h.l0, k.ring.trans h.ring⟩

theorem sameL0_note (s : State) (cls : Ev) (isl unit object : Nat) (payload : List Nat) : SameL0 s (note s cls isl unit object payload) :=
  ⟨congrArg ThatchSt.l0 (note_thatch ..), congrArg ThatchSt.l0Ring (note_thatch ..)⟩

theorem sameL0_closeLogs (s : State) (p n : Nat) : SameL0 s (closeLogs s p n) := by
  unfold closeLogs
  extract_lets done recs
  split <;> exact ⟨rfl, rfl⟩

theorem sameL0_activity (s : State) (p : Nat) (st : IntvSt) : SameL0 s (activity s p st) := by
  unfold activity
  extract_lets e ty c load s1 n t
  split
  · exact ⟨rfl, rfl⟩
  · split
    · exact ⟨rfl, rfl⟩
    · exact SameL0.trans (t := setThatch s1 _) ⟨rfl, rfl⟩ (sameL0_note ..)

section Close

variable {s : State} {w : Word}

theorem exec_thatchIntervalClose_unrecorded (hr : recorded s w.toNat = false) : exec (.thatchIntervalClose w) s = .next s := if_pos (by simp [hr])

variable {o : IntvSt} (hr : recorded s w.toNat = true) (ht : tightOf s w.toNat = none) (hl : (planOf s w.toNat).layers % 2 = 0)
  (ho : tfind s.thatch.l0 w.toNat = some o)
include hr ht hl ho

/-- The state in which the open interval is kept as it stands. -/
def l0Seen (s : State) (p : Nat) (o : IntvSt) : State := setThatch (syncLogs s p) (fun h => { h with l0 := tset h.l0 p o })

/-- Without a tightening and a second layer only the open coarse interval is closed, once it has ended. -/
theorem thatchClose_seen : exec (.thatchIntervalClose w) s =
    .next (if s.t0 / 10000 < o.start + clsLen o.cls then l0Seen s w.toNat o
      else
        let e := planOf s w.toNat
        let x := closeIntv w.toNat o (if e.cls < o.cls then 2 else 0)
        let start := o.start + clsLen o.cls
        let c' := rangeClsAt e (start * 10000)
        let c' := if start % clsLen c' = 0 then c' else o.cls
        let s := setThatch (l0Seen s w.toNat o) (fun h => { h with
          demand := h.demand + 1, l0Ring := ringPut h.l0Ring w.toNat e.cls e.l0Depth x, l0 := tset h.l0 w.toNat (openIntv c' start x.last) })
        closeLogs (activity s w.toNat x) w.toNat start) := by
  show execThatchIntervalClose w s = _
  unfold execThatchIntervalClose
  extract_lets p s1 e n v c o0 o1 l1 s2 tight
  have ho0 : o0 = o := by
    unfold o0
    rw [show tfind s1.thatch.l0 p = some o from ho, Option.getD_some]
  have hl1 : l1 = false := by
    unfold l1
    rw [show e = planOf s p from rfl, hl]
    rfl
  have htight : tight = none := by
    unfold tight
    rw [show tightOf s2 p = none from ht]
    rfl

  clear_value tight l1 o0
  subst htight hl1 ho0
  exact (if_neg (by simp [p, hr])).trans (if_neg fun h => Bool.false_ne_true h.1)

theorem exec_thatchIntervalClose_open (hn : s.t0 / 10000 < o.start + clsLen o.cls) :
    ∃ t, exec (.thatchIntervalClose w) s = .next t ∧ tfind t.thatch.l0 w.toNat = some o ∧ t.thatch.l0Ring = s.thatch.l0Ring := by
  exact ⟨_, (thatchClose_seen hr ht hl ho).trans (congrArg Host.Outcome.next (if_pos hn)), tfind_tset_same .., rfl⟩

theorem exec_thatchIntervalClose_ended (hn : o.start + clsLen o.cls ≤ s.t0 / 10000) :
    ∃ t c, exec (.thatchIntervalClose w) s = .next t ∧
      t.thatch.l0Ring = ringPut s.thatch.l0Ring w.toNat (planOf s w.toNat).cls (planOf s w.toNat).l0Depth
        (closeIntv w.toNat o (if (planOf s w.toNat).cls < o.cls then 2 else 0)) ∧
      tfind t.thatch.l0 w.toNat = some (openIntv c (o.start + clsLen o.cls) o.last) := by
  have hexec := (thatchClose_seen hr ht hl ho).trans (congrArg Host.Outcome.next (if_neg (Nat.not_lt.mpr hn)))
  extract_lets e x start c0 c1 s1 at hexec
  refine ⟨_, c1, hexec, ?_, ?_⟩
  · rw [(sameL0_closeLogs ..).ring, (sameL0_activity ..).ring]
    rfl
  · rw [(sameL0_closeLogs ..).l0, (sameL0_activity ..).l0]
    exact tfind_tset_same ..

end Close

theorem exec_thatchTightHoldExpiry {s : State} {w : Word} {t : Tight} (h : tightOf s w.toNat = some t) :
    (t.lastAct + param s pThatchTightHold 0 * 1000000 ≤ s.t0 → exec (.thatchTightHoldExpiry w) s = .next (endTight s w.toNat)) ∧
      (s.t0 < t.lastAct + param s pThatchTightHold 0 * 1000000 → exec (.thatchTightHoldExpiry w) s = .next s) := by
  show (_ → execThatchTightHoldExpiry w s = _) ∧ (_ → execThatchTightHoldExpiry w s = _)
  rw [execThatchTightHoldExpiry, h]
  exact ⟨fun ht => if_pos ht, fun ht => if_neg (Nat.not_le.mpr ht)⟩

/-! ### THATCH_LOAD_WINDOW (R405, R406) -/

/-- The state at a window's end: its demand is listed, the next one starts at 0. -/
def windowEnded (s : State) : State :=
  setThatch s (fun h => { h with windowAt := s.t0 / 1000000, demand := 0, win := (h.win ++ [s.thatch.demand]).drop (h.win.length + 1 - 1000) })

/-- The load window's list and place are those of `s`, and its demand. -/
structure SameWindow (s t : State) : Prop where
  windowAt : t.thatch.windowAt = s.thatch.windowAt
  demand : t.thatch.demand = s.thatch.demand
  win : t.thatch.win = s.thatch.win

theorem SameWindow.refl (s : State) : SameWindow s s := ⟨rfl, rfl, rfl⟩

theorem SameWindow.trans {s t u : State} (h : SameWindow s t) (k : SameWindow t u) : SameWindow s u :=
  ⟨k.windowAt.trans h.windowAt, k.demand.trans h.demand, k.win.trans h.win⟩

theorem sameWindow_note (s : State) (cls : Ev) (isl unit object : Nat) (payload : List Nat) : SameWindow s (note s cls isl unit object payload) :=
  ⟨congrArg ThatchSt.windowAt (note_thatch ..), congrArg ThatchSt.demand (note_thatch ..), congrArg ThatchSt.win (note_thatch ..)⟩

theorem sameWindow_endTight (s : State) (p : Nat) : SameWindow s (endTight s p) := by
  unfold endTight
  split
  · exact ⟨rfl, rfl, rfl⟩
  · exact SameWindow.trans (t := setThatch s _) ⟨rfl, rfl, rfl⟩ (sameWindow_note ..)

theorem windowEnded_win (s : State) : (windowEnded s).thatch.win = (s.thatch.win ++ [s.thatch.demand]).drop (s.thatch.win.length + 1 - 1000) := by
  dsimp only [windowEnded, setThatch]

theorem windowEnded_eq (s : State) :
    setThatch s (fun h => { h with windowAt := s.t0 / ms, demand := 0, win := (h.win ++ [s.thatch.demand]).drop ((h.win ++ [s.thatch.demand]).length - 1000) }) =
      windowEnded s := by
  simp only [List.length_append, List.length_singleton]
  rfl

section Load

variable {s : State}

theorem exec_thatchLoadWindow_again (h : s.t0 / 1000000 ≤ s.thatch.windowAt) (q c : Bool) : exec (.thatchLoadWindow q c) s = .next s := if_pos h

variable (h : s.thatch.windowAt < s.t0 / 1000000)
include h

theorem exec_thatchLoadWindow_steps (q c : Bool) : ∃ t, exec (.thatchLoadWindow q c) s = .next t ∧ SameWindow (windowEnded s) t := by
  show ∃ t, execThatchLoadWindow q c s = _ ∧ _
  unfold execThatchLoadWindow
  extract_lets w d s1
  have hs1 : s1 = windowEnded s := windowEnded_eq s
  clear_value s1
  subst hs1
  rw [if_neg (show ¬ w ≤ s.thatch.windowAt from Nat.not_le.mpr h)]
  generalize windowEnded s = u
  refine iteInduction (motive := fun r : Res => ∃ t, r = .next t ∧ SameWindow u t) (fun _ => ?_) fun _ => ?_
  · refine iteInduction (motive := fun r : Res => ∃ t, r = .next t ∧ SameWindow u t) (fun _ => ⟨u, rfl, .refl u⟩) fun _ => ?_
    · split
      next t _ => exact ⟨_, rfl, (sameWindow_endTight u t.point).trans ⟨rfl, rfl, rfl⟩⟩
      next =>
        split
        · exact ⟨u, rfl, .refl u⟩
        · exact ⟨_, rfl, SameWindow.trans (t := setThatch (setCoarse u _ _ _) _) ⟨rfl, rfl, rfl⟩ (sameWindow_note ..)⟩
  · split
    · exact ⟨u, rfl, .refl u⟩
    · split
      · exact ⟨u, rfl, .refl u⟩
      · exact ⟨_, rfl, SameWindow.trans (t := setThatch (setCoarse u _ _ _) _) ⟨rfl, rfl, rfl⟩ (sameWindow_note ..)⟩

theorem exec_thatchLoadWindow_withdraws {q c : Bool} {g : Tight} (ho : 150000 < s.thatch.demand ∨ q = true ∨ c = true) (hd : s.thatch.stepDue = none)
    (hg : s.thatch.tight.getLast? = some g) :
    exec (.thatchLoadWindow q c) s = .next (setThatch (endTight (windowEnded s) g.point) (fun h => { h with
      stepDue := some ((s.t0 / (clsLen (rangeCls (planOf s g.point)) * 10000) + 1) * (clsLen (rangeCls (planOf s g.point)) * 10000)) })) := by
  show execThatchLoadWindow q c s = _
  unfold execThatchLoadWindow
  dsimp only
  rw [if_neg (show ¬ s.t0 / ms ≤ s.thatch.windowAt from Nat.not_le.mpr h), if_pos ho, windowEnded_eq, show (windowEnded s).thatch.stepDue = none from hd, if_neg Bool.false_ne_true,
    show (windowEnded s).thatch.tight.getLast? = some g from hg]
  rfl

end Load

/-! ### THATCH_QUERY (R409, R554) -/

section Query

variable {s : State} {r : Req} (h : Runs s r 0x0610 false allModes 32
  (decide (fld r.payload 0 1 ≤ 4 ∧ fld r.payload 1 1 ≤ 2 ∧ (fld r.payload 2 1 ≤ 5 ∨ fld r.payload 2 1 = 0xFF)) && fld r.payload 3 1 == 0 &&
    (fld r.payload 1 1 != 2 || decide (3 ≤ fld r.payload 0 1)) && bulkOk (fld r.payload 24 4) (fld r.payload 28 4)))
include h

theorem exec_thatchQuery_unrecorded (hr : recorded s r.target.toNat = false) :
    exec (.thatchQuery r) s = .next (finish (begun s r 0x0610) r 0x0610 false 0x0401) :=
  congrArg Host.Outcome.next ((command_runs h _).trans (if_pos (by
    rw [show recorded (beginCmd s r 0x0610) r.target.toNat = false from hr]
    rfl)))

variable (hr : recorded s r.target.toNat = true)
include hr

omit h in
theorem query_isRecorded : ¬ (!recorded (begun s r 0x0610) r.target.toNat) = true := by
  rw [show recorded (begun s r 0x0610) r.target.toNat = true from hr]
  exact Bool.false_ne_true

theorem exec_thatchQuery_busy (hb : bulkBusy (begun s r 0x0610) (fld r.payload 24 4) (fld r.payload 28 4) = true) :
    exec (.thatchQuery r) s = .next (finish (begun s r 0x0610) r 0x0610 false 0x0509) :=
  congrArg Host.Outcome.next ((command_runs h _).trans ((if_neg (query_isRecorded hr)).trans (if_pos hb)))

variable (hb : bulkBusy (begun s r 0x0610) (fld r.payload 24 4) (fld r.payload 28 4) = false) (hl : fld r.payload 0 1 ≤ 2)
include hb hl

/-- A ring layer answers from its records. -/
theorem exec_thatchQuery_layer :
    exec (.thatchQuery r) s = .next (match layerRecs s r.target.toNat (fld r.payload 0 1) with
      | [] => finish (begun s r 0x0610) r 0x0610 false 0x0405
      | x :: l =>
        let a := if fld r.payload 1 1 = 0 then fld r.payload 4 8 / 10000 else fld r.payload 4 8
        let b := if fld r.payload 1 1 = 0 then fld r.payload 12 8 / 10000 else fld r.payload 12 8
        if a < x.start then finish (begun s r 0x0610) r 0x0610 false 0x0405
        else
          let e := planOf s r.target.toNat
          let l := ((x :: l).filter (fun y => decide (a < y.start + clsLen y.cls ∧ y.start ≤ b))).map (markOutage (begun s r 0x0610) r.target.toNat)
          let l := if fld r.payload 2 1 = 0xFF then l else resample (pget (begun s r 0x0610) r.target.toNat).ty e (fld r.payload 2 1) l
          let lap (y : IntvSt) : Nat :=
            if fld r.payload 0 1 = 1 then lapOf 5 e.l1Depth y else if fld r.payload 0 1 = 0 then lapOf e.cls e.l0Depth y else 0
          thatchAnswer (begun s r 0x0610) r (fld r.payload 24 4) (fld r.payload 28 4) (fun n => if fld r.payload 1 1 = 0 then n * 10000 else n)
            (l.map (fun y => (y.start, leBytes 8 y.start ++ intvBytes (lap y) y)))) := by
  refine congrArg Host.Outcome.next ((command_runs h _).trans
    ((if_neg (query_isRecorded hr)).trans ((if_neg (Bool.eq_false_iff.mp hb)).trans ((if_pos hl).trans ?_))))
  rw [show layerRecs (beginCmd s r 0x0610) r.target.toNat (fld r.payload 0 1) = layerRecs s r.target.toNat (fld r.payload 0 1) from rfl]
  cases layerRecs s r.target.toNat (fld r.payload 0 1) <;> rfl

theorem exec_thatchQuery_empty (he : layerRecs s r.target.toNat (fld r.payload 0 1) = []) :
    exec (.thatchQuery r) s = .next (finish (begun s r 0x0610) r 0x0610 false 0x0405) := by
  rw [exec_thatchQuery_layer h hr hb hl, he]

section Records

variable {x : IntvSt} {l : List IntvSt} (he : layerRecs s r.target.toNat (fld r.payload 0 1) = x :: l) (h1 : fld r.payload 1 1 = 1)
include he h1

theorem exec_thatchQuery_beyond (ha : fld r.payload 4 8 < x.start) :
    exec (.thatchQuery r) s = .next (finish (begun s r 0x0610) r 0x0610 false 0x0405) := by
  rw [exec_thatchQuery_layer h hr hb hl, he]
  simp only [h1]
  exact congrArg Host.Outcome.next (if_pos ha)

theorem exec_thatchQuery_answered (hoc : fld r.payload 2 1 = 0xFF) (ha : x.start ≤ fld r.payload 4 8) :
    exec (.thatchQuery r) s = .next (thatchAnswer (begun s r 0x0610) r (fld r.payload 24 4) (fld r.payload 28 4) (fun n => n)
      ((((x :: l).filter (fun y => decide (fld r.payload 4 8 < y.start + clsLen y.cls ∧ y.start ≤ fld r.payload 12 8))).map
          (markOutage (begun s r 0x0610) r.target.toNat)).map
        (fun y => (y.start, leBytes 8 y.start ++ intvBytes (if fld r.payload 0 1 = 1 then lapOf 5 (planOf s r.target.toNat).l1Depth y
          else if fld r.payload 0 1 = 0 then lapOf (planOf s r.target.toNat).cls (planOf s r.target.toNat).l0Depth y else 0) y)))) := by
  rw [exec_thatchQuery_layer h hr hb hl, he]
  simp only [h1, hoc]
  exact congrArg Host.Outcome.next (if_neg (Nat.not_lt.mpr ha))

end Records

end Query

/-! ### The statement -/

/-- Settles O35: the rows by what each branch leaves, the window's by the state at its end. -/
theorem thatchRecordsAndAnswers : Obligations.ThatchRecordsAndAnswers := by
  unfold Obligations.ThatchRecordsAndAnswers
  refine ⟨fun s w => ⟨fun mn mx sum k q nan ht hr hn => ⟨fun ha => exec_tileAggregateSend_credits ht hr hn ha mn mx sum k q nan,
        exec_tileAggregateSend_kept ht hr hn mn mx sum k q nan⟩, exec_thatchUpdate_none, fun u l hq hp hr => ?unrecorded, fun u l o hq hp hr ht hl ho => ?update,
      fun o hr ht hl ho => ⟨exec_thatchIntervalClose_ended hr ht hl ho, exec_thatchIntervalClose_open hr ht hl ho⟩, exec_thatchIntervalClose_unrecorded,
      fun t => exec_thatchTightHoldExpiry⟩,
    fun s => ⟨fun q c h => exec_thatchLoadWindow_again h q c, fun q c h => ?window, fun q c g h => exec_thatchLoadWindow_withdraws h, fun r h => ?query⟩⟩
  case unrecorded =>
    rw [← hp] at hr
    exact exec_thatchUpdate_unrecorded hq hr
  case update =>
    rw [← hp] at hr ht hl ho ⊢
    exact ⟨exec_thatchUpdate_open hq hr ho ht hl, fun hn => ⟨_, exec_thatchUpdate_later hq hr ho hn, hq, ho⟩⟩
  case window =>
    obtain ⟨t, ht, hw⟩ := exec_thatchLoadWindow_steps h q c
    exact ⟨t, ht, hw.windowAt, hw.demand, hw.win.trans (windowEnded_win s)⟩
  case query =>
    exact ⟨exec_thatchQuery_unrecorded h, exec_thatchQuery_busy h, fun hr hb hl => ⟨exec_thatchQuery_empty h hr hb hl, fun x l he h1 hoc =>
      ⟨exec_thatchQuery_beyond h hr hb hl he h1, exec_thatchQuery_answered h hr hb hl he h1 hoc⟩⟩⟩

end Sys2Proof.Proofs
end


section
/-! O38: CAN channels send, receive, count errors and recover. -/

namespace Sys2Proof.Proofs

open Sys2Proof.Machine Sys2Proof.Laws Sys2Proof.Safety

section CanChannel
variable (s : State) (c k : Nat)

theorem canCh_setCan_same (f : CanSt → CanSt) : canCh (setCan s c f) c = f (canCh s c) := tget_tmod_same ({} : CanSt) s.can c f

theorem canCh_setCanSlot (f : CanSlot → CanSlot) :
    canCh (setCanSlot s c k f) c = { canCh s c with slots := tmod {} (canCh s c).slots k f } := canCh_setCan_same s c _

theorem canSlot_setCanSlot_same (f : CanSlot → CanSlot) : canSlot (setCanSlot s c k f) c k = f (canSlot s c k) := by
  rw [canSlot, canCh_setCanSlot]
  exact tget_tmod_same ({} : CanSlot) (canCh s c).slots k f

/-- A change of the channel that keeps its slots keeps each of them. -/
theorem canSlot_setCan {f : CanSt → CanSt} (h : (f (canCh s c)).slots = (canCh s c).slots) : canSlot (setCan s c f) c k = canSlot s c k := by
  rw [canSlot, canCh_setCan_same, h, canSlot]

theorem canCh_of_can {s t : State} (h : t.can = s.can) (c : Nat) : canCh t c = canCh s c := by rw [canCh, h, canCh]

theorem canSlot_of_canCh {s t : State} {c : Nat} (h : canCh t c = canCh s c) (k : Nat) : canSlot t c k = canSlot s c k := by rw [canSlot, h, canSlot]

theorem canPoints_can : (canPoints s c).can = s.can := by
  unfold canPoints
  dsimp only
  exact iteInduction (motive := fun t : State => t.can = s.can) (fun _ => updates_can ..) (fun _ => (updates_can ..).trans (updates_can ..))

theorem canSlotPoints_can : (canSlotPoints s c k).can = s.can := by simp [canSlotPoints]

theorem canNote_can (old : Nat) : (canNote s c old).can = s.can := by
  unfold canNote
  extract_lets
  split <;> simp

/-- Publishing and recording a change of state leave the channel as it is. -/
theorem canCh_published (old : Nat) : canCh (canPoints (canNote s c old) c) c = canCh s c :=
  canCh_of_can ((canPoints_can _ c).trans (canNote_can s c old)) c

/-- A channel whose enable has been followed stays as it is. -/
theorem canSync_followed (h : flag s pCanEnable c = (canCh s c).on) : canSync s c = s := if_pos h

theorem canSync_of_live {s : State} {c : Nat} (h : CanLive s c) : canSync s c = s := canSync_followed s c (h.1.trans h.2.1.symm)

theorem canMode_congr {s t : State} (hm : t.mode = s.mode) (hp : param t pCanOpmode c = param s pCanOpmode c) : canMode t c = canMode s c := by
  rw [canMode, canMode, hm, hp]

/-- A pending frame without a successor leaves its slot free when it ends. -/
theorem canEnd_last {f : CanFrame} (st : Nat) (hf : (canSlot s c k).pend = some f) (hn : (canSlot s c k).next = none) :
    canCh (canEnd s c k st) c = { canCh s c with slots := (canCh (canEnd s c k st) c).slots } ∧
      canSlot (canEnd s c k st) c k = { canSlot s c k with
        lastEnd := st, sent := if st = 1 then ((canSlot s c k).sent + 1) % 2 ^ 32 else (canSlot s c k).sent
        lastSent := if st = 1 then some f.data else (canSlot s c k).lastSent, pend := none, next := none } := by
  have hend : ∃ g : CanSlot → CanSlot, canEnd s c k st = canSlotPoints (setCanSlot s c k g) c k ∧ g (canSlot s c k) = { canSlot s c k with
        lastEnd := st, sent := if st = 1 then ((canSlot s c k).sent + 1) % 2 ^ 32 else (canSlot s c k).sent
        lastSent := if st = 1 then some f.data else (canSlot s c k).lastSent, pend := none, next := none } := by
    unfold canEnd
    rw [hf]
    exact ⟨_, rfl, by simp only [hn, Option.map_none]⟩
  obtain ⟨g, hend, hg⟩ := hend
  have hch : canCh (canEnd s c k st) c = canCh (setCanSlot s c k g) c := by rw [hend]; exact canCh_of_can (canSlotPoints_can _ c k) c
  refine ⟨?_, ?_⟩
  · rw [hch, canCh_setCanSlot]
  · rw [canSlot_of_canCh hch k, canSlot_setCanSlot_same, hg]

theorem canEnd_free (st : Nat) (hf : (canSlot s c k).pend = none) : canEnd s c k st = s := by
  unfold canEnd
  rw [hf]

/-- A status that waits for the end of an attempt does nothing to a free slot. -/
theorem canEnd_ending {s : State} {c k : Nat} (hf : (canSlot s c k).pend = none) (e : Option Nat) :
    (match e with | some e => canEnd s c k e | none => s) = s := by
  cases e with
  | none => rfl
  | some e => exact canEnd_free s c k e hf

end CanChannel

/-! ### Arbitration -/

/-- The frames of a channel that may start: pending for 1 µs and not of a time window. -/
def canReady (s : State) (c : Nat) : List (Nat × CanFrame) := (canCh s c).slots.filterMap (fun e => match e.2.pend with
  | some f => if f.since + 1000 ≤ s.t0 ∧ f.tt = false then some (e.1, f) else none
  | none => none)

/-- The later of two frames wins the arbitration only with the lower key. -/
def canWinner (a b : Nat × CanFrame) : Nat × CanFrame := if canKey b.2.id < canKey a.2.id then b else a

/-- The winner of an arbitration is one of the frames, and none has a lower key. -/
theorem foldl_canWinner (r : List (Nat × CanFrame)) (x : Nat × CanFrame) :
    r.foldl canWinner x ∈ x :: r ∧ ∀ z ∈ x :: r, canKey (r.foldl canWinner x).2.id ≤ canKey z.2.id := by
  induction r generalizing x with
  | nil => simp
  | cons y r ih =>
    obtain ⟨hmem, hle⟩ := ih (canWinner x y)
    have hxy : (canWinner x y = x ∨ canWinner x y = y) ∧ canKey (canWinner x y).2.id ≤ canKey x.2.id ∧ canKey (canWinner x y).2.id ≤ canKey y.2.id := by
      unfold canWinner
      split
      case isTrue h => exact ⟨.inr rfl, h.le, le_rfl⟩
      case isFalse h => exact ⟨.inl rfl, le_rfl, not_lt.mp h⟩
    obtain ⟨hwin, hx, hy⟩ := hxy
    have hbest := hle _ List.mem_cons_self
    refine ⟨?_, ?_⟩
    · rcases List.mem_cons.mp hmem with h | h
      · rw [List.foldl_cons, h]
        rcases hwin with h | h <;> simp [h]
      · exact List.mem_cons_of_mem _ (List.mem_cons_of_mem _ h)
    · intro z hz
      rcases List.mem_cons.mp hz with rfl | hz
      · exact hbest.trans hx
      rcases List.mem_cons.mp hz with rfl | hz
      · exact hbest.trans hy
      · exact hle z (List.mem_cons_of_mem _ hz)

theorem exec_canTxStart {s : State} {ch : Fin 8} (hl : CanLive s ch.val) (hm : canMaySend s ch.val = true) :
    exec (.canTxStart ch) s = match canReady s ch.val with
      | [] => .next s
      | x :: r => .next (canStart s ch.val (r.foldl canWinner x).1 (r.foldl canWinner x).2) := by
  have hready : (canCh s ch.val).slots.filterMap (fun e => match e.2.pend with
      | some f => if f.since + us ≤ s.t0 ∧ !f.tt then some (e.1, f) else none
      | none => none) = canReady s ch.val := by
    refine List.filterMap_congr fun e _ => ?_
    cases e.2.pend with
    | none => rfl
    | some f => simp [us]
  show execCanTxStart ch s = _
  unfold execCanTxStart
  dsimp only
  rw [canSync_of_live hl, if_neg (by simp [hm])]
  generalize hlist : List.filterMap _ (canCh s ch.val).slots = l
  obtain rfl : canReady s ch.val = l := hready.symm.trans hlist
  cases canReady s ch.val <;> rfl

/-! ### The end of an attempt -/

theorem canCh_canHeard (s : State) (c : Nat) : canCh (canHeard s c) c = { canCh s c with alone := false, aloneRun := 0 } := canCh_setCan_same ..

theorem canCh_canBusy (s : State) (c dur : Nat) : canCh (canBusy s c dur) c =
    { canCh s c with busy := (canCh s c).busy.filter (fun x => decide (s.t0 < x.1 + sec)) ++ [(s.t0, dur)] } := canCh_setCan_same ..

/-- The channel when a frame has been sent, before its slot ends. -/
def canSentSt (d : CanSt) (t0 dur : Nat) : CanSt :=
  { d with onBus := none, tx := (d.tx + 1) % 2 ^ 32, tec := d.tec - 1, txdTimeout := false, alone := false, aloneRun := 0
           busy := d.busy.filter (fun x => decide (t0 < x.1 + sec)) ++ [(t0, dur)] }

/-- The state when a frame has been sent, before its slot ends. -/
def canSent (s : State) (c k : Nat) (f : CanFrame) (dur : Nat) : State :=
  setCanSlot (canHeard (setCan (canBusy (setCan s c (fun d => { d with onBus := none })) c dur) c
    (fun d => { d with tx := (d.tx + 1) % 2 ^ 32, tec := d.tec - 1, txdTimeout := false })) c) c k (fun d => { d with pend := some f })

theorem canCh_canSent (s : State) (c k : Nat) (f : CanFrame) (dur : Nat) :
    canCh (canSent s c k f dur) c = { canSentSt (canCh s c) s.t0 dur with slots := tmod {} (canCh s c).slots k (fun d => { d with pend := some f }) } := by
  rw [canSent, canCh_setCanSlot, canCh_canHeard, canCh_setCan_same, canCh_canBusy, canCh_setCan_same, canSentSt, setCan_t0]

theorem canSlot_canSent (s : State) (c k : Nat) (f : CanFrame) (dur : Nat) :
    canSlot (canSent s c k f dur) c k = { canSlot s c k with pend := some f } := by
  rw [canSlot, canCh_canSent]
  exact tget_tmod_same ({} : CanSlot) (canCh s c).slots k (fun d => { d with pend := some f })

theorem canEnd_param (s : State) (c k st pk pi : Nat) : param (canEnd s c k st) pk pi = param s pk pi := by
  unfold canEnd
  split
  · rfl
  · simp [canSlotPoints, setCanSlot]

theorem exec_canTxAttemptEnd_idle {s : State} {ch : Fin 8} (res : Fin 6) (dur : Half) (h : (canCh s ch.val).onBus = none) :
    exec (.canTxAttemptEnd ch res dur) s = .next s := by
  show execCanTxAttemptEnd ch res dur s = _
  unfold execCanTxAttemptEnd
  simp only [h]

theorem canMode_canSent (s : State) (c k : Nat) (f : CanFrame) (dur : Nat) : canMode (canEnd (canSent s c k f dur) c k 1) c = canMode s c := by
  refine canMode_congr c ?_ ?_
  · rw [canEnd_mode, canSent, setCanSlot_mode, canHeard_mode, setCan_mode, canBusy_mode, setCan_mode]
  · rw [canEnd_param, canSent]
    simp only [setCanSlot, canHeard, canBusy, setCan_param]

section Sent
variable {s : State} {ch : Fin 8} {k : Nat} {f : CanFrame} (dur : Half) (hb : (canCh s ch.val).onBus = some k)
  (hf : (canSlot s ch.val k).pend = some f) (hn : (canSlot s ch.val k).next = none) (hm : canMode s ch.val = 0)
include hn

theorem canEnd_canSent : canSlot (canEnd (canSent s ch.val k f dur.toNat) ch.val k 1) ch.val k = { canSlot s ch.val k with
    lastEnd := 1, sent := ((canSlot s ch.val k).sent + 1) % 2 ^ 32, lastSent := some f.data, pend := none, next := none } := by
  rw [(canEnd_last _ _ k 1 (by rw [canSlot_canSent]) (by rw [canSlot_canSent]; exact hn)).2, canSlot_canSent, if_pos rfl, if_pos rfl]

include hb hf hm

theorem exec_canTxAttemptEnd_sent : exec (.canTxAttemptEnd ch 0 dur) s =
    .next (canPoints (canNote (canEnd (canSent s ch.val k f dur.toNat) ch.val k 1) ch.val (canState s ch.val)) ch.val) := by
  have hfree : (canSlot (canEnd (canSent s ch.val k f dur.toNat) ch.val k 1) ch.val k).pend = none := by rw [canEnd_canSent dur hn]
  have hmode : canMode (canEnd (canSent s ch.val k f dur.toNat) ch.val k 1) ch.val = 0 :=
    (canMode_canSent s ch.val k f dur.toNat).trans hm
  show execCanTxAttemptEnd ch 0 dur s = _
  unfold execCanTxAttemptEnd
  extract_lets c
  rw [show (canCh s c).onBus = some k from hb]
  dsimp -zeta only
  rw [show (canSlot s c k).pend = some f from hf]
  dsimp -zeta only
  refine (if_pos (rfl : ((0 : Fin 6) : Nat) = 0)).trans ?_
  extract_lets s3 s4 s5
  have hs3 : s3 = canEnd (canSent s ch.val k f dur.toNat) ch.val k 1 := rfl
  rw [← hs3] at hfree hmode
  rw [← hs3]
  clear_value s3
  have hs4 : s4 = s3 := canEnd_ending hfree f.ending
  have hs5 : s5 = s4 := if_neg (by rw [hs4, hmode]; decide)
  rw [hs5, hs4]

end Sent

/-! ### Reception -/

section Reception
variable {s : State} {c : Nat}

/-- A normal channel's REC goes down by one, or below 128 from above 127. -/
theorem recDown_normal (hm : canMode s c = 0) :
    ∃ n v, recDown s c = setCan { s with freeCtr := n } c (fun d => { d with rec_ := v }) ∧ ((canCh s c).rec_ ≤ 127 → v = (canCh s c).rec_ - 1) := by
  unfold recDown
  dsimp only
  rw [if_neg (by simp [hm])]
  split
  case isTrue h => exact ⟨_, _, rfl, fun h' => absurd h (not_lt.mpr h')⟩
  case isFalse h => exact ⟨s.freeCtr, _, rfl, fun _ => rfl⟩

/-- A normal channel after a reception, before the frame is taken. -/
def canReceived (s : State) (c dur : Nat) : State :=
  canBusy (setCan (recDown (canHeard s c) c) c (fun d => { d with rx := (d.rx + 1) % 2 ^ 32 })) c dur

theorem canCh_canReceived (hm : canMode s c = 0) (dur : Nat) :
    (canCh (canReceived s c dur) c).rx = ((canCh s c).rx + 1) % 2 ^ 32 ∧ (canCh (canReceived s c dur) c).unmatched = (canCh s c).unmatched ∧
      ((canCh s c).rec_ ≤ 127 → (canCh (canReceived s c dur) c).rec_ = (canCh s c).rec_ - 1) := by
  obtain ⟨n, v, hdown, hv⟩ := recDown_normal (s := canHeard s c) (c := c) hm
  rw [canCh_canHeard] at hv
  have hch : canCh { canHeard s c with freeCtr := n } c = { canCh s c with alone := false, aloneRun := 0 } := canCh_canHeard s c
  rw [canReceived, hdown, canCh_canBusy, canCh_setCan_same, canCh_setCan_same, hch]
  exact ⟨rfl, rfl, hv⟩

/-- Reception changes neither parameters nor stations. -/
theorem canReceived_frame (hm : canMode s c = 0) (dur : Nat) (id : Nat) :
    isRef (canReceived s c dur) c id = isRef s c id ∧ canFilter (canReceived s c dur) c id = canFilter s c id := by
  obtain ⟨n, v, hdown, -⟩ := recDown_normal (s := canHeard s c) (c := c) hm
  have hparam (pk pi : Nat) : param (canReceived s c dur) pk pi = param s pk pi := by
    rw [canReceived, hdown, canBusy, setCan_param, setCan_param, setCan_param]
    exact setCan_param s c (fun d => { d with alone := false, aloneRun := 0 }) pk pi
  have himg : (canReceived s c dur).img = s.img := by
    rw [canReceived, hdown, canBusy, setCan_img, setCan_img, setCan_img]
    exact setCan_img s c (fun d => { d with alone := false, aloneRun := 0 })
  constructor
  · simp only [isRef, hparam]
  · simp only [canFilter, canStations, station, himg]

/-- A frame that is no reference and matches no filter is counted as unmatched. -/
theorem canTake_unmatched {id : Nat} (tag : Nat) (data : List Byte) (hr : isRef s c id = false) (hf : canFilter s c id = none) :
    canTake s c id tag data = setCan s c (fun d => { d with unmatched := (d.unmatched + 1) % 2 ^ 32 }) := by
  unfold canTake
  rw [if_neg (by simp [hr]), hf]

end Reception

theorem exec_canFrameReceive_unmatched {s : State} {ch : Fin 8} {id : Word} {tag : DWord} (data : List Byte) (dur : Half) (hl : CanLive s ch.val)
    (hm : canMode s ch.val = 0) (htag : tag.toNat ≤ s.t0) (hfd : id.getLsbD 30 = false) (hr : isRef s ch.val id.toNat = false)
    (hf : canFilter s ch.val id.toNat = none) :
    ∃ t, exec (.canFrameReceive ch id data tag dur) s = .next t ∧ (canCh t ch.val).rx = ((canCh s ch.val).rx + 1) % 2 ^ 32 ∧
      (canCh t ch.val).unmatched = ((canCh s ch.val).unmatched + 1) % 2 ^ 32 ∧
      ((canCh s ch.val).rec_ ≤ 127 → (canCh t ch.val).rec_ = (canCh s ch.val).rec_ - 1) := by
  obtain ⟨hen, hon, hoff⟩ := hl
  have hrun : exec (.canFrameReceive ch id data tag dur) s =
      .next (canPoints (canNote (canTake (canReceived s ch.val dur.toNat) ch.val id.toNat tag.toNat data) ch.val (canState s ch.val)) ch.val) := by
    show execCanFrameReceive ch id data tag dur s = _
    unfold execCanFrameReceive
    dsimp only
    rw [canSync_followed s _ (hen.trans hon.symm), if_neg (by simp only [hon, hoff, hm, hfd, not_lt.mpr htag]; simp)]
    rfl
  refine ⟨_, hrun, ?_⟩
  obtain ⟨hrx, hun, hrec⟩ := canCh_canReceived hm dur.toNat
  obtain ⟨href, hfilter⟩ := canReceived_frame hm dur.toNat id.toNat
  rw [canCh_published, canTake_unmatched tag.toNat data (href.trans hr) (hfilter.trans hf), canCh_setCan_same]
  exact ⟨hrx, by rw [hun], hrec⟩

/-! ### Errors, exceptions and recovery -/

section Errors
variable {s : State} {ch : Fin 8}

section Live
variable (hl : CanLive s ch.val)
include hl

theorem exec_canRxError (dom : Bool) : exec (.canRxError ch dom) s = .next (canError s ch.val 0 (if dom then 8 else 1)) := by
  show execCanRxError ch dom s = _
  unfold execCanRxError
  dsimp only
  rw [canSync_of_live hl, if_neg (by simp [hl.2.1, hl.2.2])]

theorem exec_canTxdTimeout : ∃ t, exec (.canTxdTimeout ch) s = .next t ∧ (canCh t ch.val).txdTimeout = true := by
  refine ⟨canPoints (setCan s ch.val (fun d => { d with txdTimeout := true })) ch.val, ?_, ?_⟩
  · show execCanTxdTimeout ch s = _
    unfold execCanTxdTimeout
    dsimp only
    rw [canSync_of_live hl, if_neg (by simp [hl.2.1])]
  · rw [canCh_of_can (canPoints_can ..), canCh_setCan_same]

theorem exec_canProtocolException_counted (hp : flag s pCanPex ch.val = true) :
    ∃ t, exec (.canProtocolException ch) s = .next t ∧ (canCh t ch.val).pexs = ((canCh s ch.val).pexs + 1) % 2 ^ 32 ∧
      (canCh t ch.val).pexUntil = some (s.t0 + 1000000000) ∧ (canCh t ch.val).rec_ = (canCh s ch.val).rec_ := by
  refine ⟨canPoints (setCan s ch.val (fun d => { d with pexs := (d.pexs + 1) % 2 ^ 32, pexUntil := some (s.t0 + sec) })) ch.val, ?_, ?_⟩
  · show execCanProtocolException ch s = _
    unfold execCanProtocolException
    dsimp only
    rw [canSync_of_live hl, if_neg (by simp [hl.2.1, hl.2.2]), if_neg (by simp [hp])]
  · rw [canCh_of_can (canPoints_can ..), canCh_setCan_same]
    exact ⟨rfl, rfl, rfl⟩

theorem exec_canProtocolException_error (hp : flag s pCanPex ch.val = false) : exec (.canProtocolException ch) s = .next (canError s ch.val 0 1) := by
  show execCanProtocolException ch s = _
  unfold execCanProtocolException
  dsimp only
  rw [canSync_of_live hl, if_neg (by simp [hl.2.1, hl.2.2]), if_pos (by simp [hp])]

end Live

theorem exec_pexTimeout {a : Nat} (ha : (canCh s ch.val).pexUntil = some a) :
    exec (.pexTimeout ch) s =
      if s.t0 < a then .next s else .next (canPoints (setCan s ch.val (fun d => { d with pexUntil := none })) ch.val) := by
  show execPexTimeout ch s = _
  unfold execPexTimeout
  rw [ha]

theorem exec_canBusOffRecovery (hb : (canCh s ch.val).busOff = true) (hr : (canCh s ch.val).recovering = true) :
    ∃ t, exec (.canBusOffRecovery ch) s = .next t ∧ (canCh t ch.val).busOff = false ∧ (canCh t ch.val).tec = 0 ∧ (canCh t ch.val).rec_ = 0 := by
  refine ⟨_, if_neg (by simp [hb, hr]), ?_⟩
  rw [canCh_published, canCh_setCan_same]
  exact ⟨rfl, rfl, rfl⟩

theorem exec_canBusOffRecovery_none (h : (canCh s ch.val).busOff = false ∨ (canCh s ch.val).recovering = false) :
    exec (.canBusOffRecovery ch) s = .next s := if_pos (by rcases h with h | h <;> simp [h])

theorem exec_canSlotDeadline {k : Fin 32} {f : CanFrame} (hf : (canSlot s ch.val k.val).pend = some f)
    (h0 : param s pCanSlotDeadline (ch.val * 32 + k.val) ≠ 0)
    (hd : f.since + param s pCanSlotDeadline (ch.val * 32 + k.val) * 1000 ≤ s.t0) (hb : (canCh s ch.val).onBus ≠ some k.val) :
    exec (.canSlotDeadline ch k) s = .next (canEnd s ch.val k.val 4) := by
  show execCanSlotDeadline ch k s = _
  unfold execCanSlotDeadline
  dsimp only
  rw [hf]
  dsimp only
  refine if_neg ?_
  rintro (h | h | h)
  · exact h0 (by simpa [us] using h)
  · exact absurd hd (not_le.mpr h)
  · exact hb h

end Errors

/-- Settles O38: each CAN instruction's step is computed through the rules of a channel's state. -/
theorem canFramesAndErrors : Obligations.CanFramesAndErrors := by
  unfold Obligations.CanFramesAndErrors
  intro s ch c d
  refine ⟨fun hl hm => ⟨fun h => ?startNone, fun x r h => ?start⟩, fun k f dur hb hf hn hm => ?sent, fun dur res h => exec_canTxAttemptEnd_idle res dur h,
    fun hl hm id data tag dur htag hfd hr hf => exec_canFrameReceive_unmatched data dur hl hm htag hfd hr hf, fun hl dom => exec_canRxError hl dom,
    exec_canTxdTimeout, fun hl => ⟨exec_canProtocolException_counted hl, exec_canProtocolException_error hl⟩,
    fun a ha => ⟨fun h => (exec_pexTimeout ha).trans (if_neg (not_lt.mpr h)), fun h => (exec_pexTimeout ha).trans (if_pos h)⟩,
    exec_canBusOffRecovery, exec_canBusOffRecovery_none, fun k f hf h0 hd hb => exec_canSlotDeadline hf h0 hd hb⟩
  case startNone => 
    rw [exec_canTxStart hl hm, show canReady s c = [] from h]
  case start => 
    obtain ⟨hmem, hmin⟩ := foldl_canWinner r x
    refine ⟨r.foldl canWinner x, h ▸ hmem, h ▸ hmin, ?_⟩
    rw [exec_canTxStart hl hm, show canReady s c = x :: r from h]
  case sent =>
    have hch := (canEnd_last (canSent s c k f dur.toNat) c k 1 (by rw [canSlot_canSent]) (by rw [canSlot_canSent]; exact hn)).1
    refine ⟨_, exec_canTxAttemptEnd_sent dur hb hf hn hm, ?_⟩
    rw [canSlot_of_canCh (canCh_published ..), canEnd_canSent dur hn, canCh_published, hch, canCh_canSent, canSentSt]
    exact ⟨rfl, rfl, rfl, rfl, rfl, fun _ => rfl⟩

end Sys2Proof.Proofs
end


section
/-! O39: TTCAN references and windows, repeats in silent hold, and the host's CAN commands. -/

namespace Sys2Proof.Proofs

open Sys2Proof.Machine Sys2Proof.Laws Sys2Proof.Safety

/-! ### A measurement of a time domain leaves the channels and what was sent -/

theorem timePoints_frame {s : State} {o : OutMsg} (h : o ∈ s.outbox) (d : Nat) : (timePoints s d).can = s.can ∧ o ∈ (timePoints s d).outbox :=
  ⟨updates_can .., mem_outbox_updates h ..⟩

theorem noteHold_frame {s : State} {o : OutMsg} (h : o ∈ s.outbox) (d old : Nat) : (noteHold s d old).can = s.can ∧ o ∈ (noteHold s d old).outbox := by
  unfold noteHold
  extract_lets
  split
  · exact ⟨rfl, h⟩
  · exact ⟨note_can .., by rwa [note_outbox]⟩

theorem takeMeas_frame {s : State} {o : OutMsg} (h : o ∈ s.outbox) (d t : Nat) (src : Int) :
    (takeMeas s d t src).can = s.can ∧ o ∈ (takeMeas s d t src).outbox := by
  have hset (f : DomainSt → DomainSt) := timePoints_frame (s := setDomain s d f) (o := o) h d
  unfold takeMeas
  extract_lets +onlyGivenNames m off
  refine iteInduction (motive := fun t : State => t.can = s.can ∧ o ∈ t.outbox) (fun _ => ⟨rfl, h⟩) fun _ => ?_
  refine iteInduction (motive := fun t : State => t.can = s.can ∧ o ∈ t.outbox) (fun _ => hset _) fun _ => ?_
  refine iteInduction (motive := fun t : State => t.can = s.can ∧ o ∈ t.outbox) (fun _ => ?acquiring) fun _ => ?_
  case acquiring => exact iteInduction (motive := fun t : State => t.can = s.can ∧ o ∈ t.outbox) (fun _ => ⟨rfl, h⟩) fun _ => hset _
  refine iteInduction (motive := fun t : State => t.can = s.can ∧ o ∈ t.outbox) (fun _ => ?jump) fun _ => ?followed
  case jump =>
    extract_lets s1 s2
    have h2 : s2.can = s.can ∧ o ∈ s2.outbox := ⟨note_can .., by rw [note_outbox]; exact h⟩
    obtain ⟨hcan, hout⟩ := noteHold_frame h2.2 d m.st
    obtain ⟨hcan', hout'⟩ := timePoints_frame hout d
    exact ⟨hcan'.trans (hcan.trans h2.1), hout'⟩
  case followed =>
    extract_lets win s1
    obtain ⟨hcan, hout⟩ := noteHold_frame (s := s1) h d m.st
    obtain ⟨hcan', hout'⟩ := timePoints_frame hout d
    exact ⟨hcan'.trans hcan, hout'⟩

theorem mem_outbox_canPoints {s : State} {o : OutMsg} (h : o ∈ s.outbox) (c : Nat) : o ∈ (canPoints s c).outbox := by
  unfold canPoints
  dsimp only
  exact iteInduction (motive := fun t : State => o ∈ t.outbox) (fun _ => mem_outbox_updates h ..) (fun _ => mem_outbox_updates (mem_outbox_updates h ..) ..)

/-! ### References and windows -/

section TimeTriggered
variable {s : State} {ch : Fin 8}

section Live
variable (hl : CanLive s ch.val)
include hl

theorem exec_ttReferenceSend_early (won : Bool) {a : Nat} (ha : (canCh s ch.val).ref = some a) (h : s.t0 < a + canCycle s ch.val) :
    exec (.ttReferenceSend ch won) s = .next s := by
  show execTtReferenceSend ch won s = _
  unfold execTtReferenceSend
  dsimp only
  rw [canSync_of_live hl, ha]
  exact if_pos (.inr (.inr (.inr (.inr (.inr (.inr h))))))

theorem exec_ttReferenceSend_due (hr : param s pCanTtRole ch.val = 2) (hm : canMode s ch.val = 0) (htec : (canCh s ch.val).tec ≤ 127)
    (hrec : (canCh s ch.val).rec_ ≤ 127) (won : Bool) {a : Nat} (ha : (canCh s ch.val).ref = some a) (h : a + canCycle s ch.val ≤ s.t0) :
    ∃ t, exec (.ttReferenceSend ch won) s = .next t ∧ (canCh t ch.val).tt = 4 ∧ (canCh t ch.val).cycle = ((canCh s ch.val).cycle + 1) % 64 ∧
      (canCh t ch.val).ref = some s.t0 ∧ ∃ o ∈ t.outbox, o.kind = Out.canFrame ∧ o.dst = ch.val := by
  show ∃ t, execTtReferenceSend ch won s = .next t ∧ _
  unfold execTtReferenceSend
  extract_lets +onlyGivenNames c s0
  have hs0 : s0 = s := canSync_of_live hl
  clear_value s0
  subst hs0
  extract_lets +onlyGivenNames d role cur due passive
  have hcur : cur := .inr hr
  have hdue : due = a + canCycle s0 c := by
    show (match (canCh s0 c).ref with | some t => t + canCycle s0 c | none => 0) = _
    rw [show (canCh s0 c).ref = some a from ha]
  rw [if_neg ?early, if_neg (fun h => absurd hcur (by simpa using h.1))]
  case early =>
    rw [hdue]
    rintro (h' | h' | h' | h' | h' | h' | h')
    · simp [d, c, hl.2.1] at h'
    · simp [d, c, hl.2.2] at h'
    · exact h'.elim (not_lt.mpr htec) (not_lt.mpr hrec)
    · simp [c, hm] at h'
    · simp [c, hm] at h'
    · simp [role, c, hr] at h'
    · exact absurd h (not_le.mpr h')
  extract_lets +onlyGivenNames cnt m lvl2 t1 disc data s1 s2 s3
  have hcnt : cnt = ((canCh s0 c).cycle + 1) % 64 := by
    show (match (canCh s0 c).ref with | some _ => ((canCh s0 c).cycle + 1) % 64 | none => 0) = _
    rw [show (canCh s0 c).ref = some a from ha]
  have h1 : s1 = s0 := if_neg fun h => by simp [role, c, hr] at h
  have h3 : (canCh s3 c).tt = 4 ∧ (canCh s3 c).cycle = ((canCh s0 c).cycle + 1) % 64 ∧ (canCh s3 c).ref = some s0.t0 := by
    rw [canCh_of_can (t := s3) (s := s2) (canPoints_can ..), canCh_setCan_same, hcnt, h1]
    exact ⟨rfl, rfl, rfl⟩
  have hout : (⟨.canFrame, c, [param s2 pCanTtRefId c], data⟩ : OutMsg) ∈ s3.outbox :=
    mem_outbox_canPoints (List.mem_append_right _ (List.mem_singleton.mpr rfl)) c
  obtain ⟨htt, hcycle, href⟩ := h3
  clear_value s3
  split
  · obtain ⟨hcan, hsent⟩ := takeMeas_frame hout 2 s3.t0 ((m * canNtu s3 c : Nat) : Int)
    refine ⟨_, rfl, ?_⟩
    rw [canCh_of_can hcan]
    exact ⟨htt, hcycle, href, _, hsent, rfl, rfl⟩
  · exact ⟨_, rfl, htt, hcycle, href, _, hout, rfl, rfl⟩

theorem exec_ttWindow {k : Fin 32} {f : CanFrame} (idle : Bool) {a : Nat} (hf : (canSlot s ch.val k.val).pend = some f) (htt : f.tt = true)
    (ha : (canCh s ch.val).ref = some a)
    (hmine : ((canCh s ch.val).cycle + 64 - param s pCanSlotTtBase (ch.val * 32 + k.val) % 64) % 64 % max 1 (param s pCanSlotTtRepeat (ch.val * 32 + k.val)) = 0) :
    exec (.ttWindow ch k idle) s =
      if s.t0 < a + param s pCanSlotTtOffset (ch.val * 32 + k.val) * canNtu s ch.val ∨ (canCh s ch.val).gap then .next s
      else if ((canCh s ch.val).tt = 3 ∨ (canCh s ch.val).tt = 4) ∧ idle ∧
          s.t0 ≤ a + param s pCanSlotTtOffset (ch.val * 32 + k.val) * canNtu s ch.val + canBit s ch.val ∧ canMaySend s ch.val then
        .next (canStart s ch.val k.val f)
      else .next (canEndLater s ch.val k.val 8) := by
  show execTtWindow ch k idle s = _
  unfold execTtWindow
  dsimp only
  rw [canSync_of_live hl, hf]
  dsimp only
  rw [ha]
  simp only [htt, hmine, Bool.not_true, Bool.false_eq_true, decide_true, false_or]

end Live

theorem exec_ttSyncLoss {a : Nat} (ha : (canCh s ch.val).ref = some a) (htt : (canCh s ch.val).tt = 3) (hr : param s pCanTtRole ch.val ≠ 0) :
    exec (.ttSyncLoss ch) s = if s.t0 < a + 3 * canCycle s ch.val then .next s
      else .next (canPoints (setCan s ch.val (fun d => { d with tt := 1, syncLost := true, run := 0, missedRefs := (d.missedRefs + 3) % 2 ^ 32 })) ch.val) := by
  show execTtSyncLoss ch s = _
  unfold execTtSyncLoss
  dsimp only
  rw [ha]
  simp only [htt, hr, false_or, Nat.reduceEqDiff]

theorem exec_canHoldRepeat {k : Fin 32} {id : Nat} {data : List Byte} (he : (canSlot s ch.val k.val).entered = some (id, data))
    (hs : (node s (ch.val / 2)).silent = true)
    (hb : (canStations s ch.val).any (fun x => (station s x).blocks.any (fun b => !b.input && b.slot == k.val && b.txMode == 0)) = true)
    (hh : param s pCanSlotHold (ch.val * 32 + k.val) ≠ 0) (hiv : (canSlot s ch.val k.val).applyAt - (canSlot s ch.val k.val).applyPrev ≠ 0)
    (hdue : (canSlot s ch.val k.val).repAt + ((canSlot s ch.val k.val).applyAt - (canSlot s ch.val k.val).applyPrev) ≤ s.t0)
    (h5 : s.t0 ≤ (node s (ch.val / 2)).silentSince + 5000000000) :
    exec (.canHoldRepeat ch k) s = .next (canEnter (setCanSlot s ch.val k.val
      (fun d => { d with repAt := d.repAt + ((canSlot s ch.val k.val).applyAt - (canSlot s ch.val k.val).applyPrev) })) ch.val k.val id data
      ((canStations s ch.val).find? (fun x => (station s x).blocks.any (fun b => !b.input && b.slot == k.val))) false) := by
  have hgo : ¬ ((!(node s (ch.val / 2)).silent) = true ∨
      (!(canStations s ch.val).any (fun x => (station s x).blocks.any (fun b => !b.input && b.slot == k.val && b.txMode == 0))) = true ∨
      param s pCanSlotHold (ch.val * 32 + k.val) = 0 ∨ (canSlot s ch.val k.val).applyAt - (canSlot s ch.val k.val).applyPrev = 0 ∨
      s.t0 < (canSlot s ch.val k.val).repAt + ((canSlot s ch.val k.val).applyAt - (canSlot s ch.val k.val).applyPrev) ∨
      (node s (ch.val / 2)).silentSince + 5 * sec < s.t0) := by
    rintro (h | h | h | h | h | h)
    · simp [hs] at h
    · rw [hb] at h
      simp at h
    · exact hh h
    · exact hiv h
    · exact absurd hdue (not_le.mpr h)
    · exact absurd h5 (not_le.mpr h)
  show execCanHoldRepeat ch k s = _
  unfold execCanHoldRepeat
  dsimp only
  rw [he]
  dsimp only
  rw [if_neg hgo]

end TimeTriggered

/-! ### The host's commands -/

section Commands
variable {s : State} {r : Req}

/-- A free slot of a channel: no station's block uses it and no frame waits in it. -/
def freeSlot (s : State) (c : Nat) : Option Nat := (List.range 32).find? (fun i => !slotTaken s c i && (canSlot s c i).pend.isNone)

variable {c : Nat} (hc : fld r.payload 0 1 = c)
include hc

theorem exec_canSend (h : Runs s r 0x0701 true allModes (8 + fld r.payload 2 1) (r.target == 0 && decide (c < 8) &&
      decide (fld r.payload 1 1 < 32 ∨ fld r.payload 1 1 = 0xFF) && fld r.payload 3 1 == 0 &&
      canLenOk (fld r.payload 4 4 / 2 ^ 30 % 2 == 1 && param s pCanFd c == 1) (fld r.payload 2 1) &&
      (fld r.payload 1 1 == 0xFF || !slotTaken s c (fld r.payload 1 1)))) (hsync : flag s pCanEnable c = (canCh s c).on) :
    exec (.canSend r) s = .next (
      if !flag s pCanEnable c then finish (begun s r 0x0701) r 0x0701 true 0x0208
      else match (if fld r.payload 1 1 = 0xFF then freeSlot s c else some (fld r.payload 1 1)) with
        | none => finish (begun s r 0x0701) r 0x0701 true 0x0505
        | some i => finish (canEnter (begun s r 0x0701) c i (fld r.payload 4 4) ((r.payload.drop 8).take (fld r.payload 2 1)) none false)
            r 0x0701 true 0 (leBytes 1 i ++ [0, 0, 0])) := by
  subst hc
  refine congrArg Host.Outcome.next ((command_runs h _).trans ?_)
  dsimp only
  rw [canSync_followed (begun s r 0x0701) _ hsync]
  rfl

theorem exec_canAbort (h : Runs s r 0x0702 true allModes 4 (r.target == 0 && decide (c < 8 ∧ fld r.payload 1 1 < 32) && fld r.payload 2 2 == 0)) :
    exec (.canAbort r) s = .next (finish (if (canSlot s c (fld r.payload 1 1)).pend.isSome
      then canEndLater (begun s r 0x0702) c (fld r.payload 1 1) 7 else begun s r 0x0702) r 0x0702 true 0) := by
  subst hc
  exact congrArg Host.Outcome.next (command_runs h _)

theorem exec_canRecover (h : Runs s r 0x0703 true allModes 4 (r.target == 0 && decide (c < 8) && fld r.payload 1 3 == 0))
    (hsync : flag s pCanEnable c = (canCh s c).on) :
    exec (.canRecover r) s = .next (if !(canCh s c).busOff then finish (begun s r 0x0703) r 0x0703 true 0x0208
      else finish (canPoints (setCan (begun s r 0x0703) c (fun d => { d with recovering := true, held := false })) c) r 0x0703 true 0) := by
  subst hc
  refine congrArg Host.Outcome.next ((command_runs h _).trans ?_)
  dsimp only
  rw [canSync_followed (begun s r 0x0703) _ hsync]
  rfl

end Commands

/-- Settles O39: each instruction's step is computed through the rules of a channel's state, with the channel's enable followed. -/
theorem canTriggeredTimeAndHostFrames : Obligations.CanTriggeredTimeAndHostFrames := by
  unfold Obligations.CanTriggeredTimeAndHostFrames
  intro s ch c d
  refine ⟨fun hl hr hm ht he => ⟨fun won a ha h => exec_ttReferenceSend_early hl won ha h, fun won a ha h => exec_ttReferenceSend_due hl hr hm ht he won ha h⟩,
    fun hl k f idle a hf htt ha hmine => ?window, fun a ha htt hr => ?syncLoss,
    fun k id data he hs hb hh hiv hdue h5 => exec_canHoldRepeat he hs hb hh hiv hdue h5, fun r hc => ⟨?send, ?abort, ?recover⟩⟩
  case window =>
    have hw := exec_ttWindow hl idle hf htt ha hmine
    refine ⟨fun h => ?_, fun h1 h2 hi ht hg hs => ?_, fun h hi hg => ?_⟩
    · rw [hw, if_pos (.inl h)]
    · rw [hw, if_neg (fun h => h.elim (not_lt.mpr h1) (ne_true_of_eq_false hg)), if_pos ⟨ht, hi, h2, hs⟩]
    · rw [hw, if_neg (fun h' => h'.elim (not_lt.mpr h) (ne_true_of_eq_false hg)), if_neg (by simp [hi])]
  case syncLoss =>
    have hw := exec_ttSyncLoss ha htt hr
    refine ⟨fun h => ⟨_, hw.trans (if_neg (not_lt.mpr h)), ?_⟩, fun h => hw.trans (if_pos h)⟩
    rw [canCh_of_can (canPoints_can ..), canCh_setCan_same]
    exact ⟨rfl, rfl, ha, rfl⟩
  case send =>
    intro k n id b h
    have hsend := exec_canSend hc h
    refine ⟨fun hl hk => ?_, fun hl hk hn => ?_, fun i hl hk hi => ?_, fun hen hon => ?_⟩
    · rw [hsend (hl.1.trans hl.2.1.symm), if_neg (by rw [hl.1]; decide), if_neg hk]
    · rw [hsend (hl.1.trans hl.2.1.symm), if_neg (by rw [hl.1]; decide), if_pos hk, show freeSlot s c = none from hn]
    · rw [hsend (hl.1.trans hl.2.1.symm), if_neg (by rw [hl.1]; decide), if_pos hk, show freeSlot s c = some i from hi]
    · rw [hsend (hen.trans hon.symm), if_pos (by rw [hen]; rfl)]
  case abort => exact exec_canAbort hc
  case recover =>
    intro h hen hon
    have hrecover := exec_canRecover hc h (hen.trans hon.symm)
    refine ⟨fun hb => ?_, fun hb => ⟨_, hrecover.trans (congrArg _ (if_neg (by rw [show (canCh s c).busOff = true from hb]; decide))), ?_⟩⟩
    · rw [hrecover, if_pos (by rw [show (canCh s c).busOff = false from hb]; rfl)]
    · rw [canCh_of_can ((finish_can ..).trans (canPoints_can ..)), canCh_setCan_same]
      exact ⟨rfl, rfl⟩

end Sys2Proof.Proofs
end


section
/-! O42: twins pair, swap roles and take over; proof swaps and the twin pins. -/

namespace Sys2Proof.Proofs

open Sys2Proof.Machine Sys2Proof.Laws Sys2Proof.Safety

/-! ### What a mode entry and the outputs' refresh do leaves the twin unit -/

section TwinKept

@[simp] theorem twin_ite (c : Prop) [Decidable c] (a b : State) : (if c then a else b).twin = if c then a.twin else b.twin := apply_ite ..

@[simp] theorem foldl_twin {β : Type} {f : State → β → State} (h : ∀ s b, (f s b).twin = s.twin) (l : List β) (s : State) : (l.foldl f s).twin = s.twin :=
  foldl_keeps State.twin h l s

@[simp] theorem showUpd_twin (s : State) (u : Upd) : (showUpd s u).twin = s.twin := rfl
@[simp] theorem chFacets_twin (s : State) (c : Nat) : (chFacets s c).twin = s.twin := by simp [chFacets]
@[simp] theorem chRefresh_twin (s : State) (c : Nat) : (chRefresh s c).twin = s.twin := by simp [chRefresh]

@[simp] theorem aoRefresh_twin (s : State) (a : Nat) : (aoRefresh s a).twin = s.twin := by
  unfold aoRefresh
  split <;> simp

@[simp] theorem refreshOuts_twin (s : State) : (refreshOuts s).twin = s.twin := by simp [refreshOuts]
@[simp] theorem aoSwitch_twin (s : State) (l : List Nat) (isOpen : Bool) : (aoSwitch s l isOpen).twin = s.twin := by simp [aoSwitch]
@[simp] theorem chSwitch_twin (s : State) (l : List Nat) (off : Bool) : (chSwitch s l off).twin = s.twin := by simp [chSwitch]
@[simp] theorem taskPoints_twin (s : State) (i : Nat) : (taskPoints s i).twin = s.twin := by simp [taskPoints]
@[simp] theorem setCanSlot_twin (s : State) (c k : Nat) (f : CanSlot → CanSlot) : (setCanSlot s c k f).twin = s.twin := rfl
@[simp] theorem canSlotPoints_twin (s : State) (c k : Nat) : (canSlotPoints s c k).twin = s.twin := by simp [canSlotPoints]

@[simp] theorem canEnter_twin (s : State) (c k id : Nat) (data : List Byte) (stn : Option Nat) (tt : Bool) : (canEnter s c k id data stn tt).twin = s.twin := by
  unfold canEnter
  split <;> simp

@[simp] theorem ethPoints_twin (s : State) (p : Nat) : (ethPoints s p).twin = s.twin := by simp [ethPoints]
@[simp] theorem ethDrain_twin (s : State) (p : Nat) : (ethDrain s p).twin = s.twin := by simp [ethDrain]
@[simp] theorem ethEnqueue_twin (s : State) (p q key : Nat) (b : List Byte) : (ethEnqueue s p q key b).twin = s.twin := by simp [ethEnqueue]
@[simp] theorem csxSend_twin (s : State) (k bi : Nat) (b : Block) (t : Nat) (always : Bool) : (csxSend s k bi b t always).twin = s.twin := by simp [csxSend]
@[simp] theorem blockSend_twin (s : State) (k bi : Nat) (b : Block) (t : Nat) (always : Bool) : (blockSend s k bi b t always).twin = s.twin := by simp [blockSend]
@[simp] theorem netApply_twin (s : State) (t rel : Nat) (pts : List Nat) (always : Bool) : (netApply s t rel pts always).twin = s.twin := by simp [netApply]

@[simp] theorem forceStep_twin (s : State) (f : ForcePend) : (forceStep s f).twin = s.twin := by
  unfold forceStep
  dsimp only
  split <;> simp

@[simp] theorem endForces_twin (s : State) (t : Nat) (which : Bool → Bool) : (endForces s t which).twin = s.twin := by simp [endForces]
@[simp] theorem exchReport_twin (s : State) (x : ExchSt) (r : ExchRep) : (exchReport s x r).twin = s.twin := by simp [exchReport]

@[simp] theorem abandonExch_twin (s : State) : (abandonExch s).twin = s.twin := by
  unfold abandonExch
  split <;> simp

@[simp] theorem abandonCommit_twin (s : State) : (abandonCommit s).twin = s.twin := by
  unfold abandonCommit
  split <;> simp

/-- M9's behaviour brings no work of its own with it. -/
theorem modeEffects_standby_twin {s : State} (h : s.mode.cur = .standby) (was : Mode) (ran : List Nat) (t : Nat) :
    (modeEffects s was ran t).twin = s.twin := by
  unfold modeEffects
  have hnow : effMode s = .standby := by simp [effMode, h]
  rw [hnow]
  dsimp only
  simp

theorem enterMode_standby_twin (s : State) (trigger t : Nat) : (enterMode s .standby trigger t).twin = s.twin := by
  unfold enterMode
  extract_lets old was ran s1 g g0 s2 m s3 s4 s5
  have h5 : s5.mode.cur = .standby := by simp [s5, s4, s3]
  have h1 : s1 = s := if_neg (by decide)
  have h3 : s3.twin = s.twin := (show s3.twin = s1.twin from rfl).trans (congrArg State.twin h1)
  rw [refreshOuts_twin, modeEffects_standby_twin h5, ← h3]
  simp [s5, s4]

theorem standbyDefaults_twin (s : State) : (standbyDefaults s).twin = s.twin := by
  rw [standbyDefaults]
  refine (foldl_twin (f := fun s a => setAout s a (fun d => { d with pendDef := true })) ?_ _ _).trans (foldl_twin ?_ _ _)
  · exact fun _ _ => rfl
  · exact fun _ _ => rfl

theorem enterStandby_twin (s : State) (trigger : Nat) : (enterStandby s trigger).twin = s.twin := by
  rw [enterStandby, standbyDefaults_twin, forceMode', enterMode_standby_twin]
  simp

theorem enterStandby_cur (s : State) (trigger : Nat) : (enterStandby s trigger).mode.cur = .standby := by
  have hmode (u : State) : (standbyDefaults u).mode = u.mode := by
    rw [standbyDefaults]
    refine (foldl_keeps State.mode (f := fun s a => setAout s a (fun d => { d with pendDef := true })) ?_ _ _).trans (foldl_keeps State.mode ?_ _ _)
    · exact fun _ _ => rfl
    · exact fun _ _ => rfl
  rw [enterStandby, hmode]
  exact (forceMode'_enters s .standby trigger).1

end TwinKept

theorem twinTo_twin (s : State) (st : Nat) : (twinTo s st).twin = { s.twin with st := st } := by
  unfold twinTo
  dsimp only
  split
  case isTrue h => rw [← h]
  case isFalse => simp [setTwin]

/-! ### Pairing (R475, R485) -/

section Pairing
variable {s : State} {r : Req}

section Pair
variable (h : Runs s r 0x0720 true [.idle] 0 (r.target == 0))
include h

theorem exec_twinPair_disabled (hen : flag s pTwinEnable 0 = false) :
    exec (.twinPair r) s = .next (finish (pairRefuse (begun s r 0x0720) 1) r 0x0720 true 0x020A) := by
  have hwhy : (if flag (begun s r 0x0720) pTwinEnable 0 then pairReason (begun s r 0x0720) else 1) = 1 := if_neg (ne_true_of_eq_false hen)
  refine congrArg Host.Outcome.next ((command_runs h _).trans ?_)
  dsimp only
  rw [hwhy, if_pos (.inl one_ne_zero), if_neg one_ne_zero]

variable (hen : flag s pTwinEnable 0 = true) (hwhy : pairReason s = 0) (hst : s.twin.st = 0)
include hen hwhy hst

theorem exec_twinPair_matching : exec (.twinPair r) s = .next (if !dwellOk s then finish (begun s r 0x0720) r 0x0720 true 0x050C
    else accepted (pairBegin (setTwin (begun s r 0x0720) (fun d => { d with reply := some (r.mb.val, r.tag.toNat) }))) r 0x0720) := by
  have hwhy' : (if flag (begun s r 0x0720) pTwinEnable 0 then pairReason (begun s r 0x0720) else 1) = 0 := (if_pos hen).trans hwhy
  refine congrArg Host.Outcome.next ((command_runs h _).trans ?_)
  dsimp only
  rw [hwhy', if_neg (by rintro (h | h); exacts [h rfl, h hst])]
  rfl

theorem exec_twinPair_accepted (hd : dwellOk s = true) :
    ∃ t, exec (.twinPair r) s = .next t ∧ t.twin.st = 1 ∧ t.twin.reply = some (r.mb.val, r.tag.toNat) := by
  refine ⟨_, (exec_twinPair_matching h hen hwhy hst).trans (congrArg Host.Outcome.next (if_neg (by rw [hd]; decide))), ?_⟩
  rw [accepted_twin, pairBegin, twinTo_twin]
  exact ⟨rfl, rfl⟩

end Pair

theorem exec_snapshotApplied_paired (x : Machine.Snap) (hst : s.twin.st = 1) (hd : s.twin.delta ≠ none) (hwhy : pairReason s = 0) :
    ∃ t, exec (.snapshotApplied x) s = .next t ∧ t.mode.cur = .standby ∧ t.twin.st = 2 ∧ t.twin.p0 = some x.p0 := by
  show ∃ t, execSnapshotApplied x s = .next t ∧ _
  unfold execSnapshotApplied
  rw [if_neg (by simp [hst, hd, hwhy])]
  extract_lets s1 s2 s3 s4
  have hs2 : s2 = enterStandby (bootStandby s1) 9 := rfl
  have h2 : s2.mode.cur = .standby := by rw [hs2, enterStandby_cur]
  clear_value s2
  have h3 : s3.mode.cur = .standby ∧ s3.twin.p0 = some x.p0 := ⟨h2, rfl⟩
  clear_value s3
  have h4 : s4.mode.cur = .standby ∧ s4.twin.st = 2 ∧ s4.twin.p0 = some x.p0 := by
    rw [show s4.mode = s3.mode from twinTo_mode .., show s4.twin = { s3.twin with st := 2 } from twinTo_twin ..]
    exact ⟨h3.1, rfl, h3.2⟩
  obtain ⟨hmode, hst4, hp0⟩ := h4
  clear_value s4
  cases s4.twin.reply with
  | none => exact ⟨_, rfl, hmode, hst4, hp0⟩
  | some a =>
    refine ⟨_, rfl, ?_⟩
    rw [finish_mode, finish_twin]
    exact ⟨hmode, hst4, hp0⟩

theorem exec_snapshotApplied_other (x : Machine.Snap) (h : s.twin.st ≠ 1 ∨ s.twin.delta = none) : exec (.snapshotApplied x) s = .next s :=
  if_pos (by rcases h with h | h <;> simp [h])

theorem exec_pairWaitExpiry {w : Nat} (hw : s.twin.waitFrom = some w) (hst : s.rst.stage = 2) (hdue : w + param s pTwinPairWait 0 * 1000000 ≤ s.t0)
    (hid : param s pTwinId 0 = 0) (hact : partnerActive s = true) :
    exec .pairWaitExpiry s = .next (bootGo (setRst (setTwin s (fun d => { d with waitFrom := none }))
      (fun r => { r with atLeast := if r.origin = 9 then max r.atLeast 2 else r.atLeast }))) := by
  show execPairWaitExpiry s = _
  unfold execPairWaitExpiry
  rw [hw]
  dsimp only
  rw [if_neg ?wait, if_pos (show partnerActive (setTwin s fun d => { d with waitFrom := none }) = true from hact)]
  case wait =>
    rintro (h | h | h)
    · exact h hst
    · exact absurd hdue (not_le.mpr h)
    · exact h (.inl hid)

theorem exec_pairWaitExpiry_none (h : s.twin.waitFrom = none) : exec .pairWaitExpiry s = .next s := by
  show execPairWaitExpiry s = _
  unfold execPairWaitExpiry
  rw [h]

theorem exec_twinStatusGet (h : Runs s r 0x0722 false allModes 0 (r.target == 0)) :
    ∃ b, exec (.twinStatusGet r) s = .next (finish (begun s r 0x0722) r 0x0722 false 0 b) ∧ b.length = 28 ∧ b.head? = some (bv 8 (s.twin.st % 256)) := by
  refine ⟨_, congrArg Host.Outcome.next (command_runs h _), ?_, ?_⟩
  · simp [leBytes_length]
  · rfl

end Pairing

/-! ### Takeover and silent tiles (R481-R483) -/

section Takeover
variable {s : State}

theorem dropMoves_mode (s : State) : (dropMoves s).mode = s.mode := by
  refine foldl_keeps State.mode (fun u i => ?_) _ _
  dsimp only
  split <;> simp

theorem parkLeast_mode (s : State) : (parkLeast s).mode = s.mode := foldl_keeps State.mode (fun _ _ => opAct_mode ..) _ _

theorem takeOver_cur (s : State) (trigger cause : Nat) : (takeOver s trigger cause).mode.cur = .run := by
  unfold takeOver
  extract_lets was pm s1 s2 m s3 s4 s5 s6 s7
  have h3 : s3.mode.cur = .run := (entered_enterMode ..).cur
  have h4 : s4.mode = s3.mode := by
    unfold s4
    split
    · exact parkLeast_mode s3
    · rfl
  have h7 : s7.mode.cur = .run := by
    rw [show s7.mode = s6.mode by simp [s7], show s6.mode = s5.mode from foldl_keeps State.mode (fun _ _ => loopSeed_mode ..) _ _, show s5.mode = s4.mode from dropMoves_mode s4, h4, h3]
  clear_value s7
  repeat' split
  all_goals simp [h7]

theorem exec_takeover (hm : s.mode.cur = .standby) (hst : s.twin.st = 2) (hs : seamSilent s = true) (hl : s.twin.partner.latched = false) :
    ∃ t, exec .takeover s = .next t ∧ t.mode.cur = .run ∧ t.twin.st = 4 ∧ t.twin.tookOver = true := by
  refine ⟨_, if_neg (by simp [hm, hst, hs, hl, standbyRole]), ?_⟩
  rw [twinTo_mode, twinTo_twin, aoSwitch_mode, aoSwitch_twin]
  exact ⟨takeOver_cur .., rfl, rfl⟩

theorem exec_takeover_latched (hl : s.twin.partner.latched = true) : exec .takeover s = .next s := if_pos (by simp [hl])

theorem exec_takeover_heard (hs : seamSilent s = false) : exec .takeover s = .next s := if_pos (by simp [hs])

end Takeover

/-! ### Role swaps (R484) -/

section RoleSwap
variable {s : State} {r : Req}

theorem exec_twinSwap_refused (h : Runs s r 0x0721 true [.run] 0 (r.target == 0)) (hst : s.twin.st ≠ 5) :
    exec (.twinSwap r) s = .next (finish (begun s r 0x0721) r 0x0721 true 0x020A) :=
  congrArg Host.Outcome.next ((command_runs h _).trans (if_pos (.inl hst)))

theorem exec_twinSwap (h : Runs s r 0x0721 true [.run] 0 (r.target == 0)) (hst : s.twin.st = 5) (hp : s.twin.partner.st = 2) (hw : s.twin.swap = none)
    (hax : ∀ e ∈ s.motion.ax, e.2.atRest = true) (hd : dwellOk s = true) :
    ∃ t, exec (.twinSwap r) s = .next t ∧ t.twin.swap = some (wholeMs s.t0 2000000, true, 0) := by
  have hgo : ¬ (s.twin.st ≠ 5 ∨ s.twin.partner.st ≠ 2 ∨ s.twin.swap.isSome ∨ s.motion.ax.any (fun e => !e.2.atRest) = true) := by
    rintro (h | h | h | h)
    · exact h hst
    · exact h hp
    · simp [hw] at h
    · obtain ⟨e, he, hmoves⟩ := List.any_eq_true.mp h
      simp [hax e he] at hmoves
  have hd' : ¬ (!dwellOk (begun s r 0x0721)) = true := by rw [show dwellOk (begun s r 0x0721) = dwellOk s from rfl, hd]; decide
  refine ⟨_, congrArg Host.Outcome.next ((command_runs h _).trans ((if_neg hgo).trans (if_neg hd'))), ?_⟩
  rw [finish_twin]
  rfl

theorem exec_twinSwapInstant_early {w : Nat} (hw : s.twin.swap = some (w, true, 0)) (h : s.t0 < w) : exec .twinSwapInstant s = .next s := by
  show execTwinSwapInstant s = _
  unfold execTwinSwapInstant
  rw [hw]
  exact if_pos h

theorem exec_twinSwapInstant_out {w : Nat} (hw : s.twin.swap = some (w, true, 0)) (h : w ≤ s.t0) :
    ∃ t, exec .twinSwapInstant s = .next t ∧ t.twin.swap = some (w, true, 1) ∧ t.twin.st = 2 := by
  refine ⟨twinTo (aoSwitch (setTwin s fun d => { d with swap := some (w, true, 1) }) (parAos (setTwin s fun d => { d with swap := some (w, true, 1) })) true) 2, ?_, ?_⟩
  · show execTwinSwapInstant s = _
    unfold execTwinSwapInstant
    rw [hw]
    exact if_neg (not_lt.mpr h)
  · rw [twinTo_twin, aoSwitch_twin]
    exact ⟨rfl, rfl⟩

theorem exec_twinSwapAnalogClose {w : Nat} (hw : s.twin.swap = some (w, false, 1)) (h : w + 500000 ≤ s.t0) :
    exec .twinSwapAnalogClose s = .next (aoSwitch (setTwin s (fun d => { d with swap := none })) (parAos s) false) := by
  show execTwinSwapAnalogClose s = _
  unfold execTwinSwapAnalogClose
  simp only [hw]
  exact if_neg (not_lt.mpr h)

/-- The outgoing device after W + 1 ms. -/
def releasedSwap (s : State) : State :=
  aoSwitch (enterStandby (setTwin s (fun d => { d with swap := none, standbyDrives := false, instants := [], ours := [], theirs := [] })) 10)
    (parAos (enterStandby (setTwin s (fun d => { d with swap := none, standbyDrives := false, instants := [], ours := [], theirs := [] })) 10)) false

theorem exec_twinSwapRelease {w : Nat} (hw : s.twin.swap = some (w, true, 1)) (h : w + 1000000 ≤ s.t0) :
    ∃ t, exec .twinSwapRelease s = .next t ∧ t.mode.cur = .standby ∧ t.twin.swap = none := by
  have hrun : exec .twinSwapRelease s = .next (releasedSwap s) := by
    show execTwinSwapRelease s = _
    unfold execTwinSwapRelease
    simp only [hw]
    rw [if_neg (show ¬ s.t0 < w + ms from not_lt.mpr h), releasedSwap]
  refine ⟨_, hrun, ?_⟩
  rw [releasedSwap, aoSwitch_mode, aoSwitch_twin, enterStandby_twin]
  exact ⟨enterStandby_cur .., rfl⟩

end RoleSwap

/-! ### Silent tiles (R482) -/

section SilentTiles
variable {s : State} {tile : Fin 4}

theorem exec_parallelAnalogOpen (h : pairedTile s tile.val = true) (hd : (node s tile.val).lastHb + 2800000 ≤ s.t0) :
    exec (.parallelAnalogOpen tile) s = .next (aoSwitch s ((parAos s).filter (fun a => a / 8 == tile.val)) true) := by
  show execParallelAnalogOpen tile s = _
  unfold execParallelAnalogOpen
  rw [h, if_neg (by rintro (h | h); exacts [absurd h (by decide), absurd hd (not_le.mpr h)])]

theorem exec_parallelChannelRelease (h : pairedTile s tile.val = true) (hd : (node s tile.val).lastHb + 4500000 ≤ s.t0) :
    exec (.parallelChannelRelease tile) s = .next (chSwitch s ((parChans s false).filter (fun c => c / 128 == tile.val)) true) := by
  show execParallelChannelRelease tile s = _
  unfold execParallelChannelRelease
  rw [h, if_neg (by rintro (h | h); exacts [absurd h (by decide), absurd hd (not_le.mpr h)])]

theorem exec_parallel_unpaired (h : pairedTile s tile.val = false) :
    exec (.parallelAnalogOpen tile) s = .next s ∧ exec (.parallelChannelRelease tile) s = .next s :=
  ⟨if_pos (.inl (by simp [h])), if_pos (.inl (by simp [h]))⟩

end SilentTiles

/-! ### Proof swaps (R486, R487) -/

section ProofSwap
variable {s : State}

/-- The twin unit after the instant `w` of a proof swap. -/
def swappedTwin (s : State) (ma : List (BitVec 9 × Word)) (w : Nat) : TwinSt :=
  { s.twin with
    nextProof := some (w + param s pTwinSwapPeriod 0 * 3600 * sec), proofAt := w, proofOn := (parChans s true).filter (fun c => privCmd s c)
    proof := ((parChans s true).filter (fun c => privCmd s c)).filter (fun c => decide (ratOf (param s pTwinProofMa 0) ≤ currentOf ma c))
    proofOut := drivesPriv s, proofStage := 1
    standbyDrives := if standbyRole s.twin.st && drivesPriv s then true else !s.twin.standbyDrives }

theorem exec_proofSwap (ma : List (BitVec 9 × Word)) {w : Nat} (hw : s.twin.nextProof = some w) (h : w ≤ s.t0) (hst : s.twin.st = 2 ∨ s.twin.st = 5) :
    ∃ t, exec (.proofSwap ma) s = .next t ∧ t.twin = swappedTwin s ma w := by
  have hgo : ¬ (s.t0 < w ∨ (s.twin.st ≠ 2 ∧ s.twin.st ≠ 5)) := by omega
  show ∃ t, execProofSwap ma s = .next t ∧ _
  unfold execProofSwap
  simp only [hw]
  rw [if_neg hgo]
  refine ⟨_, rfl, ?_⟩
  split
  · rfl
  · split
    · exact foldl_twin chRefresh_twin _ _
    · exact chSwitch_twin ..

theorem exec_proofSwap_early (ma : List (BitVec 9 × Word)) {w : Nat} (hw : s.twin.nextProof = some w) (h : s.t0 < w) :
    exec (.proofSwap ma) s = .next s := by
  show execProofSwap ma s = _
  unfold execProofSwap
  simp only [hw]
  exact if_pos (.inl h)

theorem exec_proofSwapRelease (hst : s.twin.proofStage = 1) (h : s.twin.proofAt + 1000000 ≤ s.t0) :
    ∃ t, exec .proofSwapRelease s = .next t ∧ t.twin.proofStage = 2 ∧ (s.twin.proofOut = true → s.twin.st = 2 → t.twin.standbyDrives = false) := by
  have hgo : ¬ (s.twin.proofStage ≠ 1 ∨ s.t0 < s.twin.proofAt + ms) := by
    rintro (h' | h')
    · exact h' hst
    · exact absurd h (not_le.mpr h')
  show ∃ t, execProofSwapRelease s = .next t ∧ _
  unfold execProofSwapRelease
  rw [if_neg hgo]
  extract_lets u
  split
  case isTrue hin => exact ⟨_, rfl, rfl, fun hout _ => by rw [show u.twin.proofOut = s.twin.proofOut from rfl, hout] at hin; exact absurd hin (by decide)⟩
  case isFalse =>
    split
    case isTrue =>
      refine ⟨_, rfl, ?_⟩
      rw [foldl_twin chRefresh_twin]
      exact ⟨rfl, fun _ _ => rfl⟩
    case isFalse hrole =>
      refine ⟨_, rfl, ?_⟩
      rw [chSwitch_twin]
      exact ⟨rfl, fun _ h2 => absurd (show standbyRole s.twin.st = true by rw [h2]; rfl) hrole⟩

theorem exec_proofSwapRelease_other (h : s.twin.proofStage ≠ 1) : exec .proofSwapRelease s = .next s := if_pos (.inl h)

/-! ### The check of a proof swap -/

/-- One channel's check: `ok` says which channels pass. -/
def proofChannel (ok : Nat → Bool) (w : Nat) (s : State) (c : Nat) : State :=
  if ok c then
    let s := setTwin s (fun d => { d with proofBad := d.proofBad.filter (· != c) })
    if s.twin.proof.contains c then setTwin s (fun d => { d with proven := tset d.proven c w, dueNoted := d.dueNoted.filter (· != c) }) else s
  else
    let s := report (note (setTwin s (fun d => { d with proofBad := d.proofBad.filter (· != c) ++ [c] })) Ev.proofFail 0x4B c (chPt c 1) []) 0x0902 (0x60 + c / 128) c
    if s.twin.proofOut && !standbyRole s.twin.st then chSwitch s [c] false else chRefresh s c

/-- A channel that failed stands in the list of those and has been reported to the Ridge. -/
def ProofFailed (s : State) (c : Nat) : Prop := c ∈ s.twin.proofBad ∧ (⟨0x0902, 0x60 + c / 128, c, 0⟩ : FaultRep) ∈ s.faultq

theorem chSwitch_faultq (s : State) (l : List Nat) (off : Bool) : (chSwitch s l off).faultq = s.faultq :=
  foldl_keeps State.faultq (fun u c => (sameSupply_chRefresh (setChan u c _) c).faultq) l s

/-- What a failed channel leaves of the twin unit and the reports. -/
theorem proofChannel_failed {ok : Nat → Bool} {c : Nat} (hc : ok c = false) (w : Nat) (s : State) :
    (proofChannel ok w s c).twin = { s.twin with proofBad := s.twin.proofBad.filter (· != c) ++ [c] } ∧
      (proofChannel ok w s c).faultq = s.faultq ++ [⟨0x0902, 0x60 + c / 128, c, 0⟩] := by
  unfold proofChannel
  rw [if_neg (by rw [hc]; decide)]
  extract_lets u
  have hu : u.twin = { s.twin with proofBad := s.twin.proofBad.filter (· != c) ++ [c] } ∧ u.faultq = s.faultq ++ [⟨0x0902, 0x60 + c / 128, c, 0⟩] := by
    constructor
    · simp [u, setTwin]
    · simp [u, report, note_faultq]
  obtain ⟨htwin, hfault⟩ := hu
  clear_value u
  split
  · exact ⟨(chSwitch_twin ..).trans htwin, (chSwitch_faultq ..).trans hfault⟩
  · exact ⟨(chRefresh_twin ..).trans htwin, (sameSupply_chRefresh u c).faultq.trans hfault⟩

/-- What a passed channel leaves of them. -/
theorem proofChannel_passed {ok : Nat → Bool} {c : Nat} (hc : ok c = true) (w : Nat) (s : State) :
    (proofChannel ok w s c).twin.proofBad = s.twin.proofBad.filter (· != c) ∧ (proofChannel ok w s c).twin.proofStage = s.twin.proofStage ∧
      (proofChannel ok w s c).faultq = s.faultq := by
  unfold proofChannel
  rw [if_pos hc]
  dsimp only
  split <;> exact ⟨rfl, rfl, rfl⟩

theorem proofChannel_stage (ok : Nat → Bool) (w : Nat) (s : State) (c : Nat) : (proofChannel ok w s c).twin.proofStage = s.twin.proofStage := by
  cases hc : ok c with
  | true => exact (proofChannel_passed hc w s).2.1
  | false => rw [(proofChannel_failed hc w s).1]

/-- Another channel's check leaves a failed one failed. -/
theorem ProofFailed.channel {ok : Nat → Bool} {c : Nat} (hc : ok c = false) {s : State} (h : ProofFailed s c) (w x : Nat) : ProofFailed (proofChannel ok w s x) c := by
  obtain ⟨hbad, hrep⟩ := h
  cases hx : ok x with
  | true =>
    obtain ⟨hb, -, hf⟩ := proofChannel_passed hx w s
    have hne : c ≠ x := fun h => by rw [h, hx] at hc; exact absurd hc (by decide)
    exact ⟨by rw [hb]; exact List.mem_filter.mpr ⟨hbad, by simpa using hne⟩, by rwa [hf]⟩
  | false =>
    obtain ⟨ht, hf⟩ := proofChannel_failed hx w s
    refine ⟨?_, by rw [hf]; exact List.mem_append_left _ hrep⟩
    rw [ht]
    by_cases hne : c = x
    · exact List.mem_append_right _ (by simp [hne])
    · exact List.mem_append_left _ (List.mem_filter.mpr ⟨hbad, by simpa using hne⟩)

theorem proofFailed_foldl {ok : Nat → Bool} {c : Nat} (hc : ok c = false) (w : Nat) (l : List Nat) (s : State) (h : c ∈ l ∨ ProofFailed s c) :
    ProofFailed (l.foldl (proofChannel ok w) s) c := by
  induction l generalizing s with
  | nil => exact h.resolve_left List.not_mem_nil
  | cons x l ih =>
    refine ih _ ?_
    rcases h with h | h
    · rcases List.mem_cons.mp h with rfl | h
      · obtain ⟨ht, hf⟩ := proofChannel_failed hc w s
        exact .inr ⟨by rw [ht]; simp, by rw [hf]; simp⟩
      · exact .inl h
    · exact .inr (h.channel hc w x)

/-- Whether a channel passes: the incoming switch carries PROOF_MA and the outgoing one at most 5 mA. -/
def proofOk (s : State) (inc out : List (BitVec 9 × Word)) (c : Nat) : Bool :=
  decide (ratOf (param s pTwinProofMa 0) ≤ currentOf inc c) && decide (currentOf out c ≤ 5)

/-- Record that a channel's proof is due. -/
def proofDueNote (s : State) (c : Nat) : State :=
  note (setTwin s (fun d => { d with dueNoted := d.dueNoted ++ [c] })) Ev.proofDue 0x4B c (chPt c 1) []

theorem exec_proofCheck (inc out : List (BitVec 9 × Word)) (hst : s.twin.proofStage = 2) (h : s.twin.proofAt + 3000000 ≤ s.t0) :
    ∃ due : List Nat, exec (.proofCheck inc out) s = .next (due.foldl proofDueNote
      (((parChans s true).filter (fun c => privCmd s c && s.twin.proofOn.contains c)).foldl (proofChannel (proofOk s inc out) s.twin.proofAt)
        (setTwin s (fun d => { d with proofStage := 0 })))) := by
  have hgo : ¬ (s.twin.proofStage ≠ 2 ∨ s.t0 < s.twin.proofAt + 3 * ms) := by
    rintro (h' | h')
    · exact h' hst
    · exact absurd h (not_le.mpr h')
  show ∃ due : List Nat, execProofCheck inc out s = _
  unfold execProofCheck
  rw [if_neg hgo]
  exact ⟨_, rfl⟩

theorem exec_proofCheck_other (inc out : List (BitVec 9 × Word)) (h : s.twin.proofStage ≠ 2) : exec (.proofCheck inc out) s = .next s := if_pos (.inl h)

theorem foldl_proofDueNote (l : List Nat) (s : State) : (l.foldl proofDueNote s).twin.proofBad = s.twin.proofBad ∧
    (l.foldl proofDueNote s).twin.proofStage = s.twin.proofStage ∧ (l.foldl proofDueNote s).faultq = s.faultq := by
  refine ⟨foldl_keeps (fun u : State => u.twin.proofBad) (fun u c => ?_) l s, foldl_keeps (fun u : State => u.twin.proofStage) (fun u c => ?_) l s,
    foldl_keeps State.faultq (fun u c => ?_) l s⟩
  · simp [proofDueNote, setTwin]
  · simp [proofDueNote, setTwin]
  · simp [proofDueNote, setTwin]

/-- After the check the swap is over and each failing channel has been reported. -/
theorem exec_proofCheck_reports (inc out : List (BitVec 9 × Word)) (hst : s.twin.proofStage = 2) (h : s.twin.proofAt + 3000000 ≤ s.t0) :
    ∃ t, exec (.proofCheck inc out) s = .next t ∧ t.twin.proofStage = 0 ∧
      ∀ c ∈ parChans s true, privCmd s c = true → c ∈ s.twin.proofOn → proofOk s inc out c = false → ProofFailed t c := by
  obtain ⟨due, hrun⟩ := exec_proofCheck inc out hst h
  refine ⟨_, hrun, ?_, fun c hc hcmd hon hok => ?_⟩
  · rw [(foldl_proofDueNote ..).2.1, foldl_keeps (fun u : State => u.twin.proofStage) (fun u c => proofChannel_stage _ _ u c)]
    rfl
  · obtain ⟨hbad, -, hfault⟩ := foldl_proofDueNote due (((parChans s true).filter (fun c => privCmd s c && s.twin.proofOn.contains c)).foldl
      (proofChannel (proofOk s inc out) s.twin.proofAt) (setTwin s (fun d => { d with proofStage := 0 })))
    have hmem : c ∈ (parChans s true).filter (fun c => privCmd s c && s.twin.proofOn.contains c) :=
      List.mem_filter.mpr ⟨hc, by simp [hcmd, hon]⟩
    rw [ProofFailed, hbad, hfault]
    exact proofFailed_foldl hok s.twin.proofAt _ _ (.inl hmem)

end ProofSwap

/-! ### The twin pins (R479) -/

section TwinPins
variable {s : State} {n : BitVec 9} {mv : Nat} {v : Word}

/-- Whether a pin's voltage disagrees with a command. -/
def pinBad (v : Word) (mv : Nat) : Bool := if v.getLsbD 0 then decide (mv < 3000) else decide (10000 ≤ mv)

theorem exec_twinPinMismatch (hm : s.mode.cur = .standby) (hp : flag s pTwinParallel n.toNat = true) (ho : isOut s n.toNat = true)
    (hv : tfind s.twin.cmd (chPt n.toNat 1) = some v) :
    exec (.twinPinMismatch n mv) s = if !pinBad v mv then .next (setTwin s (fun d => { d with mismatch := d.mismatch.filter (· != n.toNat) }))
      else if s.twin.mismatch.contains n.toNat then .next s
      else .next (note (setTwin s (fun d => { d with mismatch := d.mismatch ++ [n.toNat] })) Ev.twinPinMismatch (0x60 + n.toNat / 128) n.toNat (chPt n.toNat 1) [mv]) := by
  show execTwinPinMismatch n mv s = _
  unfold execTwinPinMismatch
  extract_lets c
  rw [if_neg (by simp [c, hm, hp, ho])]
  simp only [c, hv] <;> rfl

end TwinPins

/-- Settles O42: pairing, takeover, swaps, proof swaps and pins are each computed through what keeps the twin unit. -/
theorem twinsPairSwapAndTakeOver : Obligations.TwinsPairSwapAndTakeOver := by
  unfold Obligations.TwinsPairSwapAndTakeOver
  refine ⟨fun s => ⟨fun r h => ⟨exec_twinPair_disabled h, fun hen hwhy hst hd => ?dwell, exec_twinPair_accepted h⟩,
    fun x => ⟨exec_snapshotApplied_paired x, exec_snapshotApplied_other x⟩,
    fun hm hst hs => ⟨exec_takeover_latched, exec_takeover hm hst hs⟩, exec_takeover_heard,
    fun tile => ⟨exec_parallelAnalogOpen, exec_parallelChannelRelease, exec_parallel_unpaired⟩,
    fun r h => ⟨exec_twinSwap_refused h, exec_twinSwap h⟩,
    fun w => ⟨fun hw h _ => exec_twinSwapInstant_out hw h, exec_twinSwapInstant_early, exec_twinSwapAnalogClose, exec_twinSwapRelease⟩,
    fun w hw hst hd hid hact => exec_pairWaitExpiry hw hst hd hid hact, exec_pairWaitExpiry_none, fun r h => exec_twinStatusGet h⟩,
    fun s => ⟨fun l w hw => ⟨fun h hst => ?proofSwap, exec_proofSwap_early l hw⟩, exec_proofSwapRelease, exec_proofSwapRelease_other,
      fun inc out hst h => ?proofCheck, exec_proofCheck_other, ?pins⟩⟩
  case dwell => rw [exec_twinPair_matching h hen hwhy hst, if_pos (by rw [show dwellOk s = false from hd]; decide)]
  case proofSwap =>
    obtain ⟨t, hrun, htwin⟩ := exec_proofSwap l hw h hst
    refine ⟨t, hrun, ?_⟩
    rw [htwin, swappedTwin]
    exact ⟨rfl, rfl, rfl, rfl, by dsimp only⟩
  case proofCheck =>
    obtain ⟨t, hrun, hstage, hfail⟩ := exec_proofCheck_reports inc out hst h
    refine ⟨t, hrun, hstage, fun c hc hcmd hon hlow => hfail c hc hcmd hon ?_⟩
    rcases hlow with h | h <;> simp [proofOk, h]
  case pins =>
    intro n mv v c hm hp ho hv bad
    have hrun := exec_twinPinMismatch (mv := mv) hm hp ho hv
    refine ⟨fun hb hc => ?_, fun hb hc => ?_, fun hb => ?_⟩
    · rw [hrun, show pinBad v mv = true from hb, if_neg (by decide), if_neg (by simpa using hc)]
    · rw [hrun, show pinBad v mv = true from hb, if_neg (by decide), if_pos (by simpa using hc)]
    · rw [hrun, show pinBad v mv = false from hb, if_pos (by decide)]

end Sys2Proof.Proofs
end


section
/-! O43: check-value jobs, the image rescan and die temperatures. -/

namespace Sys2Proof.Proofs

open Sys2Proof.Machine Sys2Proof.Laws Sys2Proof.Safety

theorem cvUnit_setCv_same (s : State) (u : Nat) (f : CvUnit → CvUnit) : cvUnit (setCv s u f) u = f (cvUnit s u) :=
  tget_tmod_same ({} : CvUnit) s.cv.units u f

theorem cvUnit_of_cv {s t : State} (h : t.cv = s.cv) (u : Nat) : cvUnit t u = cvUnit s u := by rw [cvUnit, h, cvUnit]

/-! ### Jobs start and end (R511-R515) -/

section Jobs
variable {s : State} {u : Fin 4} {j : CvJob}

theorem exec_cvJobStart {q : List CvJob} (hr : (cvUnit s u.val).running = none) (hs : (island s (0x30 + u.val)).inService = true)
    (hq : (cvUnit s u.val).queue.filter (·.own) ++ (cvUnit s u.val).queue.filter (fun j => !j.own) = j :: q) :
    exec (.cvJobStart u) s = .next (setCv s u.val (fun d => { d with running := some { j with began := s.t0 }, queue := d.queue.filter (fun x => x.id != j.id) })) := by
  show execCvJobStart u s = _
  unfold execCvJobStart
  dsimp only
  rw [hr, show (tget {} s.islands (0x30 + u.val) : IslandSt).inService = true from hs, if_neg (by decide), hq]

theorem exec_cvJobStart_busy (hr : (cvUnit s u.val).running ≠ none) : exec (.cvJobStart u) s = .next s := by
  obtain ⟨j, hj⟩ := Option.ne_none_iff_exists'.mp hr
  exact if_pos (by simp [hj])

/-- A result that has been kept is the unit's last, and what answers a host job leaves the units. -/
theorem cvEnd_cv (s : State) (u : Nat) (j : CvJob) (x : CvRes) :
    (cvEnd s u j x).cv = (setCv s u (fun d => { d with results := (d.results ++ [x]).drop (d.results.length + 1 - 16) })).cv := by
  unfold cvEnd
  dsimp only
  split
  · rfl
  · exact finish_cv ..

theorem cvUnit_cvEnd (s : State) (u : Nat) (j : CvJob) (x : CvRes) : cvUnit (cvEnd s u j x) u =
    { cvUnit s u with results := ((cvUnit s u).results ++ [x]).drop ((cvUnit s u).results.length + 1 - 16) } := by
  rw [cvUnit_of_cv (cvEnd_cv ..), cvUnit_setCv_same]

theorem getLast?_lastResults (l : List CvRes) (x : CvRes) : ((l ++ [x]).drop (l.length + 1 - 16)).getLast? = some x := by
  rw [List.getLast?_drop, if_neg (by simp only [List.length_append, List.length_singleton]; omega), List.getLast?_concat]

/-- The result of a job that ends without a fault. -/
def goodResult (s : State) (u : Fin 4) (j : CvJob) (l : List Byte) : CvRes :=
  { id := j.id, unit_ := u.val, status := 0, preset := j.preset, restarts := j.restarts, value := cvValue j.preset (cvFeed j l), bytes := j.len, fault := 0
    tStart := j.began, tEnd := s.t0, mean := (cvMean s j.len (s.t0 - j.began)).1 }

theorem cvMean_measured {ns : Nat} (h : ns ≠ 0) (s : State) (bytes : Nat) : (cvMean s bytes ns).2 = s := by
  unfold cvMean
  rw [if_neg h]

theorem exec_cvJobEnd {l : List Byte} (o : Word) (hr : (cvUnit s u.val).running = some j) (hl : l.length = j.len) (hb : j.began < s.t0) :
    exec (.cvJobEnd u l 0 o) s = .next (cvEnd (setCv s u.val (fun d => { d with running := none })) u.val j (goodResult s u j l)) := by
  have hns : s.t0 - j.began ≠ 0 := by omega
  show execCvJobEnd u l 0 o s = _
  unfold execCvJobEnd
  rw [hr]
  dsimp only
  rw [if_neg (by simp [hl]), if_pos rfl, if_neg (by decide), cvMean_measured hns]
  rfl

theorem exec_cvJobEnd_result {l : List Byte} (o : Word) (hr : (cvUnit s u.val).running = some j) (hl : l.length = j.len) (hb : j.began < s.t0) :
    ∃ t x, exec (.cvJobEnd u l 0 o) s = .next t ∧ (cvUnit t u.val).running = none ∧ (cvUnit t u.val).results.getLast? = some x ∧ x.id = j.id ∧ x.status = 0 ∧
      x.value = cvValue j.preset (cvFeed j l) ∧ x.bytes = j.len ∧ x.tStart = j.began ∧ x.tEnd = s.t0 := by
  refine ⟨_, goodResult s u j l, exec_cvJobEnd o hr hl hb, ?_⟩
  rw [cvUnit_cvEnd, cvUnit_setCv_same]
  exact ⟨rfl, getLast?_lastResults .., rfl, rfl, rfl, rfl, rfl, rfl⟩

end Jobs

/-! ### The image rescan and the dies (R519, R576) -/

section Rescan
variable {s : State}

theorem exec_imageRescan (bad : Bool) (hm : s.mode.cur ≠ .keep) (hd : s.cv.scanAt + param s pCvImageScanPeriod 0 * 1000000000 ≤ s.t0) :
    ∃ t, exec (.imageRescan bad) s = .next t ∧ t.cv.scanAt = s.t0 ∧ t.deck.crcBad = (s.deck.crcBad || (bad && !s.deck.staged.isEmpty)) := by
  have hgo : ¬ (s.t0 < s.cv.scanAt + param s pCvImageScanPeriod 0 * sec ∨ s.mode.cur = .keep) := by
    rintro (h | h)
    · exact absurd hd (not_le.mpr h)
    · exact hm h
  show ∃ t, execImageRescan bad s = _ ∧ _
  unfold execImageRescan
  rw [if_neg hgo]
  extract_lets c u
  have hdeck : u.deck = s.deck := rfl
  split
  case isTrue h =>
    refine ⟨_, rfl, ?_⟩
    rw [note_cv, note_deck]
    rw [hdeck] at h
    exact ⟨rfl, by rw [h, Bool.or_true]; rfl⟩
  case isFalse h =>
    rw [hdeck] at h
    exact ⟨_, rfl, rfl, by rw [Bool.eq_false_iff.mpr h, Bool.or_false]⟩

theorem exec_dieTempMeasure (d : Fin 5) (w : Word) : ∃ t, exec (.dieTempMeasure d w) s = .next t ∧
    tget 0 t.cv.dies d.val = if tjMax d.val * 1000 < w.toInt then 2 else if tjMax d.val * 1000 - 5000 ≤ w.toInt then 1 else 0 := by
  show ∃ t, execDieTempMeasure d w s = _ ∧ _
  unfold execDieTempMeasure
  extract_lets t lim lev old isl c s1 s2
  have h1 : tget 0 s1.cv.dies d.val = lev := tget_tset_same ..
  have h2 : s2.cv = s1.cv := by
    unfold s2
    split
    · exact note_cv ..
    · rfl
  refine ⟨_, rfl, ?_⟩
  split
  · rw [note_cv, h2, h1]
  · rw [h2, h1]

end Rescan

/-! ### Commands (R512, R515) -/

section Commands
variable {s : State} {r : Req}

section Scan
variable (h : Runs s r 0x0810 false allModes 32 (r.target == 0 && fld r.payload 0 4 == 0 && decide ((cvJobOf r.payload).space ≤ 2 ∧
    (cvJobOf r.payload).fold ≤ 2 ∧ 1 ≤ (cvJobOf r.payload).len ∧ (cvJobOf r.payload).len ≤ 0xFFFFFFFC ∧ (cvJobOf r.payload).zLen ≤ 8)))
include h

theorem exec_cvScan_preset (hp : 5 ≤ (cvJobOf r.payload).preset) : exec (.cvScan r) s = .next (finish (begun s r 0x0810) r 0x0810 false 0x010A) :=
  congrArg Host.Outcome.next ((command_runs h _).trans (if_pos (.inr (.inr (.inl hp)))))

/-- The unit with the shortest queue, the lowest of those. -/
def cvShortest (s : State) : Nat := [1, 2, 3].foldl (fun b u => if (cvUnit s u).queue.length < (cvUnit s b).queue.length then u else b) 0

omit h in
theorem cvShortest_lt (s : State) : cvShortest s < 4 := by
  simp only [cvShortest, List.foldl_cons, List.foldl_nil]
  split_ifs <;> decide

omit h in
theorem cvShortest_first (h1 : (cvUnit s 0).queue.length ≤ (cvUnit s 1).queue.length) (h2 : (cvUnit s 0).queue.length ≤ (cvUnit s 2).queue.length)
    (h3 : (cvUnit s 0).queue.length ≤ (cvUnit s 3).queue.length) : cvShortest s = 0 := by
  simp only [cvShortest, List.foldl_cons, List.foldl_nil, if_neg (not_lt.mpr h1), if_neg (not_lt.mpr h2), if_neg (not_lt.mpr h3)]

variable (hp : (cvJobOf r.payload).preset < 5) (hf : (cvJobOf r.payload).fold = 0) (h7 : fld r.payload 7 1 = 0) (h1 : fld r.payload 0x1E 2 = 0)
include hp hf h7 h1

theorem exec_cvScan : exec (.cvScan r) s = .next (
    if cvLimit s (cvJobOf r.payload).space < (cvJobOf r.payload).start + (cvJobOf r.payload).len then finish (begun s r 0x0810) r 0x0810 false 0x0406
    else if 8 ≤ (cvUnit s (cvShortest s)).queue.length then finish (begun s r 0x0810) r 0x0810 false 0x0506
    else
      let b := setCv (begun s r 0x0810) (cvShortest s)
        (fun d => { d with queue := d.queue ++ [{ cvJobOf r.payload with id := s.cv.nextId, mb := r.mb.val, tag := r.tag.toNat }] })
      accepted { b with cv := { b.cv with nextId := (s.cv.nextId + 1) % 2 ^ 32 } } r 0x0810 (leBytes 4 s.cv.nextId)) := by
  refine congrArg Host.Outcome.next ((command_runs h _).trans ?_)
  dsimp only
  rw [if_neg (by simp only [hf, h7, h1]; simpa using hp)]
  rfl

end Scan

theorem exec_cvResultGet (h : Runs s r 0x0811 false allModes 4 (r.target == 0)) {x : CvRes}
    (hx : ((s.cv.units.map (·.2)).flatMap (·.results)).find? (fun x => x.id == fld r.payload 0 4) = some x) :
    exec (.cvResultGet r) s = .next (finish (begun s r 0x0811) r 0x0811 false 0 (cvBytes x)) := by
  refine congrArg Host.Outcome.next ((command_runs h _).trans ?_)
  dsimp only
  rw [show (begun s r 0x0811).cv = s.cv from rfl, hx]

theorem exec_cvResultGet_unknown (h : Runs s r 0x0811 false allModes 4 (r.target == 0)) (hu : s.cv.units = []) :
    exec (.cvResultGet r) s = .next (finish (begun s r 0x0811) r 0x0811 false 0x0405) := by
  refine congrArg Host.Outcome.next ((command_runs h _).trans ?_)
  dsimp only
  rw [show (begun s r 0x0811).cv = s.cv from rfl, hu]
  rfl

section Abort
variable (h : Runs s r 0x0812 true allModes 4 (r.target == 0))
include h

theorem exec_cvAbort_unknown
    (hn : s.cv.units.find? (fun e => (e.2.queue ++ e.2.running.toList).any (fun j => j.id == fld r.payload 0 4 && !j.own)) = none) :
    exec (.cvAbort r) s = .next (finish (begun s r 0x0812) r 0x0812 true 0x0405) := by
  refine congrArg Host.Outcome.next ((command_runs h _).trans ?_)
  dsimp only
  rw [show (begun s r 0x0812).cv = s.cv from rfl, hn]

theorem exec_cvAbort {e : Nat × CvUnit} (hq : ∃ j ∈ e.2.queue, j.id = fld r.payload 0 4 ∧ j.own = false)
    (he : s.cv.units.find? (fun e => (e.2.queue ++ e.2.running.toList).any (fun j => j.id == fld r.payload 0 4 && !j.own)) = some e) :
    ∃ t x, exec (.cvAbort r) s = .next t ∧ x ∈ (cvUnit t e.1).results ∧ x.id = fld r.payload 0 4 ∧ x.status = 2 := by
  obtain ⟨j, hj, hid, -⟩ := hq
  obtain ⟨k, hk⟩ : ∃ k, (e.2.queue ++ e.2.running.toList).find? (fun j => j.id == fld r.payload 0 4) = some k := by
    rw [← Option.isSome_iff_exists, List.find?_isSome]
    exact ⟨j, List.mem_append_left _ hj, by simpa using hid⟩
  have hrun : ∃ u x, exec (.cvAbort r) s = .next (finish (cvEnd u e.1 k x) r 0x0812 true 0) ∧ x.id = fld r.payload 0 4 ∧ x.status = 2 := by
    show ∃ u x, execCvAbort r s = _ ∧ _
    unfold execCvAbort
    rw [command_runs h]
    dsimp only
    rw [show (beginCmd s r 0x0812).cv = s.cv from rfl, he]
    dsimp only
    rw [hk]
    exact ⟨_, _, rfl, rfl, rfl⟩
  obtain ⟨u, x, hrun, hxid, hxst⟩ := hrun
  refine ⟨_, x, hrun, ?_, hxid, hxst⟩
  rw [cvUnit_of_cv (finish_cv ..), cvUnit_cvEnd]
  exact List.mem_of_getLast? (getLast?_lastResults ..)

end Abort
end Commands

/-- Settles O43: each instruction's step is computed, through the rule of a unit's record. -/
theorem checkValuesAndDieTemperatures : Obligations.CheckValuesAndDieTemperatures := by
  unfold Obligations.CheckValuesAndDieTemperatures
  intro s
  refine ⟨fun u j q hr hs hq => exec_cvJobStart hr hs hq, fun u hr => exec_cvJobStart_busy hr, fun u j l o hr hl hb => exec_cvJobEnd_result o hr hl hb,
    fun b hm hd => exec_imageRescan b hm hd, exec_dieTempMeasure, fun r => ⟨?scan, fun h => ⟨fun x hx => exec_cvResultGet h hx, exec_cvResultGet_unknown h⟩,
      fun h => ⟨exec_cvAbort_unknown h, fun e _ hq he => exec_cvAbort h hq he⟩⟩⟩
  case scan =>
    intro j b len h
    refine ⟨exec_cvScan_preset h, fun hp hf h7 h1 => ?_⟩
    have hrun := exec_cvScan h hp hf h7 h1
    refine ⟨fun hlim => ?_, fun hlim hlen => ?_, fun hlim h8 hle1 hle2 hle3 => ?_⟩
    · rw [hrun, if_pos hlim]
    · rw [hrun, if_neg (not_lt.mpr hlim), if_pos (hlen _ (cvShortest_lt s))]
    · have h0 : cvShortest s = 0 := cvShortest_first hle1 hle2 hle3
      rw [if_neg (not_lt.mpr hlim), h0, if_neg (not_le.mpr h8)] at hrun
      refine ⟨_, hrun, ?_⟩
      rw [cvUnit_of_cv (accepted_cv ..), accepted_cv]
      exact ⟨rfl, congrArg CvUnit.queue (cvUnit_setCv_same (begun s r 0x0810) 0
        (fun d => { d with queue := d.queue ++ [{ cvJobOf r.payload with id := s.cv.nextId, mb := r.mb.val, tag := r.tag.toNat }] }))⟩

end Sys2Proof.Proofs
end


section
/-! O24: analog inputs and outputs, their self-tests, and encoders. -/

namespace Sys2Proof.Proofs

open Sys2Proof.Machine Sys2Proof.Laws Sys2Proof.Safety

/-! ### Analog inputs (R298-R301, R309) -/

section AnalogInputs
variable {s : State} {n : BitVec 7}

theorem exec_sarConversionEnd (k : BitVec 16) (x : Word) (h1 : aiActive s n.toNat = true) (h2 : aiSar s n.toNat = true) :
    exec (.sarConversionEnd n k x) s = .next (aiRefresh (aiConvert s n.toNat k.toInt x 32768) n.toNat s.t0) := by
  show execSarConversionEnd n k x s = _
  unfold execSarConversionEnd
  dsimp only
  rw [if_neg (by simp [h1, h2]), show (2 : Int) ^ 15 = 32768 by norm_num]

theorem exec_sarConversionEnd_other (k : BitVec 16) (x : Word) (h : aiActive s n.toNat = false ∨ aiSar s n.toNat = false) :
    exec (.sarConversionEnd n k x) s = .next s := if_pos (by rcases h with h | h <;> simp [h])

/-- The pin check of a sigma-delta conversion in the TC and RTD modes. -/
def aiPinChecked (s : State) (a m : Nat) (isOpen : Bool) : State :=
  if m < 5 then s
  else if isOpen then aiFlag (setAin s a (fun d => { d with passes := 0 })) a 0 true
  else
    let u := setAin s a (fun d => { d with passes := d.passes + 1 })
    if 2 ≤ (ain u a).passes then aiFlag u a 0 false else u

theorem aiShow_t0 (s : State) (a t : Nat) : (aiShow s a t).t0 = s.t0 := by
  unfold aiShow
  dsimp only
  split <;> simp

theorem aiFlag_t0 (s : State) (a k : Nat) (v : Bool) : (aiFlag s a k v).t0 = s.t0 := by
  unfold aiFlag
  split
  · rfl
  · rw [aiShow_t0, note_t0, setAin_t0]

theorem aiConvert_t0 (s : State) (a : Nat) (counts : Int) (x : Word) (lim : Int) : (aiConvert s a counts x lim).t0 = s.t0 := by
  simp [aiConvert, aiFlag_t0, apply_ite State.t0]

theorem aiPinChecked_t0 (s : State) (a m : Nat) (isOpen : Bool) : (aiPinChecked s a m isOpen).t0 = s.t0 := by
  simp [aiPinChecked, aiFlag_t0, apply_ite State.t0]

/-- A conversion whose reference check passed. -/
theorem exec_sigmaDelta (k : BitVec 24) (x : Word) (isOpen : Bool) (h1 : aiActive s n.toNat = true) (h2 : aiSar s n.toNat = false) :
    exec (.sigmaDeltaConversionEnd n k x isOpen false) s = .next (aiRefresh (setAin
      (aiPinChecked (aiConvert s n.toNat k.toInt x 8388608) n.toNat (param s pAiMode n.toNat) isOpen) n.toNat (fun d => { d with okTests := some (d.okTests.getD s.t0) })) n.toNat s.t0) := by
  show execSigmaDeltaConversionEnd n k x isOpen false s = _
  unfold execSigmaDeltaConversionEnd
  extract_lets +onlyGivenNames a m
  rw [if_neg (by simp [a, h1, h2]), show (2 : Int) ^ 23 = 8388608 by norm_num]
  extract_lets s1 u s2 s3 s4
  have hs2 : s2 = aiPinChecked s1 a m isOpen := rfl
  have ht2 : s2.t0 = s.t0 := by rw [hs2, aiPinChecked_t0, aiConvert_t0]
  have hs3 : s3 = setAin s2 a (fun d => { d with okTests := some (d.okTests.getD s2.t0) }) := rfl
  have hs4 : s4 = s3 := if_neg (fun h => Bool.false_ne_true (Bool.and_eq_true_iff.mp h).1)
  rw [hs4, hs3, setAin_t0, ht2, hs2]

theorem exec_aiFlagTimer_open (hm : param s pAiMode n.toNat = 4) (h : heldFor (ain s n.toNat).bad 0 10000000 s.t0 = true) :
    exec (.aiFlagTimer n 0) s = .next (aiFlag s n.toNat 0 true) := by
  show (if param s pAiMode n.toNat ≠ 4 then Host.Outcome.next s
    else if heldFor (ain s n.toNat).bad 0 (10 * ms) s.t0 then Host.Outcome.next (aiFlag s n.toNat 0 true)
    else if heldFor (ain s n.toNat).ok 0 (10 * ms) s.t0 then Host.Outcome.next (aiFlag s n.toNat 0 false) else Host.Outcome.next s) = _
  rw [if_neg (not_not.mpr hm)]
  exact if_pos h

theorem exec_aiFlagTimer_high (h : heldFor (ain s n.toNat).ok 2 10000000 s.t0 = true) : exec (.aiFlagTimer n 2) s = .next (aiFlag s n.toNat 2 false) :=
  congrArg Host.Outcome.next (if_pos h)

theorem exec_aiFlagTimer_low (h : heldFor (ain s n.toNat).ok 3 10000000 s.t0 = true) : exec (.aiFlagTimer n 3) s = .next (aiFlag s n.toNat 3 false) :=
  congrArg Host.Outcome.next (if_pos h)

theorem exec_aiFlagTimer_overcurrent (h : heldFor (ain s n.toNat).bad 4 1000000 s.t0 = true) (h4 : (ain s n.toNat).flags.testBit 4 = false) :
    exec (.aiFlagTimer n 4) s = .next (aiFlag (setAin s n.toNat (fun d => { d with shuntAt := s.t0 })) n.toNat 4 true) :=
  congrArg Host.Outcome.next (if_pos (by rw [h4, show heldFor (ain s n.toNat).bad 4 ms s.t0 = true from h]; rfl))

theorem exec_aiShuntReclose (ma : Word) (h4 : (ain s n.toNat).flags.testBit 4 = true) (hd : (ain s n.toNat).shuntAt + 1000000000 ≤ s.t0) :
    exec (.aiShuntReclose n ma) s = .next (
      let s1 := setAin s n.toNat (fun d => { d with shuntAt := s.t0, bad := tdel d.bad 4 })
      if fle f32 ma.toNat 0x41C80000 then aiFlag s1 n.toNat 4 false else s1) := by
  refine if_neg ?_
  rintro (h | h)
  · rw [h4] at h
    exact absurd h (by decide)
  · exact absurd hd (not_le.mpr h)

theorem exec_selftestClear_input {u : Fin 160} (hu : u.val = n.toNat) {x : Nat} (hx : (ain s n.toNat).okTests = some x) (hd : x + 1000000000 ≤ s.t0) :
    exec (.selftestClear u) s = .next (aiFlag s n.toNat 6 false) := by
  have hlt : u.val < 128 := hu ▸ n.isLt
  show execSelftestClear u s = _
  unfold execSelftestClear
  dsimp only
  rw [if_pos hlt, hu, hx]
  exact congrArg Host.Outcome.next (if_pos (decide_eq_true hd))

end AnalogInputs

/-! ### Analog outputs (R304, R309) -/

theorem aout_setAout_same (s : State) (a : Nat) (f : AoSt → AoSt) : aout (setAout s a f) a = f (aout s a) := tget_tmod_same ({} : AoSt) s.io.ao a f

section AnalogOutputs
variable {s : State} {n : Fin 32}

theorem exec_aoSelftest_open (meas : Word) {q : Nat} (h : aoPin s n.val = .inr q) : exec (.aoSelftest n meas) s = .next (setAout s n.val (fun d => { d with devSince := none })) := by
  show execAoSelftest n meas s = _
  unfold execAoSelftest
  dsimp only
  rw [h]

/-- The state after a readback has been taken: whether it deviates is `off`. -/
def aoMeasured (s : State) (a : Nat) (meas : Word) (off : Bool) : State :=
  setAout (putField s (aoPt a 1) meas (aoConds s a)) a (fun d => { d with
    devSince := if off then some (d.devSince.getD s.t0) else none, okTests := if off then none else some (d.okTests.getD s.t0) })

/-- Whether a readback deviates by more than 0.5 % of the span. -/
def aoDeviates (s : State) (a : Nat) (meas v : Word) : Bool :=
  let e := ratOf meas.toNat - ratOf v.toNat
  decide (aoSpan (param s pAoMode a) / 200 < if e < 0 then -e else e)

theorem exec_aoSelftest (meas : Word) {v : Word} (h : aoPin s n.val = .inl v) (h0 : (aout s n.val).flags.testBit 0 = false)
    (h1 : (aout s n.val).flags.testBit 1 = false) :
    exec (.aoSelftest n meas) s = .next (
      if aoDeviates s n.val meas v = true ∧ (aout s n.val).devSince.getD s.t0 + 50000000 ≤ s.t0 ∧ (aout s n.val).flags.testBit 3 = false
      then report (aoFlag (aoMeasured s n.val meas (aoDeviates s n.val meas v)) n.val 3 true) 0x0A01 (0x60 + n.val / 8) (128 + n.val)
      else aoMeasured s n.val meas (aoDeviates s n.val meas v)) := by
  show execAoSelftest n meas s = _
  unfold execAoSelftest
  extract_lets +onlyGivenNames a d
  rw [show aoPin s a = .inl v from h]
  dsimp -zeta only
  rw [if_neg (by simp [d, a, h0, h1])]
  extract_lets e0 e off u1 u2 late
  have hoff : off = aoDeviates s n.val meas v := rfl
  have hu2 : u2 = aoMeasured s n.val meas off := rfl
  have hlate : late = (off && decide ((aout s n.val).devSince.getD s.t0 + 50000000 ≤ s.t0)) := by
    have hdev : (aout u2 n.val).devSince = if off then some ((aout s n.val).devSince.getD s.t0) else none := by
      rw [hu2, aoMeasured, aout_setAout_same]
      rfl
    unfold late
    rw [hdev]
    cases off with
    | false => rfl
    | true =>
      show decide ((aout s n.val).devSince.getD s.t0 + 50 * ms ≤ s.t0) = (true && _)
      rw [Bool.true_and, show 50 * ms = 50000000 from rfl]
  clear_value late u2 off
  subst hoff hu2 hlate
  refine congrArg Host.Outcome.next (if_congr ?_ rfl rfl)
  simp [d, a, and_assoc]

theorem exec_aoFlagTimer (on : Bool) (hm : param s pAoMode n.val ≠ 0) :
    exec (.aoFlagTimer n on) s = .next (aoFlag s n.val (if param s pAoMode n.val = 3 ∨ param s pAoMode n.val = 4 then 1 else 0) on) := if_neg hm

end AnalogOutputs

/-! ### Encoders (R305-R308) -/

theorem journalPut_io (s : State) (boundary : Bool) (l : List (Nat × List Byte)) : (journalPut s boundary l).io = s.io := by
  unfold journalPut journalAdd
  split <;> rfl

theorem encUnref_io (s : State) (e : Nat) : (encUnref s e).io = s.io := by
  refine foldl_keeps State.io (fun u x => ?_) _ _
  split
  · rw [keepCommit, journalPut_io, modAxis_io]
  · rfl

/-- Setting a flag changes the encoder's flags alone, and the flag then has its value. -/
theorem enc_encFlag (s : State) (e k : Nat) (v : Bool) :
    ∃ f, enc (encFlag s e k v) e = { enc s e with flags := f } ∧ f.testBit k = v := by
  unfold encFlag
  split
  case isTrue h => exact ⟨_, rfl, h⟩
  case isFalse h =>
    refine ⟨_, ?_, testBit_switched h⟩
    extract_lets u
    have hu : enc u e = { enc s e with flags := if v then (enc s e).flags + 2 ^ k else (enc s e).flags - 2 ^ k } := enc_setEnc_same s e _
    clear_value u
    split
    · rw [enc_of_io (encUnref_io u e), hu]
    · exact hu

theorem enc_encRefresh (s : State) (e t x : Nat) : enc (encRefresh s e t) x = enc s x := rfl

theorem enc_foldl_setAxis (g : State → Nat → AxSt → AxSt) (l : List Nat) (s : State) (e : Nat) :
    enc (l.foldl (fun s x => setAxis s x (g s x)) s) e = enc s e :=
  enc_of_io (foldl_keeps State.io (fun u x => setAxis_io u x (g u x)) l s) e

section Encoders
variable {s : State} {n : Fin 16} (hm : param s pEncMode n.val ≠ 0)
include hm

theorem exec_encLineChange_fault (a b : Bool) (hf : (enc s n.val).flags.testBit 1 = true) :
    exec (.encLineChange n a b) s = .next (setEnc s n.val (fun d => { d with a := a, b := b })) := by
  show execEncLineChange n a b s = _
  unfold execEncLineChange
  dsimp only
  rw [if_neg hm, if_pos hf]

theorem exec_encLineChange_both {a b : Bool} (hf : (enc s n.val).flags.testBit 1 = false) (ha : a ≠ (enc s n.val).a) (hb : b ≠ (enc s n.val).b) :
    exec (.encLineChange n a b) s = .next (encFlag (setEnc s n.val (fun d => { d with a := a, b := b })) n.val 0 true) := by
  show execEncLineChange n a b s = _
  unfold execEncLineChange
  dsimp only
  rw [if_neg hm, if_neg (by rw [hf]; decide), if_pos (by simp [ha.symm, hb.symm])]

theorem exec_encLineChange_one {a b : Bool} (hf : (enc s n.val).flags.testBit 1 = false) (hab : ¬ (a ≠ (enc s n.val).a ∧ b ≠ (enc s n.val).b)) :
    ∃ t, exec (.encLineChange n a b) s = .next t ∧ (enc t n.val).a = a ∧ (enc t n.val).b = b ∧ (enc t n.val).count = (enc s n.val).count +
      BitVec.ofInt 32 (if flag s pEncDir n.val then -encStep (param s pEncMode n.val) (enc s n.val).a (enc s n.val).b a b
        else encStep (param s pEncMode n.val) (enc s n.val).a (enc s n.val).b a b) := by
  have hone : ¬ ((enc s n.val).a != a && (enc s n.val).b != b) = true := by
    intro h
    simp only [Bool.and_eq_true, bne_iff_ne] at h
    exact hab ⟨h.1.symm, h.2.symm⟩
  show ∃ t, execEncLineChange n a b s = .next t ∧ _
  unfold execEncLineChange
  extract_lets +onlyGivenNames e d m both s1
  rw [if_neg hm, if_neg (by rw [show d.flags.testBit 1 = false from hf]; decide), if_neg hone]
  extract_lets +onlyGivenNames st0 st
  have hs1 : enc s1 e = { enc s e with a := a, b := b } := enc_setEnc_same ..
  clear_value s1
  split
  case isTrue h0 =>
    refine ⟨_, rfl, ?_⟩
    rw [show enc (encRefresh s1 e s.t0) e = enc s1 e from rfl, hs1, show (if flag s pEncDir n.val then -encStep (param s pEncMode n.val) (enc s n.val).a (enc s n.val).b a b
        else encStep (param s pEncMode n.val) (enc s n.val).a (enc s n.val).b a b) = 0 from h0]
    simp [e]
  case isFalse =>
    extract_lets w kept0 kept s2 s3
    have hs2 : enc s2 e = { enc s1 e with count := (enc s1 e).count + BitVec.ofInt 32 st, edges := kept ++ [(s.t0, st)] } := enc_setEnc_same ..
    refine ⟨_, rfl, ?_⟩
    rw [enc_of_io (foldl_keeps State.io axFacets_io ..), show enc s3 n.val = enc s2 e from rfl, hs2, hs1]
    exact ⟨rfl, rfl, rfl⟩

theorem exec_encIndex (hz : flag s pEncZGate n.val = true → (enc s n.val).a = true ∧ (enc s n.val).b = true)
    (hi : param s pEncIndex n.val = 1 ∨ (enc s n.val).armed = true) :
    ∃ t, exec (.encIndex n) s = .next t ∧ (enc t n.val).latch = (enc s n.val).count ∧ (enc t n.val).armed = false ∧ (enc t n.val).count = (enc s n.val).count := by
  have hgate : ¬ (param s pEncMode n.val = 0 ∨ (flag s pEncZGate n.val = true ∧ (!((enc s n.val).a && (enc s n.val).b)) = true)) := by
    rintro (h | ⟨hflag, h⟩)
    · exact hm h
    · simp [hz hflag] at h
  have harm : ¬ (!(decide (param s pEncIndex n.val = 1) || (enc s n.val).armed)) = true := by
    rcases hi with h | h <;> simp [h]
  show ∃ t, execEncIndex n s = .next t ∧ _
  unfold execEncIndex
  extract_lets +onlyGivenNames e d
  rw [if_neg hgate, if_neg harm]
  extract_lets ppr s1 s2 s3
  have hs1 : enc s1 e = { enc s e with latch := (enc s e).count, armed := false, lastIndex := some (enc s e).count } := enc_setEnc_same ..
  clear_value s1
  have hs2 : ∃ f, enc s2 e = { enc s1 e with flags := f } := by
    unfold s2
    split
    · split
      · obtain ⟨f, hf, -⟩ := enc_encFlag s1 e 2 _
        exact ⟨f, hf⟩
      · exact ⟨_, rfl⟩
    · exact ⟨_, rfl⟩
  obtain ⟨f, hs2⟩ := hs2
  refine ⟨_, rfl, ?_⟩
  have hs3 : s3 = encRefresh s2 e s2.t0 := rfl
  clear_value s3 s2
  rw [enc_foldl_setAxis, hs3, enc_encRefresh, hs2, hs1]
  exact ⟨rfl, rfl, rfl⟩

theorem exec_encLineFault (hi : param s pEncInput n.val = 0) : ∃ t, exec (.encLineFault n true) s = .next t ∧ (enc t n.val).flags.testBit 1 = true ∧
    (enc t n.val).faultAt = s.t0 ∧ (enc t n.val).lineBad = true := by
  obtain ⟨f, hf, hbit⟩ := enc_encFlag (setEnc s n.val (fun d => { d with faultAt := s.t0, lineBad := true })) n.val 1 true
  refine ⟨_, (if_neg (by simp [hm, hi])).trans (if_pos rfl), ?_⟩
  rw [hf, enc_setEnc_same]
  exact ⟨hbit, rfl, rfl⟩

omit hm in
theorem exec_lineFaultClear (hf : (enc s n.val).flags.testBit 1 = true) (hb : (enc s n.val).lineBad = false) (hd : (enc s n.val).faultAt + 10000000 ≤ s.t0) :
    ∃ t, exec (.lineFaultClear n) s = .next t ∧ (enc t n.val).flags.testBit 1 = false := by
  have hgo : ¬ ((!(enc s n.val).flags.testBit 1) = true ∨ (enc s n.val).lineBad = true ∨ s.t0 < (enc s n.val).faultAt + 10 * ms) := by
    rintro (h | h | h)
    · simp [hf] at h
    · simp [hb] at h
    · exact absurd hd (not_le.mpr h)
  obtain ⟨f, henc, hbit⟩ := enc_encFlag s n.val 1 false
  exact ⟨_, if_neg hgo, by rw [henc]; exact hbit⟩

omit hm in
theorem exec_encVelocityTimeout {k : Nat} {z : Int} (he : (enc s n.val).edges.getLast? = some (k, z)) (hk : k + 100000000 ≤ s.t0) :
    exec (.encVelocityTimeout n) s = .next (encRefresh s n.val s.t0) ∧ encVel s n.val s.t0 = 0 := by
  constructor
  · show execEncVelocityTimeout n s = _
    unfold execEncVelocityTimeout
    rw [he]
    exact if_neg (not_lt.mpr hk)
  · unfold encVel
    dsimp only
    rw [he]
    exact if_pos hk

end Encoders

/-- Settles O24: each instruction's step is computed; an encoder's flags follow the rule of setting one, which leaves the rest of it. -/
theorem analogChannelsAndEncoders : Obligations.AnalogChannelsAndEncoders := by
  unfold Obligations.AnalogChannelsAndEncoders
  refine ⟨fun s n => ⟨fun k x => ⟨exec_sarConversionEnd k x, exec_sarConversionEnd_other k x⟩, fun k x h1 h2 => ?sigma,
      ⟨exec_aiFlagTimer_open, exec_aiFlagTimer_high, exec_aiFlagTimer_low, exec_aiFlagTimer_overcurrent⟩, fun ma h4 hd => exec_aiShuntReclose ma h4 hd,
      fun k good => rfl, fun u x hu hx hd => exec_selftestClear_input hu hx hd⟩,
    fun s => ⟨fun n meas => ⟨fun q h => exec_aoSelftest_open meas h, fun v h h0 h1 => exec_aoSelftest meas h h0 h1, fun on hm => exec_aoFlagTimer on hm⟩,
      fun n hm => ⟨fun a b hf hab => exec_encLineChange_one hm hf hab, fun a b hf ha hb => ?both, fun a b hf => ?fault, exec_encIndex hm, exec_encLineFault hm, exec_lineFaultClear⟩,
      fun n k z he hk => exec_encVelocityTimeout he hk⟩⟩
  case sigma =>
    intro s1
    have hrun (isOpen : Bool) := exec_sigmaDelta k x isOpen h1 h2
    refine ⟨fun hm => ?_, fun hm => ?_⟩
    · rw [hrun, aiPinChecked, if_pos hm]
    · rw [hrun, aiPinChecked, if_neg (not_lt.mpr hm), if_pos rfl]
  case both =>
    obtain ⟨f, henc, hbit⟩ := enc_encFlag (setEnc s n.val (fun d => { d with a := a, b := b })) n.val 0 true
    refine ⟨_, exec_encLineChange_both hm hf ha hb, ?_⟩
    rw [henc, enc_setEnc_same]
    exact ⟨rfl, hbit⟩
  case fault =>
    refine ⟨_, exec_encLineChange_fault hm a b hf, ?_⟩
    rw [enc_setEnc_same]
    exact ⟨rfl, rfl, rfl⟩

end Sys2Proof.Proofs
end


section
/-! O51: STREAM_LOAD, START, PAUSE, CONTINUE, ABORT and OP_RESOLVE. -/

namespace Sys2Proof.Proofs

open Sys2Proof.Machine Sys2Proof.Laws Sys2Proof.Safety

theorem streamPoints_streams (s : State) (k : Nat) : (streamPoints s k).streams = s.streams := updates_streams ..

theorem stateListed {l : List Nat} {n : Nat} (h : n ∈ l) : ¬ (!l.contains n) = true := by simpa using h

theorem stateUnlisted {l : List Nat} {n : Nat} (h : n ∉ l) : (!l.contains n) = true := by simpa using h

section StreamState
variable (s : State) (k : Nat)

theorem stream_of_streams {s t : State} (h : t.streams = s.streams) (k : Nat) : stream t k = stream s k := by rw [stream, h, stream]

theorem stream_setStream_same (f : StreamSt → StreamSt) : stream (setStream s k f) k = f (stream s k) := tget_tmod_same ({} : StreamSt) s.streams k f

theorem stream_shown (f : StreamSt → StreamSt) (r : Req) (op : Nat) (p : List Byte) :
    stream (finish (streamPoints (setStream s k f) k) r op true 0 p) k = f (stream s k) := by
  rw [stream_of_streams ((finish_streams ..).trans (streamPoints_streams ..)), stream_setStream_same]

theorem stream_forward (n : Nat) (a : List Nat) (b : List Byte) : stream (forward s n a b) k = stream s k := by rw [stream, forward_streams, stream]

theorem recipeIn_forward (slot n : Nat) (a : List Nat) (b : List Byte) : recipeIn (forward s n a b) slot = recipeIn s slot := by
  rw [recipeIn, forward_deck, recipeIn]

end StreamState

section Commands
variable {s : State} {r : Req}

/-! ### STREAM_LOAD (R313) -/

section Load
variable (h : Runs s r 0x0501 true [.idle, .run, .hold] 4 (r.target == 0 && decide (fld r.payload 0 1 < 16) && fld r.payload 1 1 == 0))
include h

theorem exec_streamLoad_active (hf : (stream s (fld r.payload 0 1)).st ∉ ([0, 1, 7, 8] : List Nat)) :
    exec (.streamLoad r) s = .next (finish (begun s r 0x0501) r 0x0501 true 0x0207) :=
  congrArg Host.Outcome.next ((command_runs h _).trans (if_pos (stateUnlisted hf)))

variable (hf : (stream s (fld r.payload 0 1)).st ∈ ([0, 1, 7, 8] : List Nat))
include hf

theorem exec_streamLoad_empty (hx : recipeIn s (fld r.payload 2 2) = none) :
    exec (.streamLoad r) s = .next (finish (begun s r 0x0501) r 0x0501 true 0x0108) := by
  refine congrArg Host.Outcome.next ((command_runs h _).trans ((if_neg (stateListed hf)).trans ?_))
  rw [show recipeIn (begun s r 0x0501) (fld r.payload 2 2) = recipeIn s (fld r.payload 2 2) from rfl, hx]

theorem exec_streamLoad {x : ImageRec} (hx : recipeIn s (fld r.payload 2 2) = some x) :
    exec (.streamLoad r) s = .next (
      if fld (x.bytes.drop 64) 0x31 1 ≠ fld r.payload 0 1 ∧ (fld (x.bytes.drop 64) 0x31 1 ≠ 0xFF ∨ !recipeFits s (fld r.payload 0 1) (x.bytes.drop 64))
      then finish (begun s r 0x0501) r 0x0501 true 0x0107
      else finish (streamLoad (forward (begun s r 0x0501) 4 [0x0501, 0, s.t0] r.payload) (fld r.payload 0 1) (fld r.payload 2 2)) r 0x0501 true 0) := by
  refine congrArg Host.Outcome.next ((command_runs h _).trans ((if_neg (stateListed hf)).trans ?_))
  rw [show recipeIn (begun s r 0x0501) (fld r.payload 2 2) = recipeIn s (fld r.payload 2 2) from rfl, hx]
  rfl

end Load

/-- The stream that a recipe has been loaded into. -/
theorem stream_streamLoad {u : State} {k slot : Nat} {x : ImageRec} (hx : recipeIn u slot = some x) (r : Req) (op : Nat) :
    stream (finish (streamLoad u k slot) r op true 0) k = { stream u k with
      st := 1, slot := slot, gen := x.gen, recipe := x.bytes.drop 64, step := 0, handle := 0, enter := none, boundary := none, reason := 0 } := by
  unfold streamLoad
  rw [hx]
  exact stream_shown ..

/-! ### STREAM_START (R322) -/

section Start
variable (h : Runs s r 0x0502 true [.run] 4 (streamArg r 3))
include h

theorem exec_streamStart_refused (hm : ¬ ((stream s (fld r.payload 0 1)).st ∈ ([1, 7, 8] : List Nat) ∧ recipeIn s (stream s (fld r.payload 0 1)).slot ≠ none)) :
    exec (.streamStart r) s = .next (finish (begun s r 0x0502) r 0x0502 true 0x0207) := by
  refine congrArg Host.Outcome.next ((command_runs h _).trans (if_pos ?_))
  rw [not_and_or, not_not] at hm
  exact hm.imp stateUnlisted Option.isNone_iff_eq_none.mpr

variable (hm : (stream s (fld r.payload 0 1)).st ∈ ([1, 7, 8] : List Nat) ∧ recipeIn s (stream s (fld r.payload 0 1)).slot ≠ none)
include hm

theorem exec_streamStart : exec (.streamStart r) s = .next (
    let u := streamStart (forward (begun s r 0x0502) 4 [0x0502, 0, s.t0] r.payload) (fld r.payload 0 1) s.t0
    if admitStatus u (fld r.payload 0 1) 0 ≠ 0 then finish (begun s r 0x0502) r 0x0502 true (admitStatus u (fld r.payload 0 1) 0)
    else finish u r 0x0502 true 0 (leBytes 8 (nextRel s.t0 (param s pTaskPeriod (streamTask s (fld r.payload 0 1))) (param s pTaskPhase (streamTask s (fld r.payload 0 1)))))) := by
  refine congrArg Host.Outcome.next ((command_runs h _).trans ((if_neg ?_).trans ?_))
  · obtain ⟨hst, hx⟩ := hm
    exact fun h => h.elim (stateListed hst) fun h => hx (Option.isNone_iff_eq_none.mp h)
  · rfl

end Start

/-- The stream that has been started. -/
theorem stream_streamStart {u : State} {k : Nat} {x : ImageRec} (hx : recipeIn u (stream u k).slot = some x) (a : Nat) :
    (stream (streamStart u k a) k).st = 2 ∧ (stream (streamStart u k a) k).enter = some 0 ∧ (stream (streamStart u k a) k).enterFrom = a ∧
      (stream (streamStart u k a) k).inAbort = false := by
  unfold streamStart
  rw [hx]
  dsimp only
  rw [stream_of_streams (streamPoints_streams ..), stream_setStream_same]
  exact ⟨rfl, rfl, rfl, rfl⟩

/-! ### STREAM_PAUSE and STREAM_CONTINUE (R322) -/

section Pause
variable (h : Runs s r 0x0503 true [.run, .hold] 4 (streamArg r 3))
include h

theorem exec_streamPause_refused (hst : (stream s (fld r.payload 0 1)).st ≠ 2) :
    exec (.streamPause r) s = .next (finish (begun s r 0x0503) r 0x0503 true 0x0207) := congrArg Host.Outcome.next ((command_runs h _).trans (if_pos hst))

theorem exec_streamPause (hst : (stream s (fld r.payload 0 1)).st = 2) :
    ∃ t, exec (.streamPause r) s = .next t ∧ (stream t (fld r.payload 0 1)).st = 3 ∧ (stream t (fld r.payload 0 1)).reason = 1 := by
  refine ⟨_, congrArg Host.Outcome.next ((command_runs h _).trans (if_neg (not_not.mpr hst))), ?_⟩
  rw [streamPause, if_pos (by rw [stream_forward]; exact hst), stream_shown]
  exact ⟨rfl, rfl⟩

end Pause

section Continue
variable (h : Runs s r 0x0504 true [.run] 4 (streamArg r 3))
include h

theorem exec_streamContinue_refused (h3 : (stream s (fld r.payload 0 1)).st ≠ 3) (h4 : (stream s (fld r.payload 0 1)).st ≠ 4) :
    exec (.streamContinue r) s = .next (finish (begun s r 0x0504) r 0x0504 true 0x0207) := congrArg Host.Outcome.next ((command_runs h _).trans (if_pos ⟨h3, h4⟩))

/-- The status with which a paused stream may not go on. -/
def continueStatus (s : State) (r : Req) : Nat :=
  if (stream s (fld r.payload 0 1)).st = 4 then
    (match (stream s (fld r.payload 0 1)).boundary with | some n => admitStatus (begun s r 0x0504) (fld r.payload 0 1) n | none => 0) else 0

theorem exec_streamContinue (hst : (stream s (fld r.payload 0 1)).st = 3 ∨ (stream s (fld r.payload 0 1)).st = 4) : exec (.streamContinue r) s = .next (
    if continueStatus s r ≠ 0 then finish (begun s r 0x0504) r 0x0504 true (continueStatus s r)
    else finish (streamContinue (forward (begun s r 0x0504) 4 [0x0504, 0, s.t0] r.payload) (fld r.payload 0 1) s.t0) r 0x0504 true 0) :=
  congrArg Host.Outcome.next ((command_runs h _).trans (if_neg fun hn => hst.elim hn.1 hn.2))

theorem exec_streamContinue_pausing (h3 : (stream s (fld r.payload 0 1)).st = 3) :
    ∃ t, exec (.streamContinue r) s = .next t ∧ (stream t (fld r.payload 0 1)).st = 2 ∧ (stream t (fld r.payload 0 1)).reason = 0 := by
  have h0 : continueStatus s r = 0 := if_neg (by rw [h3]; decide)
  refine ⟨_, (exec_streamContinue h (.inl h3)).trans (congrArg Host.Outcome.next (if_neg (not_not.mpr h0))), ?_⟩
  rw [streamContinue, if_pos (by rw [stream_forward]; exact h3), stream_shown]
  exact ⟨rfl, rfl⟩

section Paused
variable {n : Nat} (h4 : (stream s (fld r.payload 0 1)).st = 4) (hn : (stream s (fld r.payload 0 1)).boundary = some n)
include h4 hn

omit h in
theorem continueStatus_paused : continueStatus s r = admitStatus (begun s r 0x0504) (fld r.payload 0 1) n := by
  rw [continueStatus, if_pos h4, hn]

theorem exec_streamContinue_unadmitted (ha : admitStatus (begun s r 0x0504) (fld r.payload 0 1) n ≠ 0) :
    exec (.streamContinue r) s = .next (finish (begun s r 0x0504) r 0x0504 true (admitStatus (begun s r 0x0504) (fld r.payload 0 1) n)) := by
  rw [exec_streamContinue h (.inr h4), continueStatus_paused h4 hn, if_pos ha]

theorem exec_streamContinue_paused (ha : admitStatus (begun s r 0x0504) (fld r.payload 0 1) n = 0) :
    ∃ t, exec (.streamContinue r) s = .next t ∧ (stream t (fld r.payload 0 1)).enter = some n ∧ (stream t (fld r.payload 0 1)).enterFrom = s.t0 + 100 * us := by
  have h0 : continueStatus s r = 0 := (continueStatus_paused h4 hn).trans ha
  refine ⟨_, (exec_streamContinue h (.inr h4)).trans (congrArg Host.Outcome.next (if_neg (not_not.mpr h0))), ?_⟩
  rw [streamContinue, if_neg (by rw [stream_forward, show stream (begun s r 0x0504) (fld r.payload 0 1) = stream s (fld r.payload 0 1) from rfl, h4]; decide),
    stream_of_streams (finish_streams ..), stream_setStream_same, stream_forward]
  exact ⟨hn, rfl⟩

end Paused
end Continue

/-! ### STREAM_ABORT (R323) -/

section Abort
variable (h : Runs s r 0x0505 true [.run, .hold, .maint, .safe] 4 (streamArg r 2 && decide (fld r.payload 1 1 ≤ 1)))
include h

theorem exec_streamAbort_refused (hst : (stream s (fld r.payload 0 1)).st ∉ ([2, 3, 4, 5] : List Nat)) :
    exec (.streamAbort r) s = .next (finish (begun s r 0x0505) r 0x0505 true 0x0207) :=
  congrArg Host.Outcome.next ((command_runs h _).trans (if_pos (stateUnlisted hst)))

theorem exec_streamAbort (hst : (stream s (fld r.payload 0 1)).st ∈ ([2, 3, 4, 5] : List Nat)) : exec (.streamAbort r) s =
    .next (finish (streamAbort (forward (begun s r 0x0505) 4 [0x0505, 0, s.t0] r.payload) (fld r.payload 0 1) (fld r.payload 1 1) s.t0) r 0x0505 true 0) :=
  congrArg Host.Outcome.next ((command_runs h _).trans (if_neg (stateListed hst)))

end Abort

section AbortRunning
variable {u : State} (hm : u.mode.cur = .run ∨ u.mode.cur = .hold)
include hm

theorem streams_step_in : ¬ (u.mode.cur = .maint ∨ u.mode.cur = .safe) := by
  rcases hm with hm | hm <;> simp [hm]

theorem stream_streamAbort_now (k a op : Nat) : (stream (finish (streamAbort u k 1 a) r op true 0) k).st = 6 ∧
    (stream (finish (streamAbort u k 1 a) r op true 0) k).abortReq = some 2 := by
  unfold streamAbort
  dsimp only
  rw [if_neg (streams_step_in hm), if_neg (by simp), if_neg (by simp), stream_shown]
  exact ⟨rfl, rfl⟩

theorem stream_streamAbort_drain {k : Nat} (h4 : (stream u k).st ≠ 4) (a op : Nat) : (stream (finish (streamAbort u k 0 a) r op true 0) k).drain = some a := by
  unfold streamAbort
  dsimp only
  rw [if_neg (streams_step_in hm)]
  split
  · rw [stream_of_streams (finish_streams ..), stream_setStream_same]
  · rw [if_pos ⟨rfl, h4⟩, stream_shown]

end AbortRunning

/-! ### OP_RESOLVE (R342) -/

section Resolve
variable (h : Runs s r 0x0510 true [.run, .hold] 8 (r.target == 0 && decide (fld r.payload 4 1 ≤ 3) && fld r.payload 5 3 == 0))
include h

theorem exec_opResolve_unknown (ho : opOf s (fld r.payload 0 4) = none) : exec (.opResolve r) s = .next (finish (begun s r 0x0510) r 0x0510 true 0x0402) := by
  refine congrArg Host.Outcome.next ((command_runs h _).trans ?_)
  dsimp only
  rw [show opOf (begun s r 0x0510) (fld r.payload 0 4) = opOf s (fld r.payload 0 4) from rfl, ho]

variable {o : OpSt} (ho : opOf s (fld r.payload 0 4) = some o)
include ho

theorem exec_opResolve_unparked (hst : o.st ≠ 2) : exec (.opResolve r) s = .next (finish (begun s r 0x0510) r 0x0510 true 0x0207) := by
  refine congrArg Host.Outcome.next ((command_runs h _).trans ?_)
  dsimp only
  rw [show opOf (begun s r 0x0510) (fld r.payload 0 4) = opOf s (fld r.payload 0 4) from rfl, ho]
  exact if_pos hst

theorem exec_opResolve (hst : o.st = 2) (ha : fld r.payload 4 1 ≠ 2) : exec (.opResolve r) s =
    .next (finish (opResolve (forward (begun s r 0x0510) 4 [0x0510, 0, s.t0] r.payload) (fld r.payload 0 4) (fld r.payload 4 1)) r 0x0510 true 0) := by
  refine congrArg Host.Outcome.next ((command_runs h _).trans ?_)
  dsimp only
  rw [show opOf (begun s r 0x0510) (fld r.payload 0 4) = opOf s (fld r.payload 0 4) from rfl, ho]
  dsimp only
  rw [if_neg (not_not.mpr hst), if_neg (not_not.mpr (if_neg fun hn => ha hn.1)), beginCmd_t0]

end Resolve
end Commands

/-- Settles O51: each command's outcome is the branch of its checks that the hypotheses choose, on the stream as the forwarded command finds it. -/
theorem streamCommands : Obligations.StreamCommands := by
  unfold Obligations.StreamCommands
  intro s r k
  refine ⟨?load, ?start, fun h => ⟨exec_streamPause_refused h, exec_streamPause h⟩,
    fun h => ⟨exec_streamContinue_refused h, exec_streamContinue_pausing h, fun n h4 hn => ⟨exec_streamContinue_unadmitted h h4 hn, exec_streamContinue_paused h h4 hn⟩⟩,
    ?abort, fun h => ⟨exec_opResolve_unknown h, fun o ho => ⟨exec_opResolve_unparked h ho, exec_opResolve h ho⟩⟩⟩
  case load =>
    intro slot b free h
    refine ⟨exec_streamLoad_active h, exec_streamLoad_empty h, fun x hf hx => ?_⟩
    intro own
    refine ⟨fun hk ho => ?_, fun ho => ?_⟩
    · have hno : own ≠ 0xFF ∨ (!recipeFits s k (x.bytes.drop 64)) = true := ho.imp id fun hfit => by rw [hfit]; rfl
      rw [exec_streamLoad h hf hx, if_pos ⟨hk, hno⟩]
    · have hyes : ¬ (own ≠ k ∧ (own ≠ 0xFF ∨ (!recipeFits s k (x.bytes.drop 64)) = true)) := by
        rintro ⟨hk, hno⟩
        rcases ho with ho | ⟨hff, hfit⟩
        · exact hk ho
        · exact hno.elim (· hff) (by rw [hfit]; decide)
      refine ⟨_, (exec_streamLoad h hf hx).trans (congrArg Host.Outcome.next (if_neg hyes)), ?_⟩
      rw [stream_streamLoad (by rw [recipeIn_forward]; exact hx)]
      exact ⟨rfl, rfl, rfl, rfl, rfl⟩
  case start =>
    intro b u may h
    refine ⟨exec_streamStart_refused h, fun hm ha => ?_, fun hm ha => ⟨?_, ?_⟩⟩
    · exact (exec_streamStart h hm).trans (congrArg Host.Outcome.next (if_pos ha))
    · exact (exec_streamStart h hm).trans (congrArg Host.Outcome.next (if_neg (not_not.mpr ha)))
    · obtain ⟨x, hx⟩ := Option.ne_none_iff_exists'.mp hm.2
      exact stream_streamStart (by rw [recipeIn_forward, stream_forward]; exact hx) s.t0
  case abort =>
    intro b how d h
    refine ⟨exec_streamAbort_refused h, fun hst => ⟨exec_streamAbort h hst, fun hm hhow => ?_, fun hm hhow h4 => ?_⟩⟩
    · have hm' : (forward b 4 [0x0505, 0, s.t0] r.payload).mode.cur = .run ∨ (forward b 4 [0x0505, 0, s.t0] r.payload).mode.cur = .hold := by
        rw [forward_mode]
        exact hm
      have hrun := exec_streamAbort h hst
      rw [show fld r.payload 1 1 = 1 from hhow] at hrun
      exact ⟨_, hrun, stream_streamAbort_now hm' ..⟩
    · have hm' : (forward b 4 [0x0505, 0, s.t0] r.payload).mode.cur = .run ∨ (forward b 4 [0x0505, 0, s.t0] r.payload).mode.cur = .hold := by
        rw [forward_mode]
        exact hm
      have hrun := exec_streamAbort h hst
      rw [show fld r.payload 1 1 = 0 from hhow] at hrun
      exact ⟨_, hrun, stream_streamAbort_drain hm' (by rw [stream_forward]; exact h4) ..⟩

end Sys2Proof.Proofs
end

section
/-! Responses, deadlines and heartbeats of the host window (R527, R529, R530, R533-R535, R538-R540). -/

namespace Sys2Proof.Proofs

open Sys2Proof.Machine Sys2Proof.Laws Sys2Proof.Safety

/-! ### A ring reads what was written at the same index (R527) -/

theorem mread_foldl_mwrite_notMem (a : Nat) (es : List (Nat × Byte)) : ∀ (m : Mem), a ∉ es.map (·.1) →
    mread (es.foldl (fun m e => mwrite m e.1 e.2) m) a = mread m a := by
  induction es with
  | nil => exact fun _ _ => rfl
  | cons e es ih =>
    intro m ha
    obtain ⟨h1, h2⟩ := List.ne_and_not_mem_of_not_mem_cons ha
    rw [List.foldl_cons, ih _ h2, mread_mwrite_other _ _ h1]

/-- Bytes written at addresses that differ all read back. -/
theorem mread_foldl_mwrite_mem {a : Nat} {b : Byte} (es : List (Nat × Byte)) : ∀ (m : Mem), (es.map (·.1)).Nodup → (a, b) ∈ es →
    mread (es.foldl (fun m e => mwrite m e.1 e.2) m) a = b := by
  induction es with
  | nil => exact fun _ _ h => absurd h List.not_mem_nil
  | cons e es ih =>
    intro m hn hm
    obtain ⟨hd, hn⟩ := List.nodup_cons.mp hn
    rw [List.foldl_cons]
    rcases List.mem_cons.mp hm with rfl | hm
    · rw [mread_foldl_mwrite_notMem _ _ _ hd, mread_mwrite_same]
    · exact ih _ hn hm

/-- The address of a frame's byte in a ring of 8,192 bytes. -/
def ringAddr (base : Nat) (idx : Half) (i : Nat) : Nat := base + (idx.toNat % 256 * 32 + i) % 8192

theorem ringAddr_inj {base : Nat} {idx : Half} {i j : Nat} (hi : i < 8192) (hj : j < 8192) (h : ringAddr base idx i = ringAddr base idx j) : i = j := by
  unfold ringAddr at h
  omega

theorem ringAddr_nodup (base : Nat) (idx : Half) {l : List Byte} (hl : l.length ≤ 8192) :
    ((l.mapIdx fun i b => (ringAddr base idx i, b)).map (·.1)).Nodup := by
  refine List.nodup_iff_injective_get.mpr fun i j h => ?_
  have hi := i.isLt
  have hj := j.isLt
  simp only [List.length_map, List.length_mapIdx] at hi hj
  exact Fin.ext (ringAddr_inj (by omega) (by omega) (by simpa using h))

/-- What fits a ring reads back whole, also around its end. -/
theorem ringRead_ringWrite (s : State) (base : Nat) (idx : Half) {l : List Byte} (hl : l.length ≤ 8192) : ringRead (ringWrite s base idx l) base idx l.length = l := by
  refine List.ext_getElem (by simp [ringRead]) fun i _ hi => ?_
  have hm : (ringAddr base idx i, l[i]) ∈ l.mapIdx fun i b => (ringAddr base idx i, b) := List.mem_mapIdx.mpr ⟨i, hi, rfl⟩
  have hr := mread_foldl_mwrite_mem _ s.host.rings (ringAddr_nodup base idx hl) hm
  simp only [ringRead, List.getElem_map, List.getElem_range]
  exact hr

theorem ringRead_of_rings {s t : State} (h : t.host.rings = s.host.rings) (base : Nat) (idx : Half) (n : Nat) : ringRead t base idx n = ringRead s base idx n := by
  rw [ringRead, h, ringRead]

theorem respBytes_length (p : Resp) (m seq flags : Nat) : (respBytes p m seq flags).length = 32 + p.payload.length := by
  simp only [respBytes, List.length_append, List.length_take, leBytes_length, List.length_cons, List.length_nil]
  omega

theorem setMbx_rings (s : State) (m : Nat) (f : MbxSt → MbxSt) : (setMbx s m f).host.rings = s.host.rings := rfl

theorem irq_rings (s : State) (b : Nat) : (irq s b).host.rings = s.host.rings := by
  simp only [irq]
  split <;> rfl

theorem rspCount_rings (s : State) (m : Nat) : (rspCount s m).host.rings = s.host.rings := by
  unfold rspCount
  dsimp only
  split
  · exact irq_rings ..
  · rfl

theorem mbx_rspCount (s : State) (m k : Nat) : mbx (rspCount s m) k = mbx s k := by
  unfold rspCount
  dsimp only
  split
  · exact mbx_irq ..
  · rfl

/-! ### RESPONSE_WRITE (R529, R533) -/

/-- The first waiting response of mailbox `m` goes out over UDP. -/
def respSent (s : State) (m : Nat) (p : Resp) (rest : List Resp) (src : Nat) : State :=
  let fr := respBytes p m (mbx s m).rspSeq.toNat p.flags
  send (setMbx s m (fun x => { x with
    resps := rest, rspSeq := x.rspSeq + 1, lastStatus := p.status
    kept := (if p.flags / 2 % 2 = 1 then x.kept else x.kept ++ [(p.cseq, fr)]).filter (fun e => (mbx s m).acc.contains e.1) })) Out.udpFrame src [] fr

/-- The first waiting response of mailbox `m` goes out to its ring. -/
def respWritten (s : State) (m : Nat) (p : Resp) (rest : List Resp) : State :=
  let x := mbx s m
  let tail := x.rspTail + bv 16 (units p.payload.length)
  let s := ringWrite s (m * 0x4000 + 0x2000) x.rspTail (respBytes p m x.rspSeq.toNat p.flags)
  rspCount (setMbx s m (fun x => { x with
    resps := rest, rspTail := tail, rspSeq := x.rspSeq + 1, lastStatus := p.status, stall := false, unread := x.unread ++ [(tail.toNat, s.t0)] })) m

theorem mbx_respSent (s : State) (m : Nat) (p : Resp) (rest : List Resp) (src : Nat) : (mbx (respSent s m p rest src) m).resps = rest ∧
    (mbx (respSent s m p rest src) m).rspSeq = (mbx s m).rspSeq + 1 ∧ (mbx (respSent s m p rest src) m).lastStatus = p.status := by
  have h : mbx (respSent s m p rest src) m = _ := mbx_setMbx_same s m _
  rw [h]
  exact ⟨rfl, rfl, rfl⟩

theorem mbx_ringWrite (s : State) (base : Nat) (idx : Half) (l : List Byte) (m : Nat) : mbx (ringWrite s base idx l) m = mbx s m := by
  rw [ringWrite, mbx, setHost_host, mbx]

theorem mbx_respWritten (s : State) (m : Nat) (p : Resp) (rest : List Resp) : (mbx (respWritten s m p rest) m).resps = rest ∧
    (mbx (respWritten s m p rest) m).rspSeq = (mbx s m).rspSeq + 1 ∧ (mbx (respWritten s m p rest) m).lastStatus = p.status ∧
    (mbx (respWritten s m p rest) m).stall = false ∧ (mbx (respWritten s m p rest) m).rspTail = (mbx s m).rspTail + bv 16 (units p.payload.length) := by
  rw [respWritten, mbx_rspCount, mbx_setMbx_same, mbx_ringWrite]
  exact ⟨rfl, rfl, rfl, rfl, rfl⟩

/-- A response that fits its ring stands there whole. -/
theorem ringRead_respWritten {s : State} {m : Nat} {p : Resp} (rest : List Resp)
    (hn : fill (mbx s m).rspTail (mbx s m).rspHead + units p.payload.length ≤ 256) :
    ringRead (respWritten s m p rest) (m * 0x4000 + 0x2000) (mbx s m).rspTail (32 + p.payload.length) = respBytes p m (mbx s m).rspSeq.toNat p.flags := by
  have hl : (respBytes p m (mbx s m).rspSeq.toNat p.flags).length ≤ 8192 := by
    rw [respBytes_length]
    have hu : units p.payload.length ≤ 256 := by omega
    unfold units at hu
    omega
  have h := ringRead_ringWrite s (m * 0x4000 + 0x2000) (mbx s m).rspTail hl
  rw [respBytes_length] at h
  rw [respWritten, ringRead_of_rings ((rspCount_rings ..).trans (setMbx_rings ..)), h]

section ResponseWrite

variable {s : State} {m : Fin 8}

theorem exec_responseWrite_none (h : (mbx s m.val).resps = [] ∨ s.host.ready = false) : exec (.responseWrite m) s = .next s := by
  show execResponseWrite m s = .next s
  unfold execResponseWrite
  dsimp only
  split
  · rfl
  · next p rest hr => exact if_pos (by simp [h.resolve_left (by simp [hr])])

variable {p : Resp} {rest : List Resp} (hr : (mbx s m.val).resps = p :: rest) (hy : s.host.ready = true)
include hr hy

theorem exec_responseWrite_udp {src : Nat} (hu : p.udp = some src) : exec (.responseWrite m) s = .next (respSent s m.val p rest src) := by
  show execResponseWrite m s = _
  simp only [execResponseWrite, hr, hy, hu, Bool.not_true, Bool.false_eq_true, if_false]
  rfl

theorem exec_responseWrite_stall (hu : p.udp = none) (hn : 256 < fill (mbx s m.val).rspTail (mbx s m.val).rspHead + units p.payload.length) :
    exec (.responseWrite m) s = .next (setMbx s m.val (fun x => { x with stall := true })) := by
  show execResponseWrite m s = _
  simp only [execResponseWrite, hr, hy, hu, Bool.not_true, Bool.false_eq_true, if_false]
  exact if_pos hn

theorem exec_responseWrite_ring (hu : p.udp = none) (hn : fill (mbx s m.val).rspTail (mbx s m.val).rspHead + units p.payload.length ≤ 256) :
    exec (.responseWrite m) s = .next (respWritten s m.val p rest) := by
  show execResponseWrite m s = _
  simp only [execResponseWrite, hr, hy, hu, Bool.not_true, Bool.false_eq_true, if_false]
  rw [if_neg (Nat.not_lt.mpr hn), respWritten]

end ResponseWrite

/-! ### Holdoff, deadline, ownership and heartbeat (R534, R535, R538, R539) -/

section Timers

variable {s : State} {m : Fin 8}

theorem exec_mbIntHoldoff_none (h : (mbx s m.val).unread = []) : exec (.mbIntHoldoff m) s = .next s := by
  show execMbIntHoldoff m s = _
  simp only [execMbIntHoldoff, h]

theorem exec_mbIntHoldoff_oldest {e : Nat × Nat} {l : List (Nat × Nat)} (h : (mbx s m.val).unread = e :: l) :
    exec (.mbIntHoldoff m) s = if s.t0 < e.2 + (mbx s m.val).intCfg.toNat / 65536 * us then .next s else .next (irq s m.val) := by
  show execMbIntHoldoff m s = _
  simp only [execMbIntHoldoff, h]

theorem exec_commandDeadline_none (h : (mbx s m.val).tags.find? (fun t => !t.begun && tooLate s t) = none) : exec (.commandDeadline m) s = .next s := by
  show execCommandDeadline m s = _
  unfold execCommandDeadline
  rw [h]

theorem exec_commandDeadline_late {c : CmdTag} (h : (mbx s m.val).tags.find? (fun t => !t.begun && tooLate s t) = some c) (hy : s.host.ready = true) :
    exec (.commandDeadline m) s =
      .next (finish s { mb := m, tag := bv 5 c.tag, target := c.target, payload := c.payload } c.opcode ((opKind c.opcode).getD false) 0x0508) := by
  show execCommandDeadline m s = _
  unfold execCommandDeadline
  rw [h]
  exact if_neg (by simp [hy])

theorem exec_udpIdleExpiry_ends (ho : (mbx s m.val).owner = 2) (ht : (mbx s m.val).tags = [])
    (hi : (mbx s m.val).lastUdp + param s pHostUdpIdle 0 * sec ≤ s.t0) :
    exec (.udpIdleExpiry m) s = .next (setMbx s m.val (fun x => { x with owner := 0, isOpen := false })) := by
  refine if_neg ?_
  rintro (h | h | h)
  · exact h ho
  · simp [ht] at h
  · exact absurd hi (Nat.not_le.mpr h)

theorem exec_udpIdleExpiry_stays (h : (mbx s m.val).owner ≠ 2 ∨ (mbx s m.val).tags ≠ [] ∨ s.t0 < (mbx s m.val).lastUdp + param s pHostUdpIdle 0 * sec) :
    exec (.udpIdleExpiry m) s = .next s := by
  refine if_pos ?_
  exact h.imp_right (.imp_left fun ht => by simpa using ht)

theorem exec_stewardHeartbeat_counts (hy : s.host.ready = true) (hm : s.t0 % ms = 0) (hb : s.host.beatAt ≠ some s.t0) :
    exec .stewardHeartbeat s = .next (setHost s (fun h => { h with heartbeat := h.heartbeat + 1, beatAt := some s.t0 })) := by
  refine congrArg Host.Outcome.next (if_pos ?_)
  simp [hy, hm, hb]

theorem exec_stewardHeartbeat_still (h : s.host.ready = false ∨ s.t0 % ms ≠ 0 ∨ s.host.beatAt = some s.t0) : exec .stewardHeartbeat s = .next s := by
  refine congrArg Host.Outcome.next (if_neg ?_)
  rcases h with h | h | h <;> simp [h]

end Timers

/-! ### HOST_HB_TIMEOUT (R322, R539, R540) -/

theorem stream_streamPause_same (s : State) (k reason : Nat) (h : (stream s k).st = 2) : (stream (streamPause s k reason) k).st = 3 := by
  unfold streamPause
  rw [if_pos h, stream_of_streams (streamPoints_streams ..), stream_setStream_same]

theorem stream_streamPause_other (s : State) {k j : Nat} (reason : Nat) (h : k ≠ j) : stream (streamPause s j reason) k = stream s k := by
  unfold streamPause
  split
  · rw [stream_of_streams (streamPoints_streams ..)]
    exact tget_tmod_other ({} : StreamSt) s.streams (fun d => { d with st := 3, reason := reason }) h
  · rfl

/-- A pause of the streams of a list keeps a paused stream. -/
theorem stream_streamPause_paused (s : State) {k : Nat} (j reason : Nat) (h : (stream s k).st = 3) : (stream (streamPause s j reason) k).st = 3 := by
  by_cases hj : k = j
  · subst hj
    unfold streamPause
    rw [if_neg (by omega)]
    exact h
  · rw [stream_streamPause_other _ _ hj]
    exact h

theorem stream_foldl_streamPause (reason : Nat) {k : Nat} (l : List Nat) : ∀ s : State, (stream s k).st = 3 ∨ ((stream s k).st = 2 ∧ k ∈ l) →
    (stream (l.foldl (fun s j => streamPause s j reason) s) k).st = 3 := by
  induction l with
  | nil => exact fun s h => h.resolve_right fun h => List.not_mem_nil h.2
  | cons j l ih =>
    intro s h
    refine ih _ ?_
    rcases h with h | ⟨h, hk⟩
    · exact .inl (stream_streamPause_paused _ _ _ h)
    · by_cases hj : k = j
      · exact .inl (hj ▸ stream_streamPause_same s j reason (hj ▸ h))
      · refine .inr ⟨?_, (List.mem_cons.mp hk).resolve_left hj⟩
        rw [stream_streamPause_other _ _ hj]
        exact h

theorem foldl_streamPause_host (reason : Nat) (l : List Nat) (s : State) : (l.foldl (fun s j => streamPause s j reason) s).host = s.host := by
  refine foldl_keeps (fun s : State => s.host) (fun s j => ?_) l s
  unfold streamPause
  split
  · exact (updates_host ..).trans rfl
  · rfl

section HostTimeout

variable {s : State}

/-- The state in which the loss of the host is recorded. -/
def hostGone (s : State) : State := note (setHost s (fun h => { h with hostLost := true })) Ev.hostLost 0x48 0 0 []

theorem hostGone_lost (s : State) : (hostGone s).host.hostLost = true := congrArg HostSt.hostLost (note_host ..)

theorem hostGone_streams (s : State) : (hostGone s).streams = s.streams := (note_streams ..).trans (setHost_streams ..)

theorem exec_hostHbTimeout_lost (hy : s.host.ready = true) (hd : param s pHostHbTimeout 0 ≠ 0) (hl : s.host.hostLost = false)
    (hc : s.host.hbChanged + param s pHostHbTimeout 0 * ms ≤ s.t0) (hh : s.host.hbHoldUntil ≤ s.t0) :
    exec .hostHbTimeout s = .next (if param (hostGone s) pHostHbAction 0 = 1 then (tkeys (hostGone s).streams).foldl (fun s k => streamPause s k 1) (hostGone s) else hostGone s) := by
  refine if_neg ?_
  rintro (h | h | h | h | h)
  · simp [hy] at h
  · exact hd h
  · simp [hl] at h
  · exact absurd hc (Nat.not_le.mpr h)
  · exact absurd hh (Nat.not_le.mpr h)

theorem exec_hostHbTimeout_present (h : param s pHostHbTimeout 0 = 0 ∨ s.host.hostLost = true ∨ s.t0 < s.host.hbChanged + param s pHostHbTimeout 0 * ms ∨
    s.t0 < s.host.hbHoldUntil) : exec .hostHbTimeout s = .next s := if_pos (.inr h)

end HostTimeout

/-- Settles O46: each operation by the branch its case names; the frame in the ring by `ringRead_ringWrite`, the pauses by induction over the streams. -/
theorem responsesDeadlinesAndHeartbeats : Obligations.ResponsesDeadlinesAndHeartbeats := by
  unfold Obligations.ResponsesDeadlinesAndHeartbeats
  intro s
  refine ⟨fun m => ⟨exec_responseWrite_none, fun p rest hr hy => ⟨fun src hu => ?sent, exec_responseWrite_stall hr hy, fun hu hn => ?written⟩,
    exec_mbIntHoldoff_none, fun e l hu => ⟨fun h => ?early, fun h => ?due⟩, exec_commandDeadline_none, fun c => exec_commandDeadline_late,
    exec_udpIdleExpiry_ends, exec_udpIdleExpiry_stays⟩, exec_stewardHeartbeat_counts, exec_stewardHeartbeat_still, fun hy hd hl hc hh => ?lost,
    exec_hostHbTimeout_present⟩
  case sent =>
    obtain ⟨h1, h2, h3⟩ := mbx_respSent s m.val p rest src
    exact ⟨_, _, exec_responseWrite_udp hr hy hu, h1, h2, h3, rfl, rfl, rfl, rfl⟩
  case written =>
    obtain ⟨h1, h2, h3, h4, h5⟩ := mbx_respWritten s m.val p rest
    exact ⟨_, exec_responseWrite_ring hr hy hu hn, h1, h2, h3, h4, h5, ringRead_respWritten rest hn⟩
  case early => exact (exec_mbIntHoldoff_oldest hu).trans (if_pos h)
  case due => exact (exec_mbIntHoldoff_oldest hu).trans (if_neg (Nat.not_lt.mpr h))
  case lost =>
    have hp : param (hostGone s) pHostHbAction 0 = param s pHostHbAction 0 := (note_param ..).trans (setHost_param ..)
    refine ⟨_, exec_hostHbTimeout_lost hy hd hl hc hh, ?_, fun ha => ?_, fun ha k hk h2 => ?_⟩
    · split
      · rw [foldl_streamPause_host, hostGone_lost]
      · exact hostGone_lost s
    · rw [if_neg (hp ▸ ha), hostGone_streams]
    · rw [if_pos (hp.trans ha), hostGone_streams]
      exact stream_foldl_streamPause 1 _ _ (.inr ⟨by rw [stream_of_streams (hostGone_streams s), h2], hk⟩)

end Sys2Proof.Proofs
end

section
/-! Every mailbox command passes the same checks and is answered in the same way (R533, R534, R542, R543). -/

namespace Sys2Proof.Proofs

open Sys2Proof.Machine Sys2Proof.Laws Sys2Proof.Safety

/-! ### The shared checks (R534, R542, R543) -/

/-- A command is its own work behind the shared checks. -/
def IsChecked (s : State) (r : Req) (op : Nat) (isC : Bool) (t : State) : Prop :=
  ∃ modes len ok run, t = command s r op isC modes len ok run

theorem exec_of_cmdOf {c : Instr} {r : Req} {op : Nat} {isC : Bool} (h : cmdOf c = some (r, op, isC)) (s : State) :
    ∃ t, exec c s = .next t ∧ IsChecked s r op isC t := by
  unfold cmdOf at h
  split at h <;> cases h
  all_goals exact ⟨_, rfl, _, _, _, _, rfl⟩

section Checks

variable {s : State} {r : Req} {op : Nat} {isC : Bool} {t : State} (hc : IsChecked s r op isC t)
include hc

theorem IsChecked.waits (hb : mayBegin s r op = false) : t = s := by
  obtain ⟨modes, len, ok, run, rfl⟩ := hc
  exact command_waits hb ..

theorem IsChecked.late (hb : mayBegin s r op = true) (ht : tooLate s (tagOf s r op) = true) : t = finish (begun s r op) r op isC 0x0508 := by
  obtain ⟨modes, len, ok, run, rfl⟩ := hc
  exact command_late hb ht ..

/-- A change is refused by its mode after its payload has been looked at. -/
theorem IsChecked.standby (hb : mayBegin s r op = true) (ht : tooLate s (tagOf s r op) = false) (hC : isC = true) (hm : s.mode.cur = .standby) (ho : op ≠ 0x0003) :
    t = finish (begun s r op) r op isC 0x0102 ∨ t = finish (begun s r op) r op isC 0x010E ∨ t = finish (begun s r op) r op isC 0x0209 := by
  obtain ⟨modes, len, ok, run, rfl⟩ := hc
  by_cases hl : r.payload.length < len
  · exact .inl (command_short hb ht isC modes hl ok run)
  · cases ok
    · exact .inr (.inl (by simp [command, hb, ht, hl]))
    · exact .inr (.inr (by simp [command, hb, ht, hl, hC, hm, ho]))

theorem IsChecked.resume (hb : mayBegin s r op = true) (ht : tooLate s (tagOf s r op) = false) (hC : isC = true) (hm : s.mode.cur = .resume) :
    t = finish (begun s r op) r op isC 0x0102 ∨ t = finish (begun s r op) r op isC 0x010E ∨ t = finish (begun s r op) r op isC 0x0201 := by
  obtain ⟨modes, len, ok, run, rfl⟩ := hc
  by_cases hl : r.payload.length < len
  · exact .inl (command_short hb ht isC modes hl ok run)
  · cases ok
    · exact .inr (.inl (by simp [command, hb, ht, hl]))
    · exact .inr (.inr (by simp [command, hb, ht, hl, hC, hm]))

end Checks

/-! ### The frames of a response (R533) -/

theorem flatten_chunks {α : Type} (n : Nat) : ∀ (k : Nat) (l : List α), (chunks n k l).flatten = l
  | 0, l => by simp [chunks]
  | k + 1, l => by
    unfold chunks
    split
    · simp
    · rw [List.flatten_cons, flatten_chunks n k, List.take_append_drop]

theorem chunks_ne_nil {α : Type} (n k : Nat) (l : List α) : chunks n k l ≠ [] := by
  cases k with
  | zero => exact List.cons_ne_nil _ _
  | succ k =>
    unfold chunks
    split <;> exact List.cons_ne_nil _ _

/-- With fuel for the list every piece has at most `n` elements. -/
theorem length_of_mem_chunks {α : Type} {n : Nat} (hn : 0 < n) : ∀ {k : Nat} {l : List α}, l.length ≤ k → ∀ c ∈ chunks n k l, c.length ≤ n
  | 0, l, hl, c, hc => by
    rw [List.mem_singleton.mp hc]
    omega
  | k + 1, l, hl, c, hc => by
    unfold chunks at hc
    split at hc
    · next h => rwa [List.mem_singleton.mp hc]
    · next h =>
      rcases List.mem_cons.mp hc with rfl | hc
      · exact List.length_take_le ..
      · refine length_of_mem_chunks hn ?_ c hc
        rw [List.length_drop]
        omega

/-- The frames of pieces of a payload: all of the command and its status, together the payload. -/
theorem of_mem_respFrames {t : CmdTag} {st fl tm arg : Nat} : ∀ {cs : List (List Byte)}, ∀ f ∈ respFrames t st fl tm arg cs, f.tag = t.tag ∧ f.status = st ∧ f.payload ∈ cs
  | [], f, hf => absurd hf List.not_mem_nil
  | c :: cs, f, hf => by
    rcases List.mem_cons.mp hf with rfl | hf
    · exact ⟨rfl, rfl, List.mem_cons_self⟩
    · obtain ⟨h1, h2, h3⟩ := of_mem_respFrames f hf
      exact ⟨h1, h2, List.mem_cons_of_mem _ h3⟩

theorem flatMap_payload_respFrames (t : CmdTag) (st fl tm arg : Nat) : ∀ cs : List (List Byte), (respFrames t st fl tm arg cs).flatMap (·.payload) = cs.flatten
  | [] => rfl
  | c :: cs => by
    rw [List.flatten_cons, ← flatMap_payload_respFrames t st fl tm arg cs]
    rfl

/-- The last frame has the flags given, those before it MORE. -/
theorem respFrames_flags (t : CmdTag) (st fl tm arg : Nat) : ∀ {cs : List (List Byte)}, cs ≠ [] →
    ∃ fs p, respFrames t st fl tm arg cs = fs ++ [p] ∧ p.flags = fl ∧ ∀ f ∈ fs, f.flags = 4
  | [], h => absurd rfl h
  | [c], _ => ⟨[], _, rfl, rfl, by simp⟩
  | c :: d :: cs, _ => by
    obtain ⟨fs, p, h1, h2, h3⟩ := respFrames_flags t st fl tm arg (List.cons_ne_nil d cs)
    refine ⟨_ :: fs, p, congrArg (List.cons _) h1, h2, fun f hf => ?_⟩
    rcases List.mem_cons.mp hf with rfl | hf
    · rfl
    · exact h3 f hf

theorem tagOf_tag (s : State) (r : Req) (op : Nat) : (tagOf s r op).tag = r.tag.toNat := by
  unfold tagOf
  cases h : (mbx s r.mb).tags.find? (fun t => t.tag == r.tag.toNat) with
  | none => rfl
  | some t => simpa using List.find?_some h

theorem tagOf_congr {s t : State} (hh : t.host = s.host) (ht : t.t0 = s.t0) (r : Req) (op : Nat) : tagOf t r op = tagOf s r op := by
  simp only [tagOf, mbx, hh, ht]

/-- The bytes that a response frame can hold on a command's transport (R530, R522). -/
def respLimit (t : CmdTag) : Nat := if t.transport = 2 then 1440 else 4064

/-- The frames that end a command with a status. -/
def finalFrames (s : State) (r : Req) (op st : Nat) (pl : List Byte) : List Resp :=
  let t := tagOf s r op
  respFrames t st 1 (min ((s.t0 - t.accepted) / us) (2 ^ 32 - 1)) (t.accepted / us % 2 ^ 32) (chunks (respLimit t) pl.length pl)

section Final

variable (s : State) (r : Req) (op st : Nat) (pl : List Byte)

theorem resps_respond : (mbx (respond s r op st 1 pl) r.mb).resps = (mbx s r.mb).resps ++ finalFrames s r op st pl := by
  simp [respond, mbx, setMbx, finalFrames, respLimit]

theorem tags_respond : (mbx (respond s r op st 1 pl) r.mb).tags = (mbx s r.mb).tags.filter (fun x => x.tag != r.tag.toNat) := by
  simp [respond, mbx, setMbx]

theorem holds_respond : (respond s r op st 1 pl).host.holds = s.host.holds.filter (fun h => !(h.mb == r.mb.val && h.tag == r.tag.toNat)) := rfl

/-- A command's answer is its response behind the record of a change. -/
theorem finish_eq_respond (isC : Bool) : ∃ u, finish s r op isC st pl = respond u r op st 1 pl ∧ u.host = s.host ∧ u.t0 = s.t0 := by
  cases isC
  · exact ⟨s, rfl, rfl, rfl⟩
  · exact ⟨_, rfl, (hostAction_host ..).trans (modeRefused_host ..), (hostAction_t0 ..).trans (modeRefused_t0 ..)⟩

/-- The frames of a final response: FINAL on the last alone, each within the limit. -/
theorem finalFrames_spec : ∃ fs p, finalFrames s r op st pl = fs ++ [p] ∧ p.flags = 1 ∧ (∀ f ∈ fs, f.flags = 4) ∧ (fs ++ [p]).flatMap (·.payload) = pl ∧
    ∀ f ∈ fs ++ [p], f.tag = r.tag.toNat ∧ f.status = st ∧ f.payload.length ≤ respLimit (tagOf s r op) := by
  have hlim : 0 < respLimit (tagOf s r op) := by
    unfold respLimit
    split <;> omega
  obtain ⟨fs, p, he, hp, hfs⟩ := respFrames_flags (tagOf s r op) st 1 (min ((s.t0 - (tagOf s r op).accepted) / us) (2 ^ 32 - 1))
    ((tagOf s r op).accepted / us % 2 ^ 32) (chunks_ne_nil (respLimit (tagOf s r op)) pl.length pl)
  refine ⟨fs, p, he, hp, hfs, ?_, fun f hf => ?_⟩
  · rw [← he, flatMap_payload_respFrames, flatten_chunks]
  · rw [← he] at hf
    obtain ⟨h1, h2, h3⟩ := of_mem_respFrames f hf
    exact ⟨h1.trans (tagOf_tag ..), h2, length_of_mem_chunks hlim le_rfl _ h3⟩

end Final

/-- Settles O56: every mailbox command is its work behind `command`, and every completion is `respond` with FINAL. -/
theorem mailboxCommandsAreCheckedAndAnswered : Obligations.MailboxCommandsAreCheckedAndAnswered := by
  unfold Obligations.MailboxCommandsAreCheckedAndAnswered
  refine ⟨fun c s r op isC h => ?checked, fun s r op isC st pl => ?answered⟩
  case checked =>
    obtain ⟨t, ht, hc⟩ := exec_of_cmdOf h s
    rw [ht]
    simp only [Host.Outcome.next.injEq]
    exact ⟨hc.waits, hc.late, hc.standby, hc.resume⟩
  case answered =>
    obtain ⟨u, hu, hh, h0⟩ := finish_eq_respond s r op st pl isC
    obtain ⟨fs, p, he, hspec⟩ := finalFrames_spec u r op st pl
    have hm : mbx u r.mb = mbx s r.mb := by rw [mbx, hh, mbx]
    rw [tagOf_congr hh h0] at hspec
    dsimp only
    rw [hu]
    refine ⟨fun x hx => ?_, fun h hx => ?_, fs, p, ?_, hspec⟩
    · rw [tags_respond] at hx
      simpa using (List.mem_filter.mp hx).2
    · rw [holds_respond] at hx
      simpa [Decidable.imp_iff_not_or] using (List.mem_filter.mp hx).2
    · rw [resps_respond, he, hm, List.append_assoc]

end Sys2Proof.Proofs
end

section
/-! Frames from the rings, from SPI and from UDP (R521, R522, R527, R531, R533, R535, R536). -/

namespace Sys2Proof.Proofs

open Sys2Proof.Machine Sys2Proof.Laws Sys2Proof.Safety

/-! ### The mailboxes in turn, and those that cannot take a frame (R533) -/

/-- The mailboxes with a waiting frame, from the turn on. -/
def takeWaits (s : State) : List Nat :=
  ((List.range 8).map (fun k => (s.host.turn + k) % 8)).filter (fun m => let x := mbx s m; !x.error && decide (0 < fill x.cmdTail x.cmdHead))

/-- A mailbox that cannot take a frame is blocked. -/
def blockFull (s : State) (m : Nat) : State := if mayTake (mbx s m) then s else setMbx s m (fun x => { x with blocked := true })

/-- The list of mailboxes in turn begins with the first one that has a waiting frame. -/
theorem takeWaits_head {s : State} {m : Nat} (hm : m < 8) (he : (mbx s m).error = false) (hf : 0 < fill (mbx s m).cmdTail (mbx s m).cmdHead)
    (hn : ∀ k, k < (m + 8 - s.host.turn % 8) % 8 → (mbx s ((s.host.turn + k) % 8)).error = true ∨
      fill (mbx s ((s.host.turn + k) % 8)).cmdTail (mbx s ((s.host.turn + k) % 8)).cmdHead = 0) :
    ∃ l, takeWaits s = m :: l := by
  generalize hk : (m + 8 - s.host.turn % 8) % 8 = k at hn
  have hr : List.range 8 = List.range k ++ k :: List.range' (k + 1) (7 - k) := by
    have hk8 : k < 8 := by omega
    interval_cases k <;> rfl
  have hmk : (s.host.turn + k) % 8 = m := by omega
  unfold takeWaits
  rw [hr, List.map_append, List.filter_append, List.map_cons, hmk, List.filter_cons_of_pos (by simp [he, hf]), List.filter_eq_nil_iff.mpr]
  · exact ⟨_, rfl⟩
  · intro j hj
    obtain ⟨i, hi, rfl⟩ := List.mem_map.mp hj
    rcases hn i (List.mem_range.mp hi) with h | h <;> simp [h]

theorem mbx_blockFull {s : State} {m : Nat} (hm : mayTake (mbx s m) = true) (j : Nat) : mbx (blockFull s j) m = mbx s m := by
  unfold blockFull
  by_cases hj : m = j
  · subst hj
    rw [if_pos hm]
  · split
    · rfl
    · exact tget_tmod_other ({} : MbxSt) s.host.mbx (fun x => { x with blocked := true }) hj

/-- What the mailboxes that are full leave of one that is not. -/
theorem foldl_blockFull {m : Nat} (l : List Nat) : ∀ {s : State}, mayTake (mbx s m) = true →
    mbx (l.foldl blockFull s) m = mbx s m ∧ (l.foldl blockFull s).host.rings = s.host.rings ∧ (l.foldl blockFull s).t0 = s.t0 := by
  induction l with
  | nil => exact fun _ => ⟨rfl, rfl, rfl⟩
  | cons j l ih =>
    intro s hm
    have hj := mbx_blockFull hm j
    obtain ⟨h1, h2, h3⟩ := ih (hj.symm ▸ hm)
    refine ⟨h1.trans hj, h2.trans ?_, h3.trans ?_⟩ <;> · unfold blockFull; split <;> rfl

/-! ### The frame of the mailbox in turn (R531) -/

/-- Mailbox `m` has the turn: the next one is after it, and it is no longer blocked. -/
def turnTaken (s : State) (m : Nat) : State :=
  let s1 := setHost s (fun h => { h with turn := (m + 1) % 8 })
  if (mbx s m).blocked then irq (setMbx s1 m (fun x => { x with blocked := false })) (8 + m) else s1

theorem irq_turn (s : State) (b : Nat) : (irq s b).host.turn = s.host.turn := by
  simp only [irq]
  split <;> rfl

theorem turnTaken_spec (s : State) (m : Nat) : (turnTaken s m).host.turn = (m + 1) % 8 ∧ (turnTaken s m).host.rings = s.host.rings ∧ (turnTaken s m).t0 = s.t0 ∧
    mbx (turnTaken s m) m = { mbx s m with blocked := false } := by
  unfold turnTaken
  dsimp only
  split
  · refine ⟨irq_turn .., irq_rings .., irq_t0 .., ?_⟩
    rw [mbx_irq, mbx_setMbx_same]
    rfl
  · next hb => exact ⟨rfl, rfl, rfl, by rw [← Bool.eq_false_of_not_eq_true hb]; rfl⟩

/-- A frame that cannot be read stops its mailbox. -/
def stopFrame (s : State) (m st : Nat) (hd : List Byte) : State := setMbx (refuseFrame s m none hd st) m (fun x => { x with error := true })

/-- A frame that stands whole is taken in, and CMD_HEAD moves past it. -/
def passFrame (s : State) (m : Nat) (head : Half) (via len : Nat) : State :=
  setMbx (takeFrame s m via 0 (ringRead s (m * 0x4000) head (32 + len))) m (fun x => { x with cmdHead := x.cmdHead + bv 16 (units len) })

/-- Mailbox `m` is served: its frame stops it, or passes. -/
def serveFrame (s : State) (m : Nat) : State :=
  let x := mbx s m
  let u := turnTaken s m
  let hd := ringRead u (m * 0x4000) x.cmdHead 32
  if fld hd 0 2 ≠ 0x424D ∨ fld hd 2 1 ≠ 1 then stopFrame u m 0x010B hd
  else if 4064 < fld hd 8 2 ∨ fill x.cmdTail x.cmdHead < units (fld hd 8 2) then stopFrame u m 0x0102 hd
  else passFrame u m x.cmdHead (if x.via = 1 then 1 else 0) (fld hd 8 2)

theorem exec_frameTakeIn_idle {s : State} (h : s.host.ready = false ∨ s.rst.stage = 4) : exec .frameTakeIn s = .next s := if_pos (h.imp_left (by simp [·]))

theorem exec_frameTakeIn {s : State} {m : Nat} {l : List Nat} (hr : s.host.ready = true) (hs : s.rst.stage ≠ 4) (hw : takeWaits s = m :: l)
    (hm : mayTake (mbx s m) = true) : exec .frameTakeIn s = .next (serveFrame ((takeWaits s).foldl blockFull s) m) := by
  have hf : (takeWaits s).find? (fun m => mayTake (mbx ((takeWaits s).foldl blockFull s) m)) = some m := by
    have hmt : mayTake (mbx ((m :: l).foldl blockFull s) m) = true := by rw [(foldl_blockFull (m :: l) hm).1, hm]
    rw [hw]
    exact List.find?_cons_of_pos (p := fun k => mayTake (mbx ((m :: l).foldl blockFull s) k)) hmt
  show execFrameTakeIn s = _
  unfold execFrameTakeIn
  rw [if_neg (by simp [hr, hs])]
  show (match (takeWaits s).find? (fun m => mayTake (mbx ((takeWaits s).foldl blockFull s) m)) with | none => _ | some m => _) = _
  rw [hf]
  dsimp only [serveFrame]
  rw [apply_ite Host.Outcome.next, apply_ite Host.Outcome.next]
  rfl

/-! ### The take-in of a frame that stands whole (R531, R533, R535) -/

theorem refuseFrame_spec (s : State) (m : Nat) (udp : Option Nat) (fr : List Byte) (st : Nat) :
    (mbx (refuseFrame s m udp fr st) m).tags = (mbx s m).tags ∧ (mbx (refuseFrame s m udp fr st) m).cmdHead = (mbx s m).cmdHead ∧
    (mbx (refuseFrame s m udp fr st) m).error = (mbx s m).error ∧ (mbx (refuseFrame s m udp fr st) m).blocked = (mbx s m).blocked ∧
    ∃ p, (mbx (refuseFrame s m udp fr st) m).resps = (mbx s m).resps ++ [p] ∧ p.status = st ∧ p.flags = 3 ∧ p.tag = fld fr 6 1 := by
  have hc : ∀ x : MbxSt, (countRefused x st).tags = x.tags ∧ (countRefused x st).cmdHead = x.cmdHead ∧ (countRefused x st).error = x.error ∧
      (countRefused x st).blocked = x.blocked := by
    intro x
    unfold countRefused
    split_ifs <;> exact ⟨rfl, rfl, rfl, rfl⟩
  obtain ⟨h1, h2, h3, h4⟩ := hc (mbx s m)
  rw [refuseFrame, mbx_setMbx_same]
  exact ⟨h1, h2, h3, h4, _, rfl, rfl, rfl, rfl⟩

/-- A frame's SEQ and, with OPEN, its claim are taken once it is past the mailbox's own checks. -/
def admitFrame (s : State) (m tr src : Nat) (fr : List Byte) (st : Nat) : State :=
  let seq := fld fr 0x10 4
  let past := st = 0 ∨ st = 0x0507 ∨ st = 0x010D
  let s := if past ∧ (fld fr 7 1).testBit 0 then setMbx s m (fun x => claim x tr src seq) else s
  if past ∨ st = 0x010C then setMbx s m (fun x => { x with cmdSeq := bv 32 (seq + 1) }) else s

theorem admitFrame_keeps (s : State) (m tr src : Nat) (fr : List Byte) (st : Nat) :
    (admitFrame s m tr src fr st).t0 = s.t0 ∧ (admitFrame s m tr src fr st).host.turn = s.host.turn ∧
    (mbx (admitFrame s m tr src fr st) m).tags = (mbx s m).tags ∧ (mbx (admitFrame s m tr src fr st) m).cmdHead = (mbx s m).cmdHead ∧
    (mbx (admitFrame s m tr src fr st) m).error = (mbx s m).error ∧ (mbx (admitFrame s m tr src fr st) m).blocked = (mbx s m).blocked ∧
    (mbx (admitFrame s m tr src fr st) m).resps = (mbx s m).resps := by
  unfold admitFrame
  dsimp only
  split_ifs <;> simp [mbx, setMbx, claim]

/-- The tag of an accepted frame. -/
def frameTag (s : State) (via src : Nat) (fr : List Byte) : CmdTag :=
  { tag := fld fr 6 1, opcode := fld fr 4 2, target := bv 32 (fld fr 0x0C 4), accepted := s.t0, deadlineUs := fld fr 0x14 4
    barrier := (fld fr 7 1).testBit 1, transport := via, src := src, seq := fld fr 0x10 4, payload := (fr.drop 32).take (fld fr 8 2) }

/-- The transport of a frame as ownership counts it: the window, or UDP. -/
def transportOf (via : Nat) : Nat := if via = 2 then 2 else 1

section TakeFrame

variable {s : State} {m via src : Nat} {fr : List Byte}

theorem takeFrame_refused (h : frameStatus s m (transportOf via) src fr ≠ 0) : takeFrame s m via src fr =
    refuseFrame (admitFrame s m (transportOf via) src fr (frameStatus s m (transportOf via) src fr)) m (if via = 2 then some src else none) fr
      (frameStatus s m (transportOf via) src fr) := if_pos h

theorem takeFrame_accepted (h : frameStatus s m (transportOf via) src fr = 0) : takeFrame s m via src fr =
    setMbx (admitFrame s m (transportOf via) src fr 0) m (fun x => { x with
      tags := x.tags ++ [frameTag (admitFrame s m (transportOf via) src fr 0) via src fr], lastCrc := bv 32 (fld fr 0x1C 4)
      acc := if via = 2 then (x.acc ++ [fld fr 0x10 4]).drop (x.acc.length + 1 - 32) else x.acc }) := by
  rw [← h]
  exact if_neg (not_not_intro h)

end TakeFrame

/-! ### What an accepted frame leaves (R533, R535) -/

/-- The checks of a frame read its mailbox's SEQ, ownership and tags alone. -/
theorem frameStatus_congr {s t : State} {m : Nat} (hc : (mbx t m).cmdSeq = (mbx s m).cmdSeq) (ho : (mbx t m).owner = (mbx s m).owner)
    (hu : (mbx t m).udpSrc = (mbx s m).udpSrc) (ht : (mbx t m).tags = (mbx s m).tags) (tr src : Nat) (fr : List Byte) :
    frameStatus t m tr src fr = frameStatus s m tr src fr := by
  simp only [frameStatus, ownerOk, hc, ho, hu, ht] <;> rfl

section Accepted

variable {s : State} {m via tr src : Nat} {fr : List Byte}

theorem ownerOk_of_accepted (h : frameStatus s m tr src fr = 0) : ownerOk (mbx s m) tr src ((fld fr 7 1).testBit 0) = true := by
  unfold frameStatus at h
  dsimp only at h
  split_ifs at h with h1 h2 h3 h4
  · simpa using h4

theorem admitFrame_cmdSeq : (mbx (admitFrame s m tr src fr 0) m).cmdSeq = bv 32 (fld fr 0x10 4 + 1) := by
  unfold admitFrame
  dsimp only
  rw [if_pos (.inl (.inl rfl)), mbx_setMbx_same]

/-- A mailbox that an accepted frame opens is its source's; one that is open was. -/
theorem admitFrame_owner (h : frameStatus s m 2 src fr = 0) : (mbx (admitFrame s m 2 src fr 0) m).owner = 2 ∧ (mbx (admitFrame s m 2 src fr 0) m).udpSrc = src := by
  have hok := ownerOk_of_accepted h
  unfold admitFrame
  dsimp only
  rw [if_pos (.inl (.inl rfl) : (_ ∨ _) ∨ _), mbx_setMbx_same]
  by_cases hopen : (fld fr 7 1).testBit 0 = true
  · rw [if_pos ⟨.inl rfl, hopen⟩, mbx_setMbx_same]
    exact ⟨rfl, rfl⟩
  · rw [if_neg (fun hc => hopen hc.2)]
    rw [Bool.eq_false_of_not_eq_true hopen] at hok
    simpa [ownerOk] using hok

theorem takeFrame_accepted_spec (h : frameStatus s m (transportOf via) src fr = 0) :
    (takeFrame s m via src fr).host.turn = s.host.turn ∧ (mbx (takeFrame s m via src fr) m).tags = (mbx s m).tags ++ [frameTag s via src fr] ∧
    (mbx (takeFrame s m via src fr) m).cmdHead = (mbx s m).cmdHead ∧ (mbx (takeFrame s m via src fr) m).error = (mbx s m).error ∧
    (mbx (takeFrame s m via src fr) m).blocked = (mbx s m).blocked ∧ (mbx (takeFrame s m via src fr) m).resps = (mbx s m).resps ∧
    (mbx (takeFrame s m via src fr) m).cmdSeq = bv 32 (fld fr 0x10 4 + 1) := by
  obtain ⟨h0, hturn, htags, hhead, herr, hbl, hresps⟩ := admitFrame_keeps s m (transportOf via) src fr 0
  have hft : frameTag (admitFrame s m (transportOf via) src fr 0) via src fr = frameTag s via src fr := by rw [frameTag, h0, frameTag]
  rw [takeFrame_accepted h, hft, mbx_setMbx_same]
  exact ⟨hturn, congrArg (· ++ _) htags, hhead, herr, hbl, hresps, admitFrame_cmdSeq⟩

theorem takeFrame_refused_spec (h : frameStatus s m (transportOf via) src fr ≠ 0) :
    (takeFrame s m via src fr).host.turn = s.host.turn ∧ (mbx (takeFrame s m via src fr) m).tags = (mbx s m).tags ∧
    (mbx (takeFrame s m via src fr) m).cmdHead = (mbx s m).cmdHead ∧ (mbx (takeFrame s m via src fr) m).error = (mbx s m).error ∧
    (mbx (takeFrame s m via src fr) m).blocked = (mbx s m).blocked ∧
    ∃ p, (mbx (takeFrame s m via src fr) m).resps = (mbx s m).resps ++ [p] ∧ p.status = frameStatus s m (transportOf via) src fr ∧ p.flags = 3 ∧ p.tag = fld fr 6 1 := by
  obtain ⟨-, hturn, htags, hhead, herr, hbl, hresps⟩ := admitFrame_keeps s m (transportOf via) src fr (frameStatus s m (transportOf via) src fr)
  obtain ⟨h1, h2, h3, h4, p, h5, hp⟩ := refuseFrame_spec (admitFrame s m (transportOf via) src fr (frameStatus s m (transportOf via) src fr)) m
    (if via = 2 then some src else none) fr (frameStatus s m (transportOf via) src fr)
  rw [takeFrame_refused h]
  exact ⟨hturn, h1.trans htags, h2.trans hhead, h3.trans herr, h4.trans hbl, p, h5.trans (congrArg (· ++ _) hresps), hp⟩

end Accepted

/-! ### The mailbox served (R531) -/

theorem stopFrame_spec (s : State) (m st : Nat) (hd : List Byte) : (stopFrame s m st hd).host.turn = s.host.turn ∧ (mbx (stopFrame s m st hd) m).error = true ∧
    (mbx (stopFrame s m st hd) m).blocked = (mbx s m).blocked ∧ (mbx (stopFrame s m st hd) m).tags = (mbx s m).tags ∧
    (mbx (stopFrame s m st hd) m).cmdHead = (mbx s m).cmdHead ∧ ∃ p, (mbx (stopFrame s m st hd) m).resps = (mbx s m).resps ++ [p] ∧ p.status = st ∧ p.flags = 3 := by
  obtain ⟨h1, h2, -, h4, p, h5, h6, h7, -⟩ := refuseFrame_spec s m none hd st
  rw [stopFrame, mbx_setMbx_same]
  exact ⟨rfl, rfl, h4, h1, h2, p, h5, h6, h7⟩

/-- `w` is `s` when mailbox `m` has the turn. -/
structure Turned (s : State) (m : Nat) (w : State) : Prop where
  turn : w.host.turn = (m + 1) % 8
  rings : w.host.rings = s.host.rings
  t0 : w.t0 = s.t0
  box : mbx w m = { mbx s m with blocked := false }

/-- The window transport of a mailbox's last doorbell: PCIe or SPI. -/
def ringVia (x : MbxSt) : Nat := if x.via = 1 then 1 else 0

theorem transportOf_ringVia (x : MbxSt) : transportOf (ringVia x) = 1 := by
  unfold ringVia
  split <;> rfl

/-- What serving mailbox `m` does, from its frame as it stands in the ring. -/
def servedAs (s : State) (m : Nat) (w : State) : State :=
  let x := mbx s m
  let hd := ringRead s (m * 0x4000) x.cmdHead 32
  if fld hd 0 2 ≠ 0x424D ∨ fld hd 2 1 ≠ 1 then stopFrame w m 0x010B hd
  else if 4064 < fld hd 8 2 ∨ fill x.cmdTail x.cmdHead < units (fld hd 8 2) then stopFrame w m 0x0102 hd
  else passFrame w m x.cmdHead (ringVia x) (fld hd 8 2)

/-- The mailboxes that are full leave the one served alone. -/
theorem exec_frameTakeIn_serves {s : State} {m : Nat} {l : List Nat} (hr : s.host.ready = true) (hs : s.rst.stage ≠ 4) (hw : takeWaits s = m :: l)
    (hm : mayTake (mbx s m) = true) : ∃ w, Turned s m w ∧ exec .frameTakeIn s = .next (servedAs s m w) := by
  obtain ⟨hx, hring, h0⟩ := foldl_blockFull (takeWaits s) hm
  obtain ⟨h1, h2, h3, h4⟩ := turnTaken_spec ((takeWaits s).foldl blockFull s) m
  refine ⟨_, ⟨h1, h2.trans hring, h3.trans h0, h4.trans (by rw [hx])⟩, (exec_frameTakeIn hr hs hw hm).trans ?_⟩
  simp only [serveFrame, servedAs, ringVia, hx, ringRead_of_rings (h2.trans hring)]

section Served

variable {s w : State} {m : Nat} (hw : Turned s m w)
include hw

theorem Turned.stopped (st : Nat) (hd : List Byte) : (stopFrame w m st hd).host.turn = (m + 1) % 8 ∧ (mbx (stopFrame w m st hd) m).blocked = false ∧
    (mbx (stopFrame w m st hd) m).error = true ∧ (mbx (stopFrame w m st hd) m).tags = (mbx s m).tags ∧
    (mbx (stopFrame w m st hd) m).cmdHead = (mbx s m).cmdHead ∧ ∃ p, (mbx (stopFrame w m st hd) m).resps = (mbx s m).resps ++ [p] ∧ p.status = st ∧ p.flags = 3 := by
  obtain ⟨h1, h2, h3, h4, h5, h6⟩ := stopFrame_spec w m st hd
  rw [hw.box] at h3 h4 h5 h6
  exact ⟨h1.trans hw.turn, h3, h2, h4, h5, h6⟩

theorem Turned.status (tr src : Nat) (fr : List Byte) : frameStatus w m tr src fr = frameStatus s m tr src fr := by
  apply frameStatus_congr <;> rw [hw.box]

theorem Turned.ringRead (base : Nat) (idx : Half) (n : Nat) : ringRead w base idx n = Machine.ringRead s base idx n := ringRead_of_rings hw.rings ..

variable {head : Half} {via len : Nat} (hv : transportOf via = 1)
include hv

theorem Turned.refused (h : frameStatus s m 1 0 (Machine.ringRead s (m * 0x4000) head (32 + len)) ≠ 0) :
    (passFrame w m head via len).host.turn = (m + 1) % 8 ∧ (mbx (passFrame w m head via len) m).blocked = false ∧
    (mbx (passFrame w m head via len) m).cmdHead = (mbx s m).cmdHead + bv 16 (units len) ∧ (mbx (passFrame w m head via len) m).error = (mbx s m).error ∧
    (mbx (passFrame w m head via len) m).tags = (mbx s m).tags ∧ ∃ p, (mbx (passFrame w m head via len) m).resps = (mbx s m).resps ++ [p] ∧
      p.status = frameStatus s m 1 0 (Machine.ringRead s (m * 0x4000) head (32 + len)) ∧ p.flags = 3 ∧
      p.tag = fld (Machine.ringRead s (m * 0x4000) head (32 + len)) 6 1 := by
  rw [passFrame, hw.ringRead, mbx_setMbx_same]
  generalize Machine.ringRead s (m * 0x4000) head (32 + len) = fr at h ⊢
  have hst : frameStatus w m (transportOf via) 0 fr = frameStatus s m 1 0 fr := by rw [hv, hw.status]
  obtain ⟨h1, h2, h3, h4, h5, h6⟩ := takeFrame_refused_spec (hst ▸ h)
  rw [hst] at h6
  rw [hw.box] at h2 h3 h4 h5 h6
  exact ⟨h1.trans hw.turn, h5, congrArg (· + _) h3, h4, h2, h6⟩

theorem Turned.accepted (h : frameStatus s m 1 0 (Machine.ringRead s (m * 0x4000) head (32 + len)) = 0) :
    (passFrame w m head via len).host.turn = (m + 1) % 8 ∧ (mbx (passFrame w m head via len) m).blocked = false ∧
    (mbx (passFrame w m head via len) m).cmdHead = (mbx s m).cmdHead + bv 16 (units len) ∧ (mbx (passFrame w m head via len) m).error = (mbx s m).error ∧
    (mbx (passFrame w m head via len) m).resps = (mbx s m).resps ∧
    (mbx (passFrame w m head via len) m).cmdSeq = bv 32 (fld (Machine.ringRead s (m * 0x4000) head (32 + len)) 0x10 4 + 1) ∧
    (mbx (passFrame w m head via len) m).tags = (mbx s m).tags ++ [frameTag s via 0 (Machine.ringRead s (m * 0x4000) head (32 + len))] := by
  rw [passFrame, hw.ringRead, mbx_setMbx_same]
  generalize Machine.ringRead s (m * 0x4000) head (32 + len) = fr at h ⊢
  obtain ⟨h1, h2, h3, h4, h5, h6, h7⟩ := takeFrame_accepted_spec ((congrArg (frameStatus w m · 0 fr) hv).trans ((hw.status ..).trans h))
  have hft : frameTag w via 0 fr = frameTag s via 0 fr := by rw [frameTag, hw.t0, frameTag]
  rw [hft] at h2
  rw [hw.box] at h2 h3 h4 h5 h6
  exact ⟨h1.trans hw.turn, h5, congrArg (· + _) h3, h4, h6, h7, h2⟩

end Served

/-! ### A datagram (R522, R531, R536) -/

/-- The instant of a datagram from the mailbox's own source is kept. -/
def heard (s : State) (m a : Nat) : State := if (mbx s m).owner = 2 ∧ (mbx s m).udpSrc = a then setMbx s m (fun x => { x with lastUdp := s.t0 }) else s

/-- A frame that the mailbox accepted last (R536). -/
def IsDuplicate (x : MbxSt) (a : Nat) (fr : List Byte) : Prop :=
  x.owner = 2 ∧ x.udpSrc = a ∧ bv 32 (fld fr 0x10 4 + 1) = x.cmdSeq ∧ bv 32 (fld fr 0x1C 4) = x.lastCrc ∧ (frameCrc fr).toNat = fld fr 0x1C 4

theorem heard_spec (s : State) (m a : Nat) : (heard s m a).t0 = s.t0 ∧ (mbx (heard s m a) m).tags = (mbx s m).tags ∧ (mbx (heard s m a) m).cmdSeq = (mbx s m).cmdSeq ∧
    (mbx (heard s m a) m).resps = (mbx s m).resps ∧ (mbx (heard s m a) m).owner = (mbx s m).owner ∧ (mbx (heard s m a) m).udpSrc = (mbx s m).udpSrc := by
  unfold heard
  split
  · rw [mbx_setMbx_same]
    exact ⟨rfl, rfl, rfl, rfl, rfl, rfl⟩
  · exact ⟨rfl, rfl, rfl, rfl, rfl, rfl⟩

/-- A frame accepted over UDP leaves its source as the owner, heard at this instant. -/
theorem heard_takeFrame_spec {s : State} {m a : Nat} {fr : List Byte} (h : frameStatus s m 2 a fr = 0) :
    (mbx (heard (takeFrame s m 2 a fr) m a) m).owner = 2 ∧ (mbx (heard (takeFrame s m 2 a fr) m a) m).udpSrc = a ∧
    (mbx (heard (takeFrame s m 2 a fr) m a) m).lastUdp = s.t0 ∧ (mbx (heard (takeFrame s m 2 a fr) m a) m).cmdSeq = bv 32 (fld fr 0x10 4 + 1) ∧
    (mbx (heard (takeFrame s m 2 a fr) m a) m).tags = (mbx s m).tags ++ [frameTag s 2 a fr] := by
  have ho : (mbx (takeFrame s m 2 a fr) m).owner = 2 ∧ (mbx (takeFrame s m 2 a fr) m).udpSrc = a := by
    rw [takeFrame_accepted (via := 2) h, mbx_setMbx_same]
    exact admitFrame_owner h
  have h0 : (takeFrame s m 2 a fr).t0 = s.t0 := by
    rw [takeFrame_accepted (via := 2) h]
    exact (admitFrame_keeps s m 2 a fr 0).1
  obtain ⟨-, htags, -, -, -, -, hseq⟩ := takeFrame_accepted_spec (via := 2) h
  rw [heard, if_pos ho, mbx_setMbx_same]
  exact ⟨ho.1, ho.2, h0, hseq, htags⟩

section Datagram

variable {s : State} {src : BitVec 48} {frag : Bool} {fr : List Byte}

theorem exec_udpDatagram_discarded (h : frag = true ∨ s.host.ready = false ∨ s.rst.stage = 4 ∨ flag s pHostUdpEnable 0 = false) :
    exec (.udpDatagram src frag fr) s = .next s := by
  refine if_pos ?_
  rcases h with h | h | h | h <;> simp [h]

variable (hfr : frag = false) (hr : s.host.ready = true) (hs : s.rst.stage ≠ 4) (hu : flag s pHostUdpEnable 0 = true)
include hfr hr hs hu

theorem exec_udpDatagram_badHeader (h : fr.length < 32 ∨ fld fr 0 2 ≠ 0x424D ∨ fld fr 2 1 ≠ 1) :
    exec (.udpDatagram src frag fr) s = .next (setHost s (fun h => { h with errUdp := sat8 h.errUdp })) := by
  refine (if_neg ?_).trans (if_pos h)
  simp [hfr, hr, hs, hu]

variable (h0 : fld fr 0 2 = 0x424D) (h2 : fld fr 2 1 = 1) (hm : fld fr 3 1 < 8) (hl : fld fr 8 2 ≤ 1440) (hn : fr.length = 32 + fld fr 8 2)
include h0 h2 hm hl hn

theorem exec_udpDatagram_duplicate (hd : IsDuplicate (mbx s (fld fr 3 1)) src.toNat fr) : exec (.udpDatagram src frag fr) s =
    .next (((mbx s (fld fr 3 1)).kept.filter (fun e => e.1 == fld fr 0x10 4)).foldl (fun s e => send s Out.udpFrame src.toNat [] (asDuplicate e.2))
      (heard s (fld fr 3 1) src.toNat)) := by
  refine (if_neg ?_).trans ((if_neg ?_).trans ((if_neg (Nat.not_le.mpr hm)).trans ((if_neg ?_).trans (if_pos hd))))
  · simp [hfr, hr, hs, hu]
  · omega
  · omega

theorem exec_udpDatagram_taken (hd : ¬IsDuplicate (mbx s (fld fr 3 1)) src.toNat fr) : exec (.udpDatagram src frag fr) s =
    .next (heard (takeFrame (heard s (fld fr 3 1) src.toNat) (fld fr 3 1) 2 src.toNat fr) (fld fr 3 1) src.toNat) := by
  refine (if_neg ?_).trans ((if_neg ?_).trans ((if_neg (Nat.not_le.mpr hm)).trans ((if_neg ?_).trans (if_neg hd))))
  · simp [hfr, hr, hs, hu]
  · omega
  · omega

end Datagram

/-! ### SPI_TRANSFER (R521) -/

section Spi

variable {s : State} {mosi : List Byte}

theorem exec_spiTransfer_off (h : s.mode.cur = .keep ∨ flag s pHostSpiEnable 0 = false) : exec (.spiTransfer mosi) s = .next s := if_pos (h.imp_right (by simp [·]))

variable (hk : s.mode.cur ≠ .keep) (hf : flag s pHostSpiEnable 0 = true)
include hk hf

theorem exec_spiTransfer_badCommand (h2 : fld mosi 0 1 ≠ 2) (h3 : fld mosi 0 1 ≠ 3) :
    exec (.spiTransfer mosi) s = .next (setHost s (fun h => { h with errSpi := sat8 h.errSpi })) :=
  (if_neg (by simp [hk, hf])).trans (if_pos (.inl ⟨h2, h3⟩))

variable {n : Nat} (hn : n ≠ 0) (hx : n ≤ 1024) (hsp : fld mosi 1 4 / 2 ^ 28 = 0 ∨ fld mosi 1 4 / 2 ^ 28 = 2 ∨ fld mosi 1 4 / 2 ^ 28 = 4)
  (hz : fld mosi 1 4 / 2 ^ 24 % 16 = 0) (ho : fld mosi 1 4 % 2 ^ 24 + 4 * n ≤ barSize (fld mosi 1 4 / 2 ^ 28))
include hn hx hsp hz ho

theorem exec_spiTransfer_write (hc : fld mosi 0 1 = 2) (hl : mosi.length = 9 + 4 * n) : exec (.spiTransfer mosi) s =
    if (crc32c (mosi.take (5 + 4 * n))).toNat ≠ fld mosi (5 + 4 * n) 4 then .next (setHost s (fun h => { h with errSpi := sat8 h.errSpi }))
    else .next (winWrites s 1 (fld mosi 1 4 / 2 ^ 28) n (fld mosi 1 4 % 2 ^ 24) (mosi.drop 5)) := by
  have hlen : mosi.length - 9 - 0 = 4 * n := by omega
  show execSpiTransfer mosi s = _
  unfold execSpiTransfer
  rw [if_neg (by simp [hk, hf])]
  dsimp only
  simp only [hc, if_true, hlen]
  rw [if_neg (by omega), if_neg (by omega), Nat.mul_div_cancel_left n (by decide)]

theorem exec_spiTransfer_read (hc : fld mosi 0 1 = 3) (hl : mosi.length = 9 + (if fld mosi 1 4 / 2 ^ 28 = 4 then 8 else 2) + 4 * n) :
    ∃ t, exec (.spiTransfer mosi) s = .next t ∧ t.host.readData = (winReads s (fld mosi 1 4 / 2 ^ 28) n (fld mosi 1 4 % 2 ^ 24)).1 := by
  have hlen : mosi.length - 9 - (if fld mosi 1 4 / 2 ^ 28 = 4 then 8 else 2) = 4 * n := by omega
  show ∃ t, execSpiTransfer mosi s = _ ∧ _
  unfold execSpiTransfer
  rw [if_neg (by simp [hk, hf])]
  dsimp only
  rw [hc, if_neg (show ¬3 = 2 by decide), hlen, if_neg (by omega), if_neg (by omega), if_neg (show ¬3 = 2 by decide), Nat.mul_div_cancel_left n (by decide)]
  exact ⟨_, rfl, rfl⟩

end Spi

/-- Settles O45: the mailbox in turn is served by the branch of its frame, a datagram by that of its header and SEQ, an SPI frame by that of its layout. -/
theorem framesAreTakenInOrRefused : Obligations.FramesAreTakenInOrRefused := by
  unfold Obligations.FramesAreTakenInOrRefused
  intro s
  refine ⟨exec_frameTakeIn_idle, fun m hm8 hr hs he hf hm hturn => ?take, fun src frag fr => ⟨exec_udpDatagram_discarded, fun hfr hr hs hu =>
    ⟨exec_udpDatagram_badHeader hfr hr hs hu, fun h0 h2 hm hl hn => ⟨fun hd => ?duplicate, fun hd hst => ?accepted⟩⟩⟩,
    fun mosi => ⟨exec_spiTransfer_off, fun hk hsp => ⟨exec_spiTransfer_badCommand hk hsp, fun n hn hx hspace hz ho =>
      ⟨fun hc hl => ⟨fun hcrc => ?write, fun hcrc => ?reject⟩, exec_spiTransfer_read hk hsp hn hx hspace hz ho⟩⟩⟩⟩
  case take =>
    obtain ⟨l, hl⟩ := takeWaits_head hm8 he hf hturn
    obtain ⟨w, hw, hx⟩ := exec_frameTakeIn_serves hr hs hl hm
    refine ⟨_, hx, ?_⟩
    unfold servedAs
    dsimp only
    split_ifs with hb hlen
    · obtain ⟨h1, h2, h3, h4, h5, h6⟩ := hw.stopped 0x010B (ringRead s (m * 0x4000) (mbx s m).cmdHead 32)
      exact ⟨h1, h2, fun _ => ⟨h3, h4, h5, h6⟩, fun ha hv => absurd hb (by simp [ha, hv]), fun ha hv => absurd hb (by simp [ha, hv])⟩
    · obtain ⟨h1, h2, h3, h4, -, h6⟩ := hw.stopped 0x0102 (ringRead s (m * 0x4000) (mbx s m).cmdHead 32)
      exact ⟨h1, h2, fun h => absurd h hb, fun _ _ _ => ⟨h3, h4, h6⟩, fun _ _ h5 h7 => absurd hlen (by omega)⟩
    · have hv := transportOf_ringVia (mbx s m)
      by_cases hst : frameStatus s m 1 0 (ringRead s (m * 0x4000) (mbx s m).cmdHead (32 + fld (ringRead s (m * 0x4000) (mbx s m).cmdHead 32) 8 2)) = 0
      · obtain ⟨h1, h2, h3, h4, h5, h6, h7⟩ := hw.accepted hv hst
        exact ⟨h1, h2, fun h => absurd h hb, fun _ _ h => absurd h hlen, fun _ _ _ _ => ⟨h3, h4.trans he, fun h => absurd hst h, fun _ =>
          ⟨h5, h6, _, h7, rfl, rfl, rfl, rfl, rfl, rfl⟩⟩⟩
      · obtain ⟨h1, h2, h3, h4, h5, h6⟩ := hw.refused hv hst
        exact ⟨h1, h2, fun h => absurd h hb, fun _ _ h => absurd h hlen, fun _ _ _ _ => ⟨h3, h4.trans he, fun _ => ⟨h5, h6⟩, fun h => absurd h hst⟩⟩
  case duplicate =>
    obtain ⟨-, h1, h3, h4, -⟩ := heard_spec s (fld fr 3 1) src.toNat
    have hk := foldl_keeps (f := fun (s : State) (e : Nat × List Byte) => send s Out.udpFrame src.toNat [] (asDuplicate e.2)) (fun s : State => mbx s (fld fr 3 1))
      (fun _ _ => rfl) ((mbx s (fld fr 3 1)).kept.filter (fun e => e.1 == fld fr 0x10 4)) (heard s (fld fr 3 1) src.toNat)
    refine ⟨_, exec_udpDatagram_duplicate hfr hr hs hu h0 h2 hm hl hn hd, ?_⟩
    rw [hk]
    exact ⟨h1, h3, h4⟩
  case accepted =>
    obtain ⟨ht0, h1, h3, -, h5, h6⟩ := heard_spec s (fld fr 3 1) src.toNat
    obtain ⟨g1, g2, g3, g4, g5⟩ := heard_takeFrame_spec ((frameStatus_congr h3 h5 h6 h1 2 src.toNat fr).trans hst)
    exact ⟨_, _, exec_udpDatagram_taken hfr hr hs hu h0 h2 hm hl hn hd, g1, g2, g3.trans ht0, g4, g5.trans (congrArg (· ++ _) h1), rfl, rfl, rfl⟩
  case write => exact (exec_spiTransfer_write hk hsp hn hx hspace hz ho hc hl).trans (if_neg (not_not_intro hcrc))
  case reject => exact (exec_spiTransfer_write hk hsp hn hx hspace hz ho hc hl).trans (if_pos hcrc)

end Sys2Proof.Proofs
end

section
/-! The window memories (R520, R527, R537): of the operations only a write of the rings or of the bulk window and a restart that clears the host's registers change
them; the rule of every other one says that it leaves them. They stand in the order of the model's files. -/

namespace Sys2Proof.Proofs

open Sys2Proof.Machine Sys2Proof.Laws Sys2Proof.Safety

/-! ### The memories, and branches, folds and outcomes that leave them -/

/-- The rings and the bulk window of the host's registers. -/
def hostMems (h : HostSt) : Mem × Mem := (h.rings, h.bulk)

/-- Of the registers only these two are memories. -/
@[simp] theorem hostMems_mk (ready lastKind heartbeat t0Hi intStatus intEnable epoch hostHb hbChanged hostLost hbHoldUntil errSpi errUdp errWin mbx rings bulk holds beatAt idFw
    turn bulkWin bulkUsed throttled windowDown restartReq readData) :
    hostMems ⟨ready, lastKind, heartbeat, t0Hi, intStatus, intEnable, epoch, hostHb, hbChanged, hostLost, hbHoldUntil, errSpi, errUdp, errWin, mbx, rings, bulk, holds, beatAt,
      idFw, turn, bulkWin, bulkUsed, throttled, windowDown, restartReq, readData⟩ = (rings, bulk) := rfl

@[simp] theorem rings_bulk_eq (h : HostSt) : (h.rings, h.bulk) = hostMems h := rfl

@[simp] theorem host_ite (c : Prop) [Decidable c] (a b : State) : (if c then a else b).host = if c then a.host else b.host := apply_ite ..

@[simp] theorem mems_ite (c : Prop) [Decidable c] (a b : HostSt) : hostMems (if c then a else b) = if c then hostMems a else hostMems b := apply_ite ..

@[simp] theorem fst_mems_ite {β : Type} (c : Prop) [Decidable c] (a b : State × β) :
    hostMems (if c then a else b).1.host = if c then hostMems a.1.host else hostMems b.1.host := by
  split <;> rfl

@[simp] theorem snd_mems_ite {β : Type} (c : Prop) [Decidable c] (a b : β × State) :
    hostMems (if c then a else b).2.host = if c then hostMems a.2.host else hostMems b.2.host := by
  split <;> rfl

/-- `t` has the window memories of `s`. -/
structure SameMems (s t : State) : Prop where
  mems : hostMems t.host = hostMems s.host

@[simp] theorem sameMems_iff (s t : State) : SameMems s t ↔ hostMems t.host = hostMems s.host := ⟨SameMems.mems, SameMems.mk⟩

theorem SameBase.mems {s t : State} (h : SameBase s t) : hostMems t.host = hostMems s.host := congrArg hostMems h.host

@[simp] theorem foldl_mems {β : Type} {f : State → β → State} (h : ∀ s b, SameMems s (f s b)) (l : List β) (s : State) :
    hostMems (l.foldl f s).host = hostMems s.host :=
  foldl_keeps (fun s : State => hostMems s.host) (fun s b => (h s b).mems) l s

@[simp] theorem foldl_fst_mems {β γ : Type} {f : State × γ → β → State × γ} (h : ∀ s b, SameMems s.1 (f s b).1) (l : List β) (s : State × γ) :
    hostMems (l.foldl f s).1.host = hostMems s.1.host :=
  foldl_keeps (fun s : State × γ => hostMems s.1.host) (fun s b => (h s b).mems) l s

@[simp] theorem foldl_snd_mems {β γ : Type} {f : γ × State → β → γ × State} (h : ∀ s b, SameMems s.2 (f s b).2) (l : List β) (s : γ × State) :
    hostMems (l.foldl f s).2.host = hostMems s.2.host :=
  foldl_keeps (fun s : γ × State => hostMems s.2.host) (fun s b => (h s b).mems) l s

/-- An operation that may be refused leaves the memories of `s` where it is not. -/
def OkSameMems {α : Type} (s : State) (e : Except Nat (α × State)) : Prop := ∀ p, e = .ok p → hostMems p.2.host = hostMems s.host

@[simp] theorem okSameMems_error {α : Type} (s : State) (k : Nat) : OkSameMems (α := α) s (.error k) := by
  intro p h
  cases h

@[simp] theorem okSameMems_ok {α : Type} (s : State) (p : α × State) : OkSameMems s (.ok p) ↔ hostMems p.2.host = hostMems s.host := by simp [OkSameMems]

@[simp] theorem okSameMems_ite {α : Type} (s : State) (c : Prop) [Decidable c] (a b : Except Nat (α × State)) :
    OkSameMems s (if c then a else b) ↔ if c then OkSameMems s a else OkSameMems s b := by
  split <;> rfl

@[simp] theorem okSameMems_map {α β : Type} (s t : State) (h : hostMems t.host = hostMems s.host) (e : Except Nat β) (f : β → α) :
    OkSameMems s (e.map (fun g => (f g, t))) := by
  cases e <;> simp [Except.map, h]

/-- A command's outcome from `s` has the memories of `s`. -/
def KeepsMems (s : State) (o : Res) : Prop := ∀ t, o = .next t → hostMems t.host = hostMems s.host

@[simp] theorem keepsMems_next (s t : State) : KeepsMems s (.next t) ↔ hostMems t.host = hostMems s.host := by simp [KeepsMems]

@[simp] theorem keepsMems_ite (s : State) (c : Prop) [Decidable c] (a b : Res) : KeepsMems s (if c then a else b) ↔ if c then KeepsMems s a else KeepsMems s b := by
  split <;> rfl

/-! ### The host's registers beside the memories -/

@[simp] theorem setMbx_mems (s : State) (m : Nat) (f : MbxSt → MbxSt) : hostMems (setMbx s m f).host = hostMems s.host := rfl
@[simp] theorem irq_mems (s : State) (b : Nat) : hostMems (irq s b).host = hostMems s.host := by
  simp only [irq]
  split <;> rfl
@[simp] theorem respond_mems (s : State) (r : Req) (op st fl : Nat) (p : List Byte) : hostMems (respond s r op st fl p).host = hostMems s.host := by
  obtain ⟨x, h, hh⟩ := respond_host_frame s r op st fl p
  rw [hh]
  rfl
@[simp] theorem finish_mems (s : State) (r : Req) (op : Nat) (isC : Bool) (st : Nat) (p : List Byte) : hostMems (finish s r op isC st p).host = hostMems s.host := by
  obtain ⟨x, h, hh⟩ := finish_host_frame s r op isC st p
  rw [hh]
  rfl
@[simp] theorem accepted_mems (s : State) (r : Req) (op : Nat) (p : List Byte) : hostMems (accepted s r op p).host = hostMems s.host := respond_mems ..
@[simp] theorem beginCmd_mems (s : State) (r : Req) (op : Nat) : hostMems (beginCmd s r op).host = hostMems s.host := rfl
@[simp] theorem holdBulk_mems (s : State) (r : Req) (off len : Nat) : hostMems (holdBulk s r off len).host = hostMems s.host := rfl

/-! ### The shared operations: tables, byte memory, CRC-32C, events, Ridge reports, parameters, the process image, mailbox responses -/

@[simp] theorem enableOff_mems (s : State) (id : Nat) : hostMems (enableOff s id).host = hostMems s.host := rfl
@[simp] theorem showUpd_mems (s : State) (u : Upd) : hostMems (showUpd s u).host = hostMems s.host := rfl

theorem command_mems {s : State} {r : Req} {op : Nat} {isC : Bool} {modes : List Mode} {len : Nat} {ok : Bool} {run : State → State}
    (h : hostMems (run (beginCmd s r op)).host = hostMems s.host) : hostMems (command s r op isC modes len ok run).host = hostMems s.host := by
  unfold command
  simp [h]

@[simp] theorem bulkCount_mems (s : State) (n : Nat) : hostMems (bulkCount s n).host = hostMems s.host := rfl
@[simp] theorem bulkMay_snd_mems (s : State) (n : Nat) : hostMems (bulkMay s n).2.host = hostMems s.host := by simp [bulkMay]

/-! ### What decides a pin, and the facets of channels, analog channels and encoders -/

@[simp] theorem chFacets_mems (s : State) (c : Nat) : hostMems (chFacets s c).host = hostMems s.host := by simp [chFacets]
@[simp] theorem chRefresh_mems (s : State) (c : Nat) : hostMems (chRefresh s c).host = hostMems s.host := by simp [chRefresh]
@[simp] theorem grpRefresh_mems (s : State) (g : Nat) : hostMems (grpRefresh s g).host = hostMems s.host := by simp [grpRefresh]
@[simp] theorem chFlag_mems (s : State) (c k : Nat) (v : Bool) : hostMems (chFlag s c k v).host = hostMems s.host := by simp [chFlag]
@[simp] theorem chanApply_mems (s : State) (c : Nat) (v : Bool) : hostMems (chanApply s c v).host = hostMems s.host := by simp [chanApply]

@[simp] theorem aoRefresh_mems (s : State) (a : Nat) : hostMems (aoRefresh s a).host = hostMems s.host := by
  unfold aoRefresh
  split <;> simp

@[simp] theorem aoFlag_mems (s : State) (a k : Nat) (v : Bool) : hostMems (aoFlag s a k v).host = hostMems s.host := by simp [aoFlag]
@[simp] theorem aoApply_mems (s : State) (a : Nat) (v : Word) : hostMems (aoApply s a v).host = hostMems s.host := by simp [aoApply]
@[simp] theorem applyDefaults_mems (s : State) (n : Nat) : hostMems (applyDefaults s n).host = hostMems s.host := by simp [applyDefaults]
@[simp] theorem pinApply_mems (s : State) (p : Nat) (v : Word) : hostMems (pinApply s p v).host = hostMems s.host := by simp [pinApply]

@[simp] theorem aiShow_mems (s : State) (a t : Nat) : hostMems (aiShow s a t).host = hostMems s.host := by
  unfold aiShow
  dsimp only
  split <;> simp

@[simp] theorem aiRefresh_mems (s : State) (a t : Nat) : hostMems (aiRefresh s a t).host = hostMems s.host := by simp [aiRefresh]
@[simp] theorem aiFlag_mems (s : State) (a k : Nat) (v : Bool) : hostMems (aiFlag s a k v).host = hostMems s.host := by simp [aiFlag]
@[simp] theorem encRefresh_mems (s : State) (e t : Nat) : hostMems (encRefresh s e t).host = hostMems s.host := rfl
@[simp] theorem fieldNow_mems (s : State) (n t : Nat) : hostMems (fieldNow s n t).host = hostMems s.host := by simp [fieldNow]

/-! ### What is shared of the time domains: the value of a domain, holdover, steps, anchors and the TIME points -/

@[simp] theorem askAnchor_mems (s : State) (reason : Nat) : hostMems (askAnchor s reason).host = hostMems s.host := rfl
@[simp] theorem timePoints_mems (s : State) (d : Nat) : hostMems (timePoints s d).host = hostMems s.host := by simp [timePoints]
@[simp] theorem t0Facet_mems (s : State) : hostMems (t0Facet s).host = hostMems s.host := by simp [t0Facet]
@[simp] theorem noteHold_mems (s : State) (d old : Nat) : hostMems (noteHold s d old).host = hostMems s.host := by simp [noteHold]
@[simp] theorem takeMeas_mems (s : State) (d t : Nat) (src : Int) : hostMems (takeMeas s d t src).host = hostMems s.host := by simp [takeMeas]
@[simp] theorem discAll_mems (s : State) : hostMems (discAll s).host = hostMems s.host := rfl

/-! ### Stations' frames: field mapping, CAN transmit slots, CSX output frames and egress queues -/

@[simp] theorem setCanSlot_mems (s : State) (c k : Nat) (f : CanSlot → CanSlot) : hostMems (setCanSlot s c k f).host = hostMems s.host := rfl
@[simp] theorem canSlotPoints_mems (s : State) (c k : Nat) : hostMems (canSlotPoints s c k).host = hostMems s.host := by simp [canSlotPoints]

@[simp] theorem canEnter_mems (s : State) (c k id : Nat) (data : List Byte) (stn : Option Nat) (tt : Bool) : hostMems (canEnter s c k id data stn tt).host = hostMems s.host := by
  unfold canEnter
  split <;> simp

@[simp] theorem canEnd_mems (s : State) (c k status : Nat) : hostMems (canEnd s c k status).host = hostMems s.host := by
  unfold canEnd
  split <;> simp

@[simp] theorem canEndLater_mems (s : State) (c k status : Nat) : hostMems (canEndLater s c k status).host = hostMems s.host := by simp [canEndLater]
@[simp] theorem ethPoints_mems (s : State) (p : Nat) : hostMems (ethPoints s p).host = hostMems s.host := by simp [ethPoints]
@[simp] theorem ethDrain_mems (s : State) (p : Nat) : hostMems (ethDrain s p).host = hostMems s.host := by simp [ethDrain]
@[simp] theorem ethEnqueue_mems (s : State) (p q key : Nat) (b : List Byte) : hostMems (ethEnqueue s p q key b).host = hostMems s.host := by simp [ethEnqueue]
@[simp] theorem csxSend_mems (s : State) (k bi : Nat) (b : Block) (t : Nat) (always : Bool) : hostMems (csxSend s k bi b t always).host = hostMems s.host := by simp [csxSend]
@[simp] theorem blockSend_mems (s : State) (k bi : Nat) (b : Block) (t : Nat) (always : Bool) : hostMems (blockSend s k bi b t always).host = hostMems s.host := by simp [blockSend]
@[simp] theorem netApply_mems (s : State) (t rel : Nat) (pts : List Nat) (always : Bool) : hostMems (netApply s t rel pts always).host = hostMems s.host := by simp [netApply]
@[simp] theorem netLost_mems (s : State) (k : Nat) : hostMems (netLost s k).host = hostMems s.host := by simp [netLost]
@[simp] theorem goLost_mems (s : State) (k : Nat) : hostMems (goLost s k).host = hostMems s.host := by simp [goLost]
@[simp] theorem canPoints_mems (s : State) (c : Nat) : hostMems (canPoints s c).host = hostMems s.host := by simp [canPoints]
@[simp] theorem canSync_mems (s : State) (c : Nat) : hostMems (canSync s c).host = hostMems s.host := by simp [canSync]
@[simp] theorem ethSync_mems (s : State) (p : Nat) : hostMems (ethSync s p).host = hostMems s.host := by simp [ethSync]
@[simp] theorem canTerms_mems (s : State) (n : Nat) : hostMems (canTerms s n).host = hostMems s.host := by simp [canTerms]

/-! ### What a sample strobe latches and an apply strobe applies, shared by every row that executes a strobe -/

@[simp] theorem gapStore_mems (s : State) (n t : Nat) (l : List (Nat × Word × BitVec 16)) : hostMems (gapStore s n t l).host = hostMems s.host := by simp [gapStore]
@[simp] theorem stnOnline_mems (s : State) (n t : Nat) : hostMems (stnOnline s n t).host = hostMems s.host := by simp [stnOnline]
@[simp] theorem doSample_mems (s : State) (n t : Nat) (late : Bool) : hostMems (doSample s n t late).host = hostMems s.host := by simp [doSample]
@[simp] theorem bridgeDone_mems (s : State) (p : Nat) : hostMems (bridgeDone s p).host = hostMems s.host := rfl

@[simp] theorem applyOne_mems (s : State) (t rel : Nat) (o : OutVal) : hostMems (applyOne s t rel o).host = hostMems s.host := by
  unfold applyOne
  split <;> simp

@[simp] theorem applySet_mems (s : State) (n t : Nat) (o : OutSet) : hostMems (applySet s n t o).host = hostMems s.host := by simp [applySet]
@[simp] theorem supersede_mems (s : State) (n : Nat) (o : OutSet) : hostMems (supersede s n o).host = hostMems s.host := rfl
@[simp] theorem lateSet_mems (s : State) (n t id : Nat) (exact : Bool) : hostMems (lateSet s n t id exact).host = hostMems s.host := by simp [lateSet]

@[simp] theorem doApply_mems (s : State) (n t id : Nat) : hostMems (doApply s n t id).host = hostMems s.host := by
  unfold doApply
  dsimp only
  split <;> simp

@[simp] theorem takeSet_mems (s : State) (n : Nat) (o : OutSet) : hostMems (takeSet s n o).host = hostMems s.host := by simp [takeSet]

/-! ### What is shared of task scheduling: the ready order, prefetch and start, the end of a release, the TASK points -/

@[simp] theorem taskPoints_mems (s : State) (i : Nat) : hostMems (taskPoints s i).host = hostMems s.host := by simp [taskPoints]
@[simp] theorem depthPoint_mems (s : State) (c : Nat) : hostMems (depthPoint s c).host = hostMems s.host := by simp [depthPoint]

@[simp] theorem startRegs_mems (s : State) (c : Nat) (r : Release) : hostMems (startRegs s c r).host = hostMems s.host := by
  unfold startRegs
  split <;> simp

@[simp] theorem beginRel_mems (s : State) (c : Nat) (r : Release) : hostMems (beginRel s c r).host = hostMems s.host := by simp [beginRel]

@[simp] theorem dispatch_mems (s : State) (c : Nat) : hostMems (dispatch s c).host = hostMems s.host := by
  unfold dispatch
  dsimp only
  repeat' split
  all_goals simp

@[simp] theorem sendSet_mems (s : State) (id rel at_ : Nat) (exact : Bool) (outs : List OutVal) : hostMems (sendSet s id rel at_ exact outs).host = hostMems s.host := by simp [sendSet]
@[simp] theorem sendApply_mems (s : State) (nodes : List Nat) (id at_ : Nat) : hostMems (sendApply s nodes id at_).host = hostMems s.host := rfl
@[simp] theorem doneTrigs_mems (s : State) (i t : Nat) : hostMems (doneTrigs s i t).host = hostMems s.host := rfl
@[simp] theorem retainStage_mems (s : State) (c prog at_ : Nat) : hostMems (retainStage s c prog at_).host = hostMems s.host := by simp [retainStage]

@[simp] theorem endRelease_mems (s : State) (c : Nat) (d : Bool) : hostMems (endRelease s c d).host = hostMems s.host := by
  unfold endRelease
  split
  · rfl
  · dsimp only
    refine (foldl_mems (fun s p => by simp) _ _).trans ?_
    simp only [taskPoints_mems, setEngine_host, host_ite, mems_ite, setTask_host, retainStage_mems, doneTrigs_mems, sendSet_mems, sendApply_mems, ite_self]

@[simp] theorem queueRel_mems (s : State) (i t : Nat) : hostMems (queueRel s i t).host = hostMems s.host := by simp [queueRel]

/-! ### The Pocket's areas, records and journal -/

@[simp] theorem journalAdd_mems (s : State) (t : JTxn) : hostMems (journalAdd s t).host = hostMems s.host := by simp [journalAdd]
@[simp] theorem journalPut_mems (s : State) (boundary : Bool) (l : List (Nat × List Byte)) : hostMems (journalPut s boundary l).host = hostMems s.host := by simp [journalPut]
@[simp] theorem initData_mems (s : State) (k : Nat) : hostMems (initData s k).host = hostMems s.host := rfl
@[simp] theorem reloadProg_mems (s : State) (k : Nat) : hostMems (reloadProg s k).host = hostMems s.host := rfl
@[simp] theorem restoreProg_mems (s : State) (k : Nat) (r : RetCopy) : hostMems (restoreProg s k r).host = hostMems s.host := by simp [restoreProg]

/-! ### Operation slots and streams as records, Thatch's plan and effective classes, and the log states that steps and operations open -/

@[simp] theorem setOp_mems (s : State) (i : Nat) (f : OpSt → OpSt) : hostMems (setOp s i f).host = hostMems s.host := rfl
@[simp] theorem syncLogs_mems (s : State) (p : Nat) : hostMems (syncLogs s p).host = hostMems s.host := rfl
@[simp] theorem spanBoundary_mems (s : State) (k : Nat) : hostMems (spanBoundary s k).host = hostMems s.host := by simp [spanBoundary]

@[simp] theorem opBoundary_mems (s : State) (o : OpSt) : hostMems (opBoundary s o).host = hostMems s.host := by
  unfold opBoundary
  split <;> simp

/-! ### The operation tracker: handles, admission, checkpoints, Pocket records, ends and their points -/

@[simp] theorem opPoints_mems (s : State) (i : Nat) : hostMems (opPoints s i).host = hostMems s.host := by simp [opPoints]
@[simp] theorem trackPoints_mems (s : State) : hostMems (trackPoints s).host = hostMems s.host := by simp [trackPoints]
@[simp] theorem opState_mems (s : State) (i : Nat) : hostMems (opState s i).host = hostMems s.host := by simp [opState]
@[simp] theorem opCommit_mems (s : State) (boundary : Bool) (ops : List (Nat × Bool)) (extra : List (Nat × List Byte)) :
    hostMems (opCommit s boundary ops extra).host = hostMems s.host := by simp [opCommit]

@[simp] theorem opAdmit_okSameMems (s : State) (kind owner rule cls parent detail start : Nat) (data : List Nat) (boundary : Bool) :
    OkSameMems s (opAdmit s kind owner rule cls parent detail start data boundary) := by
  unfold opAdmit
  dsimp only
  repeat' split
  all_goals simp

@[simp] theorem opRefuse_mems (s : State) (owner status : Nat) : hostMems (opRefuse s owner status).host = hostMems s.host := by simp [opRefuse]

@[simp] theorem opEnd_mems (s : State) (h status : Nat) (commit : Bool) : hostMems (opEnd s h status commit).host = hostMems s.host := by
  unfold opEnd
  split <;> simp

@[simp] theorem opCkpt_mems (s : State) (i t : Nat) : hostMems (opCkpt s i t).host = hostMems s.host := by simp [opCkpt]

@[simp] theorem opPark_mems (s : State) (h : Nat) : hostMems (opPark s h).host = hostMems s.host := by
  unfold opPark
  split <;> simp

@[simp] theorem execJournalTransaction_keepsMems (s : State) : KeepsMems s (execJournalTransaction s) := by
  unfold execJournalTransaction
  split <;> simp

@[simp] theorem execJournalCommit_keepsMems (s : State) : KeepsMems s (execJournalCommit s) := by
  unfold execJournalCommit
  split <;> simp

/-! ### The tile's axes: figures, facets, current, stops, keep records, limit inputs -/

@[simp] theorem keepCommit_mems (s : State) (x : Nat) : hostMems (keepCommit s x).host = hostMems s.host := by simp [keepCommit]
@[simp] theorem energise_mems (s : State) (x : Nat) : hostMems (energise s x).host = hostMems s.host := by simp [energise]
@[simp] theorem deEnergise_mems (s : State) (x : Nat) : hostMems (deEnergise s x).host = hostMems s.host := by simp [deEnergise]
@[simp] theorem driverOff_mems (s : State) (x : Nat) : hostMems (driverOff s x).host = hostMems s.host := by simp [driverOff]
@[simp] theorem axisRest_mems (s : State) (x : Nat) (after : Nat) : hostMems (axisRest s x after).host = hostMems s.host := by simp [axisRest]

@[simp] theorem hardNow_mems (s : State) (x a : Nat) : hostMems (tileStop.hardNow s x a).host = hostMems s.host := by
  unfold tileStop.hardNow
  simp

@[simp] theorem tileStop_mems (s : State) (x : Nat) (hard : Bool) (after : Nat) (A J : Rat) : hostMems (tileStop s x hard after A J).host = hostMems s.host := by
  unfold tileStop
  dsimp only
  split
  · simp
  · split <;> simp

@[simp] theorem tailStop_mems (s : State) (x : Nat) : hostMems (tailStop s x).host = hostMems s.host := by simp [tailStop]
@[simp] theorem paramStop_mems (s : State) (x : Nat) (hard : Bool) (after : Nat) : hostMems (paramStop s x hard after).host = hostMems s.host := by simp [paramStop]
@[simp] theorem setLim_mems (s : State) (x k : Nat) (f : LimSt → LimSt) : hostMems (setLim s x k f).host = hostMems s.host := by simp [setLim]
@[simp] theorem axisRawEdge_mems (s : State) (ch : Nat) : hostMems (axisRawEdge s ch).host = hostMems s.host := by simp [axisRawEdge]
@[simp] theorem axisFiltered_mems (s : State) (ch : Nat) (level bad : Bool) : hostMems (axisFiltered s ch level bad).host = hostMems s.host := by simp [axisFiltered]
@[simp] theorem keepLoad_mems (s : State) (x : Nat) : hostMems (keepLoad s x).host = hostMems s.host := by simp [keepLoad]

/-! ### The control laws of the ROM library and the frame around them -/

@[simp] theorem loopPoints_mems (s : State) (i t : Nat) (spW : Word) (e f : Word) (outCond pvCond : BitVec 16) :
    hostMems (loopPoints s i t spW e f outCond pvCond).host = hostMems s.host := by simp [loopPoints]
@[simp] theorem loopStatePoint_mems (s : State) (i t : Nat) : hostMems (loopStatePoint s i t).host = hostMems s.host := by simp [loopStatePoint]

@[simp] theorem abortProfile_mems (s : State) (i : Nat) : hostMems (abortProfile s i).host = hostMems s.host := by
  unfold abortProfile
  split <;> simp

@[simp] theorem abortTune_mems (s : State) (i reason : Nat) : hostMems (abortTune s i reason).host = hostMems s.host := by
  unfold abortTune
  split <;> simp

/-! ### Parameter values, their checks and when an accepted SET takes effect -/

@[simp] theorem trial_mems (s : State) (code inst v : Nat) : hostMems (trial s code inst v).host = hostMems s.host := rfl

@[simp] theorem applySet'_fst_mems (s : State) (scope id : Nat) (v : DWord) (remove : Bool) : hostMems (applySet' s scope id v remove).1.host = hostMems s.host := by
  unfold applySet'
  dsimp only
  split
  · simp
  · split <;> simp

@[simp] theorem doSet_fst_mems (s : State) (mb transport tag scope id : Nat) (v : DWord) (remove : Bool) :
    hostMems (doSet s mb transport tag scope id v remove).1.host = hostMems s.host := by simp [doSet]

/-! ### The process image: visibility, input windows, stations, forces and DERIVED points -/

@[simp] theorem execImageUpdateVisible_keepsMems (s : State) : KeepsMems s (execImageUpdateVisible s) := by
  unfold execImageUpdateVisible
  split <;> simp

@[simp] theorem execWindowCopyComplete_keepsMems (ce : Fin 16) (s : State) : KeepsMems s (execWindowCopyComplete ce s) := by
  unfold execWindowCopyComplete
  dsimp only
  split <;> simp

@[simp] theorem execWindowWaitExpiry_keepsMems (ce : Fin 16) (s : State) : KeepsMems s (execWindowWaitExpiry ce s) := by
  unfold execWindowWaitExpiry
  dsimp only
  split <;> simp

@[simp] theorem execStationInputBlock_keepsMems (region : Fin 11) (stn : BitVec 10) (blk : BitVec 6) (vals : List Word) (conds : BitVec 16) (s : State) :
    KeepsMems s (execStationInputBlock region stn blk vals conds s) := by
  unfold execStationInputBlock
  dsimp only
  split <;> simp

@[simp] theorem execStationSilent_keepsMems (region : Fin 11) (stn : BitVec 10) (s : State) : KeepsMems s (execStationSilent region stn s) := by simp [execStationSilent]
@[simp] theorem execStationLost_keepsMems (region : Fin 11) (stn : BitVec 10) (s : State) : KeepsMems s (execStationLost region stn s) := by simp [execStationLost]

@[simp] theorem forceStep_mems (s : State) (f : ForcePend) : hostMems (forceStep s f).host = hostMems s.host := by
  unfold forceStep
  dsimp only
  split <;> simp

@[simp] theorem execForceInstant_keepsMems (s : State) : KeepsMems s (execForceInstant s) := by simp [execForceInstant]

@[simp] theorem execDerivedRelease_keepsMems (n : Half) (s : State) : KeepsMems s (execDerivedRelease n s) := by
  unfold execDerivedRelease
  split <;> simp

/-! ### Recipe streams: recipe images, the logic of one stream release, pauses, aborts, parks -/

@[simp] theorem streamPoints_mems (s : State) (k : Nat) : hostMems (streamPoints s k).host = hostMems s.host := by simp [streamPoints]
@[simp] theorem streamOut_mems (s : State) (c : Nat) (l : List OutVal) : hostMems (streamOut s c l).host = hostMems s.host := rfl
@[simp] theorem evalBlocks_fst_mems (s : State) (k t key : Nat) (l : List RBlock) : hostMems (evalBlocks s k t key l).1.host = hostMems s.host := by simp [evalBlocks]

/-- A state that an operation answers where it is not refused has the memories of `s`. -/
def OkMems (s : State) (e : Except Nat State) : Prop := ∀ t, e = .ok t → hostMems t.host = hostMems s.host

theorem okSameMems_map_pair {s : State} {e : Except Nat State} (h : OkMems s e) (n : Nat) : OkSameMems s (e.map (fun t => (n, t))) := by
  cases e with
  | error k => exact okSameMems_error s k
  | ok t => exact (okSameMems_ok ..).mpr (h t rfl)

theorem okMems_map_snd {s t : State} {e : Except Nat (Nat × State)} (h : OkSameMems t e) (ht : hostMems t.host = hostMems s.host) : OkMems s (e.map (·.2)) := by
  cases e with
  | error k => intro u hu; cases hu
  | ok p =>
    rintro u ⟨⟩
    exact (h p rfl).trans ht

@[simp] theorem admitStep_okSameMems (s : State) (k step t start : Nat) : OkSameMems s (admitStep s k step t start) := by
  unfold admitStep
  dsimp only
  split
  · simp
  · next i u heq =>
    have hu : hostMems u.host = hostMems s.host := opAdmit_okSameMems s _ _ _ _ _ _ _ _ _ _ heq
    refine okSameMems_map_pair (List.foldlRecOn (motive := OkMems s) _ _ ?_ fun e he b _ => ?_) i
    · rintro v ⟨⟩
      exact hu
    · cases e with
      | error k => exact he
      | ok v => exact okMems_map_snd (opAdmit_okSameMems v _ _ _ _ _ _ _ _ _) (he v rfl)

@[simp] theorem pauseAt_mems (s : State) (k next reason : Nat) : hostMems (pauseAt s k next reason).host = hostMems s.host := by simp [pauseAt]

@[simp] theorem enterRaw_fst_mems (s : State) (c k step t : Nat) (ended : Option (Nat × Nat)) (pz : Bool) : hostMems (enterRaw s c k step t ended pz).1.host = hostMems s.host := by
  unfold enterRaw
  dsimp only
  split
  · cases ended <;> simp
  · next i u heq =>
    have hu : hostMems u.host = hostMems s.host := admitStep_okSameMems s k step t _ _ heq
    cases ended <;> simp [hu]

@[simp] theorem endSubs_mems (s : State) (h : Nat) (abort : Bool) : hostMems (endSubs s h abort).host = hostMems s.host := by simp [endSubs]
@[simp] theorem finishStream_mems (s : State) (k st : Nat) : hostMems (finishStream s k st).host = hostMems s.host := by simp [finishStream]
@[simp] theorem stepAborts_fst_mems (s : State) (k t : Nat) : hostMems (stepAborts s k t).1.host = hostMems s.host := by simp [stepAborts]
@[simp] theorem stepCond_fst_mems (s : State) (k t : Nat) : hostMems (stepCond s k t).1.host = hostMems s.host := by simp [stepCond]
@[simp] theorem vseqStep_mems (s : State) (c i t : Nat) (d : StreamSt) (P : Nat) : hostMems (vseqStep s c i t d P).host = hostMems s.host := by simp [vseqStep]
@[simp] theorem vseqSteps_mems (s : State) (c k t : Nat) : hostMems (vseqSteps s c k t).host = hostMems s.host := by simp [vseqSteps]
@[simp] theorem onEntry_fst_mems (s : State) (c k t : Nat) : hostMems (onEntry s c k t).1.host = hostMems s.host := by simp [onEntry]
@[simp] theorem boundaryCkpts_mems (s : State) (k t : Nat) : hostMems (boundaryCkpts s k t).host = hostMems s.host := by simp [boundaryCkpts]
@[simp] theorem abortAgain_mems (s : State) (k : Nat) : hostMems (abortAgain s k).host = hostMems s.host := by simp [abortAgain]
@[simp] theorem abortStream_mems (s : State) (c k t status : Nat) : hostMems (abortStream s c k t status).host = hostMems s.host := by simp [abortStream]
@[simp] theorem enterStep_mems (s : State) (c k step t : Nat) (ended : Option (Nat × Nat)) : hostMems (enterStep s c k step t ended).host = hostMems s.host := by simp [enterStep]
@[simp] theorem leaveStep_mems (s : State) (c k t next status : Nat) : hostMems (leaveStep s c k t next status).host = hostMems s.host := by simp [leaveStep]
@[simp] theorem handshakeStep_fst_mems (s : State) (c i t : Nat) (pl : List Byte) : hostMems (handshakeStep s c i t pl).1.host = hostMems s.host := by simp [handshakeStep]
@[simp] theorem subSteps_fst_mems (s : State) (c k t : Nat) : hostMems (subSteps s c k t).1.host = hostMems s.host := by simp [subSteps]
@[simp] theorem noteLate_mems (s : State) (k t prev due step : Nat) : hostMems (noteLate s k t prev due step).host = hostMems s.host := by simp [noteLate]
@[simp] theorem stepRelease_mems (s : State) (c k t prev : Nat) : hostMems (stepRelease s c k t prev).host = hostMems s.host := by simp [stepRelease]

@[simp] theorem streamAct_mems (s : State) (c k t prev : Nat) : hostMems (streamAct s c k t prev).host = hostMems s.host := by
  unfold streamAct
  dsimp only
  repeat' split
  all_goals simp

@[simp] theorem streamRelease_mems (s : State) (c k t : Nat) : hostMems (streamRelease s c k t).host = hostMems s.host := by simp [streamRelease]

@[simp] theorem endStream_mems (s : State) (c : Nat) : hostMems (endStream s c).host = hostMems s.host := by
  unfold endStream
  split
  · rfl
  · split
    · rfl
    · split <;> simp

@[simp] theorem execHandshakeTimeout_keepsMems (k : Fin 16) (s : State) : KeepsMems s (execHandshakeTimeout k s) := by
  unfold execHandshakeTimeout
  dsimp only
  split <;> simp

@[simp] theorem execDrainDeadline_keepsMems (k : Fin 16) (s : State) : KeepsMems s (execDrainDeadline k s) := by
  unfold execDrainDeadline
  dsimp only
  split <;> simp

@[simp] theorem abortNow_mems (s : State) (k : Nat) : hostMems (abortNow s k).host = hostMems s.host := by simp [abortNow]
@[simp] theorem parkOps_mems (s : State) (k : Nat) : hostMems (parkOps s k).host = hostMems s.host := by simp [parkOps]
@[simp] theorem parkStream_mems (s : State) (k : Nat) : hostMems (parkStream s k).host = hostMems s.host := by simp [parkStream]

/-! ### Image headers, the Deck's sections, and what a Deck puts into the machine -/

@[simp] theorem commitHistory_mems (old new : State) : hostMems (commitHistory old new).host = hostMems new.host := by
  unfold commitHistory
  dsimp only
  split
  · rfl
  · exact congrArg hostMems (note_host ..)

@[simp] theorem useDeck_mems (s : State) (deck : List Byte) (imgs : Tbl (List Byte)) : hostMems (useDeck s deck imgs).host = hostMems s.host :=
  commitHistory_mems s _

@[simp] theorem loadBlocks_mems (s : State) (i : Nat) : hostMems (loadBlocks s i).host = hostMems s.host := by simp [loadBlocks]
@[simp] theorem loadLaws_mems (s : State) (le : Nat) : hostMems (loadLaws s le).host = hostMems s.host := by simp [loadLaws]

@[simp] theorem pocketHeader_mems (s : State) (l : List (Nat × List Byte)) : hostMems (pocketHeader s l).host = hostMems s.host := by
  rw [pocketHeader, setPocket_host]

/-! ### Entering a mode: Shingle change, visibility, and what each mode does to outputs, forces, streams and programs -/

@[simp] theorem refreshOuts_mems (s : State) : hostMems (refreshOuts s).host = hostMems s.host := by simp [refreshOuts]
@[simp] theorem pendMode_fst_mems (s : State) (dest : Mode) (trigger : Nat) (reply : Option (Nat × Nat)) :
    hostMems (pendMode s dest trigger reply).1.host = hostMems s.host := by simp [pendMode]
@[simp] theorem exchReport_mems (s : State) (x : ExchSt) (r : ExchRep) : hostMems (exchReport s x r).host = hostMems s.host := by simp [exchReport]

@[simp] theorem abandonExch_mems (s : State) : hostMems (abandonExch s).host = hostMems s.host := by
  unfold abandonExch
  split <;> simp

/-! ### The Ridge: fault codes and reactions, permits, latches, the fault record and the RIDGE points -/

@[simp] theorem ridgePoints_mems (s : State) : hostMems (ridgePoints s).host = hostMems s.host := by simp [ridgePoints]
@[simp] theorem putRecord_mems (s : State) (f : FaultRecord → FaultRecord) : hostMems (putRecord s f).host = hostMems s.host := rfl
@[simp] theorem causeEnd_mems (s : State) (p : Latch → Bool) : hostMems (causeEnd s p).host = hostMems s.host := rfl
@[simp] theorem noteRelease_mems (s : State) : hostMems (noteRelease s).host = hostMems s.host := by simp [noteRelease]
@[simp] theorem dropRelatched_mems (s : State) : hostMems (dropRelatched s).host = hostMems s.host := by simp [dropRelatched]
@[simp] theorem safeReset_mems (s : State) (r : Req) (op : Nat) : hostMems (safeReset s r op).host = hostMems s.host := by simp [safeReset]

@[simp] theorem elemResult_mems (s : State) (g e : Nat) (passed : Bool) : hostMems (elemResult s g e passed).host = hostMems s.host := by
  unfold elemResult
  dsimp only
  split <;> simp

/-! ### The event recorder: records, coalescing, commits, the journal, anchors, faults, clears -/

@[simp] theorem putAnchor_mems (s : State) (seq : Word) : hostMems (putAnchor s seq).host = hostMems s.host := by
  unfold putAnchor
  split
  · rfl
  · rw [setRec_host]

@[simp] theorem createRec_mems (s : State) (e : Event) : hostMems (createRec s e).host = hostMems s.host := by
  unfold createRec
  split <;> simp

@[simp] theorem execEventRecordCreate_keepsMems (s : State) : KeepsMems s (execEventRecordCreate s) := by
  unfold execEventRecordCreate
  split <;> simp

@[simp] theorem execCoalesceWindowEnd_keepsMems (s : State) : KeepsMems s (execCoalesceWindowEnd s) := by
  unfold execCoalesceWindowEnd
  split <;> simp

@[simp] theorem commitRec_mems (s : State) (x : EvRec) : hostMems (commitRec s x).host = hostMems s.host := by
  unfold commitRec
  dsimp only
  split <;> simp

@[simp] theorem execRecordCommit_keepsMems (s : State) : KeepsMems s (execRecordCommit s) := by
  unfold execRecordCommit
  split <;> simp

@[simp] theorem execJournalSectorReclaim_keepsMems (s : State) : KeepsMems s (execJournalSectorReclaim s) := by
  unfold execJournalSectorReclaim
  dsimp only
  repeat' split
  all_goals simp

@[simp] theorem putLastWord_mems (s : State) (fault : Option (Nat × Nat)) : hostMems (putLastWord s fault).host = hostMems s.host := rfl
@[simp] theorem execRecorderFault_keepsMems (code : Fin 4) (addr : Word) (s : State) : KeepsMems s (execRecorderFault code addr s) := by simp [execRecorderFault]

@[simp] theorem execEvtRead_keepsMems (r : Req) (s : State) : KeepsMems s (execEvtRead r s) := by
  refine (keepsMems_next ..).mpr (command_mems ?_)
  dsimp only
  repeat' split
  all_goals simp

@[simp] theorem execEvtStatusGet_keepsMems (r : Req) (s : State) : KeepsMems s (execEvtStatusGet r s) := by
  refine (keepsMems_next ..).mpr (command_mems ?_)
  simp

@[simp] theorem execEvtAnchorsGet_keepsMems (r : Req) (s : State) : KeepsMems s (execEvtAnchorsGet r s) := by
  refine (keepsMems_next ..).mpr (command_mems ?_)
  dsimp only
  split <;> simp

@[simp] theorem execEvtSecretSet_keepsMems (r : Req) (s : State) : KeepsMems s (execEvtSecretSet r s) := by
  refine (keepsMems_next ..).mpr (command_mems ?_)
  split <;> simp

@[simp] theorem execEvtClearChallenge_keepsMems (r : Req) (s : State) : KeepsMems s (execEvtClearChallenge r s) := by
  refine (keepsMems_next ..).mpr (command_mems ?_)
  dsimp only
  repeat' split
  all_goals simp

@[simp] theorem clearFailed_mems (s : State) (r : Req) : hostMems (clearFailed s r).host = hostMems s.host := by simp [clearFailed]

@[simp] theorem execEvtClear_keepsMems (r : Req) (s : State) : KeepsMems s (execEvtClear r s) := by
  refine (keepsMems_next ..).mpr (command_mems ?_)
  dsimp only
  repeat' split
  all_goals simp

/-! ### Capture units and the trigger bus -/

@[simp] theorem acqPoints_mems (s : State) (u : Nat) : hostMems (acqPoints s u).host = hostMems s.host := congrArg hostMems (updates_host ..)
@[simp] theorem acqArm_mems (s : State) (u : Nat) (keepPool : Bool) : hostMems (acqArm s u keepPool).host = hostMems s.host := by simp [acqArm]
@[simp] theorem acqDisable_mems (s : State) (u st : Nat) : hostMems (acqDisable s u st).host = hostMems s.host := by simp [acqDisable]
@[simp] theorem acqSync_mems (s : State) (u : Nat) : hostMems (acqSync s u).host = hostMems s.host := by simp [acqSync]

@[simp] theorem acqClose_mems (s : State) (u stop : Nat) (more : BitVec 16) : hostMems (acqClose s u stop more).host = hostMems s.host := by
  unfold acqClose
  dsimp only
  split <;> simp

@[simp] theorem lineTasks_mems (s : State) (n : Nat) (rise : Bool) (t : Nat) : hostMems (lineTasks s n rise t).host = hostMems s.host := rfl
@[simp] theorem acqDrive_mems (s : State) (u t : Nat) : hostMems (acqDrive s u t).host = hostMems s.host := by simp [acqDrive]
@[simp] theorem acqOpen_mems (s : State) (u t kind : Nat) (fl : BitVec 16) : hostMems (acqOpen s u t kind fl).host = hostMems s.host := by simp [acqOpen]
@[simp] theorem acqMiss_mems (s : State) (u t : Nat) : hostMems (acqMiss s u t).host = hostMems s.host := by simp [acqMiss]
@[simp] theorem holdoffEnd_mems (s : State) (u : Nat) : hostMems (holdoffEnd s u).host = hostMems s.host := by simp [holdoffEnd]
@[simp] theorem switchDone_mems (s : State) (u : Nat) : hostMems (switchDone s u).host = hostMems s.host := by simp [switchDone]

@[simp] theorem acqTrigger_mems (k : Nat) (s : State) (u t kind : Nat) (fl : BitVec 16) : hostMems (acqTrigger k s u t kind fl).host = hostMems s.host := by
  induction k generalizing s u t kind fl with
  | zero => rfl
  | succ k ih => 
    unfold acqTrigger
    dsimp only
    repeat' split
    all_goals simp [ih]

@[simp] theorem execAcqTriggerEvent_keepsMems (u : Fin 32) (t : DWord) (v : Word) (s : State) : KeepsMems s (execAcqTriggerEvent u t v s) := by simp [execAcqTriggerEvent]
@[simp] theorem execAcqAutoTimeout_keepsMems (u : Fin 32) (s : State) : KeepsMems s (execAcqAutoTimeout u s) := by simp [execAcqAutoTimeout]
@[simp] theorem acqPut_mems (s : State) (u : Nat) (x : AcqItem) : hostMems (acqPut s u x).host = hostMems s.host := rfl

@[simp] theorem acqFrameIn_mems (s : State) (u t : Nat) (vals : List Word) (raw : List Byte) : hostMems (acqFrameIn s u t vals raw).host = hostMems s.host := by
  unfold acqFrameIn
  dsimp only
  repeat' split
  all_goals simp

@[simp] theorem acqChangeIn_mems (s : State) (u t : Nat) (vals : List (Word × Nat)) : hostMems (acqChangeIn s u t vals).host = hostMems s.host := by
  unfold acqChangeIn
  refine foldl_keeps (fun s : State => hostMems s.host) (fun s x => ?_) _ _
  dsimp only
  split
  · rw [setAcq_host]
  · split <;> simp

@[simp] theorem execCaptureSample_keepsMems (u : Fin 32) (t : DWord) (vals : List Word) (s : State) : KeepsMems s (execCaptureSample u t vals s) := by
  unfold execCaptureSample
  dsimp only
  split
  · simp
  · split <;> simp

@[simp] theorem execAcqGap_keepsMems (u : Fin 32) (on : Bool) (s : State) : KeepsMems s (execAcqGap u on s) := by
  unfold execAcqGap
  dsimp only
  repeat' split
  all_goals simp

@[simp] theorem acqFinish_mems (s : State) (u stop : Nat) (fl : BitVec 16) : hostMems (acqFinish s u stop fl).host = hostMems s.host := by simp [acqFinish]

@[simp] theorem execAcqRecordEnd_keepsMems (u : Fin 32) (s : State) : KeepsMems s (execAcqRecordEnd u s) := by
  unfold execAcqRecordEnd
  dsimp only
  split <;> simp

@[simp] theorem execAcqHoldoffEnd_keepsMems (u : Fin 32) (s : State) : KeepsMems s (execAcqHoldoffEnd u s) := by simp [execAcqHoldoffEnd]

@[simp] theorem execAcqDisableDeadline_keepsMems (u : Fin 32) (s : State) : KeepsMems s (execAcqDisableDeadline u s) := by
  unfold execAcqDisableDeadline
  dsimp only
  split <;> simp

@[simp] theorem lineFire_mems (s : State) (n t : Nat) : hostMems (lineFire s n t).host = hostMems s.host := by simp [lineFire]
@[simp] theorem drivePulse_mems (s : State) (n t : Nat) : hostMems (drivePulse s n t).host = hostMems s.host := rfl

@[simp] theorem execTrgPulseDrive_keepsMems (line : Fin 4) (s : State) : KeepsMems s (execTrgPulseDrive line s) := by
  unfold execTrgPulseDrive
  dsimp only
  split
  · simp
  · split <;> simp

@[simp] theorem execTrgEdgeReceive_keepsMems (line : Fin 4) (tag : DWord) (rise : Bool) (s : State) : KeepsMems s (execTrgEdgeReceive line tag rise s) := by
  unfold execTrgEdgeReceive
  dsimp only
  repeat' split
  all_goals simp

@[simp] theorem execTrgEcho_keepsMems (line : Fin 4) (s : State) : KeepsMems s (execTrgEcho line s) := by
  unfold execTrgEcho
  dsimp only
  split <;> simp

@[simp] theorem execNoEcho_keepsMems (line : Fin 4) (s : State) : KeepsMems s (execNoEcho line s) := by
  unfold execNoEcho
  split <;> simp

@[simp] theorem eachUnit_mems {f : State → Nat → State} (h : ∀ s u, SameMems s (f s u)) (s : State) (mask : Nat) : hostMems (eachUnit s mask f).host = hostMems s.host := by
  unfold eachUnit
  refine foldl_keeps (fun s : State => hostMems s.host) (fun s u => ?_) _ _
  split
  · exact (h s u).mems
  · rfl

@[simp] theorem execAcqArm_keepsMems (r : Req) (s : State) : KeepsMems s (execAcqArm r s) := by
  refine (keepsMems_next ..).mpr (command_mems ?_)
  simp

@[simp] theorem execAcqTrigger_keepsMems (r : Req) (s : State) : KeepsMems s (execAcqTrigger r s) := by
  refine (keepsMems_next ..).mpr (command_mems ?_)
  simp

@[simp] theorem execAcqStop_keepsMems (r : Req) (s : State) : KeepsMems s (execAcqStop r s) := by
  refine (keepsMems_next ..).mpr (command_mems ?_)
  simp

@[simp] theorem execAcqRelease_keepsMems (r : Req) (s : State) : KeepsMems s (execAcqRelease r s) := by
  refine (keepsMems_next ..).mpr (command_mems ?_)
  simp

@[simp] theorem execTrgCalibrate_keepsMems (r : Req) (s : State) : KeepsMems s (execTrgCalibrate r s) := by
  refine (keepsMems_next ..).mpr (command_mems ?_)
  simp

/-! ### Analog inputs, analog outputs and encoders: conversions, flags, self-tests, counts -/

@[simp] theorem aiConvert_mems (s : State) (a : Nat) (counts : Int) (x : Word) (lim : Int) : hostMems (aiConvert s a counts x lim).host = hostMems s.host := by simp [aiConvert]
@[simp] theorem execSarConversionEnd_keepsMems (a : BitVec 7) (counts : BitVec 16) (x : Word) (s : State) :
    KeepsMems s (execSarConversionEnd a counts x s) := by simp [execSarConversionEnd]
@[simp] theorem execSigmaDeltaConversionEnd_keepsMems (a : BitVec 7) (counts : BitVec 24) (x : Word) (isOpen off : Bool) (s : State) :
    KeepsMems s (execSigmaDeltaConversionEnd a counts x isOpen off s) := by simp [execSigmaDeltaConversionEnd]

@[simp] theorem execAiFlagTimer_keepsMems (a : BitVec 7) (k : Fin 7) (s : State) : KeepsMems s (execAiFlagTimer a k s) := by
  unfold execAiFlagTimer
  split <;> simp

@[simp] theorem execAiShuntReclose_keepsMems (a : BitVec 7) (ma : Word) (s : State) : KeepsMems s (execAiShuntReclose a ma s) := by simp [execAiShuntReclose]
@[simp] theorem execSarSelftest_keepsMems (k : Fin 16) (good : Bool) (s : State) : KeepsMems s (execSarSelftest k good s) := by simp [execSarSelftest]

@[simp] theorem execAoSelftest_keepsMems (a : Fin 32) (meas : Word) (s : State) : KeepsMems s (execAoSelftest a meas s) := by
  unfold execAoSelftest
  dsimp only
  split <;> simp

@[simp] theorem execSelftestClear_keepsMems (unit : Fin 160) (s : State) : KeepsMems s (execSelftestClear unit s) := by simp [execSelftestClear]
@[simp] theorem execAoFlagTimer_keepsMems (a : Fin 32) (on : Bool) (s : State) : KeepsMems s (execAoFlagTimer a on s) := by simp [execAoFlagTimer]
@[simp] theorem encUnref_mems (s : State) (e : Nat) : hostMems (encUnref s e).host = hostMems s.host := by simp [encUnref]
@[simp] theorem encFlag_mems (s : State) (e k : Nat) (v : Bool) : hostMems (encFlag s e k v).host = hostMems s.host := by simp [encFlag]
@[simp] theorem execEncLineChange_keepsMems (e : Fin 16) (a b : Bool) (s : State) : KeepsMems s (execEncLineChange e a b s) := by simp [execEncLineChange]

@[simp] theorem execEncIndex_keepsMems (e : Fin 16) (s : State) : KeepsMems s (execEncIndex e s) := by
  unfold execEncIndex
  dsimp only
  repeat' split
  all_goals simp

@[simp] theorem execEncLineFault_keepsMems (e : Fin 16) (on : Bool) (s : State) : KeepsMems s (execEncLineFault e on s) := by simp [execEncLineFault]
@[simp] theorem execLineFaultClear_keepsMems (e : Fin 16) (s : State) : KeepsMems s (execLineFaultClear e s) := by simp [execLineFaultClear]

@[simp] theorem execEncVelocityTimeout_keepsMems (e : Fin 16) (s : State) : KeepsMems s (execEncVelocityTimeout e s) := by
  unfold execEncVelocityTimeout
  split <;> simp

/-! ### What a tile does with its axes: batches, segments, microsteps, limits, the disable deadline -/

@[simp] theorem raiseCurrent_mems (s : State) (x : Nat) : hostMems (raiseCurrent s x).host = hostMems s.host := by simp [raiseCurrent]
@[simp] theorem takeBatch_mems (s : State) (b : Batch) : hostMems (takeBatch s b).host = hostMems s.host := by simp [takeBatch]

@[simp] theorem execSegmentBatchReceive_keepsMems (tile : Fin 4) (s : State) : KeepsMems s (execSegmentBatchReceive tile s) := by
  unfold execSegmentBatchReceive
  split <;> simp

@[simp] theorem execSegmentStart_keepsMems (ax : Fin 32) (s : State) : KeepsMems s (execSegmentStart ax s) := by
  unfold execSegmentStart
  dsimp only
  split
  · simp
  · split <;> simp

@[simp] theorem meanTick_mems (s : State) (x : Nat) : hostMems (execMicrostepUpdate.meanTick s x).host = hostMems s.host := by
  unfold execMicrostepUpdate.meanTick
  dsimp only
  repeat' split
  all_goals simp

@[simp] theorem execMicrostepUpdate_keepsMems (ax : Fin 32) (s : State) : KeepsMems s (execMicrostepUpdate ax s) := by simp [execMicrostepUpdate]

@[simp] theorem execStopComplete_keepsMems (ax : Fin 32) (s : State) : KeepsMems s (execStopComplete ax s) := by
  unfold execStopComplete
  dsimp only
  split <;> simp

@[simp] theorem execLimitLatch_keepsMems (ax : Fin 32) (lim : Fin 2) (s : State) : KeepsMems s (execLimitLatch ax lim s) := by simp [execLimitLatch]
@[simp] theorem execLimitLatchClear_keepsMems (ax : Fin 32) (lim : Fin 2) (s : State) : KeepsMems s (execLimitLatchClear ax lim s) := by simp [execLimitLatchClear]
@[simp] theorem execLimitChatterClear_keepsMems (ax : Fin 32) (lim : Fin 2) (s : State) : KeepsMems s (execLimitChatterClear ax lim s) := by simp [execLimitChatterClear]

@[simp] theorem execAxisDisableDeadline_keepsMems (ax : Fin 32) (s : State) : KeepsMems s (execAxisDisableDeadline ax s) := by
  unfold execAxisDisableDeadline
  dsimp only
  split <;> simp

/-! ### The operand forms of a cycle engine: points, LOCAL items, the records of instances, immediates, and the fault that ends a release -/

@[simp] theorem dataWrite_mems (s : State) (c a : Nat) (l : List Byte) : hostMems (dataWrite s c a l).host = hostMems s.host := rfl
@[simp] theorem outWrite_mems (s : State) (c : Nat) (p : Nat) (v : Word) (q : Nat) : hostMems (outWrite s c p v q).host = hostMems s.host := by simp [outWrite]
@[simp] theorem putWord_mems (s : State) (c : Nat) (x : BitVec 25) (v : Word) (q : Nat) : hostMems (putWord s c x v q).host = hostMems s.host := by simp [putWord]
@[simp] theorem putBit_mems (s : State) (c : Nat) (x : BitVec 25) (b : Bool) : hostMems (putBit s c x b).host = hostMems s.host := by simp [putBit]

@[simp] theorem blFault_mems (s : State) (c code pc word : Nat) : hostMems (blFault s c code pc word).host = hostMems s.host := by
  unfold blFault
  split <;> simp

@[simp] theorem blExec_mems (ce : Fin 16) (op : Nat) (x : BitVec 25) (s : State) {f : Nat → Release → BlRegs → State → Except Nat (BlRegs × State)}
    (h : ∀ c r g, OkSameMems s (f c r g s)) : hostMems (blExec ce op x s f).host = hostMems s.host := by
  unfold blExec
  dsimp only
  split
  · rfl
  · next r _ =>
    split
    · rfl
    · split
      · simp
      · have := h ce.val r { (engine s ce.val).bl with pc := (engine s ce.val).bl.pc + 1 }
        split
        · next g' s' heq => simpa [OkSameMems, heq] using this
        · simp

@[simp] theorem opNone_mems (ce : Fin 16) (op : Nat) (x : BitVec 25) (s : State) (f : Nat → Release → BlRegs → State → Except Nat BlRegs) :
    hostMems (opNone ce op x s f).host = hostMems s.host := by simp [opNone]
@[simp] theorem opBit_mems (ce : Fin 16) (op : Nat) (x : BitVec 25) (s : State) (f : BlRegs → Bool → BlRegs) : hostMems (opBit ce op x s f).host = hostMems s.host := by simp [opBit]
@[simp] theorem opGood_mems (ce : Fin 16) (op : Nat) (x : BitVec 25) (s : State) (f : BlRegs → Bool → BlRegs) : hostMems (opGood ce op x s f).host = hostMems s.host := by simp [opGood]
@[simp] theorem opWord_mems (ce : Fin 16) (op : Nat) (x : BitVec 25) (s : State) (f : BlRegs → Word → BlRegs) : hostMems (opWord ce op x s f).host = hostMems s.host := by simp [opWord]

@[simp] theorem opPutBit_mems (ce : Fin 16) (op : Nat) (x : BitVec 25) (s : State) (f : BlRegs → Option Bool) : hostMems (opPutBit ce op x s f).host = hostMems s.host :=
  blExec_mems _ _ _ _ fun c r g => by
    split
    · simp
    · split <;> simp

@[simp] theorem opImm_mems (ce : Fin 16) (op : Nat) (x : BitVec 25) (s : State) (f : BlRegs → Int → BlRegs) : hostMems (opImm ce op x s f).host = hostMems s.host := by simp [opImm]
@[simp] theorem opShift_mems (ce : Fin 16) (op : Nat) (x : BitVec 25) (s : State) (f : Word → Nat → Word) : hostMems (opShift ce op x s f).host = hostMems s.host := by simp [opShift]
@[simp] theorem opCode_mems (ce : Fin 16) (op : Nat) (x : BitVec 25) (s : State) (f : BlRegs → Nat → Except Nat BlRegs) :
    hostMems (opCode ce op x s f).host = hostMems s.host := by simp [opCode]

@[simp] theorem opInst_mems (ce : Fin 16) (op : Nat) (x : BitVec 25) (s : State) {f : Nat → Release → BlRegs → State → Except Nat (BlRegs × State)}
    (h : ∀ c r g, OkSameMems s (f c r g s)) : hostMems (opInst ce op x s f).host = hostMems s.host :=
  blExec_mems _ _ _ _ fun c r g => by simp [h]

@[simp] theorem endAsk_mems (s : State) (c : Nat) (discard : Bool) : hostMems (endAsk s c discard).host = hostMems s.host := by simp [endAsk]

/-! ### The bit-logic instruction set of the cycle engines -/

@[simp] theorem timerOp_mems (ce : Fin 16) (op : Nat) (x : BitVec 25) (s : State) (ty : Nat) (f : TimerRec → Bool → Nat → Nat → Nat → TimerRec) :
    hostMems (timerOp ce op x s ty f).host = hostMems s.host := by simp [timerOp]

@[simp] theorem counterOp_mems (ce : Fin 16) (op : Nat) (x : BitVec 25) (s : State) (ty n : Nat) (f : CountRec → List Bool → Bool → CountRec × Bool) :
    hostMems (counterOp ce op x s ty n f).host = hostMems s.host :=
  opInst_mems _ _ _ _ fun c r g => by
    dsimp only
    split
    · simp
    · split <;> simp

@[simp] theorem edgeOp_mems (ce : Fin 16) (op : Nat) (x : BitVec 25) (s : State) (ty : Nat) (f : Bool → Bool → Bool) :
    hostMems (edgeOp ce op x s ty f).host = hostMems s.host := by simp [edgeOp]

@[simp] theorem endForm_mems (ce : Fin 16) (op : Nat) (x : BitVec 25) (s : State) (cond : BlRegs → Bool) : hostMems (endForm ce op x s cond).host = hostMems s.host := by
  unfold endForm
  dsimp only
  split <;> simp

@[simp] theorem execBlStwq_keepsMems (ce : Fin 16) (x : BitVec 25) (s : State) : KeepsMems s (execBlStwq ce x s) := by simp [execBlStwq]
@[simp] theorem execBlLdwx_keepsMems (ce : Fin 16) (x : BitVec 25) (s : State) : KeepsMems s (execBlLdwx ce x s) := by simp [execBlLdwx]
@[simp] theorem execBlStwx_keepsMems (ce : Fin 16) (x : BitVec 25) (s : State) : KeepsMems s (execBlStwx ce x s) := by simp [execBlStwx]
@[simp] theorem execBlMul_keepsMems (ce : Fin 16) (x : BitVec 25) (s : State) : KeepsMems s (execBlMul ce x s) := by simp [execBlMul]
@[simp] theorem execBlDiv_keepsMems (ce : Fin 16) (x : BitVec 25) (s : State) : KeepsMems s (execBlDiv ce x s) := by simp [execBlDiv]
@[simp] theorem execBlDivf_keepsMems (ce : Fin 16) (x : BitVec 25) (s : State) : KeepsMems s (execBlDivf ce x s) := by simp [execBlDivf]
@[simp] theorem execBlFtoi_keepsMems (ce : Fin 16) (x : BitVec 25) (s : State) : KeepsMems s (execBlFtoi ce x s) := by simp [execBlFtoi]
@[simp] theorem execBlCtu_keepsMems (ce : Fin 16) (x : BitVec 25) (s : State) : KeepsMems s (execBlCtu ce x s) := by simp [execBlCtu]
@[simp] theorem execBlCtd_keepsMems (ce : Fin 16) (x : BitVec 25) (s : State) : KeepsMems s (execBlCtd ce x s) := by simp [execBlCtd]
@[simp] theorem execBlCtud_keepsMems (ce : Fin 16) (x : BitVec 25) (s : State) : KeepsMems s (execBlCtud ce x s) := by simp [execBlCtud]

@[simp] theorem execBlLdiv_keepsMems (ce : Fin 16) (x : BitVec 25) (s : State) : KeepsMems s (execBlLdiv ce x s) := by
  refine (keepsMems_next ..).mpr (id (opInst_mems _ _ _ _ fun c r g => ?_))
  dsimp only
  split <;> simp

@[simp] theorem execBlStiv_keepsMems (ce : Fin 16) (x : BitVec 25) (s : State) : KeepsMems s (execBlStiv ce x s) := by
  refine (keepsMems_next ..).mpr (id (opInst_mems _ _ _ _ fun c r g => ?_))
  dsimp only
  split <;> simp

@[simp] theorem execBlIllegalOpcode_keepsMems (ce : Fin 16) (word : Word) (s : State) : KeepsMems s (execBlIllegalOpcode ce word s) := by
  unfold execBlIllegalOpcode
  dsimp only
  split <;> simp

@[simp] theorem execRetainCommit_keepsMems (prog : Byte) (s : State) : KeepsMems s (execRetainCommit prog s) := by
  unfold execRetainCommit
  dsimp only
  split <;> simp

/-! ### CAN channels: attempts, reception, error states, slots' ends, TTCAN and the host's frames -/

@[simp] theorem canNote_mems (s : State) (c old : Nat) : hostMems (canNote s c old).host = hostMems s.host := by simp [canNote]
@[simp] theorem canBusOffCheck_mems (s : State) (c : Nat) : hostMems (canBusOffCheck s c).host = hostMems s.host := by simp [canBusOffCheck]
@[simp] theorem canError_mems (s : State) (c tec rec_ : Nat) : hostMems (canError s c tec rec_).host = hostMems s.host := by simp [canError]
@[simp] theorem canHeard_mems (s : State) (c : Nat) : hostMems (canHeard s c).host = hostMems s.host := rfl

@[simp] theorem canRef_mems (s : State) (c id tag : Nat) (data : List Byte) : hostMems (canRef s c id tag data).host = hostMems s.host := by
  unfold canRef
  dsimp only
  repeat' split
  all_goals simp only [takeMeas_mems, canPoints_mems, setCan_host, note_host]

@[simp] theorem stnArrive_mems (s : State) (k bi : Nat) (b : Block) (data : List Byte) : hostMems (stnArrive s k bi b data).host = hostMems s.host := by simp [stnArrive]

@[simp] theorem canTake_mems (s : State) (c id tag : Nat) (data : List Byte) : hostMems (canTake s c id tag data).host = hostMems s.host := by
  unfold canTake
  dsimp only
  repeat' split
  all_goals simp

@[simp] theorem canBusy_mems (s : State) (c dur : Nat) : hostMems (canBusy s c dur).host = hostMems s.host := rfl
@[simp] theorem recDown_mems (s : State) (c : Nat) : hostMems (recDown s c).host = hostMems s.host := by simp [recDown]
@[simp] theorem execCanFrameReceive_keepsMems (ch : Fin 8) (id : Word) (data : List Byte) (tag : DWord) (dur : Half) (s : State) :
    KeepsMems s (execCanFrameReceive ch id data tag dur s) := by simp [execCanFrameReceive]
@[simp] theorem execCanRxError_keepsMems (ch : Fin 8) (dom : Bool) (s : State) : KeepsMems s (execCanRxError ch dom s) := by simp [execCanRxError]
@[simp] theorem execCanProtocolException_keepsMems (ch : Fin 8) (s : State) : KeepsMems s (execCanProtocolException ch s) := by simp [execCanProtocolException]

@[simp] theorem execPexTimeout_keepsMems (ch : Fin 8) (s : State) : KeepsMems s (execPexTimeout ch s) := by
  unfold execPexTimeout
  split <;> simp

@[simp] theorem canStart_mems (s : State) (c k : Nat) (f : CanFrame) : hostMems (canStart s c k f).host = hostMems s.host := by simp [canStart]

@[simp] theorem execCanTxStart_keepsMems (ch : Fin 8) (s : State) : KeepsMems s (execCanTxStart ch s) := by
  unfold execCanTxStart
  dsimp only
  split
  · simp
  · split <;> simp

@[simp] theorem canFailed_mems (s : State) (c k : Nat) (f : CanFrame) (ack : Bool) : hostMems (canFailed s c k f ack).host = hostMems s.host := by
  unfold canFailed
  split <;> simp

@[simp] theorem execCanTxAttemptEnd_keepsMems (ch : Fin 8) (result : Fin 6) (dur : Half) (s : State) : KeepsMems s (execCanTxAttemptEnd ch result dur s) := by
  unfold execCanTxAttemptEnd
  dsimp only
  repeat' split
  all_goals simp

@[simp] theorem execCanTxdTimeout_keepsMems (ch : Fin 8) (s : State) : KeepsMems s (execCanTxdTimeout ch s) := by simp [execCanTxdTimeout]
@[simp] theorem execCanBusOffRecovery_keepsMems (ch : Fin 8) (s : State) : KeepsMems s (execCanBusOffRecovery ch s) := by simp [execCanBusOffRecovery]

@[simp] theorem execCanSlotDeadline_keepsMems (ch : Fin 8) (slot : Fin 32) (s : State) : KeepsMems s (execCanSlotDeadline ch slot s) := by
  unfold execCanSlotDeadline
  dsimp only
  split <;> simp

@[simp] theorem execCanHoldRepeat_keepsMems (ch : Fin 8) (slot : Fin 32) (s : State) : KeepsMems s (execCanHoldRepeat ch slot s) := by
  unfold execCanHoldRepeat
  dsimp only
  split <;> simp

@[simp] theorem execTtReferenceSend_keepsMems (ch : Fin 8) (won : Bool) (s : State) : KeepsMems s (execTtReferenceSend ch won s) := by
  unfold execTtReferenceSend
  dsimp only
  repeat' split
  all_goals simp only [keepsMems_next, takeMeas_mems, canPoints_mems, send_host, setCan_host, note_host, canSync_mems]

@[simp] theorem execTtWindow_keepsMems (ch : Fin 8) (slot : Fin 32) (idle : Bool) (s : State) : KeepsMems s (execTtWindow ch slot idle s) := by
  unfold execTtWindow
  dsimp only
  split <;> simp

@[simp] theorem execTtSyncLoss_keepsMems (ch : Fin 8) (s : State) : KeepsMems s (execTtSyncLoss ch s) := by
  unfold execTtSyncLoss
  dsimp only
  split <;> simp

@[simp] theorem execCanSend_keepsMems (r : Req) (s : State) : KeepsMems s (execCanSend r s) := by
  refine (keepsMems_next ..).mpr (command_mems ?_)
  dsimp only
  repeat' split
  all_goals simp

@[simp] theorem execCanAbort_keepsMems (r : Req) (s : State) : KeepsMems s (execCanAbort r s) := by
  refine (keepsMems_next ..).mpr (command_mems ?_)
  simp

@[simp] theorem execCanRecover_keepsMems (r : Req) (s : State) : KeepsMems s (execCanRecover r s) := by
  refine (keepsMems_next ..).mpr (command_mems ?_)
  simp

/-! ### The configurable 24 V channels: inputs, outputs, protection, diagnosis, group supply, safety groups -/

@[simp] theorem chAxes_mems (s : State) (c : Nat) : hostMems (chAxes s c).host = hostMems s.host := by simp [chAxes]
@[simp] theorem chNote_mems (s : State) (e : Ev) (c : Nat) (p : List Nat) : hostMems (chNote s e c p).host = hostMems s.host := by simp [chNote]
@[simp] theorem chFiltered_mems (s : State) (c : Nat) (v : Bool) : hostMems (chFiltered s c v).host = hostMems s.host := by simp [chFiltered]
@[simp] theorem execInputPinChange_keepsMems (c : BitVec 9) (level : Bool) (s : State) : KeepsMems s (execInputPinChange c level s) := by simp [execInputPinChange]
@[simp] theorem execFilteredStateChange_keepsMems (c : BitVec 9) (s : State) : KeepsMems s (execFilteredStateChange c s) := by simp [execFilteredStateChange]
@[simp] theorem execStepdown_keepsMems (c : BitVec 9) (s : State) : KeepsMems s (execStepdown c s) := by simp [execStepdown]
@[simp] theorem execWireBreakTimeout_keepsMems (c : BitVec 9) (ma : Word) (s : State) : KeepsMems s (execWireBreakTimeout c ma s) := by simp [execWireBreakTimeout]
@[simp] theorem execOverloadTimeout_keepsMems (c : BitVec 9) (ma : Word) (s : State) : KeepsMems s (execOverloadTimeout c ma s) := by simp [execOverloadTimeout]
@[simp] theorem execOverTemp_keepsMems (c : BitVec 9) (temp : Word) (s : State) : KeepsMems s (execOverTemp c temp s) := by simp [execOverTemp]
@[simp] theorem execOverTempRecover_keepsMems (c : BitVec 9) (temp : Word) (s : State) : KeepsMems s (execOverTempRecover c temp s) := by simp [execOverTempRecover]
@[simp] theorem execOverloadRetry_keepsMems (c : BitVec 9) (s : State) : KeepsMems s (execOverloadRetry c s) := by simp [execOverloadRetry]
@[simp] theorem execPairImbalance_keepsMems (c : BitVec 9) (on : Bool) (s : State) : KeepsMems s (execPairImbalance c on s) := by simp [execPairImbalance]

@[simp] theorem execGroupShed_keepsMems (unit : Fin 68) (ma : Nat) (s : State) : KeepsMems s (execGroupShed unit ma s) := by
  unfold execGroupShed
  dsimp only
  repeat' split
  all_goals simp

@[simp] theorem execSettleExpiry_keepsMems (c : BitVec 9) (s : State) : KeepsMems s (execSettleExpiry c s) := by simp [execSettleExpiry]
@[simp] theorem execOpenLoadDetect_keepsMems (c : BitVec 9) (ma : Word) (s : State) : KeepsMems s (execOpenLoadDetect c ma s) := by simp [execOpenLoadDetect]
@[simp] theorem execShortToLplusDetect_keepsMems (c : BitVec 9) (s : State) : KeepsMems s (execShortToLplusDetect c s) := by simp [execShortToLplusDetect]
@[simp] theorem execReverseDetect_keepsMems (c : BitVec 9) (s : State) : KeepsMems s (execReverseDetect c s) := by simp [execReverseDetect]
@[simp] theorem execStuckOnDetect_keepsMems (c : BitVec 9) (ma : Word) (s : State) : KeepsMems s (execStuckOnDetect c ma s) := by simp [execStuckOnDetect]
@[simp] theorem execReadbackFailDetect_keepsMems (c : BitVec 9) (s : State) : KeepsMems s (execReadbackFailDetect c s) := by simp [execReadbackFailDetect]
@[simp] theorem execChFlagClear_keepsMems (c : BitVec 9) (k : Fin 16) (s : State) : KeepsMems s (execChFlagClear c k s) := by simp [execChFlagClear]
@[simp] theorem execSupplyMeasure_keepsMems (g : Fin 64) (mv : Nat) (s : State) : KeepsMems s (execSupplyMeasure g mv s) := by simp [execSupplyMeasure]
@[simp] theorem grpNote_mems (s : State) (e : Ev) (g mv : Nat) : hostMems (grpNote s e g mv).host = hostMems s.host := by simp [grpNote]
@[simp] theorem execSupplyLow_keepsMems (g : Fin 64) (s : State) : KeepsMems s (execSupplyLow g s) := by simp [execSupplyLow]
@[simp] theorem execSupplyLost_keepsMems (g : Fin 64) (s : State) : KeepsMems s (execSupplyLost g s) := by simp [execSupplyLost]
@[simp] theorem execSupplyRestored_keepsMems (g : Fin 64) (s : State) : KeepsMems s (execSupplyRestored g s) := by simp [execSupplyRestored]

@[simp] theorem execGroupRestore_keepsMems (g : Fin 64) (s : State) : KeepsMems s (execGroupRestore g s) := by
  unfold execGroupRestore
  dsimp only
  split <;> simp

@[simp] theorem execPermitTimeout_keepsMems (g : Fin 64) (s : State) : KeepsMems s (execPermitTimeout g s) := by simp [execPermitTimeout]

@[simp] theorem execCutClear_keepsMems (g : Fin 64) (s : State) : KeepsMems s (execCutClear g s) := by
  unfold execCutClear
  dsimp only
  split
  · simp
  · split <;> simp

@[simp] theorem execCutElementTest_keepsMems (g : Fin 64) (elem : Fin 2) (s : State) : KeepsMems s (execCutElementTest g elem s) := by simp [execCutElementTest]

@[simp] theorem execCutTestEnd_keepsMems (g : Fin 64) (passed : Bool) (s : State) : KeepsMems s (execCutTestEnd g passed s) := by
  unfold execCutTestEnd
  dsimp only
  split <;> simp

/-! ### The motion engines: requests, planning, coupling, homing, segments -/

@[simp] theorem maintDone_mems (s : State) (i status : Nat) : hostMems (maintDone s i status).host = hostMems s.host := by
  unfold maintDone
  split <;> simp

@[simp] theorem moveEnd_mems (s : State) (i status detail : Nat) : hostMems (moveEnd s i status detail).host = hostMems s.host := by
  unfold moveEnd
  dsimp only
  split <;> simp

@[simp] theorem homeEnd_mems (s : State) (i code : Nat) : hostMems (homeEnd s i code).host = hostMems s.host := by
  unfold homeEnd
  split <;> simp

@[simp] theorem endRunning_mems (s : State) (i status : Nat) : hostMems (endRunning s i status).host = hostMems s.host := by simp [endRunning]

@[simp] theorem reqAdmit_okSameMems (s : State) (i req no : Nat) (data : List Nat) : OkSameMems s (reqAdmit s i req no data) := by
  unfold reqAdmit
  dsimp only
  repeat' split
  · simp
  · simp
  · simp
  · rw [OkSameMems, ← fresh_host s]
    exact opAdmit_okSameMems (fresh s).2 _ _ _ _ _ _ _ _ _

@[simp] theorem refuseReq_mems (s : State) (i no status : Nat) : hostMems (refuseReq s i no status).host = hostMems s.host := by
  unfold refuseReq
  dsimp only
  split <;> simp

@[simp] theorem setPlan_mems (s : State) (i st : Nat) (q : Plan) : hostMems (setPlan s i st q).host = hostMems s.host := rfl
@[simp] theorem profStop_mems (s : State) (i S : Nat) (A J : Rat) : hostMems (profStop s i S A J).host = hostMems s.host := by simp [profStop]
@[simp] theorem velPlan_mems (s : State) (i S st : Nat) (v : Rat) : hostMems (velPlan s i S st v).host = hostMems s.host := rfl
@[simp] theorem posPlan_mems (s : State) (i S st : Nat) (target : Rat) : hostMems (posPlan s i S st target).host = hostMems s.host := rfl
@[simp] theorem sampleTick_mems (s : State) (i t : Nat) : hostMems (sampleTick s i t).host = hostMems s.host := by simp [sampleTick]
@[simp] theorem armIndex_mems (s : State) (x : Nat) : hostMems (armIndex s x).host = hostMems s.host := rfl

@[simp] theorem homeStart_mems (s : State) (i S : Nat) : hostMems (homeStart s i S).host = hostMems s.host := by
  unfold homeStart
  obtain ⟨p, v, a⟩ := pfAt (prof s i) S
  dsimp only
  split
  · split
    · rw [homeEnd_mems, setProf_host, modAxis_host]
    · rw [homeEnd_mems, keepCommit_mems, setProf_host, modAxis_host, modAxis_host]
  · rw [velPlan_mems, setProf_host, host_ite, mems_ite, armIndex_mems, modAxis_host, ite_self]

@[simp] theorem setHome_mems (s : State) (i : Nat) (f : HomeSt → HomeSt) : hostMems (setHome s i f).host = hostMems s.host := rfl
@[simp] theorem homeFound_mems (s : State) (i S : Nat) (e : Int) (next : Nat) : hostMems (homeFound s i S e next).host = hostMems s.host := by simp [homeFound]

@[simp] theorem homeTick_mems (s : State) (i t S : Nat) : hostMems (homeTick s i t S).host = hostMems s.host := by
  unfold homeTick
  split <;> simp

@[simp] theorem startMotion_mems (s : State) (i t S req : Nat) (raw : Nat) : hostMems (startMotion s i t S req raw).host = hostMems s.host := by
  unfold startMotion
  dsimp only
  split <;> simp

@[simp] theorem stopReq_mems (s : State) (i S k : Nat) : hostMems (stopReq s i S k).host = hostMems s.host := by simp [stopReq]

@[simp] theorem takeReq_mems (s : State) (i t S : Nat) : hostMems (takeReq s i t S).host = hostMems s.host := by
  unfold takeReq
  extract_lets d w no req raw stopped ended u
  have hu : hostMems u.host = hostMems s.host := by simp [u]
  split
  · rfl
  · split
    · split <;> simp [ended, stopped]
    · split
      · simp
      · obtain ⟨p, v, a⟩ := pfAt d S
        dsimp only
        split
        · simp [hu]
        · next h t heq =>
          have ht : hostMems t.host = hostMems u.host := reqAdmit_okSameMems u i req no _ _ heq
          simp [ht, hu]

@[simp] theorem takeMaint_mems (s : State) (i t S : Nat) : hostMems (takeMaint s i t S).host = hostMems s.host := by
  unfold takeMaint
  split <;> simp

@[simp] theorem resumeMotion_mems (s : State) (i t S : Nat) : hostMems (resumeMotion s i t S).host = hostMems s.host := by
  unfold resumeMotion
  dsimp only
  repeat' split
  all_goals simp

@[simp] theorem enableTick_mems (s : State) (i t S : Nat) : hostMems (enableTick s i t S).host = hostMems s.host := by
  unfold enableTick
  dsimp only
  generalize hu : (if (isLocal i && !flag s pAxisEnable (axisOf i)) = true then setProf s i _ else s) = u
  have hm : hostMems u.host = hostMems s.host := by
    rw [← hu]
    split <;> rfl
  clear hu
  split
  · simp [hm]
  · split
    · simp [hm]
    · split
      · simp [hm]
      · split
        · simp [hm]
        · exact hm

@[simp] theorem tileTick_mems (s : State) (i _t S : Nat) : hostMems (tileTick s i _t S).host = hostMems s.host := by simp [tileTick]
@[simp] theorem softTick_mems (s : State) (i S : Nat) : hostMems (softTick s i S).host = hostMems s.host := by simp [softTick]
@[simp] theorem remoteLimit_mems (s : State) (i t S : Nat) : hostMems (remoteLimit s i t S).host = hostMems s.host := by simp [remoteLimit]
@[simp] theorem modeTick_mems (s : State) (i t S : Nat) : hostMems (modeTick s i t S).host = hostMems s.host := by simp [modeTick]

@[simp] theorem followTick_mems (s : State) (i t S : Nat) : hostMems (followTick s i t S).host = hostMems s.host := by
  unfold followTick
  dsimp only
  split <;> simp

@[simp] theorem stopTick_mems (s : State) (i S : Nat) : hostMems (stopTick s i S).host = hostMems s.host := by
  unfold stopTick
  split <;> simp

@[simp] theorem planTick_mems (s : State) (i S : Nat) : hostMems (planTick s i S).host = hostMems s.host := by
  unfold planTick
  dsimp only
  split <;> simp

@[simp] theorem coupleTick_mems (s : State) (i t S : Nat) : hostMems (coupleTick s i t S).host = hostMems s.host := by simp [coupleTick]
@[simp] theorem sendSeg_mems (s : State) (i t S : Nat) : hostMems (sendSeg s i t S).host = hostMems s.host := by simp [sendSeg]
@[simp] theorem pfPoints_mems (s : State) (i t S : Nat) : hostMems (pfPoints s i t S).host = hostMems s.host := by simp [pfPoints]
@[simp] theorem pfTick_mems (s : State) (i t : Nat) : hostMems (pfTick s i t).host = hostMems s.host := by simp [pfTick]

@[simp] theorem moveCkpt_mems (s : State) (i t : Nat) : hostMems (moveCkpt s i t).host = hostMems s.host := by
  unfold moveCkpt
  dsimp only
  split <;> simp

@[simp] theorem execMotionTick_keepsMems (me : Fin 4) (s : State) : KeepsMems s (execMotionTick me s) := by simp [execMotionTick]

@[simp] theorem execHomeTimeout_keepsMems (ax : Fin 32) (s : State) : KeepsMems s (execHomeTimeout ax s) := by
  unfold execHomeTimeout
  dsimp only
  split <;> simp

/-! ### The Ridge's rows and the SAFE commands -/

@[simp] theorem execPermitFrame_keepsMems (tile : Fin 4) (echo : Bool) (s : State) : KeepsMems s (execPermitFrame tile echo s) := by simp [execPermitFrame]
@[simp] theorem execCutTestSchedule_keepsMems (g : Fin 64) (el : Fin 2) (s : State) : KeepsMems s (execCutTestSchedule g el s) := by simp [execCutTestSchedule]
@[simp] theorem setEstop_mems (s : State) (f : EstopSt → EstopSt) : hostMems (setEstop s f).host = hostMems s.host := rfl
@[simp] theorem execEstopRelease_keepsMems (s : State) : KeepsMems s (execEstopRelease s) := by simp [execEstopRelease]
@[simp] theorem execRidgeStartupTestEnd_keepsMems (part : Fin 5) (passed : Bool) (tested : BitVec 64) (s : State) :
    KeepsMems s (execRidgeStartupTestEnd part passed tested s) := by simp [execRidgeStartupTestEnd]
@[simp] theorem safeChan_mems (s : State) (c : Nat) : hostMems (safeChan s c).host = hostMems s.host := by simp [safeChan]
@[simp] theorem safeAo_mems (s : State) (a : Nat) : hostMems (safeAo s a).host = hostMems s.host := by simp [safeAo]
@[simp] theorem safeAxis_mems (s : State) (x : Nat) : hostMems (safeAxis s x).host = hostMems s.host := by simp [safeAxis]
@[simp] theorem execSafeCommandReceive_keepsMems (isl : Byte) (s : State) : KeepsMems s (execSafeCommandReceive isl s) := by simp [execSafeCommandReceive]

@[simp] theorem execSafeReset_keepsMems (r : Req) (s : State) : KeepsMems s (execSafeReset r s) := by
  refine (keepsMems_next ..).mpr (command_mems ?_)
  simp

@[simp] theorem execSafeGroupReset_keepsMems (r : Req) (s : State) : KeepsMems s (execSafeGroupReset r s) := by
  refine (keepsMems_next ..).mpr (command_mems ?_)
  simp

@[simp] theorem execSafeProofTest_keepsMems (r : Req) (s : State) : KeepsMems s (execSafeProofTest r s) := by
  refine (keepsMems_next ..).mpr (command_mems ?_)
  simp

/-! ### Mode requests, image staging, Deck and image validation, commits and saves, firmware banks -/

@[simp] theorem execDeckValidationEnd_keepsMems (late : Fin 14) (detail device proof : Word) (s : State) : KeepsMems s (execDeckValidationEnd late detail device proof s) := by
  unfold execDeckValidationEnd
  split <;> simp

@[simp] theorem putFlash_mems (s : State) (f : FlashDeck) : hostMems (putFlash s f).host = hostMems s.host := rfl

@[simp] theorem execDeckCommitDone_keepsMems (readOk : Bool) (s : State) : KeepsMems s (execDeckCommitDone readOk s) := by
  unfold execDeckCommitDone
  dsimp only
  repeat' split
  all_goals simp

@[simp] theorem execDeckSaveDone_keepsMems (readOk : Bool) (s : State) : KeepsMems s (execDeckSaveDone readOk s) := by
  unfold execDeckSaveDone
  split <;> simp

@[simp] theorem execImageValidationEnd_keepsMems (late : Fin 14) (s : State) : KeepsMems s (execImageValidationEnd late s) := by
  unfold execImageValidationEnd
  split
  · simp
  · dsimp only
    repeat' split
    all_goals simp

@[simp] theorem execModeSet_keepsMems (r : Req) (s : State) : KeepsMems s (execModeSet r s) := by
  refine (keepsMems_next ..).mpr (command_mems ?_)
  dsimp only
  repeat' split
  all_goals simp

@[simp] theorem execImageStage_keepsMems (r : Req) (s : State) : KeepsMems s (execImageStage r s) := by
  refine (keepsMems_next ..).mpr (command_mems ?_)
  simp

@[simp] theorem execImageLoad_keepsMems (r : Req) (s : State) : KeepsMems s (execImageLoad r s) := by
  refine (keepsMems_next ..).mpr (command_mems ?_)
  simp

@[simp] theorem execDeckLoad_keepsMems (r : Req) (s : State) : KeepsMems s (execDeckLoad r s) := by
  refine (keepsMems_next ..).mpr (command_mems ?_)
  split <;> simp

@[simp] theorem execDeckCommit_keepsMems (r : Req) (s : State) : KeepsMems s (execDeckCommit r s) := by
  refine (keepsMems_next ..).mpr (command_mems ?_)
  simp

@[simp] theorem execDeckSave_keepsMems (r : Req) (s : State) : KeepsMems s (execDeckSave r s) := by
  refine (keepsMems_next ..).mpr (command_mems ?_)
  split <;> simp

@[simp] theorem execImageInfo_keepsMems (r : Req) (s : State) : KeepsMems s (execImageInfo r s) := by
  refine (keepsMems_next ..).mpr (command_mems ?_)
  split <;> simp

@[simp] theorem execFwUpdate_keepsMems (r : Req) (s : State) : KeepsMems s (execFwUpdate r s) := by
  refine (keepsMems_next ..).mpr (command_mems ?_)
  dsimp only
  repeat' split
  all_goals simp

@[simp] theorem execFwUpdateDone_keepsMems (sigOk readOk : Bool) (s : State) : KeepsMems s (execFwUpdateDone sigOk readOk s) := by
  unfold execFwUpdateDone
  split <;> simp

@[simp] theorem execFwSwap_keepsMems (r : Req) (s : State) : KeepsMems s (execFwSwap r s) := by
  refine (keepsMems_next ..).mpr (command_mems ?_)
  dsimp only
  repeat' split
  all_goals simp

/-! ### The check-value units and die temperatures -/

@[simp] theorem cvEnd_mems (s : State) (u : Nat) (j : CvJob) (x : CvRes) : hostMems (cvEnd s u j x).host = hostMems s.host := by simp [cvEnd]

@[simp] theorem execCvJobStart_keepsMems (u : Fin 4) (s : State) : KeepsMems s (execCvJobStart u s) := by
  unfold execCvJobStart
  dsimp only
  split
  · simp
  · split <;> simp

@[simp] theorem cvMean_snd_mems (s : State) (bytes ns : Nat) : hostMems (cvMean s bytes ns).2.host = hostMems s.host := by simp [cvMean]

@[simp] theorem execCvJobEnd_keepsMems (u : Fin 4) (data : List Byte) (fault : Fin 3) (off : Word) (s : State) : KeepsMems s (execCvJobEnd u data fault off s) := by
  unfold execCvJobEnd
  split <;> simp

@[simp] theorem execImageRescan_keepsMems (bad : Bool) (s : State) : KeepsMems s (execImageRescan bad s) := by simp [execImageRescan]
@[simp] theorem execDieTempMeasure_keepsMems (die : Fin 5) (mc : Word) (s : State) : KeepsMems s (execDieTempMeasure die mc s) := by simp [execDieTempMeasure]

@[simp] theorem execCvScan_keepsMems (r : Req) (s : State) : KeepsMems s (execCvScan r s) := by
  refine (keepsMems_next ..).mpr (command_mems ?_)
  dsimp only
  repeat' split
  all_goals simp

@[simp] theorem execCvResultGet_keepsMems (r : Req) (s : State) : KeepsMems s (execCvResultGet r s) := by
  refine (keepsMems_next ..).mpr (command_mems ?_)
  dsimp only
  repeat' split
  all_goals simp

@[simp] theorem execCvAbort_keepsMems (r : Req) (s : State) : KeepsMems s (execCvAbort r s) := by
  refine (keepsMems_next ..).mpr (command_mems ?_)
  dsimp only
  repeat' split
  all_goals simp

/-! ### The choppers of the tiles: fixed off time, hysteresis, coil faults, standstill current -/

@[simp] theorem setPhase_mems (s : State) (x : Nat) (b : Fin 2) (f : PhaseSt → PhaseSt) : hostMems (setPhase s x b f).host = hostMems s.host := rfl
@[simp] theorem sense_mems (s : State) (x : Nat) (b : Fin 2) (i : Int) : hostMems (sense s x b i).host = hostMems s.host := rfl
@[simp] theorem execChopBlankEnd_keepsMems (ax : Fin 32) (b : Fin 2) (i : Int) (s : State) : KeepsMems s (execChopBlankEnd ax b i s) := by simp [execChopBlankEnd]
@[simp] theorem execChopCurrentReached_keepsMems (ax : Fin 32) (b : Fin 2) (i : Int) (s : State) :
    KeepsMems s (execChopCurrentReached ax b i s) := by simp [execChopCurrentReached]
@[simp] theorem execChopOnMaxTimeout_keepsMems (ax : Fin 32) (b : Fin 2) (i : Int) (s : State) : KeepsMems s (execChopOnMaxTimeout ax b i s) := by simp [execChopOnMaxTimeout]
@[simp] theorem execChopFastDecayEnd_keepsMems (ax : Fin 32) (b : Fin 2) (s : State) : KeepsMems s (execChopFastDecayEnd ax b s) := by simp [execChopFastDecayEnd]
@[simp] theorem execChopOffEnd_keepsMems (ax : Fin 32) (b : Fin 2) (s : State) : KeepsMems s (execChopOffEnd ax b s) := by simp [execChopOffEnd]
@[simp] theorem execChopDeadTimeEnd_keepsMems (ax : Fin 32) (b : Fin 2) (s : State) : KeepsMems s (execChopDeadTimeEnd ax b s) := by simp [execChopDeadTimeEnd]
@[simp] theorem execHystThreshold_keepsMems (ax : Fin 32) (b : Fin 2) (i : Int) (s : State) : KeepsMems s (execHystThreshold ax b i s) := by simp [execHystThreshold]
@[simp] theorem execHystQuarterAdapt_keepsMems (ax : Fin 32) (b : Fin 2) (mean : Int) (s : State) :
    KeepsMems s (execHystQuarterAdapt ax b mean s) := by simp [execHystQuarterAdapt]
@[simp] theorem execChopFallback_keepsMems (ax : Fin 32) (s : State) : KeepsMems s (execChopFallback ax s) := by simp [execChopFallback]
@[simp] theorem execChopReturn_keepsMems (ax : Fin 32) (s : State) : KeepsMems s (execChopReturn ax s) := by simp [execChopReturn]
@[simp] theorem execCoilFault_keepsMems (ax : Fin 32) (s : State) : KeepsMems s (execCoilFault ax s) := by simp [execCoilFault]

@[simp] theorem execILowTimeout_keepsMems (ax : Fin 32) (s : State) : KeepsMems s (execILowTimeout ax s) := by
  unfold execILowTimeout
  dsimp only
  split <;> simp

@[simp] theorem execHoldDelayExpiry_keepsMems (ax : Fin 32) (s : State) : KeepsMems s (execHoldDelayExpiry ax s) := by simp [execHoldDelayExpiry]

@[simp] theorem execCurrentRampEnd_keepsMems (ax : Fin 32) (s : State) : KeepsMems s (execCurrentRampEnd ax s) := by
  unfold execCurrentRampEnd
  dsimp only
  split <;> simp

/-! ### The scheduler's rows: strobes, releases, triggers, deadlines, placement -/

@[simp] theorem execSampleStrobeSend_keepsMems (node_ : Fin 7) (at_ : Nat) (s : State) : KeepsMems s (execSampleStrobeSend node_ at_ s) := by simp [execSampleStrobeSend]
@[simp] theorem skipRel_mems (s : State) (i : Nat) : hostMems (skipRel s i).host = hostMems s.host := by
  unfold skipRel
  dsimp only
  repeat' split
  all_goals simp

@[simp] theorem releaseTask_mems (s : State) (i t : Nat) : hostMems (releaseTask s i t).host = hostMems s.host := by
  unfold releaseTask
  split <;> simp

@[simp] theorem execTaskRelease_keepsMems (task_ : BitVec 10) (s : State) : KeepsMems s (execTaskRelease task_ s) := by simp [execTaskRelease]

@[simp] theorem takeTrig_mems (s : State) (i t : Nat) : hostMems (takeTrig s i t).host = hostMems s.host := by
  unfold takeTrig
  dsimp only
  repeat' split
  all_goals simp

@[simp] theorem execEventTaskTrigger_keepsMems (s : State) : KeepsMems s (execEventTaskTrigger s) := by
  unfold execEventTaskTrigger
  split <;> simp

@[simp] theorem execHeldTriggerRelease_keepsMems (task_ : BitVec 10) (s : State) : KeepsMems s (execHeldTriggerRelease task_ s) := by
  unfold execHeldTriggerRelease
  dsimp only
  split <;> simp

@[simp] theorem execEngineAskWork_keepsMems (ce : Fin 16) (s : State) : KeepsMems s (execEngineAskWork ce s) := by simp [execEngineAskWork]
@[simp] theorem mapRel_mems (s : State) (i : Nat) (f : Release → Release) : hostMems (mapRel s i f).host = hostMems s.host := rfl

@[simp] theorem execTaskDeadline_keepsMems (task_ : BitVec 10) (s : State) : KeepsMems s (execTaskDeadline task_ s) := by
  unfold execTaskDeadline
  dsimp only
  split <;> simp

@[simp] theorem execApplyStrobeSend_keepsMems (task_ : BitVec 10) (s : State) : KeepsMems s (execApplyStrobeSend task_ s) := by
  unfold execApplyStrobeSend
  dsimp only
  split
  · simp
  · split <;> simp

@[simp] theorem markMove_mems (s : State) (prog : Nat) (on : Bool) : hostMems (markMove s prog on).host = hostMems s.host := by simp [markMove]
@[simp] theorem windowPoints_mems (s : State) : hostMems (windowPoints s).host = hostMems s.host := by simp [windowPoints]

@[simp] theorem execPlacementWindow_keepsMems (busy : List Nat) (s : State) : KeepsMems s (execPlacementWindow busy s) := by
  unfold execPlacementWindow
  dsimp only
  split
  · simp
  · split <;> simp

@[simp] theorem execProgramMove_keepsMems (s : State) : KeepsMems s (execProgramMove s) := by
  unfold execProgramMove
  split <;> simp

@[simp] theorem execProgramMoveAbandon_keepsMems (s : State) : KeepsMems s (execProgramMoveAbandon s) := by
  unfold execProgramMoveAbandon
  split <;> simp

/-! ### On-line program exchange -/

@[simp] theorem beginExch_mems (s : State) (r : Req) (op k : Nat) (revert : Bool) (b : List Byte) : hostMems (beginExch s r op k revert b).host = hostMems s.host := by simp [beginExch]

@[simp] theorem execProgExchange_keepsMems (r : Req) (s : State) : KeepsMems s (execProgExchange r s) := by
  refine (keepsMems_next ..).mpr (command_mems ?_)
  dsimp only
  repeat' split
  all_goals simp

@[simp] theorem execProgRevert_keepsMems (r : Req) (s : State) : KeepsMems s (execProgRevert r s) := by
  refine (keepsMems_next ..).mpr (command_mems ?_)
  split <;> simp

@[simp] theorem exchSwap_mems (s : State) (x : ExchSt) (q : Nat) : hostMems (exchSwap s x q).host = hostMems s.host := by simp [exchSwap]

@[simp] theorem execExchangeSwap_keepsMems (s : State) : KeepsMems s (execExchangeSwap s) := by
  unfold execExchangeSwap
  dsimp only
  repeat' split
  all_goals simp

@[simp] theorem execExchNoQuiet_keepsMems (s : State) : KeepsMems s (execExchNoQuiet s) := by
  unfold execExchNoQuiet
  split <;> simp

@[simp] theorem execExchReportGet_keepsMems (r : Req) (s : State) : KeepsMems s (execExchReportGet r s) := by
  refine (keepsMems_next ..).mpr (command_mems ?_)
  split <;> simp

/-! ### The host window: registers, rings, frames, responses, interrupts and the host heartbeat -/

@[simp] theorem readMbErr_snd_mems (s : State) (m : Nat) : hostMems (readMbErr s m).2.host = hostMems s.host := rfl
@[simp] theorem readLinkErr_snd_mems (s : State) : hostMems (readLinkErr s).2.host = hostMems s.host := rfl
@[simp] theorem readT0Lo_snd_mems (s : State) : hostMems (readT0Lo s).2.host = hostMems s.host := rfl

@[simp] theorem bar0Read_snd_mems (s : State) (o : Nat) : hostMems (bar0Read s o).2.host = hostMems s.host := by
  unfold bar0Read
  split <;> simp

@[simp] theorem cmdTailWrite_mems (s : State) (m via : Nat) (w : Half) : hostMems (cmdTailWrite s m via w).host = hostMems s.host := rfl
@[simp] theorem rspHeadWrite_mems (s : State) (m : Nat) (w : Half) : hostMems (rspHeadWrite s m w).host = hostMems s.host := rfl
@[simp] theorem mbReset_mems (s : State) (m : Nat) : hostMems (mbReset s m).host = hostMems s.host := by simp [mbReset]
@[simp] theorem mbRelease_mems (s : State) (m : Nat) : hostMems (mbRelease s m).host = hostMems s.host := rfl
@[simp] theorem intSet_mems (s : State) (w : Word) : hostMems (intSet s w).host = hostMems s.host := by simp [intSet]
@[simp] theorem hostHbWrite_mems (s : State) (w : Word) : hostMems (hostHbWrite s w).host = hostMems s.host := by simp [hostHbWrite]

@[simp] theorem bar0Write_mems (s : State) (via o : Nat) (w : Word) : hostMems (bar0Write s via o w).host = hostMems s.host := by
  unfold bar0Write
  dsimp only
  repeat' split
  all_goals simp

@[simp] theorem winRead_snd_mems (s : State) (space o : Nat) : hostMems (winRead s space o).2.host = hostMems s.host := by simp [winRead]

@[simp] theorem winReads_mems (s : State) (sp n o : Nat) : hostMems (winReads s sp n o).2.host = hostMems s.host := by
  induction n generalizing s o with
  | zero => rfl
  | succ n ih => simp [winReads, ih]

@[simp] theorem execCmdTailWrite_keepsMems (m : Fin 8) (w : Word) (s : State) : KeepsMems s (execCmdTailWrite m w s) := by simp [execCmdTailWrite]
@[simp] theorem execRspHeadWrite_keepsMems (m : Fin 8) (w : Word) (s : State) : KeepsMems s (execRspHeadWrite m w s) := by simp [execRspHeadWrite]
@[simp] theorem execMbCtrlReset_keepsMems (m : Fin 8) (s : State) : KeepsMems s (execMbCtrlReset m s) := by simp [execMbCtrlReset]
@[simp] theorem execMbCtrlRelease_keepsMems (m : Fin 8) (s : State) : KeepsMems s (execMbCtrlRelease m s) := by simp [execMbCtrlRelease]
@[simp] theorem execGlbIntSetWrite_keepsMems (w : Word) (s : State) : KeepsMems s (execGlbIntSetWrite w s) := by simp [execGlbIntSetWrite]
@[simp] theorem execGlbHostHbWrite_keepsMems (w : Word) (s : State) : KeepsMems s (execGlbHostHbWrite w s) := by simp [execGlbHostHbWrite]
@[simp] theorem returnRead_mems (r : Nat × State) : hostMems (returnRead r).host = hostMems r.2.host := rfl
@[simp] theorem execGlbT0LoRead_keepsMems (s : State) : KeepsMems s (execGlbT0LoRead s) := by simp [execGlbT0LoRead]
@[simp] theorem execMbErrRead_keepsMems (m : Fin 8) (s : State) : KeepsMems s (execMbErrRead m s) := by simp [execMbErrRead]
@[simp] theorem execGlbLinkErrRead_keepsMems (s : State) : KeepsMems s (execGlbLinkErrRead s) := by simp [execGlbLinkErrRead]
@[simp] theorem refuseFrame_mems (s : State) (m : Nat) (udp : Option Nat) (fr : List Byte) (st : Nat) : hostMems (refuseFrame s m udp fr st).host = hostMems s.host := rfl
@[simp] theorem takeFrame_mems (s : State) (m via src : Nat) (fr : List Byte) : hostMems (takeFrame s m via src fr).host = hostMems s.host := by simp [takeFrame]

@[simp] theorem execFrameTakeIn_keepsMems (s : State) : KeepsMems s (execFrameTakeIn s) := by
  unfold execFrameTakeIn
  dsimp only
  split
  · simp
  · split <;> simp

@[simp] theorem rspCount_mems (s : State) (m : Nat) : hostMems (rspCount s m).host = hostMems s.host := by simp [rspCount]

@[simp] theorem execUdpDatagram_keepsMems (src : BitVec 48) (frag : Bool) (fr : List Byte) (s : State) : KeepsMems s (execUdpDatagram src frag fr s) := by simp [execUdpDatagram]

@[simp] theorem execMbIntHoldoff_keepsMems (m : Fin 8) (s : State) : KeepsMems s (execMbIntHoldoff m s) := by
  unfold execMbIntHoldoff
  dsimp only
  split <;> simp

@[simp] theorem execCommandDeadline_keepsMems (m : Fin 8) (s : State) : KeepsMems s (execCommandDeadline m s) := by
  unfold execCommandDeadline
  split <;> simp

@[simp] theorem stewardBeat_mems (s : State) : hostMems (stewardBeat s).host = hostMems s.host := by simp [stewardBeat]
@[simp] theorem streamPause_mems (s : State) (k reason : Nat) : hostMems (streamPause s k reason).host = hostMems s.host := by simp [streamPause]
@[simp] theorem execHostHbTimeout_keepsMems (s : State) : KeepsMems s (execHostHbTimeout s) := by simp [execHostHbTimeout]
@[simp] theorem execUdpIdleExpiry_keepsMems (m : Fin 8) (s : State) : KeepsMems s (execUdpIdleExpiry m s) := by simp [execUdpIdleExpiry]

/-! ### The loop engines' rows: releases, the frame of one release, tuning, bridge laws, and the loop commands -/

@[simp] theorem execLoopRelease_keepsMems (loop_ : BitVec 9) (s : State) : KeepsMems s (execLoopRelease loop_ s) := by simp [execLoopRelease]

@[simp] theorem beginLoop_mems (s : State) (le : Nat) : hostMems (beginLoop s le).host = hostMems s.host := by
  unfold beginLoop
  dsimp only
  split <;> simp

@[simp] theorem execLoopInputWaitExpiry_keepsMems (loop_ : BitVec 9) (s : State) : KeepsMems s (execLoopInputWaitExpiry loop_ s) := by
  unfold execLoopInputWaitExpiry
  dsimp only
  split <;> simp

@[simp] theorem execLoopDeadline_keepsMems (loop_ : BitVec 9) (s : State) : KeepsMems s (execLoopDeadline loop_ s) := by
  unfold execLoopDeadline
  dsimp only
  repeat' split
  all_goals simp

@[simp] theorem execHeldTimeExpiry_keepsMems (loop_ : BitVec 9) (inp : Fin 4) (s : State) : KeepsMems s (execHeldTimeExpiry loop_ inp s) := by
  unfold execHeldTimeExpiry
  dsimp only
  split <;> simp

@[simp] theorem frame_mems (s : State) (i t : Nat) (lawOut : Int) : hostMems (frame s i t lawOut).host = hostMems s.host := by simp [frame]
@[simp] theorem loopSticky_mems (s : State) (i : Nat) : hostMems (loopSticky s i).host = hostMems s.host := by simp [loopSticky]

@[simp] theorem execLoopEnd_keepsMems (le : Fin 8) (s : State) : KeepsMems s (execLoopEnd le s) := by
  unfold execLoopEnd
  dsimp only
  split <;> simp

@[simp] theorem execTuneCheckTimeout_keepsMems (loop_ : BitVec 9) (s : State) : KeepsMems s (execTuneCheckTimeout loop_ s) := by
  unfold execTuneCheckTimeout
  dsimp only
  split <;> simp

@[simp] theorem execTuneSettleDone_keepsMems (loop_ : BitVec 9) (s : State) : KeepsMems s (execTuneSettleDone loop_ s) := by
  unfold execTuneSettleDone
  dsimp only
  split <;> simp

@[simp] theorem execTuneMeasureDone_keepsMems (loop_ : BitVec 9) (s : State) : KeepsMems s (execTuneMeasureDone loop_ s) := by
  unfold execTuneMeasureDone
  dsimp only
  split <;> simp

@[simp] theorem execTuneTimeout_keepsMems (loop_ : BitVec 9) (s : State) : KeepsMems s (execTuneTimeout loop_ s) := by
  unfold execTuneTimeout
  dsimp only
  split <;> simp

@[simp] theorem execBridgeLawStart_keepsMems (loop_ : BitVec 9) (s : State) : KeepsMems s (execBridgeLawStart loop_ s) := by simp [execBridgeLawStart]

@[simp] theorem bridgeApply_mems (s : State) (i : Nat) : hostMems (bridgeApply s i).host = hostMems s.host := by
  unfold bridgeApply
  dsimp only
  split
  · simp
  · split <;> simp

@[simp] theorem execBridgePeriod_keepsMems (loop_ : BitVec 9) (s : State) : KeepsMems s (execBridgePeriod loop_ s) := by simp [execBridgePeriod]
@[simp] theorem execBridgeExpiry_keepsMems (loop_ : BitVec 9) (s : State) : KeepsMems s (execBridgeExpiry loop_ s) := by simp [execBridgeExpiry]

@[simp] theorem execLoopFlagsClear_keepsMems (r : Req) (s : State) : KeepsMems s (execLoopFlagsClear r s) := by
  refine (keepsMems_next ..).mpr (command_mems ?_)
  simp

@[simp] theorem execLoopTune_keepsMems (r : Req) (s : State) : KeepsMems s (execLoopTune r s) := by
  refine (keepsMems_next ..).mpr (command_mems ?_)
  dsimp only
  split <;> simp

@[simp] theorem execLoopTuneResult_keepsMems (r : Req) (s : State) : KeepsMems s (execLoopTuneResult r s) := by
  refine (keepsMems_next ..).mpr (command_mems ?_)
  split <;> simp

/-! ### Lining packets and credits, heartbeats, T0 alignment, strobe events, output sets and the scrubs -/

@[simp] theorem execPacketReceive_keepsMems (link : Byte) (up : Bool) (raw : List Byte) (s : State) : KeepsMems s (execPacketReceive link up raw s) := by
  unfold execPacketReceive
  split <;> simp

@[simp] theorem retransPoint_mems (s : State) (link cls : Nat) : hostMems (retransPoint s link cls).host = hostMems s.host := by simp [retransPoint]
@[simp] theorem execNegativeAcknowledge_keepsMems (link : Byte) (up : Bool) (cls : Fin 7) (s : State) :
    KeepsMems s (execNegativeAcknowledge link up cls s) := by simp [execNegativeAcknowledge]
@[simp] theorem execCreditReturn_keepsMems (link : Byte) (up : Bool) (cls : Fin 7) (n : Nat) (s : State) :
    KeepsMems s (execCreditReturn link up cls n s) := by simp [execCreditReturn]
@[simp] theorem execHeartbeatSend_keepsMems (s : State) : KeepsMems s (execHeartbeatSend s) := by simp [execHeartbeatSend]
@[simp] theorem execSilentHold_keepsMems (tile : Fin 4) (s : State) : KeepsMems s (execSilentHold tile s) := by simp [execSilentHold]
@[simp] theorem refreshOuts'_mems (n : Nat) (s : State) : hostMems (refreshOuts' n s).host = hostMems s.host := by simp [refreshOuts']
@[simp] theorem tileReady_mems (s : State) (n : Nat) : hostMems (tileReady s n).host = hostMems s.host := by simp [tileReady]
@[simp] theorem execT0AlignExchange_keepsMems (isl : Byte) (offset : Int) (s : State) : KeepsMems s (execT0AlignExchange isl offset s) := by simp [execT0AlignExchange]
@[simp] theorem execT0CrossCheck_keepsMems (t0Adv ridgeAdv : Nat) (s : State) : KeepsMems s (execT0CrossCheck t0Adv ridgeAdv s) := by simp [execT0CrossCheck]
@[simp] theorem execRefclkLost_keepsMems (s : State) : KeepsMems s (execRefclkLost s) := by simp [execRefclkLost]
@[simp] theorem lateStrobe_mems (s : State) (isl : Nat) : hostMems (lateStrobe s isl).host = hostMems s.host := by simp [lateStrobe]

@[simp] theorem execStrobeEventReceive_keepsMems (node_ : Fin 7) (s : State) : KeepsMems s (execStrobeEventReceive node_ s) := by
  unfold execStrobeEventReceive
  dsimp only
  repeat' split
  all_goals simp

@[simp] theorem execSampleStrobe_keepsMems (node_ : Fin 7) (s : State) : KeepsMems s (execSampleStrobe node_ s) := by
  unfold execSampleStrobe
  dsimp only
  split
  · simp
  · split <;> simp

@[simp] theorem execApplyStrobe_keepsMems (node_ : Fin 7) (s : State) : KeepsMems s (execApplyStrobe node_ s) := by
  unfold execApplyStrobe
  dsimp only
  repeat' split
  all_goals simp

@[simp] theorem execOutputSetReceive_keepsMems (node_ : Fin 7) (s : State) : KeepsMems s (execOutputSetReceive node_ s) := by
  unfold execOutputSetReceive
  dsimp only
  split <;> simp

@[simp] theorem execDramScrub_keepsMems (addr : Word) (errs : Fin 3) (s : State) : KeepsMems s (execDramScrub addr errs s) := by simp [execDramScrub]
@[simp] theorem execCommonsScrub_keepsMems (off : BitVec 23) (errs : Fin 3) (s : State) : KeepsMems s (execCommonsScrub off errs s) := by simp [execCommonsScrub]

/-! ### Native mode as the block sees it: the image aperture, exceptions, the time limit and the device CSRs -/

@[simp] theorem setNat_mems (s : State) (c : Nat) (f : NatRegs → NatRegs) : hostMems (setNat s c f).host = hostMems s.host := rfl

@[simp] theorem natNext_mems (s : State) (c : Nat) : hostMems (natNext s c).host = hostMems s.host := by
  unfold natNext
  split <;> simp

@[simp] theorem natRuns_mems (s : State) (l : List (Nat × Nat × Nat)) : hostMems (natRuns s l).host = hostMems s.host := by simp [natRuns]

@[simp] theorem nativeTrap_mems (s : State) (c : Nat) (cause epc tval : Word) : hostMems (nativeTrap s c cause epc tval).host = hostMems s.host := by
  unfold nativeTrap
  split <;> simp

@[simp] theorem nativePut_mems (s : State) (c p : Nat) (v : Word) : hostMems (nativePut s c p v).host = hostMems s.host := by simp [nativePut]
@[simp] theorem execNativeApertureStore_keepsMems (ce : Fin 16) (p : BitVec 25) (hi narrow : Bool) (v : Word) (s : State) :
    KeepsMems s (execNativeApertureStore ce p hi narrow v s) := by simp [execNativeApertureStore]
@[simp] theorem execNativeException_keepsMems (ce : Fin 16) (cause epc tval : Word) (s : State) :
    KeepsMems s (execNativeException ce cause epc tval s) := by simp [execNativeException]
@[simp] theorem execNativeTimeout_keepsMems (ce : Fin 16) (s : State) : KeepsMems s (execNativeTimeout ce s) := by simp [execNativeTimeout]

@[simp] theorem execDlaskEnd_keepsMems (ce : Fin 16) (s : State) : KeepsMems s (execDlaskEnd ce s) := by
  unfold execDlaskEnd
  dsimp only
  split
  · simp
  · split <;> simp

@[simp] theorem execDlaskDiscard_keepsMems (ce : Fin 16) (s : State) : KeepsMems s (execDlaskDiscard ce s) := by
  unfold execDlaskDiscard
  dsimp only
  split
  · simp
  · split <;> simp

@[simp] theorem execDlpvalRead_keepsMems (ce : Fin 16) (p : BitVec 25) (rd : Fin 32) (s : State) : KeepsMems s (execDlpvalRead ce p rd s) := by simp [execDlpvalRead]
@[simp] theorem execDlpvalWrite_keepsMems (ce : Fin 16) (p : BitVec 25) (q : BitVec 4) (v : Word) (s : State) :
    KeepsMems s (execDlpvalWrite ce p q v s) := by simp [execDlpvalWrite]
@[simp] theorem execDlnowRead_keepsMems (ce : Fin 16) (rd : Fin 32) (s : State) : KeepsMems s (execDlnowRead ce rd s) := by simp [execDlnowRead]
@[simp] theorem strobeReq_mems (s : State) (c : Nat) (tiles : BitVec 4) (at_ : DWord) (kind refused : Bool) : hostMems (strobeReq s c tiles at_ kind refused).host = hostMems s.host := rfl
@[simp] theorem execDlstrbcSampleStrobe_keepsMems (ce : Fin 16) (tiles : BitVec 4) (at_ : DWord) (s : State) :
    KeepsMems s (execDlstrbcSampleStrobe ce tiles at_ s) := by simp [execDlstrbcSampleStrobe]

@[simp] theorem execDlstrbcApplyStrobe_keepsMems (ce : Fin 16) (tiles : BitVec 4) (at_ : DWord) (s : State) : KeepsMems s (execDlstrbcApplyStrobe ce tiles at_ s) := by
  unfold execDlstrbcApplyStrobe
  dsimp only
  repeat' split
  all_goals simp

/-! ### Ethernet ports, CSX reception, PTP and the time domains -/

@[simp] theorem timekeepWrite_mems (s : State) (correction : Bool) : hostMems (timekeepWrite s correction).host = hostMems s.host := by simp [timekeepWrite]

@[simp] theorem execCsxInputFrame_keepsMems (port : Fin 3) (mac : BitVec 48) (payload : List Byte) (s : State) : KeepsMems s (execCsxInputFrame port mac payload s) := by
  unfold execCsxInputFrame
  dsimp only
  split
  · simp
  · split <;> simp

@[simp] theorem execQbvGateChange_keepsMems (port : Fin 3) (s : State) : KeepsMems s (execQbvGateChange port s) := by simp [execQbvGateChange]
@[simp] theorem execEthLinkChange_keepsMems (port : Fin 3) (up : Bool) (speed : Fin 4) (s : State) :
    KeepsMems s (execEthLinkChange port up speed s) := by simp [execEthLinkChange]
@[simp] theorem execPtpSyncReceive_keepsMems (port : Fin 3) (master stamp : DWord) (origin : DWord) (s : State) :
    KeepsMems s (execPtpSyncReceive port master stamp origin s) := by simp [execPtpSyncReceive]
@[simp] theorem execPtpAnnounceReceive_keepsMems (port : Fin 3) (master rank : DWord) (steps : Half) (s : State) :
    KeepsMems s (execPtpAnnounceReceive port master rank steps s) := by simp [execPtpAnnounceReceive]
@[simp] theorem execPtpDelayResponse_keepsMems (port : Fin 3) (t1 t2 t3 t4 : DWord) (s : State) :
    KeepsMems s (execPtpDelayResponse port t1 t2 t3 t4 s) := by simp [execPtpDelayResponse]
@[simp] theorem execPtpSyncSend_keepsMems (port : Fin 3) (s : State) : KeepsMems s (execPtpSyncSend port s) := by simp [execPtpSyncSend]
@[simp] theorem timeWritten_mems (s : State) (d : Nat) (ev : Ev) (l : List Nat) : hostMems (timeWritten s d ev l).host = hostMems s.host := by simp [timeWritten]
@[simp] theorem t1Stepped_mems (s : State) : hostMems (t1Stepped s).host = hostMems s.host := by simp [t1Stepped]
@[simp] theorem execTimeCorrection_keepsMems (dom : Fin 3) (s : State) : KeepsMems s (execTimeCorrection dom s) := by simp [execTimeCorrection]

@[simp] theorem execTimeStep_keepsMems (dom : Fin 3) (s : State) : KeepsMems s (execTimeStep dom s) := by
  unfold execTimeStep
  dsimp only
  split <;> simp

@[simp] theorem execTimeLossTimeout_keepsMems (dom : Fin 3) (s : State) : KeepsMems s (execTimeLossTimeout dom s) := by simp [execTimeLossTimeout]

@[simp] theorem execTimeRestep_keepsMems (r : Req) (s : State) : KeepsMems s (execTimeRestep r s) := by
  refine (keepsMems_next ..).mpr (command_mems ?_)
  simp

/-! ### The Thatch signal history: aggregates, open states, rings, tightening, coarsening, logs and queries -/

@[simp] theorem closeLogs_mems (s : State) (p n : Nat) : hostMems (closeLogs s p n).host = hostMems s.host := by simp [closeLogs]
@[simp] theorem feedLogs_mems (s : State) (p ty : Nat) (u : ThUpd) : hostMems (feedLogs s p ty u).host = hostMems s.host := rfl
@[simp] theorem execTileAggregateSend_keepsMems (p mn mx : Word) (sum : DWord) (count : BitVec 24) (qmask : BitVec 11) (nan credits : Bool) (s : State) :
    KeepsMems s (execTileAggregateSend p mn mx sum count qmask nan credits s) := by simp [execTileAggregateSend]

@[simp] theorem execThatchUpdate_keepsMems (s : State) : KeepsMems s (execThatchUpdate s) := by
  unfold execThatchUpdate
  split <;> simp

@[simp] theorem activity_mems (s : State) (p : Nat) (st : IntvSt) : hostMems (activity s p st).host = hostMems s.host := by simp [activity]

@[simp] theorem execThatchIntervalClose_keepsMems (p : Word) (s : State) : KeepsMems s (execThatchIntervalClose p s) := by
  unfold execThatchIntervalClose
  dsimp only
  split
  · simp
  · rw [keepsMems_ite, keepsMems_next, keepsMems_next]
    simp only [setThatch_host, host_ite, mems_ite, closeLogs_mems, activity_mems]
    repeat' split
    all_goals simp only [activity_mems, setThatch_host, syncLogs_mems]

@[simp] theorem endTight_mems (s : State) (p : Nat) : hostMems (endTight s p).host = hostMems s.host := by
  unfold endTight
  split <;> simp

@[simp] theorem execThatchTightHoldExpiry_keepsMems (p : Word) (s : State) : KeepsMems s (execThatchTightHoldExpiry p s) := by
  unfold execThatchTightHoldExpiry
  split <;> simp

@[simp] theorem setCoarse_mems (s : State) (i due : Nat) (f : Nat → Nat) : hostMems (setCoarse s i due f).host = hostMems s.host := rfl

@[simp] theorem execThatchLoadWindow_keepsMems (queueFull creditWait : Bool) (s : State) : KeepsMems s (execThatchLoadWindow queueFull creditWait s) := by
  unfold execThatchLoadWindow
  dsimp only
  repeat' split
  all_goals simp

/-! ### Restart triggers, the restart-cause record, what each restart kind drops and keeps, and the Pocket's records at boot -/

@[simp] theorem recipeFor_snd_mems (s : State) (k step : Nat) : hostMems (recipeFor s k step).2.host = hostMems s.host := by simp [recipeFor]

@[simp] theorem streamRestore_mems (s : State) (i : Nat) (o : OpSt) (c : List Nat) : hostMems (streamRestore s i o c).host = hostMems s.host := by
  unfold streamRestore
  dsimp only
  split
  · split <;> simp
  · simp

@[simp] theorem opsRestore_mems (s : State) : hostMems (opsRestore s).host = hostMems s.host := by simp [opsRestore]
@[simp] theorem retainRestore_mems (s : State) : hostMems (retainRestore s).host = hostMems s.host := by simp [retainRestore]
@[simp] theorem streamHold_mems (s : State) (k : Nat) (l : List OutVal) : hostMems (streamHold s k l).host = hostMems s.host := rfl

@[simp] theorem opAct_mems (s : State) (i : Nat) (o : OpSt) (eff outage : Nat) : hostMems (opAct s i o eff outage).host = hostMems s.host := by
  unfold opAct
  dsimp only
  repeat' split
  all_goals simp

@[simp] theorem opResume_mems (s : State) (i : Nat) : hostMems (opResume s i).host = hostMems s.host := by simp [opResume]

/-! ### Faults that restart, hot and warm restarts, boot, RESUME, power failure, the keep die and tile supplies -/

@[simp] theorem loopSeed_mems (s : State) (i : Nat) (r : Rat) : hostMems (loopSeed s i r).host = hostMems s.host := rfl
@[simp] theorem ceBack_mems (s : State) (c : Nat) : hostMems (ceBack s c).host = hostMems s.host := by simp [ceBack]
@[simp] theorem leBack_mems (s : State) (le : Nat) : hostMems (leBack s le).host = hostMems s.host := by simp [leBack]
@[simp] theorem meBack_mems (s : State) (m trig : Nat) : hostMems (meBack s m trig).host = hostMems s.host := by simp [meBack]
@[simp] theorem aeBack_mems (s : State) (ae : Nat) : hostMems (aeBack s ae).host = hostMems s.host := by simp [aeBack]
@[simp] theorem cvBack_mems (s : State) (u : Nat) : hostMems (cvBack s u).host = hostMems s.host := rfl

@[simp] theorem execEngineInService_keepsMems (isl : Byte) (s : State) : KeepsMems s (execEngineInService isl s) := by
  unfold execEngineInService
  dsimp only
  split <;> simp

@[simp] theorem loopsPrepare_mems (s : State) : hostMems (loopsPrepare s).host = hostMems s.host := by simp [loopsPrepare]
@[simp] theorem axesPrepare_mems (s : State) : hostMems (axesPrepare s).host = hostMems s.host := by simp [axesPrepare]
@[simp] theorem rebuild_mems (s : State) : hostMems (rebuild s).host = hostMems s.host := by simp [rebuild]
@[simp] theorem execReconstructionComplete_keepsMems (s : State) : KeepsMems s (execReconstructionComplete s) := by simp [execReconstructionComplete]
@[simp] theorem execGapBufferFull_keepsMems (tile : Fin 4) (s : State) : KeepsMems s (execGapBufferFull tile s) := by simp [execGapBufferFull]

@[simp] theorem gapSummary_snd_mems (s : State) (n : Nat) : hostMems (gapSummary s n).2.host = hostMems s.host := by
  refine foldl_keeps (fun a : List ThUpd × State => hostMems a.2.host) (fun a b => ?_) (node s n).gapLost ([], s)
  exact congrArg hostMems (fresh_host a.2)

@[simp] theorem execGapBufferReplay_keepsMems (tile : Fin 4) (s : State) : KeepsMems s (execGapBufferReplay tile s) := by simp [execGapBufferReplay]
@[simp] theorem execReplayComplete_keepsMems (tile : Fin 4) (s : State) : KeepsMems s (execReplayComplete tile s) := by simp [execReplayComplete]

@[simp] theorem execPowerFailFlush_keepsMems (done : Bool) (written : Nat) (flushUs : Half) (s : State) : KeepsMems s (execPowerFailFlush done written flushUs s) := by
  unfold execPowerFailFlush
  rw [keepsMems_ite]
  split
  · exact (keepsMems_next ..).mpr rfl
  · extract_lets state org bt l mode s1 s2 s3 s4 r x s5 s6
    have h5 : hostMems s5.host = hostMems s1.host :=
      congrArg hostMems ((setPocket_host s4 _).trans ((setRst_host s3 _).trans ((setPocket_host s2 _).trans (setPocket_host s1 _))))
    have h6 : hostMems s6.host = hostMems s5.host := by
      unfold s6
      rw [host_ite, mems_ite, host_ite, mems_ite, putLastWord_mems, timekeepWrite_mems, ite_self, ite_self]
    rw [keepsMems_next, h6, h5]
    unfold s1
    rw [abandonExch_mems]

@[simp] theorem execVbatThreshold_keepsMems (lost : Bool) (s : State) : KeepsMems s (execVbatThreshold lost s) := by simp [execVbatThreshold]
@[simp] theorem execSupplyRailFault_keepsMems (rail : Fin 5) (s : State) : KeepsMems s (execSupplyRailFault rail s) := by simp [execSupplyRailFault]
@[simp] theorem axisCoast_mems (s : State) (x : Nat) : hostMems (axisCoast s x).host = hostMems s.host := rfl
@[simp] theorem execTileSupplyLoss_keepsMems (tile : Fin 4) (s : State) : KeepsMems s (execTileSupplyLoss tile s) := by simp [execTileSupplyLoss]
@[simp] theorem execTilePowerUp_keepsMems (tile : Fin 4) (s : State) : KeepsMems s (execTilePowerUp tile s) := by simp [execTilePowerUp]
@[simp] theorem execPocketScan_keepsMems (errs : List (BitVec 12)) (s : State) : KeepsMems s (execPocketScan errs s) := by simp [execPocketScan]

/-! ### Mailbox commands: device, bulk, parameters, points, tasks, axes, channels, encoders, streams and operations -/

@[simp] theorem execDeviceInfo_keepsMems (r : Req) (s : State) : KeepsMems s (execDeviceInfo r s) := by
  refine (keepsMems_next ..).mpr (command_mems ?_)
  simp

@[simp] theorem execDeviceRestart_keepsMems (r : Req) (s : State) : KeepsMems s (execDeviceRestart r s) := by
  refine (keepsMems_next ..).mpr (command_mems ?_)
  simp

@[simp] theorem execBulkRead_keepsMems (r : Req) (s : State) : KeepsMems s (execBulkRead r s) := by
  refine (keepsMems_next ..).mpr (command_mems ?_)
  simp

@[simp] theorem execParamGet_keepsMems (r : Req) (s : State) : KeepsMems s (execParamGet r s) := by
  refine (keepsMems_next ..).mpr (command_mems ?_)
  split <;> simp

@[simp] theorem execParamSet_keepsMems (r : Req) (s : State) : KeepsMems s (execParamSet r s) := by
  refine (keepsMems_next ..).mpr (command_mems ?_)
  simp

@[simp] theorem execParamUnset_keepsMems (r : Req) (s : State) : KeepsMems s (execParamUnset r s) := by
  refine (keepsMems_next ..).mpr (command_mems ?_)
  split <;> simp

@[simp] theorem execParamDescribe_keepsMems (r : Req) (s : State) : KeepsMems s (execParamDescribe r s) := by
  refine (keepsMems_next ..).mpr (command_mems ?_)
  dsimp only
  repeat' split
  all_goals simp

@[simp] theorem execPointRead_keepsMems (r : Req) (s : State) : KeepsMems s (execPointRead r s) := by
  refine (keepsMems_next ..).mpr (command_mems ?_)
  dsimp only
  split <;> simp

@[simp] theorem pointWrite_mems (s : State) (p : Nat) (v : Word) : hostMems (pointWrite s p v).host = hostMems s.host := by simp [pointWrite]

@[simp] theorem execPointWrite_keepsMems (r : Req) (s : State) : KeepsMems s (execPointWrite r s) := by
  refine (keepsMems_next ..).mpr (command_mems ?_)
  simp

@[simp] theorem forceReq_mems (s : State) (a : Nat) (starts : Bool) (f : Force) : hostMems (forceReq s a starts f).host = hostMems s.host := rfl

@[simp] theorem execPointForce_keepsMems (r : Req) (s : State) : KeepsMems s (execPointForce r s) := by
  refine (keepsMems_next ..).mpr (command_mems ?_)
  simp

@[simp] theorem execPointSimulate_keepsMems (r : Req) (s : State) : KeepsMems s (execPointSimulate r s) := by
  refine (keepsMems_next ..).mpr (command_mems ?_)
  simp

@[simp] theorem unforce_mems (s : State) (a p : Nat) (sim : Bool) : hostMems (unforce s a p sim).host = hostMems s.host := by simp [unforce]

@[simp] theorem execPointUnforce_keepsMems (r : Req) (s : State) : KeepsMems s (execPointUnforce r s) := by
  refine (keepsMems_next ..).mpr (command_mems ?_)
  simp

@[simp] theorem execPointUnsimulate_keepsMems (r : Req) (s : State) : KeepsMems s (execPointUnsimulate r s) := by
  refine (keepsMems_next ..).mpr (command_mems ?_)
  simp

@[simp] theorem execTaskTrigger_keepsMems (r : Req) (s : State) : KeepsMems s (execTaskTrigger r s) := by
  refine (keepsMems_next ..).mpr (command_mems ?_)
  simp

@[simp] theorem execLoopTuneAccept_keepsMems (r : Req) (s : State) : KeepsMems s (execLoopTuneAccept r s) := by
  refine (keepsMems_next ..).mpr (command_mems ?_)
  dsimp only
  repeat' split
  all_goals simp

@[simp] theorem dropMaint_mems (s : State) (i : Nat) (new : Nat) : hostMems (dropMaint s i new).host = hostMems s.host := by
  unfold dropMaint
  split <;> simp

@[simp] theorem maintReq_mems (s : State) (r : Req) (op ax : Nat) (m : MaintReq) : hostMems (maintReq s r op ax m).host = hostMems s.host := by simp [maintReq]

@[simp] theorem execAxisJog_keepsMems (r : Req) (s : State) : KeepsMems s (execAxisJog r s) := by
  refine (keepsMems_next ..).mpr (command_mems ?_)
  simp

@[simp] theorem execAxisMove_keepsMems (r : Req) (s : State) : KeepsMems s (execAxisMove r s) := by
  refine (keepsMems_next ..).mpr (command_mems ?_)
  simp

@[simp] theorem execAxisHome_keepsMems (r : Req) (s : State) : KeepsMems s (execAxisHome r s) := by
  refine (keepsMems_next ..).mpr (command_mems ?_)
  simp

@[simp] theorem execAxisStop_keepsMems (r : Req) (s : State) : KeepsMems s (execAxisStop r s) := by
  refine (keepsMems_next ..).mpr (command_mems ?_)
  simp

@[simp] theorem execChAck_keepsMems (r : Req) (s : State) : KeepsMems s (execChAck r s) := by
  refine (keepsMems_next ..).mpr (command_mems ?_)
  simp

@[simp] theorem execEncArm_keepsMems (r : Req) (s : State) : KeepsMems s (execEncArm r s) := by
  refine (keepsMems_next ..).mpr (command_mems ?_)
  simp

@[simp] theorem execEncClear_keepsMems (r : Req) (s : State) : KeepsMems s (execEncClear r s) := by
  refine (keepsMems_next ..).mpr (command_mems ?_)
  simp

@[simp] theorem streamLoad_mems (s : State) (k slot : Nat) : hostMems (streamLoad s k slot).host = hostMems s.host := by
  unfold streamLoad
  split <;> simp

@[simp] theorem streamStart_mems (s : State) (k a : Nat) : hostMems (streamStart s k a).host = hostMems s.host := by
  unfold streamStart
  split <;> simp

@[simp] theorem streamContinue_mems (s : State) (k a : Nat) : hostMems (streamContinue s k a).host = hostMems s.host := by simp [streamContinue]
@[simp] theorem streamAbort_mems (s : State) (k how a : Nat) : hostMems (streamAbort s k how a).host = hostMems s.host := by simp [streamAbort]

@[simp] theorem execStreamLoad_keepsMems (r : Req) (s : State) : KeepsMems s (execStreamLoad r s) := by
  refine (keepsMems_next ..).mpr (command_mems ?_)
  dsimp only
  repeat' split
  all_goals simp

@[simp] theorem execStreamStart_keepsMems (r : Req) (s : State) : KeepsMems s (execStreamStart r s) := by
  refine (keepsMems_next ..).mpr (command_mems ?_)
  dsimp only
  repeat' split
  all_goals simp

@[simp] theorem execStreamPause_keepsMems (r : Req) (s : State) : KeepsMems s (execStreamPause r s) := by
  refine (keepsMems_next ..).mpr (command_mems ?_)
  simp

@[simp] theorem execStreamContinue_keepsMems (r : Req) (s : State) : KeepsMems s (execStreamContinue r s) := by
  refine (keepsMems_next ..).mpr (command_mems ?_)
  simp

@[simp] theorem execStreamAbort_keepsMems (r : Req) (s : State) : KeepsMems s (execStreamAbort r s) := by
  refine (keepsMems_next ..).mpr (command_mems ?_)
  simp

@[simp] theorem resolveAs_mems (s : State) (i eff : Nat) : hostMems (resolveAs s i eff).host = hostMems s.host := by simp [resolveAs]
@[simp] theorem opResolve_mems (s : State) (h action : Nat) : hostMems (opResolve s h action).host = hostMems s.host := by simp [opResolve]

@[simp] theorem execOpResolve_keepsMems (r : Req) (s : State) : KeepsMems s (execOpResolve r s) := by
  refine (keepsMems_next ..).mpr (command_mems ?_)
  split <;> simp

/-! ### The loop engine core -/

@[simp] theorem lawFault_mems (s : State) (le code pc word : Nat) : hostMems (lawFault s le code pc word).host = hostMems s.host := by
  unfold lawFault
  split <;> simp

@[simp] theorem lawDone_mems (s : State) (le : Nat) : hostMems (lawDone s le).host = hostMems s.host := by
  unfold lawDone
  dsimp only
  split <;> simp

@[simp] theorem leExec_mems (le : Fin 8) (word : Nat) (control : Bool) (s : State) (f : LoopEng → Except Nat (List LeEff)) : hostMems (leExec le word control s f).host = hostMems s.host := by
  unfold leExec
  dsimp only
  repeat' split
  all_goals simp

@[simp] theorem leG_mems (le : Fin 8) (op : Nat) (x : BitVec 25) (s : State) (f : LoopEng → Nat → Except Nat (List LeEff)) : hostMems (leG le op x s f).host = hostMems s.host := by simp [leG]
@[simp] theorem leG3_mems (le : Fin 8) (op : Nat) (x : BitVec 25) (s : State) (f : Nat → Bool → Word → Word → List LeEff) : hostMems (leG3 le op x s f).host = hostMems s.host := by simp [leG3]
@[simp] theorem leGI_mems (le : Fin 8) (op : Nat) (x : BitVec 25) (shift : Bool) (s : State) (f : Nat → Bool → Word → Int → List LeEff) :
    hostMems (leGI le op x shift s f).host = hostMems s.host := by simp [leGI]
@[simp] theorem leGA_mems (le : Fin 8) (op : Nat) (x : BitVec 25) (s : State) (f : LoopEng → Nat → Nat → Bool → Nat → Except Nat (List LeEff)) :
    hostMems (leGA le op x s f).host = hostMems s.host := by simp [leGA]
@[simp] theorem leM_mems (le : Fin 8) (mop : Nat) (x : BitVec 28) (s : State) (f : Int → Int → Int) : hostMems (leM le mop x s f).host = hostMems s.host := by simp [leM]
@[simp] theorem leMv_mems (le : Fin 8) (mop : Nat) (x : BitVec 28) (s : State) (bus2 : Nat) : hostMems (leMv le mop x s bus2).host = hostMems s.host := by simp [leMv]
@[simp] theorem execLeNop_keepsMems (le : Fin 8) (x : BitVec 25) (s : State) : KeepsMems s (execLeNop le x s) := by simp [execLeNop]
@[simp] theorem execLeLd_keepsMems (le : Fin 8) (x : BitVec 25) (s : State) : KeepsMems s (execLeLd le x s) := by simp [execLeLd]
@[simp] theorem execLeSt_keepsMems (le : Fin 8) (x : BitVec 25) (s : State) : KeepsMems s (execLeSt le x s) := by simp [execLeSt]
@[simp] theorem execLeLdd_keepsMems (le : Fin 8) (x : BitVec 25) (s : State) : KeepsMems s (execLeLdd le x s) := by simp [execLeLdd]
@[simp] theorem execLeStd_keepsMems (le : Fin 8) (x : BitVec 25) (s : State) : KeepsMems s (execLeStd le x s) := by simp [execLeStd]
@[simp] theorem execLeLdi_keepsMems (le : Fin 8) (x : BitVec 25) (s : State) : KeepsMems s (execLeLdi le x s) := by simp [execLeLdi]
@[simp] theorem execLeLdih_keepsMems (le : Fin 8) (x : BitVec 25) (s : State) : KeepsMems s (execLeLdih le x s) := by simp [execLeLdih]
@[simp] theorem execLeCmp_keepsMems (le : Fin 8) (x : BitVec 25) (s : State) : KeepsMems s (execLeCmp le x s) := by simp [execLeCmp]
@[simp] theorem execLeCmpi_keepsMems (le : Fin 8) (x : BitVec 25) (s : State) : KeepsMems s (execLeCmpi le x s) := by simp [execLeCmpi]
@[simp] theorem execLeAsha_keepsMems (le : Fin 8) (x : BitVec 25) (s : State) : KeepsMems s (execLeAsha le x s) := by simp [execLeAsha]
@[simp] theorem execLeSata_keepsMems (le : Fin 8) (x : BitVec 25) (s : State) : KeepsMems s (execLeSata le x s) := by simp [execLeSata]
@[simp] theorem execLeRnda_keepsMems (le : Fin 8) (x : BitVec 25) (s : State) : KeepsMems s (execLeRnda le x s) := by simp [execLeRnda]
@[simp] theorem execLeMovp_keepsMems (le : Fin 8) (x : BitVec 25) (s : State) : KeepsMems s (execLeMovp le x s) := by simp [execLeMovp]
@[simp] theorem execLeStepp_keepsMems (le : Fin 8) (x : BitVec 25) (s : State) : KeepsMems s (execLeStepp le x s) := by simp [execLeStepp]
@[simp] theorem execLeWrot_keepsMems (le : Fin 8) (x : BitVec 25) (s : State) : KeepsMems s (execLeWrot le x s) := by simp [execLeWrot]
@[simp] theorem execLeBr_keepsMems (le : Fin 8) (x : BitVec 25) (s : State) : KeepsMems s (execLeBr le x s) := by simp [execLeBr]
@[simp] theorem execLeCall_keepsMems (le : Fin 8) (x : BitVec 25) (s : State) : KeepsMems s (execLeCall le x s) := by simp [execLeCall]
@[simp] theorem execLeRet_keepsMems (le : Fin 8) (x : BitVec 25) (s : State) : KeepsMems s (execLeRet le x s) := by simp [execLeRet]
@[simp] theorem execLeRep_keepsMems (le : Fin 8) (x : BitVec 25) (s : State) : KeepsMems s (execLeRep le x s) := by simp [execLeRep]
@[simp] theorem execLeRti_keepsMems (le : Fin 8) (x : BitVec 25) (s : State) : KeepsMems s (execLeRti le x s) := by simp [execLeRti]
@[simp] theorem execFastInterrupt_keepsMems (le : Fin 8) (_input : Bool) (s : State) : KeepsMems s (execFastInterrupt le _input s) := by simp [execFastInterrupt]
@[simp] theorem execLawBudget_keepsMems (le : Fin 8) (s : State) : KeepsMems s (execLawBudget le s) := by simp [execLawBudget]
@[simp] theorem execLeIllegalOpcode_keepsMems (le : Fin 8) (word : Word) (s : State) : KeepsMems s (execLeIllegalOpcode le word s) := by simp [execLeIllegalOpcode]
@[simp] theorem lawCall_mems (s : State) (i t : Nat) : hostMems (lawCall s i t).host = hostMems s.host := by simp [lawCall]

@[simp] theorem execLoopBegin_keepsMems (le : Fin 8) (s : State) : KeepsMems s (execLoopBegin le s) := by
  unfold execLoopBegin
  dsimp only
  split <;> simp

/-! ### Twin operation: heartbeats, pairing, forwarded traffic, takeover, role swaps and proof swaps -/

@[simp] theorem twinTo_mems (s : State) (st : Nat) : hostMems (twinTo s st).host = hostMems s.host := by simp [twinTo]
@[simp] theorem aoSwitch_mems (s : State) (l : List Nat) (isOpen : Bool) : hostMems (aoSwitch s l isOpen).host = hostMems s.host := by simp [aoSwitch]
@[simp] theorem chSwitch_mems (s : State) (l : List Nat) (off : Bool) : hostMems (chSwitch s l off).host = hostMems s.host := by simp [chSwitch]

@[simp] theorem pairRefuse_mems (s : State) (why : Nat) : hostMems (pairRefuse s why).host = hostMems s.host := by
  unfold pairRefuse
  dsimp only
  split <;> simp

@[simp] theorem pairBegin_mems (s : State) : hostMems (pairBegin s).host = hostMems s.host := by simp [pairBegin]

@[simp] theorem execSeamHeartbeatSend_keepsMems (s : State) : KeepsMems s (execSeamHeartbeatSend s) := by
  unfold execSeamHeartbeatSend
  dsimp only
  repeat' split
  all_goals simp

@[simp] theorem execTwinPair_keepsMems (r : Req) (s : State) : KeepsMems s (execTwinPair r s) := by
  refine (keepsMems_next ..).mpr (command_mems ?_)
  simp

@[simp] theorem desync_mems (s : State) (why : Nat) : hostMems (desync s why).host = hostMems s.host := by simp [desync]

@[simp] theorem applyForwarded_mems (s : State) (op target a : Nat) (p : List Byte) : hostMems (applyForwarded s op target a p).host = hostMems s.host := by
  unfold applyForwarded
  split <;> simp

@[simp] theorem crcCheck_mems (s : State) (id : Nat) : hostMems (crcCheck s id).host = hostMems s.host := by
  unfold crcCheck
  split <;> simp

@[simp] theorem execSeamForwardReceive_keepsMems (msg : SeamMsg) (s : State) : KeepsMems s (execSeamForwardReceive msg s) := by
  unfold execSeamForwardReceive
  dsimp only
  repeat' split
  all_goals simp

@[simp] theorem execEndOfInstantTimeout_keepsMems (s : State) : KeepsMems s (execEndOfInstantTimeout s) := by simp [execEndOfInstantTimeout]
@[simp] theorem execTwinLaneFault_keepsMems (lane : Fin 2) (heavy : Bool) (s : State) : KeepsMems s (execTwinLaneFault lane heavy s) := by simp [execTwinLaneFault]
@[simp] theorem execParallelAnalogOpen_keepsMems (tile : Fin 4) (s : State) : KeepsMems s (execParallelAnalogOpen tile s) := by simp [execParallelAnalogOpen]
@[simp] theorem execParallelChannelRelease_keepsMems (tile : Fin 4) (s : State) : KeepsMems s (execParallelChannelRelease tile s) := by simp [execParallelChannelRelease]

@[simp] theorem execTwinSwap_keepsMems (r : Req) (s : State) : KeepsMems s (execTwinSwap r s) := by
  refine (keepsMems_next ..).mpr (command_mems ?_)
  split <;> simp

@[simp] theorem execTwinSwapAnalogClose_keepsMems (s : State) : KeepsMems s (execTwinSwapAnalogClose s) := by
  unfold execTwinSwapAnalogClose
  split <;> simp

@[simp] theorem execProofSwap_keepsMems (ma : List (BitVec 9 × Word)) (s : State) : KeepsMems s (execProofSwap ma s) := by
  unfold execProofSwap
  split <;> simp

@[simp] theorem execProofSwapRelease_keepsMems (s : State) : KeepsMems s (execProofSwapRelease s) := by simp [execProofSwapRelease]
@[simp] theorem execProofCheck_keepsMems (inc out : List (BitVec 9 × Word)) (s : State) : KeepsMems s (execProofCheck inc out s) := by simp [execProofCheck]

@[simp] theorem execTwinPinMismatch_keepsMems (c : BitVec 9) (mv : Nat) (s : State) : KeepsMems s (execTwinPinMismatch c mv s) := by
  unfold execTwinPinMismatch
  dsimp only
  split
  · simp
  · split <;> simp

@[simp] theorem execTwinStatusGet_keepsMems (r : Req) (s : State) : KeepsMems s (execTwinStatusGet r s) := by
  refine (keepsMems_next ..).mpr (command_mems ?_)
  simp

/-! ### Modes entered, boots, restarts that keep the registers, the Ridge's reactions, twins, and the passing of time -/

@[simp] theorem timeFacets_mems (s : State) : hostMems (timeFacets s).host = hostMems s.host := by simp [timeFacets]
@[simp] theorem settleLive_mems (s : State) (t : Nat) : hostMems (settleLive s t).host = hostMems s.host := by simp [settleLive]
@[simp] theorem enterForce_mems (s : State) (m : Mode) (t : Nat) : hostMems (enterForce s m t).host = hostMems s.host := by simp [enterForce]
@[simp] theorem parkNow_mems (s : State) (k : Nat) : hostMems (parkNow s k).host = hostMems s.host := by simp [parkNow]
@[simp] theorem loadEngines_mems (s : State) : hostMems (loadEngines s).host = hostMems s.host := by simp [loadEngines]
@[simp] theorem takeDefaults_mems (s : State) : hostMems (takeDefaults s).host = hostMems s.host := by simp [takeDefaults]
@[simp] theorem endForces_mems (s : State) (t : Nat) (which : Bool → Bool) : hostMems (endForces s t which).host = hostMems s.host := by simp [endForces]
@[simp] theorem holdStreams_mems (s : State) : hostMems (holdStreams s).host = hostMems s.host := by simp [holdStreams]
@[simp] theorem unholdStreams_mems (s : State) (t : Nat) : hostMems (unholdStreams s t).host = hostMems s.host := by simp [unholdStreams]
@[simp] theorem parkAll_mems (s : State) : hostMems (parkAll s).host = hostMems s.host := by simp [parkAll]

@[simp] theorem modeEffects_mems (s : State) (was : Mode) (ran : List Nat) (t : Nat) : hostMems (modeEffects s was ran t).host = hostMems s.host := by
  unfold modeEffects
  dsimp only
  repeat' split
  all_goals simp

@[simp] theorem ridgeConfig_mems (s : State) : hostMems (ridgeConfig s).host = hostMems s.host := by simp [ridgeConfig]

@[simp] theorem commitDeck_mems (s : State) : hostMems (commitDeck s).host = hostMems s.host := by
  unfold commitDeck
  split <;> simp

@[simp] theorem enterMode_mems (s : State) (new : Mode) (trigger t : Nat) : hostMems (enterMode s new trigger t).host = hostMems s.host := by simp [enterMode]

@[simp] theorem abandonCommit_mems (s : State) : hostMems (abandonCommit s).host = hostMems s.host := by
  unfold abandonCommit
  split <;> simp

@[simp] theorem forceMode'_mems (s : State) (new : Mode) (trigger : Nat) : hostMems (forceMode' s new trigger).host = hostMems s.host := by simp [forceMode']
@[simp] theorem stewardUp_mems (s : State) : hostMems (stewardUp s).host = hostMems s.host := by simp [stewardUp]

@[simp] theorem enterSafe_mems (s : State) : hostMems (enterSafe s).host = hostMems s.host := by
  unfold enterSafe
  dsimp only
  repeat' split
  all_goals simp

@[simp] theorem detailBytes_snd_mems (s : State) : hostMems (detailBytes s).2.host = hostMems s.host := by simp [detailBytes]
@[simp] theorem ridgeFault_mems (s : State) (f : FaultRep) : hostMems (ridgeFault s f).host = hostMems s.host := by simp [ridgeFault]
@[simp] theorem putCause_mems (s : State) : hostMems (putCause s).host = hostMems s.host := by simp [putCause]
@[simp] theorem latchRestart_mems (s : State) (kind cause isl origin : Nat) : hostMems (latchRestart s kind cause isl origin).host = hostMems s.host := by simp [latchRestart]
@[simp] theorem tellRestart_mems (s : State) (trigger : Nat) : hostMems (tellRestart s trigger).host = hostMems s.host := by simp [tellRestart]

@[simp] theorem warmStop_mems (s : State) : hostMems (warmStop s).host = hostMems s.host := by
  unfold warmStop
  dsimp only
  repeat' split
  all_goals simp

@[simp] theorem journalInspect_mems (s : State) : hostMems (journalInspect s).host = hostMems s.host := by simp [journalInspect]
@[simp] theorem clearAreas_mems (s : State) (keepAxes : Bool) : hostMems (clearAreas s keepAxes).host = hostMems s.host := by simp [clearAreas]
@[simp] theorem opRules_mems (s : State) (was : List (Nat × Nat)) : hostMems (opRules s was).host = hostMems s.host := by simp [opRules]

@[simp] theorem recorderFlush_mems (s : State) : hostMems (recorderFlush s).host = hostMems s.host := by
  unfold recorderFlush
  dsimp only
  repeat' split
  all_goals simp

@[simp] theorem bootDeck_mems (s : State) (bad : BitVec 2) : hostMems (bootDeck s bad).host = hostMems s.host := by
  unfold bootDeck
  split <;> simp

@[simp] theorem journalEra_snd_mems (s : State) : hostMems (journalEra s).2.host = hostMems s.host := by
  unfold journalEra
  split <;> simp

@[simp] theorem newHeader_mems (s : State) : hostMems (newHeader s).host = hostMems s.host := by simp [newHeader]
@[simp] theorem coldPocket_mems (s : State) (recOk : Bool) : hostMems (coldPocket s recOk).host = hostMems s.host := by simp [coldPocket]
@[simp] theorem planCheck_mems (s : State) : hostMems (planCheck s).host = hostMems s.host := by simp [planCheck]
@[simp] theorem tellLost_mems (s : State) : hostMems (tellLost s).host = hostMems s.host := by simp [tellLost]

@[simp] theorem tellRange_mems (s : State) (era : Nat) : hostMems (tellRange s era).host = hostMems s.host := by
  unfold tellRange
  split <;> simp

@[simp] theorem degrade_mems (s : State) : hostMems (degrade s).host = hostMems s.host := by simp [degrade]

@[simp] theorem relatch_mems (s : State) : hostMems (relatch s).host = hostMems s.host := by
  unfold relatch
  dsimp only
  repeat' split
  all_goals simp

@[simp] theorem islandsUp_mems (s : State) : hostMems (islandsUp s).host = hostMems s.host := by simp [islandsUp]
@[simp] theorem tilesLive_mems (s : State) : hostMems (tilesLive s).host = hostMems s.host := by simp [tilesLive]
@[simp] theorem answerDown_mems (s : State) : hostMems (answerDown s).host = hostMems s.host := by simp [answerDown]
@[simp] theorem stewardBack_mems (s : State) : hostMems (stewardBack s).host = hostMems s.host := by simp [stewardBack]
@[simp] theorem restartCauses_mems (s : State) : hostMems (restartCauses s).host = hostMems s.host := by simp [restartCauses]
@[simp] theorem bootGo_mems (s : State) : hostMems (bootGo s).host = hostMems s.host := by simp [bootGo]
@[simp] theorem bootTwin_mems (s : State) : hostMems (bootTwin s).host = hostMems s.host := by simp [bootTwin]
@[simp] theorem bootRest_mems (s : State) : hostMems (bootRest s).host = hostMems s.host := by simp [bootRest]
@[simp] theorem csxReturn_mems (s : State) : hostMems (csxReturn s).host = hostMems s.host := by simp [csxReturn]
@[simp] theorem fixDelta_mems (s : State) : hostMems (fixDelta s).host = hostMems s.host := by simp [fixDelta]
@[simp] theorem activeHears_mems (s : State) : hostMems (activeHears s).host = hostMems s.host := by simp [activeHears]

@[simp] theorem shiftT0_mems (s : State) : hostMems (shiftT0 s).host = hostMems s.host := by
  unfold shiftT0
  split <;> simp

@[simp] theorem standbyDefaults_mems (s : State) : hostMems (standbyDefaults s).host = hostMems s.host := by simp [standbyDefaults]
@[simp] theorem enterStandby_mems (s : State) (trigger : Nat) : hostMems (enterStandby s trigger).host = hostMems s.host := by simp [enterStandby]
@[simp] theorem bootStandby_mems (s : State) : hostMems (bootStandby s).host = hostMems s.host := by simp [bootStandby]
@[simp] theorem takeSnap_mems (s : State) (x : Snap) : hostMems (takeSnap s x).host = hostMems s.host := by simp [takeSnap]
@[simp] theorem dropMoves_mems (s : State) : hostMems (dropMoves s).host = hostMems s.host := by simp [dropMoves]
@[simp] theorem parkLeast_mems (s : State) : hostMems (parkLeast s).host = hostMems s.host := by simp [parkLeast]
@[simp] theorem takeOver_mems (s : State) (trigger cause : Nat) : hostMems (takeOver s trigger cause).host = hostMems s.host := by simp [takeOver]
@[simp] theorem atMilli_mems (s : State) : hostMems (atMilli s).host = hostMems s.host := by simp [atMilli]
@[simp] theorem drainPorts_mems (s : State) : hostMems (drainPorts s).host = hostMems s.host := by simp [drainPorts]
@[simp] theorem tick_mems (s : State) : hostMems (tick s).host = hostMems s.host := by simp [tick]

/-! ### Commands that enter a mode and keep the memories -/

@[simp] theorem execModeEntry_keepsMems (s : State) : KeepsMems s (execModeEntry s) := by
  unfold execModeEntry
  dsimp only
  repeat' split
  all_goals simp

@[simp] theorem execExchangeReturn_keepsMems (s : State) : KeepsMems s (execExchangeReturn s) := by
  unfold execExchangeReturn
  repeat' split
  all_goals simp

@[simp] theorem execWarmBootStart_keepsMems (s : State) : KeepsMems s (execWarmBootStart s) := by simp [execWarmBootStart]

@[simp] theorem execResumeGo_keepsMems (s : State) : KeepsMems s (execResumeGo s) := by
  unfold execResumeGo
  split <;> simp

@[simp] theorem execKeepEntry_keepsMems (s : State) : KeepsMems s (execKeepEntry s) := by simp [execKeepEntry]

@[simp] theorem execSeamHeartbeatReceive_keepsMems (lane : Fin 2) (t0 : DWord) (role : Fin 2) (mode : Fin 12) (st : Fin 6) (latched same : Bool) (rtt : Word)
    (s : State) : KeepsMems s (execSeamHeartbeatReceive lane t0 role mode st latched same rtt s) := by simp [execSeamHeartbeatReceive]

@[simp] theorem execSnapshotApplied_keepsMems (snap : Machine.Snap) (s : State) : KeepsMems s (execSnapshotApplied snap s) := by
  unfold execSnapshotApplied
  dsimp only
  repeat' split
  all_goals simp

@[simp] theorem execTakeover_keepsMems (s : State) : KeepsMems s (execTakeover s) := by simp [execTakeover]

@[simp] theorem execTwinSwapInstant_keepsMems (s : State) : KeepsMems s (execTwinSwapInstant s) := by
  unfold execTwinSwapInstant
  split <;> simp

@[simp] theorem execTwinSwapRelease_keepsMems (s : State) : KeepsMems s (execTwinSwapRelease s) := by
  unfold execTwinSwapRelease
  split <;> simp

@[simp] theorem execPairWaitExpiry_keepsMems (s : State) : KeepsMems s (execPairWaitExpiry s) := by
  unfold execPairWaitExpiry
  split <;> simp

@[simp] theorem execPermitReport_keepsMems (tile : Fin 4) (slots : List Nat) (s : State) : KeepsMems s (execPermitReport tile slots s) := by simp [execPermitReport]
@[simp] theorem execPermitEchoMissing_keepsMems (tile : Fin 4) (s : State) : KeepsMems s (execPermitEchoMissing tile s) := by simp [execPermitEchoMissing]
@[simp] theorem execCutTestDue_keepsMems (g : Fin 64) (s : State) : KeepsMems s (execCutTestDue g s) := by
  unfold execCutTestDue
  extract_lets over_ ks s1
  split
  · exact (keepsMems_next ..).mpr rfl
  · rw [keepsMems_next, ridgeFault_mems]
    exact congrArg hostMems (setRidge_host ..)

@[simp] theorem execEstopDemand_keepsMems (aLow bLow : Bool) (s : State) : KeepsMems s (execEstopDemand aLow bLow s) := by simp [execEstopDemand]
@[simp] theorem execEstopDiscrepancy_keepsMems (aHigh : Bool) (s : State) : KeepsMems s (execEstopDiscrepancy aHigh s) := by simp [execEstopDiscrepancy]
@[simp] theorem execErrinDemand_keepsMems (s : State) : KeepsMems s (execErrinDemand s) := by simp [execErrinDemand]
@[simp] theorem execRidgeWatchdog_keepsMems (wd : Fin 2) (s : State) : KeepsMems s (execRidgeWatchdog wd s) := by simp [execRidgeWatchdog]
@[simp] theorem execRidgeConfigCheck_keepsMems (crc : Word) (s : State) : KeepsMems s (execRidgeConfigCheck crc s) := by simp [execRidgeConfigCheck]

@[simp] theorem execRidgeFaultReport_keepsMems (s : State) : KeepsMems s (execRidgeFaultReport s) := by
  unfold execRidgeFaultReport
  split <;> simp

@[simp] theorem execRidgeHeartbeatLoss_keepsMems (s : State) : KeepsMems s (execRidgeHeartbeatLoss s) := by simp [execRidgeHeartbeatLoss]

/-! ### Canonical memories: what writes them, and what clears them -/

/-- Both memories are in canonical form. -/
def Canonical (m : Mem × Mem) : Prop := Memory.wf m.1 ∧ Memory.wf m.2

namespace Canonical

theorem clear : Canonical ([], []) := ⟨wf_nil, wf_nil⟩

theorem of_eq {m m' : Mem × Mem} (h : Canonical m) (e : m' = m) : Canonical m' := e ▸ h

theorem wf_foldl_mwrite {l : List (Nat × Byte)} {m : Mem} (h : Memory.wf m) : Memory.wf (l.foldl (fun m e => mwrite m e.1 e.2) m) :=
  List.foldlRecOn l _ h fun _ hb e _ => wf_mwrite hb e.1 e.2

section Writes

variable {s : State} (h : Canonical (hostMems s.host))
include h

theorem ringWrite (base : Nat) (idx : Half) (l : List Byte) : Canonical (hostMems (ringWrite s base idx l).host) := ⟨wf_foldl_mwrite h.1, h.2⟩

theorem bulkPut (off : Nat) (l : List Byte) : Canonical (hostMems (bulkPut s off l).host) := ⟨h.1, wf_mwrites l h.2 off⟩

theorem winWrite (via space o : Nat) (w : Word) : Canonical (hostMems (winWrite s via space o w).host) := by
  unfold Machine.winWrite
  split
  · exact h.of_eq (bar0Write_mems ..)
  · split
    · exact h
    · split
      · exact ⟨wf_mwrites _ h.1 o, h.2⟩
      · exact ⟨h.1, wf_mwrites _ h.2 o⟩

theorem thatchAnswer (r : Req) (bo bl : Nat) (toPos : Nat → Nat) (l : List (Nat × List Byte)) :
    Canonical (hostMems (thatchAnswer s r bo bl toPos l).host) :=
  (h.bulkPut ..).of_eq (finish_mems ..)

end Writes

theorem winWrites {s : State} (h : Canonical (hostMems s.host)) (via space n o : Nat) (l : List Byte) : Canonical (hostMems (winWrites s via space n o l).host) := by
  induction n generalizing s o l with
  | zero => exact h
  | succ n ih => exact ih (h.winWrite ..) ..

end Canonical

/-- A loss of power and a cold trigger clear the host's registers (R364). -/
@[simp] theorem powerBase_mems (s : State) (tick : Nat) : hostMems (powerBase s tick).host = ([], []) := by simp [powerBase]
@[simp] theorem coldRestart_mems (s : State) (cause isl origin trigger : Nat) : hostMems (coldRestart s cause isl origin trigger).host = ([], []) := by simp [coldRestart]
@[simp] theorem keepAgain_mems (s : State) (cause isl : Nat) : hostMems (keepAgain s cause isl).host = ([], []) := by simp [keepAgain]

/-- A warm restart keeps the memories unless it is carried out as a cold or keep one (R343), which clears them. -/
theorem Canonical.warmRestart {s : State} (h : Canonical (hostMems s.host)) (cause isl : Nat) : Canonical (hostMems (warmRestart s cause isl).host) := by
  unfold Machine.warmRestart
  repeat' split
  · exact h
  · exact clear.of_eq (coldRestart_mems ..)
  · exact clear.of_eq (coldRestart_mems ..)
  · exact clear.of_eq (keepAgain_mems ..)
  · exact h.of_eq (by simp)

theorem Canonical.hotRestart {s : State} (h : Canonical (hostMems s.host)) (cause isl : Nat) : Canonical (hostMems (hotRestart s cause isl).host) := by
  unfold Machine.hotRestart
  dsimp only
  split
  · exact h
  · split
    · exact h.warmRestart ..
    · exact h.of_eq (by simp)

theorem Canonical.faultRestart {s : State} (h : Canonical (hostMems s.host)) (isl cause : Nat) : Canonical (hostMems (faultRestart s isl cause).host) := by
  unfold Machine.faultRestart
  repeat' split
  · exact h.hotRestart ..
  · exact h.warmRestart ..
  · exact h.warmRestart ..
  · exact h

/-! ### Commands that write or clear the memories -/

/-- A command's outcome from canonical memories has canonical memories. -/
def KeepsCanonical (s : State) (o : Res) : Prop := ∀ t, o = .next t → Canonical (hostMems s.host) → Canonical (hostMems t.host)

theorem keepsCanonical_next {s t : State} (h : Canonical (hostMems s.host) → Canonical (hostMems t.host)) : KeepsCanonical s (.next t) := by
  rintro _ ⟨⟩
  exact h

theorem KeepsMems.keepsCanonical {s : State} {o : Res} (h : KeepsMems s o) : KeepsCanonical s o := fun t ht hs => hs.of_eq (h t ht)

theorem keepsCanonical_command {s : State} {r : Req} {op : Nat} {isC : Bool} {modes : List Mode} {len : Nat} {ok : Bool} {run : State → State}
    (h : Canonical (hostMems (beginCmd s r op).host) → Canonical (hostMems (run (beginCmd s r op)).host)) :
    KeepsCanonical s (.next (command s r op isC modes len ok run)) := by
  refine keepsCanonical_next fun hs => ?_
  unfold command
  dsimp only
  repeat' split
  case isFalse.isFalse.isFalse.isFalse.isFalse.isFalse.isFalse => exact h hs
  all_goals exact hs.of_eq (by simp)

@[simp] theorem execEvtClassesGet_keepsCanonical (r : Req) (s : State) : KeepsCanonical s (execEvtClassesGet r s) := by
  refine keepsCanonical_command fun hs => ?_
  split
  · exact hs.of_eq (finish_mems ..)
  · exact (hs.bulkPut ..).of_eq (finish_mems ..)

@[simp] theorem execAcqRead_keepsCanonical (r : Req) (s : State) : KeepsCanonical s (execAcqRead r s) := by
  refine keepsCanonical_command fun hs => ?_
  dsimp only
  repeat' split
  case h_2.isFalse.isFalse => exact (hs.bulkPut ..).of_eq (finish_mems ..)
  all_goals exact hs.of_eq (finish_mems ..)

@[simp] theorem execThatchQuery_keepsCanonical (r : Req) (s : State) : KeepsCanonical s (execThatchQuery r s) := by
  refine keepsCanonical_command fun hs => ?_
  split
  · exact hs.of_eq (finish_mems ..)
  · split
    · exact hs.of_eq (finish_mems ..)
    · extract_lets a b pos e l l1 l2 lap logs hit gone
      clear_value l gone
      split
      · split
        · exact hs.of_eq (finish_mems ..)
        · split
          · exact hs.of_eq (finish_mems ..)
          · exact hs.thatchAnswer ..
      · split
        · exact hs.of_eq (finish_mems ..)
        · exact hs.thatchAnswer ..

@[simp] theorem execBulkWrite_keepsCanonical (r : Req) (s : State) : KeepsCanonical s (execBulkWrite r s) := by
  refine keepsCanonical_command fun hs => ?_
  dsimp only
  repeat' split
  · exact hs.of_eq (finish_mems ..)
  · exact hs.of_eq (by simp)
  · have hmay := hs.of_eq (bulkMay_snd_mems (beginCmd s r 0x0004) (r.payload.drop 4).length)
    rw [finish_mems]
    exact ⟨hmay.1, wf_mwrites _ hmay.2 _⟩

@[simp] theorem execSpiTransfer_keepsCanonical (mosi : List Byte) (s : State) : KeepsCanonical s (execSpiTransfer mosi s) := by
  unfold execSpiTransfer
  split
  · exact keepsCanonical_next id
  · extract_lets bad cmd a space o dummy n
    split
    · exact keepsCanonical_next id
    · split
      · exact keepsCanonical_next id
      · split
        · split
          · exact keepsCanonical_next id
          · exact keepsCanonical_next fun hs => hs.winWrites ..
        · exact keepsCanonical_next fun hs => hs.of_eq (winReads_mems ..)

@[simp] theorem execRegisterWrite_keepsCanonical (bar : Fin 3) (off : BitVec 24) (w : Word) (s : State) : KeepsCanonical s (execRegisterWrite bar off w s) := by
  unfold execRegisterWrite
  split
  · exact keepsCanonical_next id
  · exact keepsCanonical_next fun hs => hs.winWrite ..

@[simp] theorem execResponseWrite_keepsCanonical (m : Fin 8) (s : State) : KeepsCanonical s (execResponseWrite m s) := by
  unfold execResponseWrite
  dsimp only
  repeat' split
  all_goals refine keepsCanonical_next fun hs => ?_
  case h_2.isFalse =>
    rw [rspCount_mems, setMbx_mems]
    exact hs.ringWrite ..
  all_goals exact hs.of_eq (by simp)

@[simp] theorem execLockstepMismatch_keepsCanonical (isl : Byte) (s : State) : KeepsCanonical s (execLockstepMismatch isl s) := by
  unfold execLockstepMismatch
  dsimp only
  repeat' split
  · exact keepsCanonical_next id
  · exact keepsCanonical_next fun hs => Canonical.faultRestart (hs.of_eq (by simp)) ..
  · exact keepsCanonical_next id

@[simp] theorem execHeartbeatTimeout_keepsCanonical (isl : Byte) (s : State) : KeepsCanonical s (execHeartbeatTimeout isl s) := by
  unfold execHeartbeatTimeout
  dsimp only
  repeat' split
  · exact keepsCanonical_next id
  · exact keepsCanonical_next fun hs => Canonical.faultRestart (hs.of_eq (by simp)) ..
  · exact keepsCanonical_next fun hs => Canonical.faultRestart (hs.of_eq (by simp)) ..
  · exact keepsCanonical_next id

@[simp] theorem execStewardWatchdog_keepsCanonical (s : State) : KeepsCanonical s (execStewardWatchdog s) := by
  unfold execStewardWatchdog
  split
  · exact keepsCanonical_next fun hs => hs.warmRestart ..
  · exact keepsCanonical_next id

@[simp] theorem execClockFault_keepsCanonical (isl : Byte) (s : State) : KeepsCanonical s (execClockFault isl s) := by
  unfold execClockFault
  dsimp only
  repeat' split
  · exact keepsCanonical_next id
  · exact keepsCanonical_next id
  · exact keepsCanonical_next fun hs => Canonical.faultRestart (hs.of_eq (by simp)) ..
  · exact keepsCanonical_next id

@[simp] theorem execHotRestartTimeout_keepsCanonical (isl : Byte) (s : State) : KeepsCanonical s (execHotRestartTimeout isl s) := by
  unfold execHotRestartTimeout
  repeat' split
  · exact keepsCanonical_next id
  · exact keepsCanonical_next fun hs => hs.warmRestart ..
  · exact keepsCanonical_next id

@[simp] theorem execBootEnd_keepsCanonical (degraded : Bool) (badSlots badBanks : BitVec 2) (recOk : Bool) (s : State) :
    KeepsCanonical s (execBootEnd degraded badSlots badBanks recOk s) := by
  unfold execBootEnd
  split
  · exact keepsCanonical_next id
  · split
    · split <;> exact keepsCanonical_next fun hs => hs.of_eq (by simp)
    · split
      · exact keepsCanonical_next id
      · extract_lets f s1 r vbat s2 era s3 s4 s5 s6 s7 s8 s9 runs
        have h1 : hostMems s1.host = hostMems s.host := by
          unfold s1
          split <;> simp
        split
        · exact keepsCanonical_next fun _ => Canonical.clear.of_eq (coldRestart_mems ..)
        · split
          · exact keepsCanonical_next fun _ => Canonical.clear.of_eq (coldRestart_mems ..)
          · split
            · exact keepsCanonical_next fun _ => Canonical.clear.of_eq (coldRestart_mems ..)
            · exact keepsCanonical_next fun hs => hs.of_eq (by simp [s9, s8, s7, s6, s5, s4, s3, s2, h1])

@[simp] theorem execPwrfailRecovered_keepsCanonical (s : State) : KeepsCanonical s (execPwrfailRecovered s) := by
  unfold execPwrfailRecovered
  split
  · exact keepsCanonical_next id
  · exact keepsCanonical_next fun hs => Canonical.warmRestart (hs.of_eq (by simp)) ..

@[simp] theorem execPowerReturn_keepsCanonical (ticks : BitVec 48) (latchOk : Bool) (s : State) : KeepsCanonical s (execPowerReturn ticks latchOk s) := by
  unfold execPowerReturn
  dsimp only
  split
  · exact keepsCanonical_next id
  · exact keepsCanonical_next fun _ => Canonical.clear.of_eq (by simp)

@[simp] theorem execResetPin_keepsCanonical (s : State) : KeepsCanonical s (execResetPin s) := by
  unfold execResetPin
  split
  · exact keepsCanonical_next id
  · exact keepsCanonical_next fun _ => Canonical.clear.of_eq (coldRestart_mems ..)

@[simp] theorem execDeviceRestartTrigger_keepsCanonical (s : State) : KeepsCanonical s (execDeviceRestartTrigger s) := by
  unfold execDeviceRestartTrigger
  dsimp only
  repeat' split
  · exact keepsCanonical_next id
  · exact keepsCanonical_next id
  · exact keepsCanonical_next fun hs => Canonical.hotRestart (hs.of_eq (by simp)) ..
  · exact keepsCanonical_next fun hs => Canonical.warmRestart (hs.of_eq (by simp)) ..
  · exact keepsCanonical_next fun _ => Canonical.clear.of_eq (coldRestart_mems ..)

@[simp] theorem execFirmwareSwapRestart_keepsCanonical (s : State) : KeepsCanonical s (execFirmwareSwapRestart s) := by
  unfold execFirmwareSwapRestart
  repeat' split
  · exact keepsCanonical_next id
  · exact keepsCanonical_next fun hs => Canonical.warmRestart (hs.of_eq (by simp)) ..
  · exact keepsCanonical_next id

@[simp] theorem execStewardReadyTimeout_keepsCanonical (s : State) : KeepsCanonical s (execStewardReadyTimeout s) := by
  unfold execStewardReadyTimeout
  dsimp only
  split
  · exact keepsCanonical_next id
  · exact keepsCanonical_next fun hs => (hs.of_eq (by simp)).warmRestart ..

/-! ### The statement -/

/-- The commands that may write or clear a window memory. -/
def mayChangeMems (c : Instr) : Bool :=
  match c with
  | .evtClassesGet .. | .acqRead .. | .thatchQuery .. | .bulkWrite .. | .spiTransfer .. | .registerWrite .. | .responseWrite .. | .lockstepMismatch .. | .heartbeatTimeout ..
  | .stewardWatchdog | .clockFault .. | .hotRestartTimeout .. | .bootEnd .. | .pwrfailRecovered | .powerReturn .. | .resetPin | .deviceRestartTrigger | .firmwareSwapRestart
  | .stewardReadyTimeout => true
  | _ => false

/-- Any other command leaves them, by its own rule above or, for an engine's instruction, by the rule of the operation it is made of. -/
theorem exec_keepsMems {c : Instr} (hc : mayChangeMems c = false) (s : State) : KeepsMems s (exec c s) := by
  cases c <;> cases hc <;> dsimp only [exec] <;> simp [execReleaseEnd, execAcqPoolSwitchEnd, execBlLd, execBlLdn, execBlAnd, execBlAndn, execBlOr, execBlOrn, execBlXor, execBlXorn, execBlLdg,
    execBlAndg, execBlOrng, execBlSt, execBlStn, execBlSet, execBlRst, execBlNop, execBlNot, execBlLdt, execBlLdf, execBlLdfs, execBlLdqd,
    execBlAndOpen, execBlOrOpen, execBlXorOpen, execBlPsh, execBlClose, execBlPop, execBlLdw, execBlAdd, execBlSub, execBlAndw, execBlOrw, execBlXorw,
    execBlStw, execBlLdi, execBlLdhi, execBlSwap, execBlMovab, execBlLdq, execBlLdtr, execBlLds, execBlCls, execBlNeg, execBlAddi, execBlNotw,
    execBlShl, execBlShr, execBlAsr, execBlAddf, execBlSubf, execBlMulf, execBlItof, execBlAbsf, execBlNegf, execBlEq, execBlNe, execBlLt, execBlLe,
    execBlGt, execBlGe, execBlLtu, execBlGeu, execBlLtf, execBlLef, execBlGtf, execBlGef, execBlEqf, execBlJmp, execBlJc, execBlJcn, execBlCall,
    execBlCallc, execBlRet, execBlRetc, execBlTon, execBlTof, execBlTp, execBlRTrig, execBlFTrig, execBlEnd, execBlEndc, execPermitEdge,
    execErrinRelease, execStewardHeartbeat, execRefclkReturn, execLeMpy, execLeMac, execLeMsu, execLeMacl, execLeMsul, execLeMpyl, execLeMove,
    execLeDmove, execLeMov, execLeAdd, execLeSub, execLeAddi, execLeAnd, execLeOr, execLeXor, execLeShl, execLeAsr, execLeLsr, execLeNeg, execLeAbs,
    execLeMin, execLeMax, execLeMuli, execLeClr, execLeLda, execLeSta, execLeAdda, execLeSuba, execLeAshr, execLeAddaa, execLeMovaa, execLeCmpa,
    execLeStg, execLeLdg]

theorem exec_keepsCanonical (c : Instr) (s : State) : KeepsCanonical s (exec c s) := by
  by_cases hc : mayChangeMems c = true
  · cases c <;> cases hc <;> dsimp only [exec] <;> simp
  · exact (exec_keepsMems (Bool.eq_false_iff.mpr hc) s).keepsCanonical

/-- Settles O57: an empty queue lets a period pass, which leaves the memories, and every command has a rule that keeps their form. -/
theorem windowMemoriesStayCanonical : Obligations.WindowMemoriesStayCanonical := by
  unfold Obligations.WindowMemoriesStayCanonical
  intro s t hrings hbulk hstep
  suffices Canonical (hostMems t.host) from this
  cases hp : s.pending with
  | nil =>
    rw [step_of_empty hp] at hstep
    cases hstep
    exact (tick_mems s).symm ▸ ⟨hrings, hbulk⟩
  | cons c rest =>
    have hexec : exec c { s with pending := rest } = .next t := by
      rw [← hstep, step, hp]
    exact exec_keepsCanonical c { s with pending := rest } t hexec ⟨hrings, hbulk⟩

end Sys2Proof.Proofs
end
